-- ==== Sys2Proof/Word.lean ====
section
/-! DEFINITION. The smallest addressable unit of the 40-bit address space. -/

namespace Sys2Proof

/-- One byte (R12, R22). -/
abbrev Byte := BitVec 8

end Sys2Proof
end

