-- ==== Sys2Proof/Syntax.lean ====
section
/-! DEFINITION. The commands of the block: one constructor per row of the operation table, with the row's operands.
A register write carries its requester (an endpoint, R34), a token arrival carries the token, an event of the outside
world carries what the outside world supplies. -/

namespace Sys2Proof

/-- The stamp of a committed output (R56): flow, sequence number and output index. -/
structure Stamp where
  flow : Nat
  seq : Nat
  index : Nat
  deriving DecidableEq, Repr

/-- A token on the fabric: its endpoint (R125), tag (R126), data, the endpoint that sent it, the stamp of a committed
output, and, for an unflowed output of a task, its instance, generation and output index (R102). -/
structure Token where
  dest : Nat
  tag : Nat
  data : Nat
  src : Nat
  stamp : Option Stamp
  task : Option (Nat × Nat × Nat)
  deriving DecidableEq, Repr

/-- A word on its way to a queue (R163): queue, priority, data, the endpoint that sent it, its stamp, and its task as of a
token. -/
structure QWord where
  queue : Nat
  prio : Nat
  data : Nat
  src : Nat
  stamp : Option Stamp
  task : Option (Nat × Nat × Nat)
  deriving DecidableEq, Repr

/-- What a band stream's measurements at a millisecond mark give (R176, R177, R181): the stream ID, the samples since the
last mark, DELAY in 1/256 tick, the level fraction in 2^-16, and the samples blanked. -/
structure MarkIn where
  stream : Nat
  samples : Nat
  delay : Nat
  level : Nat
  blanked : Nat
  deriving DecidableEq, Repr

/-- What the correlators of a channel bring to an integration boundary: the I and Q sums of VE, E, P, L, VL, PD and NF
(R192), whether a sample was blanked, the one secondary phase (on L2C: the one alignment of CL) that agrees with the last
prompts, if exactly one does (R198), and whether a data symbol ended. -/
structure BoundIn where
  corr : List Int
  blanked : Bool
  sec : Option Nat
  edge : Bool
  deriving DecidableEq, Repr

/-- What a search finds for one number (R212), in the units of R214. -/
structure SearchIn where
  code : Nat
  dopp : Nat
  metric : Nat
  second : Nat
  cn0 : Nat
  deriving DecidableEq, Repr

/-- A navigation unit as decoded (R246 to R250): KIND, VERDICT, its bits, the payload, the data polarity it resolves if any
(true: inverted), the transmit time in ms at the start of the code period after the channel's next boundary if it
carries time, and the broadcast offset it carries if any: ps now and ps per second times 2^20. -/
structure NavIn where
  kind : Nat
  verdict : Nat
  bits : Nat
  payload : List Byte
  polarity : Option Bool
  tow : Option Nat
  isb : Option (Int × Int)
  deriving DecidableEq, Repr


/-- A CAN frame on the bus (R447): format, kind, identifier, data length code and data bytes. -/
structure CanFrame where
  ide : Bool
  rtr : Bool
  fdf : Bool
  brs : Bool
  esi : Bool
  id : Nat
  dlc : Nat
  data : List Byte
  deriving DecidableEq, Repr

/-- How an attempt to send ends (R460, R462): sent and acknowledged, arbitration lost, no acknowledgement, a clash error,
another error. -/
inductive CanEnd where
  | sent | lost | noAck | clash | error
  deriving DecidableEq, Repr

/-- A protocol error or exception at a controller, by the counting rule of ISO 11898-1 it falls under (R449): an error as a
transmitter (TEC + 8), a transmitter's error that the standard exempts (a stuff error during arbitration, a missing
acknowledgement while error passive), an error as a receiver (REC + 1), a dominant bit after a receiver's error flag
(REC + 8), a bit error while sending a flag as transmitter or receiver (+ 8), a recessive res bit in an FD frame (R447). -/
inductive CanErr where
  | tx | txExempt | rx | rxFlag | flagTx | flagRx | resBit
  deriving DecidableEq, Repr

/-- A target, setpoint or measured value for a slot: by token, or by a requester's register write (R402). -/
inductive SlotIn where
  | token (t : Token)
  | write (req k value : Nat)
  deriving DecidableEq, Repr

/-- A Bexlink message (R478, R479), its header fields and its body. -/
structure BxlMsg where
  kind : Nat
  prio : Nat
  src : Nat
  dst : Nat
  epoch : Nat
  num : Nat
  body : List Byte
  deriving DecidableEq, Repr


/-- A Scorebook command (R549): by token, or by a requester's write of SCB_CMD. -/
inductive ScbIn where
  | token (t : Token)
  | write (req value : Nat)
  deriving DecidableEq, Repr

/-- What the solver of local RTK finds for an epoch (R276 to R280): the bank's SNAP_NUM, t_k, the best solution it formed
(0 none, 1 single point, 2 DGNSS, 3 one with ambiguities), satellites, latitude and longitude in binary64, height in mm,
SIG_H and SIG_V in mm, velocity in mm/s, heading, pitch and SIG_HEAD in 0.01°, whether a heading was found whose baseline
passes the length test, RATIO × 100, P_BOOT in binary64, BUDGET_HIT, the age in ms of the base epoch used, if there is one,
and its station. -/
structure RtkIn where
  num : Nat
  epoch : Nat
  best : Nat
  nsat : Nat
  lat : Nat
  lon : Nat
  height : Int
  sigH : Nat
  sigV : Nat
  velE : Int
  velN : Int
  velU : Int
  heading : Nat
  pitch : Int
  sigHead : Nat
  headOk : Bool
  ratio : Nat
  pBoot : Nat
  budget : Bool
  age : Option Nat
  baseId : Nat
  deriving DecidableEq, Repr

/-- What the central solve finds for a robot's epoch (R285 to R287): the best solution, satellites, east, north and up in
mm, SIG_H and SIG_V in mm, velocity in mm/s, RATIO × 100, P_BOOT in binary64, BUDGET_HIT, whether the STILL hint was used. -/
structure CofIn where
  best : Nat
  nsat : Nat
  east : Int
  north : Int
  up : Int
  sigH : Nat
  sigV : Nat
  velE : Int
  velN : Int
  velU : Int
  ratio : Nat
  pBoot : Nat
  budget : Bool
  still : Bool
  deriving DecidableEq, Repr

/-- The commands and events of the operation table: one constructor per row. -/
inductive Instr where
  /-- REGISTER_WRITE (R14): A write to a register that has no row of its own sets its fields by their access codes, subject to the lock, reserved-encoding and half-word rules. -/
  | registerWrite (req : Nat) (addr : Nat) (size : Nat) (value : Nat)
  /-- UNLOCK (R34): A write of 1 to PREFIX_LOCK.UNLOCK clears LOCKED when the requester is REF, and is refused with NOT_OWNER from any other requester. -/
  | unlock (req : Nat) (isl : Nat) (value : Nat)
  /-- LOCKED (R34): A write of 1 to PREFIX_LOCK.LOCKED locks every RWL field of the island. -/
  | locked (req : Nat) (isl : Nat) (value : Nat)
  /-- REFUSE_CAPTURE_CLEAR (R34): A write of 1 to REFUSE_INFO.VALID clears the capture and COUNT and arms the next capture. -/
  | refuseCaptureClear (req : Nat) (isl : Nat) (value : Nat)
  /-- PSTATE_REQUEST (R32): A write of PSTATE.REQ asks for OFF, IDLE with gating allowed, or ON, and is refused where the island may not enter that state. -/
  | pstateRequest (req : Nat) (isl : Nat) (value : Nat)
  /-- ISLAND_GATE (R30): An island that has stayed IDLE for GATE_DELAY enters GATED. -/
  | islandGate (isl : Nat)
  /-- ISLAND_WAKE_DONE (R31): A woken island reaches ON from GATED or OFF and serves the tokens and accesses held for it. -/
  | islandWakeDone (isl : Nat)
  /-- REFIN_LOST (R27): TIM detects loss of REFIN, SREF runs on from the last control word, and time quality becomes REFLOST. -/
  | refinLost
  /-- REFIN_RETURN (R302): REFIN returns and the time state goes back to the state it left, with LOCKING and LOCKED returning as HOLDOVER. -/
  | refinReturn
  /-- JOURNAL_WRITE_DONE (R47): An item record and its retention entry become valid in the journal (and mirrored in a stack), so the item is accepted, acknowledged and queued for delivery. -/
  | journalWriteDone
  /-- MRAM_DEVICE_FAIL (R47): A journal write to one MRAM copy fails, MEM marks that device failed, refuses the item with BUSY and continues on the surviving copy, or resets the module if both have failed. -/
  | mramDeviceFail (dev : Nat) (addr : Nat) (status : Nat)
  /-- COMMIT_RECORD_VALID (R55): A commit record's CHECK becomes valid, which releases the outbox outputs in order, advances the flow and frees held queue words. -/
  | commitRecordValid
  /-- OUTPUT_CONFIRMED (R56): A destination confirms a committed output, and RELEASED is raised to the number of leading outputs confirmed. -/
  | outputConfirmed (flow : Nat) (seq : Nat) (index : Nat) (status : Nat)
  /-- ISLAND_FAULT_TRAP (R62): A parity or ECC trap reaches REF, which declares the island failed, fences it and has the Dugout restart its items. -/
  | islandFaultTrap (isl : Nat)
  /-- HEARTBEAT_MISSED (R62): The third consecutive 1 µs heartbeat of an island is missed and REF declares the island failed. -/
  | heartbeatMissed (isl : Nat)
  /-- FAULT_RESET (R539): A fault in SYS, PWR, REF, TIM, DUG, QUE or MEM, or a lockstep mismatch, makes REF write the last-breath cell and reset the module. -/
  | faultReset (cause : Nat) (isl : Nat)
  /-- INTEGER_REGISTER (R87): An integer register operation writes rd from g[ra] and g[rb]. -/
  | integerRegister (e : Nat) (w : BitVec 32)
  /-- INTEGER_IMMEDIATE (R89): An integer immediate operation writes rd from g[ra] and the immediate. -/
  | integerImmediate (e : Nat) (w : BitVec 32)
  /-- LUP (R85): LUP loads the shifted sign-extended immediate into rd. -/
  | lup (e : Nat) (w : BitVec 32)
  /-- AUP (R85): AUP adds the shifted sign-extended immediate to PC into rd. -/
  | aup (e : Nat) (w : BitVec 32)
  /-- INTEGER_LOAD (R89): An integer load issues a read of memory at g[ra] + imm into rd, checked against windows and alignment. -/
  | integerLoad (e : Nat) (w : BitVec 32)
  /-- INTEGER_STORE (R89): An integer store posts a write of the low bytes of g[rs] to memory. -/
  | integerStore (e : Nat) (w : BitVec 32)
  /-- ATOMIC_MEMORY_OPERATION (R90): An atomic memory operation performs swap, add, and, or or compare-and-swap indivisibly on an 8-byte word. -/
  | atomicMemoryOperation (e : Nat) (w : BitVec 32)
  /-- FLOATING_LOAD (R89): FLW or FLD loads an f register from memory. -/
  | floatingLoad (e : Nat) (w : BitVec 32)
  /-- FLOATING_STORE (R89): FSW or FSD stores an f register to memory. -/
  | floatingStore (e : Nat) (w : BitVec 32)
  /-- CONDITIONAL_BRANCH (R89): A conditional branch compares g[ra] with g[rb] and changes PC when the condition holds. -/
  | conditionalBranch (e : Nat) (w : BitVec 32)
  /-- JAL (R85): JAL links and jumps PC-relative. -/
  | jal (e : Nat) (w : BitVec 32)
  /-- JALR (R85): JALR links and jumps to g[ra] + imm. -/
  | jalr (e : Nat) (w : BitVec 32)
  /-- FLOATING_OPERATE (R92): A floating operate instruction computes an IEEE 754 result, comparison, class or conversion. -/
  | floatingOperate (e : Nat) (w : BitVec 32)
  /-- FUSED_MULTIPLY_ADD (R93): A fused multiply-add computes with one rounding. -/
  | fusedMultiplyAdd (e : Nat) (w : BitVec 32)
  /-- VECTOR_OPERATE (R94): A vector operation acts lane by lane on v registers. -/
  | vectorOperate (e : Nat) (w : BitVec 32)
  /-- VLD (R95): VLD loads 32 bytes into a v register. -/
  | vld (e : Nat) (w : BitVec 32)
  /-- VST (R95): VST stores a v register to 32 bytes of memory. -/
  | vst (e : Nat) (w : BitVec 32)
  /-- MEMORY_REFUSAL (R83): A refusal returned by a remote target for a load or store raises the deferred ACCESS trap. -/
  | memoryRefusal (e : Nat)
  /-- ECC_UNCORRECTABLE (R82): An uncorrectable ECC error on a load or fetch ends the activation without commit and reports a fault of the memory's island to REF. -/
  | eccUncorrectable (e : Nat) (isl : Nat)
  /-- TAKE (R97): TAKE moves the data of an operand slot into rd and empties the slot. -/
  | take (e : Nat) (w : BitVec 32)
  /-- TAGK (R97): TAGK reads the tag and full flag of an operand slot. -/
  | tagk (e : Nat) (w : BitVec 32)
  /-- EMIT (R98): EMIT adds a token output to the outbox, or with D sends it at once in an unflowed task. -/
  | emit (e : Nat) (w : BitVec 32)
  /-- SENDQ (R98): SENDQ adds a queue word output to the outbox, or with D sends it at once in an unflowed task. -/
  | sendq (e : Nat) (w : BitVec 32)
  /-- RECVQ (R103): RECVQ reads the highest-priority word of a queue, or with W waits when the queue is empty. -/
  | recvq (e : Nat) (w : BitVec 32)
  /-- SPAWN (R106): SPAWN asks the Dugout to reserve a new instance from a template and adds the entry that releases it to the outbox. -/
  | spawn (e : Nat) (w : BitVec 32)
  /-- CANCEL (R107): CANCEL asks the Dugout to cancel an instance of a given generation. -/
  | cancel (e : Nat) (w : BitVec 32)
  /-- DUGOUT_ANSWER (R107): The Dugout's answer to a SPAWN or CANCEL reaches the stalled context and is written to rd. -/
  | dugoutAnswer (e : Nat) (c : Nat)
  /-- COMMIT (R99): COMMIT releases the outbox of an unflowed task and the activation continues. -/
  | commit (e : Nat) (w : BitVec 32)
  /-- COMMIT_E (R100): COMMIT.E releases the outbox, with a journal commit record for a flow-bound task, and ends the activation. -/
  | commitE (e : Nat) (w : BitVec 32)
  /-- YIELD (R99): YIELD releases the outbox, ends the activation and returns the instance to wait for its next operand set or item. -/
  | yield (e : Nat) (w : BitVec 32)
  /-- SNAP (R108): SNAP sends a software Snap request to GOB for a device time. -/
  | snap (e : Nat) (w : BitVec 32)
  /-- STOP (R109): The STOP instruction raises the Whistle stop with a reason, unheld and unordered. -/
  | stop (e : Nat) (w : BitVec 32)
  /-- MTO (R97): MTO copies g[ra] into an o register. -/
  | mto (e : Nat) (w : BitVec 32)
  /-- MFO (R97): MFO copies an o register into rd. -/
  | mfo (e : Nat) (w : BitVec 32)
  /-- ABORT (R114): ABORT discards the outbox, returns held words, frees the context and advances a flow with a cancelled record. -/
  | abort (e : Nat) (w : BitVec 32)
  /-- MFC (R110): MFC reads a control register into g[rd]. -/
  | mfc (e : Nat) (w : BitVec 32)
  /-- MTC (R110): MTC writes a control register from g[ra]. -/
  | mtc (e : Nat) (w : BitVec 32)
  /-- SYNC_M (R79): SYNC.M completes when every earlier load has returned and every earlier store is acknowledged. -/
  | syncM (e : Nat) (w : BitVec 32)
  /-- SYNC_I (R80): SYNC.I invalidates the engine's instruction cache. -/
  | syncI (e : Nat) (w : BitVec 32)
  /-- ATOM_B (R116): ATOM.B opens an atomic section in which the context cannot be preempted. -/
  | atomB (e : Nat) (w : BitVec 32)
  /-- ATOM_E (R116): ATOM.E closes an atomic section. -/
  | atomE (e : Nat) (w : BitVec 32)
  /-- ATOMIC_LIMIT (R116): An atomic section reaches 64 instructions or 296 engine cycles, ends and raises the ATOMIC trap. -/
  | atomicLimit (e : Nat)
  /-- TRET (R113): TRET returns from the trap handler to TRAP_PC in task mode. -/
  | tret (e : Nat) (w : BitVec 32)
  /-- BRK (R110): BRK raises the BREAK trap. -/
  | brk (e : Nat) (w : BitVec 32)
  /-- DVFS_REQUEST (R120): A write of ENG_DVFS.REQ steps the engine's clock down at once or starts raising the voltage for a step up. -/
  | dvfsRequest (req : Nat) (e : Nat) (value : Nat)
  /-- DVFS_STEP_DONE (R120): A voltage step up completes, the clock changes, and any later request takes effect. -/
  | dvfsStepDone (e : Nat)
  /-- DISPATCH (R145): The Dugout picks a READY instance and an eligible engine and hands the activation to an EMPTY context. -/
  | dispatch
  /-- COMMIT_CONFIRM (R68): Confirmation of a handed-over commit reaches the engine and the COMMITTING context becomes EMPTY. -/
  | commitConfirm (e : Nat) (c : Nat)
  /-- OPERAND_TOKEN (R138): A token at DUG:0x000 is checked and stored in its instance's slot, possibly completing an operand set or decrementing a dependence count. -/
  | operandToken (t : Token)
  /-- FLOW_INTAKE (R158): A token at DUG:0x001 is offered as an item of the named flow and written as a journal item record. -/
  | flowIntake (t : Token)
  /-- FLOW_ITEM_DELIVERY (R157): The Dugout delivers a flow's next item into ITEM_SLOT of its COLLECTING instance once its predecessor is served. -/
  | flowItemDelivery (flow : Nat)
  /-- DESC_WRITE (R133): DUG_DESC_CMD WRITE checks and stores a descriptor and arms the instance. -/
  | descWrite (req : Nat)
  /-- DESC_READ (R133): DUG_DESC_CMD READ copies a descriptor into the staging words. -/
  | descRead (req : Nat)
  /-- DESC_DELETE (R133): DUG_DESC_CMD DELETE frees an entry and the tokens held for it. -/
  | descDelete (req : Nat)
  /-- DESC_CANCEL (R133): DUG_DESC_CMD CANCEL cancels the selected instance as the CANCEL instruction does. -/
  | descCancel (req : Nat)
  /-- DESC_REARM (R133): DUG_DESC_CMD REARM reloads COUNT and returns a DONE instance to COLLECTING or READY. -/
  | descRearm (req : Nat)
  /-- SPILL_REFILL_BATCH (R151): A batch of up to 32 spilled tokens returns on die and is matched again. -/
  | spillRefillBatch
  /-- DUGOUT_STALL (R154): The store is full with tokens spilled and no dispatch has started for TICKS, so the Dugout sends a notice and stages a record. -/
  | dugoutStall
  /-- QUEUE_WORD (R163): A word arrives at a queue from SENDQ or an island producer and is stored, displaced, refused or handed to a waiting context. -/
  | queueWord (q : QWord)
  /-- QUEUE_PUSH (R163): A write of QUE_Qn_PUSH places one word in the queue at PUSH_PRIO. -/
  | queuePush (req : Nat) (n : Nat) (value : Nat)
  /-- QUEUE_CONFIG (R162): A write of QUE_Qn_CFG enables, disables or reconfigures a queue under the depth and pool checks. -/
  | queueConfig (req : Nat) (n : Nat) (value : Nat)
  /-- STALE_CONFIG (R170): A write of QUE_Qn_STALE starts, stops or retunes the stale-tail timer. -/
  | staleConfig (req : Nat) (n : Nat) (value : Nat)
  /-- STALE_TAIL (R170): The stale-tail timer reaches TICKS with words present and QUE sends a stale notice and restarts the timer. -/
  | staleTail (n : Nat)
  /-- MILLISECOND_MARK (R176): Every 100,000th SREF edge TIM marks a millisecond, latches device time and each sample port checks its rate and alignment. -/
  | millisecondMark (ms : List MarkIn)
  /-- STREAM_CONFIG (R178): A write of SMPn_Sg_CFG enables, disables or reconfigures a band stream under its busy checks. -/
  | streamConfig (req : Nat) (p : Nat) (g : Nat) (value : Nat)
  /-- BLANK_INPUT (R180): SPn_BLANK changes level and the port starts or stops replacing samples with 0. -/
  | blankInput (p : Nat) (level : Bool)
  /-- SAMPLE_OVERRUN (R179): A stream buffer overflows, setting OVERRUN and reporting a fault of the SMP island. -/
  | sampleOverrun (p : Nat) (g : Nat)
  /-- SPI_TRANSACTION (R182): A front-end SPI transaction arrives as a token or SMPn_SPI_TX write and enters the 16-entry FIFO. -/
  | spiTransaction (t : Token)
  /-- SPI_TRANSACTION_DONE (R182): An SPI transaction completes and, for READ, a notice with the received bits is sent. -/
  | spiTransactionDone (p : Nat) (miso : Nat)
  /-- CHANNEL_ENABLE (R189): Channel command ENABLE moves a channel from OFF to IDLE. -/
  | channelEnable (req : Nat) (c : Nat)
  /-- CHANNEL_DISABLE (R189): Channel command DISABLE moves a channel to OFF. -/
  | channelDisable (req : Nat) (c : Nat)
  /-- CHANNEL_START (R190): Channel command START checks the configuration and starts PULLIN at the propagated code phase and Doppler. -/
  | channelStart (req : Nat) (c : Nat)
  /-- CHANNEL_STOP (R189): Channel command STOP returns the channel to IDLE. -/
  | channelStop (req : Nat) (c : Nat)
  /-- VECTOR_ON (R206): Channel command VECTOR_ON moves a TRACK channel to VECTOR at its next boundary. -/
  | vectorOn (req : Nat) (c : Nat)
  /-- VECTOR_OFF (R207): Channel command VECTOR_OFF returns a VECTOR channel to TRACK. -/
  | vectorOff (req : Nat) (c : Nat)
  /-- CHANNEL_LOOP_WRITE (R190): A write of GBB_CH_LOOP outside OFF and IDLE is checked as START checks and refused if it fails. -/
  | channelLoopWrite (req : Nat) (c : Nat) (value : Nat)
  /-- INTEGRATION_BOUNDARY (R194): A channel reaches an integration boundary, computes discriminators and filters, sets its NCOs, forms a dump and decides lock, loss and synchronisation. -/
  | integrationBoundary (c : Nat) (b : BoundIn)
  /-- PULLIN_FAIL (R188): A channel spends 2,000 ms in PULLIN without lock and returns to IDLE. -/
  | pullinFail (c : Nat)
  /-- SYNC_FAIL (R188): A channel spends 6,000 ms in SYNC without synchronisation and returns to IDLE. -/
  | syncFail (c : Nat)
  /-- COAST_EXPIRY (R188): COAST_MS runs out and the channel starts a reacquisition search or returns to IDLE. -/
  | coastExpiry (c : Nat)
  /-- FALLBACK (R207): No vector entry has applied for VEC_TIMEOUT_MS and the channel falls back to TRACK. -/
  | fallback (c : Nat)
  /-- VECTOR_UPDATE (R204): A vector update token at GBB:0x020 is read and checked whole. -/
  | vectorUpdate (t : Token)
  /-- VECTOR_APPLY (R205): At APPLY_TIME the update's DOPP and CODE_ADJ take effect in every VECTOR channel together and a notice is sent. -/
  | vectorApply
  /-- SEARCH_COMMAND (R208): A searcher command token is queued on S0, S1 or the less busy searcher. -/
  | searchCommand (t : Token)
  /-- SEARCH_CAPTURE_START (R211): A searcher takes its next command, checks it and begins capture at START_TIME. -/
  | searchCaptureStart (k : Nat)
  /-- SEARCH_DONE (R214): A search completes, found numbers are handed over, the result record is written and the notice sent. -/
  | searchDone (k : Nat) (ms : List SearchIn)
  /-- SEARCH_CANCEL (R216): A cancel token at GBB:0x013 removes or stops a searcher command. -/
  | searchCancel (t : Token)
  /-- SNAP_SOFT_REQUEST (R228): A write of GOB_SOFT.GO requests a software Snap at GOB_SOFT_TIME. -/
  | snapSoftRequest (req : Nat) (value : Nat)
  /-- SNAP_STACK_REQUEST (R229): A write of GOB_SOFT.STACK with GO on the Captain requests a stack-wide Snap. -/
  | snapStackRequest (req : Nat) (value : Nat)
  /-- SNAP_PERIOD_CONFIG (R226): A write of GOB_CTRL, GOB_PERIOD or GOB_PHASE sets the periodic target afresh. -/
  | snapPeriodConfig (req : Nat) (addr : Nat) (value : Nat)
  /-- SNAP_PERIODIC (R226): Device time reaches the periodic target and a periodic Snap is armed at that edge. -/
  | snapPeriodic
  /-- SNAP_EDGE (R222): At a Snap edge every contributing island latches its values and GOB starts filling a bank. -/
  | snapEdge
  /-- SNAP_FILL_DONE (R236): A bank fill completes, SNAP_END and COMPLETE are written and the completion notice is sent. -/
  | snapFillDone
  /-- BANK_HOLD (R233): A write of GOB_HOLD holds or releases one Snap bank. -/
  | bankHold (req : Nat) (value : Nat)
  /-- NAV_UNIT_DECODED (R249): GOB finishes a navigation unit, checks it and writes a ring entry with its verdict. -/
  | navUnitDecoded (c : Nat) (u : NavIn)
  /-- BCAST_EXPIRY (R253): No source unit for a system's broadcast offset has passed for 7,200 s and BCAST_VALID clears. -/
  | bcastExpiry (y : Nat)
  /-- POS_COMMAND (R256): A command token at POS:0x000 is queued for the search units. -/
  | posCommand (t : Token)
  /-- POS_COMMAND_START (R258): A free search unit takes the queued command of highest class, checks it and begins decomposition and search. -/
  | posCommandStart (u : Nat)
  /-- POS_SEARCH_DONE (R263): A search ends, the candidates and header are written and the completion notice is sent. -/
  | posSearchDone (u : Nat)
  /-- POS_DEADLINE (R261): Device time reaches a command's DEADLINE and the search stops at the next node boundary. -/
  | posDeadline (u : Nat)
  /-- POS_CANCEL (R264): A cancel token at POS:0x001 removes or stops a command. -/
  | posCancel (t : Token)
  /-- LIBRARY_START (R269): The positioning library reads its configuration record and starts its modes, or starts in no mode when the record is refused. -/
  | libraryStart (e : Nat) (addr : Nat) (ring : Nat) (x : Int) (y : Int) (z : Int)
  /-- BASE_EPOCH (R275): For a base epoch the library codes RTCM frames into its output ring and emits the RTCM_OUT token. -/
  | baseEpoch (e : Nat) (buf : Nat) (msgs : List (Nat × List Byte))
  /-- CORRECTION_FRAME (R276): An RTCM 3.3 correction frame reaches the library and is taken or discarded. -/
  | correctionFrame (frame : List Byte)
  /-- RTK_SOLUTION (R279): Local RTK solves an epoch, writes a position report and emits the POS_OUT token. -/
  | rtkSolution (e : Nat) (x : RtkIn)
  /-- COF_PART (R284): A robot's compact observable frame part is served as an item of its flow and checked. -/
  | cofPart (e : Nat) (c : Nat) (r : Nat) (blk : Nat) (x : CofIn)
  /-- COF_EPOCH_LIMIT (R285): Device time reaches t_k + 60 ms and the robot epoch is solved with the parts present. -/
  | cofEpochLimit (e : Nat) (c : Nat) (r : Nat) (blk : Nat) (x : CofIn)
  /-- TIME_LATCH (R293): A write of TIM_LATCH.GO copies device time and the eight views into the TIM_LT registers. -/
  | timeLatch (req : Nat) (value : Nat)
  /-- GPS_OFFSET_WRITE (R295): A write of TIM_GPS_OFFSET sets the GPS view offset and leaves UNSET for FREERUN. -/
  | gpsOffsetWrite (req : Nat) (value : Nat)
  /-- LEAP_SECOND (R295): The GPS view reaches LEAP_AT with PENDING set and UTC changes by a leap second. -/
  | leapSecond
  /-- SOURCE_SELECT (R297): A write of TIM_SRC.SEL names the disciplining source, moving LOCKING or LOCKED to HOLDOVER on a change. -/
  | sourceSelect (req : Nat) (value : Nat)
  /-- SLEW_MAX_WRITE (R299): A write of TIM_SLEW.MAX sets the slew rate and recomputes S. -/
  | slewMaxWrite (req : Nat) (value : Nat)
  /-- TIME_CORRECTION (R298): A write of TIM_ADJ_CMD.GO applies a frequency and phase correction, slewing or starting a step, and sets LOCKING or LOCKED. -/
  | timeCorrection (req : Nat) (value : Nat)
  /-- STEP_PART (R300): At an SREF edge with no ONCE or PERIODIC pin active, a part of a pending step is applied to device time. -/
  | stepPart
  /-- HOLDOVER (R301): TIMEOUT passes without a correction and the time state becomes HOLDOVER. -/
  | holdover
  /-- CAPTURE_INPUT_EDGE (R304): A selected edge on a TC input is stamped and passed to the Snap trigger, reflex pins, notice and FIFO. -/
  | captureInputEdge (n : Nat) (rising : Bool) (sub : Nat)
  /-- CAPTURE_STAMP_READ (R305): A read of TIM_TCn_STAMP returns and removes the oldest stamp. -/
  | captureStampRead (req : Nat) (n : Nat)
  /-- PIN_ENABLE (R307): A write of TIM_TPp_CFG with ENABLE = 1 checks the pin and starts its mode. -/
  | pinEnable (req : Nat) (p : Nat) (value : Nat)
  /-- PIN_DISABLE (R307): A write of TIM_TPp_CFG with ENABLE = 0 stops the pin, letting an active pulse finish. -/
  | pinDisable (req : Nat) (p : Nat) (value : Nat)
  /-- PIN_LEADING_EDGE (R306): A pulse of a time pin becomes active and a pin notice is sent. -/
  | pinLeadingEdge (p : Nat)
  /-- PIN_TRAILING_EDGE (R306): A pulse of a time pin ends after WIDTH. -/
  | pinTrailingEdge (p : Nat)
  /-- TX_STAMP_READ (R315): A read of ETH_PTPp_TXTS_STAMP returns and removes the head transmit stamp. -/
  | txStampRead (req : Nat) (p : Nat)
  /-- ETH_TRANSMIT (R318): A token at ETH:0x010 + p reads a transmit block into one of the port's buffers. -/
  | ethTransmit (t : Token)
  /-- ETH_FRAME_SENT (R318): A frame's last bit leaves the port, its stamp is queued, stamped outputs are confirmed and the completion notice is sent. -/
  | ethFrameSent (p : Nat) (sub : Nat)
  /-- ETH_FRAME_RECEIVED (R319): A frame arrives on a port and is filtered, stamped and written to the receive ring or handed to HST. -/
  | ethFrameReceived (p : Nat) (frame : List Byte) (fcsOk : Bool) (sub : Nat)
  /-- ETH_LINK_CHANGE (R317): A port's link comes up or goes down. -/
  | ethLinkChange (p : Nat) (up : Bool) (speed : Nat) (partner : Nat)
  /-- RADIO_PORT_ENABLE (R327): A write setting RADn_CFG.ENABLE loads the transceiver firmware, checks the sub-bands and starts the port's grid. -/
  | radioPortEnable (req : Nat) (n : Nat) (value : Nat)
  /-- RADIO_PORT_DISABLE (R361): A write clearing RADn_CFG.ENABLE stops the port when no association or group uses it. -/
  | radioPortDisable (req : Nat) (n : Nat) (value : Nat)
  /-- ARM (R338): Association command ARM checks the configuration, restores H from retention and moves the association to WAITING. -/
  | arm (req : Nat) (a : Nat)
  /-- ARM_FRESH (R350): Association command ARM_FRESH arms the association with FRESH set. -/
  | armFresh (req : Nat) (a : Nat)
  /-- UPDATE_MAP (R347): Association command UPDATE_MAP sends the next channel map in a CTRL frame with an instant. -/
  | updateMap (req : Nat) (a : Nat)
  /-- UPDATE_TIMING (R347): Association command UPDATE_TIMING sends the next timing in a CTRL frame with an instant. -/
  | updateTiming (req : Nat) (a : Nat)
  /-- UPDATE_GROUPS (R347): Association command UPDATE_GROUPS sends the new group mask as GROUP_INFO frames. -/
  | updateGroups (req : Nat) (a : Nat)
  /-- RELEASE (R337): Association command RELEASE closes a connection by TERMINATE or returns the association to OFF. -/
  | release (req : Nat) (a : Nat)
  /-- ASSOCIATION_OFF (R337): Association command OFF returns the association to OFF and refuses its queued records. -/
  | associationOff (req : Nat) (a : Nat)
  /-- BEACON (R339): A port sends a beacon on its grid and opens a join window. -/
  | beacon (n : Nat)
  /-- JOIN_REQ (R339): A JOIN_REQ is received in a join window and answered with JOIN_ACCEPT or recorded as unknown. -/
  | joinReq (n : Nat) (frame : List Byte) (rssi : Nat)
  /-- CONNECTION_EVENT (R342): An association's anchor falls due and the module sends its first frame of the event. -/
  | connectionEvent (a : Nat)
  /-- ROBOT_FRAME (R349): A robot frame is received, checked, acknowledged and its DATA accepted as an item. -/
  | robotFrame (n : Nat) (frame : List Byte) (rssi : Nat)
  /-- SUPERVISION_TIMEOUT (R346): An association's supervision timer reaches TIMEOUT and it becomes LOST. -/
  | supervisionTimeout (a : Nat)
  /-- JOIN_FAIL (R337): TIMEOUT passes after JOIN_ACCEPT without a robot frame and the association returns to WAITING. -/
  | joinFail (a : Nat)
  /-- CLOSE_TIMEOUT (R337): TERMINATE is acknowledged or TIMEOUT passes and a CLOSING association goes to OFF. -/
  | closeTimeout (a : Nat)
  /-- UPDATE_INSTANT (R347): An association's event counter reaches the INSTANT and the new map or timing takes effect. -/
  | updateInstant (a : Nat)
  /-- RADIO_RECORD_ASSOCIATION (R351): A record token at RAD:0x010 or 0x011 is queued for an association. -/
  | radioRecordAssociation (t : Token)
  /-- RADIO_RECORD_GROUP (R351): A record token at RAD:0x012 or 0x013 is queued for a group. -/
  | radioRecordGroup (t : Token)
  /-- GROUP_EVENT (R353): A group event falls due and a GROUP frame is sent REPEAT + 1 times if records are queued. -/
  | groupEvent (g : Nat)
  /-- STOP_BURST (R354): A repeat burst of stop frames falls due while the stop is latched and is sent on the stop channels. -/
  | stopBurst (n : Nat)
  /-- BUDGET_SECOND (R356): A new budget second begins and the oldest airtime bucket leaves the window. -/
  | budgetSecond
  /-- ZON_ENABLE (R364): A write of ZON_CTRL.ENABLE checks the table copies and starts or stops the Zone table. -/
  | zonEnable (req : Nat) (value : Nat)
  /-- ZON_COMMAND (R365): A command token at ZON:0x001 is queued and staged. -/
  | zonCommand (t : Token)
  /-- RESERVE (R371): Service of RESERVE checks every expanded entry and inserts all with a track record or reports the first conflict. -/
  | reserve
  /-- CHECK (R374): Service of CHECK reports conflicts without inserting anything. -/
  | check
  /-- ZON_RELEASE (R375): Service of RELEASE frees every entry of a track. -/
  | zonRelease
  /-- RELEASE_OWNER (R375): Service of RELEASE_OWNER frees every track of an owner in a frame. -/
  | releaseOwner
  /-- ZON_WRITEBACK_DONE (R373): A command's write-back to both copies completes and its result and notice leave in service order. -/
  | zonWritebackDone
  /-- ZON_CANCEL (R377): A cancel token at ZON:0x002 removes a queued or staged command. -/
  | zonCancel (t : Token)
  /-- TRACK_EXPIRY (R376): A track's last entry expires and an expiry notice is sent when requested. -/
  | trackExpiry (track : Nat)
  /-- ZON_REBUILD (R379): A write of a table copy base with REBUILD set copies the surviving copy into the new one. -/
  | zonRebuild (req : Nat) (copy : Nat) (value : Nat)
  /-- ZON_2PC_HOLD_TIMEOUT (R383): A member holding PENDING entries gets no DECIDE within HOLD_MS and asks the Captain. -/
  | zon2pcHoldTimeout (txn : Nat)
  /-- FORWARD (R382): A ZON FORWARD message brings a cross-shard command to the Captain. -/
  | forward (m : BxlMsg)
  /-- PREPARE (R382): A ZON PREPARE message makes a member check its entries and insert them as PENDING. -/
  | prepare (m : BxlMsg)
  /-- VOTE (R382): A ZON VOTE message reaches the Captain, which journals COMMIT or ABORT once all votes are in. -/
  | vote (m : BxlMsg)
  /-- DECIDE (R382): A ZON DECIDE message makes a member activate or remove its PENDING entries. -/
  | decide (m : BxlMsg)
  /-- ZON_DONE (R382): A ZON DONE message confirms a member's decision to the Captain. -/
  | zonDone (m : BxlMsg)
  /-- ZON_RESULT (R382): A ZON RESULT message lets the origin member write the result and notice with CROSS_SHARD. -/
  | zonResult (m : BxlMsg)
  /-- ZON_ASK (R383): A ZON ASK message is answered by the Captain from its journal, recording ABORT if undecided. -/
  | zonAsk (m : BxlMsg)
  /-- ZON_CONFIG (R381): A ZON CONFIG message copies the frame registers and shard map to a member. -/
  | zonConfig (m : BxlMsg)
  /-- STOP_INPUT (R387): A low pulse on STOP_A_N or STOP_B_N sets the Whistle latch. -/
  | stopInput (p : Nat) (level : Bool) (width : Nat)
  /-- STOP_RAISE (R388): A write of REF_STOP_RAISE raises a stop with the reason written. -/
  | stopRaise (req : Nat) (value : Nat)
  /-- STOP_ARM (R394): REF_STOP_CMD ARM on the Captain asks every member whether it is ready for release. -/
  | stopArm (req : Nat)
  /-- STOP_RELEASE (R394): REF_STOP_CMD RELEASE on the Captain clears the latch on every member that is still ready. -/
  | stopRelease (req : Nat)
  /-- STOP_ARM_EXPIRY (R394): One second passes after ARM without RELEASE and ARMED clears. -/
  | stopArmExpiry
  /-- DISAGREE (R396): One STOP input stays low while the other is high beyond DISAGREE_MS and DISAGREE is set. -/
  | disagree
  /-- READBACK_MISMATCH (R397): A FENCE or PWEN read-back differs from its commanded level for over 1 µs and a stop is raised. -/
  | readbackMismatch (o : Nat) (differs : Bool)
  /-- OUTPUT_ENABLE_WRITE (R386): A write of REF_FENCE_EN or REF_PWEN_EN lets outputs rise, and is refused with STOPPED while latched. -/
  | outputEnableWrite (req : Nat) (pwen : Bool) (value : Nat)
  /-- SLOT_ENABLE (R401): Slot command ENABLE checks the slot's configuration and moves it to READY. -/
  | slotEnable (req : Nat) (k : Nat)
  /-- SLOT_RUN (R400): Slot command RUN moves a slot to RUN when no stop, masked interlock or fault stands. -/
  | slotRun (req : Nat) (k : Nat)
  /-- SLOT_DISABLE (R400): Slot command DISABLE returns a slot to OFF. -/
  | slotDisable (req : Nat) (k : Nat)
  /-- CLEAR_FAULT (R412): Slot command CLEAR_FAULT clears LAW_LATE and, if refreshed, STALE. -/
  | clearFault (req : Nat) (k : Nat)
  /-- SLOT_TARGET (R402): A target arrives by token at MCH:0x000 or by MCH_MFs_TARGET write. -/
  | slotTarget (i : SlotIn)
  /-- SLOT_SETPOINT (R402): A setpoint arrives by token at MCH:0x001 or by MCH_MFs_SETPOINT write. -/
  | slotSetpoint (i : SlotIn)
  /-- MEASURED_WRITE (R403): A raw measured value arrives by token at MCH:0x002 or by MCH_MFs_MEAS_WRITE. -/
  | measuredWrite (i : SlotIn)
  /-- OUTPUT_STEP (R405): Every 10 µs each slot in RUN moves its output towards the clamped, rate-limited target and interlocks are re-evaluated. -/
  | outputStep
  /-- LAW_TICK (R410): A slot's tick falls due, late answers are counted and a tick token with setpoint and measured value is sent. -/
  | lawTick (k : Nat)
  /-- STALE (R404): A slot's source has not refreshed for AGE_MS and STALE is set. -/
  | stale (k : Nat)
  /-- IL_SOFT_SET (R413): A write of MCH_IL_SOFT_SET sets software interlock bits. -/
  | ilSoftSet (req : Nat) (value : Nat)
  /-- IL_SOFT_CLR (R413): A write of MCH_IL_SOFT_CLR clears software interlock bits. -/
  | ilSoftClr (req : Nat) (value : Nat)
  /-- ANALOG_SAMPLE (R418): An analog group samples its channels, updating FILT, impact hits, windows and analog tally sources. -/
  | analogSample (g : Nat) (codes : List Nat)
  /-- IMPACT_RATE_BUCKET (R420): Every 10 ms the impact hit-rate window advances by one bucket. -/
  | impactRateBucket
  /-- PULSE_EDGE (R421): A debounced edge on a pulse input is counted and timed. -/
  | pulseEdge (n : Nat) (level : Bool) (held : Nat) (half : Nat)
  /-- PULSE_ZERO (R422): No edge has come for ZERO_MS and the input's frequency reads 0. -/
  | pulseZero (n : Nat)
  /-- PWM_PERIOD_START (R423): A PWM generator starts a period with the duty in effect. -/
  | pwmPeriodStart (n : Nat)
  /-- TALLY_ENABLE (R428): A write setting TAL_TQi_CFG.ENABLE checks the accumulator, computes QMAX and starts counting. -/
  | tallyEnable (req : Nat) (i : Nat) (value : Nat)
  /-- TALLY_DISABLE (R441): A write clearing TAL_TQi_CFG.ENABLE takes a FINAL save. -/
  | tallyDisable (req : Nat) (i : Nat) (value : Nat)
  /-- TALLY_INCREMENT (R436): An increment token at TAL:0x000 is checked, deduplicated by stamp and counted. -/
  | tallyIncrement (t : Token)
  /-- TALLY_INC_WRITE (R436): A write of TAL_TQi_INC counts an unstamped increment. -/
  | tallyIncWrite (req : Nat) (i : Nat) (value : Nat)
  /-- TALLY_LATCH (R432): Every N source cycles the totals are latched and a LATCH save is taken. -/
  | tallyLatch (i : Nat)
  /-- TALLY_CHECKPOINT (R437): At the first mark after a stamped increment with no latch save, a CHECKPOINT save is taken. -/
  | tallyCheckpoint (i : Nat)
  /-- TALLY_SAVE_DONE (R438): A save is valid in both MRAM copies and confirms the stamped increments it contains, or SAVE_FAIL is set. -/
  | tallySaveDone
  /-- TALLY_PARTIAL_SAVE (R439): Every 100 µs while PWRFAIL stays asserted TAL takes a further PARTIAL save. -/
  | tallyPartialSave
  /-- TALLY_CLEAR (R441): Command CLEAR latches the old totals, zeroes them and writes a CLEAR save. -/
  | tallyClear (req : Nat) (i : Nat)
  /-- TEMP_WRITE (R429): A write of TAL_TQi_TEMP_WRITE supplies the temperature for TEMP_KIND 2. -/
  | tempWrite (req : Nat) (i : Nat) (value : Nat)
  /-- TEMP_STALE (R429): A written temperature ages past 10,000 ms and TEMP_STALE is set. -/
  | tempStale (i : Nat)
  /-- LAG_STEP (R434): At every tenth millisecond mark D moves 1 ms towards its target. -/
  | lagStep
  /-- PULSE_OUTPUT_ENABLE (R442): A write of TAL_POn_CFG.ENABLE records NET0 and starts following the accumulator. -/
  | pulseOutputEnable (req : Nat) (n : Nat) (value : Nat)
  /-- PULSE_OUTPUT_START (R443): A pulse output starts a forward or reverse pulse towards its target. -/
  | pulseOutputStart (n : Nat)
  /-- PULSE_OUTPUT_END (R442): A pulse output's active WIDTH ends and its GAP begins. -/
  | pulseOutputEnd (n : Nat)
  /-- CAN_ENABLE (R448): A write setting CAN_CTLn_CFG.ENABLE checks the bit timing and starts the controller. -/
  | canEnable (req : Nat) (n : Nat) (value : Nat)
  /-- CAN_DISABLE (R460): A write clearing ENABLE lets the frame in progress finish and cancels every occupied buffer. -/
  | canDisable (req : Nat) (n : Nat) (value : Nat)
  /-- RECOVER (R449): Controller command RECOVER starts bus-off recovery. -/
  | recover (req : Nat) (n : Nat)
  /-- CAN_RECOVERY_DONE (R447): 128 occurrences of 11 recessive bits end bus-off recovery. -/
  | canRecoveryDone (n : Nat)
  /-- CAN_ERROR (R449): A protocol error updates TEC and REC and may change the controller's error state. -/
  | canError (n : Nat) (err : CanErr)
  /-- CAN_FRAME_RECEIVED (R451): A frame reaches its acceptance point and updates its object and queue. -/
  | canFrameReceived (n : Nat) (frame : CanFrame) (ago : Nat)
  /-- CAN_OBJECT_ENABLE (R450): A write setting CAN_OBJo_CFG.EN checks the object for ranges and overlaps. -/
  | canObjectEnable (req : Nat) (o : Nat) (value : Nat)
  /-- CAN_OBJ_ACK (R452): A write of CAN_OBJ_ACK clears NEW and LOST when the named SEQ is current. -/
  | canObjAck (req : Nat) (value : Nat)
  /-- CAN_QUEUE_RD (R455): A write of CAN_RQq_RD gives up PLAIN queue entries. -/
  | canQueueRd (req : Nat) (q : Nat) (value : Nat)
  /-- CAN_TX_REQUEST (R457): A request token at CAN:0x010 + n is checked and read into a transmit buffer. -/
  | canTxRequest (t : Token)
  /-- CAN_TX_SELECT (R459): At intermission or bus idle the controller chooses the next frame to send. -/
  | canTxSelect (n : Nat) (wait : Nat)
  /-- CAN_TX_COMPLETE (R460): A frame completes with its outcome and a completion notice is sent. -/
  | canTxComplete (n : Nat) (how : CanEnd)
  /-- CAN_CANCEL (R461): A cancel token at CAN:0x020 + n withdraws a buffered frame or is answered TOO_LATE. -/
  | canCancel (t : Token)
  /-- KICKOFF (R472): A released port trains its lanes, equaliser, deskew and delay and exchanges toss records. -/
  | kickoff (p : Nat) (detected : Bool) (preset : Nat) (skew : Nat) (delay : Nat)
  /-- TOSS (R473): A toss record arrives and is checked and passed on for ring discovery. -/
  | toss (p : Nat) (record : List Byte)
  /-- RING_DISCOVERY_END (R474): Ring discovery completes or times out and the Captain is elected and sends the Roster. -/
  | ringDiscoveryEnd
  /-- LINK_DOWN (R471): A link loses block lock or meets too many invalid headers and is marked DOWN. -/
  | linkDown (p : Nat)
  /-- LINK_RETRAIN (R471): Every 100 ms a DOWN or FAILED link retrains. -/
  | linkRetrain (p : Nat) (detected : Bool) (preset : Nat) (skew : Nat) (delay : Nat)
  /-- HEARTBEAT_SEND (R471): Every 1 µs a member sends its HEARTBEAT on both ports. -/
  | heartbeatSend
  /-- HEARTBEAT (R487): A HEARTBEAT control block arrives, is forwarded, and raises a stop if it shows a latch this member lacks. -/
  | heartbeat (p : Nat) (c : Nat)
  /-- BEXLINK_STOP (R487): A STOP control block arrives, is forwarded and sets the member's latch. -/
  | bexlinkStop (p : Nat) (c : Nat)
  /-- MEMBER_FAIL (R492): No HEARTBEAT from a member for 3 µs; it is declared failed and its Buddy takes over its flows and tiles. -/
  | memberFail (m : Nat)
  /-- ISOLATED (R496): No HEARTBEAT from any member for 3 µs in a stack of two or more; the member stops accepting and raises a stop. -/
  | isolated
  /-- BEXLINK_SEND (R482): A send block token at BXL:0x000 is sent as a TOKEN or ITEM message. -/
  | bexlinkSend (t : Token)
  /-- ACK (R480): An ACK message arrives, confirming messages up to its number or asking a resend. -/
  | ack (m : BxlMsg)
  /-- ACK_TIMEOUT (R480): A message is not acknowledged within ACK_US and is sent again. -/
  | ackTimeout (dst : Nat)
  /-- TOKEN_MESSAGE (R483): A TOKEN message is delivered to its target endpoint and acknowledged. -/
  | tokenMessage (m : BxlMsg)
  /-- ITEM_MESSAGE (R483): An ITEM message is deduplicated and accepted into its flow. -/
  | itemMessage (m : BxlMsg)
  /-- MIRROR (R484): A MIRROR message is written into the Buddy's mirror area, guest range or guest ZON copy and acknowledged. -/
  | mirror (m : BxlMsg)
  /-- ROSTER (R477): A ROSTER message with a newer epoch is applied. -/
  | roster (m : BxlMsg)
  /-- SNAP_MESSAGE (R486): A SNAP message arms a stack-wide Snap edge or is answered TOO_LATE. -/
  | snapMessage (m : BxlMsg)
  /-- TIMECFG (R488): A TIMECFG message writes GPS_OFFSET and leap data into TIM. -/
  | timecfg (m : BxlMsg)
  /-- STOPINFO (R487): A STOPINFO message writes the origin's raise time into REF_STOP_TIME. -/
  | stopinfo (m : BxlMsg)
  /-- CONTROL_JOIN_REQ (R489): A JOIN_REQ control message makes the Captain admit or refuse a newcomer. -/
  | controlJoinReq (m : BxlMsg)
  /-- LEAVE_REQ (R490): A LEAVE_REQ control message starts an orderly leave at the Captain. -/
  | leaveReq (m : BxlMsg)
  /-- CONTROL_STOP_ARM (R394): A STOP_ARM control message asks a member whether it is ready for release. -/
  | controlStopArm (m : BxlMsg)
  /-- STOP_READY (R394): A STOP_READY control message reports a member's readiness to the Captain. -/
  | stopReady (m : BxlMsg)
  /-- CONTROL_STOP_RELEASE (R394): A STOP_RELEASE control message clears a member's latch if it is still ready. -/
  | controlStopRelease (m : BxlMsg)
  /-- HANDOVER_DONE (R489): A HANDOVER_DONE message makes the Captain publish the changed Buddy. -/
  | handoverDone (m : BxlMsg)
  /-- TIME_T_SEND (R488): Every 10 µs a port sends TIME_T. -/
  | timeTSend (p : Nat) (sub : Nat)
  /-- TIME_EXCHANGE (R488): A TIME_T or TIME_R arrives and the follower computes and applies its offset to upstream. -/
  | timeExchange (p : Nat) (isR : Bool) (content : Nat) (sub : Nat)
  /-- LEAVE (R490): BXL_CMD LEAVE starts this member's orderly leave. -/
  | leave (req : Nat)
  /-- RETRAIN_WEST (R497): BXL_CMD RETRAIN_WEST retrains the west port. -/
  | retrainWest (req : Nat)
  /-- RETRAIN_EAST (R497): BXL_CMD RETRAIN_EAST retrains the east port. -/
  | retrainEast (req : Nat)
  /-- BEGIN (R510): Update command BEGIN starts a download. -/
  | begin (req : Nat)
  /-- WRITE_BLOCK (R511): Update command WRITE_BLOCK starts erasing and programming a staging sector. -/
  | writeBlock (req : Nat)
  /-- WRITE_BLOCK_DONE (R511): A staging sector is programmed and verified and DL_NEXT advances. -/
  | writeBlockDone (mismatches : Nat)
  /-- VERIFY (R512): Update command VERIFY starts checking the staged manifest and parts. -/
  | verify (req : Nat)
  /-- VERIFY_DONE (R512): Verification ends with VERIFIED or IDLE and a status. -/
  | verifyDone
  /-- ACTIVATE (R513): Update command ACTIVATE starts the swap or, on a Captain, the stack transaction. -/
  | activate (req : Nat)
  /-- SWAP_PHASE_DONE (R513): One sector copy of the swap completes and is journaled. -/
  | swapPhaseDone (mismatches : Nat)
  /-- RESTART (R514): Update command RESTART resets the module, or across a stack at a common time. -/
  | restart (req : Nat)
  /-- CONFIRM (R516): Update command CONFIRM reports the trial image healthy. -/
  | confirm (req : Nat)
  /-- REJECT (R516): Update command REJECT reports the trial image unfit with a reason. -/
  | reject (req : Nat) (reason : Nat)
  /-- DISTRIBUTE (R520): Update command DISTRIBUTE sends the Captain's staged Playbook to every member. -/
  | distribute (req : Nat)
  /-- ABANDON (R510): Update command ABANDON returns the update to IDLE. -/
  | abandon (req : Nat)
  /-- TRIAL_TIMEOUT (R516): ELAPSED reaches TRIAL_S and the trial is settled as a revert, or ASK is sent in a stack. -/
  | trialTimeout
  /-- CONFIRMING (R517): Confirmation promotes the shadow settings, programs OTP and ends in DOWNLOADED. -/
  | confirming
  /-- REVERTING (R518): The swap runs back and the module resets into the old image. -/
  | reverting
  /-- UPDATE_BLOCK (R520): An UPDATE BLOCK piece arrives at a member and is gathered into a block to write. -/
  | updateBlock (m : BxlMsg)
  /-- UPDATE_PREPARE (R522): An UPDATE PREPARE message makes a member vote and journal PREPARED. -/
  | updatePrepare (m : BxlMsg)
  /-- UPDATE_VOTE (R522): An UPDATE VOTE message reaches the Captain. -/
  | updateVote (m : BxlMsg)
  /-- UPDATE_DECIDE (R522): An UPDATE DECIDE message starts the swap or returns the member to VERIFIED. -/
  | updateDecide (m : BxlMsg)
  /-- UPDATE_SWAPPED (R522): An UPDATE SWAPPED message tells the Captain a member finished its swap. -/
  | updateSwapped (m : BxlMsg)
  /-- UPDATE_RESTART (R522): An UPDATE RESTART message schedules the member's reset at time T. -/
  | updateRestart (m : BxlMsg)
  /-- UPDATE_RESTART_TIME (R522): Device time reaches T and the member resets onto its trial image. -/
  | updateRestartTime
  /-- HEALTHY (R523): An UPDATE HEALTHY message reaches the Captain. -/
  | healthy (m : BxlMsg)
  /-- UNHEALTHY (R523): An UPDATE UNHEALTHY message makes the Captain decide to revert. -/
  | unhealthy (m : BxlMsg)
  /-- VERDICT (R523): An UPDATE VERDICT message starts confirming or reverting at a member. -/
  | verdict (m : BxlMsg)
  /-- UPDATE_ASK (R522): An UPDATE ASK message is answered by the Captain from its journal. -/
  | updateAsk (m : BxlMsg)
  /-- UPDATE_RECORD (R522): An UPDATE RECORD message makes the Captain's Buddy keep a decision. -/
  | updateRecord (m : BxlMsg)
  /-- DECIDE_TIMEOUT (R522): A PREPARED member has had no DECIDE for 100 ms and sends ASK. -/
  | decideTimeout
  /-- SLICE_START (R531): BST starts a runtime self-test slice of an island at its place in the round. -/
  | sliceStart
  /-- SLICE_END (R531): A slice completes, the island's state is restored and held requests are served, or a failure is reported. -/
  | sliceEnd (bad : Option Nat)
  /-- SLICE_ABORT (R535): A P0 request aborts a slice, which restores state before serving it. -/
  | sliceAbort
  /-- SLICE_RETRY (R532): 100 µs after a slice could not start or was aborted, BST tries it again. -/
  | sliceRetry
  /-- HANG (R533): An island stays in SELFTEST for 13 µs and REF declares it failed. -/
  | hang (isl : Nat)
  /-- ROUND_END (R536): A self-test round ends and islands whose test did not complete for three rounds are marked starved. -/
  | roundEnd
  /-- FENCE (R538): REF_ISLAND_CMD FENCE fences an island on software's command. -/
  | fence (req : Nat) (isl : Nat)
  /-- ISLAND_RELEASE (R540): REF_ISLAND_CMD RELEASE powers a fenced island and runs its BIST. -/
  | islandRelease (req : Nat) (isl : Nat)
  /-- ISLAND_RELEASE_DONE (R540): A released island's BIST ends and the island enters ON or stays FENCED. -/
  | islandReleaseDone (pass : Bool)
  /-- LAST_BREATH_CLEAR (R541): A write of REF_LB_CLEAR clears the last-breath cell's CHECK. -/
  | lastBreathClear (req : Nat) (value : Nat)
  /-- SCB_SOFTWARE_RECORD (R545): A token at SCB:0x001 stages a software record from a record image. -/
  | scbSoftwareRecord (t : Token)
  /-- SCB_RECORD_WRITTEN (R546): A Scorebook record is written and verified and the next staged record is started. -/
  | scbRecordWritten (differs : Bool)
  /-- OPEN (R549): Scorebook command OPEN opens a bookmark at OLDEST or WR. -/
  | openBookmark (i : ScbIn)
  /-- CLOSE (R549): Scorebook command CLOSE closes a bookmark. -/
  | closeBookmark (i : ScbIn)
  /-- ADVANCE (R549): Scorebook command ADVANCE moves a bookmark past COUNT records. -/
  | advanceBookmark (i : ScbIn)
  /-- CLEAR (R551): Scorebook command CLEAR sets OLDEST to WR and writes a CLEARED record. -/
  | clearRecords (i : ScbIn)
  /-- SEND (R552): Scorebook command SEND copies records from a bookmark to a member's flow as Bexlink items. -/
  | sendRecords (i : ScbIn)
  /-- MAIN (R553): Scorebook command MAIN returns writing to the main ring. -/
  | mainRing (i : ScbIn)
  /-- POWER_ON (R573): VIN comes up from below the brown-out level and the module resets. -/
  | powerOn
  /-- CONVERTER_START (R565): VIN has stayed at or above 9 V for 5 ms and the module's converters start. -/
  | converterStart
  /-- PIN_RESET (R573): RESET_N is held low for at least 1 µs and the module resets. -/
  | pinReset
  /-- SOFTWARE_RESET (R573): A write of SYS_RESET with KEY 0x5A and GO resets the module. -/
  | softwareReset (req : Nat) (value : Nat)
  /-- BROWN_OUT (R564): VIN falls below 6.5 V or a rail leaves tolerance and the module resets after finishing the MRAM write in progress. -/
  | brownOut
  /-- RESET_RELEASE (R574): Reset is released, straps are sampled, the Whistle latches and the power-up self-test begins. -/
  | resetRelease (straps : Nat) (failA : Bool) (failB : Bool)
  /-- POWERUP_BIST_DONE (R528): The power-up self-test ends and the module holds, fences failed islands or proceeds to the boot ROM. -/
  | powerupBistDone (fail : Nat) (stopPath : Bool) (ticks : Nat)
  /-- LOADER_CHECK_DONE (R577): The boot ROM finishes checking the loader and starts it or holds. -/
  | loaderCheckDone (ok : Bool)
  /-- LOADER_DONE (R501): The loader finishes continuing the update journal and checking and copying the image, then starts REF and the microcode or holds. -/
  | loaderDone (segs : List (Nat × Nat × Nat × Nat))
  /-- RESTORE (R575): Bexlink Kickoff, flow rebuild, tally restore and the BOOT record run before the image starts. -/
  | restore
  /-- RUN_START (R575): The engine image's first instruction issues and restarted items are dispatched. -/
  | runStart (entry : Nat)
  /-- PWRFAIL_ASSERT (R566): VIN falls below 8.5 V, PWRFAIL reaches every island, acceptance stops, engines are capped and saves begin. -/
  | pwrfailAssert
  /-- PWRFAIL_DEASSERT (R568): VIN has stayed above 8.8 V for 10 ms, acceptance resumes and the engine cap lifts. -/
  | pwrfailDeassert
  /-- THERMAL_SAMPLE (R569): Every 1 ms PWR reads the case temperature and applies or lifts the thermal cap. -/
  | thermalSample (temp : Int) (vin : Nat) (power : Nat)
  /-- EJECT_REQUEST (R571): EJECT_REQ_N has been low for 50 ms and the module starts an orderly removal. -/
  | ejectRequest
  /-- HOST_READ (R581): Host command READ reads device bytes into the completion payload. -/
  | hostRead (x : Nat) (frame : List Byte)
  /-- HOST_WRITE (R581): Host command WRITE writes the payload to device addresses. -/
  | hostWrite (x : Nat) (frame : List Byte)
  /-- HOST_TOKEN (R581): Host command TOKEN sends a token and completes with the destination's answer. -/
  | hostToken (x : Nat) (frame : List Byte)
  /-- SUBMIT (R583): Host command SUBMIT offers its payload as an item of a session's flow. -/
  | submit (x : Nat) (frame : List Byte)
  /-- HOST_CLOSE (R583): Host command CLOSE frees a session's entry. -/
  | hostClose (x : Nat) (frame : List Byte)
  /-- PING (R581): Host command PING returns the device's identity and state. -/
  | ping (x : Nat) (frame : List Byte)
  /-- SQ_DOORBELL (R584): A write of HST_SQ_TAIL makes HST fetch new commands from the host submission ring. -/
  | sqDoorbell (req : Nat) (value : Nat) (frames : List (List Byte))
  /-- BAR2_ACCESS (R584): A PCIe access to BAR2 is performed as device accesses through interface 0's windows. -/
  | bar2Access (write : Bool) (addr : Nat) (data : List Byte)
  /-- HOST_NOTICE (R584): A token at HST:0x100 + v is written to the notice ring and raises MSI-X vector v. -/
  | hostNotice (t : Token)
  /-- PCIE_PERST (R584): PCIE_PERST_N resets the PCIe part of HST only. -/
  | pciePerst (low : Bool)
  /-- PCIE_LINK_CHANGE (R587): The PCIe link trains, retrains or goes down, updating LINK_UP, WIDTH and SPEED. -/
  | pcieLinkChange (up : Bool) (width : Nat) (speed : Nat) (master : Bool)
  /-- REPORT (R585): Once a second a holding boot ROM sends an unsolicited REPORT frame on the service UART. -/
  | report
  /-- ARBITRATION_LOST (R459): A transmitting CAN controller loses arbitration; an ordinary frame returns to its buffer to be chosen afresh, ARB_LOST counts, and a one-shot frame completes with BUSY. -/
  | arbitrationLost (n : Nat)
  /-- PAUSE_EXPIRY (R317): The hold time named by a received PAUSE frame runs out and the port resumes sending its buffered frames. -/
  | pauseExpiry (p : Nat)
  /-- WATCHDOG (R388): A REF watchdog expires and raises a Whistle stop with REASON 0x05. -/
  | watchdog
  /-- STACK_OF_ONE (R475): A module whose ports reach no other member within 10 ms forms a stack of one with itself as Captain. -/
  | stackOfOne
  /-- ZON_MERGE_DONE (R493): The Buddy finishes merging a failed member's guest ZON entries into its own table, and RESERVE and RELEASE on those tiles are served again. -/
  | zonMergeDone (m : Nat)
  /-- ZON_REBUILD_DONE (R379): ZON finishes copying the surviving table copy into the newly named copy, and RESERVE is no longer refused with BUSY. -/
  | zonRebuildDone
  /-- EJECT_REQ_HIGH (R571): EJECT_REQ_N goes high again before SAFE_TO_REMOVE and a standalone module resumes acceptance. -/
  | ejectReqHigh
  /-- CQ_RD_WRITE (R584): The host advances HST_CQ_RD, freeing a completion-ring entry, and HST resumes fetching commands from the submission ring. -/
  | cqRdWrite (req : Nat) (value : Nat)
  deriving DecidableEq, Repr

end Sys2Proof
end

