-- ==== Sys2Proof/Decode.lean ====
section
/-! DEFINITION. Decoding of table words: the operation table of this block gives its rows no bits. -/

namespace Sys2Proof

/-- The command that a word of nbits bits spells by the operation table: none, since no row has bits. -/
def decodeTableWord (_nbits _w : Nat) : Option Instr := none

end Sys2Proof
end

