-- ==== Sys2Proof/Machine/Bits.lean ====
section
/-! DEFINITION. Bit fields, two's-complement reading and the two kinds of counter the spec names (R10, R12, R45),
and bytes in the device's byte order. -/

namespace Sys2Proof

/-- A field of w bits read as a two's-complement number. -/
def signed (w n : Nat) : Int :=
  if n % 2 ^ w < 2 ^ (w - 1) then Int.ofNat (n % 2 ^ w) else Int.ofNat (n % 2 ^ w) - Int.ofNat (2 ^ w)

/-- A number as a two's-complement field of w bits. -/
def unsigned (w : Nat) (i : Int) : Nat := (i % Int.ofNat (2 ^ w)).toNat

/-- Bits hi down to lo of a number. -/
def bits (n hi lo : Nat) : Nat := n / 2 ^ lo % 2 ^ (hi + 1 - lo)

/-- Bit i of a number. -/
def bit (n i : Nat) : Bool := n / 2 ^ i % 2 == 1

/-- A flag as a one-bit field. -/
def b2n (b : Bool) : Nat := if b then 1 else 0

/-- One more on a statistics counter of w bits, which stays at its maximum (R45). -/
def satInc (w n : Nat) : Nat := min (n + 1) (2 ^ w - 1)

/-- A sum on a statistics counter of w bits, which stays at its maximum (R45). -/
def satAdd (w n k : Nat) : Nat := min (n + k) (2 ^ w - 1)

/-- One more on a sequence number or event counter of w bits, which wraps (R45). -/
def wrapInc (w n : Nat) : Nat := (n + 1) % 2 ^ w

/-- n bytes of a value, least significant first (R12). -/
def leBytes : Nat → Nat → List Byte
  | 0, _ => []
  | n + 1, v => BitVec.ofNat 8 v :: leBytes n (v / 256)

/-- The value of a string of bytes, least significant first (R12). -/
def leValue : List Byte → Nat
  | [] => 0
  | b :: bs => b.toNat + 256 * leValue bs

/-- A little-endian field of k bytes at offset o of a string of bytes. -/
def fld (f : List Byte) (o k : Nat) : Nat := leValue ((f.drop o).take k)

/-- n bytes of a value, most significant first (published standards, R12). -/
def beBytes (n v : Nat) : List Byte := (leBytes n v).reverse

/-- The value of a string of bytes, most significant first (published standards, R12). -/
def beValue (bs : List Byte) : Nat := leValue bs.reverse

/-- Round n up to a multiple of k. -/
def roundUp (k n : Nat) : Nat := (n + k - 1) / k * k

/-- The largest of a list of numbers, 0 for none. -/
def maxList (l : List Nat) : Nat := l.foldl max 0

/-- The numbers 0 to n - 1 that a test admits. -/
def idxWhere (n : Nat) (p : Nat → Bool) : List Nat := (List.range n).filter p

/-- The first of 0 to n - 1 that a test admits. -/
def firstIdx (n : Nat) (p : Nat → Bool) : Option Nat := (List.range n).find? p

end Sys2Proof
end

