-- ==== Sys2Proof/Machine/Crc.lean ====
section
/-! DEFINITION. CRC-32C, the Castagnoli polynomial (R50), in its usual reflected form with an all-ones start and end
(log entry 8), the FCS of IEEE 802.3 (R317, R319) and CRC-24Q (R273). -/

namespace Sys2Proof

/-- k bit steps of the reflected CRC register. -/
def crcBits : Nat → Nat → Nat
  | 0, c => c
  | k + 1, c => crcBits k (if c % 2 = 1 then c / 2 ^^^ 0x82F63B78 else c / 2)

/-- CRC-32C of a string of bytes. -/
def crc32c (bs : List Byte) : Nat :=
  bs.foldl (fun c b => crcBits 8 (c ^^^ b.toNat)) 0xFFFFFFFF ^^^ 0xFFFFFFFF

/-- k bit steps of the reflected register of the Ethernet FCS. -/
def fcsBits : Nat → Nat → Nat
  | 0, c => c
  | k + 1, c => fcsBits k (if c % 2 = 1 then c / 2 ^^^ 0xEDB88320 else c / 2)

/-- The IEEE 802.3 frame check sequence of a string of bytes. -/
def fcs32 (bs : List Byte) : Nat :=
  bs.foldl (fun c b => fcsBits 8 (c ^^^ b.toNat)) 0xFFFFFFFF ^^^ 0xFFFFFFFF

/-- k bit steps of the CRC-24Q register, most significant bit first. -/
def crc24Bits : Nat → Nat → Nat
  | 0, c => c
  | k + 1, c => crc24Bits k (if bit c 23 then (c * 2 ^^^ 0x1864CFB) % 2 ^ 24 else c * 2 % 2 ^ 24)

/-- CRC-24Q of a string of bytes (RTCM 3.3 transport, R273). -/
def crc24q (bs : List Byte) : Nat :=
  bs.foldl (fun c b => crc24Bits 8 (c ^^^ b.toNat * 2 ^ 16)) 0

end Sys2Proof
end

