-- ==== Sys2Proof/Machine/Tab.lean ====
section
/-! DEFINITION. A sparse table with a default: a list of key and value pairs in one canonical form, keys strictly rising
and no entry equal to what an unlisted key reads as. Registers, memory and every group of like units are held so. -/

namespace Sys2Proof

/-- A sparse table: entries that differ from the default, by rising key. -/
abbrev Tab (α : Type) := List (Nat × α)

/-- What key k holds, with d giving what an unlisted key holds. -/
def Tab.get {α : Type} (d : Nat → α) : Tab α → Nat → α
  | [], k => d k
  | (j, v) :: t, k => if j = k then v else Tab.get d t k

/-- Place v at k, in key order, over what stood there. -/
def Tab.put {α : Type} : Tab α → Nat → α → Tab α
  | [], k, v => [(k, v)]
  | (j, w) :: t, k, v =>
    if k < j then (k, v) :: (j, w) :: t
    else if k = j then (k, v) :: t
    else (j, w) :: Tab.put t k v

/-- Remove every entry at k. -/
def Tab.del {α : Type} (t : Tab α) (k : Nat) : Tab α := t.filter (fun e => e.1 != k)

/-- Write v at k: an entry equal to the default is not listed. -/
def Tab.set {α : Type} [DecidableEq α] (d : Nat → α) (t : Tab α) (k : Nat) (v : α) : Tab α :=
  if v = d k then t.del k else t.put k v

/-- The canonical form: keys strictly rise and no entry equals the default. -/
def Tab.wf {α : Type} [DecidableEq α] (d : Nat → α) : Tab α → Bool
  | [] => true
  | [(j, v)] => decide (v ≠ d j)
  | (j, v) :: (k, w) :: t => decide (v ≠ d j) && decide (j < k) && Tab.wf d ((k, w) :: t)

end Sys2Proof
end

