-- ==== Sys2Proof/Machine/Regs.lean ====
section
/-! DEFINITION. How the register tables of the spec are written down: a field's place, a register's entry in the map
and a reset value (R13 to R16). -/

namespace Sys2Proof.Machine

/-- The place of a register field: the device address of its register, its lowest bit and its width. -/
structure RF where
  addr : Nat
  lo : Nat
  len : Nat
  deriving DecidableEq, Repr

/-- The access codes of R14. -/
inductive Acc where
  | rw | ro | wo | w1c | w1s | rwl
  deriving DecidableEq, Repr

/-- One field of a register's entry: its lowest bit, its width, its access code and the ranges of its legal encodings
(none listed: every encoding is legal; R16). -/
structure FieldD where
  lo : Nat
  len : Nat
  acc : Acc
  legal : List (Nat × Nat)
  deriving DecidableEq, Repr

/-- One entry of an island's register map: the offset of the first register of the group, its bytes (4 or 8), the two
strides and counts of the group's indices (1 and 1 where there is none), and the register's fields. -/
structure RegD where
  off : Nat
  bytes : Nat
  stride1 : Nat
  count1 : Nat
  stride2 : Nat
  count2 : Nat
  fields : List FieldD
  deriving DecidableEq, Repr

/-- A reset value other than 0 of one field of a group of registers. -/
structure RegReset where
  off : Nat
  stride1 : Nat
  count1 : Nat
  stride2 : Nat
  count2 : Nat
  lo : Nat
  val : Nat
  deriving DecidableEq, Repr

/-- Whether offset o is off plus a stride of the first index plus a stride of the second. -/
def inGroup (off s1 c1 s2 c2 o : Nat) : Bool :=
  off ≤ o && (let d := o - off
    if s2 ≤ s1 then (decide (d / s1 < c1)) && (decide (d % s1 / s2 < c2)) && (d % s1 % s2 == 0)
    else (decide (d / s2 < c2)) && (decide (d % s2 / s1 < c1)) && (d % s2 % s1 == 0))

/-- The key of a field in the register file. -/
def RF.key (f : RF) : Nat := f.addr * 64 + f.lo

end Sys2Proof.Machine
end

