-- ==== Sys2Proof/Machine/Fields.lean ====
section
/-! DEFINITION. Every field of every register of the spec's register tables (R34 and the tables at the end of each
chapter), located by its register's device address (R20, R22), its lowest bit and its width (R14). The place is the
spec's own; a group of registers takes its index as an argument. -/

namespace Sys2Proof.Machine

def ISL_IDENT_KIND (i : Nat) : RF := ⟨0x0200000000 + i * 0x10000, 16, 8⟩
def ISL_IDENT_DESIGN_STEP (i : Nat) : RF := ⟨0x0200000000 + i * 0x10000, 8, 8⟩
def ISL_IDENT_ISLAND_ID (i : Nat) : RF := ⟨0x0200000000 + i * 0x10000, 0, 8⟩
def ISL_PSTATE_WAKE_COUNT (i : Nat) : RF := ⟨0x0200000004 + i * 0x10000, 16, 16⟩
def ISL_PSTATE_GATE_DELAY (i : Nat) : RF := ⟨0x0200000004 + i * 0x10000, 8, 8⟩
def ISL_PSTATE_REQ (i : Nat) : RF := ⟨0x0200000004 + i * 0x10000, 4, 3⟩
def ISL_PSTATE_STATE (i : Nat) : RF := ⟨0x0200000004 + i * 0x10000, 0, 3⟩
def ISL_LOCK_UNLOCK (i : Nat) : RF := ⟨0x0200000008 + i * 0x10000, 1, 1⟩
def ISL_LOCK_LOCKED (i : Nat) : RF := ⟨0x0200000008 + i * 0x10000, 0, 1⟩
def ISL_REFUSE_ADDR_ADDR (i : Nat) : RF := ⟨0x0200000010 + i * 0x10000, 0, 40⟩
def ISL_REFUSE_INFO_VALID (i : Nat) : RF := ⟨0x0200000018 + i * 0x10000, 31, 1⟩
def ISL_REFUSE_INFO_WRITE (i : Nat) : RF := ⟨0x0200000018 + i * 0x10000, 24, 1⟩
def ISL_REFUSE_INFO_REQUESTER (i : Nat) : RF := ⟨0x0200000018 + i * 0x10000, 8, 16⟩
def ISL_REFUSE_INFO_STATUS (i : Nat) : RF := ⟨0x0200000018 + i * 0x10000, 0, 8⟩
def ISL_REFUSE_COUNT_COUNT (i : Nat) : RF := ⟨0x020000001C + i * 0x10000, 0, 32⟩
def ENG_CTRL_SINGLE_ISSUE (e : Nat) : RF := ⟨0x0200100020 + e * 0x10000, 1, 1⟩
def ENG_CTRL_ACCEPT (e : Nat) : RF := ⟨0x0200100020 + e * 0x10000, 0, 1⟩
def ENG_DVFS_SWITCHING (e : Nat) : RF := ⟨0x0200100024 + e * 0x10000, 17, 1⟩
def ENG_DVFS_CAPPED (e : Nat) : RF := ⟨0x0200100024 + e * 0x10000, 16, 1⟩
def ENG_DVFS_CUR (e : Nat) : RF := ⟨0x0200100024 + e * 0x10000, 8, 3⟩
def ENG_DVFS_REQ (e : Nat) : RF := ⟨0x0200100024 + e * 0x10000, 0, 3⟩
def ENG_TRAP_VEC_VEC (e : Nat) : RF := ⟨0x0200100028 + e * 0x10000, 2, 38⟩
def ENG_CTX_STATE_c_INSTANCE (e : Nat) (c : Nat) : RF := ⟨0x0200100030 + e * 0x10000 + c * 0x4, 8, 20⟩
def ENG_CTX_STATE_c_ATOMIC (e : Nat) (c : Nat) : RF := ⟨0x0200100030 + e * 0x10000 + c * 0x4, 7, 1⟩
def ENG_CTX_STATE_c_CLASS (e : Nat) (c : Nat) : RF := ⟨0x0200100030 + e * 0x10000 + c * 0x4, 4, 3⟩
def ENG_CTX_STATE_c_HANDLER (e : Nat) (c : Nat) : RF := ⟨0x0200100030 + e * 0x10000 + c * 0x4, 3, 1⟩
def ENG_CTX_STATE_c_STATE (e : Nat) (c : Nat) : RF := ⟨0x0200100030 + e * 0x10000 + c * 0x4, 0, 3⟩
def ENG_RETIRED_COUNT (e : Nat) : RF := ⟨0x0200100050 + e * 0x10000, 0, 64⟩
def ENG_TRAPS_COUNT (e : Nat) : RF := ⟨0x0200100058 + e * 0x10000, 0, 32⟩
def ENG_PREEMPT_COUNT (e : Nat) : RF := ⟨0x020010005C + e * 0x10000, 0, 32⟩
def ENG_ECC_UNCORRECTED (e : Nat) : RF := ⟨0x0200100060 + e * 0x10000, 16, 16⟩
def ENG_ECC_CORRECTED (e : Nat) : RF := ⟨0x0200100060 + e * 0x10000, 0, 16⟩
def ENG_WIN_BASE_w_VALID (e : Nat) (w : Nat) : RF := ⟨0x0200100100 + e * 0x10000 + w * 0x10, 63, 1⟩
def ENG_WIN_BASE_w_BASE (e : Nat) (w : Nat) : RF := ⟨0x0200100100 + e * 0x10000 + w * 0x10, 12, 28⟩
def ENG_WIN_LIMIT_w_LIMIT (e : Nat) (w : Nat) : RF := ⟨0x0200100108 + e * 0x10000 + w * 0x10, 12, 28⟩
def ENG_WIN_LIMIT_w_X (e : Nat) (w : Nat) : RF := ⟨0x0200100108 + e * 0x10000 + w * 0x10, 2, 1⟩
def ENG_WIN_LIMIT_w_W (e : Nat) (w : Nat) : RF := ⟨0x0200100108 + e * 0x10000 + w * 0x10, 1, 1⟩
def ENG_WIN_LIMIT_w_R (e : Nat) (w : Nat) : RF := ⟨0x0200100108 + e * 0x10000 + w * 0x10, 0, 1⟩
def DUG_CTRL_SPILL_EN : RF := ⟨0x0200070020, 0, 1⟩
def DUG_SPILL_BASE_BASE : RF := ⟨0x0200070028, 4, 36⟩
def DUG_SPILL_SIZE_ENTRIES : RF := ⟨0x0200070030, 0, 21⟩
def DUG_STORE_SPILLED : RF := ⟨0x0200070038, 32, 21⟩
def DUG_STORE_ONDIE : RF := ⟨0x0200070038, 0, 15⟩
def DUG_NOTICE_EN : RF := ⟨0x0200070040, 48, 1⟩
def DUG_NOTICE_TAG : RF := ⟨0x0200070040, 16, 32⟩
def DUG_NOTICE_EP : RF := ⟨0x0200070040, 0, 16⟩
def DUG_STALL_EN : RF := ⟨0x0200070048, 31, 1⟩
def DUG_STALL_TICKS : RF := ⟨0x0200070048, 0, 24⟩
def DUG_DESC_SEL_TEMPLATE : RF := ⟨0x0200070050, 16, 1⟩
def DUG_DESC_SEL_INDEX : RF := ⟨0x0200070050, 0, 16⟩
def DUG_DESC_CMD_BUSY : RF := ⟨0x0200070054, 31, 1⟩
def DUG_DESC_CMD_STATUS : RF := ⟨0x0200070054, 16, 8⟩
def DUG_DESC_CMD_OP : RF := ⟨0x0200070054, 0, 3⟩
def DUG_FLOW_SEL_FLOW : RF := ⟨0x0200070058, 0, 12⟩
def DUG_FLOW_INFO_NEXT_SERVE : RF := ⟨0x0200070060, 32, 32⟩
def DUG_FLOW_INFO_BOUND : RF := ⟨0x0200070060, 16, 1⟩
def DUG_FLOW_INFO_TASK : RF := ⟨0x0200070060, 0, 16⟩
def DUG_FLOW_PEND_NEXT_ACCEPT : RF := ⟨0x0200070068, 32, 32⟩
def DUG_FLOW_PEND_PENDING : RF := ⟨0x0200070068, 0, 17⟩
def DUG_DESC_Wi_WORD (i : Nat) : RF := ⟨0x0200070080 + i * 0x8, 0, 64⟩
def DUG_STAT_DISPATCH_COUNT : RF := ⟨0x02000700C0, 0, 64⟩
def DUG_STAT_REFUSED_COUNT : RF := ⟨0x02000700C8, 0, 32⟩
def DUG_STAT_REPLACED_COUNT : RF := ⟨0x02000700CC, 0, 32⟩
def DUG_STAT_EXCESS_COUNT : RF := ⟨0x02000700D0, 0, 32⟩
def DUG_STAT_SPILLED_COUNT : RF := ⟨0x02000700D4, 0, 32⟩
def DUG_STAT_STALLS_COUNT : RF := ⟨0x02000700D8, 0, 32⟩
def QUE_POOL_ALLOCATED : RF := ⟨0x0200080020, 0, 17⟩
def QUE_Qn_CFG_ENABLE (n : Nat) : RF := ⟨0x0200080100 + n * 0x40, 31, 1⟩
def QUE_Qn_CFG_ARRIVAL_EN (n : Nat) : RF := ⟨0x0200080100 + n * 0x40, 30, 1⟩
def QUE_Qn_CFG_ANY_READER (n : Nat) : RF := ⟨0x0200080100 + n * 0x40, 29, 1⟩
def QUE_Qn_CFG_FULL (n : Nat) : RF := ⟨0x0200080100 + n * 0x40, 27, 2⟩
def QUE_Qn_CFG_PUSH_PRIO (n : Nat) : RF := ⟨0x0200080100 + n * 0x40, 24, 3⟩
def QUE_Qn_CFG_DEPTH (n : Nat) : RF := ⟨0x0200080100 + n * 0x40, 0, 13⟩
def QUE_Qn_READER_INSTANCE (n : Nat) : RF := ⟨0x0200080104 + n * 0x40, 0, 16⟩
def QUE_Qn_STALE_EN (n : Nat) : RF := ⟨0x0200080108 + n * 0x40, 31, 1⟩
def QUE_Qn_STALE_TICKS (n : Nat) : RF := ⟨0x0200080108 + n * 0x40, 0, 25⟩
def QUE_Qn_NOTICE_TAG (n : Nat) : RF := ⟨0x0200080110 + n * 0x40, 16, 32⟩
def QUE_Qn_NOTICE_EP (n : Nat) : RF := ⟨0x0200080110 + n * 0x40, 0, 16⟩
def QUE_Qn_PUSH_WORD (n : Nat) : RF := ⟨0x0200080118 + n * 0x40, 0, 64⟩
def QUE_Qn_STAT_HELD (n : Nat) : RF := ⟨0x0200080120 + n * 0x40, 16, 13⟩
def QUE_Qn_STAT_COUNT (n : Nat) : RF := ⟨0x0200080120 + n * 0x40, 0, 13⟩
def QUE_Qn_HWM_HIGH_WATER (n : Nat) : RF := ⟨0x0200080124 + n * 0x40, 0, 13⟩
def QUE_Qn_DROPS_REFUSED (n : Nat) : RF := ⟨0x0200080128 + n * 0x40, 16, 16⟩
def QUE_Qn_DROPS_DISPLACED (n : Nat) : RF := ⟨0x0200080128 + n * 0x40, 0, 16⟩
def QUE_Qn_NOTICES_COUNT (n : Nat) : RF := ⟨0x020008012C + n * 0x40, 0, 32⟩
def SMPn_CFG_BLANK_POL (p : Nat) : RF := ⟨0x02002C0020 + p * 0x10000, 2, 1⟩
def SMPn_CFG_BLANK_EN (p : Nat) : RF := ⟨0x02002C0020 + p * 0x10000, 1, 1⟩
def SMPn_CFG_FE_EN (p : Nat) : RF := ⟨0x02002C0020 + p * 0x10000, 0, 1⟩
def SMPn_Sg_CFG_ENABLE (p : Nat) (g : Nat) : RF := ⟨0x02002C0040 + p * 0x10000 + g * 0x20, 31, 1⟩
def SMPn_Sg_CFG_CODING (p : Nat) (g : Nat) : RF := ⟨0x02002C0040 + p * 0x10000 + g * 0x20, 30, 1⟩
def SMPn_Sg_CFG_INVERT (p : Nat) (g : Nat) : RF := ⟨0x02002C0040 + p * 0x10000 + g * 0x20, 29, 1⟩
def SMPn_Sg_CFG_LEVEL_THR (p : Nat) (g : Nat) : RF := ⟨0x02002C0040 + p * 0x10000 + g * 0x20, 26, 3⟩
def SMPn_Sg_CFG_RATE_KHZ (p : Nat) (g : Nat) : RF := ⟨0x02002C0040 + p * 0x10000 + g * 0x20, 0, 17⟩
def SMPn_Sg_LO_LO (p : Nat) (g : Nat) : RF := ⟨0x02002C0048 + p * 0x10000 + g * 0x20, 0, 48⟩
def SMPn_Sg_STAT_LOCKED (p : Nat) (g : Nat) : RF := ⟨0x02002C0050 + p * 0x10000 + g * 0x20, 31, 1⟩
def SMPn_Sg_STAT_OVERRUN (p : Nat) (g : Nat) : RF := ⟨0x02002C0050 + p * 0x10000 + g * 0x20, 2, 1⟩
def SMPn_Sg_STAT_ALIGN_FAULT (p : Nat) (g : Nat) : RF := ⟨0x02002C0050 + p * 0x10000 + g * 0x20, 1, 1⟩
def SMPn_Sg_STAT_RATE_FAULT (p : Nat) (g : Nat) : RF := ⟨0x02002C0050 + p * 0x10000 + g * 0x20, 0, 1⟩
def SMPn_Sg_ALIGN_DELAY (p : Nat) (g : Nat) : RF := ⟨0x02002C0054 + p * 0x10000 + g * 0x20, 0, 16⟩
def SMPn_Sg_LEVEL_FRACTION (p : Nat) (g : Nat) : RF := ⟨0x02002C0058 + p * 0x10000 + g * 0x20, 0, 16⟩
def SMPn_Sg_BLANKED_COUNT (p : Nat) (g : Nat) : RF := ⟨0x02002C005C + p * 0x10000 + g * 0x20, 0, 32⟩
def SMPn_SPI_CFG_CS_GAP (p : Nat) : RF := ⟨0x02002C00A0 + p * 0x10000, 12, 4⟩
def SMPn_SPI_CFG_MODE (p : Nat) : RF := ⟨0x02002C00A0 + p * 0x10000, 8, 2⟩
def SMPn_SPI_CFG_DIV (p : Nat) : RF := ⟨0x02002C00A0 + p * 0x10000, 0, 8⟩
def SMPn_SPI_TX_WORD (p : Nat) : RF := ⟨0x02002C00A8 + p * 0x10000, 0, 64⟩
def SMPn_SPI_NOTICE_TAG (p : Nat) : RF := ⟨0x02002C00B0 + p * 0x10000, 16, 32⟩
def SMPn_SPI_NOTICE_EP (p : Nat) : RF := ⟨0x02002C00B0 + p * 0x10000, 0, 16⟩
def SMPn_SPI_STAT_DONE (p : Nat) : RF := ⟨0x02002C00B8 + p * 0x10000, 16, 16⟩
def SMPn_SPI_STAT_PENDING (p : Nat) : RF := ⟨0x02002C00B8 + p * 0x10000, 0, 5⟩
def GBB_CH_CFG_T_PILOT (c : Nat) : RF := ⟨0x0300000000 + c * 0x100, 56, 7⟩
def GBB_CH_CFG_T_DATA (c : Nat) : RF := ⟨0x0300000000 + c * 0x100, 49, 7⟩
def GBB_CH_CFG_VEVL_SPACING (c : Nat) : RF := ⟨0x0300000000 + c * 0x100, 40, 9⟩
def GBB_CH_CFG_EL_SPACING (c : Nat) : RF := ⟨0x0300000000 + c * 0x100, 32, 8⟩
def GBB_CH_CFG_PLL_ORDER (c : Nat) : RF := ⟨0x0300000000 + c * 0x100, 29, 1⟩
def GBB_CH_CFG_FLL_TRACK (c : Nat) : RF := ⟨0x0300000000 + c * 0x100, 28, 1⟩
def GBB_CH_CFG_AUTO_REACQ (c : Nat) : RF := ⟨0x0300000000 + c * 0x100, 27, 1⟩
def GBB_CH_CFG_BUMP_EN (c : Nat) : RF := ⟨0x0300000000 + c * 0x100, 26, 1⟩
def GBB_CH_CFG_DISC (c : Nat) : RF := ⟨0x0300000000 + c * 0x100, 24, 2⟩
def GBB_CH_CFG_NUMBER (c : Nat) : RF := ⟨0x0300000000 + c * 0x100, 16, 8⟩
def GBB_CH_CFG_STREAM (c : Nat) : RF := ⟨0x0300000000 + c * 0x100, 8, 4⟩
def GBB_CH_CFG_SIGNAL (c : Nat) : RF := ⟨0x0300000000 + c * 0x100, 0, 5⟩
def GBB_CH_LOOP_LOSS_COUNT (c : Nat) : RF := ⟨0x0300000008 + c * 0x100, 56, 8⟩
def GBB_CH_LOOP_LOSS_CN0 (c : Nat) : RF := ⟨0x0300000008 + c * 0x100, 48, 8⟩
def GBB_CH_LOOP_LOCK_CN0 (c : Nat) : RF := ⟨0x0300000008 + c * 0x100, 40, 8⟩
def GBB_CH_LOOP_CN0_AVG (c : Nat) : RF := ⟨0x0300000008 + c * 0x100, 32, 8⟩
def GBB_CH_LOOP_DLL_BW (c : Nat) : RF := ⟨0x0300000008 + c * 0x100, 20, 9⟩
def GBB_CH_LOOP_FLL_BW (c : Nat) : RF := ⟨0x0300000008 + c * 0x100, 12, 8⟩
def GBB_CH_LOOP_PLL_BW (c : Nat) : RF := ⟨0x0300000008 + c * 0x100, 0, 12⟩
def GBB_CH_RECOVER_VEC_TIMEOUT_MS (c : Nat) : RF := ⟨0x0300000010 + c * 0x100, 32, 10⟩
def GBB_CH_RECOVER_REACQ_DOPP (c : Nat) : RF := ⟨0x0300000010 + c * 0x100, 24, 8⟩
def GBB_CH_RECOVER_REACQ_CHIPS (c : Nat) : RF := ⟨0x0300000010 + c * 0x100, 16, 8⟩
def GBB_CH_RECOVER_COAST_MS (c : Nat) : RF := ⟨0x0300000010 + c * 0x100, 0, 11⟩
def GBB_CH_INIT_CODE_PHASE (c : Nat) : RF := ⟨0x0300000018 + c * 0x100, 0, 64⟩
def GBB_CH_INIT_DOPP_RATE (c : Nat) : RF := ⟨0x0300000020 + c * 0x100, 32, 32⟩
def GBB_CH_INIT_DOPP_DOPP (c : Nat) : RF := ⟨0x0300000020 + c * 0x100, 0, 32⟩
def GBB_CH_INIT_TIME_TIME (c : Nat) : RF := ⟨0x0300000028 + c * 0x100, 0, 64⟩
def GBB_CH_CMD_BUSY (c : Nat) : RF := ⟨0x0300000030 + c * 0x100, 31, 1⟩
def GBB_CH_CMD_STATUS (c : Nat) : RF := ⟨0x0300000030 + c * 0x100, 16, 8⟩
def GBB_CH_CMD_OP (c : Nat) : RF := ⟨0x0300000030 + c * 0x100, 0, 4⟩
def GBB_CH_STATUS_CN0 (c : Nat) : RF := ⟨0x0300000034 + c * 0x100, 16, 16⟩
def GBB_CH_STATUS_REACQ (c : Nat) : RF := ⟨0x0300000034 + c * 0x100, 8, 1⟩
def GBB_CH_STATUS_HALF_CYCLE (c : Nat) : RF := ⟨0x0300000034 + c * 0x100, 7, 1⟩
def GBB_CH_STATUS_SEC_SYNC (c : Nat) : RF := ⟨0x0300000034 + c * 0x100, 6, 1⟩
def GBB_CH_STATUS_BIT_SYNC (c : Nat) : RF := ⟨0x0300000034 + c * 0x100, 5, 1⟩
def GBB_CH_STATUS_FLL_LOCK (c : Nat) : RF := ⟨0x0300000034 + c * 0x100, 4, 1⟩
def GBB_CH_STATUS_PLL_LOCK (c : Nat) : RF := ⟨0x0300000034 + c * 0x100, 3, 1⟩
def GBB_CH_STATUS_STATE (c : Nat) : RF := ⟨0x0300000034 + c * 0x100, 0, 3⟩
def GBB_CH_NCO_CODE_ADJ (c : Nat) : RF := ⟨0x0300000038 + c * 0x100, 32, 32⟩
def GBB_CH_NCO_DOPP (c : Nat) : RF := ⟨0x0300000038 + c * 0x100, 0, 32⟩
def GBB_CH_NOTICE_TAG (c : Nat) : RF := ⟨0x0300000040 + c * 0x100, 16, 32⟩
def GBB_CH_NOTICE_EP (c : Nat) : RF := ⟨0x0300000040 + c * 0x100, 0, 16⟩
def GBB_CH_EVENTS_EVENT (c : Nat) : RF := ⟨0x0300000048 + c * 0x100, 0, 8⟩
def GBB_CH_EVENT_EN_EN (c : Nat) : RF := ⟨0x030000004C + c * 0x100, 0, 8⟩
def GBB_CH_STAT_REACQS (c : Nat) : RF := ⟨0x0300000050 + c * 0x100, 48, 16⟩
def GBB_CH_STAT_BUMPS (c : Nat) : RF := ⟨0x0300000050 + c * 0x100, 32, 16⟩
def GBB_CH_STAT_FALLBACKS (c : Nat) : RF := ⟨0x0300000050 + c * 0x100, 16, 16⟩
def GBB_CH_STAT_LOSSES (c : Nat) : RF := ⟨0x0300000050 + c * 0x100, 0, 16⟩
def GBB_CH_DUMP_CFG_DECIM (c : Nat) : RF := ⟨0x0300000058 + c * 0x100, 8, 8⟩
def GBB_CH_DUMP_CFG_RING_EN (c : Nat) : RF := ⟨0x0300000058 + c * 0x100, 0, 1⟩
def GBB_CFG_REACQ_THRESH : RF := ⟨0x0200200020, 16, 16⟩
def GBB_CFG_REACQ_NC : RF := ⟨0x0200200020, 8, 8⟩
def GBB_CFG_REACQ_PRIO : RF := ⟨0x0200200020, 0, 3⟩
def GBB_DUMP_BASE_BASE : RF := ⟨0x0200200028, 7, 33⟩
def GBB_DUMP_SIZE_ENTRIES : RF := ⟨0x0200200030, 0, 17⟩
def GBB_DUMP_WR_INDEX : RF := ⟨0x0200200034, 0, 16⟩
def GBB_DUMP_RD_INDEX : RF := ⟨0x0200200038, 0, 16⟩
def GBB_DUMP_Q_EN : RF := ⟨0x020020003C, 31, 1⟩
def GBB_DUMP_Q_PRIO : RF := ⟨0x020020003C, 8, 3⟩
def GBB_DUMP_Q_QUEUE : RF := ⟨0x020020003C, 0, 6⟩
def GBB_VEC_NOTICE_TAG : RF := ⟨0x0200200040, 16, 32⟩
def GBB_VEC_NOTICE_EP : RF := ⟨0x0200200040, 0, 16⟩
def GBB_SRCH_s_STAT_DONE (s : Nat) : RF := ⟨0x0200200048 + s * 0x4, 16, 16⟩
def GBB_SRCH_s_STAT_ACTIVE (s : Nat) : RF := ⟨0x0200200048 + s * 0x4, 4, 1⟩
def GBB_SRCH_s_STAT_QUEUED (s : Nat) : RF := ⟨0x0200200048 + s * 0x4, 0, 4⟩
def GBB_CLUSTERS_GATED : RF := ⟨0x0200200050, 0, 8⟩
def GBB_STAT_DUMP_DROPS_COUNT : RF := ⟨0x0200200058, 0, 32⟩
def GBB_STAT_WORD_LOST_COUNT : RF := ⟨0x020020005C, 0, 32⟩
def GBB_STAT_VEC_REFUSED_COUNT : RF := ⟨0x0200200060, 0, 32⟩
def GOB_CTRL_CAPTURE_EDGE : RF := ⟨0x0200210020, 10, 2⟩
def GOB_CTRL_CAPTURE_SEL : RF := ⟨0x0200210020, 6, 4⟩
def GOB_CTRL_STACK_PERIOD : RF := ⟨0x0200210020, 2, 1⟩
def GOB_CTRL_CAPTURE_EN : RF := ⟨0x0200210020, 1, 1⟩
def GOB_CTRL_PERIOD_EN : RF := ⟨0x0200210020, 0, 1⟩
def GOB_PERIOD_MS : RF := ⟨0x0200210024, 0, 14⟩
def GOB_PHASE_TICKS : RF := ⟨0x0200210028, 0, 30⟩
def GOB_STACK_LEAD_TICKS : RF := ⟨0x020021002C, 0, 32⟩
def GOB_SOFT_TIME_TIME : RF := ⟨0x0200210030, 0, 64⟩
def GOB_SOFT_PENDING : RF := ⟨0x0200210038, 31, 1⟩
def GOB_SOFT_STATUS : RF := ⟨0x0200210038, 16, 8⟩
def GOB_SOFT_STACK : RF := ⟨0x0200210038, 1, 1⟩
def GOB_SOFT_GO : RF := ⟨0x0200210038, 0, 1⟩
def GOB_SNAP_NOTICE_EN : RF := ⟨0x0200210040, 48, 1⟩
def GOB_SNAP_NOTICE_TAG : RF := ⟨0x0200210040, 16, 32⟩
def GOB_SNAP_NOTICE_EP : RF := ⟨0x0200210040, 0, 16⟩
def GOB_HOLD_BANK : RF := ⟨0x0200210048, 0, 2⟩
def GOB_LAST_SNAP_NUM : RF := ⟨0x020021004C, 0, 32⟩
def GOB_LAST_BANK_BANK : RF := ⟨0x0200210050, 0, 1⟩
def GOB_NEXT_TIME : RF := ⟨0x0200210058, 0, 64⟩
def GOB_STAT_SNAPS_COUNT : RF := ⟨0x0200210060, 0, 32⟩
def GOB_STAT_DEFERRED_COUNT : RF := ⟨0x0200210064, 0, 32⟩
def GOB_STAT_MERGED_COUNT : RF := ⟨0x0200210068, 0, 32⟩
def GOB_STAT_CONFLICTS_COUNT : RF := ⟨0x020021006C, 0, 32⟩
def GOB_STAT_MISSED_COUNT : RF := ⟨0x0200210070, 0, 32⟩
def GOB_STAT_NAV_WORD_LOST_COUNT : RF := ⟨0x0200210074, 0, 32⟩
def GOB_ISB_EST_s_VALID (s : Nat) : RF := ⟨0x0200210078 + s * 0x8, 32, 1⟩
def GOB_ISB_EST_s_EST (s : Nat) : RF := ⟨0x0200210078 + s * 0x8, 0, 32⟩
def GOB_NAV_Q_EN : RF := ⟨0x02002100C0, 31, 1⟩
def GOB_NAV_Q_PRIO : RF := ⟨0x02002100C0, 8, 3⟩
def GOB_NAV_Q_QUEUE : RF := ⟨0x02002100C0, 0, 6⟩
def GOB_NAV_CFG_c_Q_EN (c : Nat) : RF := ⟨0x0200211000 + c * 0x10, 2, 1⟩
def GOB_NAV_CFG_c_MODE (c : Nat) : RF := ⟨0x0200211000 + c * 0x10, 0, 2⟩
def GOB_NAV_PTR_c_WR (c : Nat) : RF := ⟨0x0200211004 + c * 0x10, 16, 5⟩
def GOB_NAV_PTR_c_RD (c : Nat) : RF := ⟨0x0200211004 + c * 0x10, 0, 5⟩
def GOB_NAV_LOST_c_COUNT (c : Nat) : RF := ⟨0x0200211008 + c * 0x10, 0, 32⟩
def POS_CTRL_U1_EN : RF := ⟨0x0200220020, 1, 1⟩
def POS_CTRL_U0_EN : RF := ⟨0x0200220020, 0, 1⟩
def POS_QUEUE_QUEUED : RF := ⟨0x0200220024, 0, 5⟩
def POS_UNIT_u_ACTIVE (u : Nat) : RF := ⟨0x0200220028 + u * 0x8, 63, 1⟩
def POS_UNIT_u_CLASS (u : Nat) : RF := ⟨0x0200220028 + u * 0x8, 60, 3⟩
def POS_UNIT_u_ADDR (u : Nat) : RF := ⟨0x0200220028 + u * 0x8, 0, 40⟩
def POS_STAT_DONE_COUNT : RF := ⟨0x0200220040, 0, 32⟩
def POS_STAT_BUDGET_COUNT : RF := ⟨0x0200220044, 0, 32⟩
def POS_STAT_DEADLINE_COUNT : RF := ⟨0x0200220048, 0, 32⟩
def POS_STAT_REFUSED_COUNT : RF := ⟨0x020022004C, 0, 32⟩
def POS_STAT_CANCELLED_COUNT : RF := ⟨0x0200220050, 0, 32⟩
def POS_STAT_NODES_COUNT : RF := ⟨0x0200220058, 0, 64⟩
def TIM_SRC_TIMEOUT : RF := ⟨0x0200060020, 16, 16⟩
def TIM_SRC_PPS_INPUT : RF := ⟨0x0200060020, 4, 4⟩
def TIM_SRC_SEL : RF := ⟨0x0200060020, 0, 3⟩
def TIM_STATUS_HOLD_S : RF := ⟨0x0200060024, 16, 16⟩
def TIM_STATUS_QUALITY : RF := ⟨0x0200060024, 0, 8⟩
def TIM_NOW_TICKS : RF := ⟨0x0200060028, 0, 64⟩
def TIM_LATCH_DONE : RF := ⟨0x0200060030, 31, 1⟩
def TIM_LATCH_GO : RF := ⟨0x0200060030, 0, 1⟩
def TIM_FREQ_FREQ : RF := ⟨0x0200060038, 0, 64⟩
def TIM_ADJ_PHASE_PHASE : RF := ⟨0x0200060040, 0, 64⟩
def TIM_ADJ_FREQ_FREQ : RF := ⟨0x0200060048, 0, 64⟩
def TIM_ADJ_CMD_BUSY : RF := ⟨0x0200060050, 31, 1⟩
def TIM_ADJ_CMD_STATUS : RF := ⟨0x0200060050, 16, 8⟩
def TIM_ADJ_CMD_SOURCE : RF := ⟨0x0200060050, 8, 3⟩
def TIM_ADJ_CMD_LOCKED : RF := ⟨0x0200060050, 3, 1⟩
def TIM_ADJ_CMD_PHASE_VALID : RF := ⟨0x0200060050, 2, 1⟩
def TIM_ADJ_CMD_FREQ_VALID : RF := ⟨0x0200060050, 1, 1⟩
def TIM_ADJ_CMD_GO : RF := ⟨0x0200060050, 0, 1⟩
def TIM_SLEW_MAX : RF := ⟨0x0200060054, 0, 19⟩
def TIM_STEP_THR_TICKS : RF := ⟨0x0200060058, 0, 32⟩
def TIM_SLEW_LEFT_LEFT : RF := ⟨0x0200060060, 0, 64⟩
def TIM_STEP_LEFT_LEFT : RF := ⟨0x0200060068, 0, 64⟩
def TIM_GPS_OFFSET_TICKS : RF := ⟨0x0200060070, 0, 64⟩
def TIM_LEAP_VALID : RF := ⟨0x0200060078, 17, 1⟩
def TIM_LEAP_PENDING : RF := ⟨0x0200060078, 16, 1⟩
def TIM_LEAP_NEXT : RF := ⟨0x0200060078, 8, 8⟩
def TIM_LEAP_CUR : RF := ⟨0x0200060078, 0, 8⟩
def TIM_LEAP_AT_SECONDS : RF := ⟨0x0200060080, 0, 64⟩
def TIM_MARK_TICKS : RF := ⟨0x0200060088, 0, 64⟩
def TIM_MARK_FRAC_FRAC : RF := ⟨0x0200060090, 0, 32⟩
def TIM_MARK_COUNT_COUNT : RF := ⟨0x0200060094, 0, 32⟩
def TIM_EVENTS_EVENT : RF := ⟨0x0200060098, 0, 7⟩
def TIM_EVENT_EN_EN : RF := ⟨0x020006009C, 0, 7⟩
def TIM_NOTICE_TAG : RF := ⟨0x02000600A0, 16, 32⟩
def TIM_NOTICE_EP : RF := ⟨0x02000600A0, 0, 16⟩
def TIM_TP_NOTICE_TAG : RF := ⟨0x02000600A8, 16, 32⟩
def TIM_TP_NOTICE_EP : RF := ⟨0x02000600A8, 0, 16⟩
def TIM_LT_TIME_TICKS : RF := ⟨0x02000600B0, 0, 64⟩
def TIM_LT_FRAC_FRAC : RF := ⟨0x02000600B8, 0, 32⟩
def TIM_LT_VIEW_v_SEC_SEC (v : Nat) : RF := ⟨0x0200060100 + v * 0x10, 0, 64⟩
def TIM_LT_VIEW_v_NS_LEAP_60 (v : Nat) : RF := ⟨0x0200060108 + v * 0x10, 31, 1⟩
def TIM_LT_VIEW_v_NS_VALID (v : Nat) : RF := ⟨0x0200060108 + v * 0x10, 30, 1⟩
def TIM_LT_VIEW_v_NS_NS (v : Nat) : RF := ⟨0x0200060108 + v * 0x10, 0, 30⟩
def TIM_TPp_CFG_ENABLE (p : Nat) : RF := ⟨0x0200060400 + p * 0x20, 31, 1⟩
def TIM_TPp_CFG_MODE (p : Nat) : RF := ⟨0x0200060400 + p * 0x20, 28, 3⟩
def TIM_TPp_CFG_POL (p : Nat) : RF := ⟨0x0200060400 + p * 0x20, 27, 1⟩
def TIM_TPp_CFG_FOREVER (p : Nat) : RF := ⟨0x0200060400 + p * 0x20, 26, 1⟩
def TIM_TPp_CFG_NOTICE_EN (p : Nat) : RF := ⟨0x0200060400 + p * 0x20, 25, 1⟩
def TIM_TPp_CFG_SRC (p : Nat) : RF := ⟨0x0200060400 + p * 0x20, 20, 4⟩
def TIM_TPp_CFG_COUNT (p : Nat) : RF := ⟨0x0200060400 + p * 0x20, 0, 16⟩
def TIM_TPp_DELAY_DELAY (p : Nat) : RF := ⟨0x0200060404 + p * 0x20, 0, 16⟩
def TIM_TPp_START_TICKS (p : Nat) : RF := ⟨0x0200060408 + p * 0x20, 0, 64⟩
def TIM_TPp_PERIOD_TICKS (p : Nat) : RF := ⟨0x0200060410 + p * 0x20, 0, 32⟩
def TIM_TPp_WIDTH_TICKS (p : Nat) : RF := ⟨0x0200060414 + p * 0x20, 0, 32⟩
def TIM_TPp_STAT_HIGH (p : Nat) : RF := ⟨0x0200060418 + p * 0x20, 31, 1⟩
def TIM_TPp_STAT_DONE (p : Nat) : RF := ⟨0x0200060418 + p * 0x20, 30, 1⟩
def TIM_TPp_STAT_STATUS (p : Nat) : RF := ⟨0x0200060418 + p * 0x20, 16, 8⟩
def TIM_TPp_STAT_IGNORED (p : Nat) : RF := ⟨0x0200060418 + p * 0x20, 0, 16⟩
def TIM_TPp_PULSES_COUNT (p : Nat) : RF := ⟨0x020006041C + p * 0x20, 0, 32⟩
def TIM_TCn_CFG_ENABLE (n : Nat) : RF := ⟨0x0200060800 + n * 0x20, 31, 1⟩
def TIM_TCn_CFG_EDGE (n : Nat) : RF := ⟨0x0200060800 + n * 0x20, 28, 2⟩
def TIM_TCn_CFG_NOTICE_EN (n : Nat) : RF := ⟨0x0200060800 + n * 0x20, 27, 1⟩
def TIM_TCn_NOTICE_TAG (n : Nat) : RF := ⟨0x0200060808 + n * 0x20, 16, 32⟩
def TIM_TCn_NOTICE_EP (n : Nat) : RF := ⟨0x0200060808 + n * 0x20, 0, 16⟩
def TIM_TCn_STAMP_STAMP (n : Nat) : RF := ⟨0x0200060810 + n * 0x20, 0, 64⟩
def TIM_TCn_STAT_OVERFLOW (n : Nat) : RF := ⟨0x0200060818 + n * 0x20, 31, 1⟩
def TIM_TCn_STAT_LEVEL (n : Nat) : RF := ⟨0x0200060818 + n * 0x20, 30, 1⟩
def TIM_TCn_STAT_COUNT (n : Nat) : RF := ⟨0x0200060818 + n * 0x20, 16, 3⟩
def TIM_TCn_STAT_CLOSE (n : Nat) : RF := ⟨0x0200060818 + n * 0x20, 0, 16⟩
def ETH_PTPp_CFG_STAMP_EN (p : Nat) : RF := ⟨0x0200280100 + p * 0x40, 31, 1⟩
def ETH_PTPp_CFG_ONE_STEP (p : Nat) : RF := ⟨0x0200280100 + p * 0x40, 30, 1⟩
def ETH_PTPp_CFG_L2 (p : Nat) : RF := ⟨0x0200280100 + p * 0x40, 29, 1⟩
def ETH_PTPp_CFG_UDP4 (p : Nat) : RF := ⟨0x0200280100 + p * 0x40, 28, 1⟩
def ETH_PTPp_CFG_UDP6 (p : Nat) : RF := ⟨0x0200280100 + p * 0x40, 27, 1⟩
def ETH_PTPp_CFG_STAMP_ALL (p : Nat) : RF := ⟨0x0200280100 + p * 0x40, 26, 1⟩
def ETH_PTPp_LAT_RX_LAT (p : Nat) : RF := ⟨0x0200280104 + p * 0x40, 16, 16⟩
def ETH_PTPp_LAT_TX_LAT (p : Nat) : RF := ⟨0x0200280104 + p * 0x40, 0, 16⟩
def ETH_PTPp_TXTS_ID_VALID (p : Nat) : RF := ⟨0x0200280108 + p * 0x40, 31, 1⟩
def ETH_PTPp_TXTS_ID_ID (p : Nat) : RF := ⟨0x0200280108 + p * 0x40, 0, 16⟩
def ETH_PTPp_TXTS_STAMP_STAMP (p : Nat) : RF := ⟨0x0200280110 + p * 0x40, 0, 64⟩
def ETH_PTPp_TXTS_STAT_OVERFLOW (p : Nat) : RF := ⟨0x0200280118 + p * 0x40, 31, 1⟩
def ETH_PTPp_TXTS_STAT_COUNT (p : Nat) : RF := ⟨0x0200280118 + p * 0x40, 16, 5⟩
def ETH_PTPp_TXTS_STAT_LOST (p : Nat) : RF := ⟨0x0200280118 + p * 0x40, 0, 16⟩
def ETH_PTPp_NOTICE_EN (p : Nat) : RF := ⟨0x0200280120 + p * 0x40, 48, 1⟩
def ETH_PTPp_NOTICE_TAG (p : Nat) : RF := ⟨0x0200280120 + p * 0x40, 16, 32⟩
def ETH_PTPp_NOTICE_EP (p : Nat) : RF := ⟨0x0200280120 + p * 0x40, 0, 16⟩
def ETH_Pp_MACCFG_ENABLE (p : Nat) : RF := ⟨0x0200280200 + p * 0x80, 31, 1⟩
def ETH_Pp_MACCFG_MODE (p : Nat) : RF := ⟨0x0200280200 + p * 0x80, 30, 1⟩
def ETH_Pp_MACCFG_AN_EN (p : Nat) : RF := ⟨0x0200280200 + p * 0x80, 29, 1⟩
def ETH_Pp_MACCFG_PAUSE_EN (p : Nat) : RF := ⟨0x0200280200 + p * 0x80, 28, 1⟩
def ETH_Pp_MACCFG_PROMISC (p : Nat) : RF := ⟨0x0200280200 + p * 0x80, 27, 1⟩
def ETH_Pp_MAC_ADDR (p : Nat) : RF := ⟨0x0200280208 + p * 0x80, 0, 48⟩
def ETH_Pp_HASH_BITS (p : Nat) : RF := ⟨0x0200280210 + p * 0x80, 0, 64⟩
def ETH_Pp_LINK_UP (p : Nat) : RF := ⟨0x0200280218 + p * 0x80, 31, 1⟩
def ETH_Pp_LINK_SPEED (p : Nat) : RF := ⟨0x0200280218 + p * 0x80, 16, 2⟩
def ETH_Pp_LINK_PARTNER (p : Nat) : RF := ⟨0x0200280218 + p * 0x80, 0, 16⟩
def ETH_Pp_RX_BASE_BASE (p : Nat) : RF := ⟨0x0200280220 + p * 0x80, 11, 29⟩
def ETH_Pp_RX_SIZE_ENTRIES (p : Nat) : RF := ⟨0x0200280228 + p * 0x80, 0, 13⟩
def ETH_Pp_RX_WR_INDEX (p : Nat) : RF := ⟨0x020028022C + p * 0x80, 0, 12⟩
def ETH_Pp_RX_RD_INDEX (p : Nat) : RF := ⟨0x0200280230 + p * 0x80, 0, 12⟩
def ETH_Pp_RX_NOTICE_EN (p : Nat) : RF := ⟨0x0200280238 + p * 0x80, 48, 1⟩
def ETH_Pp_RX_NOTICE_TAG (p : Nat) : RF := ⟨0x0200280238 + p * 0x80, 16, 32⟩
def ETH_Pp_RX_NOTICE_EP (p : Nat) : RF := ⟨0x0200280238 + p * 0x80, 0, 16⟩
def ETH_Pp_RX_Q_EN (p : Nat) : RF := ⟨0x0200280240 + p * 0x80, 31, 1⟩
def ETH_Pp_RX_Q_PRIO (p : Nat) : RF := ⟨0x0200280240 + p * 0x80, 8, 3⟩
def ETH_Pp_RX_Q_QUEUE (p : Nat) : RF := ⟨0x0200280240 + p * 0x80, 0, 6⟩
def ETH_Pp_TXNOTICE_EN (p : Nat) : RF := ⟨0x0200280248 + p * 0x80, 48, 1⟩
def ETH_Pp_TXNOTICE_TAG (p : Nat) : RF := ⟨0x0200280248 + p * 0x80, 16, 32⟩
def ETH_Pp_TXNOTICE_EP (p : Nat) : RF := ⟨0x0200280248 + p * 0x80, 0, 16⟩
def ETH_Pp_STAT_RX_DROPS (p : Nat) : RF := ⟨0x0200280250 + p * 0x80, 48, 16⟩
def ETH_Pp_STAT_RX_BAD (p : Nat) : RF := ⟨0x0200280250 + p * 0x80, 32, 16⟩
def ETH_Pp_STAT_RX_WORD_LOST (p : Nat) : RF := ⟨0x0200280250 + p * 0x80, 16, 16⟩
def ETH_Pp_STAT_PAUSED (p : Nat) : RF := ⟨0x0200280250 + p * 0x80, 0, 16⟩
def ETH_Pp_TXSTAT_OCCUPIED (p : Nat) : RF := ⟨0x0200280258 + p * 0x80, 0, 6⟩
def RAD_CFG_SCA : RF := ⟨0x0200230020, 16, 3⟩
def RAD_CFG_NETWORK : RF := ⟨0x0200230020, 0, 16⟩
def RAD_NOTICE_EN : RF := ⟨0x0200230028, 48, 1⟩
def RAD_NOTICE_TAG : RF := ⟨0x0200230028, 16, 32⟩
def RAD_NOTICE_EP : RF := ⟨0x0200230028, 0, 16⟩
def RAD_NOTICE_EN_EN : RF := ⟨0x0200230030, 0, 8⟩
def RAD_CLOCK_TICKS : RF := ⟨0x0200230038, 0, 64⟩
def RADn_CFG_ENABLE (n : Nat) : RF := ⟨0x0200230100 + n * 0x100, 31, 1⟩
def RADn_CFG_BAND (n : Nat) : RF := ⟨0x0200230100 + n * 0x100, 29, 2⟩
def RADn_CFG_RATE (n : Nat) : RF := ⟨0x0200230100 + n * 0x100, 27, 2⟩
def RADn_CFG_STOP_RATE (n : Nat) : RF := ⟨0x0200230100 + n * 0x100, 25, 2⟩
def RADn_CFG_PREAMBLE (n : Nat) : RF := ⟨0x0200230100 + n * 0x100, 20, 5⟩
def RADn_CFG_POWER (n : Nat) : RF := ⟨0x0200230100 + n * 0x100, 12, 8⟩
def RADn_CFG_RAMP_US (n : Nat) : RF := ⟨0x0200230100 + n * 0x100, 0, 8⟩
def RADn_LEAD_TX_LEAD_US (n : Nat) : RF := ⟨0x0200230104 + n * 0x100, 0, 5⟩
def RADn_SYNC_WORD (n : Nat) : RF := ⟨0x0200230108 + n * 0x100, 0, 32⟩
def RADn_BEACON_EN (n : Nat) : RF := ⟨0x0200230110 + n * 0x100, 63, 1⟩
def RADn_BEACON_CLASS (n : Nat) : RF := ⟨0x0200230110 + n * 0x100, 60, 3⟩
def RADn_BEACON_INTERVAL (n : Nat) : RF := ⟨0x0200230110 + n * 0x100, 32, 12⟩
def RADn_BEACON_COUNT (n : Nat) : RF := ⟨0x0200230110 + n * 0x100, 18, 2⟩
def RADn_BEACON_CH2 (n : Nat) : RF := ⟨0x0200230110 + n * 0x100, 12, 6⟩
def RADn_BEACON_CH1 (n : Nat) : RF := ⟨0x0200230110 + n * 0x100, 6, 6⟩
def RADn_BEACON_CH0 (n : Nat) : RF := ⟨0x0200230110 + n * 0x100, 0, 6⟩
def RADn_STOP_COUNT (n : Nat) : RF := ⟨0x0200230118 + n * 0x100, 24, 3⟩
def RADn_STOP_CH3 (n : Nat) : RF := ⟨0x0200230118 + n * 0x100, 18, 6⟩
def RADn_STOP_CH2 (n : Nat) : RF := ⟨0x0200230118 + n * 0x100, 12, 6⟩
def RADn_STOP_CH1 (n : Nat) : RF := ⟨0x0200230118 + n * 0x100, 6, 6⟩
def RADn_STOP_CH0 (n : Nat) : RF := ⟨0x0200230118 + n * 0x100, 0, 6⟩
def RADn_UNKNOWN_ID_ROBOT_ID (n : Nat) : RF := ⟨0x0200230120 + n * 0x100, 0, 64⟩
def RADn_SBs_FREQ_SPACING (n : Nat) (s : Nat) : RF := ⟨0x0200230140 + n * 0x100 + s * 0x20, 26, 6⟩
def RADn_SBs_FREQ_BASE (n : Nat) (s : Nat) : RF := ⟨0x0200230140 + n * 0x100 + s * 0x20, 0, 22⟩
def RADn_SBs_LIMIT_LIMIT_US (n : Nat) (s : Nat) : RF := ⟨0x0200230144 + n * 0x100 + s * 0x20, 0, 32⟩
def RADn_SBs_BUDGET_EN (n : Nat) (s : Nat) : RF := ⟨0x0200230148 + n * 0x100 + s * 0x20, 31, 1⟩
def RADn_SBs_BUDGET_LOW_EN (n : Nat) (s : Nat) : RF := ⟨0x0200230148 + n * 0x100 + s * 0x20, 30, 1⟩
def RADn_SBs_BUDGET_LOW (n : Nat) (s : Nat) : RF := ⟨0x0200230148 + n * 0x100 + s * 0x20, 8, 8⟩
def RADn_SBs_BUDGET_RESERVE (n : Nat) (s : Nat) : RF := ⟨0x0200230148 + n * 0x100 + s * 0x20, 0, 8⟩
def RADn_SBs_USED_STOP_US (n : Nat) (s : Nat) : RF := ⟨0x0200230150 + n * 0x100 + s * 0x20, 32, 32⟩
def RADn_SBs_USED_ORD_US (n : Nat) (s : Nat) : RF := ⟨0x0200230150 + n * 0x100 + s * 0x20, 0, 32⟩
def RADn_SBs_SKIPS_STOP_SKIPS (n : Nat) (s : Nat) : RF := ⟨0x0200230158 + n * 0x100 + s * 0x20, 16, 16⟩
def RADn_SBs_SKIPS_BUDGET_SKIPS (n : Nat) (s : Nat) : RF := ⟨0x0200230158 + n * 0x100 + s * 0x20, 0, 16⟩
def RAD_Aa_ID_ROBOT_ID (a : Nat) : RF := ⟨0x0200231000 + a * 0x40, 0, 64⟩
def RAD_Aa_CFG_FLOW (a : Nat) : RF := ⟨0x0200231008 + a * 0x40, 40, 12⟩
def RAD_Aa_CFG_CLASS (a : Nat) : RF := ⟨0x0200231008 + a * 0x40, 37, 3⟩
def RAD_Aa_CFG_AUTO_REJOIN (a : Nat) : RF := ⟨0x0200231008 + a * 0x40, 36, 1⟩
def RAD_Aa_CFG_PORT (a : Nat) : RF := ⟨0x0200231008 + a * 0x40, 34, 2⟩
def RAD_Aa_CFG_SUBBAND (a : Nat) : RF := ⟨0x0200231008 + a * 0x40, 32, 2⟩
def RAD_Aa_CFG_RX_MAX (a : Nat) : RF := ⟨0x0200231008 + a * 0x40, 0, 11⟩
def RAD_Aa_TIMING_EVENT_MAX_US (a : Nat) : RF := ⟨0x0200231010 + a * 0x40, 48, 16⟩
def RAD_Aa_TIMING_ANCHOR (a : Nat) : RF := ⟨0x0200231010 + a * 0x40, 36, 12⟩
def RAD_Aa_TIMING_INTERVAL (a : Nat) : RF := ⟨0x0200231010 + a * 0x40, 24, 12⟩
def RAD_Aa_TIMING_SLEEP (a : Nat) : RF := ⟨0x0200231010 + a * 0x40, 15, 9⟩
def RAD_Aa_TIMING_TIMEOUT (a : Nat) : RF := ⟨0x0200231010 + a * 0x40, 0, 12⟩
def RAD_Aa_CHMAP_INC (a : Nat) : RF := ⟨0x0200231018 + a * 0x40, 52, 6⟩
def RAD_Aa_CHMAP_SEED (a : Nat) : RF := ⟨0x0200231018 + a * 0x40, 46, 6⟩
def RAD_Aa_CHMAP_MAP (a : Nat) : RF := ⟨0x0200231018 + a * 0x40, 0, 40⟩
def RAD_Aa_NEXT_TIMING_EVENT_MAX_US (a : Nat) : RF := ⟨0x0200231020 + a * 0x40, 48, 16⟩
def RAD_Aa_NEXT_TIMING_ANCHOR (a : Nat) : RF := ⟨0x0200231020 + a * 0x40, 36, 12⟩
def RAD_Aa_NEXT_TIMING_INTERVAL (a : Nat) : RF := ⟨0x0200231020 + a * 0x40, 24, 12⟩
def RAD_Aa_NEXT_TIMING_SLEEP (a : Nat) : RF := ⟨0x0200231020 + a * 0x40, 15, 9⟩
def RAD_Aa_NEXT_TIMING_TIMEOUT (a : Nat) : RF := ⟨0x0200231020 + a * 0x40, 0, 12⟩
def RAD_Aa_NEXT_MAP_INC (a : Nat) : RF := ⟨0x0200231028 + a * 0x40, 52, 6⟩
def RAD_Aa_NEXT_MAP_SEED (a : Nat) : RF := ⟨0x0200231028 + a * 0x40, 46, 6⟩
def RAD_Aa_NEXT_MAP_MAP (a : Nat) : RF := ⟨0x0200231028 + a * 0x40, 0, 40⟩
def RAD_Aa_GROUPS_MASK (a : Nat) : RF := ⟨0x0200231030 + a * 0x40, 0, 16⟩
def RAD_Aa_CMD_BUSY (a : Nat) : RF := ⟨0x0200231034 + a * 0x40, 31, 1⟩
def RAD_Aa_CMD_STATUS (a : Nat) : RF := ⟨0x0200231034 + a * 0x40, 16, 8⟩
def RAD_Aa_CMD_OP (a : Nat) : RF := ⟨0x0200231034 + a * 0x40, 0, 4⟩
def RAD_Aa_STATUS_EVENT (a : Nat) : RF := ⟨0x0200231038 + a * 0x40, 48, 16⟩
def RAD_Aa_STATUS_WIDEN_US (a : Nat) : RF := ⟨0x0200231038 + a * 0x40, 24, 24⟩
def RAD_Aa_STATUS_ROBOT_SCA (a : Nat) : RF := ⟨0x0200231038 + a * 0x40, 21, 3⟩
def RAD_Aa_STATUS_BEYOND_GUARD (a : Nat) : RF := ⟨0x0200231038 + a * 0x40, 20, 1⟩
def RAD_Aa_STATUS_FRESH (a : Nat) : RF := ⟨0x0200231038 + a * 0x40, 19, 1⟩
def RAD_Aa_STATUS_PENDING (a : Nat) : RF := ⟨0x0200231038 + a * 0x40, 14, 5⟩
def RAD_Aa_STATUS_STATE (a : Nat) : RF := ⟨0x0200231038 + a * 0x40, 0, 3⟩
def RAD_Gg_CFG_EN (g : Nat) : RF := ⟨0x0200232000 + g * 0x20, 63, 1⟩
def RAD_Gg_CFG_CLASS (g : Nat) : RF := ⟨0x0200232000 + g * 0x20, 60, 3⟩
def RAD_Gg_CFG_PORT (g : Nat) : RF := ⟨0x0200232000 + g * 0x20, 58, 2⟩
def RAD_Gg_CFG_SUBBAND (g : Nat) : RF := ⟨0x0200232000 + g * 0x20, 56, 2⟩
def RAD_Gg_CFG_REPEAT (g : Nat) : RF := ⟨0x0200232000 + g * 0x20, 50, 2⟩
def RAD_Gg_CFG_PERIOD (g : Nat) : RF := ⟨0x0200232000 + g * 0x20, 36, 12⟩
def RAD_Gg_CFG_OFFSET (g : Nat) : RF := ⟨0x0200232000 + g * 0x20, 24, 12⟩
def RAD_Gg_CHMAP_INC (g : Nat) : RF := ⟨0x0200232008 + g * 0x20, 52, 6⟩
def RAD_Gg_CHMAP_SEED (g : Nat) : RF := ⟨0x0200232008 + g * 0x20, 46, 6⟩
def RAD_Gg_CHMAP_MAP (g : Nat) : RF := ⟨0x0200232008 + g * 0x20, 0, 40⟩
def RAD_Gg_STAT_EVENT (g : Nat) : RF := ⟨0x0200232010 + g * 0x20, 16, 16⟩
def RAD_Gg_STAT_PENDING (g : Nat) : RF := ⟨0x0200232010 + g * 0x20, 0, 5⟩
def ZON_CTRL_ENABLE : RF := ⟨0x0200240020, 31, 1⟩
def ZON_CTRL_REBUILD : RF := ⟨0x0200240020, 2, 1⟩
def ZON_CTRL_STOP_REFUSE : RF := ⟨0x0200240020, 1, 1⟩
def ZON_TABLE_A_BASE : RF := ⟨0x0200240028, 16, 24⟩
def ZON_TABLE_B_BASE : RF := ⟨0x0200240030, 16, 24⟩
def ZON_TABLE_CFG_LOG2_ENTRIES : RF := ⟨0x0200240038, 0, 5⟩
def ZON_2PC_HOLD_MS : RF := ⟨0x020024003C, 0, 16⟩
def ZON_QUEUE_ACTIVE : RF := ⟨0x0200240040, 8, 1⟩
def ZON_QUEUE_QUEUED : RF := ⟨0x0200240040, 0, 6⟩
def ZON_LIVE_ENTRIES_COUNT : RF := ⟨0x0200240044, 0, 21⟩
def ZON_LIVE_TRACKS_COUNT : RF := ⟨0x0200240048, 0, 17⟩
def ZON_STAT_RESERVED_COUNT : RF := ⟨0x0200240050, 0, 32⟩
def ZON_STAT_CONFLICTS_COUNT : RF := ⟨0x0200240054, 0, 32⟩
def ZON_STAT_CELLS_COUNT : RF := ⟨0x0200240058, 0, 64⟩
def ZON_STAT_EXPIRED_COUNT : RF := ⟨0x0200240060, 0, 32⟩
def ZON_STAT_CROSS_COUNT : RF := ⟨0x0200240064, 0, 32⟩
def ZON_STAT_REFUSED_COUNT : RF := ⟨0x0200240068, 0, 32⟩
def ZON_Ff_CFG_VALID (f : Nat) : RF := ⟨0x0200240100 + f * 0x20, 31, 1⟩
def ZON_Ff_CFG_TILE_SHIFT (f : Nat) : RF := ⟨0x0200240100 + f * 0x20, 24, 4⟩
def ZON_Ff_CFG_CELL_DM (f : Nat) : RF := ⟨0x0200240100 + f * 0x20, 16, 8⟩
def ZON_Ff_CFG_QUANTUM_MS (f : Nat) : RF := ⟨0x0200240100 + f * 0x20, 0, 14⟩
def ZON_Ff_ROT_ROT (f : Nat) : RF := ⟨0x0200240104 + f * 0x20, 0, 16⟩
def ZON_Ff_ORIGIN_N (f : Nat) : RF := ⟨0x0200240108 + f * 0x20, 32, 32⟩
def ZON_Ff_ORIGIN_E (f : Nat) : RF := ⟨0x0200240108 + f * 0x20, 0, 32⟩
def ZON_Ff_EPOCH_TICKS (f : Nat) : RF := ⟨0x0200240110 + f * 0x20, 0, 64⟩
def ZON_Ff_SLOT_SLOT (f : Nat) : RF := ⟨0x0200240118 + f * 0x20, 0, 32⟩
def ZON_Ff_LIVE_COUNT (f : Nat) : RF := ⟨0x020024011C + f * 0x20, 0, 21⟩
def ZON_SHARD_MAPi_MEMBER7 (i : Nat) : RF := ⟨0x0200240200 + i * 0x4, 28, 4⟩
def ZON_SHARD_MAPi_MEMBER6 (i : Nat) : RF := ⟨0x0200240200 + i * 0x4, 24, 4⟩
def ZON_SHARD_MAPi_MEMBER5 (i : Nat) : RF := ⟨0x0200240200 + i * 0x4, 20, 4⟩
def ZON_SHARD_MAPi_MEMBER4 (i : Nat) : RF := ⟨0x0200240200 + i * 0x4, 16, 4⟩
def ZON_SHARD_MAPi_MEMBER3 (i : Nat) : RF := ⟨0x0200240200 + i * 0x4, 12, 4⟩
def ZON_SHARD_MAPi_MEMBER2 (i : Nat) : RF := ⟨0x0200240200 + i * 0x4, 8, 4⟩
def ZON_SHARD_MAPi_MEMBER1 (i : Nat) : RF := ⟨0x0200240200 + i * 0x4, 4, 4⟩
def ZON_SHARD_MAPi_MEMBER0 (i : Nat) : RF := ⟨0x0200240200 + i * 0x4, 0, 4⟩
def REF_STOP_STATUS_LATCHED : RF := ⟨0x0200020400, 31, 1⟩
def REF_STOP_STATUS_ARMED : RF := ⟨0x0200020400, 30, 1⟩
def REF_STOP_STATUS_DISAGREE : RF := ⟨0x0200020400, 29, 1⟩
def REF_STOP_STATUS_PIN_A : RF := ⟨0x0200020400, 28, 1⟩
def REF_STOP_STATUS_PIN_B : RF := ⟨0x0200020400, 27, 1⟩
def REF_STOP_STATUS_SOURCES : RF := ⟨0x0200020400, 16, 8⟩
def REF_STOP_STATUS_REASON : RF := ⟨0x0200020400, 8, 8⟩
def REF_STOP_STATUS_ORIGIN : RF := ⟨0x0200020400, 0, 4⟩
def REF_STOP_ID_STOP_ID : RF := ⟨0x0200020404, 0, 32⟩
def REF_STOP_TIME_STAMP : RF := ⟨0x0200020408, 0, 64⟩
def REF_STOP_LOCAL_TIME_STAMP : RF := ⟨0x0200020410, 0, 64⟩
def REF_STOP_RAISE_REASON : RF := ⟨0x0200020418, 0, 8⟩
def REF_STOP_CMD_BUSY : RF := ⟨0x020002041C, 31, 1⟩
def REF_STOP_CMD_STATUS : RF := ⟨0x020002041C, 16, 8⟩
def REF_STOP_CMD_OP : RF := ⟨0x020002041C, 0, 2⟩
def REF_STOP_CFG_PWRFAIL_STOP : RF := ⟨0x0200020420, 31, 1⟩
def REF_STOP_CFG_DISAGREE_MS : RF := ⟨0x0200020420, 0, 10⟩
def REF_FENCE_EN_EN : RF := ⟨0x0200020424, 0, 16⟩
def REF_FENCE_FB_LEVEL : RF := ⟨0x0200020428, 0, 16⟩
def REF_PWEN_EN_EN : RF := ⟨0x020002042C, 0, 4⟩
def REF_PWEN_FB_LEVEL : RF := ⟨0x0200020430, 0, 4⟩
def REF_STOP_NOTICE_EN : RF := ⟨0x0200020438, 48, 1⟩
def REF_STOP_NOTICE_TAG : RF := ⟨0x0200020438, 16, 32⟩
def REF_STOP_NOTICE_EP : RF := ⟨0x0200020438, 0, 16⟩
def REF_STOP_STAT_RAISES : RF := ⟨0x0200020440, 16, 16⟩
def REF_STOP_STAT_STOPS : RF := ⟨0x0200020440, 0, 16⟩
def MCH_IL_STATE_ACTIVE : RF := ⟨0x0200250020, 0, 32⟩
def MCH_IL_SOFT_SET_SOFT : RF := ⟨0x0200250024, 0, 32⟩
def MCH_IL_SOFT_CLR_SOFT : RF := ⟨0x0200250028, 0, 32⟩
def MCH_NOTICE_EN : RF := ⟨0x0200250030, 48, 1⟩
def MCH_NOTICE_TAG : RF := ⟨0x0200250030, 16, 32⟩
def MCH_NOTICE_EP : RF := ⟨0x0200250030, 0, 16⟩
def MCH_NOTICE_EN_EN : RF := ⟨0x0200250038, 0, 5⟩
def MCH_ILi_SRC_INVERT (i : Nat) : RF := ⟨0x0200250100 + i * 0x4, 11, 1⟩
def MCH_ILi_SRC_KIND (i : Nat) : RF := ⟨0x0200250100 + i * 0x4, 8, 3⟩
def MCH_ILi_SRC_INDEX (i : Nat) : RF := ⟨0x0200250100 + i * 0x4, 0, 6⟩
def MCH_MFs_CFG_CLASS (s : Nat) : RF := ⟨0x0200251000 + s * 0x80, 28, 3⟩
def MCH_MFs_CFG_STOP_MODE (s : Nat) : RF := ⟨0x0200251000 + s * 0x80, 26, 2⟩
def MCH_MFs_CFG_MODE (s : Nat) : RF := ⟨0x0200251000 + s * 0x80, 25, 1⟩
def MCH_MFs_CFG_RATE_EN (s : Nat) : RF := ⟨0x0200251000 + s * 0x80, 24, 1⟩
def MCH_MFs_CFG_STALE_EN (s : Nat) : RF := ⟨0x0200251000 + s * 0x80, 23, 1⟩
def MCH_MFs_CFG_LATE_LIMIT (s : Nat) : RF := ⟨0x0200251000 + s * 0x80, 8, 8⟩
def MCH_MFs_TIMING_PERIOD (s : Nat) : RF := ⟨0x0200251004 + s * 0x80, 21, 11⟩
def MCH_MFs_TIMING_PHASE (s : Nat) : RF := ⟨0x0200251004 + s * 0x80, 0, 17⟩
def MCH_MFs_MEAS_SRC_AGE_MS (s : Nat) : RF := ⟨0x0200251008 + s * 0x80, 32, 16⟩
def MCH_MFs_MEAS_SRC_SIGNED (s : Nat) : RF := ⟨0x0200251008 + s * 0x80, 24, 1⟩
def MCH_MFs_MEAS_SRC_WIDTH (s : Nat) : RF := ⟨0x0200251008 + s * 0x80, 22, 2⟩
def MCH_MFs_MEAS_SRC_BYTE (s : Nat) : RF := ⟨0x0200251008 + s * 0x80, 16, 6⟩
def MCH_MFs_MEAS_SRC_INDEX (s : Nat) : RF := ⟨0x0200251008 + s * 0x80, 4, 11⟩
def MCH_MFs_MEAS_SRC_KIND (s : Nat) : RF := ⟨0x0200251008 + s * 0x80, 0, 3⟩
def MCH_MFs_MEAS_SCALE_M_OFFSET (s : Nat) : RF := ⟨0x0200251010 + s * 0x80, 32, 32⟩
def MCH_MFs_MEAS_SCALE_M_GAIN (s : Nat) : RF := ⟨0x0200251010 + s * 0x80, 0, 32⟩
def MCH_MFs_BIND_SIGNED (s : Nat) : RF := ⟨0x0200251018 + s * 0x80, 53, 1⟩
def MCH_MFs_BIND_WIDTH (s : Nat) : RF := ⟨0x0200251018 + s * 0x80, 51, 2⟩
def MCH_MFs_BIND_BYTE (s : Nat) : RF := ⟨0x0200251018 + s * 0x80, 48, 3⟩
def MCH_MFs_BIND_IDE (s : Nat) : RF := ⟨0x0200251018 + s * 0x80, 45, 1⟩
def MCH_MFs_BIND_ID (s : Nat) : RF := ⟨0x0200251018 + s * 0x80, 16, 29⟩
def MCH_MFs_BIND_CTRL (s : Nat) : RF := ⟨0x0200251018 + s * 0x80, 9, 3⟩
def MCH_MFs_BIND_INDEX (s : Nat) : RF := ⟨0x0200251018 + s * 0x80, 4, 5⟩
def MCH_MFs_BIND_KIND (s : Nat) : RF := ⟨0x0200251018 + s * 0x80, 0, 3⟩
def MCH_MFs_CAN_DATA_TEMPLATE (s : Nat) : RF := ⟨0x0200251020 + s * 0x80, 0, 64⟩
def MCH_MFs_ACT_SCALE_A_OFFSET (s : Nat) : RF := ⟨0x0200251028 + s * 0x80, 32, 32⟩
def MCH_MFs_ACT_SCALE_A_GAIN (s : Nat) : RF := ⟨0x0200251028 + s * 0x80, 0, 32⟩
def MCH_MFs_OUT_LIM_OUT_MAX (s : Nat) : RF := ⟨0x0200251030 + s * 0x80, 32, 32⟩
def MCH_MFs_OUT_LIM_OUT_MIN (s : Nat) : RF := ⟨0x0200251030 + s * 0x80, 0, 32⟩
def MCH_MFs_SP_LIM_SP_MAX (s : Nat) : RF := ⟨0x0200251038 + s * 0x80, 32, 32⟩
def MCH_MFs_SP_LIM_SP_MIN (s : Nat) : RF := ⟨0x0200251038 + s * 0x80, 0, 32⟩
def MCH_MFs_RATE_STOP_STEP (s : Nat) : RF := ⟨0x0200251040 + s * 0x80, 32, 31⟩
def MCH_MFs_RATE_RATE_STEP (s : Nat) : RF := ⟨0x0200251040 + s * 0x80, 0, 31⟩
def MCH_MFs_NEUTRAL_NEUTRAL (s : Nat) : RF := ⟨0x0200251048 + s * 0x80, 0, 32⟩
def MCH_MFs_IL_MASK_MASK (s : Nat) : RF := ⟨0x020025104C + s * 0x80, 0, 32⟩
def MCH_MFs_LAW_TAG (s : Nat) : RF := ⟨0x0200251050 + s * 0x80, 16, 32⟩
def MCH_MFs_LAW_EP (s : Nat) : RF := ⟨0x0200251050 + s * 0x80, 0, 16⟩
def MCH_MFs_SETPOINT_SETPOINT (s : Nat) : RF := ⟨0x0200251058 + s * 0x80, 0, 32⟩
def MCH_MFs_TARGET_TARGET (s : Nat) : RF := ⟨0x020025105C + s * 0x80, 0, 32⟩
def MCH_MFs_VALUES_OUTPUT (s : Nat) : RF := ⟨0x0200251060 + s * 0x80, 32, 32⟩
def MCH_MFs_VALUES_MEASURED (s : Nat) : RF := ⟨0x0200251060 + s * 0x80, 0, 32⟩
def MCH_MFs_STATUS_LATE_RUN (s : Nat) : RF := ⟨0x0200251068 + s * 0x80, 24, 8⟩
def MCH_MFs_STATUS_LAW_LATE (s : Nat) : RF := ⟨0x0200251068 + s * 0x80, 6, 1⟩
def MCH_MFs_STATUS_STALE (s : Nat) : RF := ⟨0x0200251068 + s * 0x80, 5, 1⟩
def MCH_MFs_STATUS_RATE_LIMITED (s : Nat) : RF := ⟨0x0200251068 + s * 0x80, 4, 1⟩
def MCH_MFs_STATUS_CLAMPED (s : Nat) : RF := ⟨0x0200251068 + s * 0x80, 3, 1⟩
def MCH_MFs_STATUS_STATE (s : Nat) : RF := ⟨0x0200251068 + s * 0x80, 0, 3⟩
def MCH_MFs_CMD_BUSY (s : Nat) : RF := ⟨0x020025106C + s * 0x80, 31, 1⟩
def MCH_MFs_CMD_STATUS (s : Nat) : RF := ⟨0x020025106C + s * 0x80, 16, 8⟩
def MCH_MFs_CMD_OP (s : Nat) : RF := ⟨0x020025106C + s * 0x80, 0, 3⟩
def MCH_MFs_STAT_TICKS (s : Nat) : RF := ⟨0x0200251070 + s * 0x80, 32, 32⟩
def MCH_MFs_STAT_LATE (s : Nat) : RF := ⟨0x0200251070 + s * 0x80, 16, 16⟩
def MCH_MFs_STAT_CAN_DROPS (s : Nat) : RF := ⟨0x0200251070 + s * 0x80, 0, 16⟩
def MCH_MFs_ACT_VALUE (s : Nat) : RF := ⟨0x0200251078 + s * 0x80, 0, 32⟩
def MCH_MFs_MEAS_WRITE_RAW (s : Nat) : RF := ⟨0x020025107C + s * 0x80, 0, 32⟩
def MCH_ANG_g_ENABLE (g : Nat) : RF := ⟨0x0200252F00 + g * 0x4, 31, 1⟩
def MCH_ANG_g_PHASE (g : Nat) : RF := ⟨0x0200252F00 + g * 0x4, 16, 9⟩
def MCH_ANG_g_DIV (g : Nat) : RF := ⟨0x0200252F00 + g * 0x4, 0, 9⟩
def MCH_ANc_CFG_ENABLE (c : Nat) : RF := ⟨0x0200253000 + c * 0x20, 31, 1⟩
def MCH_ANc_CFG_IMPACT (c : Nat) : RF := ⟨0x0200253000 + c * 0x20, 30, 1⟩
def MCH_ANc_CFG_WIN_EN (c : Nat) : RF := ⟨0x0200253000 + c * 0x20, 29, 1⟩
def MCH_ANc_CFG_AVG_SHIFT (c : Nat) : RF := ⟨0x0200253000 + c * 0x20, 24, 4⟩
def MCH_ANc_CFG_B_SHIFT (c : Nat) : RF := ⟨0x0200253000 + c * 0x20, 16, 4⟩
def MCH_ANc_CFG_DEAD (c : Nat) : RF := ⟨0x0200253000 + c * 0x20, 0, 16⟩
def MCH_ANc_WIN_HIGH (c : Nat) : RF := ⟨0x0200253004 + c * 0x20, 16, 16⟩
def MCH_ANc_WIN_LOW (c : Nat) : RF := ⟨0x0200253004 + c * 0x20, 0, 16⟩
def MCH_ANc_THRESH_THRESH (c : Nat) : RF := ⟨0x0200253008 + c * 0x20, 0, 16⟩
def MCH_ANc_VALUE_RAW (c : Nat) : RF := ⟨0x020025300C + c * 0x20, 16, 16⟩
def MCH_ANc_VALUE_FILT (c : Nat) : RF := ⟨0x020025300C + c * 0x20, 0, 16⟩
def MCH_ANc_HITS_COUNT (c : Nat) : RF := ⟨0x0200253010 + c * 0x20, 0, 32⟩
def MCH_ANc_RATE_HITS_1S (c : Nat) : RF := ⟨0x0200253014 + c * 0x20, 0, 32⟩
def MCH_PIn_CFG_ENABLE (n : Nat) : RF := ⟨0x0200253400 + n * 0x20, 31, 1⟩
def MCH_PIn_CFG_EDGE (n : Nat) : RF := ⟨0x0200253400 + n * 0x20, 29, 2⟩
def MCH_PIn_CFG_QUAD (n : Nat) : RF := ⟨0x0200253400 + n * 0x20, 28, 1⟩
def MCH_PIn_CFG_WIN_EN (n : Nat) : RF := ⟨0x0200253400 + n * 0x20, 27, 1⟩
def MCH_PIn_CFG_MIN_WIDTH (n : Nat) : RF := ⟨0x0200253400 + n * 0x20, 0, 16⟩
def MCH_PIn_ZERO_ZERO_MS (n : Nat) : RF := ⟨0x0200253404 + n * 0x20, 0, 16⟩
def MCH_PIn_WIN_FMAX (n : Nat) : RF := ⟨0x0200253408 + n * 0x20, 32, 32⟩
def MCH_PIn_WIN_FMIN (n : Nat) : RF := ⟨0x0200253408 + n * 0x20, 0, 32⟩
def MCH_PIn_COUNT_COUNT (n : Nat) : RF := ⟨0x0200253410 + n * 0x20, 0, 32⟩
def MCH_PIn_PERIOD_PERIOD (n : Nat) : RF := ⟨0x0200253414 + n * 0x20, 0, 32⟩
def MCH_PIn_FREQ_FREQ (n : Nat) : RF := ⟨0x0200253418 + n * 0x20, 0, 32⟩
def MCH_PIn_STAT_LEVEL (n : Nat) : RF := ⟨0x020025341C + n * 0x20, 31, 1⟩
def MCH_PIn_STAT_DIR (n : Nat) : RF := ⟨0x020025341C + n * 0x20, 30, 1⟩
def MCH_PIn_STAT_GLITCHES (n : Nat) : RF := ⟨0x020025341C + n * 0x20, 0, 16⟩
def MCH_PWn_CFG_ENABLE (n : Nat) : RF := ⟨0x0200253800 + n * 0x10, 31, 1⟩
def MCH_PWn_CFG_IDLE (n : Nat) : RF := ⟨0x0200253800 + n * 0x10, 30, 1⟩
def MCH_PWn_CFG_POL (n : Nat) : RF := ⟨0x0200253800 + n * 0x10, 29, 1⟩
def MCH_PWn_CFG_FREQ_HZ (n : Nat) : RF := ⟨0x0200253800 + n * 0x10, 0, 15⟩
def MCH_PWn_DUTY_DUTY (n : Nat) : RF := ⟨0x0200253804 + n * 0x10, 0, 16⟩
def MCH_PWn_DITHER_AMP (n : Nat) : RF := ⟨0x0200253808 + n * 0x10, 16, 16⟩
def MCH_PWn_DITHER_HALF (n : Nat) : RF := ⟨0x0200253808 + n * 0x10, 0, 16⟩
def MCH_PWn_STAT_ACTIVE (n : Nat) : RF := ⟨0x020025380C + n * 0x10, 31, 1⟩
def MCH_PWn_STAT_DUTY_EFF (n : Nat) : RF := ⟨0x020025380C + n * 0x10, 0, 16⟩
def TAL_NOTICE_EN : RF := ⟨0x0200260020, 48, 1⟩
def TAL_NOTICE_TAG : RF := ⟨0x0200260020, 16, 32⟩
def TAL_NOTICE_EP : RF := ⟨0x0200260020, 0, 16⟩
def TAL_NOTICE_EN_EN : RF := ⟨0x0200260028, 0, 3⟩
def TAL_STATUS_RESTORED : RF := ⟨0x020026002C, 31, 1⟩
def TAL_STATUS_RESTORE_FAIL : RF := ⟨0x020026002C, 30, 1⟩
def TAL_STATUS_SAVE_FAIL : RF := ⟨0x020026002C, 29, 1⟩
def TAL_STATUS_PWRFAIL_SEEN : RF := ⟨0x020026002C, 28, 1⟩
def TAL_STATUS_SAVES : RF := ⟨0x020026002C, 0, 16⟩
def TAL_TQi_CFG_ENABLE (i : Nat) : RF := ⟨0x0200260100 + i * 0x80, 31, 1⟩
def TAL_TQi_CFG_NOTICE_EN (i : Nat) : RF := ⟨0x0200260100 + i * 0x80, 30, 1⟩
def TAL_TQi_CFG_SRC_KIND (i : Nat) : RF := ⟨0x0200260100 + i * 0x80, 27, 3⟩
def TAL_TQi_CFG_SRC_INDEX (i : Nat) : RF := ⟨0x0200260100 + i * 0x80, 21, 6⟩
def TAL_TQi_CFG_DIR_KIND (i : Nat) : RF := ⟨0x0200260100 + i * 0x80, 19, 2⟩
def TAL_TQi_CFG_DIR_INDEX (i : Nat) : RF := ⟨0x0200260100 + i * 0x80, 14, 5⟩
def TAL_TQi_CFG_TEMP_KIND (i : Nat) : RF := ⟨0x0200260100 + i * 0x80, 12, 2⟩
def TAL_TQi_CFG_TEMP_INDEX (i : Nat) : RF := ⟨0x0200260100 + i * 0x80, 7, 5⟩
def TAL_TQi_N_N (i : Nat) : RF := ⟨0x0200260104 + i * 0x80, 0, 16⟩
def TAL_TQi_SCALE_ZERO (i : Nat) : RF := ⟨0x0200260108 + i * 0x80, 32, 32⟩
def TAL_TQi_SCALE_GAIN (i : Nat) : RF := ⟨0x0200260108 + i * 0x80, 0, 32⟩
def TAL_TQi_LAG_LAG_MS (i : Nat) : RF := ⟨0x0200260110 + i * 0x80, 0, 15⟩
def TAL_TQi_INC_LIMIT_LIMIT (i : Nat) : RF := ⟨0x0200260114 + i * 0x80, 0, 31⟩
def TAL_TQi_TSCALE_T_OFFSET (i : Nat) : RF := ⟨0x0200260118 + i * 0x80, 32, 32⟩
def TAL_TQi_TSCALE_T_GAIN (i : Nat) : RF := ⟨0x0200260118 + i * 0x80, 0, 32⟩
def TAL_TQi_FLOWS_VALID (i : Nat) : RF := ⟨0x0200260120 + i * 0x80, 48, 4⟩
def TAL_TQi_FLOWS_FLOW3 (i : Nat) : RF := ⟨0x0200260120 + i * 0x80, 36, 12⟩
def TAL_TQi_FLOWS_FLOW2 (i : Nat) : RF := ⟨0x0200260120 + i * 0x80, 24, 12⟩
def TAL_TQi_FLOWS_FLOW1 (i : Nat) : RF := ⟨0x0200260120 + i * 0x80, 12, 12⟩
def TAL_TQi_FLOWS_FLOW0 (i : Nat) : RF := ⟨0x0200260120 + i * 0x80, 0, 12⟩
def TAL_TQi_FWD_FWD (i : Nat) : RF := ⟨0x0200260128 + i * 0x80, 0, 64⟩
def TAL_TQi_REV_REV (i : Nat) : RF := ⟨0x0200260130 + i * 0x80, 0, 64⟩
def TAL_TQi_NET_NET (i : Nat) : RF := ⟨0x0200260138 + i * 0x80, 0, 64⟩
def TAL_TQi_LFWD_LFWD (i : Nat) : RF := ⟨0x0200260140 + i * 0x80, 0, 64⟩
def TAL_TQi_LREV_LREV (i : Nat) : RF := ⟨0x0200260148 + i * 0x80, 0, 64⟩
def TAL_TQi_LATCH_TIME_TICKS (i : Nat) : RF := ⟨0x0200260150 + i * 0x80, 0, 64⟩
def TAL_TQi_LATCH_SEQ (i : Nat) : RF := ⟨0x0200260158 + i * 0x80, 0, 32⟩
def TAL_TQi_CORR_G (i : Nat) : RF := ⟨0x020026015C + i * 0x80, 16, 16⟩
def TAL_TQi_CORR_TEMP_STALE (i : Nat) : RF := ⟨0x020026015C + i * 0x80, 15, 1⟩
def TAL_TQi_CORR_D_MS (i : Nat) : RF := ⟨0x020026015C + i * 0x80, 0, 15⟩
def TAL_TQi_TEMP_REVERSE (i : Nat) : RF := ⟨0x0200260160 + i * 0x80, 31, 1⟩
def TAL_TQi_TEMP_TEMP (i : Nat) : RF := ⟨0x0200260160 + i * 0x80, 0, 16⟩
def TAL_TQi_CMD_BUSY (i : Nat) : RF := ⟨0x0200260164 + i * 0x80, 31, 1⟩
def TAL_TQi_CMD_STATUS (i : Nat) : RF := ⟨0x0200260164 + i * 0x80, 16, 8⟩
def TAL_TQi_CMD_OP (i : Nat) : RF := ⟨0x0200260164 + i * 0x80, 0, 2⟩
def TAL_TQi_INC_RAW (i : Nat) : RF := ⟨0x0200260168 + i * 0x80, 0, 32⟩
def TAL_TQi_TEMP_WRITE_TEMP (i : Nat) : RF := ⟨0x020026016C + i * 0x80, 0, 16⟩
def TAL_TQi_QMAX_QMAX (i : Nat) : RF := ⟨0x0200260170 + i * 0x80, 0, 64⟩
def TAL_TQi_SAVE_SAVE_SEQ (i : Nat) : RF := ⟨0x0200260178 + i * 0x80, 0, 32⟩
def TAL_TQi_TPk_PHASE_MS (i : Nat) (k : Nat) : RF := ⟨0x0200261000 + i * 0x100 + k * 0x4, 16, 16⟩
def TAL_TQi_TPk_G (i : Nat) (k : Nat) : RF := ⟨0x0200261000 + i * 0x100 + k * 0x4, 0, 16⟩
def TAL_POn_CFG_ENABLE (n : Nat) : RF := ⟨0x0200260900 + n * 0x20, 31, 1⟩
def TAL_POn_CFG_POL (n : Nat) : RF := ⟨0x0200260900 + n * 0x20, 30, 1⟩
def TAL_POn_CFG_DIR_POL (n : Nat) : RF := ⟨0x0200260900 + n * 0x20, 29, 1⟩
def TAL_POn_CFG_ACC (n : Nat) : RF := ⟨0x0200260900 + n * 0x20, 0, 4⟩
def TAL_POn_TIMING_GAP (n : Nat) : RF := ⟨0x0200260904 + n * 0x20, 16, 16⟩
def TAL_POn_TIMING_WIDTH (n : Nat) : RF := ⟨0x0200260904 + n * 0x20, 0, 16⟩
def TAL_POn_WEIGHT_WEIGHT (n : Nat) : RF := ⟨0x0200260908 + n * 0x20, 0, 63⟩
def TAL_POn_EMITTED_COUNT (n : Nat) : RF := ⟨0x0200260910 + n * 0x20, 0, 32⟩
def TAL_POn_STAT_ACTIVE (n : Nat) : RF := ⟨0x0200260914 + n * 0x20, 31, 1⟩
def TAL_POn_STAT_DIR (n : Nat) : RF := ⟨0x0200260914 + n * 0x20, 30, 1⟩
def TAL_POn_STAT_PENDING_REV (n : Nat) : RF := ⟨0x0200260914 + n * 0x20, 24, 1⟩
def TAL_POn_STAT_PENDING (n : Nat) : RF := ⟨0x0200260914 + n * 0x20, 0, 24⟩
def CAN_OBJ_BASE_BASE : RF := ⟨0x0200270020, 7, 33⟩
def CAN_OBJ_ACK_SEQ : RF := ⟨0x0200270028, 32, 32⟩
def CAN_OBJ_ACK_OBJECT : RF := ⟨0x0200270028, 0, 11⟩
def CAN_CTLn_CFG_ENABLE (n : Nat) : RF := ⟨0x0200270100 + n * 0x80, 31, 1⟩
def CAN_CTLn_CFG_FD_EN (n : Nat) : RF := ⟨0x0200270100 + n * 0x80, 30, 1⟩
def CAN_CTLn_CFG_LISTEN (n : Nat) : RF := ⟨0x0200270100 + n * 0x80, 29, 1⟩
def CAN_CTLn_CFG_RESTRICTED (n : Nat) : RF := ⟨0x0200270100 + n * 0x80, 28, 1⟩
def CAN_CTLn_CFG_AUTO_RECOVER (n : Nat) : RF := ⟨0x0200270100 + n * 0x80, 27, 1⟩
def CAN_CTLn_CFG_TX_ORDER (n : Nat) : RF := ⟨0x0200270100 + n * 0x80, 26, 1⟩
def CAN_CTLn_CFG_PXHD_EN (n : Nat) : RF := ⟨0x0200270100 + n * 0x80, 25, 1⟩
def CAN_CTLn_CFG_STB (n : Nat) : RF := ⟨0x0200270100 + n * 0x80, 24, 1⟩
def CAN_CTLn_CFG_DEFAULT_EN (n : Nat) : RF := ⟨0x0200270100 + n * 0x80, 17, 1⟩
def CAN_CTLn_CFG_DEFAULT_Q (n : Nat) : RF := ⟨0x0200270100 + n * 0x80, 14, 3⟩
def CAN_CTLn_NBT_NBRP (n : Nat) : RF := ⟨0x0200270104 + n * 0x80, 24, 8⟩
def CAN_CTLn_NBT_NTSEG1 (n : Nat) : RF := ⟨0x0200270104 + n * 0x80, 16, 8⟩
def CAN_CTLn_NBT_NTSEG2 (n : Nat) : RF := ⟨0x0200270104 + n * 0x80, 8, 8⟩
def CAN_CTLn_NBT_NSJW (n : Nat) : RF := ⟨0x0200270104 + n * 0x80, 0, 8⟩
def CAN_CTLn_DBT_DBRP (n : Nat) : RF := ⟨0x0200270108 + n * 0x80, 24, 6⟩
def CAN_CTLn_DBT_DTSEG1 (n : Nat) : RF := ⟨0x0200270108 + n * 0x80, 16, 6⟩
def CAN_CTLn_DBT_DTSEG2 (n : Nat) : RF := ⟨0x0200270108 + n * 0x80, 8, 5⟩
def CAN_CTLn_DBT_DSJW (n : Nat) : RF := ⟨0x0200270108 + n * 0x80, 0, 5⟩
def CAN_CTLn_TDC_TDC_EN (n : Nat) : RF := ⟨0x020027010C + n * 0x80, 15, 1⟩
def CAN_CTLn_TDC_TDCO (n : Nat) : RF := ⟨0x020027010C + n * 0x80, 0, 7⟩
def CAN_CTLn_STATUS_TEC (n : Nat) : RF := ⟨0x0200270110 + n * 0x80, 16, 9⟩
def CAN_CTLn_STATUS_RP (n : Nat) : RF := ⟨0x0200270110 + n * 0x80, 15, 1⟩
def CAN_CTLn_STATUS_REC (n : Nat) : RF := ⟨0x0200270110 + n * 0x80, 8, 7⟩
def CAN_CTLn_STATUS_STATE (n : Nat) : RF := ⟨0x0200270110 + n * 0x80, 0, 3⟩
def CAN_CTLn_CMD_BUSY (n : Nat) : RF := ⟨0x0200270114 + n * 0x80, 31, 1⟩
def CAN_CTLn_CMD_STATUS (n : Nat) : RF := ⟨0x0200270114 + n * 0x80, 16, 8⟩
def CAN_CTLn_CMD_OP (n : Nat) : RF := ⟨0x0200270114 + n * 0x80, 0, 2⟩
def CAN_CTLn_TXNOTICE_EN (n : Nat) : RF := ⟨0x0200270118 + n * 0x80, 48, 1⟩
def CAN_CTLn_TXNOTICE_TAG (n : Nat) : RF := ⟨0x0200270118 + n * 0x80, 16, 32⟩
def CAN_CTLn_TXNOTICE_EP (n : Nat) : RF := ⟨0x0200270118 + n * 0x80, 0, 16⟩
def CAN_CTLn_NOTICE_EN (n : Nat) : RF := ⟨0x0200270120 + n * 0x80, 48, 1⟩
def CAN_CTLn_NOTICE_TAG (n : Nat) : RF := ⟨0x0200270120 + n * 0x80, 16, 32⟩
def CAN_CTLn_NOTICE_EP (n : Nat) : RF := ⟨0x0200270120 + n * 0x80, 0, 16⟩
def CAN_CTLn_TXSTAT_OCCUPIED (n : Nat) : RF := ⟨0x0200270128 + n * 0x80, 0, 6⟩
def CAN_CTLn_CLASH_IDE (n : Nat) : RF := ⟨0x020027012C + n * 0x80, 29, 1⟩
def CAN_CTLn_CLASH_ID (n : Nat) : RF := ⟨0x020027012C + n * 0x80, 0, 29⟩
def CAN_RQq_CFG_ENABLE (q : Nat) : RF := ⟨0x0200270600 + q * 0x40, 31, 1⟩
def CAN_RQq_CFG_MODE (q : Nat) : RF := ⟨0x0200270600 + q * 0x40, 30, 1⟩
def CAN_RQq_CFG_NOTICE_EN (q : Nat) : RF := ⟨0x0200270600 + q * 0x40, 29, 1⟩
def CAN_RQq_CFG_FLOW (q : Nat) : RF := ⟨0x0200270600 + q * 0x40, 0, 12⟩
def CAN_RQq_BASE_BASE (q : Nat) : RF := ⟨0x0200270608 + q * 0x40, 7, 33⟩
def CAN_RQq_NOTICE_TAG (q : Nat) : RF := ⟨0x0200270610 + q * 0x40, 16, 32⟩
def CAN_RQq_NOTICE_EP (q : Nat) : RF := ⟨0x0200270610 + q * 0x40, 0, 16⟩
def CAN_RQq_WR_WR (q : Nat) : RF := ⟨0x0200270618 + q * 0x40, 0, 9⟩
def CAN_RQq_RD_RD (q : Nat) : RF := ⟨0x020027061C + q * 0x40, 0, 9⟩
def CAN_RQq_DROPS_FULL (q : Nat) : RF := ⟨0x0200270620 + q * 0x40, 16, 16⟩
def CAN_RQq_DROPS_JOURNAL (q : Nat) : RF := ⟨0x0200270620 + q * 0x40, 0, 16⟩
def CAN_OBJo_CFG_EN (o : Nat) : RF := ⟨0x0200278000 + o * 0x10, 31, 1⟩
def CAN_OBJo_CFG_Q_EN (o : Nat) : RF := ⟨0x0200278000 + o * 0x10, 30, 1⟩
def CAN_OBJo_CFG_QUEUE (o : Nat) : RF := ⟨0x0200278000 + o * 0x10, 24, 3⟩
def CAN_OBJo_CFG_CTRL (o : Nat) : RF := ⟨0x0200278000 + o * 0x10, 16, 3⟩
def CAN_OBJo_CFG_IDE (o : Nat) : RF := ⟨0x0200278000 + o * 0x10, 8, 1⟩
def CAN_OBJo_ID_ID (o : Nat) : RF := ⟨0x0200278004 + o * 0x10, 0, 29⟩
def CAN_OBJo_MASK_MASK (o : Nat) : RF := ⟨0x0200278008 + o * 0x10, 0, 29⟩
def CAN_OBJo_SEQ_SEQ (o : Nat) : RF := ⟨0x020027800C + o * 0x10, 0, 32⟩
def BXL_CFG_ENABLE : RF := ⟨0x0200290020, 31, 1⟩
def BXL_CFG_ACK_US : RF := ⟨0x0200290020, 16, 8⟩
def BXL_CFG_CAPTAIN_PRIO : RF := ⟨0x0200290020, 8, 8⟩
def BXL_CFG_CAPTAIN_SRC : RF := ⟨0x0200290020, 0, 3⟩
def BXL_STACK_ID_ID : RF := ⟨0x0200290028, 0, 64⟩
def BXL_STATUS_STATE : RF := ⟨0x0200290030, 29, 3⟩
def BXL_STATUS_CAPTAIN : RF := ⟨0x0200290030, 28, 1⟩
def BXL_STATUS_POSITION : RF := ⟨0x0200290030, 24, 4⟩
def BXL_STATUS_CAPTAIN_POS : RF := ⟨0x0200290030, 20, 4⟩
def BXL_STATUS_BUDDY_POS : RF := ⟨0x0200290030, 16, 4⟩
def BXL_STATUS_EPOCH : RF := ⟨0x0200290030, 0, 16⟩
def BXL_MEMBERS_FAILED : RF := ⟨0x0200290034, 16, 16⟩
def BXL_MEMBERS_MEMBER : RF := ⟨0x0200290034, 0, 16⟩
def BXL_GUEST_HAS_BUDDY : RF := ⟨0x0200290038, 32, 1⟩
def BXL_GUEST_COUNT : RF := ⟨0x0200290038, 16, 16⟩
def BXL_GUEST_BASE : RF := ⟨0x0200290038, 0, 16⟩
def BXL_GUEST_ZON_BASE : RF := ⟨0x0200290040, 16, 24⟩
def BXL_CMD_BUSY : RF := ⟨0x0200290048, 31, 1⟩
def BXL_CMD_STATUS : RF := ⟨0x0200290048, 16, 8⟩
def BXL_CMD_OP : RF := ⟨0x0200290048, 0, 3⟩
def BXL_NOTICE_EN : RF := ⟨0x0200290050, 48, 1⟩
def BXL_NOTICE_TAG : RF := ⟨0x0200290050, 16, 32⟩
def BXL_NOTICE_EP : RF := ⟨0x0200290050, 0, 16⟩
def BXL_NOTICE_EN_EN : RF := ⟨0x0200290058, 0, 6⟩
def BXL_TIME_UPSTREAM : RF := ⟨0x0200290060, 63, 1⟩
def BXL_TIME_LOCKED : RF := ⟨0x0200290060, 62, 1⟩
def BXL_TIME_OFFSET : RF := ⟨0x0200290060, 0, 32⟩
def BXL_TAKEOVER_ACTIVE : RF := ⟨0x0200290068, 31, 1⟩
def BXL_TAKEOVER_PARTNER : RF := ⟨0x0200290068, 24, 4⟩
def BXL_TAKEOVER_PENDING : RF := ⟨0x0200290068, 0, 17⟩
def BXL_Pp_STATUS_LINK (p : Nat) : RF := ⟨0x0200290100 + p * 0x40, 30, 2⟩
def BXL_Pp_STATUS_PRESET (p : Nat) : RF := ⟨0x0200290100 + p * 0x40, 26, 4⟩
def BXL_Pp_STATUS_SKEW (p : Nat) : RF := ⟨0x0200290100 + p * 0x40, 20, 6⟩
def BXL_Pp_STATUS_NEIGHBOUR (p : Nat) : RF := ⟨0x0200290100 + p * 0x40, 16, 4⟩
def BXL_Pp_STATUS_DELAY (p : Nat) : RF := ⟨0x0200290100 + p * 0x40, 0, 14⟩
def BXL_Pp_STAT_SYNC_ERRORS (p : Nat) : RF := ⟨0x0200290108 + p * 0x40, 48, 16⟩
def BXL_Pp_STAT_CRC_ERRORS (p : Nat) : RF := ⟨0x0200290108 + p * 0x40, 32, 16⟩
def BXL_Pp_STAT_RETRAINS (p : Nat) : RF := ⟨0x0200290108 + p * 0x40, 16, 16⟩
def BXL_Pp_STAT_RESENDS (p : Nat) : RF := ⟨0x0200290108 + p * 0x40, 0, 16⟩
def UPD_STATUS_STATE : RF := ⟨0x0200050020, 28, 4⟩
def UPD_STATUS_BOOTS : RF := ⟨0x0200050020, 24, 2⟩
def UPD_STATUS_LAST_STATUS : RF := ⟨0x0200050020, 16, 8⟩
def UPD_STATUS_DL_NEXT : RF := ⟨0x0200050020, 0, 11⟩
def UPD_PROGRESS_SECTOR : RF := ⟨0x0200050024, 16, 11⟩
def UPD_PROGRESS_PHASE : RF := ⟨0x0200050024, 12, 2⟩
def UPD_PROGRESS_SWAP_COUNT : RF := ⟨0x0200050024, 0, 11⟩
def UPD_CMD_BUSY : RF := ⟨0x0200050028, 31, 1⟩
def UPD_CMD_STATUS : RF := ⟨0x0200050028, 16, 8⟩
def UPD_CMD_REASON : RF := ⟨0x0200050028, 8, 8⟩
def UPD_CMD_OP : RF := ⟨0x0200050028, 0, 4⟩
def UPD_BLOCK_SRC_ADDR : RF := ⟨0x0200050030, 6, 34⟩
def UPD_BLOCK_IDX_INDEX : RF := ⟨0x0200050038, 0, 11⟩
def UPD_TRIAL_ELAPSED : RF := ⟨0x020005003C, 16, 16⟩
def UPD_TRIAL_TRIAL_S : RF := ⟨0x020005003C, 0, 12⟩
def UPD_HW_TYPE_TYPE : RF := ⟨0x0200050040, 0, 32⟩
def UPD_OTP_REVOKED : RF := ⟨0x0200050044, 8, 4⟩
def UPD_OTP_ROLLBACK : RF := ⟨0x0200050044, 0, 7⟩
def UPD_VERSION_ENGINE : RF := ⟨0x0200050048, 0, 32⟩
def UPD_TXN_TXN : RF := ⟨0x020005004C, 0, 32⟩
def UPD_UNIT_ID_LO_ID : RF := ⟨0x0200050050, 0, 64⟩
def UPD_UNIT_ID_HI_ID : RF := ⟨0x0200050058, 0, 64⟩
def UPD_NOTICE_EN : RF := ⟨0x0200050060, 48, 1⟩
def UPD_NOTICE_TAG : RF := ⟨0x0200050060, 16, 32⟩
def UPD_NOTICE_EP : RF := ⟨0x0200050060, 0, 16⟩
def UPD_NOTICE_EN_EN : RF := ⟨0x0200050068, 0, 3⟩
def REF_FENCED_FENCED : RF := ⟨0x0200020500, 0, 48⟩
def REF_ISLAND_CMD_BUSY : RF := ⟨0x0200020508, 31, 1⟩
def REF_ISLAND_CMD_STATUS : RF := ⟨0x0200020508, 16, 8⟩
def REF_ISLAND_CMD_ISLAND : RF := ⟨0x0200020508, 8, 6⟩
def REF_ISLAND_CMD_OP : RF := ⟨0x0200020508, 0, 2⟩
def REF_LB_CLEAR_GO : RF := ⟨0x0200020580, 0, 1⟩
def BST_CTRL_RUN_EN : RF := ⟨0x0200030020, 31, 1⟩
def BST_CTRL_ROUND_MS : RF := ⟨0x0200030020, 0, 16⟩
def BST_PU_FAIL_FAIL : RF := ⟨0x0200030028, 0, 48⟩
def BST_PU_TIME_TICKS : RF := ⟨0x0200030030, 0, 32⟩
def BST_CUR_ACTIVE : RF := ⟨0x0200030034, 31, 1⟩
def BST_CUR_ISLAND : RF := ⟨0x0200030034, 8, 6⟩
def BST_CUR_SLICE : RF := ⟨0x0200030034, 0, 8⟩
def BST_STARVED_STARVED : RF := ⟨0x0200030038, 0, 48⟩
def BST_ROUNDS_COUNT : RF := ⟨0x0200030040, 0, 32⟩
def BST_ABORTS_COUNT : RF := ⟨0x0200030044, 0, 32⟩
def BST_SLICES_COUNT : RF := ⟨0x0200030048, 0, 32⟩
def SCB_STATUS_LOGFAIL : RF := ⟨0x0200040020, 31, 1⟩
def SCB_STATUS_REGION : RF := ⟨0x0200040020, 30, 1⟩
def SCB_STATUS_WRITING : RF := ⟨0x0200040020, 29, 1⟩
def SCB_STATUS_STAGED : RF := ⟨0x0200040020, 0, 7⟩
def SCB_DROPPED_COUNT : RF := ⟨0x0200040024, 0, 32⟩
def SCB_WR_SEQ : RF := ⟨0x0200040028, 32, 32⟩
def SCB_WR_OFFSET : RF := ⟨0x0200040028, 0, 24⟩
def SCB_OLDEST_SEQ : RF := ⟨0x0200040030, 32, 32⟩
def SCB_OLDEST_OFFSET : RF := ⟨0x0200040030, 0, 24⟩
def SCB_CMD_WORD : RF := ⟨0x0200040038, 0, 64⟩
def SCB_CMD_STATUS_BUSY : RF := ⟨0x0200040040, 31, 1⟩
def SCB_CMD_STATUS_STATUS : RF := ⟨0x0200040040, 16, 8⟩
def SCB_NOTICE_EN : RF := ⟨0x0200040048, 48, 1⟩
def SCB_NOTICE_TAG : RF := ⟨0x0200040048, 16, 32⟩
def SCB_NOTICE_EP : RF := ⟨0x0200040048, 0, 16⟩
def SCB_NOTICE_EN_EN : RF := ⟨0x0200040050, 0, 4⟩
def SCB_BMk_POS_SEQ (k : Nat) : RF := ⟨0x0200040100 + k * 0x10, 32, 32⟩
def SCB_BMk_POS_OPEN (k : Nat) : RF := ⟨0x0200040100 + k * 0x10, 31, 1⟩
def SCB_BMk_POS_OFFSET (k : Nat) : RF := ⟨0x0200040100 + k * 0x10, 0, 24⟩
def SCB_BMk_STAT_OVERRUN (k : Nat) : RF := ⟨0x0200040108 + k * 0x10, 31, 1⟩
def SCB_BMk_STAT_LOST (k : Nat) : RF := ⟨0x0200040108 + k * 0x10, 0, 24⟩
def SYS_STRAPS_HOLD : RF := ⟨0x0200000020, 3, 1⟩
def SYS_STRAPS_BANK : RF := ⟨0x0200000020, 2, 1⟩
def SYS_STRAPS_PCIE : RF := ⟨0x0200000020, 1, 1⟩
def SYS_STRAPS_REFSEL : RF := ⟨0x0200000020, 0, 1⟩
def SYS_RESET_CAUSE_CAUSE : RF := ⟨0x0200000024, 0, 6⟩
def SYS_RESET_KEY : RF := ⟨0x0200000028, 8, 8⟩
def SYS_RESET_GO : RF := ⟨0x0200000028, 0, 1⟩
def SYS_BOOT_ENGINE : RF := ⟨0x020000002C, 8, 4⟩
def SYS_BOOT_PHASE : RF := ⟨0x020000002C, 0, 3⟩
def PWR_STATUS_PWRFAIL : RF := ⟨0x0200010020, 31, 1⟩
def PWR_STATUS_RAILS_GOOD : RF := ⟨0x0200010020, 30, 1⟩
def PWR_STATUS_THERM_CAP : RF := ⟨0x0200010020, 29, 1⟩
def PWR_STATUS_PWRFAIL_SEEN : RF := ⟨0x0200010020, 28, 1⟩
def PWR_STATUS_PWRFAIL_COUNT : RF := ⟨0x0200010020, 0, 16⟩
def PWR_VIN_MV : RF := ⟨0x0200010024, 0, 16⟩
def PWR_CASE_TEMP : RF := ⟨0x0200010028, 0, 16⟩
def PWR_INPUT_MW : RF := ⟨0x020001002C, 0, 16⟩
def PWR_THERM_CAP_EN : RF := ⟨0x0200010030, 31, 1⟩
def PWR_THERM_CAP_CODE : RF := ⟨0x0200010030, 16, 3⟩
def PWR_THERM_CAP_C : RF := ⟨0x0200010030, 8, 8⟩
def PWR_THERM_HYST_C : RF := ⟨0x0200010030, 0, 8⟩
def HST_PCI_ID_DEVICE : RF := ⟨0x02002A0020, 16, 16⟩
def HST_PCI_ID_VENDOR : RF := ⟨0x02002A0020, 0, 16⟩
def HST_PCI_CFG_CQ_IRQ : RF := ⟨0x02002A0024, 31, 1⟩
def HST_PCI_CFG_LINK_UP : RF := ⟨0x02002A0024, 8, 1⟩
def HST_PCI_CFG_WIDTH : RF := ⟨0x02002A0024, 4, 4⟩
def HST_PCI_CFG_SPEED : RF := ⟨0x02002A0024, 0, 4⟩
def HST_SQ_BASE_ADDR : RF := ⟨0x02002A0028, 12, 52⟩
def HST_CQ_BASE_ADDR : RF := ⟨0x02002A0030, 12, 52⟩
def HST_Q_SIZE_ENTRIES : RF := ⟨0x02002A0038, 0, 9⟩
def HST_SQ_TAIL_INDEX : RF := ⟨0x02002A003C, 0, 8⟩
def HST_SQ_HEAD_INDEX : RF := ⟨0x02002A0040, 0, 8⟩
def HST_CQ_WR_INDEX : RF := ⟨0x02002A0044, 0, 8⟩
def HST_CQ_RD_INDEX : RF := ⟨0x02002A0048, 0, 8⟩
def HST_NR_BASE_ADDR : RF := ⟨0x02002A0050, 12, 52⟩
def HST_NR_SIZE_ENTRIES : RF := ⟨0x02002A0058, 0, 13⟩
def HST_NR_WR_INDEX : RF := ⟨0x02002A005C, 0, 12⟩
def HST_NR_RD_INDEX : RF := ⟨0x02002A0060, 0, 12⟩
def HST_UART_EN : RF := ⟨0x02002A0068, 31, 1⟩
def HST_UART_DIV : RF := ⟨0x02002A0068, 0, 11⟩
def HST_ETH_EN : RF := ⟨0x02002A0070, 31, 1⟩
def HST_ETH_PORTS : RF := ⟨0x02002A0070, 16, 2⟩
def HST_ETH_UDP_PORT : RF := ⟨0x02002A0070, 0, 16⟩
def HST_Ix_CFG_MEM_EN (x : Nat) : RF := ⟨0x02002A0100 + x * 0x80, 31, 1⟩
def HST_Ix_CFG_TOKEN_EN (x : Nat) : RF := ⟨0x02002A0100 + x * 0x80, 30, 1⟩
def HST_Ix_CFG_SUBMIT_EN (x : Nat) : RF := ⟨0x02002A0100 + x * 0x80, 29, 1⟩
def HST_Ix_FLOWS_VALID (x : Nat) : RF := ⟨0x02002A0108 + x * 0x80, 48, 4⟩
def HST_Ix_FLOWS_FLOW3 (x : Nat) : RF := ⟨0x02002A0108 + x * 0x80, 36, 12⟩
def HST_Ix_FLOWS_FLOW2 (x : Nat) : RF := ⟨0x02002A0108 + x * 0x80, 24, 12⟩
def HST_Ix_FLOWS_FLOW1 (x : Nat) : RF := ⟨0x02002A0108 + x * 0x80, 12, 12⟩
def HST_Ix_FLOWS_FLOW0 (x : Nat) : RF := ⟨0x02002A0108 + x * 0x80, 0, 12⟩
def HST_Ix_STAT_COMMANDS (x : Nat) : RF := ⟨0x02002A0110 + x * 0x80, 32, 32⟩
def HST_Ix_STAT_BAD (x : Nat) : RF := ⟨0x02002A0110 + x * 0x80, 16, 16⟩
def HST_Ix_STAT_REPEATS (x : Nat) : RF := ⟨0x02002A0110 + x * 0x80, 0, 16⟩
def HST_Ix_WIN_BASE_j_VALID (x : Nat) (j : Nat) : RF := ⟨0x02002A0140 + x * 0x80 + j * 0x10, 63, 1⟩
def HST_Ix_WIN_BASE_j_BASE (x : Nat) (j : Nat) : RF := ⟨0x02002A0140 + x * 0x80 + j * 0x10, 12, 28⟩
def HST_Ix_WIN_LIMIT_j_LIMIT (x : Nat) (j : Nat) : RF := ⟨0x02002A0148 + x * 0x80 + j * 0x10, 12, 28⟩
def HST_Ix_WIN_LIMIT_j_X (x : Nat) (j : Nat) : RF := ⟨0x02002A0148 + x * 0x80 + j * 0x10, 2, 1⟩
def HST_Ix_WIN_LIMIT_j_W (x : Nat) (j : Nat) : RF := ⟨0x02002A0148 + x * 0x80 + j * 0x10, 1, 1⟩
def HST_Ix_WIN_LIMIT_j_R (x : Nat) (j : Nat) : RF := ⟨0x02002A0148 + x * 0x80 + j * 0x10, 0, 1⟩
def HST_SESSION_s_H (s : Nat) : RF := ⟨0x02002A0300 + s * 0x10, 32, 32⟩
def HST_SESSION_s_SESSION (s : Nat) : RF := ⟨0x02002A0300 + s * 0x10, 0, 32⟩
def HST_SESSION_FLOW_s_VALID (s : Nat) : RF := ⟨0x02002A0308 + s * 0x10, 31, 1⟩
def HST_SESSION_FLOW_s_FLOW (s : Nat) : RF := ⟨0x02002A0308 + s * 0x10, 0, 12⟩

end Sys2Proof.Machine
end

