-- ==== Sys2Proof/Machine/RegMap.lean ====
section
/-! DEFINITION. The register map of the device: which registers each island's block holds (R34 and the register tables
of every chapter), with the access code and the legal encodings of every field (R14 to R16), and every reset value
other than 0 that those tables give. -/

namespace Sys2Proof.Machine

def regTabPrefix0 : List RegD :=
  [⟨0x0, 4, 1, 1, 1, 1, [⟨16, 8, .ro, []⟩, ⟨8, 8, .ro, []⟩, ⟨0, 8, .ro, []⟩]⟩ /- PREFIX_IDENT -/,
   ⟨0x4, 4, 1, 1, 1, 1, [⟨16, 16, .ro, []⟩, ⟨8, 8, .rw, []⟩, ⟨4, 3, .rw, [(0, 0), (2, 2), (3, 3)]⟩, ⟨0, 3, .ro, []⟩]⟩ /- PREFIX_PSTATE -/,
   ⟨0x8, 4, 1, 1, 1, 1, [⟨1, 1, .wo, []⟩, ⟨0, 1, .w1s, []⟩]⟩ /- PREFIX_LOCK -/,
   ⟨0x10, 8, 1, 1, 1, 1, [⟨0, 40, .ro, []⟩]⟩ /- PREFIX_REFUSE_ADDR -/,
   ⟨0x18, 4, 1, 1, 1, 1, [⟨31, 1, .w1c, []⟩, ⟨24, 1, .ro, []⟩, ⟨8, 16, .ro, []⟩, ⟨0, 8, .ro, []⟩]⟩ /- PREFIX_REFUSE_INFO -/,
   ⟨0x1C, 4, 1, 1, 1, 1, [⟨0, 32, .ro, []⟩]⟩ /- PREFIX_REFUSE_COUNT -/]

/-- The registers of PREFIX at their offsets in the block. -/
def regTabPrefix : List RegD := regTabPrefix0

def regTabEng0 : List RegD :=
  [⟨0x20, 4, 1, 1, 1, 1, [⟨1, 1, .rw, []⟩, ⟨0, 1, .rw, []⟩]⟩ /- ENG_CTRL -/,
   ⟨0x24, 4, 1, 1, 1, 1, [⟨17, 1, .ro, []⟩, ⟨16, 1, .ro, []⟩, ⟨8, 3, .ro, []⟩, ⟨0, 3, .rw, [(0, 5)]⟩]⟩ /- ENG_DVFS -/,
   ⟨0x28, 8, 1, 1, 1, 1, [⟨2, 38, .rwl, []⟩]⟩ /- ENG_TRAP_VEC -/,
   ⟨0x30, 4, 4, 8, 1, 1, [⟨8, 20, .ro, []⟩, ⟨7, 1, .ro, []⟩, ⟨4, 3, .ro, []⟩, ⟨3, 1, .ro, []⟩, ⟨0, 3, .ro, []⟩]⟩ /- ENG_CTX_STATE_c -/,
   ⟨0x50, 8, 1, 1, 1, 1, [⟨0, 64, .ro, []⟩]⟩ /- ENG_RETIRED -/,
   ⟨0x58, 4, 1, 1, 1, 1, [⟨0, 32, .ro, []⟩]⟩ /- ENG_TRAPS -/,
   ⟨0x5C, 4, 1, 1, 1, 1, [⟨0, 32, .ro, []⟩]⟩ /- ENG_PREEMPT -/,
   ⟨0x60, 4, 1, 1, 1, 1, [⟨16, 16, .ro, []⟩, ⟨0, 16, .ro, []⟩]⟩ /- ENG_ECC -/,
   ⟨0x100, 8, 16, 16, 1, 1, [⟨63, 1, .rwl, []⟩, ⟨12, 28, .rwl, []⟩]⟩ /- ENG_WIN_BASE_w -/,
   ⟨0x108, 8, 16, 16, 1, 1, [⟨12, 28, .rwl, []⟩, ⟨2, 1, .rwl, []⟩, ⟨1, 1, .rwl, []⟩, ⟨0, 1, .rwl, []⟩]⟩ /- ENG_WIN_LIMIT_w -/]

/-- The registers of ENG at their offsets in the block. -/
def regTabEng : List RegD := regTabEng0

def regTabDug0 : List RegD :=
  [⟨0x20, 4, 1, 1, 1, 1, [⟨0, 1, .rwl, []⟩]⟩ /- DUG_CTRL -/,
   ⟨0x28, 8, 1, 1, 1, 1, [⟨4, 36, .rwl, []⟩]⟩ /- DUG_SPILL_BASE -/,
   ⟨0x30, 4, 1, 1, 1, 1, [⟨0, 21, .rwl, [(0, 1048576)]⟩]⟩ /- DUG_SPILL_SIZE -/,
   ⟨0x38, 8, 1, 1, 1, 1, [⟨32, 21, .ro, []⟩, ⟨0, 15, .ro, []⟩]⟩ /- DUG_STORE -/,
   ⟨0x40, 8, 1, 1, 1, 1, [⟨48, 1, .rw, []⟩, ⟨16, 32, .rw, [(0, 134217727)]⟩, ⟨0, 16, .rw, []⟩]⟩ /- DUG_NOTICE -/,
   ⟨0x48, 4, 1, 1, 1, 1, [⟨31, 1, .rw, []⟩, ⟨0, 24, .rw, []⟩]⟩ /- DUG_STALL -/,
   ⟨0x50, 4, 1, 1, 1, 1, [⟨16, 1, .rw, []⟩, ⟨0, 16, .rw, []⟩]⟩ /- DUG_DESC_SEL -/,
   ⟨0x54, 4, 1, 1, 1, 1, [⟨31, 1, .ro, []⟩, ⟨16, 8, .ro, []⟩, ⟨0, 3, .rwl, []⟩]⟩ /- DUG_DESC_CMD -/,
   ⟨0x58, 4, 1, 1, 1, 1, [⟨0, 12, .rw, []⟩]⟩ /- DUG_FLOW_SEL -/,
   ⟨0x60, 8, 1, 1, 1, 1, [⟨32, 32, .ro, []⟩, ⟨16, 1, .ro, []⟩, ⟨0, 16, .ro, []⟩]⟩ /- DUG_FLOW_INFO -/,
   ⟨0x68, 8, 1, 1, 1, 1, [⟨32, 32, .ro, []⟩, ⟨0, 17, .ro, []⟩]⟩ /- DUG_FLOW_PEND -/,
   ⟨0x80, 8, 8, 8, 1, 1, [⟨0, 64, .rw, []⟩]⟩ /- DUG_DESC_Wi -/]

def regTabDug1 : List RegD :=
  [⟨0xC0, 8, 1, 1, 1, 1, [⟨0, 64, .ro, []⟩]⟩ /- DUG_STAT_DISPATCH -/,
   ⟨0xC8, 4, 1, 1, 1, 1, [⟨0, 32, .ro, []⟩]⟩ /- DUG_STAT_REFUSED -/,
   ⟨0xCC, 4, 1, 1, 1, 1, [⟨0, 32, .ro, []⟩]⟩ /- DUG_STAT_REPLACED -/,
   ⟨0xD0, 4, 1, 1, 1, 1, [⟨0, 32, .ro, []⟩]⟩ /- DUG_STAT_EXCESS -/,
   ⟨0xD4, 4, 1, 1, 1, 1, [⟨0, 32, .ro, []⟩]⟩ /- DUG_STAT_SPILLED -/,
   ⟨0xD8, 4, 1, 1, 1, 1, [⟨0, 32, .ro, []⟩]⟩ /- DUG_STAT_STALLS -/]

/-- The registers of DUG at their offsets in the block. -/
def regTabDug : List RegD := regTabDug0 ++ regTabDug1

def regTabQue0 : List RegD :=
  [⟨0x20, 4, 1, 1, 1, 1, [⟨0, 17, .ro, []⟩]⟩ /- QUE_POOL -/,
   ⟨0x100, 4, 64, 64, 1, 1, [⟨31, 1, .rw, []⟩, ⟨30, 1, .rw, []⟩, ⟨29, 1, .rw, []⟩, ⟨27, 2, .rw, []⟩, ⟨24, 3, .rw, []⟩, ⟨0, 13, .rw, []⟩]⟩ /- QUE_Qn_CFG -/,
   ⟨0x104, 4, 64, 64, 1, 1, [⟨0, 16, .rw, []⟩]⟩ /- QUE_Qn_READER -/,
   ⟨0x108, 4, 64, 64, 1, 1, [⟨31, 1, .rw, []⟩, ⟨0, 25, .rw, []⟩]⟩ /- QUE_Qn_STALE -/,
   ⟨0x110, 8, 64, 64, 1, 1, [⟨16, 32, .rw, [(0, 134217727)]⟩, ⟨0, 16, .rw, []⟩]⟩ /- QUE_Qn_NOTICE -/,
   ⟨0x118, 8, 64, 64, 1, 1, [⟨0, 64, .wo, []⟩]⟩ /- QUE_Qn_PUSH -/,
   ⟨0x120, 4, 64, 64, 1, 1, [⟨16, 13, .ro, []⟩, ⟨0, 13, .ro, []⟩]⟩ /- QUE_Qn_STAT -/,
   ⟨0x124, 4, 64, 64, 1, 1, [⟨0, 13, .ro, []⟩]⟩ /- QUE_Qn_HWM -/,
   ⟨0x128, 4, 64, 64, 1, 1, [⟨16, 16, .ro, []⟩, ⟨0, 16, .ro, []⟩]⟩ /- QUE_Qn_DROPS -/,
   ⟨0x12C, 4, 64, 64, 1, 1, [⟨0, 32, .ro, []⟩]⟩ /- QUE_Qn_NOTICES -/]

/-- The registers of QUE at their offsets in the block. -/
def regTabQue : List RegD := regTabQue0

def regTabSmp0 : List RegD :=
  [⟨0x20, 4, 1, 1, 1, 1, [⟨2, 1, .rw, []⟩, ⟨1, 1, .rw, []⟩, ⟨0, 1, .rw, []⟩]⟩ /- SMPn_CFG -/,
   ⟨0x40, 4, 32, 3, 1, 1, [⟨31, 1, .rw, []⟩, ⟨30, 1, .rw, []⟩, ⟨29, 1, .rw, []⟩, ⟨26, 3, .rw, []⟩, ⟨0, 17, .rw, []⟩]⟩ /- SMPn_Sg_CFG -/,
   ⟨0x48, 8, 32, 3, 1, 1, [⟨0, 48, .rw, []⟩]⟩ /- SMPn_Sg_LO -/,
   ⟨0x50, 4, 32, 3, 1, 1, [⟨31, 1, .ro, []⟩, ⟨2, 1, .w1c, []⟩, ⟨1, 1, .w1c, []⟩, ⟨0, 1, .w1c, []⟩]⟩ /- SMPn_Sg_STAT -/,
   ⟨0x54, 4, 32, 3, 1, 1, [⟨0, 16, .ro, []⟩]⟩ /- SMPn_Sg_ALIGN -/,
   ⟨0x58, 4, 32, 3, 1, 1, [⟨0, 16, .ro, []⟩]⟩ /- SMPn_Sg_LEVEL -/,
   ⟨0x5C, 4, 32, 3, 1, 1, [⟨0, 32, .ro, []⟩]⟩ /- SMPn_Sg_BLANKED -/,
   ⟨0xA0, 4, 1, 1, 1, 1, [⟨12, 4, .rw, []⟩, ⟨8, 2, .rw, []⟩, ⟨0, 8, .rw, [(4, 250)]⟩]⟩ /- SMPn_SPI_CFG -/,
   ⟨0xA8, 8, 1, 1, 1, 1, [⟨0, 64, .wo, []⟩]⟩ /- SMPn_SPI_TX -/,
   ⟨0xB0, 8, 1, 1, 1, 1, [⟨16, 32, .rw, [(0, 134217727)]⟩, ⟨0, 16, .rw, []⟩]⟩ /- SMPn_SPI_NOTICE -/,
   ⟨0xB8, 4, 1, 1, 1, 1, [⟨16, 16, .ro, []⟩, ⟨0, 5, .ro, []⟩]⟩ /- SMPn_SPI_STAT -/]

/-- The registers of SMP at their offsets in the block. -/
def regTabSmp : List RegD := regTabSmp0

def regTabGbbch0 : List RegD :=
  [⟨0x0, 8, 256, 512, 1, 1, [⟨56, 7, .rw, []⟩, ⟨49, 7, .rw, []⟩, ⟨40, 9, .rw, []⟩, ⟨32, 8, .rw, []⟩, ⟨29, 1, .rw, []⟩, ⟨28, 1, .rw, []⟩, ⟨27, 1, .rw, []⟩, ⟨26, 1, .rw, []⟩, ⟨24, 2, .rw, [(0, 2)]⟩, ⟨16, 8, .rw, []⟩, ⟨8, 4, .rw, []⟩, ⟨0, 5, .rw, []⟩]⟩ /- GBB_CH_CFG -/,
   ⟨0x8, 8, 256, 512, 1, 1, [⟨56, 8, .rw, []⟩, ⟨48, 8, .rw, []⟩, ⟨40, 8, .rw, []⟩, ⟨32, 8, .rw, []⟩, ⟨20, 9, .rw, []⟩, ⟨12, 8, .rw, []⟩, ⟨0, 12, .rw, []⟩]⟩ /- GBB_CH_LOOP -/,
   ⟨0x10, 8, 256, 512, 1, 1, [⟨32, 10, .rw, []⟩, ⟨24, 8, .rw, []⟩, ⟨16, 8, .rw, []⟩, ⟨0, 11, .rw, []⟩]⟩ /- GBB_CH_RECOVER -/,
   ⟨0x18, 8, 256, 512, 1, 1, [⟨0, 64, .rw, []⟩]⟩ /- GBB_CH_INIT_CODE -/,
   ⟨0x20, 8, 256, 512, 1, 1, [⟨32, 32, .rw, []⟩, ⟨0, 32, .rw, []⟩]⟩ /- GBB_CH_INIT_DOPP -/,
   ⟨0x28, 8, 256, 512, 1, 1, [⟨0, 64, .rw, []⟩]⟩ /- GBB_CH_INIT_TIME -/,
   ⟨0x30, 4, 256, 512, 1, 1, [⟨31, 1, .ro, []⟩, ⟨16, 8, .ro, []⟩, ⟨0, 4, .rw, [(1, 6)]⟩]⟩ /- GBB_CH_CMD -/,
   ⟨0x34, 4, 256, 512, 1, 1, [⟨16, 16, .ro, []⟩, ⟨8, 1, .ro, []⟩, ⟨7, 1, .ro, []⟩, ⟨6, 1, .ro, []⟩, ⟨5, 1, .ro, []⟩, ⟨4, 1, .ro, []⟩, ⟨3, 1, .ro, []⟩, ⟨0, 3, .ro, []⟩]⟩ /- GBB_CH_STATUS -/,
   ⟨0x38, 8, 256, 512, 1, 1, [⟨32, 32, .ro, []⟩, ⟨0, 32, .ro, []⟩]⟩ /- GBB_CH_NCO -/,
   ⟨0x40, 8, 256, 512, 1, 1, [⟨16, 32, .rw, [(0, 134217727)]⟩, ⟨0, 16, .rw, []⟩]⟩ /- GBB_CH_NOTICE -/,
   ⟨0x48, 4, 256, 512, 1, 1, [⟨0, 8, .w1c, []⟩]⟩ /- GBB_CH_EVENTS -/,
   ⟨0x4C, 4, 256, 512, 1, 1, [⟨0, 8, .rw, []⟩]⟩ /- GBB_CH_EVENT_EN -/]

def regTabGbbch1 : List RegD :=
  [⟨0x50, 8, 256, 512, 1, 1, [⟨48, 16, .ro, []⟩, ⟨32, 16, .ro, []⟩, ⟨16, 16, .ro, []⟩, ⟨0, 16, .ro, []⟩]⟩ /- GBB_CH_STAT -/,
   ⟨0x58, 4, 256, 512, 1, 1, [⟨8, 8, .rw, []⟩, ⟨0, 1, .rw, []⟩]⟩ /- GBB_CH_DUMP_CFG -/,
   ⟨0x80, 4, 256, 512, 1, 1, []⟩ /- GBB_CH_DUMP -/]

/-- The registers of GBBCH at their offsets in the block. -/
def regTabGbbch : List RegD := regTabGbbch0 ++ regTabGbbch1

def regTabGbb0 : List RegD :=
  [⟨0x20, 4, 1, 1, 1, 1, [⟨16, 16, .rw, []⟩, ⟨8, 8, .rw, [(1, 255)]⟩, ⟨0, 3, .rw, []⟩]⟩ /- GBB_CFG -/,
   ⟨0x28, 8, 1, 1, 1, 1, [⟨7, 33, .rwl, []⟩]⟩ /- GBB_DUMP_BASE -/,
   ⟨0x30, 4, 1, 1, 1, 1, [⟨0, 17, .rwl, [(0, 65536)]⟩]⟩ /- GBB_DUMP_SIZE -/,
   ⟨0x34, 4, 1, 1, 1, 1, [⟨0, 16, .ro, []⟩]⟩ /- GBB_DUMP_WR -/,
   ⟨0x38, 4, 1, 1, 1, 1, [⟨0, 16, .rw, []⟩]⟩ /- GBB_DUMP_RD -/,
   ⟨0x3C, 4, 1, 1, 1, 1, [⟨31, 1, .rw, []⟩, ⟨8, 3, .rw, []⟩, ⟨0, 6, .rw, []⟩]⟩ /- GBB_DUMP_Q -/,
   ⟨0x40, 8, 1, 1, 1, 1, [⟨16, 32, .rw, [(0, 134217727)]⟩, ⟨0, 16, .rw, []⟩]⟩ /- GBB_VEC_NOTICE -/,
   ⟨0x48, 4, 4, 2, 1, 1, [⟨16, 16, .ro, []⟩, ⟨4, 1, .ro, []⟩, ⟨0, 4, .ro, []⟩]⟩ /- GBB_SRCH_s_STAT -/,
   ⟨0x50, 4, 1, 1, 1, 1, [⟨0, 8, .ro, []⟩]⟩ /- GBB_CLUSTERS -/,
   ⟨0x58, 4, 1, 1, 1, 1, [⟨0, 32, .ro, []⟩]⟩ /- GBB_STAT_DUMP_DROPS -/,
   ⟨0x5C, 4, 1, 1, 1, 1, [⟨0, 32, .ro, []⟩]⟩ /- GBB_STAT_WORD_LOST -/,
   ⟨0x60, 4, 1, 1, 1, 1, [⟨0, 32, .ro, []⟩]⟩ /- GBB_STAT_VEC_REFUSED -/]

/-- The registers of GBB at their offsets in the block. -/
def regTabGbb : List RegD := regTabGbb0

def regTabGob0 : List RegD :=
  [⟨0x20, 4, 1, 1, 1, 1, [⟨10, 2, .rw, [(0, 2)]⟩, ⟨6, 4, .rw, []⟩, ⟨2, 1, .rw, []⟩, ⟨1, 1, .rw, []⟩, ⟨0, 1, .rw, []⟩]⟩ /- GOB_CTRL -/,
   ⟨0x24, 4, 1, 1, 1, 1, [⟨0, 14, .rw, [(1, 10000)]⟩]⟩ /- GOB_PERIOD -/,
   ⟨0x28, 4, 1, 1, 1, 1, [⟨0, 30, .rw, []⟩]⟩ /- GOB_PHASE -/,
   ⟨0x2C, 4, 1, 1, 1, 1, [⟨0, 32, .rw, [(10000, 1000000)]⟩]⟩ /- GOB_STACK_LEAD -/,
   ⟨0x30, 8, 1, 1, 1, 1, [⟨0, 64, .rw, []⟩]⟩ /- GOB_SOFT_TIME -/,
   ⟨0x38, 4, 1, 1, 1, 1, [⟨31, 1, .ro, []⟩, ⟨16, 8, .ro, []⟩, ⟨1, 1, .wo, []⟩, ⟨0, 1, .wo, []⟩]⟩ /- GOB_SOFT -/,
   ⟨0x40, 8, 1, 1, 1, 1, [⟨48, 1, .rw, []⟩, ⟨16, 32, .rw, [(0, 134217727)]⟩, ⟨0, 16, .rw, []⟩]⟩ /- GOB_SNAP_NOTICE -/,
   ⟨0x48, 4, 1, 1, 1, 1, [⟨0, 2, .rw, [(0, 2)]⟩]⟩ /- GOB_HOLD -/,
   ⟨0x4C, 4, 1, 1, 1, 1, [⟨0, 32, .ro, []⟩]⟩ /- GOB_LAST -/,
   ⟨0x50, 4, 1, 1, 1, 1, [⟨0, 1, .ro, []⟩]⟩ /- GOB_LAST_BANK -/,
   ⟨0x58, 8, 1, 1, 1, 1, [⟨0, 64, .ro, []⟩]⟩ /- GOB_NEXT -/,
   ⟨0x60, 4, 1, 1, 1, 1, [⟨0, 32, .ro, []⟩]⟩ /- GOB_STAT_SNAPS -/]

def regTabGob1 : List RegD :=
  [⟨0x64, 4, 1, 1, 1, 1, [⟨0, 32, .ro, []⟩]⟩ /- GOB_STAT_DEFERRED -/,
   ⟨0x68, 4, 1, 1, 1, 1, [⟨0, 32, .ro, []⟩]⟩ /- GOB_STAT_MERGED -/,
   ⟨0x6C, 4, 1, 1, 1, 1, [⟨0, 32, .ro, []⟩]⟩ /- GOB_STAT_CONFLICTS -/,
   ⟨0x70, 4, 1, 1, 1, 1, [⟨0, 32, .ro, []⟩]⟩ /- GOB_STAT_MISSED -/,
   ⟨0x74, 4, 1, 1, 1, 1, [⟨0, 32, .ro, []⟩]⟩ /- GOB_STAT_NAV_WORD_LOST -/,
   ⟨0x80, 8, 8, 6, 1, 1, [⟨32, 1, .rw, []⟩, ⟨0, 32, .rw, []⟩]⟩ /- GOB_ISB_EST_s -/,
   ⟨0xC0, 4, 1, 1, 1, 1, [⟨31, 1, .rw, []⟩, ⟨8, 3, .rw, []⟩, ⟨0, 6, .rw, []⟩]⟩ /- GOB_NAV_Q -/,
   ⟨0x1000, 4, 16, 512, 1, 1, [⟨2, 1, .rw, []⟩, ⟨0, 2, .rw, []⟩]⟩ /- GOB_NAV_CFG_c -/,
   ⟨0x1004, 4, 16, 512, 1, 1, [⟨16, 5, .ro, []⟩, ⟨0, 5, .rw, []⟩]⟩ /- GOB_NAV_PTR_c -/,
   ⟨0x1008, 4, 16, 512, 1, 1, [⟨0, 32, .ro, []⟩]⟩ /- GOB_NAV_LOST_c -/]

/-- The registers of GOB at their offsets in the block. -/
def regTabGob : List RegD := regTabGob0 ++ regTabGob1

def regTabPos0 : List RegD :=
  [⟨0x20, 4, 1, 1, 1, 1, [⟨1, 1, .rw, []⟩, ⟨0, 1, .rw, []⟩]⟩ /- POS_CTRL -/,
   ⟨0x24, 4, 1, 1, 1, 1, [⟨0, 5, .ro, []⟩]⟩ /- POS_QUEUE -/,
   ⟨0x28, 8, 8, 2, 1, 1, [⟨63, 1, .ro, []⟩, ⟨60, 3, .ro, []⟩, ⟨0, 40, .ro, []⟩]⟩ /- POS_UNIT_u -/,
   ⟨0x40, 4, 1, 1, 1, 1, [⟨0, 32, .ro, []⟩]⟩ /- POS_STAT_DONE -/,
   ⟨0x44, 4, 1, 1, 1, 1, [⟨0, 32, .ro, []⟩]⟩ /- POS_STAT_BUDGET -/,
   ⟨0x48, 4, 1, 1, 1, 1, [⟨0, 32, .ro, []⟩]⟩ /- POS_STAT_DEADLINE -/,
   ⟨0x4C, 4, 1, 1, 1, 1, [⟨0, 32, .ro, []⟩]⟩ /- POS_STAT_REFUSED -/,
   ⟨0x50, 4, 1, 1, 1, 1, [⟨0, 32, .ro, []⟩]⟩ /- POS_STAT_CANCELLED -/,
   ⟨0x58, 8, 1, 1, 1, 1, [⟨0, 64, .ro, []⟩]⟩ /- POS_STAT_NODES -/]

/-- The registers of POS at their offsets in the block. -/
def regTabPos : List RegD := regTabPos0

def regTabTim0 : List RegD :=
  [⟨0x20, 4, 1, 1, 1, 1, [⟨16, 16, .rw, [(1, 65535)]⟩, ⟨4, 4, .rw, []⟩, ⟨0, 3, .rw, [(0, 5)]⟩]⟩ /- TIM_SRC -/,
   ⟨0x24, 4, 1, 1, 1, 1, [⟨16, 16, .ro, []⟩, ⟨0, 8, .ro, []⟩]⟩ /- TIM_STATUS -/,
   ⟨0x28, 8, 1, 1, 1, 1, [⟨0, 64, .ro, []⟩]⟩ /- TIM_NOW -/,
   ⟨0x30, 4, 1, 1, 1, 1, [⟨31, 1, .ro, []⟩, ⟨0, 1, .wo, []⟩]⟩ /- TIM_LATCH -/,
   ⟨0x38, 8, 1, 1, 1, 1, [⟨0, 64, .ro, []⟩]⟩ /- TIM_FREQ -/,
   ⟨0x40, 8, 1, 1, 1, 1, [⟨0, 64, .rw, []⟩]⟩ /- TIM_ADJ_PHASE -/,
   ⟨0x48, 8, 1, 1, 1, 1, [⟨0, 64, .rw, []⟩]⟩ /- TIM_ADJ_FREQ -/,
   ⟨0x50, 4, 1, 1, 1, 1, [⟨31, 1, .ro, []⟩, ⟨16, 8, .ro, []⟩, ⟨8, 3, .rw, []⟩, ⟨3, 1, .rw, []⟩, ⟨2, 1, .rw, []⟩, ⟨1, 1, .rw, []⟩, ⟨0, 1, .wo, []⟩]⟩ /- TIM_ADJ_CMD -/,
   ⟨0x54, 4, 1, 1, 1, 1, [⟨0, 19, .rw, [(1, 500000)]⟩]⟩ /- TIM_SLEW -/,
   ⟨0x58, 4, 1, 1, 1, 1, [⟨0, 32, .rw, []⟩]⟩ /- TIM_STEP_THR -/,
   ⟨0x60, 8, 1, 1, 1, 1, [⟨0, 64, .ro, []⟩]⟩ /- TIM_SLEW_LEFT -/,
   ⟨0x68, 8, 1, 1, 1, 1, [⟨0, 64, .ro, []⟩]⟩ /- TIM_STEP_LEFT -/]

def regTabTim1 : List RegD :=
  [⟨0x70, 8, 1, 1, 1, 1, [⟨0, 64, .rw, []⟩]⟩ /- TIM_GPS_OFFSET -/,
   ⟨0x78, 4, 1, 1, 1, 1, [⟨17, 1, .rw, []⟩, ⟨16, 1, .rw, []⟩, ⟨8, 8, .rw, []⟩, ⟨0, 8, .rw, []⟩]⟩ /- TIM_LEAP -/,
   ⟨0x80, 8, 1, 1, 1, 1, [⟨0, 64, .rw, []⟩]⟩ /- TIM_LEAP_AT -/,
   ⟨0x88, 8, 1, 1, 1, 1, [⟨0, 64, .ro, []⟩]⟩ /- TIM_MARK -/,
   ⟨0x90, 4, 1, 1, 1, 1, [⟨0, 32, .ro, []⟩]⟩ /- TIM_MARK_FRAC -/,
   ⟨0x94, 4, 1, 1, 1, 1, [⟨0, 32, .ro, []⟩]⟩ /- TIM_MARK_COUNT -/,
   ⟨0x98, 4, 1, 1, 1, 1, [⟨0, 7, .w1c, []⟩]⟩ /- TIM_EVENTS -/,
   ⟨0x9C, 4, 1, 1, 1, 1, [⟨0, 7, .rw, []⟩]⟩ /- TIM_EVENT_EN -/,
   ⟨0xA0, 8, 1, 1, 1, 1, [⟨16, 32, .rw, [(0, 134217727)]⟩, ⟨0, 16, .rw, []⟩]⟩ /- TIM_NOTICE -/,
   ⟨0xA8, 8, 1, 1, 1, 1, [⟨16, 32, .rw, [(0, 134217727)]⟩, ⟨0, 16, .rw, []⟩]⟩ /- TIM_TP_NOTICE -/,
   ⟨0xB0, 8, 1, 1, 1, 1, [⟨0, 64, .ro, []⟩]⟩ /- TIM_LT_TIME -/,
   ⟨0xB8, 4, 1, 1, 1, 1, [⟨0, 32, .ro, []⟩]⟩ /- TIM_LT_FRAC -/]

def regTabTim2 : List RegD :=
  [⟨0x100, 8, 16, 8, 1, 1, [⟨0, 64, .ro, []⟩]⟩ /- TIM_LT_VIEW_v_SEC -/,
   ⟨0x108, 4, 16, 8, 1, 1, [⟨31, 1, .ro, []⟩, ⟨30, 1, .ro, []⟩, ⟨0, 30, .ro, []⟩]⟩ /- TIM_LT_VIEW_v_NS -/,
   ⟨0x400, 4, 32, 32, 1, 1, [⟨31, 1, .rw, []⟩, ⟨28, 3, .rw, []⟩, ⟨27, 1, .rw, []⟩, ⟨26, 1, .rw, []⟩, ⟨25, 1, .rw, []⟩, ⟨20, 4, .rw, []⟩, ⟨0, 16, .rw, []⟩]⟩ /- TIM_TPp_CFG -/,
   ⟨0x404, 4, 32, 32, 1, 1, [⟨0, 16, .rw, []⟩]⟩ /- TIM_TPp_DELAY -/,
   ⟨0x408, 8, 32, 32, 1, 1, [⟨0, 64, .rw, []⟩]⟩ /- TIM_TPp_START -/,
   ⟨0x410, 4, 32, 32, 1, 1, [⟨0, 32, .rw, []⟩]⟩ /- TIM_TPp_PERIOD -/,
   ⟨0x414, 4, 32, 32, 1, 1, [⟨0, 32, .rw, []⟩]⟩ /- TIM_TPp_WIDTH -/,
   ⟨0x418, 4, 32, 32, 1, 1, [⟨31, 1, .ro, []⟩, ⟨30, 1, .ro, []⟩, ⟨16, 8, .ro, []⟩, ⟨0, 16, .ro, []⟩]⟩ /- TIM_TPp_STAT -/,
   ⟨0x41C, 4, 32, 32, 1, 1, [⟨0, 32, .ro, []⟩]⟩ /- TIM_TPp_PULSES -/,
   ⟨0x800, 4, 32, 16, 1, 1, [⟨31, 1, .rw, []⟩, ⟨28, 2, .rw, [(0, 2)]⟩, ⟨27, 1, .rw, []⟩]⟩ /- TIM_TCn_CFG -/,
   ⟨0x808, 8, 32, 16, 1, 1, [⟨16, 32, .rw, [(0, 134217727)]⟩, ⟨0, 16, .rw, []⟩]⟩ /- TIM_TCn_NOTICE -/,
   ⟨0x810, 8, 32, 16, 1, 1, [⟨0, 64, .ro, []⟩]⟩ /- TIM_TCn_STAMP -/]

def regTabTim3 : List RegD :=
  [⟨0x818, 4, 32, 16, 1, 1, [⟨31, 1, .w1c, []⟩, ⟨30, 1, .ro, []⟩, ⟨16, 3, .ro, []⟩, ⟨0, 16, .ro, []⟩]⟩ /- TIM_TCn_STAT -/]

/-- The registers of TIM at their offsets in the block. -/
def regTabTim : List RegD := regTabTim0 ++ regTabTim1 ++ regTabTim2 ++ regTabTim3

def regTabEth0 : List RegD :=
  [⟨0x100, 4, 64, 2, 1, 1, [⟨31, 1, .rw, []⟩, ⟨30, 1, .rw, []⟩, ⟨29, 1, .rw, []⟩, ⟨28, 1, .rw, []⟩, ⟨27, 1, .rw, []⟩, ⟨26, 1, .rw, []⟩]⟩ /- ETH_PTPp_CFG -/,
   ⟨0x104, 4, 64, 2, 1, 1, [⟨16, 16, .rw, []⟩, ⟨0, 16, .rw, []⟩]⟩ /- ETH_PTPp_LAT -/,
   ⟨0x108, 4, 64, 2, 1, 1, [⟨31, 1, .ro, []⟩, ⟨0, 16, .ro, []⟩]⟩ /- ETH_PTPp_TXTS_ID -/,
   ⟨0x110, 8, 64, 2, 1, 1, [⟨0, 64, .ro, []⟩]⟩ /- ETH_PTPp_TXTS_STAMP -/,
   ⟨0x118, 4, 64, 2, 1, 1, [⟨31, 1, .w1c, []⟩, ⟨16, 5, .ro, []⟩, ⟨0, 16, .ro, []⟩]⟩ /- ETH_PTPp_TXTS_STAT -/,
   ⟨0x120, 8, 64, 2, 1, 1, [⟨48, 1, .rw, []⟩, ⟨16, 32, .rw, [(0, 134217727)]⟩, ⟨0, 16, .rw, []⟩]⟩ /- ETH_PTPp_NOTICE -/,
   ⟨0x200, 4, 128, 2, 1, 1, [⟨31, 1, .rw, []⟩, ⟨30, 1, .rw, []⟩, ⟨29, 1, .rw, []⟩, ⟨28, 1, .rw, []⟩, ⟨27, 1, .rw, []⟩]⟩ /- ETH_Pp_MACCFG -/,
   ⟨0x208, 8, 128, 2, 1, 1, [⟨0, 48, .rw, []⟩]⟩ /- ETH_Pp_MAC -/,
   ⟨0x210, 8, 128, 2, 1, 1, [⟨0, 64, .rw, []⟩]⟩ /- ETH_Pp_HASH -/,
   ⟨0x218, 4, 128, 2, 1, 1, [⟨31, 1, .ro, []⟩, ⟨16, 2, .ro, []⟩, ⟨0, 16, .ro, []⟩]⟩ /- ETH_Pp_LINK -/,
   ⟨0x220, 8, 128, 2, 1, 1, [⟨11, 29, .rwl, []⟩]⟩ /- ETH_Pp_RX_BASE -/,
   ⟨0x228, 4, 128, 2, 1, 1, [⟨0, 13, .rwl, [(0, 0), (2, 4096)]⟩]⟩ /- ETH_Pp_RX_SIZE -/]

def regTabEth1 : List RegD :=
  [⟨0x22C, 4, 128, 2, 1, 1, [⟨0, 12, .ro, []⟩]⟩ /- ETH_Pp_RX_WR -/,
   ⟨0x230, 4, 128, 2, 1, 1, [⟨0, 12, .rw, []⟩]⟩ /- ETH_Pp_RX_RD -/,
   ⟨0x238, 8, 128, 2, 1, 1, [⟨48, 1, .rw, []⟩, ⟨16, 32, .rw, [(0, 134217727)]⟩, ⟨0, 16, .rw, []⟩]⟩ /- ETH_Pp_RX_NOTICE -/,
   ⟨0x240, 4, 128, 2, 1, 1, [⟨31, 1, .rw, []⟩, ⟨8, 3, .rw, []⟩, ⟨0, 6, .rw, []⟩]⟩ /- ETH_Pp_RX_Q -/,
   ⟨0x248, 8, 128, 2, 1, 1, [⟨48, 1, .rw, []⟩, ⟨16, 32, .rw, [(0, 134217727)]⟩, ⟨0, 16, .rw, []⟩]⟩ /- ETH_Pp_TXNOTICE -/,
   ⟨0x250, 8, 128, 2, 1, 1, [⟨48, 16, .ro, []⟩, ⟨32, 16, .ro, []⟩, ⟨16, 16, .ro, []⟩, ⟨0, 16, .ro, []⟩]⟩ /- ETH_Pp_STAT -/,
   ⟨0x258, 4, 128, 2, 1, 1, [⟨0, 6, .ro, []⟩]⟩ /- ETH_Pp_TXSTAT -/]

/-- The registers of ETH at their offsets in the block. -/
def regTabEth : List RegD := regTabEth0 ++ regTabEth1

def regTabRad0 : List RegD :=
  [⟨0x20, 4, 1, 1, 1, 1, [⟨16, 3, .rw, []⟩, ⟨0, 16, .rw, []⟩]⟩ /- RAD_CFG -/,
   ⟨0x28, 8, 1, 1, 1, 1, [⟨48, 1, .rw, []⟩, ⟨16, 32, .rw, [(0, 134217727)]⟩, ⟨0, 16, .rw, []⟩]⟩ /- RAD_NOTICE -/,
   ⟨0x30, 4, 1, 1, 1, 1, [⟨0, 8, .rw, []⟩]⟩ /- RAD_NOTICE_EN -/,
   ⟨0x38, 8, 1, 1, 1, 1, [⟨0, 64, .ro, []⟩]⟩ /- RAD_CLOCK -/,
   ⟨0x100, 4, 256, 4, 1, 1, [⟨31, 1, .rw, []⟩, ⟨29, 2, .rw, [(0, 2)]⟩, ⟨27, 2, .rw, []⟩, ⟨25, 2, .rw, []⟩, ⟨20, 5, .rw, [(2, 16)]⟩, ⟨12, 8, .rw, []⟩, ⟨0, 8, .rw, []⟩]⟩ /- RADn_CFG -/,
   ⟨0x104, 4, 256, 4, 1, 1, [⟨0, 5, .rw, [(1, 20)]⟩]⟩ /- RADn_LEAD -/,
   ⟨0x108, 4, 256, 4, 1, 1, [⟨0, 32, .rw, []⟩]⟩ /- RADn_SYNC -/,
   ⟨0x110, 8, 256, 4, 1, 1, [⟨63, 1, .rw, []⟩, ⟨60, 3, .rw, []⟩, ⟨32, 12, .rw, [(8, 3200)]⟩, ⟨18, 2, .rw, []⟩, ⟨12, 6, .rw, []⟩, ⟨6, 6, .rw, []⟩, ⟨0, 6, .rw, []⟩]⟩ /- RADn_BEACON -/,
   ⟨0x118, 4, 256, 4, 1, 1, [⟨24, 3, .rw, [(0, 4)]⟩, ⟨18, 6, .rw, []⟩, ⟨12, 6, .rw, []⟩, ⟨6, 6, .rw, []⟩, ⟨0, 6, .rw, []⟩]⟩ /- RADn_STOP -/,
   ⟨0x120, 8, 256, 4, 1, 1, [⟨0, 64, .ro, []⟩]⟩ /- RADn_UNKNOWN_ID -/,
   ⟨0x1C0, 4, 256, 4, 1, 1, []⟩ /- RADn_STAT -/,
   ⟨0x140, 4, 256, 4, 32, 4, [⟨26, 6, .rw, [(0, 40)]⟩, ⟨0, 22, .rw, []⟩]⟩ /- RADn_SBs_FREQ -/]

def regTabRad1 : List RegD :=
  [⟨0x144, 4, 256, 4, 32, 4, [⟨0, 32, .rw, []⟩]⟩ /- RADn_SBs_LIMIT -/,
   ⟨0x148, 4, 256, 4, 32, 4, [⟨31, 1, .rw, []⟩, ⟨30, 1, .rw, []⟩, ⟨8, 8, .rw, []⟩, ⟨0, 8, .rw, []⟩]⟩ /- RADn_SBs_BUDGET -/,
   ⟨0x150, 8, 256, 4, 32, 4, [⟨32, 32, .ro, []⟩, ⟨0, 32, .ro, []⟩]⟩ /- RADn_SBs_USED -/,
   ⟨0x158, 4, 256, 4, 32, 4, [⟨16, 16, .ro, []⟩, ⟨0, 16, .ro, []⟩]⟩ /- RADn_SBs_SKIPS -/,
   ⟨0x1000, 8, 64, 64, 1, 1, [⟨0, 64, .rw, []⟩]⟩ /- RAD_Aa_ID -/,
   ⟨0x1008, 8, 64, 64, 1, 1, [⟨40, 12, .rw, []⟩, ⟨37, 3, .rw, []⟩, ⟨36, 1, .rw, []⟩, ⟨34, 2, .rw, []⟩, ⟨32, 2, .rw, []⟩, ⟨0, 11, .rw, []⟩]⟩ /- RAD_Aa_CFG -/,
   ⟨0x1010, 8, 64, 64, 1, 1, [⟨48, 16, .rw, []⟩, ⟨36, 12, .rw, []⟩, ⟨24, 12, .rw, []⟩, ⟨15, 9, .rw, []⟩, ⟨0, 12, .rw, []⟩]⟩ /- RAD_Aa_TIMING -/,
   ⟨0x1018, 8, 64, 64, 1, 1, [⟨52, 6, .rw, []⟩, ⟨46, 6, .rw, []⟩, ⟨0, 40, .rw, []⟩]⟩ /- RAD_Aa_CHMAP -/,
   ⟨0x1020, 8, 64, 64, 1, 1, [⟨48, 16, .rw, []⟩, ⟨36, 12, .rw, []⟩, ⟨24, 12, .rw, []⟩, ⟨15, 9, .rw, []⟩, ⟨0, 12, .rw, []⟩]⟩ /- RAD_Aa_NEXT_TIMING -/,
   ⟨0x1028, 8, 64, 64, 1, 1, [⟨52, 6, .rw, []⟩, ⟨46, 6, .rw, []⟩, ⟨0, 40, .rw, []⟩]⟩ /- RAD_Aa_NEXT_MAP -/,
   ⟨0x1030, 4, 64, 64, 1, 1, [⟨0, 16, .rw, []⟩]⟩ /- RAD_Aa_GROUPS -/,
   ⟨0x1034, 4, 64, 64, 1, 1, [⟨31, 1, .ro, []⟩, ⟨16, 8, .ro, []⟩, ⟨0, 4, .rw, []⟩]⟩ /- RAD_Aa_CMD -/]

def regTabRad2 : List RegD :=
  [⟨0x1038, 8, 64, 64, 1, 1, [⟨48, 16, .ro, []⟩, ⟨24, 24, .ro, []⟩, ⟨21, 3, .ro, []⟩, ⟨20, 1, .ro, []⟩, ⟨19, 1, .ro, []⟩, ⟨14, 5, .ro, []⟩, ⟨0, 3, .ro, []⟩]⟩ /- RAD_Aa_STATUS -/,
   ⟨0x2000, 8, 32, 16, 1, 1, [⟨63, 1, .rw, []⟩, ⟨60, 3, .rw, []⟩, ⟨58, 2, .rw, []⟩, ⟨56, 2, .rw, []⟩, ⟨50, 2, .rw, []⟩, ⟨36, 12, .rw, []⟩, ⟨24, 12, .rw, []⟩]⟩ /- RAD_Gg_CFG -/,
   ⟨0x2008, 8, 32, 16, 1, 1, [⟨52, 6, .rw, []⟩, ⟨46, 6, .rw, []⟩, ⟨0, 40, .rw, []⟩]⟩ /- RAD_Gg_CHMAP -/,
   ⟨0x2010, 4, 32, 16, 1, 1, [⟨16, 16, .ro, []⟩, ⟨0, 5, .ro, []⟩]⟩ /- RAD_Gg_STAT -/]

/-- The registers of RAD at their offsets in the block. -/
def regTabRad : List RegD := regTabRad0 ++ regTabRad1 ++ regTabRad2

def regTabZon0 : List RegD :=
  [⟨0x20, 4, 1, 1, 1, 1, [⟨31, 1, .rw, []⟩, ⟨2, 1, .rw, []⟩, ⟨1, 1, .rw, []⟩]⟩ /- ZON_CTRL -/,
   ⟨0x28, 8, 1, 1, 1, 1, [⟨16, 24, .rwl, []⟩]⟩ /- ZON_TABLE_A -/,
   ⟨0x30, 8, 1, 1, 1, 1, [⟨16, 24, .rwl, []⟩]⟩ /- ZON_TABLE_B -/,
   ⟨0x38, 4, 1, 1, 1, 1, [⟨0, 5, .rwl, [(16, 20)]⟩]⟩ /- ZON_TABLE_CFG -/,
   ⟨0x3C, 4, 1, 1, 1, 1, [⟨0, 16, .rw, [(1, 1000)]⟩]⟩ /- ZON_2PC -/,
   ⟨0x40, 4, 1, 1, 1, 1, [⟨8, 1, .ro, []⟩, ⟨0, 6, .ro, []⟩]⟩ /- ZON_QUEUE -/,
   ⟨0x44, 4, 1, 1, 1, 1, [⟨0, 21, .ro, []⟩]⟩ /- ZON_LIVE_ENTRIES -/,
   ⟨0x48, 4, 1, 1, 1, 1, [⟨0, 17, .ro, []⟩]⟩ /- ZON_LIVE_TRACKS -/,
   ⟨0x50, 4, 1, 1, 1, 1, [⟨0, 32, .ro, []⟩]⟩ /- ZON_STAT_RESERVED -/,
   ⟨0x54, 4, 1, 1, 1, 1, [⟨0, 32, .ro, []⟩]⟩ /- ZON_STAT_CONFLICTS -/,
   ⟨0x58, 8, 1, 1, 1, 1, [⟨0, 64, .ro, []⟩]⟩ /- ZON_STAT_CELLS -/,
   ⟨0x60, 4, 1, 1, 1, 1, [⟨0, 32, .ro, []⟩]⟩ /- ZON_STAT_EXPIRED -/]

def regTabZon1 : List RegD :=
  [⟨0x64, 4, 1, 1, 1, 1, [⟨0, 32, .ro, []⟩]⟩ /- ZON_STAT_CROSS -/,
   ⟨0x68, 4, 1, 1, 1, 1, [⟨0, 32, .ro, []⟩]⟩ /- ZON_STAT_REFUSED -/,
   ⟨0x100, 4, 32, 8, 1, 1, [⟨31, 1, .rw, []⟩, ⟨24, 4, .rw, [(4, 12)]⟩, ⟨16, 8, .rw, [(1, 128)]⟩, ⟨0, 14, .rw, [(10, 10000)]⟩]⟩ /- ZON_Ff_CFG -/,
   ⟨0x104, 4, 32, 8, 1, 1, [⟨0, 16, .rw, [(0, 35999)]⟩]⟩ /- ZON_Ff_ROT -/,
   ⟨0x108, 8, 32, 8, 1, 1, [⟨32, 32, .rw, []⟩, ⟨0, 32, .rw, []⟩]⟩ /- ZON_Ff_ORIGIN -/,
   ⟨0x110, 8, 32, 8, 1, 1, [⟨0, 64, .rw, []⟩]⟩ /- ZON_Ff_EPOCH -/,
   ⟨0x118, 4, 32, 8, 1, 1, [⟨0, 32, .ro, []⟩]⟩ /- ZON_Ff_SLOT -/,
   ⟨0x11C, 4, 32, 8, 1, 1, [⟨0, 21, .ro, []⟩]⟩ /- ZON_Ff_LIVE -/,
   ⟨0x200, 4, 4, 32, 1, 1, [⟨28, 4, .rw, []⟩, ⟨24, 4, .rw, []⟩, ⟨20, 4, .rw, []⟩, ⟨16, 4, .rw, []⟩, ⟨12, 4, .rw, []⟩, ⟨8, 4, .rw, []⟩, ⟨4, 4, .rw, []⟩, ⟨0, 4, .rw, []⟩]⟩ /- ZON_SHARD_MAPi -/]

/-- The registers of ZON at their offsets in the block. -/
def regTabZon : List RegD := regTabZon0 ++ regTabZon1

def regTabRef0 : List RegD :=
  [⟨0x400, 4, 1, 1, 1, 1, [⟨31, 1, .ro, []⟩, ⟨30, 1, .ro, []⟩, ⟨29, 1, .w1c, []⟩, ⟨28, 1, .ro, []⟩, ⟨27, 1, .ro, []⟩, ⟨16, 8, .ro, []⟩, ⟨8, 8, .ro, []⟩, ⟨0, 4, .ro, []⟩]⟩ /- REF_STOP_STATUS -/,
   ⟨0x404, 4, 1, 1, 1, 1, [⟨0, 32, .ro, []⟩]⟩ /- REF_STOP_ID -/,
   ⟨0x408, 8, 1, 1, 1, 1, [⟨0, 64, .ro, []⟩]⟩ /- REF_STOP_TIME -/,
   ⟨0x410, 8, 1, 1, 1, 1, [⟨0, 64, .ro, []⟩]⟩ /- REF_STOP_LOCAL_TIME -/,
   ⟨0x418, 4, 1, 1, 1, 1, [⟨0, 8, .wo, []⟩]⟩ /- REF_STOP_RAISE -/,
   ⟨0x41C, 4, 1, 1, 1, 1, [⟨31, 1, .ro, []⟩, ⟨16, 8, .ro, []⟩, ⟨0, 2, .rw, [(1, 2)]⟩]⟩ /- REF_STOP_CMD -/,
   ⟨0x420, 4, 1, 1, 1, 1, [⟨31, 1, .rw, []⟩, ⟨0, 10, .rw, [(1, 1000)]⟩]⟩ /- REF_STOP_CFG -/,
   ⟨0x424, 4, 1, 1, 1, 1, [⟨0, 16, .rw, []⟩]⟩ /- REF_FENCE_EN -/,
   ⟨0x428, 4, 1, 1, 1, 1, [⟨0, 16, .ro, []⟩]⟩ /- REF_FENCE_FB -/,
   ⟨0x42C, 4, 1, 1, 1, 1, [⟨0, 4, .rw, []⟩]⟩ /- REF_PWEN_EN -/,
   ⟨0x430, 4, 1, 1, 1, 1, [⟨0, 4, .ro, []⟩]⟩ /- REF_PWEN_FB -/,
   ⟨0x438, 8, 1, 1, 1, 1, [⟨48, 1, .rw, []⟩, ⟨16, 32, .rw, [(0, 134217727)]⟩, ⟨0, 16, .rw, []⟩]⟩ /- REF_STOP_NOTICE -/]

def regTabRef1 : List RegD :=
  [⟨0x440, 4, 1, 1, 1, 1, [⟨16, 16, .ro, []⟩, ⟨0, 16, .ro, []⟩]⟩ /- REF_STOP_STAT -/,
   ⟨0x500, 8, 1, 1, 1, 1, [⟨0, 48, .ro, []⟩]⟩ /- REF_FENCED -/,
   ⟨0x508, 4, 1, 1, 1, 1, [⟨31, 1, .ro, []⟩, ⟨16, 8, .ro, []⟩, ⟨8, 6, .rw, []⟩, ⟨0, 2, .rw, [(1, 2)]⟩]⟩ /- REF_ISLAND_CMD -/,
   ⟨0x540, 4, 1, 1, 1, 1, []⟩ /- REF_LAST_BREATH -/,
   ⟨0x580, 4, 1, 1, 1, 1, [⟨0, 1, .wo, []⟩]⟩ /- REF_LB_CLEAR -/]

/-- The registers of REF at their offsets in the block. -/
def regTabRef : List RegD := regTabRef0 ++ regTabRef1

def regTabMch0 : List RegD :=
  [⟨0x20, 4, 1, 1, 1, 1, [⟨0, 32, .ro, []⟩]⟩ /- MCH_IL_STATE -/,
   ⟨0x24, 4, 1, 1, 1, 1, [⟨0, 32, .w1s, []⟩]⟩ /- MCH_IL_SOFT_SET -/,
   ⟨0x28, 4, 1, 1, 1, 1, [⟨0, 32, .w1c, []⟩]⟩ /- MCH_IL_SOFT_CLR -/,
   ⟨0x30, 8, 1, 1, 1, 1, [⟨48, 1, .rw, []⟩, ⟨16, 32, .rw, [(0, 134217727)]⟩, ⟨0, 16, .rw, []⟩]⟩ /- MCH_NOTICE -/,
   ⟨0x38, 4, 1, 1, 1, 1, [⟨0, 5, .rw, []⟩]⟩ /- MCH_NOTICE_EN -/,
   ⟨0x100, 4, 4, 32, 1, 1, [⟨11, 1, .rwl, []⟩, ⟨8, 3, .rwl, [(0, 4)]⟩, ⟨0, 6, .rwl, []⟩]⟩ /- MCH_ILi_SRC -/,
   ⟨0x1000, 4, 128, 48, 1, 1, [⟨28, 3, .rwl, []⟩, ⟨26, 2, .rwl, [(0, 2)]⟩, ⟨25, 1, .rwl, []⟩, ⟨24, 1, .rwl, []⟩, ⟨23, 1, .rwl, []⟩, ⟨8, 8, .rwl, []⟩]⟩ /- MCH_MFs_CFG -/,
   ⟨0x1004, 4, 128, 48, 1, 1, [⟨21, 11, .rwl, [(1, 2000)]⟩, ⟨0, 17, .rwl, [(0, 99999)]⟩]⟩ /- MCH_MFs_TIMING -/,
   ⟨0x1008, 8, 128, 48, 1, 1, [⟨32, 16, .rwl, []⟩, ⟨24, 1, .rwl, []⟩, ⟨22, 2, .rwl, [(0, 2)]⟩, ⟨16, 6, .rwl, []⟩, ⟨4, 11, .rwl, []⟩, ⟨0, 3, .rwl, [(0, 6)]⟩]⟩ /- MCH_MFs_MEAS_SRC -/,
   ⟨0x1010, 8, 128, 48, 1, 1, [⟨32, 32, .rwl, []⟩, ⟨0, 32, .rwl, []⟩]⟩ /- MCH_MFs_MEAS_SCALE -/,
   ⟨0x1018, 8, 128, 48, 1, 1, [⟨53, 1, .rwl, []⟩, ⟨51, 2, .rwl, [(0, 2)]⟩, ⟨48, 3, .rwl, []⟩, ⟨45, 1, .rwl, []⟩, ⟨16, 29, .rwl, []⟩, ⟨9, 3, .rwl, []⟩, ⟨4, 5, .rwl, []⟩, ⟨0, 3, .rwl, [(0, 3)]⟩]⟩ /- MCH_MFs_BIND -/,
   ⟨0x1020, 8, 128, 48, 1, 1, [⟨0, 64, .rwl, []⟩]⟩ /- MCH_MFs_CAN_DATA -/]

def regTabMch1 : List RegD :=
  [⟨0x1028, 8, 128, 48, 1, 1, [⟨32, 32, .rwl, []⟩, ⟨0, 32, .rwl, []⟩]⟩ /- MCH_MFs_ACT_SCALE -/,
   ⟨0x1030, 8, 128, 48, 1, 1, [⟨32, 32, .rwl, []⟩, ⟨0, 32, .rwl, []⟩]⟩ /- MCH_MFs_OUT_LIM -/,
   ⟨0x1038, 8, 128, 48, 1, 1, [⟨32, 32, .rwl, []⟩, ⟨0, 32, .rwl, []⟩]⟩ /- MCH_MFs_SP_LIM -/,
   ⟨0x1040, 8, 128, 48, 1, 1, [⟨32, 31, .rwl, []⟩, ⟨0, 31, .rwl, []⟩]⟩ /- MCH_MFs_RATE -/,
   ⟨0x1048, 4, 128, 48, 1, 1, [⟨0, 32, .rwl, []⟩]⟩ /- MCH_MFs_NEUTRAL -/,
   ⟨0x104C, 4, 128, 48, 1, 1, [⟨0, 32, .rwl, []⟩]⟩ /- MCH_MFs_IL_MASK -/,
   ⟨0x1050, 8, 128, 48, 1, 1, [⟨16, 32, .rwl, [(0, 134217727)]⟩, ⟨0, 16, .rwl, []⟩]⟩ /- MCH_MFs_LAW -/,
   ⟨0x1058, 4, 128, 48, 1, 1, [⟨0, 32, .rw, []⟩]⟩ /- MCH_MFs_SETPOINT -/,
   ⟨0x105C, 4, 128, 48, 1, 1, [⟨0, 32, .rw, []⟩]⟩ /- MCH_MFs_TARGET -/,
   ⟨0x1060, 8, 128, 48, 1, 1, [⟨32, 32, .ro, []⟩, ⟨0, 32, .ro, []⟩]⟩ /- MCH_MFs_VALUES -/,
   ⟨0x1068, 4, 128, 48, 1, 1, [⟨24, 8, .ro, []⟩, ⟨6, 1, .ro, []⟩, ⟨5, 1, .ro, []⟩, ⟨4, 1, .ro, []⟩, ⟨3, 1, .ro, []⟩, ⟨0, 3, .ro, []⟩]⟩ /- MCH_MFs_STATUS -/,
   ⟨0x106C, 4, 128, 48, 1, 1, [⟨31, 1, .ro, []⟩, ⟨16, 8, .ro, []⟩, ⟨0, 3, .rw, [(1, 4)]⟩]⟩ /- MCH_MFs_CMD -/]

def regTabMch2 : List RegD :=
  [⟨0x1070, 8, 128, 48, 1, 1, [⟨32, 32, .ro, []⟩, ⟨16, 16, .ro, []⟩, ⟨0, 16, .ro, []⟩]⟩ /- MCH_MFs_STAT -/,
   ⟨0x1078, 4, 128, 48, 1, 1, [⟨0, 32, .ro, []⟩]⟩ /- MCH_MFs_ACT -/,
   ⟨0x107C, 4, 128, 48, 1, 1, [⟨0, 32, .wo, []⟩]⟩ /- MCH_MFs_MEAS_WRITE -/,
   ⟨0x2F00, 4, 4, 4, 1, 1, [⟨31, 1, .rw, []⟩, ⟨16, 9, .rw, [(0, 399)]⟩, ⟨0, 9, .rw, [(1, 256)]⟩]⟩ /- MCH_ANG_g -/,
   ⟨0x3000, 4, 32, 32, 1, 1, [⟨31, 1, .rw, []⟩, ⟨30, 1, .rw, []⟩, ⟨29, 1, .rw, []⟩, ⟨24, 4, .rw, [(0, 8)]⟩, ⟨16, 4, .rw, [(4, 15)]⟩, ⟨0, 16, .rw, []⟩]⟩ /- MCH_ANc_CFG -/,
   ⟨0x3004, 4, 32, 32, 1, 1, [⟨16, 16, .rw, []⟩, ⟨0, 16, .rw, []⟩]⟩ /- MCH_ANc_WIN -/,
   ⟨0x3008, 4, 32, 32, 1, 1, [⟨0, 16, .rw, []⟩]⟩ /- MCH_ANc_THRESH -/,
   ⟨0x300C, 4, 32, 32, 1, 1, [⟨16, 16, .ro, []⟩, ⟨0, 16, .ro, []⟩]⟩ /- MCH_ANc_VALUE -/,
   ⟨0x3010, 4, 32, 32, 1, 1, [⟨0, 32, .ro, []⟩]⟩ /- MCH_ANc_HITS -/,
   ⟨0x3014, 4, 32, 32, 1, 1, [⟨0, 32, .ro, []⟩]⟩ /- MCH_ANc_RATE -/,
   ⟨0x3400, 4, 32, 16, 1, 1, [⟨31, 1, .rw, []⟩, ⟨29, 2, .rw, [(0, 2)]⟩, ⟨28, 1, .rw, []⟩, ⟨27, 1, .rw, []⟩, ⟨0, 16, .rw, []⟩]⟩ /- MCH_PIn_CFG -/,
   ⟨0x3404, 4, 32, 16, 1, 1, [⟨0, 16, .rw, [(1, 65535)]⟩]⟩ /- MCH_PIn_ZERO -/]

def regTabMch3 : List RegD :=
  [⟨0x3408, 8, 32, 16, 1, 1, [⟨32, 32, .rw, []⟩, ⟨0, 32, .rw, []⟩]⟩ /- MCH_PIn_WIN -/,
   ⟨0x3410, 4, 32, 16, 1, 1, [⟨0, 32, .ro, []⟩]⟩ /- MCH_PIn_COUNT -/,
   ⟨0x3414, 4, 32, 16, 1, 1, [⟨0, 32, .ro, []⟩]⟩ /- MCH_PIn_PERIOD -/,
   ⟨0x3418, 4, 32, 16, 1, 1, [⟨0, 32, .ro, []⟩]⟩ /- MCH_PIn_FREQ -/,
   ⟨0x341C, 4, 32, 16, 1, 1, [⟨31, 1, .ro, []⟩, ⟨30, 1, .ro, []⟩, ⟨0, 16, .ro, []⟩]⟩ /- MCH_PIn_STAT -/,
   ⟨0x3800, 4, 16, 24, 1, 1, [⟨31, 1, .rw, []⟩, ⟨30, 1, .rw, []⟩, ⟨29, 1, .rw, []⟩, ⟨0, 15, .rw, [(1, 20000)]⟩]⟩ /- MCH_PWn_CFG -/,
   ⟨0x3804, 4, 16, 24, 1, 1, [⟨0, 16, .rw, []⟩]⟩ /- MCH_PWn_DUTY -/,
   ⟨0x3808, 4, 16, 24, 1, 1, [⟨16, 16, .rw, []⟩, ⟨0, 16, .rw, [(1, 65535)]⟩]⟩ /- MCH_PWn_DITHER -/,
   ⟨0x380C, 4, 16, 24, 1, 1, [⟨31, 1, .ro, []⟩, ⟨0, 16, .ro, []⟩]⟩ /- MCH_PWn_STAT -/]

/-- The registers of MCH at their offsets in the block. -/
def regTabMch : List RegD := regTabMch0 ++ regTabMch1 ++ regTabMch2 ++ regTabMch3

def regTabTal0 : List RegD :=
  [⟨0x20, 8, 1, 1, 1, 1, [⟨48, 1, .rw, []⟩, ⟨16, 32, .rw, [(0, 134217727)]⟩, ⟨0, 16, .rw, []⟩]⟩ /- TAL_NOTICE -/,
   ⟨0x28, 4, 1, 1, 1, 1, [⟨0, 3, .rw, []⟩]⟩ /- TAL_NOTICE_EN -/,
   ⟨0x2C, 4, 1, 1, 1, 1, [⟨31, 1, .ro, []⟩, ⟨30, 1, .w1c, []⟩, ⟨29, 1, .w1c, []⟩, ⟨28, 1, .w1c, []⟩, ⟨0, 16, .ro, []⟩]⟩ /- TAL_STATUS -/,
   ⟨0x100, 4, 128, 16, 1, 1, [⟨31, 1, .rw, []⟩, ⟨30, 1, .rw, []⟩, ⟨27, 3, .rwl, [(0, 4)]⟩, ⟨21, 6, .rwl, []⟩, ⟨19, 2, .rwl, [(0, 2)]⟩, ⟨14, 5, .rwl, []⟩, ⟨12, 2, .rwl, [(0, 2)]⟩, ⟨7, 5, .rwl, []⟩]⟩ /- TAL_TQi_CFG -/,
   ⟨0x104, 4, 128, 16, 1, 1, [⟨0, 16, .rwl, [(1, 65535)]⟩]⟩ /- TAL_TQi_N -/,
   ⟨0x108, 8, 128, 16, 1, 1, [⟨32, 32, .rwl, []⟩, ⟨0, 32, .rwl, []⟩]⟩ /- TAL_TQi_SCALE -/,
   ⟨0x110, 4, 128, 16, 1, 1, [⟨0, 15, .rwl, [(0, 30000)]⟩]⟩ /- TAL_TQi_LAG -/,
   ⟨0x114, 4, 128, 16, 1, 1, [⟨0, 31, .rwl, []⟩]⟩ /- TAL_TQi_INC_LIMIT -/,
   ⟨0x118, 8, 128, 16, 1, 1, [⟨32, 32, .rwl, []⟩, ⟨0, 32, .rwl, []⟩]⟩ /- TAL_TQi_TSCALE -/,
   ⟨0x120, 8, 128, 16, 1, 1, [⟨48, 4, .rwl, []⟩, ⟨36, 12, .rwl, []⟩, ⟨24, 12, .rwl, []⟩, ⟨12, 12, .rwl, []⟩, ⟨0, 12, .rwl, []⟩]⟩ /- TAL_TQi_FLOWS -/,
   ⟨0x128, 8, 128, 16, 1, 1, [⟨0, 64, .ro, []⟩]⟩ /- TAL_TQi_FWD -/,
   ⟨0x130, 8, 128, 16, 1, 1, [⟨0, 64, .ro, []⟩]⟩ /- TAL_TQi_REV -/]

def regTabTal1 : List RegD :=
  [⟨0x138, 8, 128, 16, 1, 1, [⟨0, 64, .ro, []⟩]⟩ /- TAL_TQi_NET -/,
   ⟨0x140, 8, 128, 16, 1, 1, [⟨0, 64, .ro, []⟩]⟩ /- TAL_TQi_LFWD -/,
   ⟨0x148, 8, 128, 16, 1, 1, [⟨0, 64, .ro, []⟩]⟩ /- TAL_TQi_LREV -/,
   ⟨0x150, 8, 128, 16, 1, 1, [⟨0, 64, .ro, []⟩]⟩ /- TAL_TQi_LATCH_TIME -/,
   ⟨0x158, 4, 128, 16, 1, 1, [⟨0, 32, .ro, []⟩]⟩ /- TAL_TQi_LATCH -/,
   ⟨0x15C, 4, 128, 16, 1, 1, [⟨16, 16, .ro, []⟩, ⟨15, 1, .ro, []⟩, ⟨0, 15, .ro, []⟩]⟩ /- TAL_TQi_CORR -/,
   ⟨0x160, 4, 128, 16, 1, 1, [⟨31, 1, .ro, []⟩, ⟨0, 16, .ro, []⟩]⟩ /- TAL_TQi_TEMP -/,
   ⟨0x164, 4, 128, 16, 1, 1, [⟨31, 1, .ro, []⟩, ⟨16, 8, .ro, []⟩, ⟨0, 2, .rw, [(1, 1)]⟩]⟩ /- TAL_TQi_CMD -/,
   ⟨0x168, 4, 128, 16, 1, 1, [⟨0, 32, .wo, []⟩]⟩ /- TAL_TQi_INC -/,
   ⟨0x16C, 4, 128, 16, 1, 1, [⟨0, 16, .wo, []⟩]⟩ /- TAL_TQi_TEMP_WRITE -/,
   ⟨0x170, 8, 128, 16, 1, 1, [⟨0, 64, .ro, []⟩]⟩ /- TAL_TQi_QMAX -/,
   ⟨0x178, 4, 128, 16, 1, 1, [⟨0, 32, .ro, []⟩]⟩ /- TAL_TQi_SAVE -/]

def regTabTal2 : List RegD :=
  [⟨0x1000, 4, 256, 16, 4, 33, [⟨16, 16, .rwl, [(0, 1000), (64536, 65535)]⟩, ⟨0, 16, .rwl, [(1, 65535)]⟩]⟩ /- TAL_TQi_TPk -/,
   ⟨0x900, 4, 32, 8, 1, 1, [⟨31, 1, .rw, []⟩, ⟨30, 1, .rw, []⟩, ⟨29, 1, .rw, []⟩, ⟨0, 4, .rw, []⟩]⟩ /- TAL_POn_CFG -/,
   ⟨0x904, 4, 32, 8, 1, 1, [⟨16, 16, .rw, [(1, 65535)]⟩, ⟨0, 16, .rw, [(1, 65535)]⟩]⟩ /- TAL_POn_TIMING -/,
   ⟨0x908, 8, 32, 8, 1, 1, [⟨0, 63, .rw, [(1, 9223372036854775807)]⟩]⟩ /- TAL_POn_WEIGHT -/,
   ⟨0x910, 4, 32, 8, 1, 1, [⟨0, 32, .ro, []⟩]⟩ /- TAL_POn_EMITTED -/,
   ⟨0x914, 4, 32, 8, 1, 1, [⟨31, 1, .ro, []⟩, ⟨30, 1, .ro, []⟩, ⟨24, 1, .ro, []⟩, ⟨0, 24, .ro, []⟩]⟩ /- TAL_POn_STAT -/]

/-- The registers of TAL at their offsets in the block. -/
def regTabTal : List RegD := regTabTal0 ++ regTabTal1 ++ regTabTal2

def regTabCan0 : List RegD :=
  [⟨0x20, 8, 1, 1, 1, 1, [⟨7, 33, .rwl, []⟩]⟩ /- CAN_OBJ_BASE -/,
   ⟨0x28, 8, 1, 1, 1, 1, [⟨32, 32, .wo, []⟩, ⟨0, 11, .wo, []⟩]⟩ /- CAN_OBJ_ACK -/,
   ⟨0x100, 4, 128, 6, 1, 1, [⟨31, 1, .rw, []⟩, ⟨30, 1, .rw, []⟩, ⟨29, 1, .rw, []⟩, ⟨28, 1, .rw, []⟩, ⟨27, 1, .rw, []⟩, ⟨26, 1, .rw, []⟩, ⟨25, 1, .rw, []⟩, ⟨24, 1, .rw, []⟩, ⟨17, 1, .rw, []⟩, ⟨14, 3, .rw, []⟩]⟩ /- CAN_CTLn_CFG -/,
   ⟨0x104, 4, 128, 6, 1, 1, [⟨24, 8, .rw, [(1, 255)]⟩, ⟨16, 8, .rw, [(2, 255)]⟩, ⟨8, 8, .rw, [(1, 128)]⟩, ⟨0, 8, .rw, [(1, 128)]⟩]⟩ /- CAN_CTLn_NBT -/,
   ⟨0x108, 4, 128, 6, 1, 1, [⟨24, 6, .rw, [(1, 32)]⟩, ⟨16, 6, .rw, [(1, 32)]⟩, ⟨8, 5, .rw, [(1, 16)]⟩, ⟨0, 5, .rw, [(1, 16)]⟩]⟩ /- CAN_CTLn_DBT -/,
   ⟨0x10C, 4, 128, 6, 1, 1, [⟨15, 1, .rw, []⟩, ⟨0, 7, .rw, [(1, 127)]⟩]⟩ /- CAN_CTLn_TDC -/,
   ⟨0x110, 4, 128, 6, 1, 1, [⟨16, 9, .ro, []⟩, ⟨15, 1, .ro, []⟩, ⟨8, 7, .ro, []⟩, ⟨0, 3, .ro, []⟩]⟩ /- CAN_CTLn_STATUS -/,
   ⟨0x114, 4, 128, 6, 1, 1, [⟨31, 1, .ro, []⟩, ⟨16, 8, .ro, []⟩, ⟨0, 2, .rw, [(1, 1)]⟩]⟩ /- CAN_CTLn_CMD -/,
   ⟨0x118, 8, 128, 6, 1, 1, [⟨48, 1, .rw, []⟩, ⟨16, 32, .rw, [(0, 134217727)]⟩, ⟨0, 16, .rw, []⟩]⟩ /- CAN_CTLn_TXNOTICE -/,
   ⟨0x120, 8, 128, 6, 1, 1, [⟨48, 1, .rw, []⟩, ⟨16, 32, .rw, [(0, 134217727)]⟩, ⟨0, 16, .rw, []⟩]⟩ /- CAN_CTLn_NOTICE -/,
   ⟨0x128, 4, 128, 6, 1, 1, [⟨0, 6, .ro, []⟩]⟩ /- CAN_CTLn_TXSTAT -/,
   ⟨0x12C, 4, 128, 6, 1, 1, [⟨29, 1, .ro, []⟩, ⟨0, 29, .ro, []⟩]⟩ /- CAN_CTLn_CLASH -/]

def regTabCan1 : List RegD :=
  [⟨0x140, 4, 128, 6, 1, 1, []⟩ /- CAN_CTLn_STAT -/,
   ⟨0x600, 4, 64, 8, 1, 1, [⟨31, 1, .rw, []⟩, ⟨30, 1, .rw, []⟩, ⟨29, 1, .rw, []⟩, ⟨0, 12, .rw, []⟩]⟩ /- CAN_RQq_CFG -/,
   ⟨0x608, 8, 64, 8, 1, 1, [⟨7, 33, .rw, []⟩]⟩ /- CAN_RQq_BASE -/,
   ⟨0x610, 8, 64, 8, 1, 1, [⟨16, 32, .rw, [(0, 134217727)]⟩, ⟨0, 16, .rw, []⟩]⟩ /- CAN_RQq_NOTICE -/,
   ⟨0x618, 4, 64, 8, 1, 1, [⟨0, 9, .ro, []⟩]⟩ /- CAN_RQq_WR -/,
   ⟨0x61C, 4, 64, 8, 1, 1, [⟨0, 9, .rw, []⟩]⟩ /- CAN_RQq_RD -/,
   ⟨0x620, 4, 64, 8, 1, 1, [⟨16, 16, .ro, []⟩, ⟨0, 16, .ro, []⟩]⟩ /- CAN_RQq_DROPS -/,
   ⟨0x8000, 4, 16, 2048, 1, 1, [⟨31, 1, .rw, []⟩, ⟨30, 1, .rw, []⟩, ⟨24, 3, .rw, []⟩, ⟨16, 3, .rw, []⟩, ⟨8, 1, .rw, []⟩]⟩ /- CAN_OBJo_CFG -/,
   ⟨0x8004, 4, 16, 2048, 1, 1, [⟨0, 29, .rw, []⟩]⟩ /- CAN_OBJo_ID -/,
   ⟨0x8008, 4, 16, 2048, 1, 1, [⟨0, 29, .rw, []⟩]⟩ /- CAN_OBJo_MASK -/,
   ⟨0x800C, 4, 16, 2048, 1, 1, [⟨0, 32, .ro, []⟩]⟩ /- CAN_OBJo_SEQ -/]

/-- The registers of CAN at their offsets in the block. -/
def regTabCan : List RegD := regTabCan0 ++ regTabCan1

def regTabBxl0 : List RegD :=
  [⟨0x20, 4, 1, 1, 1, 1, [⟨31, 1, .rw, []⟩, ⟨16, 8, .rw, [(1, 255)]⟩, ⟨8, 8, .rwl, []⟩, ⟨0, 3, .rw, [(0, 3), (5, 7)]⟩]⟩ /- BXL_CFG -/,
   ⟨0x28, 8, 1, 1, 1, 1, [⟨0, 64, .rwl, []⟩]⟩ /- BXL_STACK_ID -/,
   ⟨0x30, 4, 1, 1, 1, 1, [⟨29, 3, .ro, []⟩, ⟨28, 1, .ro, []⟩, ⟨24, 4, .ro, []⟩, ⟨20, 4, .ro, []⟩, ⟨16, 4, .ro, []⟩, ⟨0, 16, .ro, []⟩]⟩ /- BXL_STATUS -/,
   ⟨0x34, 4, 1, 1, 1, 1, [⟨16, 16, .ro, []⟩, ⟨0, 16, .ro, []⟩]⟩ /- BXL_MEMBERS -/,
   ⟨0x38, 8, 1, 1, 1, 1, [⟨32, 1, .ro, []⟩, ⟨16, 16, .rwl, []⟩, ⟨0, 16, .rwl, []⟩]⟩ /- BXL_GUEST -/,
   ⟨0x40, 8, 1, 1, 1, 1, [⟨16, 24, .rwl, []⟩]⟩ /- BXL_GUEST_ZON -/,
   ⟨0x48, 4, 1, 1, 1, 1, [⟨31, 1, .ro, []⟩, ⟨16, 8, .ro, []⟩, ⟨0, 3, .rw, [(1, 3)]⟩]⟩ /- BXL_CMD -/,
   ⟨0x50, 8, 1, 1, 1, 1, [⟨48, 1, .rw, []⟩, ⟨16, 32, .rw, [(0, 134217727)]⟩, ⟨0, 16, .rw, []⟩]⟩ /- BXL_NOTICE -/,
   ⟨0x58, 4, 1, 1, 1, 1, [⟨0, 6, .rw, []⟩]⟩ /- BXL_NOTICE_EN -/,
   ⟨0x60, 8, 1, 1, 1, 1, [⟨63, 1, .ro, []⟩, ⟨62, 1, .ro, []⟩, ⟨0, 32, .ro, []⟩]⟩ /- BXL_TIME -/,
   ⟨0x68, 4, 1, 1, 1, 1, [⟨31, 1, .ro, []⟩, ⟨24, 4, .ro, []⟩, ⟨0, 17, .ro, []⟩]⟩ /- BXL_TAKEOVER -/,
   ⟨0x100, 4, 64, 2, 1, 1, [⟨30, 2, .ro, []⟩, ⟨26, 4, .ro, []⟩, ⟨20, 6, .ro, []⟩, ⟨16, 4, .ro, []⟩, ⟨0, 14, .ro, []⟩]⟩ /- BXL_Pp_STATUS -/]

def regTabBxl1 : List RegD :=
  [⟨0x108, 8, 64, 2, 1, 1, [⟨48, 16, .ro, []⟩, ⟨32, 16, .ro, []⟩, ⟨16, 16, .ro, []⟩, ⟨0, 16, .ro, []⟩]⟩ /- BXL_Pp_STAT -/,
   ⟨0x400, 4, 32, 16, 1, 1, []⟩ /- BXL_ROSTER_i -/]

/-- The registers of BXL at their offsets in the block. -/
def regTabBxl : List RegD := regTabBxl0 ++ regTabBxl1

def regTabUpd0 : List RegD :=
  [⟨0x20, 4, 1, 1, 1, 1, [⟨28, 4, .ro, []⟩, ⟨24, 2, .ro, []⟩, ⟨16, 8, .ro, []⟩, ⟨0, 11, .ro, []⟩]⟩ /- UPD_STATUS -/,
   ⟨0x24, 4, 1, 1, 1, 1, [⟨16, 11, .ro, []⟩, ⟨12, 2, .ro, []⟩, ⟨0, 11, .ro, []⟩]⟩ /- UPD_PROGRESS -/,
   ⟨0x28, 4, 1, 1, 1, 1, [⟨31, 1, .ro, []⟩, ⟨16, 8, .ro, []⟩, ⟨8, 8, .rw, []⟩, ⟨0, 4, .rw, []⟩]⟩ /- UPD_CMD -/,
   ⟨0x30, 8, 1, 1, 1, 1, [⟨6, 34, .rw, []⟩]⟩ /- UPD_BLOCK_SRC -/,
   ⟨0x38, 4, 1, 1, 1, 1, [⟨0, 11, .rw, [(0, 1535)]⟩]⟩ /- UPD_BLOCK_IDX -/,
   ⟨0x3C, 4, 1, 1, 1, 1, [⟨16, 16, .ro, []⟩, ⟨0, 12, .rwl, [(60, 3600)]⟩]⟩ /- UPD_TRIAL -/,
   ⟨0x40, 4, 1, 1, 1, 1, [⟨0, 32, .ro, []⟩]⟩ /- UPD_HW_TYPE -/,
   ⟨0x44, 4, 1, 1, 1, 1, [⟨8, 4, .ro, []⟩, ⟨0, 7, .ro, []⟩]⟩ /- UPD_OTP -/,
   ⟨0x48, 4, 1, 1, 1, 1, [⟨0, 32, .ro, []⟩]⟩ /- UPD_VERSION -/,
   ⟨0x4C, 4, 1, 1, 1, 1, [⟨0, 32, .ro, []⟩]⟩ /- UPD_TXN -/,
   ⟨0x50, 8, 1, 1, 1, 1, [⟨0, 64, .ro, []⟩]⟩ /- UPD_UNIT_ID_LO -/,
   ⟨0x58, 8, 1, 1, 1, 1, [⟨0, 64, .ro, []⟩]⟩ /- UPD_UNIT_ID_HI -/]

def regTabUpd1 : List RegD :=
  [⟨0x60, 8, 1, 1, 1, 1, [⟨48, 1, .rw, []⟩, ⟨16, 32, .rw, [(0, 134217727)]⟩, ⟨0, 16, .rw, []⟩]⟩ /- UPD_NOTICE -/,
   ⟨0x68, 4, 1, 1, 1, 1, [⟨0, 3, .rw, []⟩]⟩ /- UPD_NOTICE_EN -/]

/-- The registers of UPD at their offsets in the block. -/
def regTabUpd : List RegD := regTabUpd0 ++ regTabUpd1

def regTabBst0 : List RegD :=
  [⟨0x20, 4, 1, 1, 1, 1, [⟨31, 1, .rwl, []⟩, ⟨0, 16, .rwl, [(1000, 60000)]⟩]⟩ /- BST_CTRL -/,
   ⟨0x28, 8, 1, 1, 1, 1, [⟨0, 48, .ro, []⟩]⟩ /- BST_PU_FAIL -/,
   ⟨0x30, 4, 1, 1, 1, 1, [⟨0, 32, .ro, []⟩]⟩ /- BST_PU_TIME -/,
   ⟨0x34, 4, 1, 1, 1, 1, [⟨31, 1, .ro, []⟩, ⟨8, 6, .ro, []⟩, ⟨0, 8, .ro, []⟩]⟩ /- BST_CUR -/,
   ⟨0x38, 8, 1, 1, 1, 1, [⟨0, 48, .w1c, []⟩]⟩ /- BST_STARVED -/,
   ⟨0x40, 4, 1, 1, 1, 1, [⟨0, 32, .ro, []⟩]⟩ /- BST_ROUNDS -/,
   ⟨0x44, 4, 1, 1, 1, 1, [⟨0, 32, .ro, []⟩]⟩ /- BST_ABORTS -/,
   ⟨0x48, 4, 1, 1, 1, 1, [⟨0, 32, .ro, []⟩]⟩ /- BST_SLICES -/]

/-- The registers of BST at their offsets in the block. -/
def regTabBst : List RegD := regTabBst0

def regTabScb0 : List RegD :=
  [⟨0x20, 4, 1, 1, 1, 1, [⟨31, 1, .ro, []⟩, ⟨30, 1, .ro, []⟩, ⟨29, 1, .ro, []⟩, ⟨0, 7, .ro, []⟩]⟩ /- SCB_STATUS -/,
   ⟨0x24, 4, 1, 1, 1, 1, [⟨0, 32, .ro, []⟩]⟩ /- SCB_DROPPED -/,
   ⟨0x28, 8, 1, 1, 1, 1, [⟨32, 32, .ro, []⟩, ⟨0, 24, .ro, []⟩]⟩ /- SCB_WR -/,
   ⟨0x30, 8, 1, 1, 1, 1, [⟨32, 32, .ro, []⟩, ⟨0, 24, .ro, []⟩]⟩ /- SCB_OLDEST -/,
   ⟨0x38, 8, 1, 1, 1, 1, [⟨0, 64, .wo, []⟩]⟩ /- SCB_CMD -/,
   ⟨0x40, 4, 1, 1, 1, 1, [⟨31, 1, .ro, []⟩, ⟨16, 8, .ro, []⟩]⟩ /- SCB_CMD_STATUS -/,
   ⟨0x48, 8, 1, 1, 1, 1, [⟨48, 1, .rw, []⟩, ⟨16, 32, .rw, [(0, 134217727)]⟩, ⟨0, 16, .rw, []⟩]⟩ /- SCB_NOTICE -/,
   ⟨0x50, 4, 1, 1, 1, 1, [⟨0, 4, .rw, []⟩]⟩ /- SCB_NOTICE_EN -/,
   ⟨0x100, 8, 16, 8, 1, 1, [⟨32, 32, .ro, []⟩, ⟨31, 1, .ro, []⟩, ⟨0, 24, .ro, []⟩]⟩ /- SCB_BMk_POS -/,
   ⟨0x108, 4, 16, 8, 1, 1, [⟨31, 1, .w1c, []⟩, ⟨0, 24, .ro, []⟩]⟩ /- SCB_BMk_STAT -/]

/-- The registers of SCB at their offsets in the block. -/
def regTabScb : List RegD := regTabScb0

def regTabSys0 : List RegD :=
  [⟨0x20, 4, 1, 1, 1, 1, [⟨3, 1, .ro, []⟩, ⟨2, 1, .ro, []⟩, ⟨1, 1, .ro, []⟩, ⟨0, 1, .ro, []⟩]⟩ /- SYS_STRAPS -/,
   ⟨0x24, 4, 1, 1, 1, 1, [⟨0, 6, .ro, []⟩]⟩ /- SYS_RESET_CAUSE -/,
   ⟨0x28, 4, 1, 1, 1, 1, [⟨8, 8, .wo, [(90, 90)]⟩, ⟨0, 1, .wo, []⟩]⟩ /- SYS_RESET -/,
   ⟨0x2C, 4, 1, 1, 1, 1, [⟨8, 4, .ro, []⟩, ⟨0, 3, .ro, []⟩]⟩ /- SYS_BOOT -/]

/-- The registers of SYS at their offsets in the block. -/
def regTabSys : List RegD := regTabSys0

def regTabPwr0 : List RegD :=
  [⟨0x20, 4, 1, 1, 1, 1, [⟨31, 1, .ro, []⟩, ⟨30, 1, .ro, []⟩, ⟨29, 1, .ro, []⟩, ⟨28, 1, .w1c, []⟩, ⟨0, 16, .ro, []⟩]⟩ /- PWR_STATUS -/,
   ⟨0x24, 4, 1, 1, 1, 1, [⟨0, 16, .ro, []⟩]⟩ /- PWR_VIN -/,
   ⟨0x28, 4, 1, 1, 1, 1, [⟨0, 16, .ro, []⟩]⟩ /- PWR_CASE -/,
   ⟨0x2C, 4, 1, 1, 1, 1, [⟨0, 16, .ro, []⟩]⟩ /- PWR_INPUT -/,
   ⟨0x30, 4, 1, 1, 1, 1, [⟨31, 1, .rwl, []⟩, ⟨16, 3, .rwl, []⟩, ⟨8, 8, .rwl, [(60, 105)]⟩, ⟨0, 8, .rwl, [(1, 20)]⟩]⟩ /- PWR_THERM -/]

/-- The registers of PWR at their offsets in the block. -/
def regTabPwr : List RegD := regTabPwr0

def regTabHst0 : List RegD :=
  [⟨0x20, 4, 1, 1, 1, 1, [⟨16, 16, .ro, []⟩, ⟨0, 16, .ro, []⟩]⟩ /- HST_PCI_ID -/,
   ⟨0x24, 4, 1, 1, 1, 1, [⟨31, 1, .rw, []⟩, ⟨8, 1, .ro, []⟩, ⟨4, 4, .ro, []⟩, ⟨0, 4, .ro, []⟩]⟩ /- HST_PCI_CFG -/,
   ⟨0x28, 8, 1, 1, 1, 1, [⟨12, 52, .rw, []⟩]⟩ /- HST_SQ_BASE -/,
   ⟨0x30, 8, 1, 1, 1, 1, [⟨12, 52, .rw, []⟩]⟩ /- HST_CQ_BASE -/,
   ⟨0x38, 4, 1, 1, 1, 1, [⟨0, 9, .rw, [(2, 256)]⟩]⟩ /- HST_Q_SIZE -/,
   ⟨0x3C, 4, 1, 1, 1, 1, [⟨0, 8, .rw, []⟩]⟩ /- HST_SQ_TAIL -/,
   ⟨0x40, 4, 1, 1, 1, 1, [⟨0, 8, .ro, []⟩]⟩ /- HST_SQ_HEAD -/,
   ⟨0x44, 4, 1, 1, 1, 1, [⟨0, 8, .ro, []⟩]⟩ /- HST_CQ_WR -/,
   ⟨0x48, 4, 1, 1, 1, 1, [⟨0, 8, .rw, []⟩]⟩ /- HST_CQ_RD -/,
   ⟨0x50, 8, 1, 1, 1, 1, [⟨12, 52, .rw, []⟩]⟩ /- HST_NR_BASE -/,
   ⟨0x58, 4, 1, 1, 1, 1, [⟨0, 13, .rw, [(2, 4096)]⟩]⟩ /- HST_NR_SIZE -/,
   ⟨0x5C, 4, 1, 1, 1, 1, [⟨0, 12, .ro, []⟩]⟩ /- HST_NR_WR -/]

def regTabHst1 : List RegD :=
  [⟨0x60, 4, 1, 1, 1, 1, [⟨0, 12, .rw, []⟩]⟩ /- HST_NR_RD -/,
   ⟨0x68, 4, 1, 1, 1, 1, [⟨31, 1, .rw, []⟩, ⟨0, 11, .rw, [(5, 2047)]⟩]⟩ /- HST_UART -/,
   ⟨0x70, 4, 1, 1, 1, 1, [⟨31, 1, .rw, []⟩, ⟨16, 2, .rw, []⟩, ⟨0, 16, .rw, [(1, 65535)]⟩]⟩ /- HST_ETH -/,
   ⟨0x100, 4, 128, 3, 1, 1, [⟨31, 1, .rwl, []⟩, ⟨30, 1, .rwl, []⟩, ⟨29, 1, .rwl, []⟩]⟩ /- HST_Ix_CFG -/,
   ⟨0x108, 8, 128, 3, 1, 1, [⟨48, 4, .rwl, []⟩, ⟨36, 12, .rwl, []⟩, ⟨24, 12, .rwl, []⟩, ⟨12, 12, .rwl, []⟩, ⟨0, 12, .rwl, []⟩]⟩ /- HST_Ix_FLOWS -/,
   ⟨0x110, 8, 128, 3, 1, 1, [⟨32, 32, .ro, []⟩, ⟨16, 16, .ro, []⟩, ⟨0, 16, .ro, []⟩]⟩ /- HST_Ix_STAT -/,
   ⟨0x140, 8, 128, 3, 16, 4, [⟨63, 1, .rwl, []⟩, ⟨12, 28, .rwl, []⟩]⟩ /- HST_Ix_WIN_BASE_j -/,
   ⟨0x148, 8, 128, 3, 16, 4, [⟨12, 28, .rwl, []⟩, ⟨2, 1, .rwl, []⟩, ⟨1, 1, .rwl, []⟩, ⟨0, 1, .rwl, []⟩]⟩ /- HST_Ix_WIN_LIMIT_j -/,
   ⟨0x300, 8, 16, 16, 1, 1, [⟨32, 32, .ro, []⟩, ⟨0, 32, .ro, []⟩]⟩ /- HST_SESSION_s -/,
   ⟨0x308, 4, 16, 16, 1, 1, [⟨31, 1, .ro, []⟩, ⟨0, 12, .ro, []⟩]⟩ /- HST_SESSION_FLOW_s -/]

/-- The registers of HST at their offsets in the block. -/
def regTabHst : List RegD := regTabHst0 ++ regTabHst1

/-- The register list of an island beside the common registers of R34 (none for an ID that R20 does not list). -/
def islandRegs (i : Nat) : List RegD :=
  if i = 7 then regTabDug else
  if i = 8 then regTabQue else
  if i = 32 then regTabGbb else
  if i = 33 then regTabGob else
  if i = 34 then regTabPos else
  if i = 6 then regTabTim else
  if i = 40 then regTabEth else
  if i = 35 then regTabRad else
  if i = 36 then regTabZon else
  if i = 2 then regTabRef else
  if i = 37 then regTabMch else
  if i = 38 then regTabTal else
  if i = 39 then regTabCan else
  if i = 41 then regTabBxl else
  if i = 5 then regTabUpd else
  if i = 3 then regTabBst else
  if i = 4 then regTabScb else
  if i = 0 then regTabSys else
  if i = 1 then regTabPwr else
  if i = 42 then regTabHst else
  if 0x10 ≤ i ∧ i < 0x20 then regTabEng else
  if 0x2C ≤ i ∧ i < 0x30 then regTabSmp else []

end Sys2Proof.Machine
end

