-- ==== Sys2Proof/Config.lean ====
section
/-! DEFINITION. What the spec leaves open: every constant here has no body, so that nothing can be proved of its value
beyond what a statement assumes. -/

namespace Sys2Proof

/-- A fresh value of w bits for a result that the spec leaves open; the step that uses it passes its counter (log
entry 4). -/
opaque Config.freeWord (w : Nat) : Nat → BitVec w

/-- Whether underflow is judged after rounding, which IEEE 754 leaves to the implementation (R91, log entry 5). -/
opaque Config.tinyAfterRounding : Bool

/-- Whether a fused multiply-add of 0 and an infinity with a quiet NaN addend sets NV, which IEEE 754 leaves to the
implementation (R91, log entry 5). -/
opaque Config.fmaNaNInvalid : Bool

/-- The arctangent, two-argument arctangent and decimal logarithm of binary64 encodings: the spec names the functions
(R195, R197) and gives no rounding for them (log entry 19). -/
opaque Config.atan : Nat → Nat
opaque Config.atan2 : Nat → Nat → Nat
opaque Config.log10 : Nat → Nat

/-- The rounding mode by which a computed value goes into an integer field; the spec names none (log entry 18). -/
opaque Config.fieldRounding : Nat

/-- What a field of w bits holds for a computed value beyond its range (log entry 18). -/
opaque Config.beyondField (w : Nat) : Nat → BitVec w

/-- Nodes a search visits when nothing stops it, as a function of the float vector, the covariance, the number of
candidates and the limit (R259, R260): the spec fixes no reduction step by step (log entry 27). -/
opaque Config.posNodes : List Nat → List Nat → Nat → Nat → Nat

/-- The lattice points a search has in hand when its budget or its deadline stops it: of the problem and of how it was
stopped (R261, log entry 27). -/
opaque Config.posPartial : List Nat → List Nat → Nat → Nat → Nat → List (List Int)

/-- P_BOOT of the reduced problem, and a root of a binary64: det^(1/k) (R262, log entry 19). -/
opaque Config.posBoot : List Nat → List Nat → Nat
opaque Config.root : Nat → Nat → Nat

/-- BXL_VERSION of the toss record; the spec gives the field and no value (R473, log entry 43). -/
opaque Config.bxlVersion : Nat

end Sys2Proof
end

