-- ==== Sys2Proof/Machine/Resets.lean ====
section
/-! DEFINITION. The reset values of the register tables, where they are not 0, and the one default of the register
file built from them. -/

namespace Sys2Proof.Machine

/-- Reset values other than 0 in PREFIX (the register tables). -/
def resetTabPrefix : List RegReset :=
  [⟨0x4, 1, 1, 1, 1, 8, 0xA⟩ /- PREFIX_PSTATE.GATE_DELAY -/,
   ⟨0x4, 1, 1, 1, 1, 4, 0x3⟩ /- PREFIX_PSTATE.REQ -/,
   ⟨0x4, 1, 1, 1, 1, 0, 0x3⟩ /- PREFIX_PSTATE.STATE -/]

/-- Reset values other than 0 in ENG (the register tables). -/
def resetTabEng : List RegReset :=
  [⟨0x20, 1, 1, 1, 1, 0, 0x1⟩ /- ENG_CTRL.ACCEPT -/,
   ⟨0x24, 1, 1, 1, 1, 8, 0x5⟩ /- ENG_DVFS.CUR -/,
   ⟨0x24, 1, 1, 1, 1, 0, 0x5⟩ /- ENG_DVFS.REQ -/]

/-- Reset values other than 0 in DUG (the register tables). -/
def resetTabDug : List RegReset :=
  [⟨0x48, 1, 1, 1, 1, 0, 0xF4240⟩ /- DUG_STALL.TICKS -/]

/-- Reset values other than 0 in QUE (the register tables). -/
def resetTabQue : List RegReset :=
  [⟨0x100, 64, 64, 1, 1, 24, 0x7⟩ /- QUE_Qn_CFG.PUSH_PRIO -/,
   ⟨0x100, 64, 64, 1, 1, 0, 0x10⟩ /- QUE_Qn_CFG.DEPTH -/,
   ⟨0x108, 64, 64, 1, 1, 0, 0x1⟩ /- QUE_Qn_STALE.TICKS -/]

/-- Reset values other than 0 in SMP (the register tables). -/
def resetTabSmp : List RegReset :=
  [⟨0x40, 32, 3, 1, 1, 26, 0x4⟩ /- SMPn_Sg_CFG.LEVEL_THR -/,
   ⟨0xA0, 1, 1, 1, 1, 12, 0x2⟩ /- SMPn_SPI_CFG.CS_GAP -/,
   ⟨0xA0, 1, 1, 1, 1, 0, 0x8⟩ /- SMPn_SPI_CFG.DIV -/]

/-- Reset values other than 0 in GBBCH (the register tables). -/
def resetTabGbbch : List RegReset :=
  [⟨0x0, 256, 512, 1, 1, 56, 0x1⟩ /- GBB_CH_CFG.T_PILOT -/,
   ⟨0x0, 256, 512, 1, 1, 49, 0x1⟩ /- GBB_CH_CFG.T_DATA -/,
   ⟨0x0, 256, 512, 1, 1, 40, 0x80⟩ /- GBB_CH_CFG.VEVL_SPACING -/,
   ⟨0x0, 256, 512, 1, 1, 32, 0x40⟩ /- GBB_CH_CFG.EL_SPACING -/,
   ⟨0x0, 256, 512, 1, 1, 27, 0x1⟩ /- GBB_CH_CFG.AUTO_REACQ -/,
   ⟨0x0, 256, 512, 1, 1, 26, 0x1⟩ /- GBB_CH_CFG.BUMP_EN -/,
   ⟨0x8, 256, 512, 1, 1, 56, 0x32⟩ /- GBB_CH_LOOP.LOSS_COUNT -/,
   ⟨0x8, 256, 512, 1, 1, 48, 0x5C⟩ /- GBB_CH_LOOP.LOSS_CN0 -/,
   ⟨0x8, 256, 512, 1, 1, 40, 0x70⟩ /- GBB_CH_LOOP.LOCK_CN0 -/,
   ⟨0x8, 256, 512, 1, 1, 32, 0x14⟩ /- GBB_CH_LOOP.CN0_AVG -/,
   ⟨0x8, 256, 512, 1, 1, 20, 0x64⟩ /- GBB_CH_LOOP.DLL_BW -/,
   ⟨0x8, 256, 512, 1, 1, 12, 0x14⟩ /- GBB_CH_LOOP.FLL_BW -/,
   ⟨0x8, 256, 512, 1, 1, 0, 0x5DC⟩ /- GBB_CH_LOOP.PLL_BW -/,
   ⟨0x10, 256, 512, 1, 1, 32, 0x3C⟩ /- GBB_CH_RECOVER.VEC_TIMEOUT_MS -/,
   ⟨0x10, 256, 512, 1, 1, 24, 0x14⟩ /- GBB_CH_RECOVER.REACQ_DOPP -/,
   ⟨0x10, 256, 512, 1, 1, 16, 0xA⟩ /- GBB_CH_RECOVER.REACQ_CHIPS -/,
   ⟨0x10, 256, 512, 1, 1, 0, 0x5DC⟩ /- GBB_CH_RECOVER.COAST_MS -/,
   ⟨0x58, 256, 512, 1, 1, 8, 0x1⟩ /- GBB_CH_DUMP_CFG.DECIM -/]

/-- Reset values other than 0 in GBB (the register tables). -/
def resetTabGbb : List RegReset :=
  [⟨0x20, 1, 1, 1, 1, 16, 0x1F4⟩ /- GBB_CFG.REACQ_THRESH -/,
   ⟨0x20, 1, 1, 1, 1, 8, 0x4⟩ /- GBB_CFG.REACQ_NC -/,
   ⟨0x20, 1, 1, 1, 1, 0, 0x2⟩ /- GBB_CFG.REACQ_PRIO -/,
   ⟨0x3C, 1, 1, 1, 1, 8, 0x3⟩ /- GBB_DUMP_Q.PRIO -/,
   ⟨0x50, 1, 1, 1, 1, 0, 0xFF⟩ /- GBB_CLUSTERS.GATED -/]

/-- Reset values other than 0 in GOB (the register tables). -/
def resetTabGob : List RegReset :=
  [⟨0x24, 1, 1, 1, 1, 0, 0x3E8⟩ /- GOB_PERIOD.MS -/,
   ⟨0x2C, 1, 1, 1, 1, 0, 0x4E20⟩ /- GOB_STACK_LEAD.TICKS -/,
   ⟨0xC0, 1, 1, 1, 1, 8, 0x4⟩ /- GOB_NAV_Q.PRIO -/]

/-- Reset values other than 0 in POS (the register tables). -/
def resetTabPos : List RegReset :=
  [⟨0x20, 1, 1, 1, 1, 1, 0x1⟩ /- POS_CTRL.U1_EN -/,
   ⟨0x20, 1, 1, 1, 1, 0, 0x1⟩ /- POS_CTRL.U0_EN -/]

/-- Reset values other than 0 in TIM (the register tables). -/
def resetTabTim : List RegReset :=
  [⟨0x20, 1, 1, 1, 1, 16, 0x12C⟩ /- TIM_SRC.TIMEOUT -/,
   ⟨0x30, 1, 1, 1, 1, 31, 0x1⟩ /- TIM_LATCH.DONE -/,
   ⟨0x54, 1, 1, 1, 1, 0, 0x2710⟩ /- TIM_SLEW.MAX -/,
   ⟨0x58, 1, 1, 1, 1, 0, 0x186A0⟩ /- TIM_STEP_THR.TICKS -/,
   ⟨0x410, 32, 32, 1, 1, 0, 0x5F5E100⟩ /- TIM_TPp_PERIOD.TICKS -/,
   ⟨0x414, 32, 32, 1, 1, 0, 0x989680⟩ /- TIM_TPp_WIDTH.TICKS -/]

/-- Reset values other than 0 in ETH (the register tables). -/
def resetTabEth : List RegReset :=
  [⟨0x100, 64, 2, 1, 1, 29, 0x1⟩ /- ETH_PTPp_CFG.L2 -/,
   ⟨0x100, 64, 2, 1, 1, 28, 0x1⟩ /- ETH_PTPp_CFG.UDP4 -/,
   ⟨0x100, 64, 2, 1, 1, 27, 0x1⟩ /- ETH_PTPp_CFG.UDP6 -/,
   ⟨0x200, 128, 2, 1, 1, 29, 0x1⟩ /- ETH_Pp_MACCFG.AN_EN -/,
   ⟨0x240, 128, 2, 1, 1, 8, 0x4⟩ /- ETH_Pp_RX_Q.PRIO -/]

/-- Reset values other than 0 in RAD (the register tables). -/
def resetTabRad : List RegReset :=
  [⟨0x20, 1, 1, 1, 1, 16, 0x5⟩ /- RAD_CFG.SCA -/,
   ⟨0x100, 256, 4, 1, 1, 20, 0x4⟩ /- RADn_CFG.PREAMBLE -/,
   ⟨0x100, 256, 4, 1, 1, 0, 0x3C⟩ /- RADn_CFG.RAMP_US -/,
   ⟨0x104, 256, 4, 1, 1, 0, 0x14⟩ /- RADn_LEAD.TX_LEAD_US -/,
   ⟨0x108, 256, 4, 1, 1, 0, 0x2DD493C6⟩ /- RADn_SYNC.WORD -/,
   ⟨0x110, 256, 4, 1, 1, 60, 0x3⟩ /- RADn_BEACON.CLASS -/,
   ⟨0x110, 256, 4, 1, 1, 32, 0x320⟩ /- RADn_BEACON.INTERVAL -/,
   ⟨0x110, 256, 4, 1, 1, 18, 0x1⟩ /- RADn_BEACON.COUNT -/,
   ⟨0x148, 256, 4, 32, 4, 8, 0xC0⟩ /- RADn_SBs_BUDGET.LOW -/,
   ⟨0x148, 256, 4, 32, 4, 0, 0x20⟩ /- RADn_SBs_BUDGET.RESERVE -/,
   ⟨0x1008, 64, 64, 1, 1, 37, 0x3⟩ /- RAD_Aa_CFG.CLASS -/,
   ⟨0x1008, 64, 64, 1, 1, 36, 0x1⟩ /- RAD_Aa_CFG.AUTO_REJOIN -/,
   ⟨0x1008, 64, 64, 1, 1, 0, 0x400⟩ /- RAD_Aa_CFG.RX_MAX -/,
   ⟨0x1010, 64, 64, 1, 1, 48, 0x9C4⟩ /- RAD_Aa_TIMING.EVENT_MAX_US -/,
   ⟨0x1010, 64, 64, 1, 1, 24, 0x50⟩ /- RAD_Aa_TIMING.INTERVAL -/,
   ⟨0x1010, 64, 64, 1, 1, 0, 0x64⟩ /- RAD_Aa_TIMING.TIMEOUT -/,
   ⟨0x1018, 64, 64, 1, 1, 52, 0x7⟩ /- RAD_Aa_CHMAP.INC -/,
   ⟨0x1020, 64, 64, 1, 1, 48, 0x9C4⟩ /- RAD_Aa_NEXT_TIMING.EVENT_MAX_US -/,
   ⟨0x1020, 64, 64, 1, 1, 24, 0x50⟩ /- RAD_Aa_NEXT_TIMING.INTERVAL -/,
   ⟨0x1020, 64, 64, 1, 1, 0, 0x64⟩ /- RAD_Aa_NEXT_TIMING.TIMEOUT -/,
   ⟨0x1028, 64, 64, 1, 1, 52, 0x7⟩ /- RAD_Aa_NEXT_MAP.INC -/,
   ⟨0x2000, 32, 16, 1, 1, 60, 0x3⟩ /- RAD_Gg_CFG.CLASS -/,
   ⟨0x2000, 32, 16, 1, 1, 36, 0x320⟩ /- RAD_Gg_CFG.PERIOD -/,
   ⟨0x2008, 32, 16, 1, 1, 52, 0x7⟩ /- RAD_Gg_CHMAP.INC -/]

/-- Reset values other than 0 in ZON (the register tables). -/
def resetTabZon : List RegReset :=
  [⟨0x20, 1, 1, 1, 1, 1, 0x1⟩ /- ZON_CTRL.STOP_REFUSE -/,
   ⟨0x38, 1, 1, 1, 1, 0, 0x10⟩ /- ZON_TABLE_CFG.LOG2_ENTRIES -/,
   ⟨0x3C, 1, 1, 1, 1, 0, 0xA⟩ /- ZON_2PC.HOLD_MS -/,
   ⟨0x100, 32, 8, 1, 1, 24, 0x8⟩ /- ZON_Ff_CFG.TILE_SHIFT -/,
   ⟨0x100, 32, 8, 1, 1, 16, 0xA⟩ /- ZON_Ff_CFG.CELL_DM -/,
   ⟨0x100, 32, 8, 1, 1, 0, 0x64⟩ /- ZON_Ff_CFG.QUANTUM_MS -/]

/-- Reset values other than 0 in REF (the register tables). -/
def resetTabRef : List RegReset :=
  [⟨0x400, 1, 1, 1, 1, 31, 0x1⟩ /- REF_STOP_STATUS.LATCHED -/,
   ⟨0x400, 1, 1, 1, 1, 16, 0x4⟩ /- REF_STOP_STATUS.SOURCES -/,
   ⟨0x400, 1, 1, 1, 1, 8, 0x3⟩ /- REF_STOP_STATUS.REASON -/,
   ⟨0x420, 1, 1, 1, 1, 31, 0x1⟩ /- REF_STOP_CFG.PWRFAIL_STOP -/,
   ⟨0x420, 1, 1, 1, 1, 0, 0x14⟩ /- REF_STOP_CFG.DISAGREE_MS -/]

/-- Reset values other than 0 in MCH (the register tables). -/
def resetTabMch : List RegReset :=
  [⟨0x1000, 128, 48, 1, 1, 28, 0x2⟩ /- MCH_MFs_CFG.CLASS -/,
   ⟨0x1000, 128, 48, 1, 1, 26, 0x1⟩ /- MCH_MFs_CFG.STOP_MODE -/,
   ⟨0x1000, 128, 48, 1, 1, 24, 0x1⟩ /- MCH_MFs_CFG.RATE_EN -/,
   ⟨0x1000, 128, 48, 1, 1, 8, 0x3⟩ /- MCH_MFs_CFG.LATE_LIMIT -/,
   ⟨0x1004, 128, 48, 1, 1, 21, 0x2⟩ /- MCH_MFs_TIMING.PERIOD -/,
   ⟨0x1008, 128, 48, 1, 1, 32, 0x64⟩ /- MCH_MFs_MEAS_SRC.AGE_MS -/,
   ⟨0x1010, 128, 48, 1, 1, 0, 0x10000⟩ /- MCH_MFs_MEAS_SCALE.M_GAIN -/,
   ⟨0x1018, 128, 48, 1, 1, 45, 0x1⟩ /- MCH_MFs_BIND.IDE -/,
   ⟨0x1028, 128, 48, 1, 1, 0, 0x10000⟩ /- MCH_MFs_ACT_SCALE.A_GAIN -/,
   ⟨0x2F00, 4, 4, 1, 1, 0, 0x1⟩ /- MCH_ANG_g.DIV -/,
   ⟨0x3000, 32, 32, 1, 1, 16, 0xA⟩ /- MCH_ANc_CFG.B_SHIFT -/,
   ⟨0x3000, 32, 32, 1, 1, 0, 0x19⟩ /- MCH_ANc_CFG.DEAD -/,
   ⟨0x3004, 32, 32, 1, 1, 16, 0xFFFF⟩ /- MCH_ANc_WIN.HIGH -/,
   ⟨0x3008, 32, 32, 1, 1, 0, 0x400⟩ /- MCH_ANc_THRESH.THRESH -/,
   ⟨0x3400, 32, 16, 1, 1, 0, 0xA⟩ /- MCH_PIn_CFG.MIN_WIDTH -/,
   ⟨0x3404, 32, 16, 1, 1, 0, 0x7D0⟩ /- MCH_PIn_ZERO.ZERO_MS -/,
   ⟨0x3800, 16, 24, 1, 1, 0, 0x3E8⟩ /- MCH_PWn_CFG.FREQ_HZ -/,
   ⟨0x3808, 16, 24, 1, 1, 0, 0x1⟩ /- MCH_PWn_DITHER.HALF -/]

/-- Reset values other than 0 in TAL (the register tables). -/
def resetTabTal : List RegReset :=
  [⟨0x104, 128, 16, 1, 1, 0, 0x1⟩ /- TAL_TQi_N.N -/,
   ⟨0x108, 128, 16, 1, 1, 0, 0x10000⟩ /- TAL_TQi_SCALE.GAIN -/,
   ⟨0x118, 128, 16, 1, 1, 0, 0x10000⟩ /- TAL_TQi_TSCALE.T_GAIN -/,
   ⟨0x15C, 128, 16, 1, 1, 16, 0x4000⟩ /- TAL_TQi_CORR.G -/,
   ⟨0x1000, 256, 16, 4, 33, 0, 0x4000⟩ /- TAL_TQi_TPk.G -/,
   ⟨0x904, 32, 8, 1, 1, 16, 0x3E8⟩ /- TAL_POn_TIMING.GAP -/,
   ⟨0x904, 32, 8, 1, 1, 0, 0x3E8⟩ /- TAL_POn_TIMING.WIDTH -/,
   ⟨0x908, 32, 8, 1, 1, 0, 0x10000⟩ /- TAL_POn_WEIGHT.WEIGHT -/]

/-- Reset values other than 0 in CAN (the register tables). -/
def resetTabCan : List RegReset :=
  [⟨0x100, 128, 6, 1, 1, 27, 0x1⟩ /- CAN_CTLn_CFG.AUTO_RECOVER -/,
   ⟨0x100, 128, 6, 1, 1, 25, 0x1⟩ /- CAN_CTLn_CFG.PXHD_EN -/,
   ⟨0x100, 128, 6, 1, 1, 24, 0x1⟩ /- CAN_CTLn_CFG.STB -/,
   ⟨0x104, 128, 6, 1, 1, 24, 0x14⟩ /- CAN_CTLn_NBT.NBRP -/,
   ⟨0x104, 128, 6, 1, 1, 16, 0xD⟩ /- CAN_CTLn_NBT.NTSEG1 -/,
   ⟨0x104, 128, 6, 1, 1, 8, 0x2⟩ /- CAN_CTLn_NBT.NTSEG2 -/,
   ⟨0x104, 128, 6, 1, 1, 0, 0x1⟩ /- CAN_CTLn_NBT.NSJW -/,
   ⟨0x108, 128, 6, 1, 1, 24, 0x1⟩ /- CAN_CTLn_DBT.DBRP -/,
   ⟨0x108, 128, 6, 1, 1, 16, 0x7⟩ /- CAN_CTLn_DBT.DTSEG1 -/,
   ⟨0x108, 128, 6, 1, 1, 8, 0x2⟩ /- CAN_CTLn_DBT.DTSEG2 -/,
   ⟨0x108, 128, 6, 1, 1, 0, 0x1⟩ /- CAN_CTLn_DBT.DSJW -/,
   ⟨0x10C, 128, 6, 1, 1, 0, 0x8⟩ /- CAN_CTLn_TDC.TDCO -/,
   ⟨0x8000, 16, 2048, 1, 1, 8, 0x1⟩ /- CAN_OBJo_CFG.IDE -/,
   ⟨0x8008, 16, 2048, 1, 1, 0, 0x1FFFFFFF⟩ /- CAN_OBJo_MASK.MASK -/]

/-- Reset values other than 0 in BXL (the register tables). -/
def resetTabBxl : List RegReset :=
  [⟨0x20, 1, 1, 1, 1, 31, 0x1⟩ /- BXL_CFG.ENABLE -/,
   ⟨0x20, 1, 1, 1, 1, 16, 0x14⟩ /- BXL_CFG.ACK_US -/,
   ⟨0x20, 1, 1, 1, 1, 8, 0x80⟩ /- BXL_CFG.CAPTAIN_PRIO -/,
   ⟨0x20, 1, 1, 1, 1, 0, 0x1⟩ /- BXL_CFG.CAPTAIN_SRC -/]

/-- Reset values other than 0 in UPD (the register tables). -/
def resetTabUpd : List RegReset :=
  [⟨0x3C, 1, 1, 1, 1, 0, 0x258⟩ /- UPD_TRIAL.TRIAL_S -/]

/-- Reset values other than 0 in BST (the register tables). -/
def resetTabBst : List RegReset :=
  [⟨0x20, 1, 1, 1, 1, 31, 0x1⟩ /- BST_CTRL.RUN_EN -/,
   ⟨0x20, 1, 1, 1, 1, 0, 0x2710⟩ /- BST_CTRL.ROUND_MS -/]

/-- Reset values other than 0 in PWR (the register tables). -/
def resetTabPwr : List RegReset :=
  [⟨0x20, 1, 1, 1, 1, 30, 0x1⟩ /- PWR_STATUS.RAILS_GOOD -/,
   ⟨0x30, 1, 1, 1, 1, 31, 0x1⟩ /- PWR_THERM.CAP_EN -/,
   ⟨0x30, 1, 1, 1, 1, 16, 0x3⟩ /- PWR_THERM.CAP_CODE -/,
   ⟨0x30, 1, 1, 1, 1, 8, 0x64⟩ /- PWR_THERM.CAP_C -/,
   ⟨0x30, 1, 1, 1, 1, 0, 0x5⟩ /- PWR_THERM.HYST_C -/]

/-- Reset values other than 0 in HST (the register tables). -/
def resetTabHst : List RegReset :=
  [⟨0x24, 1, 1, 1, 1, 31, 0x1⟩ /- HST_PCI_CFG.CQ_IRQ -/,
   ⟨0x38, 1, 1, 1, 1, 0, 0x10⟩ /- HST_Q_SIZE.ENTRIES -/,
   ⟨0x58, 1, 1, 1, 1, 0, 0x100⟩ /- HST_NR_SIZE.ENTRIES -/,
   ⟨0x68, 1, 1, 1, 1, 31, 0x1⟩ /- HST_UART.EN -/,
   ⟨0x68, 1, 1, 1, 1, 0, 0x88⟩ /- HST_UART.DIV -/,
   ⟨0x70, 1, 1, 1, 1, 16, 0x3⟩ /- HST_ETH.PORTS -/,
   ⟨0x70, 1, 1, 1, 1, 0, 0xB040⟩ /- HST_ETH.UDP_PORT -/]

/-- The reset values other than 0 of island i, beside the common registers. -/
def islandResets (i : Nat) : List RegReset :=
  if i = 7 then resetTabDug else
  if i = 8 then resetTabQue else
  if i = 32 then resetTabGbb else
  if i = 33 then resetTabGob else
  if i = 34 then resetTabPos else
  if i = 6 then resetTabTim else
  if i = 40 then resetTabEth else
  if i = 35 then resetTabRad else
  if i = 36 then resetTabZon else
  if i = 2 then resetTabRef else
  if i = 37 then resetTabMch else
  if i = 38 then resetTabTal else
  if i = 39 then resetTabCan else
  if i = 41 then resetTabBxl else
  if i = 5 then resetTabUpd else
  if i = 3 then resetTabBst else
  if i = 1 then resetTabPwr else
  if i = 42 then resetTabHst else
  if 0x10 ≤ i ∧ i < 0x20 then resetTabEng else
  if 0x2C ≤ i ∧ i < 0x30 then resetTabSmp else []

/-- The value a field of a group list resets to (0 where the list has no entry). -/
def lookReset : List RegReset → Nat → Nat → Nat
  | [], _, _ => 0
  | r :: rs, o, lo =>
    if r.lo = lo ∧ inGroup r.off r.stride1 r.count1 r.stride2 r.count2 o = true then r.val else lookReset rs o lo

/-- KIND of an island's IDENT register (R34). -/
def islandKind (i : Nat) : Nat :=
  if i < 0x10 then 0 else if i < 0x1C then 1 else if i < 0x20 then 2 else if i = 0x2B then 0 else 3

/-- The 41 islands of R20. -/
def isIsland (i : Nat) : Bool := decide (i < 9) || (decide (0x10 ≤ i) && decide (i < 0x30))

/-- What a field of the register file holds at reset, by its key (R34 and the register tables). DESIGN CHOICE (log
entry 3): DESIGN_STEP, per island and not given, is 1, the lowest step R34 counts from. -/
def regReset (key : Nat) : Nat :=
  let addr := key / 64
  let lo := key % 64
  if addr < 0x0200300000 then
    let i := (addr - 0x0200000000) / 0x10000
    let o := addr % 0x10000
    if o = 0 then (if lo = 16 then islandKind i else if lo = 8 then 1 else if lo = 0 then i else 0)
    else if o < 0x20 then lookReset resetTabPrefix o lo
    else lookReset (islandResets i) o lo
  else lookReset resetTabGbbch (addr % 0x20000) lo

end Sys2Proof.Machine
end

