-- ==== Sys2Proof/Machine/State.lean ====
section
/-! DEFINITION. The state of the device: the register file, the memories, and beside them everything the spec gives an
island that no register shows (queues, tables, contexts, records under way). Plain data throughout. -/

namespace Sys2Proof.Machine

/-- The reasons the machine can stop. No meaning raises one: the spec gives every command an effect, and an access to
an address that does not exist is answered with a status (R23), which is an effect. -/
inductive Fault where
  /-- Raised by nothing: kept so that a stop would have a name of its own. Safe. -/
  | stopped
  deriving DecidableEq, Repr

/-- The reasons a command can be turned away by the model itself. -/
inductive Refusal where
  /-- A command that has no meaning yet, by its mnemonic. Raised by an arm of `exec` alone. Safe. -/
  | notModelled (mnemonic : String)
  deriving DecidableEq, Repr

/-! ### Islands, accepted work (chapter 01) -/

/-- A 32-bit half of a 64-bit register held for one requester (R13). -/
structure Half where
  req : Nat
  addr : Nat
  val : Nat
  deriving DecidableEq, Repr

/-- A token, an access or a queue word held for an island that is GATED or in SELFTEST (R31, R534). -/
inductive HeldReq where
  | token (isl : Nat) (t : Token)
  | write (isl req addr size value : Nat)
  | word (w : QWord)
  deriving DecidableEq, Repr

/-- One output of a commit record (R589). -/
structure Out where
  dest : Nat
  typ : Nat
  prio : Nat
  tag : Nat
  data : Nat
  deriving DecidableEq, Repr

/-- Where an accepted item came from (R46), with what its acknowledgement needs. -/
inductive Origin where
  | can (q entry : Nat)
  | radio (n a seq h : Nat)
  | host (x tag session slot : Nat)
  | bexlink (pos num stamp : Nat)
  | task (src : Nat) (stamp : Option Stamp)
  deriving DecidableEq, Repr

/-- A live record of the journal ring (R50, R588): its place and its fields. -/
structure JRec where
  off : Nat
  len : Nat
  lap : Nat
  kind : Nat
  prio : Nat
  source : Nat
  flow : Nat
  slot : Nat
  task : Nat
  seq : Nat
  sref : Nat
  time : Nat
  outs : List Out
  released : Nat
  confirmed : List Nat
  payload : List Byte
  retired : Bool
  deriving DecidableEq, Repr

/-- An item waiting for its journal write (R47). -/
structure JWrite where
  origin : Origin
  source : Nat
  flow : Nat
  slot : Nat
  prio : Nat
  sref : Nat
  payload : List Byte
  deriving DecidableEq, Repr

/-- A flow-bound outbox handed to the Dugout, waiting for its commit record (R55, R100). -/
structure CommitJob where
  eng : Nat
  ctx : Nat
  inst : Nat
  flow : Nat
  seq : Nat
  outs : List Out
  ends : Bool
  time : Nat
  deriving DecidableEq, Repr

/-- The MEM island: the two MRAM devices and the journal controller (R47, R54, R588). -/
structure MemSt where
  failA : Bool
  failB : Bool
  live : List JRec
  head : Nat
  lap : Nat
  tail : Nat
  tailLap : Nat
  ptrSeq : Nat
  itemWrites : List JWrite
  commitJobs : List CommitJob
  deriving DecidableEq, Repr

/-! ### Yelsil engines (chapter 02) -/

/-- An operand register k (R72). -/
structure KSlot where
  data : Nat
  tag : Nat
  full : Bool
  deriving DecidableEq, Repr

/-- A load or store that its target refused, whose trap is deferred (R83). -/
structure Deferred where
  pc : Nat
  addr : Nat
  code : Nat
  isLoad : Bool
  file : Nat
  rd : Nat
  deriving DecidableEq, Repr

/-- What a stalled context waits for from the Dugout (R106, R107). -/
inductive DugAsk where
  | spawn (rd templ : Nat)
  | cancel (rd inst gen : Nat)
  deriving DecidableEq, Repr

/-- One hardware task context (R68, R71, R72, R111). State: 0 EMPTY, 1 RUNNABLE, 2 RUNNING, 3 WAITING, 4 COMMITTING. -/
structure Ctx where
  st : Nat
  age : Nat
  inst : Nat
  gen : Nat
  cls : Nat
  bound : Bool
  flow : Nat
  seq : Nat
  winmask : Nat
  attempt : Nat
  pc : Nat
  g : Tab (BitVec 64)
  f : Tab (BitVec 64)
  v : Tab (BitVec 256)
  k : Tab KSlot
  o : Tab (BitVec 64)
  handler : Bool
  atomic : Bool
  left : Nat
  fcsr : Nat
  qstat : Nat
  outbox : List Out
  trapPc : Nat
  trapCause : Nat
  trapValue : Nat
  retired : Nat
  deferred : List Deferred
  ask : Option DugAsk
  cancelled : Bool
  recvRd : Nat
  recvQ : Nat
  deriving DecidableEq, Repr

/-- One engine: its contexts, the lines its instruction cache holds (the number of each and its 64 bytes, the newest first,
R80), and a DVFS request written during a step (R120). -/
structure EngSt where
  ctxs : Tab Ctx
  icache : List (Nat × List Byte)
  dvfsNext : Option Nat
  dvfsTarget : Nat
  cap : Option Nat
  deriving DecidableEq, Repr

/-! ### Dugout and word queues (chapter 03) -/

/-- A token held for an instance, on die (R139). -/
structure SlotTok where
  slot : Nat
  data : Nat
  tag : Nat
  src : Nat
  deriving DecidableEq, Repr

/-- A descriptor (R131): the words software writes and what the Dugout keeps in W5 and W6. -/
structure Desc where
  w0 : Nat
  w1 : Nat
  w2 : Nat
  w3 : Nat
  w4 : Nat
  w7 : Nat
  st : Nat
  gen : Nat
  count : Nat
  attempt : Nat
  eng : Nat
  ctx : Nat
  acts : Nat
  toks : List SlotTok
  moved : List SlotTok
  age : Nat
  item : Option Nat
  guest : Bool
  deriving DecidableEq, Repr

/-- A flow (R156); its pending items are the item records of the journal. Flow f of the guest flow table (R485) has the
index 4096 + f. `again`: the runs that the item delivered next has had before a restart or a takeover. -/
structure Flow where
  bound : Option Nat
  nextAccept : Nat
  nextServe : Nat
  delivered : Bool
  again : Nat
  deriving DecidableEq, Repr

/-- The Dugout: instance and template tables, the spill ring, the flow table, and the order in which entries became
free. -/
structure DugSt where
  inst : Tab Desc
  templ : Tab Desc
  spill : List Token
  spillSeq : Nat
  spillRd : Nat
  freed : List Nat
  clock : Nat
  flows : Tab Flow
  lastDispatch : Nat
  deriving DecidableEq, Repr

/-- A word present in a queue. -/
structure QEnt where
  prio : Nat
  data : Nat
  order : Nat
  deriving DecidableEq, Repr

/-- A word held for a flow-bound activation (R104). -/
structure QHeld where
  prio : Nat
  data : Nat
  order : Nat
  eng : Nat
  ctx : Nat
  deriving DecidableEq, Repr

/-- A context waiting on a queue in RECVQ.W (R167). -/
structure QWait where
  eng : Nat
  ctx : Nat
  cls : Nat
  deriving DecidableEq, Repr

/-- One word queue beside its registers. -/
structure Queue where
  words : List QEnt
  held : List QHeld
  waits : List QWait
  order : Nat
  front : Nat
  staleStart : Nat
  deriving DecidableEq, Repr

/-! ### Device time (chapter 07) -/

/-- A capture input: its FIFO of stamp words and when it was last stamped, in ns of SREF (R304, R305). -/
structure TcSt where
  fifo : List Nat
  last : Option Nat
  deriving DecidableEq, Repr

/-- A time pin: pulses driven; the device time of its next leading edge and of the trailing edge of the pulse under way
(ONCE, PERIODIC); the SREF edges of those of a reflex pulse or of a pulse that MCH drives; whether it stops after the
pulse under way (R306, R307); while a slot binds it, the actuator value in mHz, and the edge of its last leading edge
(R409). -/
structure PinSt where
  k : Nat
  lead : Option Nat
  trail : Option Nat
  due : Option Nat
  upto : Option Nat
  stopping : Bool
  bound : Option Nat
  lastLead : Option Nat
  deriving DecidableEq, Repr

/-- The time base: device time in units of 2^-48 tick (R290), the count of SREF edges, the quality state (R296), the
remaining slew in 2^-48 tick and the magnitude of S (R299), the remaining step in 2^-32 tick with the PHASE it came from
and whether no part has been applied (R300), the edge counts of the last correction and of the entry to HOLDOVER (R301),
the state before REFLOST (R302), the GPS second of the last inserted leap second (R295), the edge of the last mark. -/
structure TimSt where
  time48 : Nat
  edges : Nat
  qst : Nat
  slew48 : Int
  mag : Nat
  stepLeft : Int
  stepPhase : Nat
  stepFirst : Bool
  lastCorr : Nat
  holdAt : Nat
  before : Nat
  leapIns : Option Int
  markAt : Nat
  caps : Tab TcSt
  pins : Tab PinSt
  deriving DecidableEq, Repr

/-- A frame in a transmit buffer (R313, R318). -/
structure TxBuf where
  prio : Nat
  order : Nat
  ref : Nat
  report : Bool
  oneStep : Bool
  tsReq : Bool
  tsId : Nat
  frame : List Byte
  stamp : Option Stamp
  deriving DecidableEq, Repr

/-- An Ethernet port beside its registers: transmit buffers, transmit stamps as TS_ID and stamp word (R315), the next
SEQ, and the SREF edge up to which a PAUSE frame holds it (R317). -/
structure EthPort where
  bufs : List TxBuf
  stamps : List (Nat × Nat)
  seq : Nat
  order : Nat
  paused : Nat
  deriving DecidableEq, Repr

/-- Both ports, and every frame that has left the module, with its FCS. -/
structure EthSt where
  ports : Tab EthPort
  out : List (Nat × List Byte)
  deriving DecidableEq, Repr

/-! ### Scorebook (chapter 15) -/

/-- A record waiting in the Scorebook's staging buffer (R545). -/
structure ScbRec where
  typ : Nat
  time : Nat
  status : Nat
  software : Bool
  body : List Byte
  deriving DecidableEq, Repr

/-- A record of the region written to, from OLDEST on: SEQ, offset, bytes. A pad has the SEQ of the record after it. -/
structure ScbEnt where
  seq : Nat
  off : Nat
  len : Nat
  deriving DecidableEq, Repr

/-- A command whose end is awaited (R549): CLEAR, or MAIN with whether its record is the one under way; the endpoint and
the task of the token that gave it. -/
structure ScbWait where
  op : Nat
  src : Option Nat
  task : Option (Nat × Nat × Nat)
  deriving DecidableEq, Repr

/-- SEND under way (R552): bookmark, records left, flow, member, parts of the record not acknowledged, and who gave it. -/
structure ScbSend where
  k : Nat
  count : Nat
  flow : Nat
  member : Nat
  parts : Nat
  src : Option Nat
  task : Option (Nat × Nat × Nat)
  deriving DecidableEq, Repr

/-- The Scorebook controller: the record under way, those that go before staging, staging and the drops not yet recorded
(R545 to R547, R551, R553); the records of the region; the pointer's count; a command awaited, a SEND, whether MAIN's
record is under way. -/
structure ScbSt where
  writing : Option ScbRec
  first : List ScbRec
  staged : List ScbRec
  dropCount : Nat
  dropFirst : Nat
  dropLast : Nat
  live : List ScbEnt
  wait : Option ScbWait
  send : Option ScbSend
  main : Bool
  deriving DecidableEq, Repr

/-- The last-breath cell of REF (R554), without CHECK: whether CHECK is valid stands in `valid`. -/
structure LastBreath where
  valid : Bool
  kind : Nat
  isl : Nat
  status : Nat
  cause : Nat
  dropped : Nat
  time : Nat
  lastTime : Nat
  failMap : Nat
  lastHeader : List Byte
  lastArg0 : Nat
  deriving DecidableEq, Repr

/-- BST beside its registers (R530 to R537): the slice under way, with the state its island left and the edge it began at;
the next place of the round and when the round began; slices to run again with their edge, and those moved to the end;
aborts by slice in this round; slices completed by island in this round; rounds in a row not completed by island. -/
structure BstSt where
  run : Option (Nat × Nat × Nat)
  began : Nat
  next : Nat
  roundAt : Nat
  again : List (Nat × Nat × Nat)
  last : List (Nat × Nat)
  aborts : Tab Nat
  done : Tab Nat
  missed : Tab Nat
  deriving DecidableEq, Repr

/-! ### Playbook update (chapter 14) -/

/-- UPD beside its registers (R507 to R524). Of the journal: SEQ, FLAGS, ELAPSED, NEW_BLOCKS, OLD_BLOCKS, MEMBERS, DIGEST.
The block under way (index, bytes, whether UPD_CMD gave it); pieces gathered for block DL_NEXT. Of a transaction: members
that have not voted, the first status not OK, the Roster epoch at PREPARE, members that have swapped and that are healthy,
decisions known (transaction, OP, STATUS), the one whose RECORD waits for its ACK, the time T of RESTART, since when this
member waits for DECIDE. The edge of the next second of the trial; whether the swap stopped; whether the trial image runs;
the OTP key slots. -/
structure UpdSt where
  seq : Nat
  flags : Nat
  elapsed : Nat
  newBlocks : Nat
  oldBlocks : Nat
  members : Nat
  digest : List Byte
  writing : Option (Nat × List Byte × Bool)
  pieces : List Byte
  waiting : List Nat
  vote : Nat
  epoch : Nat
  swapped : List Nat
  healthy : List Nat
  decisions : List (Nat × Nat × Nat)
  recording : Option (Nat × Nat × Nat)
  restartAt : Option Nat
  since : Nat
  secondAt : Nat
  halted : Bool
  trial : Bool
  keys : List (List Byte)
  deriving DecidableEq, Repr

/-! ### Power, start-up and the host (chapter 16) -/

/-- SYS and PWR beside their registers: whether the module is held in reset; whether the converters run; the status it
holds with, under R528 or R577; the islands of BST_PU_FAIL whose FENCE records are owed; whether the loader ended without
an image; whether the steps of phase RESTORE are done; the thermal and the power-fail cap; levels of SAFE_TO_REMOVE and
EJECT_REQ_N's removal; the last REPORT. -/
structure BootSt where
  restored : Bool
  held : Bool
  converters : Bool
  holding : Option Nat
  stay : Bool
  cap : Option Nat
  thermal : Option Nat
  safe : Bool
  checkpoint : Bool
  reportAt : Nat
  deriving DecidableEq, Repr

/-- A command frame that waits at an interface, and for one that came by Ethernet the port and the frame that carried
it (R586). -/
structure HstFrame where
  bytes : List Byte
  eth : Option (Nat × List Byte)
  deriving DecidableEq, Repr

/-- A completion kept (R582): what the command is recognised by, and what was answered. -/
structure HstDone where
  session : Nat
  tag : Nat
  op : Nat
  check : Nat
  status : Nat
  seq : Nat
  payload : List Byte
  deriving DecidableEq, Repr

/-- An interface (R580): frames waiting, oldest first; whether the first one is in progress; the last 16 completions,
newest first. -/
structure HstIf where
  queue : List HstFrame
  busy : Bool
  kept : List HstDone
  deriving DecidableEq, Repr

/-- HST beside its registers: interfaces; what went to host memory (host address, bytes), MSI-X vectors raised, frames sent
on the UART (COBS, with the 0x00); whether PCIE_PERST_N is low, whether bus mastering is on, notices sent, commands of the
submission ring not yet fetched. -/
structure HstSt where
  ifs : Tab HstIf
  out : List (Nat × List Byte)
  msix : List Nat
  uart : List (List Byte)
  perst : Bool
  master : Bool
  notices : Nat
  ring : List (List Byte)
  deriving DecidableEq, Repr

/-! ### Positioning library (chapter 06) -/

/-- A robot of the central solve (R285): the epoch gathered (week and ms) with its parts and part count, the item in
service that waits for more, and the newest epoch solved. -/
structure LibRobot where
  epoch : Option (Nat × Nat)
  count : Nat
  parts : List (Nat × List Byte)
  waits : Option Nat
  solved : Option (Nat × Nat)
  deriving DecidableEq, Repr

/-- The library: its configuration record and the modes it started in, the base of its report ring, the next report;
corrections held (message number, when it came, frame); base epochs cut, frames discarded, epochs skipped; robots. -/
structure LibSt where
  cfg : List Byte
  modes : Nat
  reports : Nat
  nextReport : Nat
  corr : List (Nat × Nat × List Byte)
  cut : Nat
  discarded : Nat
  skipped : Nat
  robots : Tab LibRobot
  deriving DecidableEq, Repr

/-! ### Sample ports, channels, searchers (chapter 04) -/

/-- A sample port beside its registers: the SPI transactions waiting and the chip select held (R182), the level of its
blanking input (R180), and each stream's DELAY at the last mark (R177). -/
structure SmpPort where
  fifo : List Nat
  cs : Option Nat
  level : Bool
  prev : Tab (Option Nat)
  deriving DecidableEq, Repr

/-- What one integration gives to the averages of R197: |P|², |NF|², the term of PLI and |ef|, in binary64. -/
structure Sums where
  pp : Nat
  nn : Nat
  pli : Nat
  ef : Nat
  deriving DecidableEq, Repr

/-- A tracking channel beside its window. Loop terms are binary64 encodings (R194); `phase` and `carr` are counts of
2^-32 chip and 2^-32 cycle at edge count `mark`; `base` is the whole chips of the longer code count (R241) at the start
of the primary period under way. -/
structure Chan where
  accA : Nat
  accV : Nat
  dopp : Nat
  codeAdj : Nat
  phase : Nat
  base : Nat
  carr : Nat
  mark : Nat
  since : Nat
  first : Bool
  prevI : Int
  prevQ : Int
  win : List Sums
  low : Nat
  runN : Nat
  runE : Nat
  runL : Nat
  sign : Option Bool
  bitN : Nat
  hist : List Nat
  secCand : Option Nat
  secN : Nat
  seq : Nat
  dump : List Byte
  lastVec : Nat
  vecSeq : Nat
  stepBy : Int
  op : Nat
  reacqWait : Bool
  discard : Bool
  lockAt : Nat
  slips : Nat
  slipped : Bool
  blanked : Bool
  halfAdded : Bool
  range : Nat
  towBase : Option Nat
  ev : Nat
  polarity : Option Bool
  deriving DecidableEq, Repr

/-- A searcher command that is queued (R208); an internal reacquisition command names its channel (R217). -/
structure SrchCmd where
  addr : Nat
  prio : Nat
  order : Nat
  chan : Option Nat
  deriving DecidableEq, Repr

/-- A searcher command in service: its block as read (R209) and the time its capture began. -/
structure SrchAct where
  cmd : SrchCmd
  blk : List Byte
  capture : Nat
  deriving DecidableEq, Repr

structure Searcher where
  queue : List SrchCmd
  active : Option SrchAct
  deriving DecidableEq, Repr

/-- An entry of a vector update (R203). -/
structure VecEnt where
  chan : Nat
  flags : Nat
  dopp : Nat
  adj : Nat
  stepBy : Nat
  deriving DecidableEq, Repr

/-- A vector update that was taken and waits for its time (R204). -/
structure VecUpd where
  seq : Nat
  apply : Nat
  entries : List VecEnt
  deriving DecidableEq, Repr

structure GbbSt where
  chan : Tab Chan
  srch : Tab Searcher
  vecs : List VecUpd
  lastApply : Option Nat
  order : Nat
  deriving DecidableEq, Repr

/-! ### Snap (chapter 05) -/

/-- The request of the software slot with a time T (R226, R228): T, whether it came from GOB_SOFT, and whether a time step
has carried its edge past its time. -/
structure SoftReq where
  time : Nat
  register : Bool
  stepped : Bool
  deriving DecidableEq, Repr

/-- The floating Snap that is armed (R226): its edge as a count of SREF edges, its own edge in device time, its triggers,
whether it is deferred, whether it waits for an armed fixed edge it joined (R232), and the capture it records. -/
structure FloatReq where
  edge : Nat
  own : Nat
  triggers : Nat
  deferred : Bool
  join : Bool
  capTicks : Nat
  capSub : Nat
  capInput : Nat
  deriving DecidableEq, Repr

/-- A stack-wide edge that is armed (R230): device time of the edge, the stack Snap number, the local triggers that
joined it. -/
structure StackReq where
  time : Nat
  num : Nat
  joined : Nat
  deriving DecidableEq, Repr

/-- The bank being filled: its number, the Snap's number, and the data of the notice (R237). -/
structure Fill where
  bank : Nat
  num : Nat
  info : Nat
  deriving DecidableEq, Repr

/-- The broadcast offset of a system to GPS (R253): ps at a reference time, ps per second times 2^20, the device time of
reference, and the edge count of the last source unit. -/
structure Bcast where
  ps : Int
  rate : Int
  ref : Nat
  seen : Nat
  deriving DecidableEq, Repr

/-- GOB beside its registers: the periodic target, the software slot, the floating and stack-wide edges armed, what
SNAP_PERIODIC found due at this edge, the Captain's next stack Snap number, the edge count of the last Snap, SNAP_NUM,
the fill under way, the rings' entry numbers and the offsets between systems. -/
structure GobSt where
  target : Option Nat
  soft : Option SoftReq
  floating : Option FloatReq
  stack : List StackReq
  due : Nat
  dueStep : Bool
  nextStack : Nat
  lastEdge : Option Nat
  num : Nat
  restarted : Bool
  fill : Option Fill
  navSeq : Tab Nat
  bcast : Tab (Option Bcast)
  estAt : Tab Nat
  deriving DecidableEq, Repr

/-! ### Ambiguity engine (chapter 06) -/

/-- A command of POS: its block's address, class and arrival. -/
structure PosCmd where
  addr : Nat
  prio : Nat
  order : Nat
  deriving DecidableEq, Repr

/-- A command in service on a unit: its block as read and the time it was taken. -/
structure PosAct where
  cmd : PosCmd
  blk : List Byte
  start : Nat
  deriving DecidableEq, Repr

structure PosSt where
  queue : List PosCmd
  active : Tab (Option PosAct)
  order : Nat
  deriving DecidableEq, Repr

/-! ### Radio (chapter 08) -/

/-- A record queued for an association or a group (R351): its TYPE, class, order of arrival and body, and where it came
from. -/
structure RadRec where
  typ : Nat
  prio : Nat
  order : Nat
  body : List Byte
  src : Nat
  dest : Nat
  stamp : Option Stamp
  task : Option (Nat × Nat × Nat)
  deriving DecidableEq, Repr

/-- A DATA, CTRL or GROUP frame that was composed and is not yet freed (R352, R353): frame type, SEQ, payload and the
records it carries; `term` for a TERMINATE. -/
structure RadFrame where
  typ : Nat
  seq : Nat
  payload : List Byte
  recs : List RadRec
  term : Bool
  deriving DecidableEq, Repr

/-- A CTRL frame that waits to be composed (R334). -/
inductive RadCtrl where
  | map (instant value : Nat)
  | timing (instant value : Nat)
  | group (g : Nat)
  | terminate
  deriving DecidableEq, Repr

/-- An association beside its registers: H, the module's next SEQ, the records queued, the frame not acknowledged, the
CTRL frames waiting, the acknowledgement due, the SEQ whose journal write is under way, the next anchor and its event
number, this event's anchor, the channel of that event, the start of the supervision timer, the time of the RELEASE
command, a pending update (MAP or TIMING, its INSTANT and the register value it sets), MORE in the last module frame, and the counts of R360. -/
structure RadAssoc where
  high : Nat
  txNext : Nat
  recs : List RadRec
  frame : Option RadFrame
  ctrl : List RadCtrl
  ack : Option (Nat × Nat)
  wait : Option Nat
  next : Nat
  event : Nat
  anchor : Nat
  chan : Nat
  timer : Nat
  closeAt : Nat
  update : Option (Bool × Nat × Nat)
  more : Bool
  items : Nat
  missed : Nat
  rssi : Nat
  deriving DecidableEq, Repr

/-- A group beside its registers (R353): queue, the frame under way, the next SEQ, the next event and its number, and
whether a copy of this event has been sent. -/
structure RadGroup where
  recs : List RadRec
  frame : Option RadFrame
  seq : Nat
  next : Nat
  event : Nat
  copied : Bool
  deriving DecidableEq, Repr

/-- What a port sends: a beacon, a JOIN_ACCEPT to a robot with its SCA code, an exchange of an association (the first
of its event or a later one), copy r of a group frame, the k-th frame of a stop burst. -/
inductive RadWhat where
  | beacon (count : Nat)
  | accept (a sca : Nat)
  | exchange (a : Nat) (first : Bool)
  | group (g copy : Nat)
  | stop (burst k : Nat)
  deriving DecidableEq, Repr

/-- A transmission planned for a time on the radio clock. -/
structure RadPlan where
  at' : Nat
  what : RadWhat
  deriving DecidableEq, Repr

/-- A transmission on the air: first preamble bit, end, sub-band, the charge and the second it went to, and the frame's
channel and bytes. -/
structure RadTx where
  start : Nat
  stop : Nat
  what : RadWhat
  sub : Nat
  charge : Nat
  second : Nat
  chan : Nat
  frame : List Byte
  deriving DecidableEq, Repr

/-- An open receive window: for a JOIN_REQ or for association a, on a channel, and the times at which an SFD may fall. -/
structure RadListen where
  join : Bool
  assoc : Nat
  chan : Nat
  lo : Nat
  hi : Nat
  deriving DecidableEq, Repr

/-- A frame being received: its window, its SFD and end, its bytes and signal strength, and the supervision start it
replaced. -/
structure RadRx where
  win : RadListen
  sfd : Nat
  stop : Nat
  frame : List Byte
  rssi : Nat
  old : Nat
  deriving DecidableEq, Repr

/-- A port beside its registers: grid origin, beacons counted and the time of the last one, what is planned, on the air,
listened for and received, the end of the slot in progress, and the next stop burst and its time. -/
structure RadPort where
  origin : Nat
  beacons : Nat
  beaconAt : Nat
  plan : List RadPlan
  tx : Option RadTx
  listen : Option RadListen
  rx : Option RadRx
  busy : Nat
  burst : Nat
  burstAt : Nat
  txFrames : Nat
  rxGood : Nat
  rxBad : Nat
  rxDup : Nat
  preempted : Nat
  skipped : Nat
  stopFrames : Nat
  joins : Nat
  deriving DecidableEq, Repr

/-- A one-second bucket of a sub-band (R356): its second, ordinary and stop airtime in µs. -/
structure RadBucket where
  second : Nat
  ord : Nat
  stop : Nat
  deriving DecidableEq, Repr

/-- The radio: the edge count at its reset, the budget second and the edge at which it began, buckets and the LOW notice
by port and sub-band, and every frame sent: port, channel, stop rate or not, and its bytes. -/
structure RadSt where
  base : Nat
  order : Nat
  second : Nat
  secondAt : Nat
  ports : Tab RadPort
  assocs : Tab RadAssoc
  groups : Tab RadGroup
  buckets : Tab (List RadBucket)
  low : Tab Bool
  bursting : Bool
  out : List (Nat × Nat × Bool × List Byte)
  deriving DecidableEq, Repr

/-! ### Zone table (chapter 09) -/

/-- A command queued in ZON (R365): block address, class, arrival, the block as staged, and the token it came by. -/
structure ZonCmd where
  addr : Nat
  prio : Nat
  order : Nat
  blk : List Byte
  stamp : Option Stamp
  deriving DecidableEq, Repr

/-- An expanded entry (R369): cell and window. -/
structure ZonCell where
  x : Nat
  y : Nat
  a : Nat
  b : Nat
  deriving DecidableEq, Repr

/-- A live entry (R364): `txn` names the transaction of a PENDING entry (R382). -/
structure ZonEnt where
  frame : Nat
  x : Nat
  y : Nat
  a : Nat
  b : Nat
  owner : Nat
  track : Nat
  txn : Option Nat
  deriving DecidableEq, Repr

/-- A track record (R373, R376): TRACK_ID, frame, owner, the notice of its expiry, the
last slot of its entries, and the other members that hold some of them. -/
structure ZonTrack where
  id : Nat
  frame : Nat
  owner : Nat
  ep : Nat
  tag : Nat
  notice : Bool
  last : Nat
  remote : List Nat
  deriving DecidableEq, Repr

/-- A served command whose write-back is under way (R373): block address, its result, and its stamp. -/
structure ZonDone where
  addr : Nat
  blk : List Byte
  result : List Byte
  stamp : Option Stamp
  deriving DecidableEq, Repr

/-- A command that came by FORWARD, or that the Captain itself must spread (R382). -/
structure ZonFwd where
  origin : Nat
  addr : Nat
  blk : List Byte
  stamp : Option Stamp
  deriving DecidableEq, Repr

/-- The transaction the Captain serves (R382): members that have not voted, members that have not answered DONE, the
lowest conflict with its result bytes, the expansion, and whether the decision is made. -/
structure ZonTxn where
  num : Nat
  fwd : ZonFwd
  cells : List ZonCell
  members : List Nat
  waiting : List Nat
  conflict : Option (Nat × List Byte)
  decided : Option Bool
  status : Nat
  time : Nat
  slot : Nat
  track : Nat
  deriving DecidableEq, Repr

/-- A transaction this member voted OK on and has no DECIDE for (R383): its number, since which edge, what it would do
(0 activate, 1 free a track, 2 free an owner), and whose. -/
structure ZonHeld where
  txn : Nat
  since : Nat
  kind : Nat
  frame : Nat
  owner : Nat
  track : Nat
  deriving DecidableEq, Repr

/-- Parts of a split ZON body gathered so far (R491): sender, OP, transaction and content. -/
structure ZonPart where
  src : Nat
  op : Nat
  txn : Nat
  content : List Byte
  deriving DecidableEq, Repr

structure ZonSt where
  queue : List ZonCmd
  order : Nat
  entries : List ZonEnt
  tracks : List ZonTrack
  gens : Tab Nat
  done : List ZonDone
  kept : List (Stamp × List Byte)
  copyA : Bool
  copyB : Bool
  forwarded : Option ZonCmd
  fwdQ : List ZonFwd
  txn : Option ZonTxn
  nextTxn : Nat
  decisions : List (Nat × Bool)
  held : List ZonHeld
  parts : List ZonPart
  rebuilding : Bool
  merging : List Nat
  deriving DecidableEq, Repr

/-! ### Bexlink (chapter 13) -/

/-- What the acknowledgement of a MIRROR message completes (R484, R485): an accepted item with its sequence number, a
commit, a cancelled record, a descriptor operation with its eight words (none: DELETE). Beside those, of the
acknowledgement of an UPDATE message and of a Scorebook item (with 256 times its record's SEQ): `ack` is its status, 255
while there is none. -/
inductive BxlAct where
  | item (w : JWrite) (seq : Nat)
  | commit (j : CommitJob)
  | cancel (inst flow seq : Nat)
  | desc (inst : Nat) (words : List Nat)
  | update (op txn status ack : Nat)
  | scb (ack : Nat)
  deriving DecidableEq, Repr

/-- A message not acknowledged (R480): when it was sent, the stamp it carries for a task, the REF of its report, and what
its acknowledgement completes. -/
structure BxlPend where
  msg : BxlMsg
  at' : Nat
  stamp : Option Stamp
  report : Option Nat
  act : Option BxlAct
  deriving DecidableEq, Repr

/-- One ordered pair of sender and destination (R480): the next number to send, the messages not acknowledged, and the
highest number accepted. -/
structure BxlPair where
  nextNum : Nat
  unacked : List BxlPend
  accepted : Nat
  deriving DecidableEq, Repr

/-- An entry of the Roster (R476). -/
structure RosterEnt where
  unit : Nat
  st : Nat
  ring : Nat
  buddy : Nat
  served : Nat
  deriving DecidableEq, Repr

/-- A toss record that has reached this module in Kickoff, and the port it came by (R473). -/
structure TossRec where
  port : Nat
  hops : Nat
  record : List Byte
  deriving DecidableEq, Repr

/-- One link's time exchange (R488): departure of the last TIME_T, the peer's stamp of its arrival, and departure and
arrival of the peer's own TIME_T, in 2^-8 tick. -/
structure BxlTime where
  t1 : Option Nat
  t2 : Option Nat
  t34 : Option (Nat × Nat)
  sentAt : Nat
  deriving DecidableEq, Repr

/-- The ring logic and message layer of Bexlink: control blocks sent (port, code, content) and toss records sent (port,
record), messages sent, the Roster, the edge of the last heartbeat by position. Of the Kickoff: tosses, since when. The
mirror of the partner (R484, R485): its position, its journal records, head, LAP and pointer count, the map from its
instances to local ones, its Zone table and track records by member. Completions that wait for a new Buddy, and those whose
acknowledgement is here; acknowledgements that wait for an earlier item's; the Buddy being given a fresh copy; the good exchanges in a row; when each port last trained; the newcomer and its west neighbour; members
that leave; when the last heartbeat went; link times; failed members whose guest flows are not known to be served; whether
LEAVE_REQ was sent; the time configuration sent last. -/
structure BxlSt where
  pairs : Tab BxlPair
  out : List BxlMsg
  ctl : List (Nat × Nat × Nat)
  tossOut : List (Nat × List Byte)
  roster : Tab RosterEnt
  beats : Tab Nat
  tosses : List TossRec
  toss0 : Option Nat
  partner : Option Nat
  guest : List JRec
  guestHead : Nat
  guestLap : Nat
  guestPtr : Nat
  guestMap : List (Nat × Nat)
  guestEnts : List (Nat × ZonEnt)
  guestTracks : List (Nat × ZonTrack)
  waiting : List BxlAct
  finish : List BxlAct
  ackHold : List (Nat × Nat × Nat)
  handover : Option Nat
  good : Nat
  trained : Tab Nat
  newcomer : Option (Nat × Nat)
  leaving : List Nat
  beatAt : Nat
  times : Tab BxlTime
  depends : List Nat
  leaveSent : Bool
  cfgSent : Nat × Nat × Nat
  deriving DecidableEq, Repr

/-! ### Machine functions (chapter 10) -/

/-- A function slot beside its registers: its newest raw value, the edge of the last refresh (or of ENABLE), whether the
source has refreshed since, the next tick's edge, and whether a tick sent has no answer yet (R403, R404, R410, R411). -/
structure MchSlot where
  raw : Int
  seenAt : Nat
  tick : Nat
  waiting : Bool
  deriving DecidableEq, Repr

/-- An analog channel: its samples, newest first (R419), whether FILT is outside its window, and its impact detector
(R420) with the hits of the bucket under way and of the last buckets, newest first. -/
structure MchAn where
  samples : List Nat
  outside : Bool
  base : Option Int
  armed : Bool
  dead : Nat
  bucket : Nat
  buckets : List Nat
  deriving DecidableEq, Repr

/-- A pulse input: the times, in 5 ns units, of the last counted edge and of the last counted edge that PERIOD times
(R422). -/
structure MchPi where
  lastEdge : Option Nat
  lastRise : Option Nat
  deriving DecidableEq, Repr

/-- A PWM generator: the start of its period in MCH cycles, and the periods since dither began (R423). -/
structure MchPw where
  start : Nat
  periods : Nat
  deriving DecidableEq, Repr

/-- MCH: slots, inputs and generators, the next sample edge of each analog group, the edges of the last output step and
of the last 10 ms bucket, and what fell due during a self-test slice (R417): output steps, and ticks as slot and token
data. -/
structure MchSt where
  slots : Tab MchSlot
  an : Tab MchAn
  pi : Tab MchPi
  pw : Tab MchPw
  groups : Tab Nat
  stepAt : Nat
  bucketAt : Nat
  lateSteps : Nat
  lateTicks : List (Nat × Nat)
  deriving DecidableEq, Repr

/-! ### Tally (chapter 11) -/

/-- The pair last counted from a flow in a flow slot (R437): flow, sequence number, output index. -/
structure TalPair where
  flow : Nat
  seq : Nat
  index : Nat
  deriving DecidableEq, Repr

/-- An accumulator beside its registers: the residue of R428, cycles counted towards the next latch, the pulse count at the
last mark, the latch that is due (its edge, and the time of the N-th cycle), the edge of the last latch, the pair of each
flow slot, the stamps counted and not in a save, whether a CHECKPOINT is owed and since when, the temperature written and
when, and the phase P. -/
structure TalAcc where
  rho : Nat
  cycles : Nat
  lastCount : Nat
  latch : Option (Nat × Nat)
  latchedAt : Option Nat
  pairs : Tab TalPair
  stamps : List Stamp
  owed : Option Nat
  temp : Nat
  tempAt : Nat
  phase : Int
  clear : Bool
  deriving DecidableEq, Repr

/-- A save under way (R438): its accumulator, record bytes, and the stamps it holds. -/
structure TalSave where
  acc : Nat
  bytes : List Byte
  slot : Nat
  stamps : List Stamp
  deriving DecidableEq, Repr

/-- A pulse output (R442, R443): NET at ENABLE, the direction and end edge of the pulse under way, the edge up to which
the gap runs, the direction driven on PDIR, and EMITTED in full. -/
structure TalPo where
  net0 : Int
  emitted : Int
  upto : Option Nat
  gap : Nat
  rev : Bool
  deriving DecidableEq, Repr

/-- TAL: accumulators, saves under way, pulse outputs, whether PWRFAIL is asserted at TAL, the edges of the next PARTIAL
save and of the last lag step, and, for the loss bound of R440, the QMAX, C and N in force at the last save of each
accumulator, which outlive a reset (log entry 41). -/
structure TalSt where
  accs : Tab TalAcc
  saves : List TalSave
  pos : Tab TalPo
  pwrfail : Bool
  partialAt : Nat
  lagAt : Nat
  bounds : Tab (Nat × Nat × Nat)
  deriving DecidableEq, Repr

/-! ### CAN (chapter 12) -/

/-- A transmit buffer (R457): the frame, its class, order and reference, the address of its block, its stamp, attempts and
clashes in a row, whether an earlier attempt may have left (R463), and whether a cancel came too late (R461). -/
structure CanBuf where
  prio : Nat
  order : Nat
  frame : CanFrame
  oneShot : Bool
  report : Bool
  ref : Nat
  block : Option Nat
  stamp : Option Stamp
  attempts : Nat
  clashes : Nat
  maybe : Bool
  late : Bool
  deriving DecidableEq, Repr

/-- The attempt under way: its buffer's order, and the CAN cycle that holds the sample point of the last arbitration bit
(R461). -/
structure CanRun where
  order : Nat
  point : Nat
  deriving DecidableEq, Repr

/-- A controller beside its registers: buffers, the attempt under way, whether ENABLE was cleared and the frame in progress
still runs (R460), the error counters, and the counters of R466. -/
structure CanCtl where
  bufs : List CanBuf
  order : Nat
  run : Option CanRun
  closing : Bool
  tec : Nat
  rcv : Nat
  rxOk : Nat
  txOk : Nat
  rxDropped : Nat
  errFrames : Nat
  arbLost : Nat
  busOffs : Nat
  clashes : Nat
  pxe : Nat
  deriving DecidableEq, Repr

/-- A receive object's own copy (R451, R452): NEW, LOST, and bytes 4 to 87 of its record. -/
structure CanObj where
  isNew : Bool
  lost : Bool
  bytes : List Byte
  deriving DecidableEq, Repr

/-- CAN: controllers and objects, the items of the journal that no queue owns any more (flow and sequence number), the
attempt records in MRAM without an outcome (R463), and every frame sent: controller and frame. -/
structure CanSt where
  ctl : Tab CanCtl
  obj : Tab CanObj
  old : List (Nat × Nat)
  tries : List Stamp
  out : List (Nat × CanFrame)
  deriving DecidableEq, Repr

/-! ### Whistle (chapter 09) -/

/-- The Whistle beside its registers (R386 to R397): how the last arm ended (0 no arm, 1 armed, 2 expired, 3 cleared by a
raise), whether RELEASE rather than ARM is in progress, the members asked and not yet answered, whether any was not ready
or stayed latched, the edges at which ARM completed, the latch set and the last raise came, that raise's source and
reason, since which edge the two inputs disagree, RELEASE_SEQ, the STOP blocks seen as origin and STOP_ID, and the outputs
whose read-back differs from the commanded level. -/
structure StopSt where
  arm : Nat
  releasing : Bool
  asked : List Nat
  notReady : Bool
  armedAt : Nat
  latchedAt : Option Nat
  raisedAt : Option Nat
  lastRaise : Nat × Nat
  disagree : Option Nat
  releaseSeq : Nat
  seen : List (Nat × Nat)
  mismatch : List Nat
  deriving DecidableEq, Repr

/-- The whole device. `pending` is the queue of commands and `fresh` the model's own count of free values (log entry 4).
`answer` is the status the last command was answered with (R39) and `data` what a read returned. `regs` is the register
file: every field of every register, at its reset value where nothing is listed. `mem` is the memory of R22. `holdLow` and
`holdHigh` are the holding words of R13. `held` waits for islands that are GATED or in SELFTEST (R31, R534); `idleSince` is
the edge at which an island became IDLE (R30). `sent` and `qsent` are tokens and queue words under way, oldest first;
`stamps` the stamps each endpoint island keeps of what it accepted (R56). `ejecting`: an orderly removal is under way (R571).
`trapPend`: islands of which a trap or a fault is on its way to REF (R62). The other fields are the islands' own state. -/
structure State where
  pending : List Instr
  fresh : Nat
  answer : Nat
  data : Nat
  regs : Tab Nat
  mem : List Host.Cell
  holdLow : List Half
  holdHigh : List Half
  held : List HeldReq
  idleSince : Tab Nat
  sent : List Token
  qsent : List QWord
  stamps : Tab (List Stamp)
  memc : MemSt
  eng : Tab EngSt
  dug : DugSt
  que : Tab Queue
  tim : TimSt
  scb : ScbSt
  bxl : BxlSt
  smp : Tab SmpPort
  gbb : GbbSt
  gob : GobSt
  pos : PosSt
  eth : EthSt
  rad : RadSt
  zon : ZonSt
  mch : MchSt
  tal : TalSt
  can : CanSt
  stop : StopSt
  upd : UpdSt
  bst : BstSt
  cell : LastBreath
  boot : BootSt
  hst : HstSt
  lib : LibSt
  ejecting : Bool
  trapPend : List Nat
  deriving DecidableEq, Repr

/-! ### Reset (R573, R574) -/

/-- UPD before its journal is read. -/
def UpdSt.reset : UpdSt :=
  { seq := 0, flags := 0, elapsed := 0, newBlocks := 0, oldBlocks := 0, members := 0, digest := [], writing := none,
    pieces := [], waiting := [], vote := 0, epoch := 0, swapped := [], healthy := [], decisions := [], recording := none,
    restartAt := none, since := 0, secondAt := 0, halted := false, trial := false, keys := [[], [], [], []] }

def ScbSt.reset : ScbSt :=
  { writing := none, first := [], staged := [], dropCount := 0, dropFirst := 0, dropLast := 0, live := [], wait := none,
    send := none, main := false }

def BstSt.reset : BstSt :=
  { run := none, began := 0, next := 0, roundAt := 0, again := [], last := [], aborts := [], done := [], missed := [] }

def LastBreath.reset : LastBreath :=
  { valid := false, kind := 0, isl := 0, status := 0, cause := 0, dropped := 0, time := 0, lastTime := 0, failMap := 0,
    lastHeader := [], lastArg0 := 0 }

def BootSt.reset : BootSt :=
  { restored := false, held := true, converters := true, holding := none, stay := false, cap := none, thermal := none, safe := false,
    checkpoint := false, reportAt := 0 }

def HstSt.reset : HstSt :=
  { ifs := [], out := [], msix := [], uart := [], perst := false, master := false, notices := 0, ring := [] }

def LibSt.reset : LibSt :=
  { cfg := [], modes := 0, reports := 0, nextReport := 0, corr := [], cut := 0, discarded := 0, skipped := 0, robots := [] }

def GobSt.reset : GobSt :=
  { target := none, soft := none, floating := none, stack := [], due := 0, dueStep := false, nextStack := 1,
    lastEdge := none, num := 0, restarted := true, fill := none, navSeq := [], bcast := [], estAt := [] }

/-- Device time starts at 0, UNSET (R290, R296); the slew limit is that of TIM's reset register, 10,000 ppb. -/
def TimSt.reset : TimSt :=
  { time48 := 0, edges := 0, qst := 0, slew48 := 0, mag := 10000 * 2 ^ 48 / 10 ^ 9, stepLeft := 0, stepPhase := 0,
    stepFirst := false, lastCorr := 0, holdAt := 0, before := 0, leapIns := none, markAt := 0, caps := [], pins := [] }

def BxlSt.reset : BxlSt :=
  { pairs := [], out := [], ctl := [], tossOut := [], roster := [], beats := [], tosses := [], toss0 := none,
    partner := none, guest := [], guestHead := 0, guestLap := 0, guestPtr := 0, guestMap := [], guestEnts := [],
    guestTracks := [], waiting := [], finish := [], ackHold := [], handover := none, good := 0, trained := [],
    newcomer := none, leaving := [], beatAt := 0, times := [], depends := [], leaveSent := false, cfgSent := (0, 0, 0) }

/-- The latch is set at reset (R393); the STOP inputs are low until they are driven (R561). -/
def StopSt.reset : StopSt :=
  { arm := 0, releasing := false, asked := [], notReady := false, armedAt := 0, latchedAt := none, raisedAt := none,
    lastRaise := (0, 0), disagree := none, releaseSeq := 0, seen := [], mismatch := [] }

/-- The module right after its first reset, a power-on (R573, R574), before that reset is released: every register at its
reset value, nothing in memory, no command waiting. -/
def State.reset : State :=
  { pending := [], fresh := 0, answer := 0, data := 0
    regs := Tab.set regReset [] SYS_RESET_CAUSE_CAUSE.key 1
    mem := [], holdLow := [], holdHigh := [], held := [], idleSince := [], sent := [], qsent := [], stamps := []
    memc := { failA := false, failB := false, live := [], head := 0, lap := 0, tail := 0, tailLap := 0, ptrSeq := 0,
              itemWrites := [], commitJobs := [] }
    eng := []
    dug := { inst := [], templ := [], spill := [], spillSeq := 0, spillRd := 0, freed := [], clock := 0, flows := [],
             lastDispatch := 0 }
    que := [], tim := TimSt.reset, scb := ScbSt.reset, bxl := BxlSt.reset, smp := []
    gbb := { chan := [], srch := [], vecs := [], lastApply := none, order := 0 }
    gob := GobSt.reset, pos := { queue := [], active := [], order := 0 }, eth := { ports := [], out := [] }
    rad := { base := 0, order := 0, second := 0, secondAt := 0, ports := [], assocs := [], groups := [], buckets := [],
             low := [], bursting := false, out := [] }
    zon := { queue := [], order := 0, entries := [], tracks := [], gens := [], done := [], kept := [], copyA := true,
             copyB := true, forwarded := none, fwdQ := [], txn := none, nextTxn := 0, decisions := [], held := [],
             parts := [], rebuilding := false, merging := [] }
    mch := { slots := [], an := [], pi := [], pw := [], groups := [], stepAt := 0, bucketAt := 0, lateSteps := 0,
             lateTicks := [] }
    tal := { accs := [], saves := [], pos := [], pwrfail := false, partialAt := 0, lagAt := 0, bounds := [] }
    can := { ctl := [], obj := [], old := [], tries := [], out := [] }
    stop := StopSt.reset, upd := UpdSt.reset, bst := BstSt.reset, cell := LastBreath.reset, boot := BootSt.reset
    hst := HstSt.reset, lib := LibSt.reset, ejecting := false, trapPend := [] }

end Sys2Proof.Machine
end

