-- ==== Sys2Proof/Machine/Ops.lean ====
section
/-! DEFINITION. The named operations over the state that every family uses: register fields, memory, device time, tokens
and notices, refused-access records, island activity, Scorebook staging. -/

namespace Sys2Proof.Machine

/-- The outcome of a command. -/
abbrev Res := Host.Outcome State Fault Refusal

/-! ### Status codes (R39) -/

def cOK : Nat := 0x00
def cLENGTH : Nat := 0x01
def cRANGE : Nat := 0x02
def cBUSY : Nat := 0x03
def cCANCELLED : Nat := 0x04
def cTOO_LATE : Nat := 0x05
def cDUPLICATE : Nat := 0x06
def cAUTH : Nat := 0x07
def cFENCED : Nat := 0x08
def cTIMEOUT : Nat := 0x09
def cOVERRUN : Nat := 0x0A
def cNOT_OWNER : Nat := 0x0B
def cCONFLICT : Nat := 0x0C
def cID_CLASH : Nat := 0x0D
def cSETTINGS : Nat := 0x0E
def cLOGFAIL : Nat := 0x0F
def cNO_ROUTE : Nat := 0x10
def cINTEGRITY : Nat := 0x11
def cSTOPPED : Nat := 0x12
def cROLLBACK : Nat := 0x13
def cNOT_FOUND : Nat := 0x14

/-! ### Island IDs (R20) -/

def iSYS : Nat := 0x00
def iPWR : Nat := 0x01
def iREF : Nat := 0x02
def iBST : Nat := 0x03
def iSCB : Nat := 0x04
def iUPD : Nat := 0x05
def iTIM : Nat := 0x06
def iDUG : Nat := 0x07
def iQUE : Nat := 0x08
def iENG (n : Nat) : Nat := 0x10 + n
def iGBB : Nat := 0x20
def iGOB : Nat := 0x21
def iPOS : Nat := 0x22
def iRAD : Nat := 0x23
def iZON : Nat := 0x24
def iMCH : Nat := 0x25
def iTAL : Nat := 0x26
def iCAN : Nat := 0x27
def iETH : Nat := 0x28
def iBXL : Nat := 0x29
def iHST : Nat := 0x2A
def iMEM : Nat := 0x2B
def iSMP (n : Nat) : Nat := 0x2C + n

/-- The endpoint of a port of an island (R125). -/
def ep (isl port : Nat) : Nat := isl * 0x400 + port

/-- The island of an endpoint (R125). -/
def epIsl (e : Nat) : Nat := e / 0x400

/-- The port of an endpoint (R125). -/
def epPort (e : Nat) : Nat := e % 0x400

/-! ### Registers -/

/-- A field of the register file. -/
def State.f (s : State) (r : RF) : Nat := s.regs.get regReset r.key

/-- A one-bit field of the register file. -/
def State.on (s : State) (r : RF) : Bool := s.f r == 1

/-- Set a field of the register file, cut to its width. -/
def State.setF (s : State) (r : RF) (v : Nat) : State :=
  { s with regs := s.regs.set regReset r.key (v % 2 ^ r.len) }

/-- One more on a statistics counter (R45). -/
def State.inc (s : State) (r : RF) : State := s.setF r (satInc r.len (s.f r))

/-- A sum on a statistics counter (R45). -/
def State.addF (s : State) (r : RF) (k : Nat) : State := s.setF r (satAdd r.len (s.f r) k)

/-- One more on a sequence number or event counter (R45). -/
def State.incW (s : State) (r : RF) : State := s.setF r (wrapInc r.len (s.f r))

/-- Every register of island i back at its reset value (R30, R540). -/
def State.resetRegs (s : State) (i : Nat) : State :=
  { s with regs := s.regs.filter (fun e =>
      !(decide (e.1 / 64 / 0x10000 = 0x20000 + i) || (i == 0x20 && decide (e.1 / 64 / 0x20000 = 0x18000)))) }

/-! ### Memory (R22) -/

/-- What a byte that nothing has written reads as. DESIGN CHOICE (log entry 1): 0. -/
def memDefault (_ : Nat) : Byte := 0

/-- The canonical form of memory: addresses strictly rise, and no listed byte is what an unlisted one reads as. -/
def Memory.wf (m : List Host.Cell) : Bool := Tab.wf memDefault m

def State.rdB (s : State) (a : Nat) : Byte := Tab.get memDefault s.mem a

def State.wrB (s : State) (a : Nat) (b : Byte) : State := { s with mem := Tab.set memDefault s.mem a b }

/-- n bytes from address a, ascending. -/
def State.rdBytes (s : State) (a : Nat) : Nat → List Byte
  | 0 => []
  | n + 1 => s.rdB a :: State.rdBytes s (a + 1) n

/-- Store a string of bytes from address a on. -/
def State.wrBytes (s : State) (a : Nat) : List Byte → State
  | [] => s
  | b :: bs => State.wrBytes (s.wrB a b) (a + 1) bs

/-- An n-byte little-endian value in memory (R12). -/
def State.rd (s : State) (a n : Nat) : Nat := leValue (s.rdBytes a n)

/-- Store an n-byte little-endian value (R12). -/
def State.wr (s : State) (a n v : Nat) : State := s.wrBytes a (leBytes n v)

/-! ### Device time -/

/-- Integer device time in SREF ticks (R290). -/
def State.now (s : State) : Nat := s.tim.time48 / 2 ^ 48 % 2 ^ 64

/-! ### Free values -/

/-- A value of w bits that the spec leaves open, fresh at each use (log entry 4). -/
def State.free (s : State) (w : Nat) : Nat × State :=
  ((Config.freeWord w s.fresh).toNat, { s with fresh := s.fresh + 1 })

/-! ### Answers, tokens, notices -/

/-- The status answered to the command's sender. -/
def State.ans (s : State) (code : Nat) : State := { s with answer := code }

/-- The value a read returns to the command's sender, with its status. -/
def State.reply (s : State) (code v : Nat) : State := { s with answer := code, data := v }

/-- A token leaves an island for the fabric. -/
def State.send (s : State) (t : Token) : State := { s with sent := s.sent ++ [t] }

/-- A queue word leaves an island producer or an engine for QUE (R163). -/
def State.sendQ (s : State) (w : QWord) : State := { s with qsent := s.qsent ++ [w] }

/-- The tag of a notice: the configured tag with NOTICE set, and STATUS where it carries a status (R127). -/
def noticeTag (tag : Nat) (status : Bool) : Nat := (tag ||| 2 ^ 27) ||| (if status then 2 ^ 28 else 0)

/-- An island sends a notice (R127). -/
def State.notice (s : State) (src dest tag data : Nat) (status : Bool) : State :=
  s.send ⟨dest, noticeTag tag status, data, src, none, none⟩

/-! ### Refused accesses (R23, R34, R35) -/

/-- Record a refused access at the island that owns the address: the first is captured, every one is counted. -/
def State.refuse (s : State) (isl addr req : Nat) (write : Bool) (code : Nat) : State :=
  let s :=
    if s.on (ISL_REFUSE_INFO_VALID isl) then s
    else ((((s.setF (ISL_REFUSE_ADDR_ADDR isl) addr).setF (ISL_REFUSE_INFO_VALID isl) 1).setF
      (ISL_REFUSE_INFO_WRITE isl) (b2n write)).setF (ISL_REFUSE_INFO_REQUESTER isl) req).setF
      (ISL_REFUSE_INFO_STATUS isl) code
  s.inc (ISL_REFUSE_COUNT_COUNT isl)

/-! ### Island states (R30 to R33) -/

/-- PSTATE.STATE of an island (R30): 0 OFF, 1 GATED, 2 IDLE, 3 ON, 4 SELFTEST, 5 FENCED. -/
def State.ist (s : State) (isl : Nat) : Nat := s.f (ISL_PSTATE_STATE isl)

/-- The islands that never enter OFF or GATED (R32). -/
def neverGates (isl : Nat) : Bool := [iPWR, iREF, iTIM, iDUG, iQUE, iSYS, iMEM].contains isl

/-- An island has served a request: with gating allowed it is IDLE from now, otherwise ON (R30). DESIGN CHOICE (log
entry 6): the work of a command ends with the command. -/
def State.touch (s : State) (isl : Nat) : State :=
  if s.ist isl = 2 ∨ s.ist isl = 3 then
    let s := { s with idleSince := Tab.set (fun _ => 0) s.idleSince isl s.now }
    s.setF (ISL_PSTATE_STATE isl) (if s.f (ISL_PSTATE_REQ isl) = 2 then 2 else 3)
  else s

/-- Whether an island holds what arrives for it: it is GATED (R31) or in SELFTEST (R531). -/
def State.holds (s : State) (isl : Nat) : Bool := s.ist isl == 1 || s.ist isl == 4

/-! ### Scorebook staging (R545, R547) -/

/-- The first 20 bytes of a record (R543). -/
def scbHead (r : ScbRec) (seq member : Nat) : List Byte :=
  leBytes 2 (24 + r.body.length) ++ leBytes 2 r.typ ++ leBytes 4 seq ++ leBytes 8 r.time ++ leBytes 1 r.status ++
    leBytes 1 (b2n r.software) ++ leBytes 1 member ++ leBytes 1 0

/-- Once LOGFAIL is set an event is lost and shows in the last-breath cell (R554). It has no number: its SEQ is open. -/
def State.cellEvent (s : State) (r : ScbRec) : State :=
  let n := s.free 32
  { n.2 with cell := { n.2.cell with
      dropped := satInc 32 n.2.cell.dropped
      lastTime := r.time
      lastHeader := scbHead r n.1 (n.2.f BXL_STATUS_POSITION)
      lastArg0 := leValue (r.body.take 8) } }

/-- An island stages a record with SCB: it starts at once when none is under way, waits in one of the 64 entries, or is
dropped and counted. Until start-up reaches RESTORE, when SCB writes BOOT (R555), everything waits. Nothing is written any
more once LOGFAIL is set (R554); SCB off or fenced takes nothing. -/
def State.stageRec (s : State) (r : ScbRec) : State :=
  if s.ist iSCB = 5 ∨ s.ist iSCB = 0 then s
  else if s.on SCB_STATUS_LOGFAIL then s.cellEvent r
  else if s.scb.writing = none ∧ s.scb.first = [] ∧ s.boot.restored = true then { s with scb := { s.scb with writing := some r } }
  else if s.scb.staged.length < 64 then { s with scb := { s.scb with staged := s.scb.staged ++ [r] } }
  else
    { s with scb := { s.scb with
        dropCount := s.scb.dropCount + 1
        dropFirst := if s.scb.dropCount = 0 then r.time else s.scb.dropFirst
        dropLast := r.time } }.inc SCB_DROPPED_COUNT

/-- Stage a device record of 8-byte words (R543, R544), of an event whose STATUS a rule gives. -/
def State.stageAs (s : State) (typ status : Nat) (args : List Nat) : State :=
  s.stageRec ⟨typ, s.now, status, false, args.flatMap (leBytes 8)⟩

/-- Stage a device record. The spec gives its STATUS for TYPE 0x0206 alone: it is open (log entry 44). -/
def State.stage (s : State) (typ : Nat) (args : List Nat) : State :=
  let c := s.free 8
  c.2.stageAs typ c.1 args

/-! ### Bexlink messages (R478, R480) -/

/-- A pair that has exchanged nothing (R480: numbering starts at 1). -/
def BxlPair.fresh : BxlPair := ⟨1, [], 0⟩

/-- Send a numbered message to a member: it takes the pair's next number and stays until it is acknowledged; the
seventeenth and later ones not acknowledged wait before they leave. -/
def State.bxlSendWith (s : State) (dst kind prio : Nat) (body : List Byte) (stamp : Option Stamp) (report : Option Nat)
    (act : Option BxlAct) : State :=
  let p := Tab.get (fun _ => BxlPair.fresh) s.bxl.pairs dst
  let m : BxlMsg := ⟨kind, prio, s.f BXL_STATUS_POSITION, dst, s.f BXL_STATUS_EPOCH, p.nextNum, body⟩
  { s with bxl := { s.bxl with
      pairs := Tab.set (fun _ => BxlPair.fresh) s.bxl.pairs dst
        { p with nextNum := wrapInc 32 p.nextNum, unacked := p.unacked ++ [⟨m, s.tim.edges, stamp, report, act⟩] }
      out := if p.unacked.length < 16 then s.bxl.out ++ [m] else s.bxl.out } }

/-- Send a message of the module's own. -/
def State.bxlSend (s : State) (dst kind prio : Nat) (body : List Byte) : State :=
  s.bxlSendWith dst kind prio body none none none

/-- Send an ACK message (R479), which has no number of its own. -/
def State.bxlAck (s : State) (dst num status : Nat) : State :=
  { s with bxl := { s.bxl with out := s.bxl.out ++
      [⟨0x01, 0, s.f BXL_STATUS_POSITION, dst, s.f BXL_STATUS_EPOCH, 0,
        leBytes 4 num ++ leBytes 1 status ++ leBytes 3 0⟩] } }

/-- A Roster entry that nothing has filled (R476). -/
def RosterEnt.none : RosterEnt := ⟨0, 0, 0, 0xFF, 0⟩

def State.ros (s : State) (p : Nat) : RosterEnt := Tab.get (fun _ => RosterEnt.none) s.bxl.roster p

/-- Whether this module is a member of a stack of two or more (R475, R476): of the entries MEMBER and LEAVING. -/
def State.inStack (s : State) : Bool :=
  decide (2 ≤ ((List.range 16).filter (fun p => (s.ros p).st == 1 || (s.ros p).st == 3)).length)

end Sys2Proof.Machine
end

