-- ==== Sys2Proof/Machine/Journal.lean ====
section
/-! DEFINITION. The journal (R47 to R56, R588, R589): records and their bytes in both MRAM copies, the ring, the
retention area, and the writes under way. -/

namespace Sys2Proof.Machine

/-- Bytes of the ring in each copy (R54). -/
def jRing : Nat := 0x1F8000

/-- Write a string to the same offset of two regions, one on each MRAM device, the failed device left out (R24, R47). -/
def State.copyAB (s : State) (a b : Nat) (bs : List Byte) : State :=
  let s := if s.memc.failA then s else s.wrBytes a bs
  if s.memc.failB then s else s.wrBytes b bs

/-- Write to both journal copies at an offset (R24). -/
def State.jWrite (s : State) (off : Nat) (bs : List Byte) : State :=
  s.copyAB (0x0400000000 + off) (0x0400800000 + off) bs

/-- The address of an offset in the journal copy that reads use (R47). -/
def State.jAddr (s : State) (off : Nat) : Nat :=
  (if s.memc.failA then 0x0400800000 else 0x0400000000) + off

/-- The bytes of one output entry (R589). -/
def Out.bytes (o : Out) : List Byte :=
  leBytes 2 o.dest ++ leBytes 1 o.typ ++ leBytes 1 o.prio ++ leBytes 4 o.tag ++ leBytes 8 o.data

/-- The body of a record: an item's payload or a commit's outputs, filled up to the record's length. DESIGN CHOICE (log
entry 9): bytes of the body beyond the payload are written as 0. -/
def JRec.body (r : JRec) : List Byte :=
  let b := if r.kind = 2 then r.outs.flatMap Out.bytes else r.payload
  b ++ List.replicate (r.len - 32 - b.length) 0

/-- Bytes 0 to 25 of a record's header (R50). -/
def JRec.head (r : JRec) : List Byte :=
  leBytes 2 r.len ++ leBytes 1 (r.kind + r.prio * 8 + r.lap * 128) ++ leBytes 1 r.source ++
    leBytes 2 (r.flow % 4096 + r.slot * 4096) ++ leBytes 2 r.task ++ leBytes 4 r.seq ++ leBytes 4 r.sref ++
    leBytes 8 r.time ++ leBytes 2 (if r.kind = 2 then r.outs.length else 0)

/-- CHECK of a record: over every other byte, with RELEASED taken as 0 (R50). -/
def JRec.check (r : JRec) : Nat := crc32c (r.head ++ leBytes 2 0 ++ r.body)

/-- The bytes of a record (R50). -/
def JRec.bytes (r : JRec) : List Byte :=
  r.head ++ leBytes 2 r.released ++ leBytes 4 r.check ++ r.body

/-- Bytes of the ring between tail and head. -/
def MemSt.used (m : MemSt) : Nat := (m.live.map JRec.len).sum

/-- Item records whose commit or cancelled record is not yet written (R53). -/
def MemSt.pendingItems (m : MemSt) : List JRec := m.live.filter (fun r => r.kind == 1 && !r.retired)

/-- The length of an item record with n payload bytes (R50). -/
def itemLen (n : Nat) : Nat := roundUp 32 (32 + n)

/-- The bytes a record of n bytes takes at the head, a pad record before it included (R588). -/
def MemSt.cost (m : MemSt) (n : Nat) : Nat :=
  if m.head + n ≤ jRing then n else (jRing - m.head) + n

/-- Whether the ring has room for an item record of n bytes, with every reservation of R53, the items already waiting
for their write included. -/
def MemSt.room (m : MemSt) (n : Nat) : Bool :=
  let waiting := (m.itemWrites.map (fun w => itemLen w.payload.length)).sum
  decide (m.used + waiting + m.cost n + 288 * (m.pendingItems.length + m.itemWrites.length + 1) + 992 ≤ jRing)

/-- Put a record at the head, after a pad record where it does not fit before the end of the ring (R588). -/
def State.append (s : State) (r : JRec) : State :=
  let m := s.memc
  let fits := decide (m.head + r.len ≤ jRing)
  let padLen := jRing - m.head
  let pad : JRec := ⟨m.head, padLen, m.lap, 4, 0, 0, 0, 0, 0, 0, 0, s.now, [], 0, [], [], true⟩
  let s := if fits || padLen == 0 then s else s.jWrite m.head pad.bytes
  let live := if fits || padLen == 0 then m.live else m.live ++ [pad]
  let off := if fits then m.head else 0
  let lap := if fits then m.lap else 1 - m.lap
  let r := { r with off := off, lap := lap }
  let s := s.jWrite off r.bytes
  let wrap := off + r.len == jRing
  { s with memc := { s.memc with
      live := live ++ [r]
      head := if wrap then 0 else off + r.len
      lap := if wrap then 1 - lap else lap } }

/-- Drop the leading retired records. -/
def dropRetired : List JRec → List JRec
  | [] => []
  | r :: rs => if r.retired then dropRetired rs else r :: rs

/-- Advance the tail past retired records and write the ring pointer block when it moved (R54, R588). DESIGN CHOICE
(log entry 10): the recorded tail does not lag. -/
def State.tailAdvance (s : State) : State :=
  let live := dropRetired s.memc.live
  let tail := match live with | [] => s.memc.head | r :: _ => r.off
  let lap := match live with | [] => s.memc.lap | r :: _ => r.lap
  if live.length = s.memc.live.length then s
  else
    let seq := s.memc.ptrSeq
    let b := leBytes 4 tail ++ leBytes 1 lap ++ leBytes 3 0 ++ leBytes 4 seq
    let s := s.jWrite (0x1F8500 + seq % 2 * 16) (b ++ leBytes 4 (crc32c b))
    { s with memc := { s.memc with
        live := live, tail := tail, tailLap := lap, ptrSeq := wrapInc 32 seq } }

/-! ### The partner's records (R484, R485, R492)

Flow f of a partner is flow 4096 + f here; its records lie in the mirror area, which has the layout of a journal copy. -/

/-- Whether a flow index is of the guest flow table. -/
def guestFlow (f : Nat) : Bool := decide (4096 ≤ f)

/-- The address of an offset in the mirror area (R24). -/
def mirrorAddr (off : Nat) : Nat := 0x0400400000 + off

/-- Write to the mirror area, on MRAM-A. -/
def State.mirrorWrite (s : State) (off : Nat) (bs : List Byte) : State :=
  if s.memc.failA then s else s.wrBytes (mirrorAddr off) bs

/-- Every live record, of the journal and of the mirror. -/
def State.recs (s : State) : List JRec := s.memc.live ++ s.bxl.guest

/-- Change live records, of the journal and of the mirror. -/
def State.mapRecs (s : State) (f : JRec → JRec) : State :=
  { s with memc := { s.memc with live := s.memc.live.map f }, bxl := { s.bxl with guest := s.bxl.guest.map f } }

/-- The address of a record. -/
def State.recAddr (s : State) (r : JRec) : Nat := if guestFlow r.flow then mirrorAddr r.off else s.jAddr r.off

/-- Write in place into a record. -/
def State.recWrite (s : State) (r : JRec) (o : Nat) (bs : List Byte) : State :=
  if guestFlow r.flow then s.mirrorWrite (r.off + o) bs else s.jWrite (r.off + o) bs

/-- A retention entry in the mirror area. -/
def State.mirrorRetain (s : State) (off : Nat) (b : List Byte) : State :=
  s.mirrorWrite (0x1F8000 + off) (b ++ leBytes 4 (crc32c b))

/-- The mirror's tail advances (R588). -/
def State.guestTail (s : State) : State :=
  let l := dropRetired s.bxl.guest
  if l.length = s.bxl.guest.length then s
  else
    let t := match l with | [] => (s.bxl.guestHead, s.bxl.guestLap) | r :: _ => (r.off, r.lap)
    let seq := s.bxl.guestPtr
    let s := s.mirrorRetain (0x500 + seq % 2 * 16) (leBytes 4 t.1 ++ leBytes 1 t.2 ++ leBytes 3 0 ++ leBytes 4 seq)
    { s with bxl := { s.bxl with guest := l, guestPtr := wrapInc 32 seq } }

/-- Put a record at an offset of the mirror: what it overwrites is gone, and the head follows it. -/
def State.guestPut (s : State) (r : JRec) : State :=
  let s := s.mirrorWrite r.off r.bytes
  let keep := s.bxl.guest.filter (fun x => decide (x.off + x.len ≤ r.off) || decide (r.off + r.len ≤ x.off))
  let wrap := r.off + r.len == jRing
  { s with bxl := { s.bxl with
      guest := keep ++ [r]
      guestHead := if wrap then 0 else r.off + r.len
      guestLap := if wrap then 1 - r.lap else r.lap } }

/-- A guest flow's record goes to the mirror's head (R492). -/
def State.guestAppend (s : State) (r : JRec) : State :=
  let h := s.bxl.guestHead
  let l := s.bxl.guestLap
  if h + r.len ≤ jRing then s.guestPut { r with off := h, lap := l }
  else
    let s := s.guestPut ⟨h, jRing - h, l, 4, 0, 0, 4096, 0, 0, 0, 0, s.now, [], 0, [], [], true⟩
    s.guestPut { r with off := 0, lap := 1 - l }

/-- Mark the item record of a flow and sequence number retired: its commit or cancelled record is valid (R588). -/
def State.retireItem (s : State) (flow seq : Nat) : State :=
  s.mapRecs (fun (r : JRec) => if r.kind = 1 ∧ r.flow = flow ∧ r.seq = seq then { r with retired := true } else r)

/-- The live item record of a flow and sequence number. -/
def State.itemRec (s : State) (flow seq : Nat) : Option JRec :=
  s.recs.find? (fun r => r.kind == 1 && r.flow == flow && r.seq == seq)

/-- The body of a MIRROR message that carries a record (R484). -/
def mirrorBody (r : JRec) : List Byte := leBytes 1 1 ++ leBytes 3 0 ++ leBytes 4 r.off ++ r.bytes

/-- Send a record to the Buddy (R484), in a stack. -/
def State.mirrorRec (s : State) (r : JRec) : State :=
  if s.inStack && s.on BXL_GUEST_HAS_BUDDY then s.bxlSend (s.f BXL_STATUS_BUDDY_POS) 0x04 0 (mirrorBody r) else s

/-- The record that was written last. -/
def State.lastRec (s : State) : Option JRec := s.memc.live.getLast?

/-- Write a record; a pad record before it is mirrored. -/
def State.writeRec (s : State) (r : JRec) : State :=
  if guestFlow r.flow then (s.guestAppend r).guestTail
  else
    let n := s.memc.live.length
    let s := s.append r
    ((s.memc.live.drop n).dropLast).foldl (fun s p => s.mirrorRec p) s

/-- The record written last goes to the Buddy, whose acknowledgement completes `act` (R484): true when that has to be
awaited. A standalone module and a guest flow's records need none. The tail follows. -/
def State.mirrorStart (s : State) (flow : Nat) (act : BxlAct) : Bool × State :=
  if guestFlow flow || !s.inStack then (false, s.tailAdvance)
  else if s.on BXL_GUEST_HAS_BUDDY = false then (true, { s with bxl := { s.bxl with waiting := s.bxl.waiting ++ [act] } })
  else match s.lastRec with
    | some r => (true, (s.bxlSendWith (s.f BXL_STATUS_BUDDY_POS) 0x04 0 (mirrorBody r) none none (some act)).tailAdvance)
    | none => (false, s)

/-- What still waits for an acknowledgement of the Buddy. -/
def State.acts (s : State) : List BxlAct :=
  s.bxl.waiting ++ s.bxl.pairs.flatMap (fun p => p.2.unacked.filterMap BxlPend.act)

/-- Whether an item is not yet acknowledged by the Buddy, and so not yet accepted (R484). -/
def State.itemWaits (s : State) (flow seq : Nat) : Bool :=
  s.acts.any (fun a => match a with | .item w n => w.flow == flow && n == seq | _ => false)

/-- An item is retired: the entry of the CAN queue it came from is given up (R456), unless CAN has been reset since. -/
def State.canGiveUp (s : State) (it : JRec) : State :=
  if it.source ≠ 1 ∨ guestFlow it.flow = true then s
  else if s.can.old.contains (it.flow, it.seq) then
    { s with can := { s.can with old := s.can.old.erase (it.flow, it.seq) } }
  else
    let q := it.sref / 512 % 8
    s.setF (CAN_RQq_RD_RD q) (s.f (CAN_RQq_RD_RD q) + 1)

/-- Write the commit or cancelled record that serves an item (R50, R55, R58): it copies the item's PRIO, SOURCE, FLOW,
TASK and SOURCE_REF. -/
def State.serveRec (s : State) (kind flow seq : Nat) (outs : List Out) (time : Nat) : State :=
  match s.itemRec flow seq with
  | none => s
  | some it =>
    let r : JRec := ⟨0, (if kind = 2 then roundUp 32 (32 + 16 * outs.length) else 32), 0, kind, it.prio, it.source, it.flow,
      it.slot, it.task, it.seq, it.sref, time, outs, 0, [], [], kind == 3 || outs.isEmpty⟩
    ((s.retireItem flow seq).writeRec r).canGiveUp it

/-! ### Acceptance (R46 to R49) -/

/-- Whether acceptance points take items: phase RUN (R578), no PWRFAIL (R566), not isolated and not leaving (R490,
R496), no removal under way (R571); a member of a stack has a Buddy (R492); a standalone module has both MRAM devices,
and any module has one (R47). -/
def State.accepting (s : State) : Bool :=
  s.f SYS_BOOT_PHASE == 4 && !s.on PWR_STATUS_PWRFAIL && s.f BXL_STATUS_STATE != 3 && s.f BXL_STATUS_STATE != 4 &&
    !s.ejecting && !(s.memc.failA && s.memc.failB) &&
    (if s.inStack then s.on BXL_GUEST_HAS_BUDDY else !s.memc.failA && !s.memc.failB)

/-- Offer an item for acceptance: refused whole, or its journal write starts (R47, R49, R53). The status is OK when the
write has started; the acknowledgement itself leaves at JOURNAL_WRITE_DONE. -/
def State.offer (s : State) (w : JWrite) : Nat × State :=
  if 992 < w.payload.length then (cLENGTH, s)
  else if s.accepting = false then (cBUSY, s)
  else if s.memc.room (itemLen w.payload.length) = false then (cBUSY, s)
  else (cOK, { s with memc := { s.memc with itemWrites := s.memc.itemWrites ++ [w] } })

/-- Write a retention entry: 12 bytes and their CHECK (R54). -/
def State.retain (s : State) (off : Nat) (b : List Byte) : State :=
  s.jWrite (0x1F8000 + off) (b ++ leBytes 4 (crc32c b))

/-- The retention entry of an accepted item, by its origin (R54). -/
def State.retention (s : State) (flow : Nat) : Origin → State
  | .radio n a _ h => s.retain (a * 16) (leBytes 1 1 ++ leBytes 1 n ++ leBytes 2 flow ++ leBytes 2 h ++ leBytes 6 0)
  | .host _ tag session slot =>
    s.retain (0x400 + slot * 16) (leBytes 4 session ++ leBytes 4 tag ++ leBytes 2 flow ++ leBytes 1 1 ++ leBytes 1 0)
  | .bexlink pos num stamp => s.retain (0x800 + (pos * 64 + num % 64) * 16) (leBytes 8 stamp ++ leBytes 4 num)
  | .can _ _ => s
  | .task _ _ => s

/-- A flow that nothing has used. -/
def Flow.fresh : Flow := ⟨none, 0, 0, false, 0⟩

def State.flow (s : State) (i : Nat) : Flow := Tab.get (fun _ => Flow.fresh) s.dug.flows i

def State.setFlow (s : State) (i : Nat) (x : Flow) : State :=
  { s with dug := { s.dug with flows := Tab.set (fun _ => Flow.fresh) s.dug.flows i x } }

/-- An item record becomes valid (R48, R50): it takes the flow's next number; the task is the bound instance. -/
def State.itemValid (s : State) (w : JWrite) : State :=
  let fl := s.flow w.flow
  let r : JRec := ⟨0, itemLen w.payload.length, 0, 1, w.prio, w.source, w.flow, w.slot, fl.bound.getD 0xFFFF,
    fl.nextAccept, w.sref, s.now, [], 0, [], w.payload, false⟩
  let s := s.writeRec r
  let s := s.setFlow w.flow { fl with nextAccept := wrapInc 32 fl.nextAccept }
  s.retention w.flow w.origin

/-- RELEASED: the number of leading outputs confirmed (R56). -/
def leading (confirmed : List Nat) : Nat → Nat → Nat
  | 0, k => k
  | fuel + 1, k => if confirmed.contains k then leading confirmed fuel (k + 1) else k

/-- An output of a commit record is confirmed (R56): RELEASED rises to the number of leading outputs confirmed and is
written in place; the record is retired once RELEASED = COUNT (R588). -/
def State.confirm (s : State) (flow seq index : Nat) : State :=
  match s.recs.find? (fun r => r.kind == 2 && r.flow == flow && r.seq == seq) with
  | none => s
  | some r =>
    let c := if r.confirmed.contains index then r.confirmed else index :: r.confirmed
    let rel := leading c (r.outs.length) 0
    let s := if rel = r.released then s else s.recWrite r 26 (leBytes 2 rel)
    let s := s.mapRecs (fun (x : JRec) => if x.kind = 2 ∧ x.flow = flow ∧ x.seq = seq then
        { x with confirmed := c, released := rel, retired := rel == r.outs.length } else x)
    s.tailAdvance.guestTail

end Sys2Proof.Machine
end

