-- ==== Sys2Proof/Machine/EngBase.lean ====
section
/-! DEFINITION. Engine contexts (R68 to R71): their places in State, selection for issue, preemption and the start of an
activation. -/

namespace Sys2Proof.Machine

/-- A context that holds nothing (R68, R71). -/
def Ctx.empty : Ctx :=
  ⟨0, 0, 0, 0, 0, false, 0, 0, 0, 0, 0, [], [], [], [], [], false, false, 0, 0, 0, [], 0, 0, 0, 0, [], none, false, 0, 0⟩

/-- An engine after reset. -/
def EngSt.fresh : EngSt := ⟨[], [], none, 5, none⟩

def State.engSt (s : State) (e : Nat) : EngSt := Tab.get (fun _ => EngSt.fresh) s.eng e

def State.setEng (s : State) (e : Nat) (x : EngSt) : State :=
  { s with eng := Tab.set (fun _ => EngSt.fresh) s.eng e x }

def State.ctx (s : State) (e c : Nat) : Ctx := Tab.get (fun _ => Ctx.empty) (s.engSt e).ctxs c

def State.setCtx (s : State) (e c : Nat) (x : Ctx) : State :=
  let en := s.engSt e
  s.setEng e { en with ctxs := Tab.set (fun _ => Ctx.empty) en.ctxs c x }

/-- The next place in the one order of arrival that ages are taken from. -/
def State.order (s : State) : Nat × State :=
  (s.dug.clock, { s with dug := { s.dug with clock := s.dug.clock + 1 } })

/-- The RUNNING context of an engine; at most one is (R68). -/
def State.running (s : State) (e : Nat) : Option Nat := firstIdx 8 (fun c => (s.ctx e c).st == 2)

/-- Whether an engine has a RUNNABLE or RUNNING context (R122). -/
def State.engBusy (s : State) (e : Nat) : Bool :=
  (List.range 8).any (fun c => (s.ctx e c).st == 1 || (s.ctx e c).st == 2)

/-- Whether an engine's clock runs: its island is IDLE or ON (R30). -/
def State.engOn (s : State) (e : Nat) : Bool := s.ist (iENG e) == 2 || s.ist (iENG e) == 3

/-- IDLE or ON after a change of an engine's contexts (R30, R122). -/
def State.engTouch (s : State) (e : Nat) : State :=
  if s.engOn e then
    if s.f (ISL_PSTATE_REQ (iENG e)) = 2 ∧ s.engBusy e = false then
      if s.ist (iENG e) = 2 then s
      else { s with idleSince := Tab.set (fun _ => 0) s.idleSince (iENG e) s.now }.setF (ISL_PSTATE_STATE (iENG e)) 2
    else s.setF (ISL_PSTATE_STATE (iENG e)) 3
  else s

/-- Whether context a comes before context b for issue: the higher class, then the one that entered RUNNABLE earlier
(R69). -/
def issuesBefore (a b : Ctx) : Bool := a.cls < b.cls || (a.cls == b.cls && a.age < b.age)

/-- The best RUNNABLE context of an engine (R69). -/
def State.bestRunnable (s : State) (e : Nat) : Option Nat :=
  (idxWhere 8 (fun c => (s.ctx e c).st == 1)).foldl
    (fun b c => match b with
      | none => some c
      | some d => if issuesBefore (s.ctx e c) (s.ctx e d) then some c else some d) none

/-- When no context is RUNNING, the best RUNNABLE one is selected (R69). -/
def State.pickNext (s : State) (e : Nat) : State :=
  if s.engOn e = false then s
  else match s.running e, s.bestRunnable e with
    | none, some c => (s.setCtx e c { s.ctx e c with st := 2 }).engTouch e
    | _, _ => s.engTouch e

/-- A preemption point (R70, R118): a RUNNABLE context of a higher class displaces the running one unless it is in an
atomic section (R116). -/
def State.preempt (s : State) (e : Nat) : State :=
  match s.running e, s.bestRunnable e with
  | some r, some c =>
    if (s.ctx e r).atomic = false ∧ (s.ctx e c).cls < (s.ctx e r).cls ∧ s.engOn e = true then
      let o := s.order
      let s := o.2.setCtx e r { o.2.ctx e r with st := 1, age := o.1 }
      (s.setCtx e c { s.ctx e c with st := 2 }).inc (ENG_PREEMPT_COUNT e)
    else s
  | _, _ => s.pickNext e

/-- A context enters RUNNABLE (R68) and the engine judges issue and preemption. -/
def State.makeRunnable (s : State) (e c : Nat) : State :=
  let o := s.order
  ((o.2.setCtx e c { o.2.ctx e c with st := 1, age := o.1 }).preempt e).engTouch e

/-- A context becomes EMPTY (R68). -/
def State.freeCtx (s : State) (e c : Nat) : State := (s.setCtx e c Ctx.empty).pickNext e

/-- Register reads of a context; g0 reads 0 (R72). -/
def Ctx.rg (x : Ctx) (r : Nat) : BitVec 64 := if r = 0 then 0 else Tab.get (fun _ => 0) x.g r

/-- Register writes of a context; writes to g0 are discarded (R72). -/
def Ctx.wg (x : Ctx) (r : Nat) (v : BitVec 64) : Ctx :=
  if r = 0 then x else { x with g := Tab.set (fun _ => 0) x.g r v }

def Ctx.rf (x : Ctx) (r : Nat) : BitVec 64 := Tab.get (fun _ => 0) x.f r
def Ctx.wf (x : Ctx) (r : Nat) (v : BitVec 64) : Ctx := { x with f := Tab.set (fun _ => 0) x.f r v }
def Ctx.rv (x : Ctx) (r : Nat) : BitVec 256 := Tab.get (fun _ => 0) x.v r
def Ctx.wv (x : Ctx) (r : Nat) (v : BitVec 256) : Ctx := { x with v := Tab.set (fun _ => 0) x.v r v }
def Ctx.ro (x : Ctx) (r : Nat) : BitVec 64 := Tab.get (fun _ => 0) x.o r
def Ctx.wo (x : Ctx) (r : Nat) (v : BitVec 64) : Ctx := { x with o := Tab.set (fun _ => 0) x.o r v }

def KSlot.none : KSlot := ⟨0, 0, false⟩

def Ctx.rk (x : Ctx) (r : Nat) : KSlot := Tab.get (fun _ => KSlot.none) x.k r
def Ctx.wk (x : Ctx) (r : Nat) (v : KSlot) : Ctx := { x with k := Tab.set (fun _ => KSlot.none) x.k r v }

end Sys2Proof.Machine
end

