-- ==== Sys2Proof/Machine/RegAccess.lean ====
section
/-! DEFINITION. Register reads and writes by address: the map (R20, R22), access codes and reserved encodings (R14 to
R16), the island lock (R35), half-words (R13) and the refused-access record (R34). -/

namespace Sys2Proof.Machine

/-- The island whose register block holds an address; the GNSS channel windows are GBB's (R22, R23). -/
def regIsland (addr : Nat) : Option Nat :=
  if 0x0200000000 ≤ addr ∧ addr < 0x0200300000 then
    let i := (addr - 0x0200000000) / 0x10000
    if isIsland i then some i else none
  else if 0x0300000000 ≤ addr ∧ addr < 0x0300020000 then some iGBB
  else none

/-- The register list that serves an address, and the address's offset in it. -/
def regList (addr : Nat) : List RegD × Nat :=
  if addr < 0x0300000000 then
    (regTabPrefix ++ islandRegs ((addr - 0x0200000000) / 0x10000), addr % 0x10000)
  else (regTabGbbch, addr - 0x0300000000)

/-- The entry of the map that holds offset o, and the offset of its register: o itself, or o - 4 for the high half of a
64-bit register. -/
def findReg (l : List RegD) (o : Nat) : Option (RegD × Nat) :=
  match l.find? (fun r => inGroup r.off r.stride1 r.count1 r.stride2 r.count2 o) with
  | some r => some (r, o)
  | none =>
    if o < 4 then none
    else match l.find? (fun r => r.bytes == 8 && inGroup r.off r.stride1 r.count1 r.stride2 r.count2 (o - 4)) with
      | some r => some (r, o - 4)
      | none => none

/-- The map's entry for a register address, with the register's own first address. -/
def regAt (addr : Nat) : Option (RegD × Nat) :=
  let l := regList addr
  match findReg l.1 l.2 with
  | some (r, o) => some (r, addr - (l.2 - o))
  | none => none

/-- A field of the register at address base. -/
def FieldD.at (d : FieldD) (base : Nat) : RF := ⟨base, d.lo, d.len⟩

/-- The value of a field in a word to be written. -/
def FieldD.val (d : FieldD) (value : Nat) : Nat := value / 2 ^ d.lo % 2 ^ d.len

/-- What a read of the register at base returns from the register file; write-only fields read 0 (R14). -/
def State.regValue (s : State) (r : RegD) (base : Nat) : Nat :=
  (r.fields.map (fun d => if d.acc = .wo then 0 else s.f (d.at base) * 2 ^ d.lo)).sum

/-- Whether a word puts only legal encodings into the fields it writes (R16); a discarded field is not written. -/
def legalWrite (r : RegD) (value : Nat) : Bool :=
  r.fields.all (fun d =>
    d.acc == .ro || d.legal.isEmpty || d.legal.any (fun p => p.1 ≤ d.val value && d.val value ≤ p.2))

/-- One field of a register written by its access code (R14); a locked RWL field keeps its value. -/
def State.writeField (s : State) (locked : Bool) (base value : Nat) (d : FieldD) : State :=
  match d.acc with
  | .rw => s.setF (d.at base) (d.val value)
  | .rwl => if locked then s else s.setF (d.at base) (d.val value)
  | .w1c => s.setF (d.at base) (s.f (d.at base) &&& (2 ^ d.len - 1 - d.val value))
  | .w1s => s.setF (d.at base) (s.f (d.at base) ||| d.val value)
  | .ro => s
  | .wo => s

/-- Whether the lock discards a change of the value of some RWL field (R35). -/
def State.lockHit (s : State) (isl : Nat) (r : RegD) (base value : Nat) : Bool :=
  s.on (ISL_LOCK_LOCKED isl) &&
    r.fields.any (fun d => d.acc == .rwl && s.f (d.at base) != d.val value)

/-- A refused register write: recorded at the island, answered with its status, nothing changed (R16, R34). -/
def State.regRefuse (s : State) (isl addr req code : Nat) : Nat × State :=
  (code, s.refuse isl addr req true code)

/-- A whole-register write by the access codes (R14 to R16, R35): the status to the requester and the new state. -/
def State.regW (s : State) (isl req addr value : Nat) : Nat × State :=
  match regAt addr with
  | none => (cOK, s)
  | some (r, base) =>
    if legalWrite r value = false then s.regRefuse isl addr req cRANGE
    else
      let hit := s.lockHit isl r base value
      let locked := s.on (ISL_LOCK_LOCKED isl)
      let s := r.fields.foldl (fun s d => s.writeField locked base value d) s
      if hit then s.regRefuse isl addr req cNOT_OWNER else (cOK, s)

/-- A write to PREFIX_LOCK (R34): UNLOCK from REF alone, and before LOCKED. -/
def State.lockWrite (s : State) (req isl value : Nat) : Nat × State :=
  if bit value 1 && epIsl req != iREF then
    s.regRefuse isl (0x0200000008 + isl * 0x10000) req cNOT_OWNER
  else
    let s := if bit value 1 then s.setF (ISL_LOCK_LOCKED isl) 0 else s
    (cOK, if bit value 0 then s.setF (ISL_LOCK_LOCKED isl) 1 else s)

/-- A write to PREFIX_REFUSE_INFO (R34): 1 to VALID clears the capture and COUNT and arms the next capture. -/
def State.refuseInfoWrite (s : State) (isl value : Nat) : Nat × State :=
  (cOK, if bit value 31 then (s.setF (ISL_REFUSE_INFO_VALID isl) 0).setF (ISL_REFUSE_COUNT_COUNT isl) 0 else s)

/-- A low half held by a requester, if it is of this register (R13). -/
def State.lowHalf (s : State) (req base : Nat) : Option Nat :=
  match s.holdLow.find? (fun h => h.req == req) with
  | some h => if h.addr = base then some h.val else none
  | none => none

/-- Drop whatever low half a requester holds (R13). -/
def State.dropLow (s : State) (req : Nat) : State :=
  { s with holdLow := s.holdLow.filter (fun h => h.req != req) }

/-- Hold a low half for a requester in place of any it held (R13). -/
def State.holdLowHalf (s : State) (req base v : Nat) : State :=
  { s with holdLow := s.holdLow.filter (fun h => h.req != req) ++ [⟨req, base, v⟩] }

/-- A register write of `size` bytes (R13): narrow and misaligned writes are refused with RANGE, a low half is held, a
high half puts both into effect through `full`, the write of the whole register. A 64-bit access to a 32-bit register,
which the spec does not describe, is refused with RANGE (log entry 7). -/
def State.sizedWrite (s : State) (isl req addr size value : Nat)
    (full : State → Nat → Nat → Nat × State) : Nat × State :=
  if size ≠ 4 ∧ size ≠ 8 ∨ addr % size ≠ 0 then s.regRefuse isl addr req cRANGE
  else match regAt addr with
    | none => (cOK, s)
    | some (r, base) =>
      if size = 8 then
        if r.bytes = 8 then full s base (value % 2 ^ 64) else s.regRefuse isl addr req cRANGE
      else if r.bytes = 4 then full s base (value % 2 ^ 32)
      else if addr = base then (cOK, s.holdLowHalf req base (value % 2 ^ 32))
      else match s.lowHalf req base with
        | some lo => full (s.dropLow req) base (lo + value % 2 ^ 32 * 2 ^ 32)
        | none => s.regRefuse isl addr req cRANGE

/-- A register read of `size` bytes (R13), with `live` giving the live value of the register at a base address and
`take` the state after a full read of it (a FIFO's head leaves, R13). Narrow reads have no effect; a low half fills the
requester's holding word and the next read of the high half returns it. -/
def State.sizedRead (s : State) (isl req addr size : Nat)
    (live : State → RegD → Nat → Nat) (take : State → Nat → State) : Nat × Nat × State :=
  if size = 0 ∨ 8 < size ∨ addr % size ≠ 0 then
    (cRANGE, 0, s.refuse isl addr req false cRANGE)
  else if size < 4 then
    match regAt (addr - addr % 4) with
    | none => (cOK, 0, s)
    | some (r, base) => (cOK, live s r base / 2 ^ (8 * (addr - base)) % 2 ^ (8 * size), s)
  else match regAt addr with
    | none => (cOK, 0, { s with holdHigh := s.holdHigh.filter (fun h => h.req != req) })
    | some (r, base) =>
      let held := s.holdHigh.find? (fun h => h.req == req && h.addr == base)
      let clear := { s with holdHigh := s.holdHigh.filter (fun h => h.req != req) }
      let v := live s r base
      if size = 8 then
        if r.bytes = 8 then (cOK, v, take clear base)
        else (cRANGE, 0, s.refuse isl addr req false cRANGE)
      else if r.bytes = 4 then (cOK, v, take clear base)
      else if addr = base then
        (cOK, v % 2 ^ 32, take { clear with holdHigh := clear.holdHigh ++ [⟨req, base, v / 2 ^ 32⟩] } base)
      else match held with
        | some h => (cOK, h.val, clear)
        | none => (cOK, v / 2 ^ 32, clear)

end Sys2Proof.Machine
end

