-- ==== Sys2Proof/Machine/Queues.lean ====
section
/-! DEFINITION. Word queues (R162 to R172). -/

namespace Sys2Proof.Machine

def Queue.fresh : Queue := ⟨[], [], [], 0, 0, 0⟩

def State.q (s : State) (n : Nat) : Queue := Tab.get (fun _ => Queue.fresh) s.que n

def State.setQ (s : State) (n : Nat) (x : Queue) : State :=
  { s with que := Tab.set (fun _ => Queue.fresh) s.que n x }

/-- Words present plus words held (R163). -/
def Queue.total (q : Queue) : Nat := q.words.length + q.held.length

/-- Keep the high-water mark (R172). -/
def State.qMark (s : State) (n : Nat) : State :=
  if s.f (QUE_Qn_HWM_HIGH_WATER n) < (s.q n).total then s.setF (QUE_Qn_HWM_HIGH_WATER n) (s.q n).total else s

/-- A queue notice (R171). -/
def State.qNotice (s : State) (n kind : Nat) : State :=
  s.notice (ep iQUE 0) (s.f (QUE_Qn_NOTICE_EP n)) (s.f (QUE_Qn_NOTICE_TAG n))
    (s.now % 2 ^ 32 * 2 ^ 32 + (s.q n).words.length * 2 ^ 16 + n * 2 ^ 8 + kind) false

/-- Insert a word in order of arrival. -/
def insertWord (w : QEnt) : List QEnt → List QEnt
  | [] => [w]
  | x :: xs => if w.order < x.order then w :: x :: xs else x :: insertWord w xs

/-- The word a read takes: the oldest of the highest priority present (R165). -/
def Queue.best (q : Queue) : Option QEnt :=
  q.words.foldl (fun b w => match b with
    | none => some w
    | some x => if w.prio < x.prio || (w.prio == x.prio && w.order < x.order) then some w else some x) none

/-- The word DISPLACE discards: the oldest of the lowest priority present (R164). -/
def Queue.victim (q : Queue) : Option QEnt :=
  q.words.foldl (fun b w => match b with
    | none => some w
    | some x => if x.prio < w.prio || (w.prio == x.prio && w.order < x.order) then some w else some x) none

/-- The waiting context a word goes to: the highest class, then the one that entered WAITING first (R167). -/
def Queue.waiter (q : Queue) : Option QWait :=
  q.waits.foldl (fun b w => match b with
    | none => some w
    | some x => if w.cls < x.cls then some w else some x) none

/-- QSTAT of a word taken (R103). -/
def qstatWord (prio : Nat) : Nat := prio * 256

/-- A word handed to a waiting context (R103, R104, R147, R167): it is in rd, held for a flow-bound task, and the context
is RUNNABLE again. -/
def State.giveWord (s : State) (n : Nat) (w : QWait) (x : QEnt) : State :=
  let q := s.q n
  let c := s.ctx w.eng w.ctx
  let held := if c.bound then q.held ++ [⟨x.prio, x.data, x.order, w.eng, w.ctx⟩] else q.held
  let s := s.setQ n { q with waits := q.waits.erase w, held := held }
  let s := s.setCtx w.eng w.ctx { c.wg c.recvRd (BitVec.ofNat 64 x.data) with qstat := qstatWord x.prio }
  (s.qMark n).makeRunnable w.eng w.ctx

/-- A word becomes present (R169, R170): the arrival notice and the stale-tail timer when the queue held none. -/
def State.putWord (s : State) (n : Nat) (x : QEnt) : State :=
  let q := s.q n
  let first := q.words.isEmpty
  let s := s.setQ n { q with words := insertWord x q.words, staleStart := if first then s.now else q.staleStart }
  let s := s.qMark n
  if first && s.on (QUE_Qn_CFG_ARRIVAL_EN n) then s.qNotice n 2 else s

/-- A word arrives at a queue (R163, R164, R167). -/
def State.wordArrives (s : State) (n prio data : Nat) : Nat × State :=
  if 64 ≤ n then (cRANGE, s)
  else if s.on (QUE_Qn_CFG_ENABLE n) = false then (cNO_ROUTE, s)
  else
    let q := s.q n
    let x : QEnt := ⟨prio, data, q.order⟩
    let s1 := s.setQ n { q with order := q.order + 1 }
    match q.waiter with
    | some w => (cOK, s1.giveWord n w x)
    | none =>
      if q.total < s.f (QUE_Qn_CFG_DEPTH n) then (cOK, s1.putWord n x)
      else if s.f (QUE_Qn_CFG_FULL n) = 1 then
        match q.victim with
        | some v =>
          if prio ≤ v.prio then
            let s2 := s1.setQ n { s1.q n with words := q.words.erase v ++ [x] }
            (cOK, s2.inc (QUE_Qn_DROPS_DISPLACED n))
          else (cBUSY, s.inc (QUE_Qn_DROPS_REFUSED n))
        | none => (cBUSY, s.inc (QUE_Qn_DROPS_REFUSED n))
      else (cBUSY, s.inc (QUE_Qn_DROPS_REFUSED n))

/-- The words a discarded activation holds return to the head of their queues (R104), each given at once to a context
that waits (R167). -/
def State.returnWord (s : State) (n : Nat) (h : QHeld) : State :=
  let q := s.q n
  let s := s.setQ n { q with held := q.held.erase h }
  let x : QEnt := ⟨h.prio, h.data, h.order⟩
  match (s.q n).waiter with
  | some w => s.giveWord n w x
  | none => s.putWord n x

/-- Every word held by a context returns (R104). -/
def State.returnHeld (s : State) (e c : Nat) : State :=
  (s.que.map Prod.fst).foldl (fun s n =>
    ((s.q n).held.filter (fun h => h.eng == e && h.ctx == c)).foldl (fun s h => s.returnWord n h) s) s

/-- Every word held by a context is dropped: its commit record is valid (R104, R159). -/
def State.dropHeld (s : State) (e c : Nat) : State :=
  (s.que.map Prod.fst).foldl (fun s n =>
    let q := s.q n
    s.setQ n { q with held := q.held.filter (fun h => !(h.eng == e && h.ctx == c)) }) s

/-- Words held by a context, over all queues (R104). -/
def State.heldCount (s : State) (e c : Nat) : Nat :=
  (s.que.map (fun p => (p.2.held.filter (fun h => h.eng == e && h.ctx == c)).length)).sum

/-- A context stops waiting on whatever queue it waits on. -/
def State.unwait (s : State) (e c : Nat) : State :=
  (s.que.map Prod.fst).foldl (fun s n =>
    let q := s.q n
    s.setQ n { q with waits := q.waits.filter (fun w => !(w.eng == e && w.ctx == c)) }) s

/-- The sum of DEPTH over enabled queues (R162). -/
def State.poolUsed (s : State) : Nat :=
  ((List.range 64).map (fun n => if s.on (QUE_Qn_CFG_ENABLE n) then s.f (QUE_Qn_CFG_DEPTH n) else 0)).sum

/-! ### Register writes -/

def aQ (n : Nat) : Nat := 0x0200080100 + n * 0x40

/-- A write of QUE_Qn_CFG (R162). -/
def State.queCfgWrite (s : State) (req n value : Nat) : Nat × State :=
  let a := aQ n
  let depth := bits value 12 0
  let en := bit value 31
  let was := s.on (QUE_Qn_CFG_ENABLE n)
  let q := s.q n
  if depth < 16 ∨ 4096 < depth ∨ 2 ≤ bits value 28 27 then s.regRefuse iQUE a req cRANGE
  else if was = true ∧ (depth ≠ s.f (QUE_Qn_CFG_DEPTH n) ∨ bits value 28 27 ≠ s.f (QUE_Qn_CFG_FULL n) ∨
      bits value 29 29 ≠ s.f (QUE_Qn_CFG_ANY_READER n)) then s.regRefuse iQUE a req cBUSY
  else if was = true ∧ en = false ∧ (0 < q.total ∨ q.waits ≠ []) then s.regRefuse iQUE a req cBUSY
  else if was = false ∧ en = true ∧ 65536 < s.poolUsed + depth then s.regRefuse iQUE a req cBUSY
  else
    let r := s.regW iQUE req a value
    let s := r.2.setF (QUE_Qn_HWM_HIGH_WATER n) q.total
    (r.1, s.setF QUE_POOL_ALLOCATED s.poolUsed)

/-- A write of QUE_Qn_READER (R162). -/
def State.queReaderWrite (s : State) (req n value : Nat) : Nat × State :=
  if s.on (QUE_Qn_CFG_ENABLE n) = true ∧ bits value 15 0 ≠ s.f (QUE_Qn_READER_INSTANCE n) then
    s.regRefuse iQUE (aQ n + 4) req cBUSY
  else s.regW iQUE req (aQ n + 4) value

/-- A write of QUE_Qn_PUSH (R163): a refusal is recorded. -/
def State.quePush (s : State) (req n value : Nat) : Nat × State :=
  let r := s.wordArrives n (s.f (QUE_Qn_CFG_PUSH_PRIO n)) value
  if r.1 = cOK then r else (r.1, r.2.refuse iQUE (aQ n + 0x18) req true r.1)

/-- The stale-tail timer fires (R170). -/
def State.staleFire (s : State) (n : Nat) : State :=
  let s := (s.qNotice n 1).inc (QUE_Qn_NOTICES_COUNT n)
  s.setQ n { s.q n with staleStart := s.now }

/-- Whether the stale-tail timer has reached TICKS with a word present (R170). -/
def State.staleDue (s : State) (n : Nat) : Bool :=
  s.on (QUE_Qn_STALE_EN n) && !(s.q n).words.isEmpty &&
    decide (s.f (QUE_Qn_STALE_TICKS n) ≤ s.now - (s.q n).staleStart)

/-- A write of QUE_Qn_STALE (R170). -/
def State.queStaleWrite (s : State) (req n value : Nat) : Nat × State :=
  let t := bits value 24 0
  if t = 0 ∨ 16777216 < t then s.regRefuse iQUE (aQ n + 8) req cRANGE
  else
    let was := s.on (QUE_Qn_STALE_EN n)
    let r := s.regW iQUE req (aQ n + 8) value
    let s := r.2
    if bit value 31 then
      if was = false then (r.1, s.setQ n { s.q n with staleStart := s.now })
      else if s.staleDue n then (r.1, s.staleFire n) else (r.1, s)
    else (r.1, s)

/-! ### Meanings -/

/-- A requester's register write answered to it. -/
def done (r : Nat × State) : Res := .next (r.2.ans r.1)

/-- A requester's write of a register of an island that can be OFF, FENCED, GATED or in SELFTEST (R30, R31, R33, R531;
log entry 15): refused, held as the access it is, or served by the register's rule. -/
def State.regRow (s : State) (isl req addr size value : Nat) (f : State → Nat × State) : Res :=
  if s.ist isl = 5 then done (s.regRefuse isl addr req cFENCED)
  else if s.ist isl = 0 then done (s.regRefuse isl addr req cNO_ROUTE)
  else if s.holds isl then .next { s with held := s.held ++ [.write isl req addr size value] }
  else
    let r := f s
    done (r.1, if 0x10 ≤ isl ∧ isl < 0x20 then r.2 else r.2.touch isl)

/-- A queue word arrives (QUEUE_WORD): from SENDQ or an island producer. A refused word of a producer that counts its
losses is counted there. -/
def State.qwordServe (s : State) (w : QWord) : Nat × State :=
  let r := s.wordArrives w.queue w.prio w.data
  if r.1 = cOK then r
  else if epIsl w.src = iGBB then (r.1, r.2.inc GBB_STAT_WORD_LOST_COUNT)
  else if epIsl w.src = iGOB then (r.1, r.2.inc GOB_STAT_NAV_WORD_LOST_COUNT)
  else r

/-- QUEUE_PUSH. -/
def execQueuePush (req n value : Nat) (s : State) : Res := 
  s.regRow iQUE req (aQ n + 0x18) 8 value (fun s => s.quePush req n value)

/-- QUEUE_CONFIG. -/
def execQueueConfig (req n value : Nat) (s : State) : Res := 
  s.regRow iQUE req (aQ n) 4 value (fun s => s.queCfgWrite req n value)

/-- STALE_CONFIG. -/
def execStaleConfig (req n value : Nat) (s : State) : Res := 
  s.regRow iQUE req (aQ n + 8) 4 value (fun s => s.queStaleWrite req n value)

/-- STALE_TAIL: the event of R170 when the timer has reached TICKS with words present; otherwise nothing is due. -/
def execStaleTail (n : Nat) (s : State) : Res :=
  .next (if s.staleDue n then s.staleFire n else s)

end Sys2Proof.Machine
end

