-- ==== Sys2Proof/Machine/Dugout.lean ====
section
/-! DEFINITION. The Dugout (R125 to R160): descriptors, matching, spill, dispatch, cancel, flows and commit. -/

namespace Sys2Proof.Machine

/-! ### Descriptors (R131) -/

def Desc.free : Desc := ⟨0, 0, 0, 0, 0, 0, 0, 0, 0, 0, 0, 0, 0, [], [], 0, none, false⟩

def Desc.winmask (d : Desc) : Nat := bits d.w0 63 48
def Desc.itemSlot (d : Desc) : Nat := bits d.w0 47 45
def Desc.flowBound (d : Desc) : Bool := bit d.w0 44
/-- The index of the flow it serves; a guest's is in the guest flow table (R485). -/
def Desc.flow (d : Desc) : Nat := bits d.w0 43 32 + (if d.guest then 4096 else 0)
def Desc.engines (d : Desc) : Nat := bits d.w0 31 16
def Desc.slots (d : Desc) : Nat := bits d.w0 15 8
def Desc.model (d : Desc) : Bool := bit d.w0 6
def Desc.inherit (d : Desc) : Bool := bit d.w0 5
def Desc.cls (d : Desc) : Nat := bits d.w0 4 2
def Desc.kind (d : Desc) : Nat := bits d.w0 1 0
def Desc.entry (d : Desc) : Nat := bits d.w1 39 2 * 4
def Desc.depth (d : Desc) : Nat := bits d.w4 31 24
def Desc.latest (d : Desc) : Nat := bits d.w4 23 16
def Desc.countInit (d : Desc) : Nat := bits d.w4 15 0

def State.inst (s : State) (i : Nat) : Desc := Tab.get (fun _ => Desc.free) s.dug.inst i

def State.setInst (s : State) (i : Nat) (d : Desc) : State :=
  { s with dug := { s.dug with inst := Tab.set (fun _ => Desc.free) s.dug.inst i d } }

def State.templ (s : State) (i : Nat) : Desc := Tab.get (fun _ => Desc.free) s.dug.templ i

def State.setTempl (s : State) (i : Nat) (d : Desc) : State :=
  { s with dug := { s.dug with templ := Tab.set (fun _ => Desc.free) s.dug.templ i d } }

/-- Slots that hold a token (W5.FULL). -/
def Desc.full (d : Desc) : Nat :=
  ((List.range 8).map (fun k => if d.toks.any (fun t => t.slot == k) then 2 ^ k else 0)).sum

/-- A complete operand set (R140, R143). -/
def Desc.complete (d : Desc) : Bool :=
  (List.range 8).all (fun k => !bit d.slots k || d.toks.any (fun t => t.slot == k)) && (!d.model || d.count == 0)

/-- The tokens of one operand set: the oldest of each slot in SLOTS (R141). -/
def Desc.set (d : Desc) : List SlotTok :=
  (List.range 8).filterMap (fun k => if bit d.slots k then d.toks.find? (fun t => t.slot == k) else none)

/-- The PRIO of a tag (R126). -/
def tagPrio (tag : Nat) : Nat := bits tag 25 23

/-- The activation class, were the instance dispatched now (R141). -/
def Desc.actClass (d : Desc) : Nat :=
  if d.inherit then (d.set.map (fun t => tagPrio t.tag)).foldl min d.cls else d.cls

/-- READY if the next operand set is complete, and COLLECTING otherwise (R135). -/
def State.nextState (s : State) (i : Nat) (d : Desc) : State :=
  if d.complete then
    let o := s.order
    o.2.setInst i { d with st := 3, age := o.1 }
  else s.setInst i { d with st := 2 }

/-- A spawned entry becomes FREE and goes behind every free entry (R137). -/
def State.freeInst (s : State) (i : Nat) : State :=
  let g := (s.inst i).gen
  let s := s.setInst i { Desc.free with gen := g }
  { s with dug := { s.dug with freed := s.dug.freed.filter (· != i) ++ [i] } }

/-- Where an instance goes when an activation ends for good: spawned FREE, flow-bound its next state, other static DONE
(R135). -/
def State.endInst (s : State) (i : Nat) : State :=
  let d := s.inst i
  if d.kind = 2 then s.freeInst i
  else if d.flowBound then s.nextState i { d with toks := [], moved := [], item := none, attempt := 0 }
  else s.setInst i { d with st := 6, toks := [], moved := [], attempt := 0 }

/-- A completion token at the end of an activation (R144), a notice that carries a status (log entry 11). -/
def State.completion (s : State) (i seq status : Nat) : State :=
  let d := s.inst i
  if bit d.w3 48 then
    s.notice (ep iDUG 0) (bits d.w3 15 0) (bits d.w3 47 16)
      (seq * 2 ^ 32 + d.gen * 2 ^ 24 + i * 2 ^ 8 + status) true
  else s

/-! ### Matching and spill (R138 to R155) -/

/-- Tokens held on die (R149). -/
def State.onDie (s : State) : Nat := (s.dug.inst.map (fun p => p.2.toks.length)).sum

/-- The check of a token at DUG:0x000 against its instance (R138): OK or the refusal. A tag with a reserved bit set is
refused with RANGE (R16, R126). -/
def State.operandCheck (s : State) (tag : Nat) : Nat :=
  let i := bits tag 15 0
  let d := s.inst i
  let slot := bits tag 22 20
  if bits tag 31 29 ≠ 0 then cRANGE
  else if d.st = 0 ∨ d.st = 1 ∨ d.st = 6 ∨ bits tag 19 16 ≠ d.gen then cNOT_FOUND
  else if d.flowBound then cRANGE
  else if bit tag 26 then (if d.model then cOK else cRANGE)
  else if bit d.slots slot = false then cRANGE
  else if bit d.latest slot = false ∧ d.depth ≤ (d.toks.filter (fun t => t.slot == slot)).length then cBUSY
  else cOK

/-- A change of an instance's tokens or count: a COLLECTING instance with a complete set becomes READY (R135). -/
def State.judge (s : State) (i : Nat) (d : Desc) : State :=
  if d.st = 2 then s.nextState i d else s.setInst i d

/-- A checked token is matched on die (R139, R143). -/
def State.operandTake (s : State) (t : Token) : State :=
  let i := bits t.tag 15 0
  let d := s.inst i
  let slot := bits t.tag 22 20
  if bit t.tag 26 then
    if d.count = 0 then s.inc DUG_STAT_EXCESS_COUNT else s.judge i { d with count := d.count - 1 }
  else
    let k : SlotTok := ⟨slot, t.data, t.tag, t.src⟩
    if bit d.latest slot && d.toks.any (fun x => x.slot == slot) then
      (s.setInst i { d with toks := d.toks.filter (fun x => x.slot != slot) ++ [k] }).inc DUG_STAT_REPLACED_COUNT
    else s.judge i { d with toks := d.toks ++ [k] }

/-- The address of entry p of the spill ring (R149). -/
def State.spillAddr (s : State) (p : Nat) : Nat :=
  s.f DUG_SPILL_BASE_BASE * 16 + p % s.f DUG_SPILL_SIZE_ENTRIES * 16

/-- A token appended to the spill ring (R149, R150). -/
def State.spillPut (s : State) (t : Token) : State :=
  let p := s.dug.spillRd + s.dug.spill.length
  let s := s.wrBytes (s.spillAddr p) (leBytes 8 t.data ++ leBytes 4 t.tag ++ leBytes 4 s.dug.spillSeq)
  { s with dug := { s.dug with spill := s.dug.spill ++ [t], spillSeq := wrapInc 32 s.dug.spillSeq } }.inc
    DUG_STAT_SPILLED_COUNT

/-- A token at DUG:0x000 (R138, R149, R150, R153). -/
def State.operandServe (s : State) (t : Token) : Nat × State :=
  let c := s.operandCheck t.tag
  if c ≠ cOK then (c, s.inc DUG_STAT_REFUSED_COUNT)
  else if s.dug.spill ≠ [] ∨ 16384 ≤ s.onDie then
    if s.on DUG_CTRL_SPILL_EN = false ∨ s.f DUG_SPILL_SIZE_ENTRIES ≤ s.dug.spill.length then
      (cBUSY, s.inc DUG_STAT_REFUSED_COUNT)
    else (cOK, s.spillPut t)
  else (cOK, s.operandTake t)

/-- One spilled token returns on die and is checked again (R152); a refusal goes to its sender, as a notice of nothing
else than the count (log entry 12). -/
def State.spillReturn (s : State) : State :=
  match s.dug.spill with
  | [] => s
  | t :: ts =>
    let s := { s with dug := { s.dug with spill := ts, spillRd := s.dug.spillRd + 1 } }
    let c := s.operandCheck t.tag
    if c = cOK then s.operandTake t else (s.inc DUG_STAT_REFUSED_COUNT).ans c

/-- n spilled tokens return, oldest first (R151). -/
def State.spillReturnN (s : State) : Nat → State
  | 0 => s
  | n + 1 => State.spillReturnN s.spillReturn n

/-- The anchor that carries the spill ring is fenced: its tokens are lost and recorded (R155). -/
def State.spillLost (s : State) : State :=
  if s.dug.spill = [] then s
  else
    let n := s.dug.spill.length
    { s with dug := { s.dug with spill := [] } }.stage 0x0703 [n]

/-! ### Dispatch (R141, R145, R71) -/

/-- Whether an engine may take an instance (R145). -/
def State.eligible (s : State) (d : Desc) (e : Nat) : Bool :=
  bit d.engines e && s.on (ENG_CTRL_ACCEPT e) && s.ist (iENG e) != 5 && s.ist (iENG e) != 0 &&
    (List.range 8).any (fun c => (s.ctx e c).st == 0)

/-- The engine R145 picks for an instance of activation class cl: the three tiers in turn, the lowest number first. -/
def State.bestEngine (s : State) (d : Desc) (cl : Nat) : Option Nat :=
  let el := idxWhere 16 (fun e => s.eligible d e)
  match el.find? (fun e => s.engOn e && !s.engBusy e) with
  | some e => some e
  | none => match el.find? (fun e => s.ist (iENG e) == 1) with
    | some e => some e
    | none => el.find? (fun e => match s.running e with
      | some r => decide (cl < (s.ctx e r).cls)
      | none => false)

/-- Insert a READY instance in the order of R145: by class, then by age. -/
def insertReady (x : Nat × Desc) : List (Nat × Desc) → List (Nat × Desc)
  | [] => [x]
  | y :: ys =>
    if x.2.actClass < y.2.actClass ∨ (x.2.actClass = y.2.actClass ∧ x.2.age < y.2.age) then x :: y :: ys
    else y :: insertReady x ys

/-- The READY instances, in the order R145 offers them: by class, then by age. -/
def State.readyList (s : State) : List (Nat × Desc) :=
  let r := s.dug.inst.filter (fun p => p.2.st == 3)
  r.foldl (fun l x => insertReady x l) []

/-- The dispatch R145 chooses, if there is one. -/
def State.chooseDispatch (s : State) : Option (Nat × Nat) :=
  s.readyList.findSome? (fun p => match s.bestEngine p.2 p.2.actClass with
    | some e => some (p.1, e)
    | none => none)

/-- Instance i is dispatched to engine e (R71, R135, R141, R143): the oldest token of each slot moves to its k register.
DESIGN CHOICE (log entry 13): the lowest-numbered EMPTY context takes it. -/
def State.dispatchTo (s : State) (i e : Nat) : State :=
  let d := s.inst i
  match firstIdx 8 (fun c => (s.ctx e c).st == 0) with
  | none => s
  | some c =>
    let set := d.set
    let cl := d.actClass
    let att := if d.flowBound then min (d.attempt + 1) 255 else if d.moved = [] then 1 else min (d.attempt + 1) 255
    let k := set.foldl (fun k t => Tab.set (fun _ => KSlot.none) k t.slot ⟨t.data, t.tag, true⟩) []
    let x : Ctx := { Ctx.empty with
      inst := i, gen := d.gen, cls := cl, bound := d.flowBound, flow := if d.flowBound then d.flow else 0,
      seq := d.item.getD 0, winmask := d.winmask, attempt := att, pc := d.entry, k := k }
    let s := s.setInst i { d with
      st := 4, eng := e, ctx := c, attempt := att, count := d.countInit, acts := satInc 32 d.acts,
      moved := set, toks := set.foldl List.erase d.toks }
    let s := { s with dug := { s.dug with lastDispatch := s.now } }.inc DUG_STAT_DISPATCH_COUNT
    (s.setCtx e c x).makeRunnable e c

/-! ### Ends of activations -/

/-- The reservations of a discarded outbox are freed, with GEN as before (R106, R135). -/
def State.discardSpawns (s : State) (outs : List Out) : State :=
  outs.foldl (fun s o =>
    if o.typ = 3 then
      let i := o.tag % 65536
      let g := (s.inst i).gen
      if (s.inst i).st = 1 then
        let s := s.setInst i { Desc.free with gen := (g + 15) % 16 }
        { s with dug := { s.dug with freed := s.dug.freed.filter (· != i) ++ [i] } }
      else s
    else s) s

/-- A SPAWN entry is released: the instance leaves RESERVED (R106, R135, R589). -/
def State.releaseSpawn (s : State) (i : Nat) : State :=
  let d := s.inst i
  if d.st = 1 then s.nextState i { d with count := d.countInit } else s

/-- A context's activation is discarded: outbox, reservations and held words go back, and the context is EMPTY (R98,
R104). -/
def State.discard (s : State) (e c : Nat) : State :=
  let x := s.ctx e c
  (((s.discardSpawns x.outbox).unwait e c).returnHeld e c).freeCtx e c

/-- A cancelled record is valid: the completion reports CANCELLED, the flow advances and the instance moves on. -/
def State.finishCancel (s : State) (i flow seq : Nat) : State :=
  let s := s.completion i seq cCANCELLED
  (s.setFlow flow { s.flow flow with nextServe := wrapInc 32 seq, delivered := false }).endInst i

/-- An activation ends cancelled or aborted (R42, R114, R144): its flow advances with a cancelled record and its
completion reports CANCELLED. In a stack the record counts once the Buddy has acknowledged it (R484). -/
def State.endCancelled (s : State) (i : Nat) : State :=
  let d := s.inst i
  match (if d.flowBound then d.item else none) with
  | none => (s.completion i 0 cCANCELLED).endInst i
  | some seq =>
    let r := (s.serveRec 3 d.flow seq [] s.now).mirrorStart d.flow (.cancel i d.flow seq)
    if r.1 then r.2.setInst i { d with st := 5 } else r.2.finishCancel i d.flow seq

/-- A cancel takes effect on a context at a preemption point (R42, R105). -/
def State.cancelCtx (s : State) (e c : Nat) : State :=
  let i := (s.ctx e c).inst
  (s.discard e c).endCancelled i

/-- CANCEL of an instance of a generation (R41, R42, R107, R116): the answer and the state. Inside an atomic section the
cancel waits. -/
def State.cancelInst (s : State) (i gen : Nat) : Nat × State :=
  let d := s.inst i
  if d.st = 0 ∨ d.st = 1 ∨ d.st = 6 ∨ d.gen ≠ gen then (cNOT_FOUND, s)
  else if d.st = 5 then (cTOO_LATE, s)
  else if d.st = 4 then
    let x := s.ctx d.eng d.ctx
    if x.atomic then (cOK, s.setCtx d.eng d.ctx { x with cancelled := true })
    else (cOK, s.cancelCtx d.eng d.ctx)
  else (cOK, s.endCancelled i)

/-- An engine's activation is lost to a fault: the instance is READY again with the same operand set (R62, R135). -/
def State.rebind (s : State) (e c : Nat) : State :=
  let i := (s.ctx e c).inst
  let s := s.discard e c
  let d := s.inst i
  let o := s.order
  o.2.setInst i { d with st := 3, age := o.1, toks := d.moved ++ d.toks }

/-- Every activation of a fenced engine is restarted (R62); a context that is COMMITTING has handed its outbox over
already. -/
def State.rebindEngine (s : State) (e : Nat) : State :=
  (List.range 8).foldl (fun s c =>
    let x := s.ctx e c
    if x.st = 0 then s
    else if x.st = 4 then s.setCtx e c Ctx.empty
    else s.rebind e c) s

/-! ### Releasing outputs (R55, R56, R98 to R100) -/

/-- One output leaves: a token, a queue word, or a reservation released by the Dugout itself (R589). -/
def State.release (s : State) (src : Nat) (stamp : Option Stamp) (task : Option (Nat × Nat × Nat)) (o : Out) : State :=
  if o.typ = 1 then s.send ⟨o.dest, o.tag, o.data, src, stamp, task⟩
  else if o.typ = 2 then s.sendQ ⟨o.dest, o.prio, o.data, src, stamp, task⟩
  else s.releaseSpawn (o.tag % 65536)

/-- Outputs k, k + 1, … of an unflowed release leave in outbox order, unstamped (R100, R102). -/
def State.releaseAll (s : State) (src i gen : Nat) : Nat → List Out → State
  | _, [] => s
  | k, o :: os => State.releaseAll (s.release src none (some (i, gen, k)) o) src i gen (k + 1) os

/-- Outputs k, k + 1, … of a commit record leave with their stamps (R56); a SPAWN entry is confirmed at once (R589). -/
def State.releaseFrom (s : State) (flow seq : Nat) : Nat → List Out → State
  | _, [] => s
  | k, o :: os =>
    let s := s.release (ep iDUG 0) (some ⟨flow, seq, k⟩) none o
    let s := if o.typ = 3 then s.confirm flow seq k else s
    State.releaseFrom s flow seq (k + 1) os

/-- An activation has ended with its outputs released (R135, R144). -/
def State.endReleased (s : State) (i seq : Nat) (ends : Bool) : State :=
  let s := s.completion i seq cOK
  let d : Desc := { s.inst i with item := none, moved := [], attempt := 0 }
  if ends && !d.flowBound then
    if d.kind = 2 then s.freeInst i else s.setInst i { d with st := 6, toks := [] }
  else s.nextState i d

/-- A refused output is recorded, and reported where its descriptor says so (R102). -/
def State.refusalReport (s : State) (d : Desc) (data dest status : Nat) : State :=
  let s := s.stage 0x0701 [data, status + dest * 256]
  if bit d.w2 48 then s.notice (ep iDUG 0) (bits d.w2 15 0) (bits d.w2 47 16) data true else s

/-- The notice data of a refused output of an unflowed release (R102). -/
def unflowedRefusal (src i gen k status : Nat) : Nat :=
  2 ^ 63 + status * 2 ^ 48 + k % 16 * 2 ^ 32 + gen % 16 * 2 ^ 28 + i % 65536 * 2 ^ 12 + epPort src % 8 * 16 +
    epIsl src % 16

/-- A destination confirms a committed output, by taking it or by refusing it (R56, R102). -/
def State.outputConfirmed (s : State) (flow seq index status : Nat) : State :=
  match s.recs.find? (fun r => r.kind == 2 && r.flow == flow && r.seq == seq) with
  | none => s
  | some r =>
    let s' := s.confirm flow seq index
    if status = cOK ∨ status = cDUPLICATE ∨ r.confirmed.contains index then s'
    else
      let d := match (s.flow flow).bound with | some i => s.inst i | none => Desc.free
      let o := r.outs.getD index ⟨0, 0, 0, 0, 0⟩
      let dest := if o.typ = 2 then ep iQUE 0 else o.dest
      s'.refusalReport d (status * 2 ^ 48 + seq * 2 ^ 16 + index * 2 ^ 12 + flow % 4096) dest status

/-! ### Descriptor operations (R132, R133) -/

/-- A descriptor made of the staging words. -/
def State.staged (s : State) : Desc :=
  { Desc.free with
    w0 := s.f (DUG_DESC_Wi_WORD 0), w1 := s.f (DUG_DESC_Wi_WORD 1), w2 := s.f (DUG_DESC_Wi_WORD 2),
    w3 := s.f (DUG_DESC_Wi_WORD 3), w4 := s.f (DUG_DESC_Wi_WORD 4), w7 := s.f (DUG_DESC_Wi_WORD 7) }

/-- The affinity masks in use, entry (template?, index) left out (R132). -/
def State.masks (s : State) (templ : Bool) (i : Nat) : List Nat :=
  (((s.dug.inst.filter (fun p => p.2.st != 0 && (templ || p.1 != i))).map (fun p => p.2.engines)) ++
    ((s.dug.templ.filter (fun p => p.2.kind != 0 && (!templ || p.1 != i))).map (fun p => p.2.engines))).dedup

/-- A notice tag that R127 forbids: bits 31 to 27. -/
def tagBad (tag : Nat) : Bool := bits tag 31 27 != 0

/-- The reserved bits of W0 to W4 (R131), and the two configured tags (R127). -/
def Desc.reservedBad (d : Desc) : Bool :=
  bit d.w0 7 || bits d.w1 63 40 != 0 || bits d.w1 1 0 != 0 || bits d.w2 63 49 != 0 || bits d.w3 63 49 != 0 ||
    bits d.w4 63 32 != 0 || tagBad (bits d.w2 47 16) || tagBad (bits d.w3 47 16)

/-- How many of the sixteen engines a mask names. -/
def popcount16 (m : Nat) : Nat := ((List.range 16).filter (fun k => bit m k)).length

/-- The check of a descriptor write (R132). -/
def State.descCheck (s : State) (templ : Bool) (i : Nat) (d : Desc) : Nat :=
  if d.kind ≠ 1 ∨ d.engines = 0 ∨ d.reservedBad = true then cRANGE
  else if d.latest ||| d.slots ≠ d.slots then cRANGE
  else if d.flowBound = false ∧ d.slots ≠ 0 ∧ d.latest ≠ d.slots ∧ d.depth = 0 then cRANGE
  else if d.flowBound = true ∧ popcount16 d.engines < 2 then cRANGE
  else if d.flowBound = true ∧ (d.model = true ∨ d.latest ≠ 0 ∨ d.slots ≠ 2 ^ d.itemSlot) then cRANGE
  else if d.flowBound = true ∧ templ = true then cRANGE
  else if d.flowBound = true ∧ ((s.flow d.flow).bound.getD i ≠ i) then cCONFLICT
  else
    let ms := s.masks templ i
    if ms.contains d.engines = false ∧ 64 ≤ ms.length then cBUSY else cOK

/-- Where the selected entry lies. -/
def State.selTempl (s : State) : Bool := s.on DUG_DESC_SEL_TEMPLATE
def State.selIndex (s : State) : Nat := s.f DUG_DESC_SEL_INDEX

/-- A flow is unbound from an instance (R156). -/
def State.unbind (s : State) (i : Nat) : State :=
  let d := s.inst i
  if d.flowBound ∧ (s.flow d.flow).bound = some i then s.setFlow d.flow { s.flow d.flow with bound := none } else s

/-- Send a flow-bound descriptor to the Buddy (R484, R485): its words, or zeros for DELETE; the operation completes with
the acknowledgement. -/
def State.mirrorDesc (s : State) (i : Nat) (words : List Nat) : State :=
  let w := if words = [] then List.replicate 8 0 else words
  (s.setF DUG_DESC_CMD_BUSY 1).bxlSendWith (s.f BXL_STATUS_BUDDY_POS) 0x04 0
    (leBytes 1 2 ++ leBytes 3 0 ++ leBytes 4 i ++ w.flatMap (leBytes 8)) none none (some (.desc i words))

/-- Whether an operation on a flow-bound descriptor waits for the Buddy. -/
def State.descMirrored (s : State) : Bool := s.inStack && s.on BXL_GUEST_HAS_BUDDY

/-- The eight words of an entry as READ copies them (R131). -/
def Desc.words (d : Desc) (spilled : Nat) : List Nat :=
  [d.w0, d.w1, d.w2, d.w3, d.w4,
   d.attempt * 2 ^ 48 + d.count * 2 ^ 32 + d.ctx * 2 ^ 24 + d.eng * 2 ^ 20 + d.gen * 2 ^ 16 + d.full * 2 ^ 8 + d.st,
   (d.toks.length + spilled) * 2 ^ 32 + d.acts, d.w7]

/-- A checked WRITE of an instance takes effect. -/
def State.descPut (s : State) (i : Nat) (d : Desc) : State :=
  let old := s.inst i
  let s := s.unbind i
  let s := if d.flowBound then s.setFlow d.flow { s.flow d.flow with bound := some i } else s
  let s := { s with dug := { s.dug with freed := s.dug.freed.filter (· != i) } }
  s.nextState i { d with gen := if old.st = 0 then (old.gen + 1) % 16 else old.gen, count := d.countInit }

/-- A descriptor made of eight words. -/
def Desc.ofWords (w : List Nat) : Desc :=
  { Desc.free with
    w0 := w.getD 0 0, w1 := w.getD 1 0, w2 := w.getD 2 0, w3 := w.getD 3 0, w4 := w.getD 4 0, w7 := w.getD 7 0 }

/-- WRITE (R132, R133). -/
def State.descWrite (s : State) : Nat × State :=
  let i := s.selIndex
  let d := s.staged
  let c := s.descCheck s.selTempl i d
  if c ≠ cOK then (c, s)
  else if s.selTempl then (cOK, s.setTempl i d)
  else if (s.inst i).st ≠ 0 ∧ (s.inst i).st ≠ 6 then (cBUSY, s)
  else if d.flowBound && s.descMirrored then (cOK, s.mirrorDesc i (d.words 0))
  else (cOK, s.descPut i d)

/-- Spilled tokens addressed to an instance (W6.HELD). -/
def State.spilledFor (s : State) (i : Nat) : Nat :=
  (s.dug.spill.filter (fun t => bits t.tag 15 0 == i)).length

/-- READ (R133). -/
def State.descRead (s : State) : Nat × State :=
  let i := s.selIndex
  let ws := if s.selTempl then (s.templ i).words 0 else (s.inst i).words (s.spilledFor i)
  (cOK, (List.range 8).foldl (fun s k => s.setF (DUG_DESC_Wi_WORD k) (ws.getD k 0)) s)

/-- Items of a flow accepted and not yet committed or cancelled (R156). -/
def State.flowPending (s : State) (fl : Nat) : List JRec :=
  s.recs.filter (fun r => r.kind == 1 && !r.retired && r.flow == fl)

/-- A DELETE of an instance takes effect. -/
def State.descDrop (s : State) (i : Nat) : State := (s.unbind i).freeInst i

/-- DELETE (R133). -/
def State.descDelete (s : State) : Nat × State :=
  let i := s.selIndex
  if s.selTempl then (cOK, s.setTempl i Desc.free)
  else
    let d := s.inst i
    if d.st ≠ 6 ∧ d.st ≠ 2 then (cBUSY, s)
    else if d.flowBound = true ∧ s.flowPending d.flow ≠ [] then (cBUSY, s)
    else if d.flowBound && s.descMirrored then (cOK, s.mirrorDesc i [])
    else (cOK, s.descDrop i)

/-- CANCEL on the selected instance (R133). -/
def State.descCancel (s : State) : Nat × State :=
  if s.selTempl then (cRANGE, s)
  else s.cancelInst s.selIndex (bits (s.f (DUG_DESC_Wi_WORD 5)) 19 16)

/-- REARM (R133). -/
def State.descRearm (s : State) : Nat × State :=
  let i := s.selIndex
  let d := s.inst i
  if s.selTempl then (cRANGE, s)
  else if d.st ≠ 6 then (cBUSY, s)
  else (cOK, s.nextState i { d with count := d.countInit })

/-- A write of an OP to DUG_DESC_CMD (R133, R161): refused while the island is locked, otherwise the operation runs and
sets STATUS. -/
def State.descCmd (s : State) (req op : Nat) (run : State → Nat × State) : Nat × State :=
  if s.on (ISL_LOCK_LOCKED iDUG) = true ∧ s.f DUG_DESC_CMD_OP ≠ op then
    s.regRefuse iDUG 0x0200070054 req cNOT_OWNER
  else if s.on (ISL_LOCK_LOCKED iDUG) then (cOK, s)
  else if s.on DUG_DESC_CMD_BUSY then s.regRefuse iDUG 0x0200070054 req cBUSY
  else
    let r := run (s.setF DUG_DESC_CMD_OP op)
    (cOK, if r.2.on DUG_DESC_CMD_BUSY then r.2 else r.2.setF DUG_DESC_CMD_STATUS r.1)

/-- A write of a value to DUG_DESC_CMD. -/
def State.descCmdWrite (s : State) (req value : Nat) : Nat × State :=
  let op := value % 8
  if 6 ≤ op then s.regRefuse iDUG 0x0200070054 req cRANGE
  else s.descCmd req op (fun s =>
    if op = 1 then s.descWrite else if op = 2 then s.descRead else if op = 3 then s.descDelete
    else if op = 4 then s.descCancel else if op = 5 then s.descRearm else (s.f DUG_DESC_CMD_STATUS, s))

/-- A write of DUG_DESC_SEL: a template index above 4,095 is refused (R161). -/
def State.descSelWrite (s : State) (req value : Nat) : Nat × State :=
  if bit value 16 = true ∧ 4095 < bits value 15 0 then s.regRefuse iDUG 0x0200070050 req cRANGE
  else s.regW iDUG req 0x0200070050 value

/-- Whether a spill ring lies within one LPDDR5 channel (R149). -/
def spillOk (base entries : Nat) : Bool :=
  let a := base * 16
  let e := a + entries * 16
  entries == 0 || (decide (0x1000000000 ≤ a) && decide (e ≤ 0x1200000000) &&
    (a - 0x1000000000) / 0x80000000 == (e - 1 - 0x1000000000) / 0x80000000)

/-- A write of DUG_SPILL_BASE or DUG_SPILL_SIZE (R149, R153). -/
def State.spillCfgWrite (s : State) (req addr value : Nat) : Nat × State :=
  let isBase := addr == 0x0200070028
  let base := if isBase then bits value 39 4 else s.f DUG_SPILL_BASE_BASE
  let ents := if isBase then s.f DUG_SPILL_SIZE_ENTRIES else bits value 20 0
  if s.dug.spill ≠ [] then s.regRefuse iDUG addr req cBUSY
  else if 1048576 < ents ∨ spillOk base ents = false then s.regRefuse iDUG addr req cRANGE
  else s.regW iDUG req addr value

/-! ### SPAWN (R106, R137) -/

/-- The lowest entry that has been FREE since reset: not freed since, and holding nothing. -/
def State.lowestFree (s : State) : Nat → Nat → Option Nat
  | 0, _ => none
  | fuel + 1, i =>
    if 65536 ≤ i then none
    else if (s.inst i).st = 0 ∧ s.dug.freed.contains i = false then some i else s.lowestFree fuel (i + 1)

/-- The FREE entry that has been free longest (R137). -/
def State.freeLongest (s : State) : Option Nat :=
  match s.lowestFree (s.dug.inst.length + s.dug.freed.length + 1) 0 with
  | some i => some i
  | none => s.dug.freed.head?

/-- SPAWN at the Dugout: the value for rd, the reserved instance, the state (R106). -/
def State.spawnReserve (s : State) (tpl : Nat) : Nat × Option Nat × State :=
  let t := s.templ tpl
  if 4096 ≤ tpl ∨ t.kind = 0 then (2 ^ 63 + cNOT_FOUND, none, s)
  else match s.freeLongest with
    | none => (2 ^ 63 + cBUSY, none, s)
    | some i =>
      let g := ((s.inst i).gen + 1) % 16
      let s := { s with dug := { s.dug with freed := s.dug.freed.filter (· != i) } }
      (i + g * 65536, some i, s.setInst i { t with st := 1, gen := g, w0 := t.w0 / 4 * 4 + 2 })

/-! ### Flows (R157, R158) -/

/-- The data a flow item is delivered with (R157): the 64-bit payload for the flow intake, otherwise the address of the
record's BODY. -/
def State.itemData (s : State) (r : JRec) : Nat :=
  if r.source = 5 then leValue (r.payload.take 8) else s.recAddr r + 32

/-- Whether a flow's next item can be delivered (R58, R157). -/
def State.nextItem (s : State) (fl : Nat) : Option (Nat × JRec) :=
  match (s.flow fl).bound with
  | none => none
  | some i =>
    if (s.inst i).st ≠ 2 ∨ (s.flow fl).delivered ∨ (guestFlow fl && !s.on BXL_TAKEOVER_ACTIVE) = true then none
    else match (s.flowPending fl).find? (fun r => r.seq == (s.flow fl).nextServe) with
      | some r => if s.itemWaits fl r.seq then none else some (i, r)
      | none => none

/-- Deliver a flow's next item into ITEM_SLOT (R157, R160). -/
def State.deliverItem (s : State) (fl : Nat) : State :=
  match s.nextItem fl with
  | none => s
  | some (i, r) =>
    let d := s.inst i
    let tag := r.prio * 2 ^ 23 + d.itemSlot * 2 ^ 20 + d.gen * 2 ^ 16 + i
    let again := (s.flow fl).again
    let s := s.setFlow fl { s.flow fl with delivered := true, again := 0 }
    s.judge i { d with
      toks := d.toks ++ [⟨d.itemSlot, s.itemData r, tag, ep iDUG 1⟩], item := some r.seq, attempt := again }

/-- SOURCE_REF of a flow-intake item (R158). -/
def State.intakeRef (s : State) (t : Token) : Nat :=
  match t.stamp with
  | some st => ((s.flow st.flow).bound.getD 0xFFFF) + st.index % 16 * 65536
  | none =>
    let isl := epIsl t.src
    match t.task with
    | some (i, _, k) => if 0x10 ≤ isl ∧ isl < 0x20 then i + k % 16 * 65536 else 0xFFFF
    | none => 0xFFFF

/-- A token at DUG:0x001 offered as an item of a flow (R128, R158). -/
def State.intakeServe (s : State) (t : Token) : Nat × State :=
  let fl := bits t.tag 11 0
  if bits t.tag 31 26 ≠ 0 ∨ bits t.tag 22 12 ≠ 0 then (cRANGE, s)
  else if (s.flow fl).bound = none then (cNOT_FOUND, s)
  else s.offer ⟨.task t.src t.stamp, 5, fl, 0, tagPrio t.tag, s.intakeRef t, leBytes 8 t.data⟩

/-! ### Meanings -/

/-- FLOW_ITEM_DELIVERY. -/
def execFlowItemDelivery (flow : Nat) (s : State) : Res := .next (if s.ist iDUG = 4 then s else s.deliverItem flow)

/-- DISPATCH: the one dispatch R145 chooses, if any instance and engine match; none during a slice (R534). -/
def execDispatch (s : State) : Res :=
  .next (match (if s.ist iDUG = 4 then none else s.chooseDispatch) with | some (i, e) => s.dispatchTo i e | none => s)

/-- A command of DUG_DESC_CMD. -/
def State.descRow (s : State) (req op : Nat) (f : State → Nat × State) : Res :=
  s.regRow iDUG req 0x0200070054 4 op (fun s => s.descCmd req op f)

/-- DESC_WRITE. -/
def execDescWrite (req : Nat) (s : State) : Res := s.descRow req 1 State.descWrite
/-- DESC_READ. -/
def execDescRead (req : Nat) (s : State) : Res := s.descRow req 2 State.descRead
/-- DESC_DELETE. -/
def execDescDelete (req : Nat) (s : State) : Res := s.descRow req 3 State.descDelete
/-- DESC_CANCEL. -/
def execDescCancel (req : Nat) (s : State) : Res := s.descRow req 4 State.descCancel
/-- DESC_REARM. -/
def execDescRearm (req : Nat) (s : State) : Res := s.descRow req 5 State.descRearm

/-- SPILL_REFILL_BATCH: up to 32 tokens return once 512 on-die entries are free (R151). -/
def execSpillRefillBatch (s : State) : Res :=
  .next (if s.dug.spill ≠ [] ∧ s.onDie + 512 ≤ 16384 then s.spillReturnN (min 32 s.dug.spill.length) else s)

/-- Whether the store has stalled (R154). -/
def State.stalled (s : State) : Bool :=
  s.on DUG_STALL_EN && !s.dug.spill.isEmpty && decide (16384 ≤ s.onDie) &&
    decide (s.f DUG_STALL_TICKS ≤ s.now - s.dug.lastDispatch)

/-- DUGOUT_STALL: notice, record and count (R154). The count of ticks starts again. -/
def execDugoutStall (s : State) : Res :=
  .next (if s.stalled then
    let n := s.dug.spill.length
    let s := if s.on DUG_NOTICE_EN then
        s.notice (ep iDUG 0) (s.f DUG_NOTICE_EP) (s.f DUG_NOTICE_TAG) (n * 2 ^ 32 + 1) false else s
    let s := (s.stage 0x0702 [n]).inc DUG_STAT_STALLS_COUNT
    { s with dug := { s.dug with lastDispatch := s.now } }
  else s)

/-- COMMIT_CONFIRM: the confirmation reaches the engine and the COMMITTING context becomes EMPTY (R68). -/
def execCommitConfirm (e c : Nat) (s : State) : Res :=
  .next (if (s.ctx e c).st = 4 ∧ s.memc.commitJobs.all (fun j => !(j.eng == e && j.ctx == c)) = true ∧
      s.acts.all (fun a => match a with | .commit j => !(j.eng == e && j.ctx == c) | _ => true) = true
    then s.freeCtx e c else s)

/-- A commit record is valid (R55, R159): held words leave their queues, the flow advances, the outputs leave in order
with their stamps, and the instance moves on. -/
def State.finishCommit (s : State) (j : CommitJob) : State :=
  let s := s.dropHeld j.eng j.ctx
  let s := s.setFlow j.flow { s.flow j.flow with nextServe := wrapInc 32 j.seq, delivered := false }
  let s := s.releaseFrom j.flow j.seq 0 j.outs
  s.endReleased j.inst j.seq j.ends

/-- COMMIT_RECORD_VALID: the oldest commit handed over is written; alone it is valid at once, in a stack once the Buddy has
acknowledged it (R55, R484). An ISOLATED member commits nothing (R496). -/
def execCommitRecordValid (s : State) : Res :=
  .next (match s.memc.commitJobs with
    | [] => s
    | j :: js =>
      if (s.memc.failA && s.memc.failB) || s.f BXL_STATUS_STATE == 3 then s
      else
        let s := { s with memc := { s.memc with commitJobs := js } }
        let r := (s.serveRec 2 j.flow j.seq j.outs j.time).mirrorStart j.flow (.commit j)
        if r.1 then r.2 else r.2.finishCommit j)

/-- OUTPUT_CONFIRMED: a destination confirms an output, by taking it or by refusing it (R56, R102). -/
def execOutputConfirmed (flow seq index status : Nat) (s : State) : Res :=
  .next (s.outputConfirmed flow seq index status)

end Sys2Proof.Machine
end

