-- ==== Sys2Proof/Machine/EngRegs.lean ====
section
/-! DEFINITION. Engine registers, DVFS (R119 to R124), and the live views of engine, Dugout and queue registers. -/

namespace Sys2Proof.Machine

/-- The point in effect for a request: the lower of REQ and the cap (R121). -/
def State.dvfsGoal (s : State) (e : Nat) : Nat :=
  match (s.engSt e).cap with
  | some c => min (s.f (ENG_DVFS_REQ e)) c
  | none => s.f (ENG_DVFS_REQ e)

/-- Take the request of REQ and the cap: a step down changes the clock at once, a step up starts; during a step it waits
for the step's end (R120, R121). -/
def State.dvfsApply (s : State) (e : Nat) : State :=
  let g := s.dvfsGoal e
  let s := s.setF (ENG_DVFS_CAPPED e) (b2n (decide (g < s.f (ENG_DVFS_REQ e))))
  if s.on (ENG_DVFS_SWITCHING e) then s.setEng e { s.engSt e with dvfsNext := some g }
  else if g ≤ s.f (ENG_DVFS_CUR e) then s.setF (ENG_DVFS_CUR e) g
  else (s.setEng e { s.engSt e with dvfsTarget := g }).setF (ENG_DVFS_SWITCHING e) 1

/-- A write of ENG_DVFS (R119, R120). -/
def State.dvfsWrite (s : State) (req e value : Nat) : Nat × State :=
  let r := s.regW (iENG e) req (0x0200100024 + e * 0x10000) value
  if r.1 = cOK then (cOK, r.2.dvfsApply e) else r

/-- A step up ends: the clock changes and the last request written meanwhile takes effect (R120). -/
def State.dvfsDone (s : State) (e : Nat) : State :=
  if s.on (ENG_DVFS_SWITCHING e) then
    let en := s.engSt e
    let s := (s.setF (ENG_DVFS_CUR e) en.dvfsTarget).setF (ENG_DVFS_SWITCHING e) 0
    match en.dvfsNext with
    | some _ => (s.setEng e { s.engSt e with dvfsNext := none }).dvfsApply e
    | none => s
  else s

/-- PWR caps an engine's point, or lifts the cap (R121). -/
def State.dvfsCap (s : State) (e : Nat) (cap : Option Nat) : State :=
  (s.setEng e { s.engSt e with cap := cap }).dvfsApply e

/-- ENG_CTX_STATE_c as it stands (R123). -/
def State.ctxStateWord (s : State) (e c : Nat) : Nat :=
  let x := s.ctx e c
  (x.gen * 65536 + x.inst) * 256 + b2n x.atomic * 128 + x.cls * 16 + b2n x.handler * 8 + x.st

/-- A write to a register of DUG, QUE or an engine that is more than its access codes; none otherwise. -/
def State.coreRegWrite (s : State) (req isl base value : Nat) : Option (Nat × State) :=
  let o := base % 0x10000
  if isl = iDUG then
    if o = 0x54 then some (s.descCmdWrite req value)
    else if o = 0x50 then some (s.descSelWrite req value)
    else if o = 0x28 ∨ o = 0x30 then some (s.spillCfgWrite req base value)
    else none
  else if isl = iQUE then
    if 0x100 ≤ o ∧ o < 0x1100 then
      let n := (o - 0x100) / 0x40
      let k := o % 0x40
      if k = 0 then some (s.queCfgWrite req n value)
      else if k = 4 then some (s.queReaderWrite req n value)
      else if k = 8 then some (s.queStaleWrite req n value)
      else if k = 0x18 then some (s.quePush req n value)
      else none
    else none
  else if 0x10 ≤ isl ∧ isl < 0x20 ∧ o = 0x24 then some (s.dvfsWrite req (isl - 0x10) value)
  else none

/-- The live value of a register of DUG, QUE or an engine that shows what another part of the state holds. -/
def State.coreLive (s : State) (isl base : Nat) : Option Nat :=
  let o := base % 0x10000
  if isl = iDUG then
    if o = 0x38 then some (s.dug.spill.length * 2 ^ 32 + s.onDie)
    else if o = 0x60 then
      let fl := s.flow (s.f DUG_FLOW_SEL_FLOW)
      some (fl.nextServe * 2 ^ 32 + b2n fl.bound.isSome * 65536 + fl.bound.getD 0)
    else if o = 0x68 then
      let n := s.f DUG_FLOW_SEL_FLOW
      some ((s.flow n).nextAccept * 2 ^ 32 + (s.flowPending n).length)
    else none
  else if isl = iQUE then
    if 0x100 ≤ o ∧ o < 0x1100 ∧ o % 0x40 = 0x20 then
      let q := s.q ((o - 0x100) / 0x40)
      some (q.held.length * 65536 + q.words.length)
    else none
  else if 0x10 ≤ isl ∧ isl < 0x20 ∧ 0x30 ≤ o ∧ o < 0x50 then some (s.ctxStateWord (isl - 0x10) ((o - 0x30) / 4))
  else none

/-- DVFS_REQUEST. -/
def execDvfsRequest (req e value : Nat) (s : State) : Res := 
  s.regRow (iENG e) req (0x0200100024 + e * 0x10000) 4 value (fun s => s.dvfsWrite req e value)

/-- DVFS_STEP_DONE. -/
def execDvfsStepDone (e : Nat) (s : State) : Res := .next (s.dvfsDone e)

end Sys2Proof.Machine
end

