-- ==== Sys2Proof/Machine/Arrive.lean ====
section
/-! DEFINITION. Arrival of tokens and queue words at an island (R31, R33, R44, R56, R102). -/

namespace Sys2Proof.Machine

/-- The status goes to the sender; a refused output of an unflowed release is recorded and reported (R102). A committed
output's refusal is reported when the output is confirmed. -/
def State.answerTo (s : State) (code src dest : Nat) (task : Option (Nat × Nat × Nat)) : State :=
  match task with
  | some (i, gen, k) =>
    if code = cOK ∨ code = cDUPLICATE then s.ans code
    else (s.refusalReport (s.inst i) (unflowedRefusal src i gen k code) dest code).ans code
  | none => s.ans code

/-- A token arrives at an island (R31, R33, R44, R56): held, refused, dropped as a repeat of a committed output, or
served; the status goes to the sender, and the stamp of an output that was taken is kept, 64 at most. ZON keeps the stamps
of its commands itself (R373). -/
def State.arrive (s : State) (t : Token) (serve : State → Nat × State) : State :=
  let isl := epIsl t.dest
  let s := { s with sent := s.sent.erase t }
  if isIsland isl = false ∨ s.ist isl = 0 then s.answerTo cNO_ROUTE t.src t.dest t.task
  else if s.ist isl = 5 then s.answerTo cFENCED t.src t.dest t.task
  else if s.holds isl then { s with held := s.held ++ [.token isl t] }
  else
    let kept := Tab.get (fun _ => []) s.stamps isl
    match (if isl = iZON then none else t.stamp) with
    | none =>
      let r := serve s
      (r.2.touch isl).answerTo r.1 t.src t.dest t.task
    | some st =>
      if kept.contains st then (s.touch isl).ans cDUPLICATE
      else
        let r := serve s
        let s := if r.1 = cOK
          then { r.2 with stamps := Tab.set (fun _ => []) r.2.stamps isl ((st :: kept).take 64) } else r.2
        (s.touch isl).ans r.1

/-- A queue word arrives at QUE, which is always awake but holds it during a slice (R32, R56, R163, R534). -/
def State.arriveWord (s : State) (w : QWord) : State :=
  let s := { s with qsent := s.qsent.erase w }
  if s.ist iQUE = 4 then { s with held := s.held ++ [.word w] }
  else
    let kept := Tab.get (fun _ => []) s.stamps iQUE
    match w.stamp with
    | none =>
      let r := s.qwordServe w
      r.2.answerTo r.1 w.src (ep iQUE 0) w.task
    | some st =>
      if kept.contains st then s.ans cDUPLICATE
      else
        let r := s.qwordServe w
        (if r.1 = cOK then { r.2 with stamps := Tab.set (fun _ => []) r.2.stamps iQUE ((st :: kept).take 64) }
          else r.2).ans r.1

/-- QUEUE_WORD. -/
def execQueueWord (q : QWord) (s : State) : Res := .next (s.arriveWord q)

/-- OPERAND_TOKEN. -/
def execOperandToken (t : Token) (s : State) : Res := .next (s.arrive t (fun s => s.operandServe t))

/-- FLOW_INTAKE. -/
def execFlowIntake (t : Token) (s : State) : Res := .next (s.arrive t (fun s => s.intakeServe t))

end Sys2Proof.Machine
end

