-- ==== Sys2Proof/Machine/Crypto.lean ====
section
/-! DEFINITION. SHA-384 (FIPS 180-4) and the verification of an ECDSA P-384 signature (FIPS 186-5), which the checks of a
Playbook and of the loader use (R503, R507, R512, R577). -/

namespace Sys2Proof

/-! ### SHA-384 -/

/-- The round constants of SHA-512 and SHA-384. -/
def shaK0 : List Nat := [
  0x428A2F98D728AE22, 0x7137449123EF65CD, 0xB5C0FBCFEC4D3B2F, 0xE9B5DBA58189DBBC,
  0x3956C25BF348B538, 0x59F111F1B605D019, 0x923F82A4AF194F9B, 0xAB1C5ED5DA6D8118,
  0xD807AA98A3030242, 0x12835B0145706FBE, 0x243185BE4EE4B28C, 0x550C7DC3D5FFB4E2,
  0x72BE5D74F27B896F, 0x80DEB1FE3B1696B1, 0x9BDC06A725C71235, 0xC19BF174CF692694,
  0xE49B69C19EF14AD2, 0xEFBE4786384F25E3, 0x0FC19DC68B8CD5B5, 0x240CA1CC77AC9C65]
def shaK1 : List Nat := [
  0x2DE92C6F592B0275, 0x4A7484AA6EA6E483, 0x5CB0A9DCBD41FBD4, 0x76F988DA831153B5,
  0x983E5152EE66DFAB, 0xA831C66D2DB43210, 0xB00327C898FB213F, 0xBF597FC7BEEF0EE4,
  0xC6E00BF33DA88FC2, 0xD5A79147930AA725, 0x06CA6351E003826F, 0x142929670A0E6E70,
  0x27B70A8546D22FFC, 0x2E1B21385C26C926, 0x4D2C6DFC5AC42AED, 0x53380D139D95B3DF,
  0x650A73548BAF63DE, 0x766A0ABB3C77B2A8, 0x81C2C92E47EDAEE6, 0x92722C851482353B]
def shaK2 : List Nat := [
  0xA2BFE8A14CF10364, 0xA81A664BBC423001, 0xC24B8B70D0F89791, 0xC76C51A30654BE30,
  0xD192E819D6EF5218, 0xD69906245565A910, 0xF40E35855771202A, 0x106AA07032BBD1B8,
  0x19A4C116B8D2D0C8, 0x1E376C085141AB53, 0x2748774CDF8EEB99, 0x34B0BCB5E19B48A8,
  0x391C0CB3C5C95A63, 0x4ED8AA4AE3418ACB, 0x5B9CCA4F7763E373, 0x682E6FF3D6B2B8A3,
  0x748F82EE5DEFB2FC, 0x78A5636F43172F60, 0x84C87814A1F0AB72, 0x8CC702081A6439EC]
def shaK3 : List Nat := [
  0x90BEFFFA23631E28, 0xA4506CEBDE82BDE9, 0xBEF9A3F7B2C67915, 0xC67178F2E372532B,
  0xCA273ECEEA26619C, 0xD186B8C721C0C207, 0xEADA7DD6CDE0EB1E, 0xF57D4F7FEE6ED178,
  0x06F067AA72176FBA, 0x0A637DC5A2C898A6, 0x113F9804BEF90DAE, 0x1B710B35131C471B,
  0x28DB77F523047D84, 0x32CAAB7B40C72493, 0x3C9EBE0A15C9BEBC, 0x431D67C49C100D4C,
  0x4CC5D4BECB3E42B6, 0x597F299CFC657E2A, 0x5FCB6FAB3AD6FAEC, 0x6C44198C4A475817]
def shaK : List Nat := shaK0 ++ shaK1 ++ shaK2 ++ shaK3

/-- The initial hash value of SHA-384. -/
def shaInit : List Nat := [
  0xCBBB9D5DC1059ED8, 0x629A292A367CD507, 0x9159015A3070DD17, 0x152FECD8F70E5939,
  0x67332667FFC00B31, 0x8EB44A8768581511, 0xDB0C2E0D64F98FA7, 0x47B5481DBEFA4FA4]

def add64 (a b : Nat) : Nat := (a + b) % 2 ^ 64
def rotr64 (n x : Nat) : Nat := x / 2 ^ n + x % 2 ^ n * 2 ^ (64 - n)
def not64 (x : Nat) : Nat := 2 ^ 64 - 1 - x

/-- The message schedule, newest word first: `n` more words. -/
def shaSchedule : Nat → List Nat → List Nat
  | 0, w => w
  | n + 1, w =>
    match w with
    | _ :: y :: _ :: _ :: _ :: _ :: u :: _ :: _ :: _ :: _ :: _ :: _ :: _ :: x :: v :: _ =>
      let s0 := rotr64 1 x ^^^ rotr64 8 x ^^^ (x / 2 ^ 7)
      let s1 := rotr64 19 y ^^^ rotr64 61 y ^^^ (y / 2 ^ 6)
      shaSchedule n ((s1 + u + s0 + v) % 2 ^ 64 :: w)
    | _ => w

/-- One round over the working variables a to h. -/
def shaRound (l : List Nat) (kw : Nat × Nat) : List Nat :=
  match l with
  | [a, b, c, d, e, f, g, h] =>
    let s1 := rotr64 14 e ^^^ rotr64 18 e ^^^ rotr64 41 e
    let ch := (e &&& f) ^^^ (not64 e &&& g)
    let t1 := h + s1 + ch + kw.1 + kw.2
    let s0 := rotr64 28 a ^^^ rotr64 34 a ^^^ rotr64 39 a
    let maj := (a &&& b) ^^^ (a &&& c) ^^^ (b &&& c)
    [(t1 + s0 + maj) % 2 ^ 64, a, b, c, (d + t1) % 2 ^ 64, e, f, g]
  | _ => l

/-- One block of 128 bytes. -/
def shaBlock (h : List Nat) (m : List Byte) : List Nat :=
  let w := (List.range 16).map (fun i => beValue ((m.drop (8 * i)).take 8))
  let w := (shaSchedule 64 w.reverse).reverse
  let v := (shaK.zip w).foldl shaRound h
  (h.zip v).map (fun p => add64 p.1 p.2)

/-- All blocks. -/
def shaBlocks : Nat → List Nat → List Byte → List Nat
  | 0, h, _ => h
  | n + 1, h, m => shaBlocks n (shaBlock h (m.take 128)) (m.drop 128)

/-- SHA-384: 48 bytes. -/
def sha384 (m : List Byte) : List Byte :=
  let n := m.length
  let pad := m ++ 0x80 :: (List.replicate ((239 - n % 128) % 128) 0 ++ beBytes 16 (8 * n))
  ((shaBlocks (pad.length / 128) shaInit pad).take 6).flatMap (beBytes 8)

/-! ### ECDSA over P-384 -/

def p384P : Nat := 0xFFFFFFFFFFFFFFFFFFFFFFFFFFFFFFFFFFFFFFFFFFFFFFFFFFFFFFFFFFFFFFFEFFFFFFFF0000000000000000FFFFFFFF
def p384B : Nat := 0xB3312FA7E23EE7E4988E056BE3F82D19181D9C6EFE8141120314088F5013875AC656398D8A2ED19D2A85C8EDD3EC2AEF
def p384N : Nat := 0xFFFFFFFFFFFFFFFFFFFFFFFFFFFFFFFFFFFFFFFFFFFFFFFFC7634D81F4372DDF581A0DB248B0A77AECEC196ACCC52973
def p384G : Nat × Nat := (0xAA87CA22BE8B05378EB1C71EF320AD746E1D3B628BA79B9859F741E082542A385502F25DBF55296C3A545E3872760AB7, 0x3617DE4A96262C6F5D9E98BF9292DC29F8F41DBD289A147CE9DA3113B5F0B8C00A60B1CE1D7E819D7A431D7C90EA0E5F)

/-- A power modulo m, over the low n bits of the exponent. -/
def powMod (m : Nat) : Nat → Nat → Nat → Nat
  | 0, _, _ => 1 % m
  | n + 1, b, e =>
    let r := powMod m n (b * b % m) (e / 2)
    if e % 2 = 1 then r * b % m else r

/-- The inverse modulo a prime of 384 bits. -/
def invMod (m x : Nat) : Nat := powMod m 384 x (m - 2)

/-- a - b modulo the prime of the field, for b below it. -/
def p384Sub (a b : Nat) : Nat := (a + p384P - b) % p384P

/-- Twice a point in Jacobian coordinates: (X, Y, Z) stands for (X / Z^2, Y / Z^3), and Z = 0 for the point at infinity. -/
def ecDouble (q : Nat × Nat × Nat) : Nat × Nat × Nat :=
  let p := p384P
  let zz := q.2.2 * q.2.2 % p
  let yy := q.2.1 * q.2.1 % p
  let s := 4 * q.1 * yy % p
  let m := 3 * p384Sub q.1 zz * (q.1 + zz) % p
  let x := p384Sub (m * m) (2 * s % p)
  (x, p384Sub (m * p384Sub s x) (8 * yy * yy % p), 2 * q.2.1 * q.2.2 % p)

/-- The sum of two points in Jacobian coordinates. -/
def ecAdd (a b : Nat × Nat × Nat) : Nat × Nat × Nat :=
  let p := p384P
  if a.2.2 = 0 then b
  else if b.2.2 = 0 then a
  else
    let za := a.2.2 * a.2.2 % p
    let zb := b.2.2 * b.2.2 % p
    let u := a.1 * zb % p
    let s := a.2.1 * (b.2.2 * zb % p) % p
    let h := p384Sub (b.1 * za) u
    let r := p384Sub (b.2.1 * (a.2.2 * za % p)) s
    if h = 0 then (if r = 0 then ecDouble a else (1, 1, 0))
    else
      let hh := h * h % p
      let uh := u * hh % p
      let x := p384Sub (p384Sub (r * r) (h * hh % p)) (2 * uh % p)
      (x, p384Sub (r * p384Sub uh x) (s * (h * hh % p) % p), a.2.2 * b.2.2 % p * h % p)

/-- k times a point, over the low n bits of k. -/
def ecMul : Nat → Nat → Nat × Nat × Nat → Nat × Nat × Nat
  | 0, _, _ => (1, 1, 0)
  | n + 1, k, q =>
    let r := ecMul n (k / 2) (ecDouble q)
    if k % 2 = 1 then ecAdd q r else r

/-- Whether a signature (r, then s) over a hash is valid under an uncompressed public key (SEC 1). -/
def ecdsaValid (key hash sig : List Byte) : Bool :=
  let x := beValue ((key.drop 1).take 48)
  let y := beValue ((key.drop 49).take 48)
  let r := beValue (sig.take 48)
  let s := beValue ((sig.drop 48).take 48)
  let n := p384N
  let p := p384P
  if key.length ≠ 97 ∨ key.head? ≠ some 4 ∨ p ≤ x ∨ p ≤ y ∨ (y * y) % p ≠ (x * x * x + (p - 3) * x + p384B) % p then false
  else if r = 0 ∨ n ≤ r ∨ s = 0 ∨ n ≤ s then false
  else
    let w := invMod n s
    let q := ecAdd (ecMul 384 (beValue hash * w % n) (p384G.1, p384G.2, 1)) (ecMul 384 (r * w % n) (x, y, 1))
    q.2.2 != 0 && q.1 * invMod p (q.2.2 * q.2.2 % p) % p % n == r

end Sys2Proof
end

