-- ==== Sys2Proof/Machine/Access.lean ====
section
/-! DEFINITION. Memory accesses by address (R22 to R25): which range an address lies in, who owns it, and whether a
requester may touch it. -/

namespace Sys2Proof.Machine

/-- The ranges of the address map (R22). -/
inductive Region where
  | rom | sram | localSram (n : Nat) | regs | gbb | snap | mram | nor | lpddr (c : Nat) | none
  deriving DecidableEq, Repr

/-- Bytes of the navigation rings (R249). -/
def navBytes : Nat := 512 * 0x1000

/-- The range that holds every one of n bytes from an address, if it is populated (R22). -/
def regionOf (a n : Nat) : Region :=
  let inR : Nat → Nat → Bool := fun lo size => decide (lo ≤ a) && decide (a + n ≤ lo + size)
  if inR 0x0000000000 0x40000 then .rom
  else if inR 0x0010000000 0x800000 then .sram
  else if 0x0100000000 ≤ a ∧ a < 0x0110000000 then
    let e := (a - 0x0100000000) / 0x01000000
    if inR (0x0100000000 + e * 0x01000000) (if e < 12 then 0x40000 else 0x100000) then .localSram e else .none
  else if 0x0200000000 ≤ a ∧ a < 0x0200300000 then (if isIsland ((a - 0x0200000000) / 0x10000) then .regs else .none)
  else if inR 0x0300000000 0x20000 then .gbb
  else if inR 0x0301000000 0xB000 ∨ inR 0x0301100000 0xB000 ∨ inR 0x0301200000 navBytes then .snap
  else if inR 0x0400000000 0x1000000 then .mram
  else if inR 0x0800000000 0x10000000 then .nor
  else if 0x1000000000 ≤ a ∧ a + n ≤ 0x1200000000 then .lpddr ((a - 0x1000000000) / 0x80000000)
  else .none

/-- The island that owns an address (R23). -/
def ownerOf (a : Nat) : Nat :=
  match regionOf a 1 with
  | .rom => iSYS
  | .sram => iMEM
  | .mram => iMEM
  | .nor => iMEM
  | .localSram n => iENG n
  | .lpddr c => iENG (12 + c)
  | .regs => (a - 0x0200000000) / 0x10000
  | .gbb => iGBB
  | .snap => iGOB
  | .none => if 0x0301000000 ≤ a ∧ a < 0x0302000000 then iGOB else iSYS

/-- Whether bytes of the failed MRAM device are touched (R47). -/
def State.mramFailed (s : State) (a : Nat) : Bool :=
  if a < 0x0400800000 then s.memc.failA else s.memc.failB

/-- Whether an MRAM write is refused with NOT_OWNER: the device persistent state (R25) to all but REF, the active
settings set during a trial, until confirmation lifts that (R515, R517). -/
def State.mramOwned (s : State) (req a n : Nat) : Bool :=
  let hit : Nat → Nat → Bool := fun lo size => decide (lo < a + n) && decide (a < lo + size)
  ((hit 0x04006A0000 0x10000 || hit 0x0400C00000 0x10000) && epIsl req != iREF) ||
    (hit 0x0400620000 0x80000 && (s.f UPD_STATUS_STATE == 8 || s.f UPD_STATUS_STATE == 9))

/-- The status of an access of n bytes at a, by a requester, to memory (R22, R23, R25, R47, R238, R500, R515); NO_ROUTE
and FENCED where the island that owns it is OFF or FENCED (log entry 15). -/
def State.memCheck (s : State) (req a n : Nat) (write : Bool) : Nat :=
  let own := ownerOf a
  if s.ist own = 5 then cFENCED
  else if s.ist own = 0 ∧ 0x10 ≤ own then cNO_ROUTE
  else match regionOf a n with
    | .none => cRANGE
    | .rom => if write then cRANGE else cOK
    | .snap => if write then cRANGE else cOK
    | .nor => if write then cNOT_OWNER else cOK
    | .mram =>
      if s.mramFailed a then cFENCED
      else if write && s.mramOwned req a n then cNOT_OWNER else cOK
    | _ => cOK

/-- An access reaches an island that is GATED: it wakes and serves it (R31, R34; log entry 16). -/
def State.wakeFor (s : State) (isl : Nat) : State :=
  if s.ist isl = 1 then
    let s := (s.inc (ISL_PSTATE_WAKE_COUNT isl)).setF (ISL_PSTATE_STATE isl) 3
    { s with idleSince := Tab.set (fun _ => 0) s.idleSince isl s.now }
  else s

/-- Read n bytes of memory for a requester: the status, the bytes, and the state with a refusal recorded. -/
def State.memRead (s : State) (req a n : Nat) : Nat × List Byte × State :=
  let c := s.memCheck req a n false
  if c = cOK then (c, s.rdBytes a n, s) else (c, [], s.refuse (ownerOf a) a req false c)

/-- Write bytes to memory for a requester. -/
def State.memWrite (s : State) (req a : Nat) (bs : List Byte) : Nat × State :=
  let c := s.memCheck req a bs.length true
  if c = cOK then (c, s.wrBytes a bs) else (c, s.refuse (ownerOf a) a req true c)

/-- Whether a block of n bytes lies in shared SRAM or LPDDR5 (or, where allowed, MRAM), as command blocks must. -/
def blockIn (a n : Nat) (mramToo : Bool) : Bool :=
  match regionOf a n with
  | .sram => true
  | .lpddr _ => true
  | .mram => mramToo
  | _ => false

end Sys2Proof.Machine
end

