-- ==== Sys2Proof/Machine/BxlBase.lean ====
section
/-! DEFINITION. The message layer of Bexlink that other islands stand on (R478, R480, R491). -/

namespace Sys2Proof.Machine

def State.pair (s : State) (p : Nat) : BxlPair := Tab.get (fun _ => BxlPair.fresh) s.bxl.pairs p
def State.setPair (s : State) (p : Nat) (x : BxlPair) : State :=
  { s with bxl := { s.bxl with pairs := Tab.set (fun _ => BxlPair.fresh) s.bxl.pairs p x } }

/-- This member's Roster position. -/
def State.pos' (s : State) : Nat := s.f BXL_STATUS_POSITION

/-- Whether this module is Captain; a standalone module is its own. -/
def State.captain (s : State) : Bool := s.on BXL_STATUS_CAPTAIN || !s.inStack

/-- Bexlink works: UP, LEAVING, or joining. -/
def State.bxlUp (s : State) : Bool :=
  let st := s.f BXL_STATUS_STATE
  (st == 1 || st == 2 || st == 4) && s.ist iBXL != 5 && s.ist iBXL != 0

/-- The Roster entries that count: MEMBER, JOINING or LEAVING (R476). -/
def State.liveAt (s : State) (p : Nat) : Bool := 1 ≤ (s.ros p).st && (s.ros p).st ≤ 3

/-- The other members that count. -/
def State.others (s : State) : List Nat := idxWhere 16 (fun p => s.liveAt p && p != s.pos')

/-- Whether an item that came from a member is not yet acknowledged (R483). -/
def State.itemOpen (s : State) (pos : Nat) : Bool :=
  s.memc.itemWrites.any (fun w => match w.origin with | .bexlink p _ _ => p == pos | _ => false) ||
    s.acts.any (fun a => match a with
      | .item w _ => (match w.origin with | .bexlink p _ _ => p == pos | _ => false)
      | _ => false)

/-- An acknowledgement in order: it waits while an earlier item of the same sender has none. -/
def State.bxlAckIn (s : State) (dst num status : Nat) : State :=
  if s.itemOpen dst then { s with bxl := { s.bxl with ackHold := s.bxl.ackHold ++ [(dst, num, status)] } }
  else s.bxlAck dst num status

/-- An ACK in the place of a failed member (R492). -/
def State.bxlAckFor (s : State) (m : BxlMsg) (status : Nat) : State :=
  { s with bxl := { s.bxl with out := s.bxl.out ++
      [⟨0x01, 0, m.dst, m.src, s.f BXL_STATUS_EPOCH, 0, leBytes 4 m.num ++ leBytes 1 status ++ leBytes 3 0⟩] } }

/-- Whether the guest mirror holds an item of a message, matched by its stamp or by its number (R492). -/
def State.guestHas (s : State) (m : BxlMsg) : Bool :=
  s.bxl.guest.any (fun r => r.kind == 1 && r.source == 4 && fld r.payload 8 1 == m.src &&
    ((fld r.payload 0 8 == fld m.body 16 8 && fld m.body 16 8 != 0) || r.sref == m.num))

/-- A message arrives (R478, R480): one for another member is passed on, or answered in the place of a partner that failed
(R492); one for this member is processed if it is the next of its pair, with the outcome sent in an ACK unless `serve`
leaves that for later, answered DUPLICATE if it is not newer than the last one taken, and otherwise dropped. A message
answered BUSY comes again, so it does not count as accepted (log entry 30). -/
def State.bxlIn (s : State) (m : BxlMsg) (serve : State → Option Nat × State) : State :=
  if s.bxlUp = false then s
  else if m.dst ≠ s.pos' then
    if (s.ros m.dst).st = 4 ∧ (s.ros m.dst).served = s.pos' then
      s.bxlAckFor m (if m.kind == 3 && s.guestHas m then cDUPLICATE else cNO_ROUTE)
    else { s with bxl := { s.bxl with out := s.bxl.out ++ [m] } }
  else
    let h := (s.pair m.src).accepted
    let d := (m.num + 2 ^ 32 - h) % 2 ^ 32
    if d = 1 then
      let r := serve (s.setPair m.src { s.pair m.src with accepted := m.num })
      match r.1 with
      | none => r.2
      | some st =>
        let s := if st = cBUSY then r.2.setPair m.src { r.2.pair m.src with accepted := h } else r.2
        (s.bxlAckIn m.src m.num st).ans st
    else if d = 0 ∨ 2 ^ 31 ≤ d then (s.bxlAckIn m.src m.num cDUPLICATE).ans cDUPLICATE
    else s

/-- Cut a string into pieces of n bytes; at least one piece. -/
def pieces (n : Nat) : Nat → List Byte → List (List Byte)
  | 0, b => [b]
  | k + 1, b => if b.length ≤ n then [b] else b.take n :: pieces n k (b.drop n)

/-- A ZON message (R491): its content in parts of at most 1,008 bytes. `info` stands at offset 8 and `more` at 12. -/
def State.zonSend (s : State) (dst prio op status txn info more : Nat) (content : List Byte) : State :=
  let ps := pieces 1008 16 content
  (List.range ps.length).foldl (fun s k =>
    s.bxlSend dst 0x08 prio (leBytes 1 op ++ leBytes 1 status ++ leBytes 1 k ++ leBytes 1 ps.length ++ leBytes 4 txn ++
      leBytes 4 info ++ leBytes 4 more ++ ps.getD k [])) s

end Sys2Proof.Machine
end

