-- ==== Sys2Proof/Machine/Float.lean ====
section
/-! DEFINITION. IEEE 754 binary32 and binary64 arithmetic in full (R91): exact results in integers, one rounding, the
five flags, canonical NaNs. -/

namespace Sys2Proof

/-- A format by its exponent and fraction bits. -/
structure Fmt where
  ebits : Nat
  mbits : Nat
  deriving DecidableEq, Repr

def fmt32 : Fmt := ⟨8, 23⟩
def fmt64 : Fmt := ⟨11, 52⟩

/-- The format P selects (R92, R94). -/
def fmtOf (p : Bool) : Fmt := if p then fmt64 else fmt32

/-- Bits of a format. -/
def Fmt.width (f : Fmt) : Nat := 1 + f.ebits + f.mbits

/-- A number of a format: a NaN (signalling or quiet), an infinity, a zero, or m × 2^e with m > 0. -/
inductive FP where
  | nan (signalling : Bool)
  | inf (neg : Bool)
  | zero (neg : Bool)
  | fin (neg : Bool) (m : Nat) (e : Int)
  deriving DecidableEq, Repr

/-- The exponent of the last place of the smallest numbers. -/
def Fmt.qmin (f : Fmt) : Int := 2 - Int.ofNat (2 ^ (f.ebits - 1)) - Int.ofNat f.mbits

/-- The encoding of +∞. -/
def Fmt.infBits (f : Fmt) : Nat := (2 ^ f.ebits - 1) * 2 ^ f.mbits

/-- The canonical quiet NaN (R91). -/
def Fmt.qnan (f : Fmt) : Nat := f.infBits + 2 ^ (f.mbits - 1)

/-- The sign bit in place. -/
def Fmt.signed (f : Fmt) (neg : Bool) (v : Nat) : Nat := if neg then v + 2 ^ (f.ebits + f.mbits) else v

/-- The number a string of bits stands for. -/
def Fmt.unpack (f : Fmt) (v : Nat) : FP :=
  let man := v % 2 ^ f.mbits
  let ex := v / 2 ^ f.mbits % 2 ^ f.ebits
  let neg := bit v (f.ebits + f.mbits)
  if ex = 2 ^ f.ebits - 1 then (if man = 0 then .inf neg else .nan (man < 2 ^ (f.mbits - 1)))
  else if ex = 0 then (if man = 0 then .zero neg else .fin neg man f.qmin)
  else .fin neg (man + 2 ^ f.mbits) (f.qmin + Int.ofNat (ex - 1))

/-- Flags in the order of FCSR [8:4]: NV 16, DZ 8, OF 4, UF 2, NX 1. -/
def fNV : Nat := 16
def fDZ : Nat := 8
def fOF : Nat := 4
def fUF : Nat := 2
def fNX : Nat := 1

/-- Whether a magnitude is raised by one: rounding mode, sign, oddness, and the cut part against one half (0 none,
1 below, 2 half, 3 above). -/
def roundUpQ (rm : Nat) (neg odd : Bool) (cut : Nat) : Bool :=
  if cut = 0 then false
  else match rm with
    | 0 => cut == 3 || (cut == 2 && odd)
    | 1 => false
    | 2 => neg
    | 3 => !neg
    | _ => decide (2 ≤ cut)

/-- (m + δ) × 2^e cut to a multiple of 2^q with 0 < δ < 1 where sticky: the rounded multiple and whether it is inexact. -/
def cutTo (rm : Nat) (neg : Bool) (m : Nat) (e : Int) (sticky : Bool) (q : Int) : Nat × Bool :=
  if q ≤ e then (m * 2 ^ (e - q).toNat, sticky)
  else
    let sh := (q - e).toNat
    let k := m / 2 ^ sh
    let r := m % 2 ^ sh
    let half := 2 ^ (sh - 1)
    let cut := if r = 0 ∧ sticky = false then 0 else if r < half then 1
      else if r = half ∧ sticky = false then 2 else 3
    ((if roundUpQ rm neg (k % 2 == 1) cut then k + 1 else k), cut != 0)

/-- (m + δ) × 2^e, m > 0, rounded into a format: the bits and the flags. -/
def Fmt.round (f : Fmt) (rm : Nat) (neg : Bool) (m : Nat) (e : Int) (sticky : Bool) : Nat × Nat :=
  let top := Int.ofNat m.log2 + e
  let qn := top - Int.ofNat f.mbits
  let q := max qn f.qmin
  let c := cutTo rm neg m e sticky q
  let enc := (q - f.qmin).toNat * 2 ^ f.mbits + c.1
  if f.infBits ≤ enc then
    let toInf := rm == 0 || rm == 4 || (rm == 2 && neg) || (rm == 3 && !neg)
    (f.signed neg (if toInf then f.infBits else f.infBits - 1), fOF + fNX)
  else
    let tinyBefore := decide (qn < f.qmin)
    let u := cutTo rm neg m e sticky qn
    let tinyAfter := tinyBefore && decide (u.1 < 2 ^ (f.mbits + 1 + (f.qmin - 1 - qn).toNat))
    let tiny := if Config.tinyAfterRounding then tinyAfter else tinyBefore
    (f.signed neg enc, if c.2 then (if tinyBefore && tiny then fUF + fNX else fNX) else 0)

/-- The exact sum of two signed magnitudes rounded; an exact zero is +0, and -0 when rounding down. -/
def Fmt.addFin (f : Fmt) (rm : Nat) (n1 : Bool) (m1 : Nat) (e1 : Int) (n2 : Bool) (m2 : Nat) (e2 : Int) : Nat × Nat :=
  let e := min e1 e2
  let a := Int.ofNat (m1 * 2 ^ (e1 - e).toNat)
  let b := Int.ofNat (m2 * 2 ^ (e2 - e).toNat)
  let t := (if n1 then -a else a) + (if n2 then -b else b)
  if t = 0 then (f.signed (rm == 2) 0, 0)
  else f.round rm (decide (t < 0)) t.natAbs e false

/-- A NaN result: canonical, with NV where an operand signals. -/
def Fmt.nanOf (f : Fmt) (sig : Bool) : Nat × Nat := (f.qnan, if sig then fNV else 0)

def FP.isNaN : FP → Bool
  | .nan _ => true
  | _ => false

def FP.isSig : FP → Bool
  | .nan s => s
  | _ => false

/-- Sum. -/
def Fmt.add (f : Fmt) (rm : Nat) (x y : FP) : Nat × Nat :=
  match x, y with
  | .nan a, y => f.nanOf (a || y.isSig)
  | _, .nan b => f.nanOf b
  | .inf a, .inf b => if a = b then (f.signed a f.infBits, 0) else (f.qnan, fNV)
  | .inf a, _ => (f.signed a f.infBits, 0)
  | _, .inf b => (f.signed b f.infBits, 0)
  | .zero a, .zero b => (f.signed (if a = b then a else rm == 2) 0, 0)
  | .zero _, .fin n m e => f.round rm n m e false
  | .fin n m e, .zero _ => f.round rm n m e false
  | .fin n1 m1 e1, .fin n2 m2 e2 => f.addFin rm n1 m1 e1 n2 m2 e2

/-- The negative of a number; a NaN stays. -/
def FP.neg : FP → FP
  | .nan s => .nan s
  | .inf n => .inf (!n)
  | .zero n => .zero (!n)
  | .fin n m e => .fin (!n) m e

/-- Product. -/
def Fmt.mul (f : Fmt) (rm : Nat) (x y : FP) : Nat × Nat :=
  match x, y with
  | .nan a, y => f.nanOf (a || y.isSig)
  | _, .nan b => f.nanOf b
  | .inf a, .inf b => (f.signed (a != b) f.infBits, 0)
  | .inf _, .zero _ => (f.qnan, fNV)
  | .zero _, .inf _ => (f.qnan, fNV)
  | .inf a, .fin n _ _ => (f.signed (a != n) f.infBits, 0)
  | .fin n _ _, .inf b => (f.signed (n != b) f.infBits, 0)
  | .zero a, .zero b => (f.signed (a != b) 0, 0)
  | .zero a, .fin n _ _ => (f.signed (a != n) 0, 0)
  | .fin n _ _, .zero b => (f.signed (n != b) 0, 0)
  | .fin n1 m1 e1, .fin n2 m2 e2 => f.round rm (n1 != n2) (m1 * m2) (e1 + e2) false

/-- Quotient. -/
def Fmt.div (f : Fmt) (rm : Nat) (x y : FP) : Nat × Nat :=
  match x, y with
  | .nan a, y => f.nanOf (a || y.isSig)
  | _, .nan b => f.nanOf b
  | .inf _, .inf _ => (f.qnan, fNV)
  | .zero _, .zero _ => (f.qnan, fNV)
  | .inf a, .zero b => (f.signed (a != b) f.infBits, 0)
  | .inf a, .fin n _ _ => (f.signed (a != n) f.infBits, 0)
  | .zero a, .inf b => (f.signed (a != b) 0, 0)
  | .fin n _ _, .inf b => (f.signed (n != b) 0, 0)
  | .zero a, .fin n _ _ => (f.signed (a != n) 0, 0)
  | .fin n _ _, .zero b => (f.signed (n != b) f.infBits, fDZ)
  | .fin n1 m1 e1, .fin n2 m2 e2 =>
    let k := f.mbits + 4 + m2.log2
    f.round rm (n1 != n2) (m1 * 2 ^ k / m2) (e1 - e2 - Int.ofNat k) (m1 * 2 ^ k % m2 != 0)

/-- The integer square root of n, found bit by bit from bit k - 1 down. -/
def isqrt (n : Nat) : Nat → Nat → Nat
  | 0, r => r
  | k + 1, r => isqrt n k (if (r + 2 ^ k) * (r + 2 ^ k) ≤ n then r + 2 ^ k else r)

/-- Square root. -/
def Fmt.sqrt (f : Fmt) (rm : Nat) (x : FP) : Nat × Nat :=
  match x with
  | .nan a => f.nanOf a
  | .zero n => (f.signed n 0, 0)
  | .inf false => (f.infBits, 0)
  | .inf true => (f.qnan, fNV)
  | .fin true _ _ => (f.qnan, fNV)
  | .fin false m e =>
    let k := 2 * (f.mbits + 4)
    let k := if (e - Int.ofNat k) % 2 = 0 then k else k + 1
    let n := m * 2 ^ k
    let r := isqrt n (n.log2 / 2 + 1) 0
    f.round rm false r ((e - Int.ofNat k) / 2) (r * r != n)

/-- x × y + z with one rounding (R93). -/
def Fmt.fma (f : Fmt) (rm : Nat) (x y z : FP) : Nat × Nat :=
  let bad := match x, y with
    | .inf _, .zero _ => true
    | .zero _, .inf _ => true
    | _, _ => false
  if x.isNaN || y.isNaN || z.isNaN then
    (f.qnan, if x.isSig || y.isSig || z.isSig || (bad && Config.fmaNaNInvalid) then fNV else 0)
  else if bad then (f.qnan, fNV)
  else match x, y with
    | .fin n1 m1 e1, .fin n2 m2 e2 => f.add rm (.fin (n1 != n2) (m1 * m2) (e1 + e2)) z
    | .inf a, .inf b => f.add rm (.inf (a != b)) z
    | .inf a, .fin n _ _ => f.add rm (.inf (a != n)) z
    | .fin n _ _, .inf b => f.add rm (.inf (n != b)) z
    | .zero a, .zero b => f.add rm (.zero (a != b)) z
    | .zero a, .fin n _ _ => f.add rm (.zero (a != n)) z
    | .fin n _ _, .zero b => f.add rm (.zero (n != b)) z
    | _, _ => (f.qnan, fNV)

/-- The order of two numbers that are no NaN: less, equal or greater; the zeros are equal. -/
def FP.cmp (x y : FP) : Ordering :=
  let key : FP → Int × Nat × Int := fun v => match v with
    | .inf true => (-2, 0, 0)
    | .inf false => (2, 0, 0)
    | .zero _ => (0, 0, 0)
    | .fin n m e => (if n then -1 else 1, m, e)
    | .nan _ => (0, 0, 0)
  let a := key x
  let b := key y
  if a.1 ≠ b.1 then compare a.1 b.1
  else if a.1 = 1 ∨ a.1 = -1 then
    let e := min a.2.2 b.2.2
    let p := a.2.1 * 2 ^ (a.2.2 - e).toNat
    let q := b.2.1 * 2 ^ (b.2.2 - e).toNat
    if a.1 = 1 then compare p q else compare q p
  else .eq

def FP.isNeg : FP → Bool
  | .nan _ => false
  | .inf n => n
  | .zero n => n
  | .fin n _ _ => n

/-- Whether x counts as the smaller of two, with -0 below +0 (R92). -/
def FP.below (x y : FP) : Bool :=
  match FP.cmp x y with
  | .lt => true
  | .gt => false
  | .eq => x.isNeg && !y.isNeg

/-- FMIN and FMAX (R92): one NaN operand yields the other operand; a signalling NaN sets NV (log entry 14). -/
def Fmt.minmax (f : Fmt) (isMax : Bool) (a b : Nat) : Nat × Nat :=
  let x := f.unpack a
  let y := f.unpack b
  let fl := if x.isSig || y.isSig then fNV else 0
  if x.isNaN && y.isNaN then (f.qnan, fl)
  else if x.isNaN then (b % 2 ^ f.width, fl)
  else if y.isNaN then (a % 2 ^ f.width, fl)
  else (((if (if isMax then FP.below y x else FP.below x y) then a else b) % 2 ^ f.width), fl)

/-- FEQ, FLT, FLE (R92): the truth and the flags. -/
def fcompare (op : Nat) (x y : FP) : Bool × Nat :=
  if x.isNaN || y.isNaN then (false, if op = 0 then (if x.isSig || y.isSig then fNV else 0) else fNV)
  else
    let c := FP.cmp x y
    ((if op = 0 then c == .eq else if op = 1 then c == .lt else c != .gt), 0)

/-- FCLASS (R92): one-hot, bit 0 for −∞ up to bit 9 for a quiet NaN. -/
def Fmt.fclass (f : Fmt) (v : Nat) : Nat :=
  match f.unpack v with
  | .inf true => 1
  | .inf false => 128
  | .zero true => 8
  | .zero false => 16
  | .nan true => 256
  | .nan false => 512
  | .fin n m _ =>
    let sub := decide (m < 2 ^ f.mbits)
    if n then (if sub then 4 else 2) else (if sub then 32 else 64)

/-- FCVT.I (R92): the integer of a number by the rounding mode, cut to [lo, hi] with NV, a NaN giving hi. -/
def fpToInt (rm : Nat) (lo hi : Int) (x : FP) : Int × Nat :=
  match x with
  | .nan _ => (hi, fNV)
  | .inf n => (if n then lo else hi, fNV)
  | .zero _ => (0, 0)
  | .fin n m e =>
    let c := cutTo rm n m e false 0
    let v : Int := if n then -Int.ofNat c.1 else Int.ofNat c.1
    if v < lo then (lo, fNV) else if hi < v then (hi, fNV) else (v, if c.2 then fNX else 0)

/-- FCVT.F (R92): an integer rounded into a format. -/
def Fmt.ofInt (f : Fmt) (rm : Nat) (v : Int) : Nat × Nat :=
  if v = 0 then (0, 0) else f.round rm (decide (v < 0)) v.natAbs 0 false

/-- FCVT.P (R92): a number of one format in another. -/
def Fmt.convert (f : Fmt) (rm : Nat) (x : FP) : Nat × Nat :=
  match x with
  | .nan s => f.nanOf s
  | .inf n => (f.signed n f.infBits, 0)
  | .zero n => (f.signed n 0, 0)
  | .fin n m e => f.round rm n m e false

end Sys2Proof
end

