-- ==== Sys2Proof/Machine/F64.lean ====
section
/-! DEFINITION. Binary64 computations of the islands (R194, R196 and the like), on encodings, rounded to nearest even;
and the conversions between them and the integers of registers and records. -/

namespace Sys2Proof

def dAdd (a b : Nat) : Nat := (fmt64.add 0 (fmt64.unpack a) (fmt64.unpack b)).1
def dMul (a b : Nat) : Nat := (fmt64.mul 0 (fmt64.unpack a) (fmt64.unpack b)).1
def dDiv (a b : Nat) : Nat := (fmt64.div 0 (fmt64.unpack a) (fmt64.unpack b)).1
def dSqrt (a : Nat) : Nat := (fmt64.sqrt 0 (fmt64.unpack a)).1
/-- The negative: the sign bit turned over. -/
def dNeg (a : Nat) : Nat := if bit a 63 then a - 2 ^ 63 else a + 2 ^ 63
/-- The magnitude: the sign bit cleared. -/
def dAbs (a : Nat) : Nat := a % 2 ^ 63
def dSub (a b : Nat) : Nat := dAdd a (dNeg b)
def dLt (a b : Nat) : Bool := (fcompare 1 (fmt64.unpack a) (fmt64.unpack b)).1
def dLe (a b : Nat) : Bool := (fcompare 2 (fmt64.unpack a) (fmt64.unpack b)).1
/-- Whether a is a zero of either sign. -/
def dIsZero (a : Nat) : Bool := a % 2 ^ 63 == 0

/-- An integer as a binary64. -/
def dInt (i : Int) : Nat := (fmt64.ofInt 0 i).1

def dNat (n : Nat) : Nat := dInt (Int.ofNat n)

/-- The quotient of two integers as a binary64: a decimal constant, or an integer in a unit. -/
def dRat (n : Int) (d : Nat) : Nat := dDiv (dInt n) (dNat d)

/-- A quotient with a zero denominator giving 0 (R195). -/
def dDiv0 (a b : Nat) : Nat := if dIsZero b then 0 else dDiv a b

/-- The square of a magnitude, x² + y². -/
def dSq2 (x y : Nat) : Nat := dAdd (dMul x x) (dMul y y)

/-- The mean of a list, summed in order; 0 for none. -/
def dMean (l : List Nat) : Nat := if l.isEmpty then 0 else dDiv (l.foldl dAdd 0) (dNat l.length)

/-- The exact remainder of a by b, with the sign of a (C's fmod); a is finite and b > 0. -/
def dMod (a b : Nat) : Nat :=
  match fmt64.unpack a, fmt64.unpack b with
  | .fin n m e, .fin _ k f =>
    let g := min e f
    let r := m * 2 ^ (e - g).toNat % (k * 2 ^ (f - g).toNat)
    if r = 0 then fmt64.signed n 0 else (fmt64.round 0 n r g false).1
  | _, _ => a

/-- A binary64 in a record's or register's integer field of w bits. How a value between two steps of the field is
rounded and what a value beyond the field gives are open (log entry 18). -/
def dField (w : Nat) (sgn : Bool) (a : Nat) : Nat :=
  let lo : Int := if sgn then -Int.ofNat (2 ^ (w - 1)) else 0
  let hi : Int := if sgn then Int.ofNat (2 ^ (w - 1)) - 1 else Int.ofNat (2 ^ w) - 1
  let r := fpToInt (Config.fieldRounding % 5) lo hi (fmt64.unpack a)
  if bit r.2 4 then (Config.beyondField w a).toNat else unsigned w r.1

/-- A product with a power of ten or two written as a natural number. -/
def dScale (a k : Nat) : Nat := dMul a (dNat k)

/-- The fixed-point value of a binary64 ≥ 0 in units of 2^-n, cut to whole units. -/
def dFloor (n : Nat) (a : Nat) : Nat := (fpToInt 1 0 (Int.ofNat (2 ^ 80)) (fmt64.unpack (dMul a (dNat (2 ^ n))))).1.toNat

end Sys2Proof
end

