-- ==== Sys2Proof/Machine/Signal.lean ====
section
/-! DEFINITION. The signals of R184: what each code says of a channel's components. -/

namespace Sys2Proof.Machine

/-- A signal: band group; carrier in Hz; chip rate of the table; chip rate and primary code length of the loop component;
U in ms; whether the loop component is a pilot; its secondary length (0: none); symbol period in ms; primary period in ms
and secondary length of the data component; BOC; range of numbers. On L2C the loop component is CL, of half the table's
rate (log entry 20). -/
structure Sig where
  g : Nat
  carrier : Nat
  rate : Nat
  chip : Nat
  len : Nat
  u : Nat
  pilot : Bool
  sec : Nat
  sym : Nat
  dPrim : Nat
  dSec : Nat
  boc : Bool
  lo : Nat
  hi : Nat
  deriving DecidableEq, Repr

/-- The signal of a code and, where its row depends on it, a number; none for a reserved code. -/
def sigOf (code num : Nat) : Option Sig :=
  let bds : Nat × Nat := if 6 ≤ num ∧ num ≤ 58 then (20, 20) else (0, 2)
  match code with
  | 0x00 => some ⟨0, 1575420000, 1023000, 1023000, 1023, 1, false, 0, 20, 1, 0, false, 1, 32⟩
  | 0x01 => some ⟨0, 1575420000, 1023000, 1023000, 10230, 10, true, 1800, 10, 10, 0, true, 1, 63⟩
  | 0x02 => some ⟨1, 1227600000, 1023000, 511500, 767250, 20, true, 0, 20, 20, 0, false, 1, 63⟩
  | 0x03 => some ⟨2, 1176450000, 10230000, 10230000, 10230, 1, true, 20, 10, 1, 10, false, 1, 32⟩
  | 0x04 => some ⟨0, 1602000000 + 562500 * num - 562500 * 8, 511000, 511000, 511, 1, false, 0, 10, 1, 0, false, 1, 14⟩
  | 0x05 => some ⟨1, 1246000000 + 437500 * num - 437500 * 8, 511000, 511000, 511, 1, false, 0, 10, 1, 0, false, 1, 14⟩
  | 0x06 => some ⟨2, 1202025000, 10230000, 10230000, 10230, 1, true, 10, 5, 1, 5, false, 1, 32⟩
  | 0x07 => some ⟨0, 1575420000, 1023000, 1023000, 4092, 4, true, 25, 4, 4, 0, true, 1, 50⟩
  | 0x08 => some ⟨2, 1176450000, 10230000, 10230000, 10230, 1, true, 100, 20, 1, 20, false, 1, 50⟩
  | 0x09 => some ⟨2, 1207140000, 10230000, 10230000, 10230, 1, true, 100, 4, 1, 4, false, 1, 50⟩
  | 0x0A => some ⟨1, 1278750000, 5115000, 5115000, 5115, 1, true, 100, 1, 1, 0, false, 1, 50⟩
  | 0x0B => some ⟨0, 1561098000, 2046000, 2046000, 2046, 1, false, bds.1, bds.2, 1, bds.1, false, 1, 63⟩
  | 0x0C => some ⟨0, 1575420000, 1023000, 1023000, 10230, 10, true, 1800, 10, 10, 0, true, 1, 63⟩
  | 0x0D => some ⟨2, 1176450000, 10230000, 10230000, 10230, 1, true, 100, 5, 1, 5, false, 1, 63⟩
  | 0x0E => some ⟨1, 1268520000, 10230000, 10230000, 10230, 1, false, bds.1, bds.2, 1, bds.1, false, 1, 63⟩
  | 0x0F => some ⟨0, 1575420000, 1023000, 1023000, 1023, 1, false, 0, 20, 1, 0, false, 193, 202⟩
  | 0x10 => some ⟨0, 1575420000, 1023000, 1023000, 10230, 10, true, 1800, 10, 10, 0, true, 193, 202⟩
  | 0x11 => some ⟨1, 1227600000, 1023000, 511500, 767250, 20, true, 0, 20, 20, 0, false, 193, 202⟩
  | 0x12 => some ⟨2, 1176450000, 10230000, 10230000, 10230, 1, true, 20, 10, 1, 10, false, 193, 202⟩
  | 0x13 => some ⟨2, 1176450000, 1023000, 1023000, 1023, 1, false, 0, 20, 1, 0, false, 1, 14⟩
  | 0x14 => some ⟨0, 1575420000, 1023000, 1023000, 1023, 1, false, 0, 2, 1, 0, false, 120, 158⟩
  | _ => none

/-- Whether a signal is L2C, whose loop component is the CL code. -/
def isL2C (code : Nat) : Bool := code == 0x02 || code == 0x11

/-- The base of a searcher's NUMBERS mask (R209). -/
def numBase (code : Nat) : Nat := if 0x0F ≤ code ∧ code ≤ 0x12 then 193 else if code = 0x14 then 120 else 1

end Sys2Proof.Machine
end

