-- ==== Sys2Proof/Machine/Smp.lean ====
section
/-! DEFINITION. Sample ports (R173 to R183). -/

namespace Sys2Proof.Machine

def SmpPort.fresh : SmpPort := ⟨[], none, false, []⟩

def State.port (s : State) (p : Nat) : SmpPort := Tab.get (fun _ => SmpPort.fresh) s.smp p

def State.setPort (s : State) (p : Nat) (x : SmpPort) : State :=
  { s with smp := Tab.set (fun _ => SmpPort.fresh) s.smp p x }

/-- Whether a port replaces samples with 0 (R180). -/
def State.blanking (s : State) (p : Nat) : Bool :=
  s.on (SMPn_CFG_BLANK_EN p) && ((s.port p).level != s.on (SMPn_CFG_BLANK_POL p))

/-- A port notice (R182). -/
def State.portNotice (s : State) (p g kind : Nat) : State :=
  s.notice (ep (iSMP p) 0) (s.f (SMPn_SPI_NOTICE_EP p)) (s.f (SMPn_SPI_NOTICE_TAG p))
    (s.now % 2 ^ 32 * 2 ^ 32 + (4 * p + g) * 2 ^ 8 + kind) false

/-- Whether a stream is enabled and locked. -/
def State.streamOk (s : State) (sid : Nat) : Bool :=
  decide (sid % 4 < 3) && s.on (SMPn_Sg_CFG_ENABLE (sid / 4) (sid % 4)) &&
    s.on (SMPn_Sg_STAT_LOCKED (sid / 4) (sid % 4))

/-- The stream a queued searcher command names: in its block, or its channel's for a reacquisition. -/
def State.cmdStream (s : State) (c : SrchCmd) : Nat :=
  match c.chan with
  | some ch => s.f (GBB_CH_CFG_STREAM ch)
  | none => (s.rdB (c.addr + 1)).toNat

/-- Whether a channel outside OFF and IDLE, or a searcher command queued or active, uses a stream (R178). -/
def State.streamUsed (s : State) (sid : Nat) : Bool :=
  (List.range 512).any (fun c => s.f (GBB_CH_CFG_STREAM c) == sid && decide (2 ≤ s.f (GBB_CH_STATUS_STATE c))) ||
    s.gbb.srch.any (fun e => e.2.queue.any (fun c => s.cmdStream c == sid) ||
      (match e.2.active with
        | some a => (match a.cmd.chan with
          | some ch => s.f (GBB_CH_CFG_STREAM ch) == sid
          | none => leValue ((a.blk.drop 1).take 1) == sid)
        | none => false))

def aStream (p g : Nat) : Nat := 0x02002C0040 + p * 0x10000 + g * 0x20

/-- A write of SMPn_Sg_CFG (R176, R178, R183). A stream that is switched off has no marks to agree: LOCKED falls (log
entry 21). -/
def State.streamCfg (s : State) (req p g value : Nat) : Nat × State :=
  let a := aStream p g
  let was := s.on (SMPn_Sg_CFG_ENABLE p g)
  let rate := bits value 16 0
  if was = true ∧ (rate ≠ s.f (SMPn_Sg_CFG_RATE_KHZ p g) ∨ bits value 30 30 ≠ s.f (SMPn_Sg_CFG_CODING p g) ∨
      bits value 29 29 ≠ s.f (SMPn_Sg_CFG_INVERT p g)) then s.regRefuse (iSMP p) a req cBUSY
  else if was = true ∧ bit value 31 = false ∧ s.streamUsed (4 * p + g) = true then s.regRefuse (iSMP p) a req cBUSY
  else if bit value 31 = true ∧ (rate < 5000 ∨ 100000 < rate) then s.regRefuse (iSMP p) a req cRANGE
  else
    let s := if was = true ∧ bit value 31 = false
      then (s.setF (SMPn_Sg_STAT_LOCKED p g) 0).setPort p
        { s.port p with prev := Tab.set (fun _ => none) (s.port p).prev g none } else s
    s.regW (iSMP p) req a value

/-- The check of a transaction word (R182). -/
def spiCheck (w : Nat) : Nat :=
  let len := bits w 53 48
  if bits w 62 58 ≠ 0 ∨ bits w 54 54 ≠ 0 ∨ 2 ≤ bits w 57 56 ∨ len < 8 ∨ 32 < len then cRANGE else cOK

/-- A transaction enters the FIFO of a port (R182). -/
def State.spiServe (s : State) (p w : Nat) : Nat × State :=
  if spiCheck w ≠ cOK then (spiCheck w, s)
  else
    let x := s.port p
    if 16 ≤ x.fifo.length then (cBUSY, s)
    else
      let s := s.setPort p { x with fifo := x.fifo ++ [w] }
      (cOK, s.setF (SMPn_SPI_STAT_PENDING p) (x.fifo.length + 1))

/-- A write to a register of a sample port that is more than its access codes. -/
def State.smpRegWrite (s : State) (req isl base value : Nat) : Option (Nat × State) :=
  if iSMP 0 ≤ isl ∧ isl ≤ iSMP 3 then
    let p := isl - iSMP 0
    let o := base % 0x10000
    if 0x40 ≤ o ∧ o < 0xA0 ∧ (o - 0x40) % 0x20 = 0 then some (s.streamCfg req p ((o - 0x40) / 0x20) value)
    else if 0x40 ≤ o ∧ o < 0xA0 ∧ (o - 0x40) % 0x20 = 8 then
      some (if s.on (SMPn_Sg_CFG_ENABLE p ((o - 0x40) / 0x20)) then s.regRefuse isl base req cBUSY
        else s.regW isl req base value)
    else if o = 0xA8 then
      let r := s.spiServe p value
      some (if r.1 = cOK then r else s.regRefuse isl base req r.1)
    else none
  else none

/-- A token at a sample port: port 0x000 takes transactions (R182). -/
def State.smpToken (s : State) (t : Token) : Nat × State :=
  if epPort t.dest = 0 then s.spiServe (epIsl t.dest - iSMP 0) t.data else (cNO_ROUTE, s)

/-- STREAM_CONFIG. -/
def execStreamConfig (req p g value : Nat) (s : State) : Res :=
  s.regRow (iSMP p) req (aStream p g) 4 value
    (fun s => if p < 4 ∧ g < 3 then s.streamCfg req p g value else (cRANGE, s))

/-- BLANK_INPUT. -/
def execBlankInput (p : Nat) (level : Bool) (s : State) : Res :=
  .next (s.setPort p { s.port p with level := level })

/-- SAMPLE_OVERRUN: OVERRUN is set and the fault of the island goes to REF (R179, R62). -/
def execSampleOverrun (p g : Nat) (s : State) : Res :=
  .next { s.setF (SMPn_Sg_STAT_OVERRUN p g) 1 with trapPend := s.trapPend ++ [iSMP p] }

/-- SPI_TRANSACTION. -/
def execSpiTransaction (t : Token) (s : State) : Res := .next (s.arrive t (fun s => s.smpToken t))

/-- SPI_TRANSACTION_DONE: the oldest transaction ends with `miso` received (R182). -/
def execSpiTransactionDone (p miso : Nat) (s : State) : Res :=
  .next (match (s.port p).fifo with
    | [] => s
    | w :: rest =>
      let s := s.setPort p { s.port p with fifo := rest, cs := if bit w 55 then some (bits w 57 56) else none }
      let s := (s.setF (SMPn_SPI_STAT_PENDING p) rest.length).inc (SMPn_SPI_STAT_DONE p)
      if bit w 63 then
        s.notice (ep (iSMP p) 0) (s.f (SMPn_SPI_NOTICE_EP p)) (s.f (SMPn_SPI_NOTICE_TAG p))
          (bits w 47 32 * 2 ^ 32 + miso % 2 ^ (bits w 53 48)) false
      else s)

/-- The measurements of one stream at a millisecond mark (R176, R177, R180, R181). 100 ps is 2.56 units of 1/256 tick: two
DELAY values agree within it when they differ by at most 2 units, and differ by more than 200 ps from 6 units on. -/
def State.streamMark (s : State) (m : MarkIn) : State :=
  let p := m.stream / 4
  let g := m.stream % 4
  if 4 ≤ p ∨ 3 ≤ g ∨ s.on (SMPn_Sg_CFG_ENABLE p g) = false then s
  else
    let rate := s.f (SMPn_Sg_CFG_RATE_KHZ p g)
    let fault := decide (rate + 1 < m.samples) || decide (m.samples + 1 < rate)
    let s := if fault then (s.setF (SMPn_Sg_STAT_RATE_FAULT p g) 1).portNotice p g 1 else s
    let d := m.delay % 2 ^ 16
    let x := s.port p
    let s := (s.setF (SMPn_Sg_ALIGN_DELAY p g) d).setPort p { x with prev := Tab.set (fun _ => none) x.prev g (some d) }
    let s := (s.setF (SMPn_Sg_LEVEL_FRACTION p g) m.level)
    let s := if s.on (SMPn_CFG_BLANK_EN p) then s.addF (SMPn_Sg_BLANKED_COUNT p g) m.blanked else s
    match Tab.get (fun _ => none) x.prev g with
    | none => s
    | some d0 =>
      let diff := if d ≤ d0 then d0 - d else d - d0
      if 6 ≤ diff then ((s.setF (SMPn_Sg_STAT_ALIGN_FAULT p g) 1).setF (SMPn_Sg_STAT_LOCKED p g) 0).portNotice p g 2
      else if diff ≤ 2 then s.setF (SMPn_Sg_STAT_LOCKED p g) 1
      else s

end Sys2Proof.Machine
end

