-- ==== Sys2Proof/Machine/Gbb.lean ====
section
/-! DEFINITION. Tracking channels outside their boundaries (R187 to R191, R196, R207, R219): states, events, NCOs, START,
and the registers of GBB. -/

namespace Sys2Proof.Machine

def Chan.fresh : Chan :=
  { accA := 0, accV := 0, dopp := 0, codeAdj := 0, phase := 0, base := 0, carr := 0, mark := 0, since := 0, first := true
    prevI := 0, prevQ := 0, win := [], low := 0, runN := 0, runE := 0, runL := 0, sign := none, bitN := 0, hist := []
    secCand := none, secN := 0, seq := 0, dump := [], lastVec := 0, vecSeq := 0, stepBy := 0, op := 0, reacqWait := false
    discard := false, lockAt := 0, slips := 0, slipped := false, blanked := false, halfAdded := false, range := 0
    towBase := none, ev := 0, polarity := none }

def State.ch (s : State) (c : Nat) : Chan := Tab.get (fun _ => Chan.fresh) s.gbb.chan c

def State.setCh (s : State) (c : Nat) (x : Chan) : State :=
  { s with gbb := { s.gbb with chan := Tab.set (fun _ => Chan.fresh) s.gbb.chan c x } }

/-- STATE of a channel (R187). -/
def State.chSt (s : State) (c : Nat) : Nat := s.f (GBB_CH_STATUS_STATE c)

/-- The signal a channel is configured for. -/
def State.chSig (s : State) (c : Nat) : Option Sig := sigOf (s.f (GBB_CH_CFG_SIGNAL c)) (s.f (GBB_CH_CFG_NUMBER c))

/-- Elapsed SREF edges of 10 ns in seconds. -/
def secs (edges : Nat) : Nat := dRat (Int.ofNat edges) 100000000

/-- Whether n ms have gone by since an edge count (100,000 edges to the ms, R176). -/
def State.elapsedMs (s : State) (since ms : Nat) : Bool := decide (since + ms * 100000 ≤ s.tim.edges)

/-! ### Events (R219) -/

/-- An event of a channel falls due. -/
def State.chEvent (s : State) (c k : Nat) : State := s.setCh c { s.ch c with ev := (s.ch c).ev ||| 2 ^ k }

/-- The events of one boundary or command: each is set in EVENTS, and an enabled one sends a notice, in bit order. -/
def State.chFlush (s : State) (c : Nat) : State :=
  let m := (s.ch c).ev
  let s := s.setCh c { s.ch c with ev := 0 }
  let s := s.setF (GBB_CH_EVENTS_EVENT c) (s.f (GBB_CH_EVENTS_EVENT c) ||| m)
  (List.range 8).foldl (fun s k =>
    if bit m k && bit (s.f (GBB_CH_EVENT_EN_EN c)) k then
      s.notice (ep iGBB 0) (s.f (GBB_CH_NOTICE_EP c)) (s.f (GBB_CH_NOTICE_TAG c))
        (s.now % 2 ^ 32 * 2 ^ 32 + k * 2 ^ 24 + s.chSt c * 2 ^ 16 + c) false
    else s) s

/-! ### NCOs (R196, R241, R242) -/

/-- code_rate of R196, in chip/s. -/
def Chan.codeRate (x : Chan) (g : Sig) : Nat :=
  dAdd (dMul (dNat g.chip) (dAdd (dNat 1) (dDiv x.dopp (dNat g.carrier)))) x.codeAdj

/-- A binary64 in whole units of 2^-32, its rounding left open (log entry 18). -/
def fix32 (a : Nat) : Int :=
  (fpToInt (Config.fieldRounding % 5) (-Int.ofNat (2 ^ 96)) (Int.ofNat (2 ^ 96)) (fmt64.unpack (dMul a (dNat (2 ^ 32))))).1

/-- Chips of the longer code count: the modulus of each CODE_RANGE (R241), in chips of the loop component. -/
def chipModulus (g : Sig) (range : Nat) : Nat :=
  if range = 3 then 2 ^ 32
  else if range = 1 then (if g.pilot then g.len * max g.sec 1 else g.len * g.sym)
  else g.len

/-- Add to the code count: whole primary periods go into `base`. -/
def Chan.addCode (x : Chan) (g : Sig) (d : Int) : Chan :=
  let len := Int.ofNat (g.len * 2 ^ 32)
  let t := Int.ofNat x.phase + d
  { x with
    phase := (t % len).toNat
    base := ((Int.ofNat x.base + t / len * Int.ofNat g.len) % Int.ofNat (chipModulus g x.range)).toNat }

/-- The channel's NCOs run on to an edge count: the code at code_rate, the carrier at minus dopp (R196, R242). -/
def Chan.advance (x : Chan) (g : Sig) (edges : Nat) : Chan :=
  let dt := secs (edges - x.mark)
  let x := x.addCode g (fix32 (dMul (x.codeRate g) dt))
  { x with
    carr := ((Int.ofNat x.carr - fix32 (dMul x.dopp dt)) % Int.ofNat (2 ^ 64)).toNat
    mark := edges }

/-- Show dopp and code_adj in GBB_CH_NCO (R196). -/
def State.chNco (s : State) (c : Nat) : State :=
  let x := s.ch c
  (s.setF (GBB_CH_NCO_DOPP c) (dField 32 true (dScale x.dopp 1000))).setF (GBB_CH_NCO_CODE_ADJ c)
    (dField 32 true (dScale x.codeAdj 65536))

/-! ### State changes (R188) -/

/-- A slip event (R243). -/
def State.slip (s : State) (c : Nat) : State :=
  let x := s.ch c
  s.setCh c { x with slips := wrapInc 8 x.slips, lockAt := s.tim.edges, slipped := true }

/-- GBB_CLUSTERS follows the channels of one cluster (R186). -/
def State.clusterOf (s : State) (c : Nat) : State :=
  let k := c / 64
  let off := (List.range 64).all (fun j => s.chSt (k * 64 + j) == 0)
  let m := s.f GBB_CLUSTERS_GATED
  s.setF GBB_CLUSTERS_GATED (if off then m ||| 2 ^ k else if bit m k then m - 2 ^ k else m)

/-- Internal reacquisition commands of a channel that are queued are withdrawn. -/
def State.dropReacq (s : State) (c : Nat) : State :=
  { s with gbb := { s.gbb with srch := s.gbb.srch.map (fun (e : Nat × Searcher) =>
      (e.1, { e.2 with queue := e.2.queue.filter (fun q => q.chan != some c) })) } }

/-- A channel enters a state: event STATE, and what entry does (R188, R198, R200, R241, R243, R250). -/
def State.chEnter (s : State) (c st : Nat) : State :=
  let old := s.chSt c
  let pilot := match s.chSig c with | some g => g.pilot | none => false
  let s := s.setF (GBB_CH_STATUS_STATE c) st
  let s := s.setCh c { s.ch c with since := s.tim.edges }
  let s := if old = st then s else s.chEvent c 0
  let s := if old = 6 ∧ st ≠ 6 then (s.setF (GBB_CH_STATUS_REACQ c) 0).dropReacq c else s
  let s :=
    if st = 0 ∨ st = 1 then
      let s := ((s.setF (GBB_CH_STATUS_BIT_SYNC c) 0).setF (GBB_CH_STATUS_SEC_SYNC c) 0).setF (GBB_CH_STATUS_PLL_LOCK c) 0
      let s := s.setF (GBB_CH_STATUS_FLL_LOCK c) 0
      s.setCh c { s.ch c with range := 0, towBase := none, polarity := none, reacqWait := false, discard := false }
    else if st = 2 then
      let s := s.setCh c { s.ch c with halfAdded := false, polarity := none, reacqWait := false, discard := false }
      let s := if pilot || old == 6 then s.setF (GBB_CH_STATUS_HALF_CYCLE c) 1 else s
      s.slip c
    else if st = 3 then
      let s := if pilot then s else s.setF (GBB_CH_STATUS_HALF_CYCLE c) 1
      s.setCh c { s.ch c with sign := none, bitN := 0, hist := [], secCand := none, secN := 0 }
    else if st = 4 then (if old = 2 ∧ pilot then s.setF (GBB_CH_STATUS_HALF_CYCLE c) 0 else s)
    else if st = 6 then s.slip c
    else s
  s.clusterOf c

/-- The synchronisation a signal needs (R198): SEC_SYNC and BIT_SYNC. -/
def needsSec (g : Sig) : Bool := g.pilot || g.sec != 0
def needsBit (g : Sig) : Bool := !g.pilot

/-- Whether every synchronisation the signal needs is valid. -/
def State.synced (s : State) (c : Nat) (g : Sig) : Bool :=
  (!needsSec g || s.on (GBB_CH_STATUS_SEC_SYNC c)) && (!needsBit g || s.on (GBB_CH_STATUS_BIT_SYNC c))

/-- Place a reacquisition command (R217): on the searcher port 0x012 chooses, or at the next mark when both its queue is
full. -/
def State.placeReacq (s : State) (c : Nat) : State :=
  let sr := fun k => Tab.get (fun _ => (⟨[], none⟩ : Searcher)) s.gbb.srch k
  let load := fun k => (sr k).queue.length + b2n (sr k).active.isSome
  let k := if load 1 < load 0 then 1 else 0
  if 8 ≤ (sr k).queue.length then s.setCh c { s.ch c with reacqWait := true }
  else
    let cmd : SrchCmd := ⟨0, s.f GBB_CFG_REACQ_PRIO, s.gbb.order, some c⟩
    let s := s.setCh c { s.ch c with reacqWait := false }
    let s := s.setF (GBB_SRCH_s_STAT_QUEUED k) ((sr k).queue.length + 1)
    { s with gbb := { s.gbb with
        order := s.gbb.order + 1
        srch := Tab.set (fun _ => (⟨[], none⟩ : Searcher)) s.gbb.srch k { sr k with queue := (sr k).queue ++ [cmd] } } }

/-- The way out of COAST when COAST_MS has run out (R188, R217). -/
def State.coastExit (s : State) (c : Nat) : State :=
  if s.on (GBB_CH_CFG_AUTO_REACQ c) then
    (s.setF (GBB_CH_STATUS_REACQ c) 1).placeReacq c
  else s.chEnter c 1

/-- VECTOR is left for TRACK (R207): the loop filter takes over the Doppler in effect. -/
def State.vectorEnd (s : State) (c : Nat) : State :=
  (s.setCh c { s.ch c with accV := (s.ch c).dopp, accA := 0 }).chEnter c 4

/-! ### START (R190, R199) -/

/-- T of the TRACK integration in ms (R187). -/
def State.trackMs (s : State) (c : Nat) (g : Sig) : Nat :=
  if g.pilot then s.f (GBB_CH_CFG_T_PILOT c) else s.f (GBB_CH_CFG_T_DATA c)

/-- The checks of R190 in the order of its table, then that of R199. An integration of 0 ms is no multiple that could be
run (log entry 22). -/
def State.startCheck (s : State) (c : Nat) : Nat :=
  let sid := s.f (GBB_CH_CFG_STREAM c)
  if s.streamOk sid = false then cBUSY
  else match s.chSig c with
    | none => cRANGE
    | some g =>
      let num := s.f (GBB_CH_CFG_NUMBER c)
      let lo := Int.ofNat (s.f (SMPn_Sg_LO_LO (sid / 4) (sid % 4)))
      let el := s.f (GBB_CH_CFG_EL_SPACING c)
      let ve := s.f (GBB_CH_CFG_VEVL_SPACING c)
      let t := s.trackMs c g
      let pll := s.f (GBB_CH_LOOP_PLL_BW c)
      let fll := s.f (GBB_CH_LOOP_FLL_BW c)
      let dll := s.f (GBB_CH_LOOP_DLL_BW c)
      let t0 := s.f (GBB_CH_INIT_TIME_TIME c)
      let vt := s.f (GBB_CH_RECOVER_VEC_TIMEOUT_MS c)
      if g.g ≠ sid % 4 ∨ num < g.lo ∨ g.hi < num then cRANGE
      else if Int.ofNat (s.f (SMPn_Sg_CFG_RATE_KHZ (sid / 4) (sid % 4)) * 1000 * 65536) <
          2 * Int.ofNat ((Int.ofNat (g.carrier * 65536) - lo).natAbs) then cRANGE
      else if el < 4 ∨ 192 < el ∨ ve < el ∨ 384 < ve ∨ (g.boc = true ∧ 64 < el) then cRANGE
      else if s.f (GBB_CH_CFG_DISC c) = 3 ∨ (s.f (GBB_CH_CFG_DISC c) = 2 ∧ ve ≠ 2 * el) then cRANGE
      else if g.pilot = false ∧ (t < 1 ∨ 20 < t ∨ g.sym % t ≠ 0) then cRANGE
      else if g.pilot = true ∧ (t = 0 ∨ t % g.u ≠ 0 ∨ 100 < t) then cRANGE
      else if 25000 < pll * g.u ∨ 25000 < pll * t ∨ 2500 < fll * g.u then cRANGE
      else if pll < 100 ∨ 4000 < pll ∨ fll < 1 ∨ 250 < fll ∨ dll < 1 ∨ 400 < dll ∨ s.f (GBB_CH_LOOP_CN0_AVG c) = 0 ∨
          s.f (GBB_CH_LOOP_LOSS_COUNT c) = 0 ∨ 2000 < s.f (GBB_CH_RECOVER_COAST_MS c) ∨ vt < 2 ∨ 1000 < vt then cRANGE
      else if s.now < t0 ∨ t0 + 200000000 < s.now then cRANGE
      else if g.boc = true ∧ s.on (GBB_CH_CFG_BUMP_EN c) = true ∧ ve ≠ 128 then cRANGE
      else cOK

/-- START in effect (R190): code phase and Doppler at start time, a loop filter set to them, PULLIN. -/
def State.startGo (s : State) (c : Nat) : State :=
  match s.chSig c with
  | none => s
  | some g =>
    let f0 := dRat (signed 32 (s.f (GBB_CH_INIT_DOPP_DOPP c))) 1000
    let a := dRat (signed 32 (s.f (GBB_CH_INIT_DOPP_RATE c))) 1000
    let dt := secs (s.now - s.f (GBB_CH_INIT_TIME_TIME c))
    let dopp := dAdd f0 (dMul a dt)
    let phi0 := dRat (Int.ofNat (s.f (GBB_CH_INIT_CODE_PHASE c))) (2 ^ 32)
    let cyc := dAdd (dMul f0 dt) (dDiv (dMul (dMul a dt) dt) (dNat 2))
    let phi := dAdd phi0 (dMul (dNat g.chip) (dAdd dt (dDiv cyc (dNat g.carrier))))
    let phi := dMod phi (dNat g.len)
    let x := s.ch c
    let fromIdle := s.chSt c == 1
    let x := if fromIdle then
        { Chan.fresh with seq := x.seq, dump := x.dump, lockAt := x.lockAt, slipped := x.slipped, blanked := x.blanked
                          ev := x.ev, lastVec := x.lastVec, vecSeq := x.vecSeq }
      else x
    let x := { x with
      accA := a, accV := dopp, dopp := dopp, codeAdj := 0, first := true, win := [], low := 0, runN := 0, runE := 0
      runL := 0, mark := s.tim.edges, phase := ((fix32 phi) % Int.ofNat (g.len * 2 ^ 32)).toNat }
    ((s.setCh c x).chEnter c 2).chNco c

/-! ### Channel commands (R189) -/

/-- A command takes effect in the state it meets: its status and the new state. -/
def State.chOp (s : State) (c op : Nat) : Nat × State :=
  let st := s.chSt c
  match op with
  | 1 => if st = 0 then (cOK, s.chEnter c 1) else (cBUSY, s)
  | 2 => (cOK, s.chEnter c 0)
  | 3 => if st ≠ 1 then (cBUSY, s)
    else
      let r := s.startCheck c
      if r = cOK then (cOK, s.startGo c) else (r, s)
  | 4 => if st = 0 then (cBUSY, s) else (cOK, s.chEnter c 1)
  | 5 => if st = 4 then
      (cOK, (s.setCh c { s.ch c with lastVec := s.tim.edges }).chEnter c 5) else (cBUSY, s)
  | _ => if st = 5 then (cOK, s.vectorEnd c) else (cBUSY, s)

/-- The command in hand has taken effect. -/
def State.chOpDone (s : State) (c op : Nat) : State :=
  let r := s.chOp c op
  let s := (r.2.setF (GBB_CH_CMD_STATUS c) r.1).setF (GBB_CH_CMD_BUSY c) 0
  s.setCh c { s.ch c with op := 0 }

/-- The address of a register of channel c. -/
def aCh (c o : Nat) : Nat := 0x0300000000 + c * 0x100 + o

/-- A write of GBB_CH_CMD.OP (R189, R191): at once in OFF and IDLE, otherwise at the next boundary. A START while the
channel's reacquisition is queued or active discards its result. -/
def State.chCmdWrite (s : State) (req c op : Nat) : Nat × State :=
  if op = 0 ∨ 6 < op then s.regRefuse iGBB (aCh c 0x30) req cRANGE
  else if s.on (GBB_CH_CMD_BUSY c) then s.regRefuse iGBB (aCh c 0x30) req cBUSY
  else
    let s := s.setF (GBB_CH_CMD_OP c) op
    let s := if op = 3 ∧ s.on (GBB_CH_STATUS_REACQ c) then s.setCh c { s.ch c with discard := true } else s
    if s.chSt c ≤ 1 then (cOK, (s.chOpDone c op).chFlush c)
    else (cOK, (s.setF (GBB_CH_CMD_BUSY c) 1).setCh c { s.ch c with op := op })

/-- A write of GBB_CH_LOOP (R190): outside OFF and IDLE it is checked as START checks, on the values it would leave. -/
def State.chLoopWrite (s : State) (req c value : Nat) : Nat × State :=
  let r := s.regW iGBB req (aCh c 8) value
  if s.chSt c ≤ 1 ∨ r.1 ≠ cOK then r
  else
    let k := r.2.startCheck c
    if k = cOK then r else s.regRefuse iGBB (aCh c 8) req k

/-- A write to a register of GBB or of a channel window that is more than its access codes (R189, R190, R220). -/
def State.gbbRegWrite (s : State) (req isl base value : Nat) : Option (Nat × State) :=
  if isl ≠ iGBB then none
  else if 0x0300000000 ≤ base then
    let c := (base - 0x0300000000) / 0x100
    let o := base % 0x100
    if o = 0 then (if 2 ≤ s.chSt c then some (s.regRefuse isl base req cBUSY) else none)
    else if o = 8 then some (s.chLoopWrite req c value)
    else if o = 0x30 then some (s.chCmdWrite req c (bits value 3 0))
    else none
  else if base % 0x10000 = 0x30 then
    if (List.range 512).any (fun c => s.on (GBB_CH_DUMP_CFG_RING_EN c)) then some (s.regRefuse isl base req cBUSY)
    else none
  else none

def execChannelEnable (req c : Nat) (s : State) : Res := s.regRow iGBB req (aCh c 0x30) 4 1 (fun s => s.chCmdWrite req c 1)
def execChannelDisable (req c : Nat) (s : State) : Res := s.regRow iGBB req (aCh c 0x30) 4 2 (fun s => s.chCmdWrite req c 2)
def execChannelStart (req c : Nat) (s : State) : Res := s.regRow iGBB req (aCh c 0x30) 4 3 (fun s => s.chCmdWrite req c 3)
def execChannelStop (req c : Nat) (s : State) : Res := s.regRow iGBB req (aCh c 0x30) 4 4 (fun s => s.chCmdWrite req c 4)
def execVectorOn (req c : Nat) (s : State) : Res := s.regRow iGBB req (aCh c 0x30) 4 5 (fun s => s.chCmdWrite req c 5)
def execVectorOff (req c : Nat) (s : State) : Res := s.regRow iGBB req (aCh c 0x30) 4 6 (fun s => s.chCmdWrite req c 6)

/-- CHANNEL_LOOP_WRITE. -/
def execChannelLoopWrite (req c value : Nat) (s : State) : Res := s.regRow iGBB req (aCh c 8) 8 value (fun s => s.chLoopWrite req c value)

/-- PULLIN_FAIL: 2,000 ms in PULLIN (R188). -/
def execPullinFail (c : Nat) (s : State) : Res :=
  .next (if s.chSt c = 2 ∧ s.elapsedMs (s.ch c).since 2000 then ((s.chEnter c 1).chEvent c 4).chFlush c else s)

/-- SYNC_FAIL: 6,000 ms in SYNC (R188). -/
def execSyncFail (c : Nat) (s : State) : Res :=
  .next (if s.chSt c = 3 ∧ s.elapsedMs (s.ch c).since 6000 then ((s.chEnter c 1).chEvent c 5).chFlush c else s)

/-- COAST_EXPIRY: COAST_MS has run out (R188). -/
def execCoastExpiry (c : Nat) (s : State) : Res :=
  .next (if s.chSt c = 6 ∧ s.on (GBB_CH_STATUS_REACQ c) = false ∧
      s.elapsedMs (s.ch c).since (s.f (GBB_CH_RECOVER_COAST_MS c)) then (s.coastExit c).chFlush c else s)

/-- FALLBACK (R207): no entry for VEC_TIMEOUT_MS, unless one is due now. -/
def execFallback (c : Nat) (s : State) : Res :=
  .next (if s.chSt c = 5 ∧ s.elapsedMs (s.ch c).lastVec (s.f (GBB_CH_RECOVER_VEC_TIMEOUT_MS c)) ∧
      s.gbb.vecs.any (fun u => decide (u.apply ≤ s.now) && u.entries.any (fun e => e.chan == c)) = false
    then (((s.vectorEnd c).chEvent c 2).inc (GBB_CH_STAT_FALLBACKS c)).chFlush c else s)

end Sys2Proof.Machine
end

