-- ==== Sys2Proof/Machine/Gob.lean ====
section
/-! DEFINITION. GOB but for the latch itself: triggers, the guard interval, banks held, navigation units and the offsets
between systems (R226 to R233, R245 to R254). -/

namespace Sys2Proof.Machine

/-- G, in SREF ticks (R231). -/
def snapGuard : Nat := 5000

/-- P of the periodic trigger in ticks (R226). -/
def State.snapP (s : State) : Nat := s.f GOB_PERIOD_MS * 100000

/-- Members of the stack other than this module, in order of ring distance (R486). -/
def State.ringOthers (s : State) : List Nat :=
  let me := s.f BXL_STATUS_POSITION
  let l := idxWhere 16 (fun p => 1 ≤ (s.ros p).st && (s.ros p).st ≤ 3)
  let n := max l.length 1
  let dist := fun p => min (((s.ros p).ring + n - (s.ros me).ring) % n) (((s.ros me).ring + n - (s.ros p).ring) % n)
  (List.range 16).flatMap (fun d => l.filter (fun p => p != me && dist p == d))

/-- The edge count at which device time reaches a time not yet passed. -/
def State.edgeAt (s : State) (t : Nat) : Nat := s.tim.edges + (t - s.now)

/-- Whether two edge counts lie less than G apart. -/
def near (a b : Nat) : Bool := decide (a < b + snapGuard) && decide (b < a + snapGuard)

/-- Device times of the armed fixed edges: periodic, software with a time, stack-wide. -/
def State.fixedTimes (s : State) : List Nat :=
  (match s.gob.target with | some t => if s.on GOB_CTRL_PERIOD_EN then [t] else [] | none => []) ++
    (match s.gob.soft with | some r => if r.time = 0 then [] else [r.time] | none => []) ++
    s.gob.stack.map StackReq.time

/-- GOB_NEXT: the earliest armed fixed edge, 0 if none. -/
def State.gobNext (s : State) : Nat :=
  match s.fixedTimes with
  | [] => 0
  | t :: l => l.foldl min t

def State.setGob (s : State) (f : GobSt → GobSt) : State := { s with gob := f s.gob }

/-- The status of a register request, and PENDING as the slot stands (R228). -/
def State.softStatus (s : State) (code : Nat) : State :=
  (s.setF GOB_SOFT_STATUS code).setF GOB_SOFT_PENDING (b2n s.gob.soft.isSome)

/-- Empty or fill the software slot, PENDING with it. -/
def State.setSoft (s : State) (r : Option SoftReq) : State :=
  (s.setGob (fun g => { g with soft := r })).setF GOB_SOFT_PENDING (b2n r.isSome)

/-! ### Floating edges (R226, R227, R232) -/

/-- A floating trigger with its own edge: it joins a floating Snap that is armed, joins a fixed edge less than G after
it, is put off to G after the last edge, or is armed. An edge put off into the guard before a fixed edge joins that one
as well (R231, log entry 26). -/
def State.floatArm (s : State) (trig own ownTime capT capS capIn : Nat) : State :=
  match s.gob.floating with
  | some r =>
    let r := if trig = 2 ∧ r.triggers / 2 % 2 = 0 then { r with capTicks := capT, capSub := capS, capInput := capIn } else r
    s.setGob (fun g => { g with floating := some { r with triggers := r.triggers ||| trig } })
  | none =>
    let late := match s.gob.lastEdge with
      | some l => decide (own < l + snapGuard)
      | none => false
    let edge := match s.gob.lastEdge with
      | some l => max own (l + snapGuard)
      | none => own
    let same := s.fixedTimes.any (fun t => s.edgeAt t == own)
    let join := s.fixedTimes.any (fun t => decide (own ≤ s.edgeAt t) && decide (s.edgeAt t < own + snapGuard)) ||
      (late && s.fixedTimes.any (fun t => decide (edge ≤ s.edgeAt t) && decide (s.edgeAt t < edge + snapGuard)))
    let r : FloatReq := ⟨if join then own else edge, ownTime, trig, late && !join, join, capT, capS, capIn⟩
    let s := s.setGob (fun g => { g with floating := some r })
    if join then (if same then s else s.inc GOB_STAT_MERGED_COUNT)
    else if late then s.inc GOB_STAT_DEFERRED_COUNT
    else s

/-- A capture stamp of TIM reaches GOB (R226, R227): ticks and tenths of a tick in ns. -/
def State.gobCapture (s : State) (input : Nat) (rising : Bool) (ticks sub : Nat) : State :=
  let edge := s.f GOB_CTRL_CAPTURE_EDGE
  if s.on GOB_CTRL_CAPTURE_EN && s.f GOB_CTRL_CAPTURE_SEL == input &&
      (edge == 2 || (edge == 0 && rising) || (edge == 1 && !rising)) then
    let at' := ticks + b2n (decide (0 < sub)) + 16
    let own := (s.tim.edges + at') - min s.now (s.tim.edges + at')
    s.floatArm 2 own at' ticks sub input
  else s

/-! ### The software slot (R228, R232) -/

/-- Whether an edge lies less than G from an armed or taken edge without being equal to it. -/
def State.snapConflict (s : State) (edge : Nat) : Bool :=
  let armed := s.fixedTimes.map s.edgeAt ++ (match s.gob.floating with | some r => [r.edge] | none => []) ++
    (match s.gob.lastEdge with | some l => [l] | none => [])
  armed.any (fun a => near a edge && a != edge)

/-- A request of the SNAP instruction or of GOB_SOFT for time T, 0 for the earliest (R228). -/
def State.softRequest (s : State) (t : Nat) (register : Bool) : Nat × State :=
  if s.gob.soft.isSome then (cBUSY, s)
  else if t = 0 then
    let s := s.setSoft (some ⟨0, register, false⟩)
    (cOK, s.floatArm 8 (s.tim.edges + 16) (s.now + 16) 0 0 0)
  else if t < s.now + 16 then (cTOO_LATE, s)
  else if s.snapConflict (s.edgeAt t) then (cCONFLICT, s.inc GOB_STAT_CONFLICTS_COUNT)
  else (cOK, s.setSoft (some ⟨t, register, false⟩))

/-! ### Stack-wide Snaps (R229, R230) -/

/-- The periodic target after one that counts as taken. -/
def State.nextTarget (s : State) (t : Nat) : Nat :=
  let p := s.snapP
  if s.now < t then t + p else t + p * (1 + (s.now - t) / p)

/-- Arm a stack-wide edge (R232): local fixed edges less than G away are withdrawn and join it, and a floating edge less
than G before it joins as well. -/
def State.stackEdge (s : State) (e num : Nat) : State :=
  let at' := s.edgeAt e
  let hit := fun t => near (s.edgeAt t) at' && t != e
  let perHit := match s.gob.target with | some t => s.on GOB_CTRL_PERIOD_EN && hit t | none => false
  let softHit := match s.gob.soft with | some r => r.time != 0 && hit r.time | none => false
  let joined := b2n perHit + b2n softHit * 4
  let s := if perHit then s.setGob (fun g => { g with target := g.target.map (fun t => t + s.snapP) }) else s
  let s := if softHit then
      (if (match s.gob.soft with | some r => r.register | none => false) then s.setF GOB_SOFT_STATUS cOK else s).setSoft none
    else s
  let s := match s.gob.floating with
    | some r => if r.join = false ∧ r.edge ≤ at' ∧ at' < r.edge + snapGuard then
        (s.setGob (fun g => { g with floating := some { r with join := true } })).inc GOB_STAT_MERGED_COUNT else s
    | none => s
  s.setGob (fun g => { g with stack := g.stack ++ [⟨e, num, joined⟩] })

/-- The Captain names a stack-wide edge: every other member gets a SNAP message and this module arms it (R230, R486). -/
def State.stackSend (s : State) (e : Nat) : State :=
  let num := s.gob.nextStack
  let s := s.setGob (fun g => { g with nextStack := wrapInc 32 num })
  let s := s.ringOthers.foldl (fun s p => s.bxlSend p 0x06 0 (leBytes 8 e ++ leBytes 4 num ++ leBytes 4 0)) s
  s.stackEdge e num

/-- With STACK_PERIOD on the Captain, the next periodic target is named stack-wide, moved on by whole periods until it
lies GOB_STACK_LEAD ahead (R230). -/
def State.stackPeriod (s : State) : State :=
  if s.on GOB_CTRL_PERIOD_EN && s.on GOB_CTRL_STACK_PERIOD && s.on BXL_STATUS_CAPTAIN then
    match s.gob.target with
    | some t =>
      let need := s.now + s.f GOB_STACK_LEAD_TICKS
      let p := s.snapP
      let e := if need ≤ t then t else t + p * ((need - t + p - 1) / max p 1)
      if s.gob.stack.any (fun r => r.time == e) then s
      else (s.setGob (fun g => { g with target := some e })).stackSend e
    | none => s
  else s

/-- A member takes a SNAP message (R230, R486): the edge is armed, or missed, counted and recorded. The status is the
answer to the Captain. -/
def State.snapMessage (s : State) (e num : Nat) : Nat × State :=
  if e < s.now + 16 then
    (cTOO_LATE, (s.inc GOB_STAT_MISSED_COUNT).stage 0x2101 [num])
  else (cOK, s.stackEdge e num)

/-- A member that is no longer Captain issues no stack-wide trigger (R229). -/
def State.gobNotCaptain (s : State) : State := s.setF GOB_CTRL_STACK_PERIOD 0

/-! ### Register writes -/

/-- The periodic target at enable (R226), with a software edge less than G from it withdrawn (R232). -/
def State.periodArm (s : State) : State :=
  let p := s.snapP
  let phase := s.f GOB_PHASE_TICKS
  let r := ((Int.ofNat s.now - Int.ofNat phase) % Int.ofNat p).toNat
  let t := s.now + p - r
  let s := s.setGob (fun g => { g with target := some t })
  let s := match s.gob.soft with
    | some q =>
      if q.time ≠ 0 ∧ near (s.edgeAt q.time) (s.edgeAt t) = true ∧ q.time ≠ t then
        (if q.register then s.setF GOB_SOFT_STATUS cCONFLICT else s).setSoft none
      else s
    | none => s
  s.stackPeriod

/-- A write of GOB_CTRL, GOB_PERIOD or GOB_PHASE, by its offset (R226, R229, R254). -/
def State.periodWrite (s : State) (req addr value : Nat) : Nat × State :=
  let o := addr % 0x10000
  let a := 0x0200210000 + o
  let was := s.on GOB_CTRL_PERIOD_EN
  if o = 0x20 then
    if bit value 2 = true ∧ s.on BXL_STATUS_CAPTAIN = false then s.regRefuse iGOB a req cNOT_OWNER
    else
      let r := s.regW iGOB req a value
      if r.1 ≠ cOK then r
      else if was = false ∧ bit value 0 = true then (cOK, r.2.periodArm)
      else if bit value 0 = false then (cOK, r.2.setGob (fun g => { g with target := none }))
      else (cOK, r.2.stackPeriod)
  else if was then s.regRefuse iGOB a req cBUSY
  else if o = 0x28 ∧ s.snapP ≤ bits value 29 0 then s.regRefuse iGOB a req cRANGE
  else s.regW iGOB req a value

/-- A write of GOB_SOFT without STACK (R228). -/
def State.softWrite (s : State) (value : Nat) : Nat × State :=
  if bit value 0 then
    let r := s.softRequest (s.f GOB_SOFT_TIME_TIME) true
    (cOK, r.2.softStatus r.1)
  else (cOK, s)

/-- A write of GOB_SOFT with STACK (R229, R230). -/
def State.softStackWrite (s : State) (req value : Nat) : Nat × State :=
  if s.on BXL_STATUS_CAPTAIN = false then s.regRefuse iGOB 0x0200210038 req cNOT_OWNER
  else if bit value 0 = false then (cOK, s)
  else
    let t := s.f GOB_SOFT_TIME_TIME
    if s.gob.soft.isSome then (cOK, s.softStatus cBUSY)
    else if t < s.now + s.f GOB_STACK_LEAD_TICKS then (cOK, s.softStatus cTOO_LATE)
    else if s.gob.stack.any (fun r => near (s.edgeAt r.time) (s.edgeAt t) && r.time != t) then
      (cOK, (s.inc GOB_STAT_CONFLICTS_COUNT).softStatus cCONFLICT)
    else (cOK, ((s.stackSend t).setSoft (some ⟨t, true, false⟩)).softStatus cOK)

/-- The address of bank b (R238). -/
def aBank (b : Nat) : Nat := 0x0301000000 + b * 0x100000

/-- A write of GOB_HOLD (R233). -/
def State.holdWrite (s : State) (req value : Nat) : Nat × State :=
  let v := bits value 1 0
  let filling := match s.gob.fill with
    | some f => decide (v = f.bank + 1)
    | none => false
  if filling then s.regRefuse iGOB 0x0200210048 req cBUSY else s.regW iGOB req 0x0200210048 value

/-- A write to a register of GOB that is more than its access codes. -/
def State.gobRegWrite (s : State) (req isl base value : Nat) : Option (Nat × State) :=
  if isl ≠ iGOB then none
  else
    let o := base % 0x10000
    if o = 0x20 ∨ o = 0x24 ∨ o = 0x28 then some (s.periodWrite req base value)
    else if o = 0x38 then some (if bit value 1 then s.softStackWrite req value else s.softWrite value)
    else if o = 0x48 then some (s.holdWrite req value)
    else if 0x80 ≤ o ∧ o < 0xB0 then
      let y := (o - 0x78) / 8
      let s := s.setGob (fun g => { g with estAt := Tab.set (fun _ => 0) g.estAt y s.tim.edges })
      some (s.regW isl req base value)
    else none

/-- The live value of GOB_NEXT (R254). -/
def State.gobLive (s : State) (isl base : Nat) : Option Nat :=
  if isl = iGOB ∧ base % 0x10000 = 0x58 then some s.gobNext else none

/-- The data of a software edge that a time step has carried past its time (R232). -/
def State.gobStep (s : State) (old : Nat) : State :=
  match s.gob.soft with
  | some r => if r.time ≠ 0 ∧ old < r.time ∧ r.time ≤ s.now
      then s.setGob (fun g => { g with soft := some { r with stepped := true } }) else s
  | none => s

/-- SNAP_PERIODIC (R226): device time has reached the periodic target. -/
def State.snapPeriodic (s : State) : State :=
  match s.gob.target with
  | some t =>
    if s.on GOB_CTRL_PERIOD_EN = true ∧ t ≤ s.now then
      let s1 := s.setGob (fun g => { g with
        due := g.due ||| 1, dueStep := g.dueStep || decide (t + s.snapP ≤ s.now), target := some (s.nextTarget t) })
      s1.stackPeriod
    else s
  | none => s

/-! ### Navigation units (R245 to R251) and offsets between systems (R252, R253) -/

/-- The system of a signal as the ISB table numbers it; 0 for GPS, 6 for SBAS. -/
def systemOf (sig : Nat) : Nat :=
  if sig ≤ 3 then 0 else if sig ≤ 6 then 1 else if sig ≤ 0x0A then 2 else if sig ≤ 0x0E then 3
  else if sig ≤ 0x12 then 4 else if sig = 0x13 then 5 else 6

/-- A ring entry of channel c (R249, R251). -/
def State.navEntry (s : State) (c : Nat) (u : NavIn) : State :=
  let wr := s.f (GOB_NAV_PTR_c_WR c)
  let seq := Tab.get (fun _ => 0) s.gob.navSeq c
  let s := if (wr + 1) % 32 = s.f (GOB_NAV_PTR_c_RD c)
    then (s.setF (GOB_NAV_PTR_c_RD c) ((s.f (GOB_NAV_PTR_c_RD c) + 1) % 32)).inc (GOB_NAV_LOST_c_COUNT c) else s
  let pay := (u.payload ++ List.replicate 112 0).take 112
  let s := s.wrBytes (0x0301200000 + c * 0x1000 + wr * 128)
    (leBytes 4 seq ++ leBytes 1 u.kind ++ leBytes 1 u.verdict ++ leBytes 2 u.bits ++ leBytes 8 s.now ++ pay)
  let s := s.setF (GOB_NAV_PTR_c_WR c) ((wr + 1) % 32)
  let s := s.setGob (fun g => { g with navSeq := Tab.set (fun _ => 0) g.navSeq c (wrapInc 32 seq) })
  if s.on (GOB_NAV_CFG_c_Q_EN c) && s.on GOB_NAV_Q_EN then
    s.sendQ ⟨s.f GOB_NAV_Q_QUEUE, s.f GOB_NAV_Q_PRIO,
      seq * 2 ^ 32 + u.kind * 2 ^ 24 + u.verdict * 2 ^ 16 + c, ep iGOB 0, none, none⟩
  else s

/-- The data polarity is resolved (R244), or found reversed (R248). -/
def State.navPolarity (s : State) (c : Nat) (inv : Bool) : State :=
  let x := s.ch c
  let half := fun (x : Chan) => { x with carr := (x.carr + 2 ^ 31) % 2 ^ 64 }
  match x.polarity with
  | none =>
    let x := { x with polarity := some inv, halfAdded := inv }
    (s.setCh c (if inv then half x else x)).setF (GBB_CH_STATUS_HALF_CYCLE c) 0
  | some old =>
    if old = inv then s
    else
      let y := { x with polarity := some inv, halfAdded := inv }
      (s.setCh c (if inv then half y else { y with carr := (y.carr + 2 ^ 64 - 2 ^ 31) % 2 ^ 64 })).slip c

/-- A unit is finished (NAV_UNIT_DECODED): the polarity it resolves, the time and offset it carries, and its ring
entry. -/
def State.navUnit (s : State) (c : Nat) (g : Sig) (u : NavIn) : State :=
  let s := match u.polarity with
    | some inv => if g.pilot then s else s.navPolarity c inv
    | none => s
  let ready := if g.pilot then s.on (GBB_CH_STATUS_SEC_SYNC c) else (s.ch c).polarity.isSome
  let sys := systemOf (s.f (GBB_CH_CFG_SIGNAL c))
  let s := match u.tow with
    | some ms => if ready ∧ (u.verdict = 0 ∨ u.verdict = 2) ∧ u.kind ≠ 0x80 ∧ sys ≠ 6
        then s.setCh c { s.ch c with towBase := some ms } else s
    | none => s
  let s := match u.isb with
    | some (ps, rate) => if ready ∧ u.verdict = 0 ∧ sys ≠ 0 ∧ sys ≠ 6 then
        s.setGob (fun g => { g with bcast := Tab.set (fun _ => none) g.bcast sys (some ⟨ps, rate, s.now, s.tim.edges⟩) })
      else s
    | none => s
  let mode := s.f (GOB_NAV_CFG_c_MODE c)
  let wanted := if u.kind = 0x80 then bit mode 1 else bit mode 0 && ready
  if wanted then s.navEntry c u else s

/-- SNAP_SOFT_REQUEST. -/
def execSnapSoftRequest (req value : Nat) (s : State) : Res := s.regRow iGOB req 0x0200210038 4 value (fun s => s.softWrite value)

/-- SNAP_STACK_REQUEST. -/
def execSnapStackRequest (req value : Nat) (s : State) : Res := s.regRow iGOB req 0x0200210038 4 value (fun s => s.softStackWrite req value)

/-- SNAP_PERIOD_CONFIG. -/
def execSnapPeriodConfig (req addr value : Nat) (s : State) : Res := 
  s.regRow iGOB req addr 4 value (fun s => s.periodWrite req addr value)

/-- SNAP_PERIODIC. -/
def execSnapPeriodic (s : State) : Res := .next s.snapPeriodic

/-- BANK_HOLD. -/
def execBankHold (req value : Nat) (s : State) : Res := s.regRow iGOB req 0x0200210048 4 value (fun s => s.holdWrite req value)

/-- NAV_UNIT_DECODED: units flow from SYNC on; one under way at a loss is discarded (R251). -/
def execNavUnitDecoded (c : Nat) (u : NavIn) (s : State) : Res :=
  .next (if s.chSt c < 3 ∨ s.chSt c = 6 then s
    else match s.chSig c with
      | some g => s.navUnit c g u
      | none => s)

/-- BCAST_EXPIRY: no source unit for 7,200 s (R253). -/
def execBcastExpiry (y : Nat) (s : State) : Res :=
  .next (match Tab.get (fun _ => none) s.gob.bcast y with
    | some b => if b.seen + 720000000000 ≤ s.tim.edges
        then s.setGob (fun g => { g with bcast := Tab.set (fun _ => none) g.bcast y none }) else s
    | none => s)

end Sys2Proof.Machine
end

