-- ==== Sys2Proof/Machine/Tim.lean ====
section
/-! DEFINITION. Device time, its disciplining, capture inputs and time pins (R290 to R310). -/

namespace Sys2Proof.Machine

def State.setTim (s : State) (f : TimSt → TimSt) : State := { s with tim := f s.tim }

/-- The quality code (R296). -/
def State.quality (s : State) : Nat :=
  b2n (decide (s.tim.stepLeft ≠ 0)) * 128 + s.f TIM_LEAP_VALID * 64 + s.f TIM_SRC_SEL * 8 + s.tim.qst

/-- HOLD_S (R301): whole seconds in HOLDOVER, or what the last HOLDOVER left. -/
def State.holdS (s : State) : Nat :=
  if s.tim.qst = 4 then min 65535 ((s.tim.edges - s.tim.holdAt) / 100000000) else s.f TIM_STATUS_HOLD_S

/-- Events at one edge (R303, R310): each is set, and an enabled one sends a notice, in bit order. -/
def State.timEvents (s : State) (m : Nat) : State :=
  let s := s.setF TIM_EVENTS_EVENT (s.f TIM_EVENTS_EVENT ||| m)
  (List.range 7).foldl (fun s k =>
    if bit m k && bit (s.f TIM_EVENT_EN_EN) k then
      s.notice (ep iTIM 0) (s.f TIM_NOTICE_EP) (s.f TIM_NOTICE_TAG)
        (s.now % 2 ^ 32 * 2 ^ 32 + s.quality * 2 ^ 8 + k) false
    else s) s

/-! ### Pins (R306 to R309) -/

def PinSt.fresh : PinSt := ⟨0, none, none, none, none, false, none, none⟩

def State.pin (s : State) (p : Nat) : PinSt := Tab.get (fun _ => PinSt.fresh) s.tim.pins p

def State.setPin (s : State) (p : Nat) (x : PinSt) : State :=
  s.setTim (fun t => { t with pins := Tab.set (fun _ => PinSt.fresh) t.pins p x })

/-- A pin becomes active: HIGH, PULSES and the notice (R309). -/
def State.pinRise (s : State) (p : Nat) : State :=
  let s := (s.setF (TIM_TPp_STAT_HIGH p) 1).inc (TIM_TPp_PULSES_COUNT p)
  if s.on (TIM_TPp_CFG_NOTICE_EN p) then
    s.notice (ep iTIM 0) (s.f TIM_TP_NOTICE_EP) (s.f TIM_TP_NOTICE_TAG)
      (s.now % 2 ^ 48 * 2 ^ 16 + s.quality * 2 ^ 8 + p) false
  else s

/-- A pin becomes inactive. -/
def State.pinFall (s : State) (p : Nat) : State := s.setF (TIM_TPp_STAT_HIGH p) 0

/-- QUALITY pins follow the state (R306). -/
def State.pinQuality (s : State) : State :=
  (List.range 32).foldl (fun s p =>
    if s.on (TIM_TPp_CFG_ENABLE p) && s.f (TIM_TPp_CFG_MODE p) == 3 then
      let want := decide (s.tim.qst = 3)
      if want && !s.on (TIM_TPp_STAT_HIGH p) then s.pinRise p
      else if !want && s.on (TIM_TPp_STAT_HIGH p) then s.pinFall p else s
    else s) s

/-- The quality state changes, with the events of the change (R297, R301 to R303); QUALITY pins follow. -/
def State.timState (s : State) (new ev : Nat) : State :=
  let old := s.tim.qst
  let s := if old = 4 ∧ new ≠ 4 then s.setF TIM_STATUS_HOLD_S s.holdS else s
  let s := if new = 4 ∧ old ≠ 4 then
      (s.setTim (fun t => { t with holdAt := s.tim.edges })).setF TIM_STATUS_HOLD_S 0 else s
  let s := s.setTim (fun t => { t with qst := new })
  (s.timEvents (ev ||| (if old = new then 0 else 64))).pinQuality

/-! ### The SREF edge (R290, R299) -/

/-- What one SREF edge adds, in 2^-48 tick, and the slew that remains: the last increment is shortened. -/
def State.timInc (s : State) : Int × Int :=
  let left := s.tim.slew48
  let k := Int.ofNat (min s.tim.mag left.natAbs)
  let d := if left < 0 then -k else k
  (2 ^ 48 + signed 64 (s.f TIM_FREQ_FREQ) + d, left - d)

/-- Device time, wrapping at 2^64 ticks. -/
def wrapTime (i : Int) : Nat := (i % (2 : Int) ^ 112).toNat

/-- One SREF edge. -/
def State.timTick (s : State) : State :=
  let r := s.timInc
  s.setTim (fun t => { t with time48 := wrapTime (Int.ofNat t.time48 + r.1), slew48 := r.2, edges := t.edges + 1 })

/-! ### Views (R294, R295) -/

/-- The GPS view in whole nanoseconds. -/
def State.gpsNs (s : State) : Int :=
  (Int.ofNat s.tim.time48 + signed 64 (s.f TIM_GPS_OFFSET_TICKS) * 2 ^ 48) * 10 / 2 ^ 48

/-- Seconds of view v from the seconds of the GPS view. -/
def State.viewSec (s : State) (v : Nat) (g : Int) : Int :=
  let tai := g + 315964819
  let utc := tai - Int.ofNat (s.f TIM_LEAP_CUR)
  match v with
  | 1 => utc + 10800 - 820454400
  | 2 => g - 619315200
  | 3 => g - 820108814
  | 5 => g - 619315200
  | 6 => tai
  | 7 => utc
  | _ => g

/-- Copy device time and the eight views into the TIM_LT registers (R293). -/
def State.timLatch (s : State) : State :=
  let ns := s.gpsNs
  let g := ns / 1000000000
  let s := ((s.setF TIM_LT_TIME_TICKS s.now).setF TIM_LT_FRAC_FRAC (s.tim.time48 / 2 ^ 16)).setF TIM_LATCH_DONE 1
  (List.range 8).foldl (fun s v =>
    let utc := v == 1 || v == 7
    let s := s.setF (TIM_LT_VIEW_v_SEC_SEC v) (unsigned 64 (s.viewSec v g))
    let s := s.setF (TIM_LT_VIEW_v_NS_NS v) (ns % 1000000000).toNat
    let s := s.setF (TIM_LT_VIEW_v_NS_VALID v) (b2n (s.tim.qst != 0 && (!utc || s.on TIM_LEAP_VALID)))
    s.setF (TIM_LT_VIEW_v_NS_LEAP_60 v) (b2n (utc && s.tim.leapIns == some g))) s

/-! ### Register writes -/

def aTim (o : Nat) : Nat := 0x0200060000 + o

/-- A write of TIM_LATCH (R293). -/
def State.latchWrite (s : State) (req value : Nat) : Nat × State :=
  if bit value 0 = false then (cOK, s)
  else if s.on TIM_LATCH_DONE = false then s.regRefuse iTIM (aTim 0x30) req cBUSY
  else (cOK, s.timLatch)

/-- Whether a write comes from software of a stack member that is not the Captain (R295). -/
def State.follower (s : State) (req : Nat) : Bool := s.inStack && !s.on BXL_STATUS_CAPTAIN && epIsl req != iBXL

/-- A write of TIM_GPS_OFFSET (R295). -/
def State.offsetWrite (s : State) (req value : Nat) : Nat × State :=
  if s.follower req then s.regRefuse iTIM (aTim 0x70) req cNOT_OWNER
  else if 2 ≤ s.tim.qst ∧ epIsl req ≠ iBXL then s.regRefuse iTIM (aTim 0x70) req cBUSY
  else
    let r := s.regW iTIM req (aTim 0x70) value
    (r.1, if s.tim.qst = 0 then r.2.timState 1 0 else r.2)

/-- A write of TIM_LEAP or TIM_LEAP_AT (R295). -/
def State.leapWrite (s : State) (req base value : Nat) : Nat × State :=
  if s.follower req then s.regRefuse iTIM base req cNOT_OWNER else s.regW iTIM req base value

/-- A write of TIM_SRC (R297, R488). -/
def State.srcWrite (s : State) (req value : Nat) : Nat × State :=
  let old := s.f TIM_SRC_SEL
  let r := if s.follower req then s.regRefuse iTIM (aTim 0x20) req cNOT_OWNER else s.regW iTIM req (aTim 0x20) value
  if r.1 = cOK ∧ r.2.f TIM_SRC_SEL ≠ old ∧ (s.tim.qst = 2 ∨ s.tim.qst = 3) then (cOK, r.2.timState 4 4) else r

/-- A write of TIM_SLEW (R299, R310): |FREQ| + MAX stays within 1,000 ppm. -/
def State.slewWrite (s : State) (req value : Nat) : Nat × State :=
  let max' := bits value 18 0
  if 10 ^ 6 * 2 ^ 48 < (signed 64 (s.f TIM_FREQ_FREQ)).natAbs * 10 ^ 9 + max' * 2 ^ 48 then
    s.regRefuse iTIM (aTim 0x54) req cRANGE
  else
    let r := s.regW iTIM req (aTim 0x54) value
    if r.1 = cOK then (cOK, r.2.setTim (fun t => { t with mag := max' * 2 ^ 48 / 10 ^ 9 })) else r

/-- The status of a correction (R298, R302); BXL's own come with `bxl`. -/
def State.adjCheck (s : State) (value : Nat) (bxl : Bool) : Nat :=
  let src := bits value 10 8
  let sel := s.f TIM_SRC_SEL
  if src ≠ sel ∨ sel = 0 ∨ (src = 4 ∧ bxl = false) then cNOT_OWNER
  else if s.tim.qst = 0 ∨ s.tim.qst = 5 ∨ (bit value 2 = true ∧ s.tim.stepLeft ≠ 0) then cBUSY
  else if bit value 1 = true ∧ 2 ^ 38 < (signed 64 (s.f TIM_ADJ_FREQ_FREQ)).natAbs then cRANGE
  else cOK

/-- An accepted correction (R298 to R301). -/
def State.adjApply (s : State) (value : Nat) : State :=
  let s := if bit value 1 then s.setF TIM_FREQ_FREQ (s.f TIM_ADJ_FREQ_FREQ) else s
  let raw := s.f TIM_ADJ_PHASE_PHASE
  let phase := signed 64 raw
  let s :=
    if bit value 2 = false then s
    else if phase.natAbs ≤ s.f TIM_STEP_THR_TICKS * 2 ^ 32 then s.setTim (fun t => { t with slew48 := phase * 2 ^ 16 })
    else s.setTim (fun t => { t with slew48 := 0, stepLeft := phase, stepPhase := raw, stepFirst := true })
  let s := s.setTim (fun t => { t with lastCorr := t.edges })
  s.timState (if bit value 3 then 3 else 2) (if s.tim.qst = 4 then 8 else 0)

/-- A write of TIM_ADJ_CMD (R298): with GO, the command takes effect or is refused whole, and STATUS says which. -/
def State.adjWrite (s : State) (req value : Nat) : Nat × State :=
  if s.on TIM_ADJ_CMD_BUSY && bit value 0 then s.regRefuse iTIM (aTim 0x50) req cBUSY
  else
    let r := s.regW iTIM req (aTim 0x50) value
    if r.1 ≠ cOK ∨ bit value 0 = false then r
    else
      let k := r.2.adjCheck value (epIsl req == iBXL)
      let s := r.2.setF TIM_ADJ_CMD_STATUS k
      (cOK, if k = cOK then s.adjApply value else s)

/-- Whether a pin's registers are held: it is enabled, or still active (R307). -/
def State.pinHeld (s : State) (p : Nat) : Bool := s.on (TIM_TPp_CFG_ENABLE p) || s.on (TIM_TPp_STAT_HIGH p)

def aPin (p o : Nat) : Nat := 0x0200060400 + p * 0x20 + o

/-- The checks of R307. -/
def State.pinCheck (s : State) (p mode : Nat) : Nat :=
  let w := s.f (TIM_TPp_WIDTH_TICKS p)
  let per := s.f (TIM_TPp_PERIOD_TICKS p)
  if 5 ≤ mode ∨ (mode = 1 ∧ (per < 2 ∨ per ≤ w)) ∨ (mode ≤ 2 ∧ w = 0) then cRANGE
  else if mode ≤ 1 ∧ s.f (TIM_TPp_START_TICKS p) < s.now + 2 then cTOO_LATE
  else cOK

/-- A write of TIM_TPp_CFG with ENABLE = 1 (R307): refused while a slot binds the pin (R409); a reserved MODE is refused by its encoding as well (R16). -/
def State.pinEnable (s : State) (req p value : Nat) : Nat × State :=
  if (s.pin p).bound.isSome then s.regRefuse iTIM (aPin p 0) req cNOT_OWNER
  else if s.pinHeld p then s.regRefuse iTIM (aPin p 0) req cBUSY
  else
    let mode := bits value 30 28
    let k := s.pinCheck p mode
    let s := s.setF (TIM_TPp_STAT_STATUS p) k
    if 5 ≤ mode then s.regRefuse iTIM (aPin p 0) req cRANGE
    else if k ≠ cOK then s.regW iTIM req (aPin p 0) (value % 2 ^ 31)
    else
      let r := s.regW iTIM req (aPin p 0) value
      let s := r.2.setF (TIM_TPp_STAT_DONE p) 0
      let none' := mode == 1 && bits value 15 0 == 0 && !bit value 26
      let lead := if mode ≤ 1 ∧ none' = false then some (s.f (TIM_TPp_START_TICKS p)) else none
      let s := s.setPin p { PinSt.fresh with lead := lead }
      let s := if none' then s.setF (TIM_TPp_STAT_DONE p) 1 else s
      (r.1, if mode = 4 ∨ (mode = 3 ∧ s.tim.qst = 3) then s.pinRise p else s)

/-- The leading edge of a pulse in ONCE or PERIODIC (R306, R308). -/
def State.pinLead (s : State) (p t : Nat) : State :=
  let x := s.pin p
  let k := x.k + 1
  let last := s.f (TIM_TPp_CFG_MODE p) == 0 || x.stopping ||
    (!s.on (TIM_TPp_CFG_FOREVER p) && decide (s.f (TIM_TPp_CFG_COUNT p) ≤ k))
  let s := s.setPin p { x with
    k := k, trail := some (t + s.f (TIM_TPp_WIDTH_TICKS p))
    lead := if last then none else some (t + s.f (TIM_TPp_PERIOD_TICKS p)) }
  s.pinRise p

/-- A write of TIM_TPp_CFG with ENABLE = 0 (R307): it stops an enabled pin, a pulse that is active or falls due at this
edge running its width; otherwise it writes the fields. -/
def State.pinDisable (s : State) (req p value : Nat) : Nat × State :=
  if s.on (TIM_TPp_CFG_ENABLE p) then
    let x := s.pin p
    let s := s.setF (TIM_TPp_CFG_ENABLE p) 0
    let mode := s.f (TIM_TPp_CFG_MODE p)
    if mode = 3 ∨ mode = 4 then (cOK, if s.on (TIM_TPp_STAT_HIGH p) then s.pinFall p else s)
    else if s.on (TIM_TPp_STAT_HIGH p) then (cOK, s.setPin p { x with stopping := true, lead := none })
    else match x.lead, x.due with
      | some t, _ =>
        if t ≤ s.now then (cOK, (s.setPin p { x with stopping := true }).pinLead p t)
        else (cOK, s.setPin p PinSt.fresh)
      | none, some e =>
        if e ≤ s.tim.edges then (cOK, s.setPin p { x with stopping := true }) else (cOK, s.setPin p PinSt.fresh)
      | none, none => (cOK, s.setPin p PinSt.fresh)
  else if s.on (TIM_TPp_STAT_HIGH p) then s.regRefuse iTIM (aPin p 0) req cBUSY
  else if 5 ≤ bits value 30 28 then s.regRefuse iTIM (aPin p 0) req cRANGE
  else s.regW iTIM req (aPin p 0) value

/-- MCH binds a pin or gives it a new actuator value, in mHz: the next leading edge falls one new period after the last
one (R409). -/
def State.pinDrive (s : State) (p v : Nat) : State :=
  let x := s.pin p
  if x.bound = some v then s
  else
    let e := s.tim.edges
    let due := if v = 0 then none else match x.lastLead with
      | some l => some (max e (l + 100000000000 / v))
      | none => some e
    s.setPin p { x with bound := some v, due := due }

/-- A slot no longer binds a pin: a pulse under way runs its width. -/
def State.pinFree (s : State) (p : Nat) : State :=
  s.setPin p { s.pin p with bound := none, due := none, lastLead := none }

/-- A leading edge of a bound pin falls due (R409). -/
def State.pinBoundLead (s : State) (p v : Nat) : State :=
  match (s.pin p).due with
  | some e =>
    if e ≤ s.tim.edges ∧ 0 < v then
      let per := 100000000000 / v
      (s.setPin p { s.pin p with due := some (e + per), upto := some (e + per / 2), lastLead := some e }).pinRise p
    else s
  | none => s

/-- A write to a register of TIM that is more than its access codes. -/
def State.timRegWrite (s : State) (req isl base value : Nat) : Option (Nat × State) :=
  if isl ≠ iTIM then none
  else
    let o := base % 0x10000
    if o = 0x20 then some (s.srcWrite req value)
    else if o = 0x30 then some (s.latchWrite req value)
    else if o = 0x50 then some (s.adjWrite req value)
    else if o = 0x54 then some (s.slewWrite req value)
    else if o = 0x70 then some (s.offsetWrite req value)
    else if o = 0x78 ∨ o = 0x80 then some (s.leapWrite req base value)
    else if 0x400 ≤ o ∧ o < 0x800 then
      let p := (o - 0x400) / 0x20
      if o % 0x20 = 0 then some (if bit value 31 then s.pinEnable req p value else s.pinDisable req p value)
      else if s.pinHeld p then some (s.regRefuse isl base req cBUSY)
      else none
    else none

/-- The live value of a register of TIM. LEFT of a slew is shown in whole units of 2^-32 tick, cut (log entry 29). -/
def State.timLive (s : State) (isl base : Nat) : Option Nat :=
  if isl ≠ iTIM then none
  else
    let o := base % 0x10000
    if o = 0x24 then some (s.holdS * 2 ^ 16 + s.quality)
    else if o = 0x28 then some s.now
    else if o = 0x60 then some (unsigned 64 (s.tim.slew48.tdiv (2 ^ 16)))
    else if o = 0x68 then some (unsigned 64 s.tim.stepLeft)
    else if 0x800 ≤ o ∧ o < 0xA00 ∧ o % 0x20 = 0x10 then
      some ((Tab.get (fun _ => (⟨[], none⟩ : TcSt)) s.tim.caps ((o - 0x800) / 0x20)).fifo.headD 0)
    else none

/-! ### Steps, holdover, REFIN (R300 to R302) -/

/-- Leading edges still to come on ONCE and PERIODIC pins. -/
def State.pinTargets (s : State) : List Nat :=
  (List.range 32).filterMap (fun p => if s.f (TIM_TPp_CFG_MODE p) ≤ 1 then (s.pin p).lead else none)

/-- Whether a ONCE or PERIODIC pin is active. -/
def State.pinActive (s : State) : Bool :=
  (List.range 32).any (fun p => decide (s.f (TIM_TPp_CFG_MODE p) ≤ 1) && s.on (TIM_TPp_STAT_HIGH p))

/-- A part of a step is applied: the STEP event and record at the first, STEP_DONE at the last (R300). -/
def State.stepBy (s : State) (part : Int) : State :=
  let old := s.now
  let first := s.tim.stepFirst
  let s := s.setTim (fun t => { t with
    time48 := wrapTime (Int.ofNat t.time48 + part * 2 ^ 16), stepLeft := t.stepLeft - part, stepFirst := false })
  let s := if first then s.stage 0x0601 [s.tim.stepPhase] else s
  let s := s.gobStep old
  s.timEvents (b2n first + (if s.tim.stepLeft = 0 then 2 else 0))

/-- STEP_PART (R300): nothing while a ONCE or PERIODIC pin is active. -/
def State.stepPart (s : State) : State :=
  let left := s.tim.stepLeft
  if left = 0 ∨ s.pinActive = true then s
  else if left < 0 then s.stepBy left
  else
    let rooms := s.pinTargets.map (fun t => (Int.ofNat t - 1) * 2 ^ 48 - Int.ofNat s.tim.time48)
    match rooms with
    | [] => s.stepBy left
    | r :: rs =>
      let room := rs.foldl min r
      if left * 2 ^ 16 ≤ room then s.stepBy left
      else
        let part := room / 2 ^ 48 * 2 ^ 32
        if 0 < part then s.stepBy part else s

/-- TIM loses REFIN (R27, R302). -/
def State.refLost (s : State) : State :=
  if s.tim.qst = 5 then s
  else (s.setTim (fun t => { t with before := t.qst })).timState 5 16

/-- REFIN returns (R302): LOCKING and LOCKED come back as HOLDOVER. -/
def State.refReturn (s : State) : State :=
  if s.tim.qst ≠ 5 then s
  else
    let b := s.tim.before
    let st := if b = 2 ∨ b = 3 then 4 else b
    s.timState st (if st = 4 then 4 else 0)

/-! ### Captures (R304, R305) -/

def State.cap (s : State) (n : Nat) : TcSt := Tab.get (fun _ => ⟨[], none⟩) s.tim.caps n

def State.setCap (s : State) (n : Nat) (x : TcSt) : State :=
  (s.setTim (fun t => { t with caps := Tab.set (fun _ => ⟨[], none⟩) t.caps n x })).setF (TIM_TCn_STAT_COUNT n) x.fifo.length

/-- The stamp word of an edge `sub` ns after the present SREF edge (R304). -/
def State.stampWord (s : State) (sub : Nat) : Nat := s.now % 2 ^ 60 * 16 + sub % 10

/-- A stamp reaches the reflex pins of its input (R305, R306). -/
def State.reflexOf (s : State) (n : Nat) : State :=
  (List.range 32).foldl (fun s p =>
    if s.on (TIM_TPp_CFG_ENABLE p) && s.f (TIM_TPp_CFG_MODE p) == 2 && s.f (TIM_TPp_CFG_SRC p) == n then
      if s.on (TIM_TPp_STAT_HIGH p) || (s.pin p).due.isSome then s.inc (TIM_TPp_STAT_IGNORED p)
      else
        let e := s.tim.edges + 2 + s.f (TIM_TPp_DELAY_DELAY p)
        s.setPin p { s.pin p with due := some e, upto := some (e + s.f (TIM_TPp_WIDTH_TICKS p)) }
    else s) s

/-- An edge of input n, `sub` ns after the present SREF edge (R304, R305). -/
def State.capture (s : State) (n : Nat) (rising : Bool) (sub : Nat) : State :=
  let s := s.setF (TIM_TCn_STAT_LEVEL n) (b2n rising)
  let e := s.f (TIM_TCn_CFG_EDGE n)
  if s.on (TIM_TCn_CFG_ENABLE n) = false ∨ ¬(e = 2 ∨ (e = 0 ∧ rising = true) ∨ (e = 1 ∧ rising = false)) then s
  else
    let x := s.cap n
    let at' := s.tim.edges * 10 + sub % 10
    let close := match x.last with
      | some l => decide (at' < l + 20)
      | none => false
    if close then s.inc (TIM_TCn_STAT_CLOSE n)
    else
      let w := s.stampWord sub
      let s := s.setCap n { x with last := some at' }
      let s := s.gobCapture n rising (s.now % 2 ^ 60) (sub % 10)
      let s := s.reflexOf n
      let s := if s.on (TIM_TCn_CFG_NOTICE_EN n) then
          s.notice (ep iTIM 0) (s.f (TIM_TCn_NOTICE_EP n)) (s.f (TIM_TCn_NOTICE_TAG n)) w false else s
      if 4 ≤ x.fifo.length then s.setF (TIM_TCn_STAT_OVERFLOW n) 1
      else s.setCap n { s.cap n with fifo := x.fifo ++ [w] }

/-- What a full read of a register of TIM takes with it: the oldest stamp of an input (R305). -/
def State.timTake (s : State) (base : Nat) : State :=
  let o := base % 0x10000
  if base / 0x10000 = 0x20006 ∧ 0x800 ≤ o ∧ o < 0xA00 ∧ o % 0x20 = 0x10 then
    let n := (o - 0x800) / 0x20
    s.setCap n { s.cap n with fifo := (s.cap n).fifo.drop 1 }
  else s

/-! ### Meanings -/

/-- TIME_LATCH. -/
def execTimeLatch (req value : Nat) (s : State) : Res := 
  s.regRow iTIM req 0x0200060030 4 value (fun s => s.latchWrite req value)

/-- GPS_OFFSET_WRITE. -/
def execGpsOffsetWrite (req value : Nat) (s : State) : Res := 
  s.regRow iTIM req 0x0200060070 8 value (fun s => s.offsetWrite req value)

/-- LEAP_SECOND (R295). -/
def execLeapSecond (s : State) : Res :=
  let g := s.gpsNs / 1000000000
  .next (if s.on TIM_LEAP_PENDING = true ∧ Int.ofNat (s.f TIM_LEAP_AT_SECONDS) ≤ g then
      let inserted := decide (s.f TIM_LEAP_CUR < s.f TIM_LEAP_NEXT)
      let s := (s.setF TIM_LEAP_CUR (s.f TIM_LEAP_NEXT)).setF TIM_LEAP_PENDING 0
      (s.setTim (fun t => { t with leapIns := if inserted then some g else none })).timEvents 32
    else s)

/-- SOURCE_SELECT. -/
def execSourceSelect (req value : Nat) (s : State) : Res := 
  s.regRow iTIM req 0x0200060020 4 value (fun s => s.srcWrite req value)

/-- SLEW_MAX_WRITE. -/
def execSlewMaxWrite (req value : Nat) (s : State) : Res := 
  s.regRow iTIM req 0x0200060054 4 value (fun s => s.slewWrite req value)

/-- TIME_CORRECTION. -/
def execTimeCorrection (req value : Nat) (s : State) : Res := 
  s.regRow iTIM req 0x0200060050 4 value (fun s => s.adjWrite req value)

/-- STEP_PART. -/
def execStepPart (s : State) : Res := .next s.stepPart

/-- HOLDOVER (R301): TIMEOUT × 10 ms without a correction. -/
def execHoldover (s : State) : Res :=
  .next (if (s.tim.qst = 2 ∨ s.tim.qst = 3) ∧ s.tim.lastCorr + s.f TIM_SRC_TIMEOUT * 1000000 ≤ s.tim.edges
    then s.timState 4 4 else s)

/-- REFIN_LOST. -/
def execRefinLost (s : State) : Res := .next s.refLost

/-- REFIN_RETURN. -/
def execRefinReturn (s : State) : Res := .next s.refReturn

/-- CAPTURE_INPUT_EDGE. -/
def execCaptureInputEdge (n : Nat) (rising : Bool) (sub : Nat) (s : State) : Res := .next (s.capture n rising sub)

/-- PIN_ENABLE. -/
def execPinEnable (req p value : Nat) (s : State) : Res := 
  let v := value % 2 ^ 31 + 2 ^ 31
  s.regRow iTIM req (0x0200060400 + p * 0x20) 4 v (fun s => s.pinEnable req p v)

/-- PIN_DISABLE. -/
def execPinDisable (req p value : Nat) (s : State) : Res := 
  let v := value % 2 ^ 31
  s.regRow iTIM req (0x0200060400 + p * 0x20) 4 v (fun s => s.pinDisable req p v)

/-- PIN_LEADING_EDGE: device time has reached the pulse's time, or the SREF edge of a reflex or bound pulse has come. -/
def execPinLeadingEdge (p : Nat) (s : State) : Res :=
  let x := s.pin p
  .next (if s.on (TIM_TPp_STAT_HIGH p) then s
    else match x.bound with
    | some v => s.pinBoundLead p v
    | none => match x.lead, x.due with
      | some t, _ => if t ≤ s.now then s.pinLead p t else s
      | none, some e => if e ≤ s.tim.edges then (s.setPin p { x with due := none }).pinRise p else s
      | none, none => s)

/-- PIN_TRAILING_EDGE. -/
def execPinTrailingEdge (p : Nat) (s : State) : Res :=
  let x := s.pin p
  .next (if s.on (TIM_TPp_STAT_HIGH p) = false then s
    else match x.trail, x.upto with
      | some t, _ =>
        if t ≤ s.now then
          let s := (s.setPin p { x with trail := none, stopping := false }).pinFall p
          if x.lead = none ∧ x.stopping = false then s.setF (TIM_TPp_STAT_DONE p) 1 else s
        else s
      | none, some e =>
        if e ≤ s.tim.edges then (s.setPin p { s.pin p with upto := none, stopping := false }).pinFall p else s
      | none, none => s)

end Sys2Proof.Machine
end

