-- ==== Sys2Proof/Machine/Eth.lean ====
section
/-! DEFINITION. The Ethernet ports: transmit blocks, frames out and in, PTP stamps (R311 to R322). -/

namespace Sys2Proof.Machine

def EthPort.fresh : EthPort := ⟨[], [], 0, 0, 0⟩

def State.ethPort (s : State) (p : Nat) : EthPort := Tab.get (fun _ => EthPort.fresh) s.eth.ports p

/-- Keep a port with the registers that show its buffers and stamps (R315, R322). -/
def State.setEth (s : State) (p : Nat) (x : EthPort) : State :=
  let s := { s with eth := { s.eth with ports := Tab.set (fun _ => EthPort.fresh) s.eth.ports p x } }
  let s := (s.setF (ETH_Pp_TXSTAT_OCCUPIED p) x.bufs.length).setF (ETH_PTPp_TXTS_STAT_COUNT p) x.stamps.length
  (s.setF (ETH_PTPp_TXTS_ID_VALID p) (b2n !x.stamps.isEmpty)).setF (ETH_PTPp_TXTS_ID_ID p) (x.stamps.headD (0, 0)).1

/-! ### Frames (R311, R314) -/

/-- n bytes of a frame from an offset, most significant first. -/
def fr (f : List Byte) (off n : Nat) : Nat := beValue ((f.drop off).take n)

/-- Whether an EtherType is that of a VLAN tag. -/
def isVlan (t : Nat) : Bool := t == 0x8100 || t == 0x88A8

/-- The offset of the EtherType behind up to two VLAN tags (R311). -/
def etherOff (f : List Byte) : Nat :=
  if isVlan (fr f 12 2) then (if isVlan (fr f 16 2) then 20 else 16) else 12

/-- Where the PTP message of a frame begins, and over what: 0 IEEE 802.3, 1 UDP/IPv4, 2 UDP/IPv6, to port 319. -/
def ptpOff (f : List Byte) : Option (Nat × Nat) :=
  let o := etherOff f
  let t := fr f o 2
  if t = 0x88F7 then some (0, o + 2)
  else if t = 0x0800 ∧ fr f (o + 2) 1 / 16 = 4 ∧ fr f (o + 11) 1 = 17 then
    let u := o + 2 + fr f (o + 2) 1 % 16 * 4
    if fr f (u + 2) 2 = 319 then some (1, u + 8) else none
  else if t = 0x86DD ∧ fr f (o + 8) 1 = 17 then
    let u := o + 2 + 40
    if fr f (u + 2) 2 = 319 then some (2, u + 8) else none
  else none

/-- Whether a frame is classed as a PTP event message on a port (R311, R316): Sync, Delay_Req, Pdelay_Req, Pdelay_Resp. -/
def State.ptpEvent (s : State) (p : Nat) (f : List Byte) : Bool :=
  match ptpOff f with
  | some (k, o) =>
    (if k = 0 then s.on (ETH_PTPp_CFG_L2 p) else if k = 1 then s.on (ETH_PTPp_CFG_UDP4 p)
      else s.on (ETH_PTPp_CFG_UDP6 p)) && decide (fr f o 1 % 16 ≤ 3)
  | none => false

/-- Whether a frame may be sent one-step: Sync over IEEE 802.3 or UDP/IPv4 (R314). -/
def oneStepOk (f : List Byte) : Bool :=
  match ptpOff f with
  | some (k, o) => decide (k ≤ 1) && fr f o 1 % 16 == 0
  | none => false

/-- Put bytes into a frame at an offset. -/
def putAt (f : List Byte) (off : Nat) (b : List Byte) : List Byte :=
  f.take off ++ b ++ f.drop (off + b.length)

/-- The time a one-step frame carries (R314): the TAI view at the stamp point, `add` ns after the present SREF edge, in
whole nanoseconds, and the rest below 1 ns added to correctionField in 2^-16 ns. -/
def State.oneStepFrame (s : State) (f : List Byte) (add : Nat) : List Byte :=
  match ptpOff f with
  | some (k, o) =>
    let sub48 := (Int.ofNat s.tim.time48 + signed 64 (s.f TIM_GPS_OFFSET_TICKS) * 2 ^ 48) * 10 + Int.ofNat add * 2 ^ 48
    let ns := sub48 / 2 ^ 48
    let rest := (sub48 % 2 ^ 48 / 2 ^ 32).toNat
    let tai := s.viewSec 6 (ns / 1000000000)
    let corr := (fr f (o + 8) 8 + rest) % 2 ^ 64
    let f := putAt f (o + 8) (beBytes 8 corr)
    let f := putAt f (o + 34) (beBytes 6 (unsigned 48 tai) ++ beBytes 4 (ns % 1000000000).toNat)
    if k = 1 then putAt f (o - 2) (beBytes 2 0) else f
  | none => f

/-! ### Transmission (R313, R318) -/

/-- A transmit token at ETH:0x010 + p (R318). -/
def State.ethTransmit (s : State) (p : Nat) (t : Token) : Nat × State :=
  let a := t.data
  if t.tag % 2 ^ 23 ≠ 0 ∨ bits t.tag 31 26 ≠ 0 ∨ a % 32 ≠ 0 ∨ blockIn a 16 true = false then (cRANGE, s)
  else
    let c := s.rd a 8
    let len := bits c 13 0
    let frame := s.rdBytes (a + 16) (min len 1526)
    let outside := match t.stamp with
      | some _ => (match regionOf a 16 with | .mram => false | _ => true)
      | none => false
    if bits c 63 51 ≠ 0 ∨ bits c 31 14 ≠ 0 ∨ s.rd (a + 12) 4 ≠ 0 ∨ outside = true ∨ len < 60 ∨
        blockIn a (16 + min len 1526) true = false ∨
        (bit c 49 = true ∧ oneStepOk frame = false) then (cRANGE, s)
    else if 1526 < len then (cLENGTH, s)
    else if s.on (ETH_Pp_MACCFG_ENABLE p) = false ∨ s.on (ETH_Pp_LINK_UP p) = false then (cNO_ROUTE, s)
    else
      let x := s.ethPort p
      if 32 ≤ x.bufs.length then (cBUSY, s)
      else
        let b : TxBuf := ⟨bits t.tag 25 23, x.order, s.rd (a + 8) 4, bit c 50,
          bit c 49 && s.on (ETH_PTPp_CFG_ONE_STEP p), bit c 48, bits c 47 32, frame, t.stamp⟩
        (cOK, s.setEth p { x with bufs := x.bufs ++ [b], order := x.order + 1 })

/-- The buffered frame that leaves next: class order, then arrival order (R318). -/
def nextBuf (l : List TxBuf) : Option TxBuf :=
  l.foldl (fun b c => match b with
    | none => some c
    | some x => if c.prio < x.prio || (c.prio == x.prio && c.order < x.order) then some c else some x) none

/-- A transmit stamp joins the queue of a port (R315). -/
def State.txStamp (s : State) (p id word : Nat) : State :=
  let x := s.ethPort p
  if 16 ≤ x.stamps.length then (s.setF (ETH_PTPp_TXTS_STAT_OVERFLOW p) 1).inc (ETH_PTPp_TXTS_STAT_LOST p)
  else
    let s := s.setEth p { x with stamps := x.stamps ++ [(id, word)] }
    if s.on (ETH_PTPp_NOTICE_EN p) then
      s.notice (ep iETH 0) (s.f (ETH_PTPp_NOTICE_EP p)) (s.f (ETH_PTPp_NOTICE_TAG p))
        (word / 16 % 2 ^ 44 * 2 ^ 20 + word % 16 * 2 ^ 16 + id) false
    else s

/-- The stamp word of a time `add` ns after (or, with `back`, before by that much) the present SREF edge. -/
def State.stampNs (s : State) (add back : Nat) : Nat :=
  let ns := (Int.ofNat (s.now * 10 + add) - Int.ofNat back) % ((2 : Int) ^ 60 * 10)
  (ns / 10).toNat * 16 + (ns % 10).toNat

/-- The next buffered frame of a port leaves, its stamp point `sub` ns after the present SREF edge (R312 to R318). A PAUSE
frame holds it. -/
def State.frameSent (s : State) (p sub : Nat) : State :=
  let x := s.ethPort p
  if s.tim.edges < x.paused ∨ s.on (ETH_Pp_LINK_UP p) = false then s
  else match nextBuf x.bufs with
    | none => s
    | some b =>
      let s := s.setEth p { x with bufs := x.bufs.erase b }
      let lat := s.f (ETH_PTPp_LAT_TX_LAT p)
      let f := if b.oneStep then s.oneStepFrame b.frame (sub % 10 + lat) else b.frame
      let s := { s with eth := { s.eth with out := s.eth.out ++ [(p, f ++ leBytes 4 (fcs32 f))] } }
      let s := if b.tsReq && s.on (ETH_PTPp_CFG_STAMP_EN p) then s.txStamp p b.tsId (s.stampNs (sub % 10 + lat) 0) else s
      let s := match b.stamp with
        | some st => s.confirm st.flow st.seq st.index
        | none => s
      if b.report && s.on (ETH_Pp_TXNOTICE_EN p) then
        s.notice (ep iETH 0) (s.f (ETH_Pp_TXNOTICE_EP p)) (s.f (ETH_Pp_TXNOTICE_TAG p))
          (b.ref * 2 ^ 32 + p * 2 ^ 16 + cOK) true
      else s

/-! ### Reception (R319, R320) -/

/-- Whether the address filter admits a frame (R319). -/
def State.ethFilter (s : State) (p : Nat) (f : List Byte) : Bool :=
  let dest := f.take 6
  s.on (ETH_Pp_MACCFG_PROMISC p) || leValue dest == s.f (ETH_Pp_MAC_ADDR p) || beValue dest == 0xFFFFFFFFFFFF ||
    (bit (beValue dest) 40 && bit (s.f (ETH_Pp_HASH_BITS p)) (fcs32 dest / 2 ^ 26))

/-- A PAUSE frame (R317): held for quanta of 512 bit times at the port's speed. -/
def State.pauseTicks (s : State) (p quanta : Nat) : Nat :=
  let mbit := match s.f (ETH_Pp_LINK_SPEED p) with | 0 => 10 | 1 => 100 | _ => 1000
  (quanta * 512 * 100 + mbit - 1) / mbit

/-- An accepted frame goes to the receive ring (R320). -/
def State.ethRing (s : State) (p : Nat) (f : List Byte) (sub : Nat) : State :=
  let x := s.ethPort p
  let size := s.f (ETH_Pp_RX_SIZE_ENTRIES p)
  let wr := s.f (ETH_Pp_RX_WR_INDEX p)
  let seq := x.seq
  let s := s.setEth p { x with seq := wrapInc 32 seq }
  if size = 0 ∨ (wr + 1) % size = s.f (ETH_Pp_RX_RD_INDEX p) then s.inc (ETH_Pp_STAT_RX_DROPS p)
  else
    let event := s.ptpEvent p f
    let stamped := s.on (ETH_PTPp_CFG_STAMP_EN p) && (event || s.on (ETH_PTPp_CFG_STAMP_ALL p))
    let w := if stamped then s.stampNs (sub % 10) (s.f (ETH_PTPp_LAT_RX_LAT p)) else 0
    let e := leBytes 2 f.length ++ leBytes 2 (b2n event + b2n (isVlan (fr f 12 2)) * 2) ++ leBytes 4 seq ++ leBytes 8 w ++ f
    let s := (s.memWrite (ep iETH 0) (s.f (ETH_Pp_RX_BASE_BASE p) * 2048 + wr * 2048) e).2
    let s := s.setF (ETH_Pp_RX_WR_INDEX p) ((wr + 1) % size)
    let s := if s.on (ETH_Pp_RX_NOTICE_EN p) then
        s.notice (ep iETH 0) (s.f (ETH_Pp_RX_NOTICE_EP p)) (s.f (ETH_Pp_RX_NOTICE_TAG p))
          (s.now % 2 ^ 32 * 2 ^ 32 + wr * 2 ^ 16 + p * 2 ^ 8 + 1) false
      else s
    if s.on (ETH_Pp_RX_Q_EN p) then
      s.sendQ ⟨s.f (ETH_Pp_RX_Q_QUEUE p), s.f (ETH_Pp_RX_Q_PRIO p), seq * 2 ^ 32 + wr * 2 ^ 16 + p * 2 ^ 8,
        ep iETH p, none, none⟩
    else s

/-- A frame arrives on a port (R317, R319): `claim` is HST's answer to an accepted frame (R586). -/
def State.frameIn (s : State) (p : Nat) (f : List Byte) (fcsOk : Bool) (sub : Nat)
    (claim : State → Option State) : State :=
  if 2 ≤ p ∨ s.on (ETH_Pp_MACCFG_ENABLE p) = false ∨ s.on (ETH_Pp_LINK_UP p) = false then s
  else if fcsOk = false ∨ f.length < 60 ∨ 1526 < f.length then s.inc (ETH_Pp_STAT_RX_BAD p)
  else if s.on (ETH_Pp_MACCFG_PAUSE_EN p) = true ∧ fr f 0 6 = 0x0180C2000001 ∧ fr f 12 2 = 0x8808 ∧ fr f 14 2 = 1 then
    let s := s.setEth p { s.ethPort p with paused := s.tim.edges + s.pauseTicks p (fr f 16 2) }
    s.inc (ETH_Pp_STAT_PAUSED p)
  else if s.ethFilter p f = false then s
  else match claim s with
    | some s' => s'
    | none => s.ethRing p f sub

/-! ### Registers -/

def aMac (p o : Nat) : Nat := 0x0200280200 + p * 0x80 + o

/-- A write of ETH_Pp_MACCFG (R322): other fields only while ENABLE = 0. Switching a port off takes its link down. -/
def State.macWrite (s : State) (req p value : Nat) : Nat × State :=
  let a := aMac p 0
  if s.on (ETH_Pp_MACCFG_ENABLE p) = true ∧ (bits value 30 30 ≠ s.f (ETH_Pp_MACCFG_MODE p) ∨
      bits value 29 29 ≠ s.f (ETH_Pp_MACCFG_AN_EN p) ∨ bits value 28 28 ≠ s.f (ETH_Pp_MACCFG_PAUSE_EN p) ∨
      bits value 27 27 ≠ s.f (ETH_Pp_MACCFG_PROMISC p)) then s.regRefuse iETH a req cBUSY
  else
    let r := s.regW iETH req a value
    (r.1, if bit value 31 then r.2 else r.2.setF (ETH_Pp_LINK_UP p) 0)

/-- A write to a register of ETH that is more than its access codes (R320, R322). -/
def State.ethRegWrite (s : State) (req isl base value : Nat) : Option (Nat × State) :=
  if isl ≠ iETH then none
  else
    let o := base % 0x10000
    if 0x200 ≤ o ∧ o < 0x300 then
      let p := (o - 0x200) / 0x80
      if o % 0x80 = 0 then some (s.macWrite req p value)
      else if o % 0x80 = 0x20 then
        some (if s.on (ETH_Pp_MACCFG_ENABLE p) then s.regRefuse isl base req cBUSY
          else if blockIn (bits value 39 11 * 2048) 2048 false = false then s.regRefuse isl base req cRANGE
          else s.regW isl req base value)
      else none
    else none

/-- The live value of ETH_PTPp_TXTS_STAMP (R315). -/
def State.ethLive (s : State) (isl base : Nat) : Option Nat :=
  let o := base % 0x10000
  if isl = iETH ∧ (o = 0x110 ∨ o = 0x150) then some (((s.ethPort ((o - 0x110) / 0x40)).stamps.headD (0, 0)).2) else none

/-- What a full read of ETH_PTPp_TXTS_STAMP takes with it. -/
def State.ethTake (s : State) (base : Nat) : State :=
  let o := base % 0x10000
  if base / 0x10000 = 0x20028 ∧ (o = 0x110 ∨ o = 0x150) then
    let p := (o - 0x110) / 0x40
    s.setEth p { s.ethPort p with stamps := (s.ethPort p).stamps.drop 1 }
  else s

/-- A token at ETH (R318). -/
def State.ethToken (s : State) (t : Token) : Nat × State :=
  if epPort t.dest = 0x010 then s.ethTransmit 0 t
  else if epPort t.dest = 0x011 then s.ethTransmit 1 t
  else (cNO_ROUTE, s)

/-- ETH is fenced (R321): links down, buffered frames dropped. -/
def State.ethClear (s : State) : State := { s with eth := { s.eth with ports := [] } }

/-- ETH_TRANSMIT. -/
def execEthTransmit (t : Token) (s : State) : Res := .next (s.arrive t (fun s => s.ethToken t))

/-- ETH_FRAME_SENT. -/
def execEthFrameSent (p sub : Nat) (s : State) : Res := .next (s.frameSent p sub)

/-- ETH_LINK_CHANGE (R317): a link is up only on a port that is on and whose anchor works (R64). -/
def execEthLinkChange (p : Nat) (up : Bool) (speed partner : Nat) (s : State) : Res :=
  .next (((s.setF (ETH_Pp_LINK_UP p) (b2n (up && s.on (ETH_Pp_MACCFG_ENABLE p) && s.ist (iENG (12 + p)) != 5))).setF (ETH_Pp_LINK_SPEED p) speed).setF
    (ETH_Pp_LINK_PARTNER p) partner)

end Sys2Proof.Machine
end

