-- ==== Sys2Proof/Machine/Rad.lean ====
section
/-! DEFINITION. The radio's tables: clock, channels, airtime, frames, budgets and queues (R326 to R335, R340, R343 to R345,
R356 to R358). -/

namespace Sys2Proof.Machine

def RadPort.fresh : RadPort := ⟨0, 0, 0, [], none, none, none, 0, 0, 0, 0, 0, 0, 0, 0, 0, 0, 0⟩

def RadAssoc.fresh : RadAssoc := ⟨0, 0, [], none, [], none, none, 0, 0, 0, 0, 0, 0, none, false, 0, 0, 0⟩

def RadGroup.fresh : RadGroup := ⟨[], none, 0, 0, 0, false⟩

/-- The radio after its reset at edge count e: buckets start empty (R356). -/
def RadSt.fresh (e : Nat) : RadSt := ⟨e, 0, 0, 0, [], [], [], [], [], false, []⟩

def State.setRad (s : State) (f : RadSt → RadSt) : State := { s with rad := f s.rad }

def State.rp (s : State) (n : Nat) : RadPort := Tab.get (fun _ => RadPort.fresh) s.rad.ports n
def State.setRp (s : State) (n : Nat) (x : RadPort) : State :=
  s.setRad (fun r => { r with ports := Tab.set (fun _ => RadPort.fresh) r.ports n x })

def State.ra (s : State) (a : Nat) : RadAssoc := Tab.get (fun _ => RadAssoc.fresh) s.rad.assocs a
def State.setRa (s : State) (a : Nat) (x : RadAssoc) : State :=
  s.setRad (fun r => { r with assocs := Tab.set (fun _ => RadAssoc.fresh) r.assocs a x })

def State.rg (s : State) (g : Nat) : RadGroup := Tab.get (fun _ => RadGroup.fresh) s.rad.groups g
def State.setRg (s : State) (g : Nat) (x : RadGroup) : State :=
  s.setRad (fun r => { r with groups := Tab.set (fun _ => RadGroup.fresh) r.groups g x })

/-- The radio clock (R326). -/
def State.radClk (s : State) : Nat := s.tim.edges - s.rad.base

/-- T_IFS in ticks (R339). -/
def tIfs : Nat := 15000

/-- Ticks of 1.25 ms. -/
def radUnit : Nat := 125000

/-! ### Channels and airtime (R327 to R329) -/

def State.subGhz (s : State) (n : Nat) : Bool := s.f (RADn_CFG_BAND n) != 0

/-- Channels of a sub-band: n of R338 and R343. -/
def State.radN (s : State) (n : Nat) : Nat := if s.subGhz n then 16 else 40

def State.subInUse (s : State) (n sub : Nat) : Bool :=
  if s.subGhz n then s.f (RADn_SBs_FREQ_SPACING n sub) != 0 else sub == 0

/-- The port channel index of channel k of a sub-band. -/
def State.chanIndex (s : State) (n sub k : Nat) : Nat := if s.subGhz n then sub * 16 + k else k

/-- The sub-band of a port channel index. -/
def State.chanSub (s : State) (n i : Nat) : Nat := if s.subGhz n then i / 16 % 4 else 0

/-- The centre of a port channel index, in kHz. -/
def State.chanKhz (s : State) (n i : Nat) : Nat :=
  if s.subGhz n then
    s.f (RADn_SBs_FREQ_BASE n (i / 16 % 4)) + i % 16 * (s.f (RADn_SBs_FREQ_SPACING n (i / 16 % 4)) * 25)
  else 2402000 + 2000 * i

/-- The rate of a code in kbit/s. -/
def State.radRate (s : State) (n code : Nat) : Nat :=
  if s.subGhz n then (match code with | 0 => 50 | 1 => 100 | _ => 200) else (if code = 0 then 1000 else 2000)

/-- Ticks of one byte on the air, of ordinary or of stop frames. -/
def State.byteTicks (s : State) (n : Nat) (stop : Bool) : Nat :=
  800000 / s.radRate n (if stop then s.f (RADn_CFG_STOP_RATE n) else s.f (RADn_CFG_RATE n))

/-- Ticks from the first preamble bit to the end of a frame of len bytes. -/
def State.onAir (s : State) (n len : Nat) (stop : Bool) : Nat :=
  (s.f (RADn_CFG_PREAMBLE n) + 6 + len) * s.byteTicks n stop

/-- Ticks from the first preamble bit to the SFD. -/
def State.sfdAfter (s : State) (n : Nat) (stop : Bool) : Nat := (s.f (RADn_CFG_PREAMBLE n) + 4) * s.byteTicks n stop

/-- A of R329, in µs. -/
def State.airUs (s : State) (n len : Nat) (stop : Bool) : Nat :=
  s.f (RADn_CFG_RAMP_US n) + (s.onAir n len stop + 99) / 100

/-- Whether ENABLE passes R327: every sub-band in use lies inside the band. -/
def State.bandOk (s : State) (n band : Nat) : Bool :=
  band == 0 || (List.range 4).all (fun b =>
    let sp := s.f (RADn_SBs_FREQ_SPACING n b) * 25
    let base := s.f (RADn_SBs_FREQ_BASE n b) * 2
    let lo := (if band = 1 then 863000 else 902000) * 2
    let hi := (if band = 1 then 870000 else 928000) * 2
    sp == 0 || (decide (lo + sp ≤ base) && decide (base + 31 * sp ≤ hi)))

/-- The hop rule (R343). -/
def hopChan (map seed inc n e : Nat) : Nat :=
  let u := (seed + e % 65536 * inc) % n
  let used := (List.range n).filter (fun k => bit map k)
  if bit map u then u else used.getD (u % used.length) 0

/-! ### Accuracy (R344, R345) -/

def scaPpm (code : Nat) : Nat := [500, 250, 150, 100, 75, 50, 30, 20].getD code 500

/-- The code the module declares. -/
def State.radSca (s : State) : Nat := if s.tim.qst = 5 then min (s.f RAD_CFG_SCA) 5 else s.f RAD_CFG_SCA

/-- The widening for t = (SLEEP + 1) × I before its cap, and the cap, in µs. -/
def State.radWiden (s : State) (a : Nat) : Nat × Nat :=
  let i := s.f (RAD_Aa_TIMING_INTERVAL a) * 1250
  let t := (s.f (RAD_Aa_TIMING_SLEEP a) + 1) * i
  (((scaPpm s.radSca + scaPpm (s.f (RAD_Aa_STATUS_ROBOT_SCA a))) * t + 999999) / 1000000 + 16, i / 2)

def State.beyondGuard (s : State) (a : Nat) : Bool := decide ((s.radWiden a).2 ≤ (s.radWiden a).1)

/-- Records queued, those of an unfreed frame included. -/
def radPending (recs : List RadRec) (f : Option RadFrame) : Nat :=
  recs.length + (match f with | some f => f.recs.length | none => 0)

/-- RAD_Aa_STATUS as it reads. -/
def State.radStatus (s : State) (a : Nat) : Nat :=
  let w := s.radWiden a
  let x := s.ra a
  s.f (RAD_Aa_STATUS_EVENT a) * 2 ^ 48 + min w.1 w.2 * 2 ^ 24 + s.f (RAD_Aa_STATUS_ROBOT_SCA a) * 2 ^ 21 +
    b2n (s.beyondGuard a) * 2 ^ 20 + s.f (RAD_Aa_STATUS_FRESH a) * 2 ^ 19 + radPending x.recs x.frame * 2 ^ 14 +
    s.f (RAD_Aa_STATUS_STATE a)

/-- The state of an association (R336). -/
def State.raSt (s : State) (a : Nat) : Nat := s.f (RAD_Aa_STATUS_STATE a)

/-- Whether its connection events run. -/
def State.raRuns (s : State) (a : Nat) : Bool := s.raSt a == 2 || s.raSt a == 3 || s.raSt a == 5

/-! ### Notices (R340) -/

/-- A notice of a kind, with [63:32] given. -/
def State.radNotice (s : State) (n idx kind hi : Nat) : State :=
  if s.on RAD_NOTICE_EN && bit (s.f RAD_NOTICE_EN_EN) (kind - 1) then
    s.notice (ep iRAD 0) (s.f RAD_NOTICE_EP) (s.f RAD_NOTICE_TAG)
      (hi % 2 ^ 32 * 2 ^ 32 + n * 2 ^ 24 + idx * 2 ^ 16 + kind) false
  else s

/-- A notice about an association. -/
def State.raNotice (s : State) (a kind : Nat) : State := s.radNotice (s.f (RAD_Aa_CFG_PORT a)) a kind s.now

/-! ### Budgets (R356 to R358) -/

/-- RES and the ordinary cap. -/
def State.radRes (s : State) (n b : Nat) : Nat :=
  s.f (RADn_SBs_LIMIT_LIMIT_US n b) * s.f (RADn_SBs_BUDGET_RESERVE n b) / 256
def State.radCap (s : State) (n b : Nat) : Nat := s.f (RADn_SBs_LIMIT_LIMIT_US n b) - s.radRes n b

/-- Whether a transmission of us µs passes the test of R357. -/
def State.radMay (s : State) (n b us : Nat) (stop : Bool) : Bool :=
  let ord := s.f (RADn_SBs_USED_ORD_US n b)
  let total := ord + s.f (RADn_SBs_USED_STOP_US n b) + us
  !s.on (RADn_SBs_BUDGET_EN n b) ||
    (decide (total ≤ s.f (RADn_SBs_LIMIT_LIMIT_US n b)) && (stop || decide (ord + us ≤ s.radCap n b)))

/-- BUDGET_LOW, sent when ORD_US reaches its level and armed again below it (R358). -/
def State.radLow (s : State) (n b : Nat) : State :=
  let k := n * 4 + b
  let sent := Tab.get (fun _ => false) s.rad.low k
  let reached := decide (s.radCap n b * s.f (RADn_SBs_BUDGET_LOW n b) / 256 ≤ s.f (RADn_SBs_USED_ORD_US n b))
  let set := fun (v : Bool) (s : State) => s.setRad (fun r => { r with low := Tab.set (fun _ => false) r.low k v })
  if reached = false then set false s
  else if s.on (RADn_SBs_BUDGET_LOW_EN n b) && !sent then set true (s.radNotice n b 7 s.now)
  else s

/-- A charge put on the bucket of a second. -/
def addBucket (sec us : Nat) (stop : Bool) : List RadBucket → List RadBucket
  | [] => [⟨sec, if stop then 0 else us, if stop then us else 0⟩]
  | b :: l =>
    if b.second = sec then
      ⟨sec, if stop then b.ord else b.ord + us, if stop then b.stop + us else b.stop⟩ :: l
    else b :: addBucket sec us stop l

/-- A charge taken off the bucket of a second. -/
def subBucket (sec us : Nat) (stop : Bool) : List RadBucket → List RadBucket
  | [] => []
  | b :: l =>
    if b.second = sec then
      ⟨sec, if stop then b.ord else b.ord - us, if stop then b.stop - us else b.stop⟩ :: l
    else b :: subBucket sec us stop l

/-- The buckets of a sub-band changed, ORD_US and STOP_US their sums, and BUDGET_LOW judged. -/
def State.setBuckets (s : State) (n b : Nat) (f : List RadBucket → List RadBucket) : State :=
  let l := f (Tab.get (fun _ => []) s.rad.buckets (n * 4 + b))
  let s := s.setRad (fun r => { r with buckets := Tab.set (fun _ => []) r.buckets (n * 4 + b) l })
  let s := s.setF (RADn_SBs_USED_ORD_US n b) (l.map RadBucket.ord).sum
  (s.setF (RADn_SBs_USED_STOP_US n b) (l.map RadBucket.stop).sum).radLow n b

/-- A new budget second (R356): a bucket leaves 3,600 seconds after its own. -/
def State.radSecond (s : State) : State :=
  if s.tim.edges % 100000000 = 0 ∧ s.tim.edges ≠ s.rad.secondAt then
    let now := s.rad.second + 1
    let s := s.setRad (fun r => { r with second := now, secondAt := s.tim.edges })
    (s.rad.buckets.map Prod.fst).foldl (fun s k =>
      s.setBuckets (k / 4) (k % 4) (fun l => l.filter (fun b => decide (now < b.second + 3600)))) s
  else s

/-! ### Records (R332, R351, R352) -/

/-- STAMP of a record. -/
def stampValue (st : Stamp) : Nat := st.flow % 4096 + st.index * 2 ^ 12 + st.seq * 2 ^ 16

def RadRec.bytes (r : RadRec) : List Byte :=
  leBytes 1 r.typ ++ leBytes 1 (b2n r.stamp.isSome) ++ leBytes 2 r.body.length ++
    leBytes 8 (match r.stamp with | some st => stampValue st | none => 0) ++ r.body

/-- A record placed by class and arrival. -/
def insertRec (x : RadRec) : List RadRec → List RadRec
  | [] => [x]
  | y :: l => if x.prio < y.prio then x :: y :: l else y :: insertRec x l

/-- The leading records that fit into `room` bytes, and the rest. -/
def takeFit : Nat → List RadRec → List RadRec × List RadRec
  | _, [] => ([], [])
  | room, r :: l =>
    if r.bytes.length ≤ room then
      let t := takeFit (room - r.bytes.length) l
      (r :: t.1, t.2)
    else ([], r :: l)

/-- A record is refused after it was queued (R337, R352): a committed output is handled under R102, and an unflowed
release's is reported. -/
def State.recRefuse (s : State) (code : Nat) (r : RadRec) : State :=
  match r.stamp, r.task with
  | some st, _ => s.outputConfirmed st.flow st.seq st.index code
  | none, some (i, gen, k) => s.refusalReport (s.inst i) (unflowedRefusal r.src i gen k code) r.dest code
  | none, none => s

/-- A record reached its robot or its group: a stamped one is confirmed (R352, R353). -/
def State.recConfirm (s : State) (r : RadRec) : State :=
  match r.stamp with
  | some st => s.confirm st.flow st.seq st.index
  | none => s

/-! ### Frames (R330 to R335) -/

/-- A MAC frame: header, payload and CRC. -/
def macFrame (fc assoc network seq ackSeq ackStatus info event : Nat) (payload : List Byte) : List Byte :=
  let b := leBytes 1 fc ++ leBytes 1 assoc ++ leBytes 2 network ++ leBytes 2 seq ++ leBytes 2 ackSeq ++
    leBytes 1 ackStatus ++ leBytes 1 info ++ leBytes 2 event ++ leBytes 2 payload.length ++ leBytes 2 0 ++ payload
  b ++ leBytes 4 (crc32c b)

/-- INFO of a module frame. -/
def State.radInfo (s : State) : Nat := s.radSca + b2n (s.on REF_STOP_STATUS_LATCHED) * 8

/-- A module frame of this network. -/
def State.modFrame (s : State) (typ assoc seq event : Nat) (more : Bool) (ack : Option (Nat × Nat))
    (payload : List Byte) : List Byte :=
  let a := ack.getD (0, 0)
  macFrame (typ + b2n more * 16 + b2n ack.isSome * 32 + 64) assoc (s.f RAD_CFG_NETWORK) seq a.1 a.2 s.radInfo event payload

/-- The payload of a BEACON whose first preamble bit leaves at time t (R333). -/
def State.beaconPayload (s : State) (n t : Nat) : List Byte :=
  let ahead := t + s.sfdAfter n false - s.radClk
  let gps := if s.tim.qst = 3 then unsigned 64 (s.gpsNs + Int.ofNat (ahead * 10)) else 0
  let open' := (List.range 64).any (fun a => s.raSt a == 1 && s.f (RAD_Aa_CFG_PORT a) == n)
  let free := (List.range 64).filter (fun a => s.raSt a == 0)
  leBytes 8 (s.f UPD_UNIT_ID_LO_ID) ++ leBytes 8 gps ++ leBytes 1 (b2n open') ++ leBytes 1 free.length ++ leBytes 2 0

/-- The first anchor of an association not before time t (R341). -/
def State.firstAnchor (s : State) (n a t : Nat) : Nat :=
  let b := (s.rp n).origin + s.f (RAD_Aa_TIMING_ANCHOR a) * radUnit
  let step := s.f (RAD_Aa_TIMING_INTERVAL a) * radUnit
  if t ≤ b then b else b + (t - b + step - 1) / max step 1 * step

/-- The payload of a JOIN_ACCEPT sent from time t on, with its first anchor (R333). -/
def State.acceptPayload (s : State) (n a t : Nat) : List Byte :=
  let x := s.ra a
  let first := s.firstAnchor n a (t + s.onAir n 60 false + 250000)
  leBytes 8 (s.f (RAD_Aa_ID_ROBOT_ID a)) ++ leBytes 1 a ++ leBytes 1 (s.f (RAD_Aa_STATUS_FRESH a)) ++ leBytes 2 x.high ++
    leBytes 2 x.txNext ++ leBytes 2 (s.f (RAD_Aa_TIMING_INTERVAL a)) ++ leBytes 2 (s.f (RAD_Aa_TIMING_TIMEOUT a)) ++
    leBytes 2 (s.f (RAD_Aa_TIMING_SLEEP a)) ++ leBytes 1 (s.f (RAD_Aa_CHMAP_SEED a)) ++
    leBytes 1 (s.f (RAD_Aa_CHMAP_INC a)) ++ leBytes 2 (s.f (RAD_Aa_GROUPS_MASK a)) ++ leBytes 8 (s.f (RAD_Aa_CHMAP_MAP a)) ++
    leBytes 4 ((first - (t + s.sfdAfter n false)) / 100) ++ leBytes 2 (s.f (RAD_Aa_CFG_RX_MAX a)) ++
    leBytes 2 (s.f (RAD_Aa_TIMING_EVENT_MAX_US a))

/-- The payload of a CTRL frame sent on port n from time t on (R334); the reason of a TERMINATE is open. -/
def State.ctrlPayload (s : State) (n t : Nat) : RadCtrl → List Byte × State
  | .map inst v =>
    (leBytes 1 1 ++ leBytes 1 0 ++ leBytes 2 inst ++ leBytes 8 (bits v 39 0) ++ leBytes 1 (bits v 51 46) ++
      leBytes 1 (bits v 57 52) ++ leBytes 2 0, s)
  | .timing inst v =>
    (leBytes 1 2 ++ leBytes 1 0 ++ leBytes 2 inst ++ leBytes 2 (bits v 35 24) ++ leBytes 2 (bits v 11 0) ++
      leBytes 2 (bits v 23 15) ++ leBytes 2 (bits v 63 48), s)
  | .group g =>
    let x := s.rg g
    (leBytes 1 3 ++ leBytes 1 0 ++ leBytes 2 0 ++ leBytes 1 g ++ leBytes 1 (s.f (RAD_Gg_CFG_REPEAT g)) ++
      leBytes 2 (s.f (RAD_Gg_CFG_PERIOD g)) ++ leBytes 2 x.event ++ leBytes 2 0 ++
      leBytes 4 ((x.next - (t + s.sfdAfter n false)) / 100) ++ leBytes 1 (s.f (RAD_Gg_CHMAP_SEED g)) ++
      leBytes 1 (s.f (RAD_Gg_CHMAP_INC g)) ++ leBytes 2 0 ++ leBytes 8 (s.f (RAD_Gg_CHMAP_MAP g)), s)
  | .terminate =>
    let r := s.free 8
    (leBytes 1 4 ++ leBytes 1 0 ++ leBytes 2 0 ++ leBytes 1 r.1 ++ leBytes 3 0, r.2)

/-- Bytes of a CTRL payload. -/
def RadCtrl.size : RadCtrl → Nat
  | .map _ _ => 16
  | .timing _ _ => 12
  | .group _ => 28
  | .terminate => 8

/-- The payload of a STOP frame of a burst (R335). -/
def State.stopPayload (s : State) (burst : Nat) : List Byte :=
  if burst = 0 then leBytes 4 (s.f REF_STOP_ID_STOP_ID) ++ leBytes 12 0
  else
    leBytes 4 (s.f REF_STOP_ID_STOP_ID) ++ leBytes 1 (s.f REF_STOP_STATUS_REASON) ++
      leBytes 1 (s.f REF_STOP_STATUS_ORIGIN + 16) ++ leBytes 2 0 ++ leBytes 8 (s.f REF_STOP_TIME_STAMP / 16)

/-- Bytes of the payload an association's next module frame carries. -/
def State.radNextLen (s : State) (a : Nat) : Nat :=
  let x := s.ra a
  match x.frame with
  | some f => f.payload.length
  | none =>
    if x.recs ≠ [] then (((takeFit 1004 x.recs).1.map (fun r => r.bytes.length))).sum
    else match x.ctrl with
      | c :: _ => c.size
      | [] => 0

/-- The frame an association sends next, from time t on, and the state that keeps it until it is freed (R342, R352): the
frame awaiting retransmission, DATA, CTRL, or EMPTY, whose SEQ is open. -/
def State.radCompose (s : State) (n a t : Nat) : RadFrame × State :=
  let x := s.ra a
  match x.frame with
  | some f => (f, s)
  | none =>
    if x.recs ≠ [] then
      let p := takeFit 1004 x.recs
      let f : RadFrame := ⟨4, x.txNext, p.1.flatMap RadRec.bytes, p.1, false⟩
      (f, s.setRa a { x with recs := p.2, frame := some f, txNext := wrapInc 16 x.txNext })
    else match x.ctrl with
      | c :: cs =>
        let p := s.ctrlPayload n t c
        let f : RadFrame := ⟨6, x.txNext, p.1, [], c == .terminate⟩
        (f, p.2.setRa a { p.2.ra a with ctrl := cs, frame := some f, txNext := wrapInc 16 x.txNext })
      | [] =>
        let r := s.free 16
        (⟨5, r.1, [], [], false⟩, r.2)

end Sys2Proof.Machine
end

