-- ==== Sys2Proof/Machine/RadMac.lean ====
section
/-! DEFINITION. The radio at work: slots, transmissions, reception, joins, events, groups and stop bursts (R336 to R359). -/

namespace Sys2Proof.Machine

/-! ### Slots (R355) -/

def State.portOn (s : State) (n : Nat) : Bool := decide (n < 4) && s.on (RADn_CFG_ENABLE n)

/-- The time of the first preamble bit of a transmission whose TXGO rises now. -/
def State.radT (s : State) (n : Nat) : Nat := s.radClk + s.f (RADn_LEAD_TX_LEAD_US n) * 100

/-- Whether a slot is in progress on a port. -/
def State.portBusy (s : State) (n : Nat) : Bool :=
  let x := s.rp n
  x.tx.isSome || x.rx.isSome || x.listen.isSome || !x.plan.isEmpty || decide (s.radClk < x.busy)

/-- Whether a beacon falls due on a port now, on its grid (R339). -/
def State.beaconDue (s : State) (n : Nat) : Bool :=
  let x := s.rp n
  let t := s.radT n
  s.portOn n && s.on (RADn_BEACON_EN n) && s.f (RADn_BEACON_COUNT n) != 0 && decide (x.origin < t) &&
    (t - x.origin) % (s.f (RADn_BEACON_INTERVAL n) * radUnit) == 0 && x.beaconAt != t

/-- The channel index of the j-th beacon: the listed channels in turn. -/
def State.beaconChan (s : State) (n j : Nat) : Nat :=
  match j % max (s.f (RADn_BEACON_COUNT n)) 1 with
  | 0 => s.f (RADn_BEACON_CH0 n)
  | 1 => s.f (RADn_BEACON_CH1 n)
  | _ => s.f (RADn_BEACON_CH2 n)

/-- The channel index of stop channel k. -/
def State.stopChan (s : State) (n k : Nat) : Nat :=
  match k with
  | 0 => s.f (RADn_STOP_CH0 n)
  | 1 => s.f (RADn_STOP_CH1 n)
  | 2 => s.f (RADn_STOP_CH2 n)
  | _ => s.f (RADn_STOP_CH3 n)

/-- Items due on a port at this edge that can be sent, as (class, kind, index): beacon 0, group 1, association 2. -/
def State.radDue (s : State) (n : Nat) : List (Nat × Nat × Nat) :=
  let t := s.radT n
  let b := if s.beaconDue n && s.radMay n (s.chanSub n (s.beaconChan n (s.rp n).beacons)) (s.airUs n 40 false) false
    then [(s.f (RADn_BEACON_CLASS n), 0, 0)] else []
  let gs := (idxWhere 16 (fun g => s.on (RAD_Gg_CFG_EN g) && s.f (RAD_Gg_CFG_PORT g) == n && (s.rg g).next == t &&
      ((s.rg g).frame.isSome || !(s.rg g).recs.isEmpty) &&
      s.radMay n (s.f (RAD_Gg_CFG_SUBBAND g)) (s.airUs n (20 + (match (s.rg g).frame with
        | some f => f.payload.length
        | none => ((takeFit 1004 (s.rg g).recs).1.map (fun r => r.bytes.length)).sum)) false) false)).map
    (fun g => (s.f (RAD_Gg_CFG_CLASS g), 1, g))
  let as' := (idxWhere 64 (fun a => s.raRuns a && s.f (RAD_Aa_CFG_PORT a) == n && (s.ra a).next == t &&
      s.radMay n (s.f (RAD_Aa_CFG_SUBBAND a)) (s.airUs n (20 + s.radNextLen a) false) false)).map
    (fun a => (s.f (RAD_Aa_CFG_CLASS a), 2, a))
  b ++ gs ++ as'

/-- Whether (class, kind, index) goes before another: higher class, then beacon, group, association, then lower index. -/
def dueBefore (x y : Nat × Nat × Nat) : Bool :=
  decide (x.1 < y.1) || (x.1 == y.1 && (decide (x.2.1 < y.2.1) || (x.2.1 == y.2.1 && decide (x.2.2 < y.2.2))))

/-- Whether an item can start at its own time, which is now. -/
def State.slotFree (s : State) (n : Nat) (item : Nat × Nat × Nat) : Bool :=
  !s.portBusy n && !(s.radDue n).any (fun y => dueBefore y item)

def State.skipItem (s : State) (n : Nat) : State :=
  s.setRp n { s.rp n with skipped := satInc 32 (s.rp n).skipped }

/-- An ordinary transmission failed its budget test: skipped, and counted as such too (R357). -/
def State.skipBudget (s : State) (n b : Nat) : State := (s.skipItem n).inc (RADn_SBs_SKIPS_BUDGET_SKIPS n b)

/-- When the next item falls due on a port after time t. -/
def State.nextDue (s : State) (n t : Nat) : Option Nat :=
  let x := s.rp n
  let step := s.f (RADn_BEACON_INTERVAL n) * radUnit
  let bs := if s.on (RADn_BEACON_EN n) && s.f (RADn_BEACON_COUNT n) != 0
    then [x.origin + ((t - x.origin) / max step 1 + 1) * step] else []
  let gs := (idxWhere 16 (fun g => s.on (RAD_Gg_CFG_EN g) && s.f (RAD_Gg_CFG_PORT g) == n)).map (fun g => (s.rg g).next)
  let as' := (idxWhere 64 (fun a => s.raRuns a && s.f (RAD_Aa_CFG_PORT a) == n)).map (fun a => (s.ra a).next)
  match bs ++ gs ++ as' with
  | [] => none
  | y :: l => some (l.foldl min y)

/-! ### Transmissions -/

/-- TXGO rises: the airtime is charged to the second in progress and the frame is on the air (R356). -/
def State.radOn (s : State) (n t : Nat) (w : RadWhat) (chan : Nat) (stop : Bool) (frame : List Byte) : State :=
  let b := s.chanSub n chan
  let us := s.airUs n frame.length stop
  let s := s.setBuckets n b (addBucket s.rad.second us stop)
  let e := t + s.onAir n frame.length stop
  s.setRp n { s.rp n with
    tx := some ⟨t, e, w, b, us, s.rad.second, chan, frame⟩, busy := max (s.rp n).busy e }

/-- The window that opens T_IFS after a module frame that ends at time e (R339, R342). -/
def State.radListen (s : State) (n e chan : Nat) (join : Bool) (a : Nat) : State :=
  let hi := e + tIfs + 1000 + s.sfdAfter n false
  s.setRp n { s.rp n with listen := some ⟨join, a, chan, e + tIfs - 1000, hi⟩, busy := hi }

/-- A group event's frame (R353): the one kept, or one packed now. -/
def State.groupFrame (s : State) (g : Nat) : RadFrame × State :=
  let x := s.rg g
  match x.frame with
  | some f => (f, s)
  | none =>
    let p := takeFit 1004 x.recs
    let f : RadFrame := ⟨7, x.seq, p.1.flatMap RadRec.bytes, p.1, false⟩
    (f, s.setRg g { x with recs := p.2, frame := some f, seq := wrapInc 16 x.seq })

/-- The last copy of a group frame is over (R353): its records are confirmed if a copy was sent, and otherwise wait. -/
def State.groupDone (s : State) (g : Nat) : State :=
  let x := s.rg g
  match x.frame with
  | some f =>
    if x.copied then f.recs.foldl State.recConfirm (s.setRg g { x with frame := none, copied := false }) else s
  | none => s

/-- Plan a transmission. -/
def State.radPlan (s : State) (n t : Nat) (w : RadWhat) : State :=
  s.setRp n { s.rp n with plan := (s.rp n).plan ++ [⟨t, w⟩] }

/-- A copy of a group frame is over or was not sent: the next one follows, or the frame is done. -/
def State.groupNext (s : State) (n g copy t : Nat) : State :=
  if copy < s.f (RAD_Gg_CFG_REPEAT g) then s.radPlan n t (.group g (copy + 1)) else s.groupDone g

/-- A stop frame is over or was not sent: the burst goes on with its next channel. -/
def State.stopNext (s : State) (n burst k t : Nat) : State :=
  if k + 1 < s.f (RADn_STOP_COUNT n) then s.radPlan n t (.stop burst (k + 1)) else s

/-- A JOIN_ACCEPT could not be sent: an association that left CONNECTED for it waits again if it may (R337). -/
def State.acceptFail (s : State) (a : Nat) : State :=
  if s.raSt a = 4 ∧ s.on (RAD_Aa_CFG_AUTO_REJOIN a) = true then s.setF (RAD_Aa_STATUS_STATE a) 1 else s

/-- A planned transmission starts, or fails its budget test (R357). -/
def State.radStart (s : State) (n : Nat) (p : RadPlan) : State :=
  match p.what with
  | .beacon j =>
    let c := s.beaconChan n j
    if s.radMay n (s.chanSub n c) (s.airUs n 40 false) false = false then s.skipBudget n (s.chanSub n c)
    else
      let f := s.modFrame 1 0x80 (j % 65536) 0 false none (s.beaconPayload n p.at')
      let s := s.radOn n p.at' p.what c false f
      s.radListen n (p.at' + s.onAir n f.length false) c true 0
  | .accept a _ =>
    let c := (s.ra a).chan
    if s.radMay n (s.chanSub n c) (s.airUs n 60 false) false = false then (s.skipBudget n (s.chanSub n c)).acceptFail a
    else
      let r := s.free 16
      r.2.radOn n p.at' p.what c false (r.2.modFrame 3 a r.1 0 false none (r.2.acceptPayload n a p.at'))
  | .exchange a _ =>
    let c := (s.ra a).chan
    let r := s.radCompose n a p.at'
    let s := r.2
    if s.radMay n (s.chanSub n c) (s.airUs n (20 + r.1.payload.length) false) false = false then s.skipBudget n (s.chanSub n c)
    else
      let x := s.ra a
      let more := !x.recs.isEmpty || !x.ctrl.isEmpty
      let f := s.modFrame r.1.typ a r.1.seq ((x.event + 65535) % 65536) more x.ack r.1.payload
      let s := s.setRa a { x with more := more }
      let s := s.radOn n p.at' p.what c false f
      s.radListen n (p.at' + s.onAir n f.length false) c false a
  | .group g r =>
    let b := s.f (RAD_Gg_CFG_SUBBAND g)
    let q := s.groupFrame g
    let s := q.2
    let e := ((s.rg g).event + 65535) % 65536
    let c := s.chanIndex n b (hopChan (s.f (RAD_Gg_CHMAP_MAP g)) (s.f (RAD_Gg_CHMAP_SEED g)) (s.f (RAD_Gg_CHMAP_INC g))
      (s.radN n) (4 * e + r))
    let len := 20 + q.1.payload.length
    if s.radMay n b (s.airUs n len false) false = false then
      (s.skipBudget n b).groupNext n g r (p.at' + s.onAir n len false + tIfs)
    else s.radOn n p.at' p.what c false (s.modFrame 7 (g + 64) q.1.seq e false none q.1.payload)
  | .stop burst k =>
    let c := s.stopChan n k
    let b := s.chanSub n c
    if s.radMay n b (s.airUs n 36 true) true = false then
      let s := (s.inc (RADn_SBs_SKIPS_STOP_SKIPS n b)).stage 0x2302 [n + b * 256]
      (s.radNotice n b 8 s.now).stopNext n burst k p.at'
    else s.radOn n p.at' p.what c true (s.modFrame 0xF 0x80 (burst % 65536) 0 false none (s.stopPayload burst))

/-- A JOIN_ACCEPT has left (R337, R341, R346): JOINING, the supervision timer runs from its SFD, event 0 is known. -/
def State.acceptSent (s : State) (n a : Nat) (t : RadTx) : State :=
  let infos := (idxWhere 16 (fun g => bit (s.f (RAD_Aa_GROUPS_MASK a)) g && s.on (RAD_Gg_CFG_EN g))).map RadCtrl.group
  let s := s.setRa a { s.ra a with
    ctrl := infos, ack := none, update := none, more := false, missed := 0, event := 0
    next := s.firstAnchor n a (t.stop + 250000), timer := t.start + s.sfdAfter n false }
  let s := s.setRp n { s.rp n with joins := satInc 32 (s.rp n).joins }
  (s.setF (RAD_Aa_STATUS_STATE a) 2).setF (RAD_Aa_STATUS_EVENT a) 0

/-- A transmission ends: the frame has left the module. -/
def State.radFinish (s : State) (n : Nat) (t : RadTx) : State :=
  let stop := match t.what with | .stop _ _ => true | _ => false
  let x := s.rp n
  let s := s.setRp n (if stop then { x with tx := none, stopFrames := satInc 32 x.stopFrames }
    else { x with tx := none, txFrames := satInc 32 x.txFrames })
  let s := s.setRad (fun r => { r with out := r.out ++ [(n, s.chanKhz n t.chan, stop, t.frame)] })
  match t.what with
  | .beacon _ => s
  | .accept a _ => s.acceptSent n a t
  | .exchange a _ => s.setRa a { s.ra a with ack := none }
  | .group g r => (s.setRg g { s.rg g with copied := true }).groupNext n g r (t.stop + tIfs)
  | .stop burst k => s.stopNext n burst k (t.stop + tIfs)

/-! ### Ends of associations (R337, R352) -/

/-- What is planned or listened for on behalf of an association is dropped. -/
def State.radForget (s : State) (a : Nat) : State :=
  let n := s.f (RAD_Aa_CFG_PORT a)
  let x := s.rp n
  s.setRp n { x with
    plan := x.plan.filter (fun p => match p.what with | .exchange b _ => b != a | .accept b _ => b != a | _ => true)
    listen := match x.listen with | some w => if w.join = false ∧ w.assoc = a then none else some w | none => none }

/-- LOST: the records of an unacknowledged frame go back to the head of the queue (R352). -/
def State.radLost (s : State) (a : Nat) : State :=
  let x := s.ra a
  let back := match x.frame with | some f => f.recs | none => []
  let s := (s.radForget a).setRa a { x with frame := none, recs := back ++ x.recs, ctrl := [], ack := none, update := none }
  let s := s.setF (RAD_Aa_STATUS_STATE a) 4
  (s.raNotice a 2).stage 0x2301 [a + s.f (RAD_Aa_CFG_PORT a) * 256]

/-- OFF: every record queued is refused with NO_ROUTE (R337). -/
def State.radOff (s : State) (a : Nat) : State :=
  let x := s.ra a
  let all := (match x.frame with | some f => f.recs | none => []) ++ x.recs
  let s := (s.radForget a).setRa a { x with frame := none, recs := [], ctrl := [], ack := none, update := none }
  let s := s.setF (RAD_Aa_STATUS_STATE a) 0
  all.foldl (fun s r => s.recRefuse cNO_ROUTE r) s

/-- OFF with notice CLOSED. -/
def State.radClosed (s : State) (a : Nat) : State := (s.radOff a).raNotice a 5

/-! ### Reception (R339, R342, R349, R352) -/

/-- Whether a received frame passes the first row of R349. -/
def State.frameOk (s : State) (f : List Byte) : Bool :=
  let l := f.length
  let typ := fld f 0 1 % 16
  decide (20 ≤ l) && decide (l ≤ 1024) && fld f (l - 4) 4 == crc32c (f.take (l - 4)) && fld f 0 1 / 64 == 1 &&
    (typ == 2 || typ == 4 || typ == 5) && fld f 12 2 == l - 20 && fld f 2 2 == s.f RAD_CFG_NETWORK

/-- Whether a frame heard in a window is a valid robot frame of the window's association. -/
def State.robotOk (s : State) (w : RadListen) (f : List Byte) : Bool :=
  s.frameOk f && fld f 0 1 % 16 != 2 && !w.join && fld f 1 1 == w.assoc && s.raRuns w.assoc

/-- An SFD within an open window: reception begins, and supervision restarts at the SFD of a valid frame (R346). A frame
outside every window is dropped and counted. -/
def State.radSfd (s : State) (n : Nat) (f : List Byte) (rssi : Nat) : State :=
  let x := s.rp n
  let t := s.radClk
  let bad := s.setRp n { x with rxBad := satInc 32 x.rxBad }
  if s.portOn n = false ∨ x.rx.isSome = true then s
  else match x.listen with
    | none => bad
    | some w =>
      if t < w.lo ∨ w.hi < t then bad
      else
        let e := t + (2 + f.length) * s.byteTicks n false
        let s := s.setRp n { x with
          listen := none, rx := some ⟨w, t, e, f, rssi, (s.ra w.assoc).timer⟩, busy := max x.busy (e + tIfs) }
        if s.robotOk w f then s.setRa w.assoc { s.ra w.assoc with timer := t } else s

/-- The acknowledgement a robot frame carries (R352). -/
def State.radAcked (s : State) (a : Nat) (f : List Byte) : State :=
  let x := s.ra a
  match x.frame with
  | none => s
  | some g =>
    if bit (fld f 0 1) 5 = false ∨ fld f 6 2 ≠ g.seq then s
    else
      let st := fld f 8 1
      if st = cBUSY then s
      else
        let s := s.setRa a { x with frame := none }
        if st = cOK ∨ st = cDUPLICATE then
          let s := g.recs.foldl State.recConfirm s
          if g.term && s.raSt a == 5 then s.radClosed a else s
        else g.recs.foldl (fun s r => s.recRefuse st r) s

/-- The outcome of an item offered by an association (R349, R350), at its journal write. -/
def State.radAck (s : State) (a seq status : Nat) : State :=
  let x := s.ra a
  let s := s.setRa a { x with
    wait := none, ack := some (seq, status)
    high := if status = cOK then seq else x.high, items := if status = cOK then satInc 16 x.items else x.items }
  if status = cOK then s.setF (RAD_Aa_STATUS_FRESH a) 0 else s

/-- A DATA frame of an association (R349, R350): the outcome, or its item's journal write. The item's class is that of the
association. -/
def State.radData (s : State) (n a : Nat) (f : List Byte) : State :=
  let x := s.ra a
  let seq := fld f 4 2
  let d := (seq + 65536 - x.high) % 65536
  let pay := (f.drop 16).take (f.length - 20)
  let fresh := s.on (RAD_Aa_STATUS_FRESH a)
  let ack := fun (st : Nat) (s : State) => s.setRa a { s.ra a with ack := some (seq, st) }
  if fresh = false ∧ (d = 0 ∨ 65505 ≤ d) then
    ack cDUPLICATE (s.setRp n { s.rp n with rxDup := satInc 32 (s.rp n).rxDup })
  else if fresh = false ∧ 33 ≤ d then ack cRANGE s
  else if 992 < pay.length then ack cLENGTH s
  else if x.wait.isSome then ack cBUSY s
  else
    let r := s.offer ⟨.radio n a seq seq, 2, s.f (RAD_Aa_CFG_FLOW a), 0, s.f (RAD_Aa_CFG_CLASS a),
      seq + a * 2 ^ 16 + n * 2 ^ 22, pay⟩
    if r.1 = cOK then r.2.setRa a { r.2.ra a with wait := some seq } else ack r.1 r.2

/-- After a robot frame that ended at time e: another exchange while either side has more and it fits, or the event ends
(R342). -/
def State.radMore (s : State) (n a e : Nat) (f : List Byte) : State :=
  let x := s.ra a
  let t := e + tIfs
  let stop := t + s.onAir n (20 + s.radNextLen a) false + tIfs + s.onAir n (s.f (RAD_Aa_CFG_RX_MAX a)) false + tIfs
  let fits := decide (stop ≤ x.anchor + s.f (RAD_Aa_TIMING_EVENT_MAX_US a) * 100) &&
    (match s.nextDue n e with | some d => decide (stop ≤ d) | none => true)
  if (bit (fld f 0 1) 4 || x.more) && fits && s.raRuns a then s.radPlan n t (.exchange a false) else s

/-- A valid robot frame has been received (R337, R349). -/
def State.robotFrame (s : State) (n : Nat) (r : RadRx) : State :=
  let a := r.win.assoc
  let s := s.setRp n { s.rp n with rxGood := satInc 32 (s.rp n).rxGood }
  let s := s.setRa a { s.ra a with missed := 0, rssi := r.rssi }
  let s := if s.raSt a = 2 then (s.setF (RAD_Aa_STATUS_STATE a) 3).raNotice a 1 else s
  let s := s.radAcked a r.frame
  let s := if fld r.frame 0 1 % 16 = 4 ∧ s.raRuns a = true then s.radData n a r.frame else s
  s.radMore n a r.stop r.frame

/-- A JOIN_REQ has been received (R337, R339). -/
def State.joinReq (s : State) (n : Nat) (r : RadRx) : State :=
  let id := fld r.frame 16 8
  match firstIdx 64 (fun a => s.f (RAD_Aa_CFG_PORT a) == n && s.f (RAD_Aa_ID_ROBOT_ID a) == id &&
      (s.raSt a == 1 || s.raSt a == 3)) with
  | none => (s.setF (RADn_UNKNOWN_ID_ROBOT_ID n) id).radNotice n 0 4 id
  | some a =>
    let s := if s.raSt a = 3 then s.radLost a else s
    let s := s.setF (RAD_Aa_STATUS_ROBOT_SCA a) (fld r.frame 24 1 % 8)
    let s := s.setRa a { s.ra a with chan := r.win.chan }
    s.radPlan n (r.stop + tIfs) (.accept a (fld r.frame 24 1 % 8))

/-- A reception ends. -/
def State.radReceived (s : State) (n : Nat) (r : RadRx) : State :=
  let s := s.setRp n { s.rp n with rx := none }
  if s.robotOk r.win r.frame then s.robotFrame n r
  else if s.frameOk r.frame && r.win.join && fld r.frame 0 1 % 16 == 2 && r.frame.length == 32 && bit (fld r.frame 1 1) 7
  then s.joinReq n r
  else s.setRp n { s.rp n with rxBad := satInc 32 (s.rp n).rxBad }

/-! ### What falls due by itself -/

/-- One thing that is due on a port: the end of a transmission or of a reception, a planned transmission, the end of a
window. -/
def State.radOnce (s : State) (n : Nat) : State :=
  let x := s.rp n
  match x.tx, x.rx, x.plan with
  | some t, _, _ => if t.stop ≤ s.radClk then s.radFinish n t else s
  | none, some r, _ => if r.stop ≤ s.radClk then s.radReceived n r else s
  | none, none, p :: ps =>
    if p.at' ≤ s.radT n then (s.setRp n { x with plan := ps }).radStart n p else s
  | none, none, [] =>
    match x.listen with
    | some w => if w.hi < s.radClk then s.setRp n { x with listen := none } else s
    | none => s

/-- Everything due on a port at this edge. -/
def State.radRun (s : State) (n : Nat) : Nat → State
  | 0 => s
  | k + 1 => State.radRun (s.radOnce n) n k

/-- Every port after an SREF edge. -/
def State.radTick (s : State) : State := (s.rad.ports.map Prod.fst).foldl (fun s n => s.radRun n 8) s

/-! ### Events (R341, R347, R353) -/

/-- The pending update takes effect at its INSTANT (R347). -/
def State.radInstant (s : State) (a : Nat) : State :=
  let x := s.ra a
  match x.update with
  | some (isMap, inst, v) =>
    if x.event = inst ∧ x.next ≤ s.radT (s.f (RAD_Aa_CFG_PORT a)) ∧ s.raRuns a = true then
      let s := s.setRa a { x with update := none }
      let s := if isMap then
          ((s.setF (RAD_Aa_CHMAP_MAP a) (bits v 39 0)).setF (RAD_Aa_CHMAP_SEED a) (bits v 51 46)).setF (RAD_Aa_CHMAP_INC a)
            (bits v 57 52)
        else
          (((s.setF (RAD_Aa_TIMING_EVENT_MAX_US a) (bits v 63 48)).setF (RAD_Aa_TIMING_INTERVAL a) (bits v 35 24)).setF
            (RAD_Aa_TIMING_SLEEP a) (bits v 23 15)).setF (RAD_Aa_TIMING_TIMEOUT a) (bits v 11 0)
      s.raNotice a 6
    else s
  | none => s

/-- An anchor falls due (R341, R342, R355): the counter advances, and the event is held where its slot is free. -/
def State.connectionEvent (s : State) (a : Nat) : State :=
  let n := s.f (RAD_Aa_CFG_PORT a)
  if s.raRuns a = false ∨ s.portOn n = false ∨ s.radT n < (s.ra a).next then s
  else
    let s := s.radInstant a
    let x := s.ra a
    let held := x.next == s.radT n && s.slotFree n (s.f (RAD_Aa_CFG_CLASS a), 2, a)
    let c := s.chanIndex n (s.f (RAD_Aa_CFG_SUBBAND a))
      (hopChan (s.f (RAD_Aa_CHMAP_MAP a)) (s.f (RAD_Aa_CHMAP_SEED a)) (s.f (RAD_Aa_CHMAP_INC a)) (s.radN n) x.event)
    let s := s.setRa a { x with
      anchor := x.next, next := x.next + s.f (RAD_Aa_TIMING_INTERVAL a) * radUnit, event := wrapInc 16 x.event
      chan := c, missed := satInc 16 x.missed, more := false }
    let s := s.setF (RAD_Aa_STATUS_EVENT a) x.event
    if held then s.radStart n ⟨x.next, .exchange a true⟩ else s.skipItem n

/-- A group event falls due (R353, R355). -/
def State.groupEvent (s : State) (g : Nat) : State :=
  let n := s.f (RAD_Gg_CFG_PORT g)
  if s.on (RAD_Gg_CFG_EN g) = false ∨ s.portOn n = false ∨ s.radT n < (s.rg g).next then s
  else
    let x := s.rg g
    let held := x.next == s.radT n && s.slotFree n (s.f (RAD_Gg_CFG_CLASS g), 1, g)
    let s := s.setRg g { x with
      next := x.next + s.f (RAD_Gg_CFG_PERIOD g) * radUnit, event := wrapInc 16 x.event, copied := false }
    let s := s.setF (RAD_Gg_STAT_EVENT g) x.event
    if x.frame.isNone && x.recs.isEmpty then s
    else if held then s.radStart n ⟨x.next, .group g 0⟩ else s.skipItem n

/-- A beacon falls due (R339). -/
def State.beaconEvent (s : State) (n : Nat) : State :=
  if s.beaconDue n = false then s
  else
    let x := s.rp n
    let free := s.slotFree n (s.f (RADn_BEACON_CLASS n), 0, 0)
    let s := s.setRp n { x with beaconAt := s.radT n, beacons := x.beacons + 1 }
    if free then s.radStart n ⟨s.radT n, .beacon x.beacons⟩ else s.skipItem n

/-! ### Stop bursts (R354) -/

/-- TXGO and RXGO of a port fall: a transmission is aborted and charged for what was on the air, a reception is
abandoned. -/
def State.radAbort (s : State) (n : Nat) : State :=
  let x := s.rp n
  let s := match x.tx with
    | some t =>
      let stop := match t.what with | .stop _ _ => true | _ => false
      let us := s.f (RADn_CFG_RAMP_US n) + (s.radClk - t.start + 99) / 100
      let s := s.setBuckets n t.sub (fun l => addBucket t.second us stop (subBucket t.second t.charge stop l))
      s.setRp n { s.rp n with preempted := satInc 32 (s.rp n).preempted }
    | none => s
  let s := match x.rx with
    | some r => if s.robotOk r.win r.frame then s.setRa r.win.assoc { s.ra r.win.assoc with timer := r.old } else s
    | none => s
  let s := x.plan.foldl (fun s p => match p.what with | .accept a _ => s.acceptFail a | _ => s) s
  s.setRp n { s.rp n with tx := none, rx := none, listen := none, plan := [], busy := 0 }

/-- The Whistle stop reaches RAD. -/
def State.radStop (s : State) : State :=
  let s := s.setRad (fun r => { r with bursting := true })
  (List.range 4).foldl (fun s n =>
    if s.portOn n then
      let s := s.radAbort n
      s.setRp n { s.rp n with burst := 0, burstAt := s.radClk }
    else s) s

/-- The bursts end (R394). -/
def State.radUnstop (s : State) : State :=
  let s := s.setRad (fun r => { r with bursting := false })
  (List.range 4).foldl (fun s n =>
    s.setRp n { s.rp n with plan := (s.rp n).plan.filter (fun p => match p.what with | .stop _ _ => false | _ => true) }) s

/-- A stop burst falls due on a port: every 10 ms for 1 s, then every 100 ms. -/
def State.stopBurst (s : State) (n : Nat) : State :=
  let x := s.rp n
  if s.rad.bursting = false ∨ s.portOn n = false ∨ s.f (RADn_STOP_COUNT n) = 0 ∨ s.radClk < x.burstAt then s
  else
    let s := s.radAbort n
    let s := s.setRp n { s.rp n with
      burst := x.burst + 1, burstAt := x.burstAt + (if x.burst < 100 then 1000000 else 10000000) }
    s.radStart n ⟨s.radT n, .stop x.burst 0⟩

end Sys2Proof.Machine
end

