-- ==== Sys2Proof/Machine/RadCmd.lean ====
section
/-! DEFINITION. Commands, records and registers of the radio (R336 to R338, R347, R350, R351, R361). -/

namespace Sys2Proof.Machine

/-! ### Association commands (R337, R338, R347, R350) -/

/-- The map, seed and increment rules of R338. -/
def mapOk (n map seed inc : Nat) : Bool :=
  decide (map < 2 ^ n) && decide (2 ≤ ((List.range n).filter (fun k => bit map k)).length) && decide (seed < n) &&
    inc != 0 && decide (inc < n) && Nat.gcd inc n == 1

/-- The interval rules of R338. -/
def timingOk (interval timeout sleep eventMax : Nat) : Bool :=
  decide (2 ≤ interval) && decide (interval ≤ 3200) && decide (1 ≤ timeout) && decide (timeout ≤ 3200) &&
    decide (sleep ≤ 499) && decide (1000 ≤ eventMax) && decide (eventMax ≤ interval * 1250) &&
    decide (2 * interval * 125 * (sleep + 1) ≤ timeout * 1000)

/-- The checks of ARM and ARM_FRESH. -/
def State.armCheck (s : State) (a : Nat) : Nat :=
  let n := s.f (RAD_Aa_CFG_PORT a)
  let rx := s.f (RAD_Aa_CFG_RX_MAX a)
  if s.portOn n = false then cBUSY
  else if (List.range 64).any (fun b => b != a && s.raSt b != 0 && s.f (RAD_Aa_ID_ROBOT_ID b) == s.f (RAD_Aa_ID_ROBOT_ID a))
  then cCONFLICT
  else if timingOk (s.f (RAD_Aa_TIMING_INTERVAL a)) (s.f (RAD_Aa_TIMING_TIMEOUT a)) (s.f (RAD_Aa_TIMING_SLEEP a))
      (s.f (RAD_Aa_TIMING_EVENT_MAX_US a)) = false ∨ s.f (RAD_Aa_TIMING_INTERVAL a) ≤ s.f (RAD_Aa_TIMING_ANCHOR a) ∨
      rx < 20 ∨ 1024 < rx ∨ s.subInUse n (s.f (RAD_Aa_CFG_SUBBAND a)) = false then cRANGE
  else if mapOk (s.radN n) (s.f (RAD_Aa_CHMAP_MAP a)) (s.f (RAD_Aa_CHMAP_SEED a)) (s.f (RAD_Aa_CHMAP_INC a)) = false then cRANGE
  else cOK

/-- H of the retention entry of an association, if the entry is valid and of its port and flow (R54, R350). -/
def State.radKept (s : State) (a : Nat) : Option Nat :=
  let b := s.rdBytes (s.jAddr (0x1F8000 + a * 16)) 16
  if fld b 12 4 = crc32c (b.take 12) ∧ fld b 0 1 = 1 ∧ fld b 1 1 = s.f (RAD_Aa_CFG_PORT a) ∧
      fld b 2 2 = s.f (RAD_Aa_CFG_FLOW a) then some (fld b 4 2) else none

/-- ARM and ARM_FRESH. -/
def State.radArm (s : State) (a : Nat) (fresh : Bool) : Nat × State :=
  if s.raSt a ≠ 0 ∧ (fresh = true ∨ s.raSt a ≠ 4) then (cBUSY, s)
  else
    let k := s.armCheck a
    if k ≠ cOK then (k, s)
    else
      let s := match (if fresh then none else s.radKept a) with
        | some h => (s.setRa a { s.ra a with high := h }).setF (RAD_Aa_STATUS_FRESH a) 0
        | none => s.setF (RAD_Aa_STATUS_FRESH a) 1
      (cOK, s.setF (RAD_Aa_STATUS_STATE a) 1)

/-- RAD_Aa_NEXT_MAP and RAD_Aa_NEXT_TIMING as words. -/
def State.nextMap (s : State) (a : Nat) : Nat :=
  s.f (RAD_Aa_NEXT_MAP_INC a) * 2 ^ 52 + s.f (RAD_Aa_NEXT_MAP_SEED a) * 2 ^ 46 + s.f (RAD_Aa_NEXT_MAP_MAP a)
def State.nextTiming (s : State) (a : Nat) : Nat :=
  s.f (RAD_Aa_NEXT_TIMING_EVENT_MAX_US a) * 2 ^ 48 + s.f (RAD_Aa_NEXT_TIMING_ANCHOR a) * 2 ^ 36 +
    s.f (RAD_Aa_NEXT_TIMING_INTERVAL a) * 2 ^ 24 + s.f (RAD_Aa_NEXT_TIMING_SLEEP a) * 2 ^ 15 +
    s.f (RAD_Aa_NEXT_TIMING_TIMEOUT a)

/-- UPDATE_MAP and UPDATE_TIMING. -/
def State.radUpdate (s : State) (a : Nat) (isMap : Bool) : Nat × State :=
  let x := s.ra a
  let n := s.f (RAD_Aa_CFG_PORT a)
  let v := if isMap then s.nextMap a else s.nextTiming a
  let ok := if isMap then mapOk (s.radN n) (bits v 39 0) (bits v 51 46) (bits v 57 52)
    else timingOk (bits v 35 24) (bits v 11 0) (bits v 23 15) (bits v 63 48)
  if s.raSt a ≠ 3 ∨ x.update.isSome = true then (cBUSY, s)
  else if ok = false then (cRANGE, s)
  else
    let inst := (x.event + 2 * (s.f (RAD_Aa_TIMING_SLEEP a) + 1) + 6) % 65536
    (cOK, s.setRa a { x with
      update := some (isMap, inst, v), ctrl := x.ctrl ++ [if isMap then .map inst v else .timing inst v] })

/-- The groups of an association that are enabled. -/
def State.radGroups (s : State) (a : Nat) : List RadCtrl :=
  (idxWhere 16 (fun g => bit (s.f (RAD_Aa_GROUPS_MASK a)) g && s.on (RAD_Gg_CFG_EN g))).map RadCtrl.group

/-- UPDATE_GROUPS. -/
def State.radUpdateGroups (s : State) (a : Nat) : Nat × State :=
  if s.raSt a ≠ 3 then (cBUSY, s)
  else (cOK, s.setRa a { s.ra a with ctrl := (s.ra a).ctrl ++ s.radGroups a })

/-- RELEASE. -/
def State.radRelease (s : State) (a : Nat) : Nat × State :=
  let st := s.raSt a
  if st = 3 then
    (cOK, (s.setRa a { s.ra a with ctrl := .terminate :: (s.ra a).ctrl, closeAt := s.radClk, update := none }).setF
      (RAD_Aa_STATUS_STATE a) 5)
  else if st = 1 ∨ st = 2 ∨ st = 4 then (cOK, s.radClosed a)
  else (cBUSY, s)

/-- A command of RAD_Aa_CMD (R337): its result stands in STATUS. -/
def State.radCmd (s : State) (req a op : Nat) : Nat × State :=
  if op = 0 ∨ 7 < op then s.regRefuse iRAD (0x0200231034 + a * 0x40) req cRANGE
  else
    let s := s.setF (RAD_Aa_CMD_OP a) op
    let r := match op with
      | 1 => s.radArm a false
      | 2 => s.radUpdate a true
      | 3 => s.radUpdate a false
      | 4 => s.radUpdateGroups a
      | 5 => s.radRelease a
      | 6 => (cOK, s.radOff a)
      | _ => s.radArm a true
    (cOK, r.2.setF (RAD_Aa_CMD_STATUS a) r.1)

/-! ### Ports and groups (R327, R353, R361) -/

/-- The fields of RADn_CFG but for ENABLE, as a word. -/
def State.portCfg (s : State) (n : Nat) : Nat :=
  s.f (RADn_CFG_BAND n) * 2 ^ 29 + s.f (RADn_CFG_RATE n) * 2 ^ 27 + s.f (RADn_CFG_STOP_RATE n) * 2 ^ 25 +
    s.f (RADn_CFG_PREAMBLE n) * 2 ^ 20 + s.f (RADn_CFG_POWER n) * 2 ^ 12 + s.f (RADn_CFG_RAMP_US n)

/-- The reserved bits of RADn_CFG left out. -/
def portCfgBits (v : Nat) : Nat := bits v 30 12 * 2 ^ 12 + bits v 7 0

/-- Whether some association or group uses a port. -/
def State.portUsed (s : State) (n : Nat) : Bool :=
  (List.range 64).any (fun a => s.raSt a != 0 && s.f (RAD_Aa_CFG_PORT a) == n) ||
    (List.range 16).any (fun g => s.on (RAD_Gg_CFG_EN g) && s.f (RAD_Gg_CFG_PORT g) == n)

def aRad (o : Nat) : Nat := 0x0200230000 + o

/-- A write of RADn_CFG. -/
def State.portWrite (s : State) (req n value : Nat) : Nat × State :=
  let a := aRad (0x100 + n * 0x100)
  let was := s.on (RADn_CFG_ENABLE n)
  let band := bits value 30 29
  let top := if band = 0 then 1 else 2
  if was = true ∧ portCfgBits value ≠ s.portCfg n then s.regRefuse iRAD a req cBUSY
  else if top < bits value 28 27 ∨ top < bits value 26 25 then s.regRefuse iRAD a req cRANGE
  else if bit value 31 = true ∧ was = false ∧ s.bandOk n band = false then s.regRefuse iRAD a req cRANGE
  else if bit value 31 = false ∧ was = true ∧ s.portUsed n = true then s.regRefuse iRAD a req cBUSY
  else
    let r := s.regW iRAD req a value
    if r.1 ≠ cOK then r
    else if bit value 31 = true ∧ was = false then
      (cOK, r.2.setRp n { s.rp n with origin := s.radClk, burst := 0, burstAt := s.radClk })
    else if bit value 31 = false ∧ was = true then
      (cOK, r.2.setRp n { s.rp n with plan := [], tx := none, listen := none, rx := none, busy := 0 })
    else r

/-- The fields of RAD_Gg_CFG but for EN, as a word. -/
def State.groupCfg (s : State) (g : Nat) : Nat :=
  s.f (RAD_Gg_CFG_CLASS g) * 2 ^ 60 + s.f (RAD_Gg_CFG_PORT g) * 2 ^ 58 + s.f (RAD_Gg_CFG_SUBBAND g) * 2 ^ 56 +
    s.f (RAD_Gg_CFG_REPEAT g) * 2 ^ 50 + s.f (RAD_Gg_CFG_PERIOD g) * 2 ^ 36 + s.f (RAD_Gg_CFG_OFFSET g) * 2 ^ 24

/-- The reserved bits of RAD_Gg_CFG left out. -/
def groupCfgBits (v : Nat) : Nat :=
  bits v 62 56 * 2 ^ 56 + bits v 51 50 * 2 ^ 50 + bits v 47 24 * 2 ^ 24

/-- The checks of a group's enable (R338, R353). -/
def State.groupCheck (s : State) (g value : Nat) : Nat :=
  let n := bits value 59 58
  let per := bits value 47 36
  if s.portOn n = false then cBUSY
  else if per < 2 ∨ 3200 < per ∨ per ≤ bits value 35 24 ∨ s.subInUse n (bits value 57 56) = false then cRANGE
  else if mapOk (s.radN n) (s.f (RAD_Gg_CHMAP_MAP g)) (s.f (RAD_Gg_CHMAP_SEED g)) (s.f (RAD_Gg_CHMAP_INC g)) = false then cRANGE
  else cOK

/-- A group is enabled: its first event after now, and GROUP_INFO for every connected member (R339, R353). -/
def State.groupOn (s : State) (g : Nat) : State :=
  let n := s.f (RAD_Gg_CFG_PORT g)
  let b := (s.rp n).origin + s.f (RAD_Gg_CFG_OFFSET g) * radUnit
  let step := s.f (RAD_Gg_CFG_PERIOD g) * radUnit
  let t := s.radT n
  let e := if t < b then 0 else (t - b) / max step 1 + 1
  let s := s.setRg g { s.rg g with next := b + e * step, event := e % 65536 }
  (List.range 64).foldl (fun s a =>
    if s.raSt a == 3 && bit (s.f (RAD_Aa_GROUPS_MASK a)) g then
      s.setRa a { s.ra a with ctrl := (s.ra a).ctrl ++ [.group g] } else s) s

/-- A write of RAD_Gg_CFG. -/
def State.groupWrite (s : State) (req g value : Nat) : Nat × State :=
  let a := aRad (0x2000 + g * 0x20)
  let was := s.on (RAD_Gg_CFG_EN g)
  let k := if bit value 63 && !was then s.groupCheck g value else cOK
  if was = true ∧ groupCfgBits value ≠ s.groupCfg g then s.regRefuse iRAD a req cBUSY
  else if k ≠ cOK then s.regRefuse iRAD a req k
  else
    let r := s.regW iRAD req a value
    if r.1 = cOK ∧ bit value 63 = true ∧ was = false then (cOK, r.2.groupOn g) else r

/-- A write to a register of RAD that is more than its access codes (R361). -/
def State.radRegWrite (s : State) (req isl base value : Nat) : Option (Nat × State) :=
  if isl ≠ iRAD then none
  else
    let o := base % 0x10000
    if o = 0x20 then
      if (List.range 4).any (fun n => s.on (RADn_CFG_ENABLE n)) then some (s.regRefuse isl base req cBUSY) else none
    else if 0x100 ≤ o ∧ o < 0x500 then
      let n := (o - 0x100) / 0x100
      if o % 0x100 = 0 then some (s.portWrite req n value)
      else if o % 0x100 = 8 ∧ s.on (RADn_CFG_ENABLE n) = true then some (s.regRefuse isl base req cBUSY)
      else none
    else if 0x1000 ≤ o ∧ o < 0x2000 then
      let a := (o - 0x1000) / 0x40
      if o % 0x40 < 0x20 then (if s.raSt a = 0 then none else some (s.regRefuse isl base req cBUSY))
      else if o % 0x40 = 0x34 then some (s.radCmd req a (bits value 3 0))
      else none
    else if 0x2000 ≤ o ∧ o < 0x2200 ∧ o % 0x20 = 0 then some (s.groupWrite req ((o - 0x2000) / 0x20) value)
    else none

/-- Bytes 0 to 31 of a port's Snap record (R360). -/
def State.radStat (s : State) (n : Nat) : List Byte :=
  let x := s.rp n
  [x.txFrames, x.rxGood, x.rxBad, x.rxDup, x.preempted, x.skipped, x.stopFrames, x.joins].flatMap (leBytes 4)

/-- Registers of RAD that show another part of the state. -/
def State.radLive (s : State) (isl base : Nat) : Option Nat :=
  if isl ≠ iRAD then none
  else
    let o := base % 0x10000
    if o = 0x38 then some s.radClk
    else if 0x1000 ≤ o ∧ o < 0x2000 ∧ o % 0x40 = 0x38 then some (s.radStatus ((o - 0x1000) / 0x40))
    else if 0x2000 ≤ o ∧ o < 0x2200 ∧ o % 0x20 = 0x10 then
      let g := (o - 0x2000) / 0x20
      some (s.f (RAD_Gg_STAT_EVENT g) * 2 ^ 16 + radPending (s.rg g).recs (s.rg g).frame)
    else if 0x100 ≤ o ∧ o < 0x500 ∧ 0xC0 ≤ o % 0x100 ∧ o % 0x100 < 0xE0 then
      some (leValue (((s.radStat ((o - 0x100) / 0x100)).drop (o % 0x100 - 0xC0)).take 4))
    else none

/-- Association a's Snap record (R360). -/
def State.radSnap (s : State) (a : Nat) : List Byte :=
  let x := s.ra a
  leBytes 2 (s.f (RAD_Aa_STATUS_EVENT a)) ++
    leBytes 1 (s.raSt a + b2n (s.beyondGuard a) * 8 + s.f (RAD_Aa_STATUS_FRESH a) * 16) ++ leBytes 1 x.chan ++
    leBytes 2 x.high ++ leBytes 2 x.txNext ++ leBytes 2 x.items ++ leBytes 2 x.missed ++ leBytes 1 x.rssi ++
    leBytes 1 (radPending x.recs x.frame) ++ leBytes 2 0

/-- The RAD region of a bank: ports, then associations from 0x100 on (R360). -/
def State.radRegion (s : State) : List Byte :=
  ((List.range 4).flatMap (fun n => s.radStat n ++ (List.range 4).flatMap (fun b =>
    leBytes 4 (s.f (RADn_SBs_USED_ORD_US n b)) ++ leBytes 4 (s.f (RADn_SBs_USED_STOP_US n b))))) ++
    (List.range 64).flatMap s.radSnap

/-- RAD is fenced (R359): associations, queues and budgets are lost. -/
def State.radClear (s : State) : State := s.setRad (fun _ => RadSt.fresh s.tim.edges)

/-! ### Records (R351) -/

/-- Queue a record for an association or a group, refused where 16 are queued. -/
def State.recQueue (s : State) (t : Token) (toGroup : Bool) (body : List Byte) : Nat × State :=
  let r : RadRec := ⟨bits t.tag 11 8, tagPrio t.tag, s.rad.order, body, t.src, t.dest, t.stamp, t.task⟩
  let s1 := s.setRad (fun x => { x with order := x.order + 1 })
  if toGroup then
    let g := bits t.tag 3 0
    let x := s.rg g
    if s.on (RAD_Gg_CFG_EN g) = false then (cNO_ROUTE, s)
    else if 16 ≤ radPending x.recs x.frame then (cBUSY, s)
    else (cOK, s1.setRg g { x with recs := insertRec r x.recs })
  else
    let a := bits t.tag 5 0
    let x := s.ra a
    if s.raSt a = 0 ∨ s.raSt a = 5 then (cNO_ROUTE, s)
    else if 16 ≤ radPending x.recs x.frame then (cBUSY, s)
    else (cOK, s1.setRa a { x with recs := insertRec r x.recs })

/-- A record token, with its body in the data or by reference. -/
def State.recToken (s : State) (t : Token) (toGroup byRef : Bool) : Nat × State :=
  let typ := bits t.tag 11 8
  let addr := bits t.data 39 0
  let len := if byRef then bits t.data 49 40 else 8
  let used := (if toGroup then bits t.tag 3 0 else bits t.tag 5 0) + typ * 2 ^ 8 + tagPrio t.tag * 2 ^ 23
  if t.tag ≠ used ∨ typ = 0 ∨ 4 < typ ∨ (typ = 1 ∧ len ≠ 32) then (cRANGE, s)
  else if byRef = true ∧ (bits t.data 63 50 ≠ 0 ∨ blockIn addr (max len 1) true = false) then (cRANGE, s)
  else if byRef = true ∧ t.stamp.isSome = true ∧ regionOf addr (max len 1) ≠ .mram then (cRANGE, s)
  else if 992 < len then (cLENGTH, s)
  else if byRef = false then s.recQueue t toGroup (leBytes 8 t.data)
  else
    let q := s.memRead (ep iRAD 0) addr len
    if q.1 = cOK then q.2.2.recQueue t toGroup q.2.1 else (q.1, q.2.2)

/-- A token at RAD. -/
def State.radToken (s : State) (t : Token) : Nat × State :=
  match epPort t.dest with
  | 0x010 => s.recToken t false false
  | 0x011 => s.recToken t false true
  | 0x012 => s.recToken t true false
  | 0x013 => s.recToken t true true
  | _ => (cNO_ROUTE, s)

/-! ### Meanings -/

/-- RADIO_PORT_ENABLE: a write of RADn_CFG with ENABLE set. -/
def execRadioPortEnable (req n value : Nat) (s : State) : Res := 
  let v := value % 2 ^ 31 + 2 ^ 31
  s.regRow iRAD req (aRad (0x100 + n * 0x100)) 4 v (fun s => s.portWrite req n v)

/-- RADIO_PORT_DISABLE: a write of RADn_CFG with ENABLE clear. -/
def execRadioPortDisable (req n value : Nat) (s : State) : Res := 
  let v := value % 2 ^ 31
  s.regRow iRAD req (aRad (0x100 + n * 0x100)) 4 v (fun s => s.portWrite req n v)

def aRadCmd (a : Nat) : Nat := aRad (0x1034 + a * 0x40)

def execArm (req a : Nat) (s : State) : Res := 
  s.regRow iRAD req (aRadCmd a) 4 1 (fun s => s.radCmd req a 1)
def execArmFresh (req a : Nat) (s : State) : Res := 
  s.regRow iRAD req (aRadCmd a) 4 7 (fun s => s.radCmd req a 7)
def execUpdateMap (req a : Nat) (s : State) : Res := 
  s.regRow iRAD req (aRadCmd a) 4 2 (fun s => s.radCmd req a 2)
def execUpdateTiming (req a : Nat) (s : State) : Res := 
  s.regRow iRAD req (aRadCmd a) 4 3 (fun s => s.radCmd req a 3)
def execUpdateGroups (req a : Nat) (s : State) : Res := 
  s.regRow iRAD req (aRadCmd a) 4 4 (fun s => s.radCmd req a 4)
def execRelease (req a : Nat) (s : State) : Res := 
  s.regRow iRAD req (aRadCmd a) 4 5 (fun s => s.radCmd req a 5)
def execAssociationOff (req a : Nat) (s : State) : Res := 
  s.regRow iRAD req (aRadCmd a) 4 6 (fun s => s.radCmd req a 6)

/-- BEACON. -/
def execBeacon (n : Nat) (s : State) : Res := .next (((s.radSecond).radRun n 8).beaconEvent n)

/-- JOIN_REQ: the SFD of a robot's join request. -/
def execJoinReq (n : Nat) (frame : List Byte) (rssi : Nat) (s : State) : Res := .next ((s.radRun n 8).radSfd n frame rssi)

/-- CONNECTION_EVENT. -/
def execConnectionEvent (a : Nat) (s : State) : Res :=
  .next ((s.radSecond.radRun (s.f (RAD_Aa_CFG_PORT a)) 8).connectionEvent a)

/-- ROBOT_FRAME: the SFD of a robot's frame; it is checked and accepted when it ends. -/
def execRobotFrame (n : Nat) (frame : List Byte) (rssi : Nat) (s : State) : Res := .next ((s.radRun n 8).radSfd n frame rssi)

/-- Whether TIMEOUT has passed on the radio clock since a time (R346). -/
def State.radTimeout (s : State) (a since : Nat) : Bool :=
  decide (since + s.f (RAD_Aa_TIMING_TIMEOUT a) * 1000000 ≤ s.radClk)

/-- SUPERVISION_TIMEOUT. -/
def execSupervisionTimeout (a : Nat) (s : State) : Res :=
  .next (if s.raSt a = 3 ∧ s.radTimeout a (s.ra a).timer = true then
    let s := s.radLost a
    if s.on (RAD_Aa_CFG_AUTO_REJOIN a) then s.setF (RAD_Aa_STATUS_STATE a) 1 else s
  else s)

/-- JOIN_FAIL: the records of a frame already composed go back to the queue. -/
def execJoinFail (a : Nat) (s : State) : Res :=
  .next (if s.raSt a = 2 ∧ s.radTimeout a (s.ra a).timer = true then
    let x := s.ra a
    let back := match x.frame with | some f => f.recs | none => []
    let s := (s.radForget a).setRa a { x with frame := none, recs := back ++ x.recs, ctrl := [], ack := none, update := none }
    (s.setF (RAD_Aa_STATUS_STATE a) 1).raNotice a 3
  else s)

/-- CLOSE_TIMEOUT. -/
def execCloseTimeout (a : Nat) (s : State) : Res :=
  .next (if s.raSt a = 5 ∧ s.radTimeout a (s.ra a).closeAt = true then s.radClosed a else s)

/-- UPDATE_INSTANT. -/
def execUpdateInstant (a : Nat) (s : State) : Res := .next (s.radInstant a)

/-- RADIO_RECORD_ASSOCIATION. -/
def execRadioRecordAssociation (t : Token) (s : State) : Res := .next (s.arrive t (fun s => s.radToken t))

/-- RADIO_RECORD_GROUP. -/
def execRadioRecordGroup (t : Token) (s : State) : Res := .next (s.arrive t (fun s => s.radToken t))

/-- GROUP_EVENT. -/
def execGroupEvent (g : Nat) (s : State) : Res :=
  .next ((s.radSecond.radRun (s.f (RAD_Gg_CFG_PORT g)) 8).groupEvent g)

/-- STOP_BURST. -/
def execStopBurst (n : Nat) (s : State) : Res := .next ((s.radSecond.radRun n 8).stopBurst n)

/-- BUDGET_SECOND. -/
def execBudgetSecond (s : State) : Res := .next s.radSecond

end Sys2Proof.Machine
end

