-- ==== Sys2Proof/Machine/CanBase.lean ====
section
/-! DEFINITION. CAN controllers (R446 to R467): frames, transmit buffers, receive objects and queues. -/

namespace Sys2Proof.Machine

def CanCtl.fresh : CanCtl := ⟨[], 0, none, false, 0, 0, 0, 0, 0, 0, 0, 0, 0, 0⟩
def CanObj.fresh : CanObj := ⟨false, false, []⟩

def State.canCtl (s : State) (n : Nat) : CanCtl := Tab.get (fun _ => CanCtl.fresh) s.can.ctl n

/-- Keep a controller with the registers that show it (R449, R467). -/
def State.setCan (s : State) (n : Nat) (x : CanCtl) : State :=
  let s := { s with can := { s.can with ctl := Tab.set (fun _ => CanCtl.fresh) s.can.ctl n x } }
  let s := (s.setF (CAN_CTLn_TXSTAT_OCCUPIED n) x.bufs.length).setF (CAN_CTLn_STATUS_TEC n) x.tec
  (s.setF (CAN_CTLn_STATUS_RP n) (b2n (decide (128 ≤ x.rcv)))).setF (CAN_CTLn_STATUS_REC n) (min 127 x.rcv)

def State.canObj (s : State) (o : Nat) : CanObj := Tab.get (fun _ => CanObj.fresh) s.can.obj o
def State.setCanObj (s : State) (o : Nat) (x : CanObj) : State :=
  { s with can := { s.can with obj := Tab.set (fun _ => CanObj.fresh) s.can.obj o x } }

/-! ### Frames (R447) -/

/-- Data bytes of a data length code: classical or FD. -/
def canLen (fdf : Bool) (dlc : Nat) : Nat :=
  if dlc ≤ 8 then dlc
  else if fdf then [12, 16, 20, 24, 32, 48, 64].getD (dlc - 9) 64 else 8

/-- The data length code of a length, if the format has it. -/
def canDlc (fdf : Bool) (len : Nat) : Option Nat :=
  (List.range (if fdf then 16 else 9)).find? (fun d => canLen fdf d == len)

/-- Data bytes a frame carries: none in a remote frame. -/
def canFrameLen (f : CanFrame) : Nat := if f.rtr then 0 else canLen f.fdf f.dlc

/-- The bits of a number, most significant first. -/
def msbBits : Nat → Nat → List Bool
  | 0, _ => []
  | n + 1, v => bit v n :: msbBits n v

/-- The bits from SOF to the last arbitration bit: RTR, or RRS in an FD frame (R461). -/
def canArbBits (f : CanFrame) : List Bool :=
  if f.ide then false :: msbBits 11 (f.id / 2 ^ 18) ++ [true, true] ++ msbBits 18 f.id ++ [f.rtr]
  else false :: msbBits 11 f.id ++ [f.rtr]

/-- What the bus compares, as a number: lower wins. -/
def canRank (f : CanFrame) : Nat :=
  (canArbBits f).foldl (fun v b => v * 2 + b2n b) 0 * (if f.ide then 1 else 2 ^ 20)

/-- Stuff bits sent before the last of a string of bits, after a bit `prev` that ends a run of `run` equal ones. -/
def stuffBits : List Bool → Bool → Nat → Nat
  | [], _, _ => 0
  | b :: bs, prev, run =>
    if run = 5 then 1 + (if b = !prev then stuffBits bs b 2 else stuffBits bs b 1)
    else if b = prev then stuffBits bs b (run + 1) else stuffBits bs b 1

/-- The position on the bus of the last arbitration bit, SOF being 0. -/
def canArbPos (f : CanFrame) : Nat := (canArbBits f).length - 1 + stuffBits (canArbBits f) true 0

/-! ### States and notices (R449, R458) -/

/-- A notice of a controller (R458). -/
def State.canNotice (s : State) (n kind st : Nat) : State :=
  if s.on (CAN_CTLn_NOTICE_EN n) then
    s.notice (ep iCAN 0) (s.f (CAN_CTLn_NOTICE_EP n)) (s.f (CAN_CTLn_NOTICE_TAG n))
      (s.now % 2 ^ 32 * 2 ^ 32 + n * 2 ^ 16 + st * 2 ^ 8 + kind) false
  else s

def State.canState (s : State) (n : Nat) : Nat := s.f (CAN_CTLn_STATUS_STATE n)

/-- A controller changes its state; each change sends a notice (R449). -/
def State.canTo (s : State) (n st : Nat) : State :=
  if s.canState n = st then s else (s.setF (CAN_CTLn_STATUS_STATE n) st).canNotice n 1 st

/-- Whether a controller takes part in the bus: ACTIVE or PASSIVE. -/
def State.canOn (s : State) (n : Nat) : Bool := s.canState n == 1 || s.canState n == 2

/-! ### Transmit buffers (R457 to R463) -/

/-- The attempt record of a stamped frame gets its outcome (R463). -/
def State.canOutcome (s : State) (b : CanBuf) : State :=
  match b.stamp with
  | some st => { s with can := { s.can with tries := s.can.tries.erase st } }
  | none => s

/-- A buffered frame completes (R460): it leaves its buffer, a stamped one is confirmed, and a completion notice is
sent. -/
def State.canDone (s : State) (n : Nat) (b : CanBuf) (status : Nat) : State :=
  let x := s.canCtl n
  let run := match x.run with
    | some r => if r.order = b.order then none else some r
    | none => none
  let s := s.setCan n { x with bufs := x.bufs.filter (fun (y : CanBuf) => y.order != b.order), run := run }
  let s := match b.stamp with
    | some st => (s.canOutcome b).outputConfirmed st.flow st.seq st.index (if status = cTOO_LATE then cOK else status)
    | none => s
  if b.report && s.on (CAN_CTLn_TXNOTICE_EN n) then
    s.notice (ep iCAN 0) (s.f (CAN_CTLn_TXNOTICE_EP n)) (s.f (CAN_CTLn_TXNOTICE_TAG n))
      (b.ref * 2 ^ 32 + min 255 b.attempts * 2 ^ 24 + b2n b.maybe * 2 ^ 16 + n * 2 ^ 8 + status) true
  else s

/-- A frame is offered to a controller (R458): refused, or it takes a buffer. In bus-off a one-shot frame completes at
once with BUSY (R460). A frame whose attempt record has no outcome may have left already (R463). -/
def State.canSubmit (s : State) (n : Nat) (b : CanBuf) : Nat × State :=
  let x := s.canCtl n
  if s.canState n = 0 ∨ s.on (CAN_CTLn_CFG_ENABLE n) = false ∨ s.on (CAN_CTLn_CFG_LISTEN n) = true ∨
      s.on (CAN_CTLn_CFG_RESTRICTED n) = true ∨ 32 ≤ x.bufs.length then (cBUSY, s)
  else
    let again := match b.stamp with
      | some st => s.can.tries.contains st
      | none => false
    let b := { b with order := x.order, maybe := again }
    let s := s.setCan n { x with bufs := x.bufs ++ [b], order := x.order + 1 }
    let s := match again, b.stamp with
      | true, some st => (s.canOutcome b).stage 0x2702 [stampValue st]
      | _, _ => s
    (cOK, if b.oneShot && s.canState n == 3 then s.canDone n b cBUSY else s)

/-- A frame of a machine-function binding (R408): classical, DLC 8, ordinary, not one-shot. -/
def State.canMachine (s : State) (n prio : Nat) (ide : Bool) (id : Nat) (data : List Byte) : Nat × State :=
  if ide = false ∧ 0x7FF < id then (cRANGE, s)
  else if s.ist iCAN = 5 then (cFENCED, s)
  else if s.ist iCAN = 0 then (cNO_ROUTE, s)
  else s.canSubmit n ⟨prio, 0, ⟨ide, false, false, false, false, id, 8, data⟩, false, false, 0, none, none, 0, 0, false, false⟩

/-- A request block (R457, R458): the status of its fields and the frame with ONE_SHOT, REPORT and REF. -/
def State.canBlock (s : State) (n a : Nat) : Nat × CanFrame × Bool × Bool × Nat :=
  let w := s.rd a 4
  let fl := s.rd (a + 4) 1
  let len := s.rd (a + 5) 1
  let ide := bit w 29
  let rtr := bit w 30
  let fdf := bit fl 0
  let brs := bit fl 1
  let dlc := canDlc fdf len
  let f : CanFrame := ⟨ide, rtr, fdf, brs, false, bits w 28 0, dlc.getD 0, if rtr then [] else s.rdBytes (a + 16) (min 64 len)⟩
  let k :=
    if bit w 31 = true ∨ 16 ≤ fl ∨ s.rd (a + 6) 2 ≠ 0 ∨ s.rd (a + 12) 4 ≠ 0 ∨ (ide = false ∧ 0x7FF < bits w 28 0) ∨
        (fdf = true ∧ s.on (CAN_CTLn_CFG_FD_EN n) = false) ∨ (brs = true ∧ fdf = false) ∨ (rtr = true ∧ fdf = true)
      then cRANGE
    else if 64 < len then cLENGTH
    else if dlc = none then cRANGE else cOK
  (k, f, bit fl 2, bit fl 3, s.rd (a + 8) 4)

/-- A request token at CAN:0x010 + n (R457, R458). -/
def State.canRequest (s : State) (n : Nat) (t : Token) : Nat × State :=
  let a := t.data
  let mram := match regionOf a 16 with | .mram => true | _ => false
  if t.tag % 2 ^ 23 ≠ 0 ∨ bits t.tag 31 26 ≠ 0 ∨ a % 32 ≠ 0 ∨ blockIn a 16 true = false ∨
      (t.stamp.isSome = true ∧ mram = false) then (cRANGE, s)
  else
    let r := s.canBlock n a
    if r.1 ≠ cOK then (r.1, s)
    else if blockIn a (16 + r.2.1.data.length) true = false then (cRANGE, s)
    else s.canSubmit n ⟨bits t.tag 25 23, 0, r.2.1, r.2.2.1, r.2.2.2.1, r.2.2.2.2, some a, t.stamp, 0, 0, false, false⟩

/-- The buffer a controller chooses (R459): class, then identifier or age. -/
def canChoose (byAge : Bool) (l : List CanBuf) : Option CanBuf :=
  l.foldl (fun b c => match b with
    | none => some c
    | some x =>
      if c.prio < x.prio ||
        (c.prio == x.prio && !byAge && decide (canRank c.frame < canRank x.frame)) ||
        (c.prio == x.prio && (byAge || canRank c.frame == canRank x.frame) && decide (c.order < x.order)) then some c else some x)
    none

/-- The CAN cycle that holds the sample point of the last arbitration bit of a frame whose SOF starts at an edge (R448,
R461). -/
def State.canPoint (s : State) (n sof : Nat) (f : CanFrame) : Nat :=
  let seg1 := s.f (CAN_CTLn_NBT_NTSEG1 n)
  let brp := s.f (CAN_CTLn_NBT_NBRP n)
  let bt := brp * (1 + seg1 + s.f (CAN_CTLn_NBT_NTSEG2 n))
  sof * 2 + (canArbPos f * bt + (1 + seg1) * brp) * 5 / 2

/-- A controller chooses the next frame, whose SOF starts `wait` SREF edges later (R459, R463). -/
def State.canSelect (s : State) (n wait : Nat) : State :=
  let x := s.canCtl n
  if s.canOn n = false ∨ s.on (CAN_CTLn_CFG_ENABLE n) = false ∨ x.run.isSome = true then s
  else match canChoose (s.on (CAN_CTLn_CFG_TX_ORDER n)) x.bufs with
    | none => s
    | some b =>
      let b' : CanBuf := { b with attempts := b.attempts + 1, frame := { b.frame with esi := s.canState n == 2 && b.frame.fdf } }
      let s := s.setCan n { x with
        bufs := x.bufs.map (fun (y : CanBuf) => if y.order = b.order then b' else y)
        run := some ⟨b.order, s.canPoint n (s.tim.edges + wait) b.frame⟩ }
      match b.stamp with
      | some st => { s with can := { s.can with tries := st :: s.can.tries } }
      | none => s

/-- Clearing ENABLE completes every occupied buffer with CANCELLED and switches the controller off, once no frame is in
progress (R460). -/
def State.canClose (s : State) (n : Nat) : State :=
  let s := (s.canCtl n).bufs.foldl (fun s b => s.canDone n b cCANCELLED) s
  (s.setCan n { s.canCtl n with closing := false, tec := 0, rcv := 0 }).canTo n 0

/-- The frame that the attempt under way sends. -/
def CanCtl.running (x : CanCtl) : Option CanBuf :=
  match x.run with
  | some r => x.bufs.find? (fun (b : CanBuf) => b.order == r.order)
  | none => none

/-- An attempt ends without completing its frame: it returns to its buffer (R459). -/
def State.canReturn (s : State) (n : Nat) (b : CanBuf) : State :=
  let x := s.canCtl n
  (s.canOutcome b).setCan n { x with
    run := none, bufs := x.bufs.map (fun (y : CanBuf) => if y.order = b.order then b else y) }

/-- ID_CLASH (R462). -/
def State.canClash (s : State) (n : Nat) (b : CanBuf) : State :=
  let s := (s.setF (CAN_CTLn_CLASH_ID n) b.frame.id).setF (CAN_CTLn_CLASH_IDE n) (b2n b.frame.ide)
  let s := s.setCan n { s.canCtl n with clashes := satInc 16 (s.canCtl n).clashes }
  let s := s.canNotice n 2 0
  (s.stage 0x2701 [b.frame.id + b2n b.frame.ide * 2 ^ 29 + n * 2 ^ 32]).canDone n b cID_CLASH

/-- The attempt under way on a controller ends (R459 to R463). -/
def State.canEnd (s : State) (n : Nat) (e : CanEnd) : State :=
  match (s.canCtl n).running with
  | none => s
  | some b =>
    let x := s.canCtl n
    let once := b.oneShot || b.late
    let s := match e with
      | .sent =>
        let s := s.setCan n { x with txOk := satInc 32 x.txOk, tec := x.tec - 1 }
        let s := { s with can := { s.can with out := s.can.out ++ [(n, b.frame)] } }
        s.canDone n b (if b.late then cTOO_LATE else cOK)
      | .lost =>
        let s := s.setCan n { x with arbLost := satInc 32 x.arbLost }
        if once then s.canDone n b cBUSY else s.canReturn n b
      | .noAck => if once then s.canDone n b cNO_ROUTE else s.canReturn n { b with clashes := 0 }
      | .clash =>
        let b := { b with clashes := b.clashes + 1 }
        if once || decide (3 ≤ b.clashes) then s.canClash n b else s.canReturn n b
      | .error => if once then s.canDone n b cINTEGRITY else s.canReturn n { b with clashes := 0 }
    let s := match s.canState n with
      | 2 => if (s.canCtl n).tec < 128 ∧ (s.canCtl n).rcv < 128 then s.canTo n 1 else s
      | _ => s
    if (s.canCtl n).closing then s.canClose n else s

/-- A cancel at CAN:0x020 + n (R461). -/
def State.canCancel (s : State) (n : Nat) (t : Token) : Nat × State :=
  let x := s.canCtl n
  match x.bufs.find? (fun (b : CanBuf) => b.block == some t.data) with
  | none => (cNOT_FOUND, s)
  | some b =>
    match x.run with
    | some r =>
      if r.order = b.order ∧ r.point < s.tim.edges * 2 then
        (cTOO_LATE, s.setCan n { x with
          bufs := x.bufs.map (fun (y : CanBuf) => if y.order = b.order then { b with late := true } else y) })
      else
        let s := s.canDone n b cCANCELLED
        (cOK, if x.closing ∧ r.order = b.order then s.canClose n else s)
    | none => (cOK, s.canDone n b cCANCELLED)

/-! ### Errors (R447, R449) -/

/-- The error counters after an event, by ISO 11898-1. In restricted operation they stay (PRESUMED, log entry 36). -/
def CanCtl.count (x : CanCtl) (e : CanErr) : CanCtl :=
  match e with
  | .tx => { x with tec := x.tec + 8 }
  | .txExempt => x
  | .rx => { x with rcv := min 255 (x.rcv + 1) }
  | .rxFlag => { x with rcv := min 255 (x.rcv + 8) }
  | .flagTx => { x with tec := x.tec + 8 }
  | .flagRx => { x with rcv := min 255 (x.rcv + 8) }
  | .resBit => { x with rcv := min 255 (x.rcv + 1) }

/-- The error state follows the counters (R449): on entry to bus-off one-shot frames complete with BUSY, the attempt
under way ends, and with AUTO_RECOVER recovery starts at once. -/
def State.canJudge (s : State) (n : Nat) : State :=
  let x := s.canCtl n
  if s.canOn n = false then s
  else if 256 ≤ x.tec then
    let s := match x.running with | some b => s.canReturn n b | none => s
    let s := s.setCan n { s.canCtl n with busOffs := satInc 16 x.busOffs }
    let s := s.canTo n 3
    let s := ((s.canCtl n).bufs.filter CanBuf.oneShot).foldl (fun s b => s.canDone n b cBUSY) s
    if x.closing then s.canClose n
    else if s.on (CAN_CTLn_CFG_AUTO_RECOVER n) then s.canTo n 4 else s
  else s.canTo n (if 128 ≤ x.tec ∨ 128 ≤ x.rcv then 2 else 1)

/-- A protocol error or exception at a controller (R447, R449). -/
def State.canError (s : State) (n : Nat) (e : CanErr) : State :=
  if s.canOn n = false then s
  else
    let x := s.canCtl n
    if e = .resBit ∧ s.on (CAN_CTLn_CFG_PXHD_EN n) = true ∧ s.on (CAN_CTLn_CFG_FD_EN n) = true then
      s.setCan n { x with pxe := satInc 16 x.pxe }
    else
      let frame := !(e == .flagTx || e == .flagRx || e == .rxFlag)
      let x := if s.on (CAN_CTLn_CFG_RESTRICTED n) then x else x.count e
      (s.setCan n { x with errFrames := if frame then satInc 32 x.errFrames else x.errFrames }).canJudge n

/-- REC after a frame received without error: one less, or, from above 127, a value between 119 and 127 (ISO 11898-1): the
choice is free. -/
def State.canRecDown (s : State) (n : Nat) : State :=
  let x := s.canCtl n
  if s.on (CAN_CTLn_CFG_RESTRICTED n) then s
  else if x.rcv ≤ 127 then s.setCan n { x with rcv := x.rcv - 1 }
  else
    let r := s.free 4
    (r.2.setCan n { x with rcv := 119 + r.1 % 9 }).canJudge n

/-! ### Receive objects and queues (R450 to R456) -/

/-- Whether two objects of one format match some identifier in common (R450). -/
def canOverlap (ide : Bool) (id1 m1 id2 m2 : Nat) : Bool :=
  let w := if ide then 2 ^ 29 - 1 else 2 ^ 11 - 1
  ((id1 ^^^ id2) &&& (m1 &&& m2)) &&& w == 0

/-- Whether object o matches an identifier of a format on a controller (R450). -/
def State.objMatches (s : State) (o n : Nat) (ide : Bool) (id : Nat) : Bool :=
  s.on (CAN_OBJo_CFG_EN o) && s.f (CAN_OBJo_CFG_CTRL o) == n && s.on (CAN_OBJo_CFG_IDE o) == ide &&
    canOverlap ide (s.f (CAN_OBJo_ID_ID o)) (s.f (CAN_OBJo_MASK_MASK o)) id (2 ^ 29 - 1)

/-- The enabled object of a controller that matches an identifier. -/
def State.objFor (s : State) (n : Nat) (ide : Bool) (id : Nat) : Option Nat :=
  firstIdx 2048 (fun o => s.objMatches o n ide id)

/-- Bytes 4 to 87 of an object record (R451). -/
def canBytes (f : CanFrame) (n state stamp : Nat) : List Byte :=
  let d := f.data.take (canFrameLen f)
  leBytes 4 (f.id + b2n f.ide * 2 ^ 29 + b2n f.rtr * 2 ^ 30) ++
    leBytes 1 (f.dlc + b2n f.fdf * 16 + b2n f.brs * 32 + b2n f.esi * 64) ++ leBytes 1 (canFrameLen f) ++ leBytes 1 state ++
    leBytes 1 n ++ leBytes 4 0 ++ leBytes 8 stamp ++ d ++ List.replicate (64 - d.length) 0#8

/-- The address of an object record (R451). -/
def State.objAddr (s : State) (o : Nat) : Nat := s.f CAN_OBJ_BASE_BASE * 128 + o * 0x80

/-- A frame is stored in an object, SEQ first and SEQ_END last (R451). -/
def State.objStore (s : State) (o n : Nat) (f : CanFrame) (stamp : Nat) : State :=
  let x := s.canObj o
  let st := 1 + 2 * b2n x.isNew
  let bs := canBytes f n st stamp
  let s := s.incW (CAN_OBJo_SEQ_SEQ o)
  let seq := leBytes 4 (s.f (CAN_OBJo_SEQ_SEQ o))
  let s := s.setCanObj o ⟨true, x.isNew, bs⟩
  (s.memWrite (ep iCAN 0) (s.objAddr o) (seq ++ bs ++ List.replicate 36 0#8 ++ seq)).2

/-- Entries of a queue whose journal record is still being written (R456). -/
def State.rqWaiting (s : State) (q : Nat) : Nat :=
  (s.memc.itemWrites.filter (fun (w : JWrite) => match w.origin with | .can q' _ => q' == q | _ => false)).length

/-- Entries a queue owns (R453). -/
def State.rqOwned (s : State) (q : Nat) : Nat :=
  (s.f (CAN_RQq_WR_WR q) + 512 - s.f (CAN_RQq_RD_RD q)) % 512

/-- A frame goes to a queue (R453 to R456); a full queue counts it, and so does the controller (R466). A disabled queue
takes nothing (log entry 37). The class of a CAN item is free: the spec states none. -/
def State.rqTake (s : State) (q n : Nat) (bs : List Byte) : State :=
  let full := s.rqOwned q + s.rqWaiting q
  let drop := fun (s : State) => s.setCan n { s.canCtl n with rxDropped := satInc 32 (s.canCtl n).rxDropped }
  if s.on (CAN_RQq_CFG_ENABLE q) = false then drop s
  else if 256 ≤ full then (drop s).inc (CAN_RQq_DROPS_FULL q)
  else
    let wr := s.f (CAN_RQq_WR_WR q)
    if s.on (CAN_RQq_CFG_MODE q) then
      let wr := (wr + s.rqWaiting q) % 512
      let pr := s.free 3
      let r := pr.2.offer ⟨.can q wr, 1, s.f (CAN_RQq_CFG_FLOW q), 0, pr.1, wr + q * 512 + n * 4096, bs.take (20 + fld bs 5 1)⟩
      if r.1 = cOK then r.2 else s.inc (CAN_RQq_DROPS_JOURNAL q)
    else
      let s := (s.memWrite (ep iCAN 0) (s.f (CAN_RQq_BASE_BASE q) * 128 + wr % 256 * 0x80) (leBytes 4 wr ++ bs)).2
      let s := s.setF (CAN_RQq_WR_WR q) (wr + 1)
      if s.on (CAN_RQq_CFG_NOTICE_EN q) then
        s.notice (ep iCAN 0) (s.f (CAN_RQq_NOTICE_EP q)) (s.f (CAN_RQq_NOTICE_TAG q))
          (s.now % 2 ^ 32 * 2 ^ 32 + (wr + 1) % 512 * 2 ^ 16 + q * 2 ^ 8 + 1) false
      else s

/-- An item of a FLOW queue has its valid record: WR advances (R456). -/
def State.rqAccepted (s : State) (q : Nat) : State := s.setF (CAN_RQq_WR_WR q) (s.f (CAN_RQq_WR_WR q) + 1)

/-- A frame reaches its acceptance point on controller n; its SOF fell `ago` ns before the present SREF edge (R451,
R453). The object it was stored in, if any, is answered with the state. -/
def State.canReceive (s : State) (n : Nat) (f : CanFrame) (ago : Nat) : Option Nat × State :=
  if 6 ≤ n ∨ s.canOn n = false then (none, s)
  else if f.fdf = true ∧ s.on (CAN_CTLn_CFG_FD_EN n) = false then (none, s.canError n .rx)
  else
    let x := s.canCtl n
    let s := (s.setCan n { x with rxOk := satInc 32 x.rxOk }).canRecDown n
    let stamp := s.stampNs 0 ago
    match s.objFor n f.ide f.id with
    | some o =>
      let s := s.objStore o n f stamp
      (some o, if s.on (CAN_OBJo_CFG_Q_EN o) then s.rqTake (s.f (CAN_OBJo_CFG_QUEUE o)) n (s.canObj o).bytes else s)
    | none =>
      (none, if s.on (CAN_CTLn_CFG_DEFAULT_EN n) then s.rqTake (s.f (CAN_CTLn_CFG_DEFAULT_Q n)) n (canBytes f n 1 stamp)
        else s.setCan n { s.canCtl n with rxDropped := satInc 32 (s.canCtl n).rxDropped })

/-! ### Registers (R467) -/

def aCan (n o : Nat) : Nat := 0x0200270100 + n * 0x80 + o

/-- The bit timing checks of R448. -/
def State.canTimingBad (s : State) (n : Nat) (fd : Bool) : Bool :=
  let t1 := s.f (CAN_CTLn_NBT_NTSEG1 n)
  let t2 := s.f (CAN_CTLn_NBT_NTSEG2 n)
  let nb := s.f (CAN_CTLn_NBT_NBRP n) * (1 + t1 + t2)
  let d1 := s.f (CAN_CTLn_DBT_DTSEG1 n)
  let d2 := s.f (CAN_CTLn_DBT_DTSEG2 n)
  let db := s.f (CAN_CTLn_DBT_DBRP n) * (1 + d1 + d2)
  decide (nb < 80) || decide (8000 < nb) || decide (1 + t1 + t2 < 8) || decide (t2 < s.f (CAN_CTLn_NBT_NSJW n)) ||
    (fd && (decide (db < 10) || decide (nb < db) || decide (1 + d1 + d2 < 5) || decide (d2 < s.f (CAN_CTLn_DBT_DSJW n))))

/-- A write of CAN_CTLn_CFG (R448, R449, R460). A controller that is being switched off cannot be switched on (log entry
37). -/
def State.canCfgWrite (s : State) (req n value : Nat) : Nat × State :=
  let a := aCan n 0
  let was := s.on (CAN_CTLn_CFG_ENABLE n)
  if bit value 31 then
    if (s.canCtl n).closing then s.regRefuse iCAN a req cBUSY
    else if was = false ∧ s.canTimingBad n (bit value 30) = true then s.regRefuse iCAN a req cRANGE
    else
      let r := s.regW iCAN req a value
      if was then r
      else (r.1, (r.2.setCan n { r.2.canCtl n with closing := false, tec := 0, rcv := 0 }).canTo n 1)
  else
    let r := s.regW iCAN req a value
    if was = false then r
    else (r.1, if (r.2.canCtl n).run.isSome then r.2.setCan n { r.2.canCtl n with closing := true } else r.2.canClose n)

/-- A write of CAN_CTLn_CMD with RECOVER (R449). -/
def State.canRecover (s : State) (req n value : Nat) : Nat × State :=
  let r := s.regW iCAN req (aCan n 0x14) value
  if r.1 ≠ cOK then r
  else if r.2.canState n ≠ 3 then (cOK, r.2.setF (CAN_CTLn_CMD_STATUS n) cBUSY)
  else (cOK, (r.2.setF (CAN_CTLn_CMD_STATUS n) cOK).canTo n 4)

def aObj (o k : Nat) : Nat := 0x0200278000 + o * 0x10 + k

/-- A write of CAN_OBJo_CFG (R450): with EN the object is checked; its configuration is fixed while EN = 1. -/
def State.objCfgWrite (s : State) (req o value : Nat) : Nat × State :=
  let a := aObj o 0
  let was := s.on (CAN_OBJo_CFG_EN o)
  let ide := bit value 8
  let id := s.f (CAN_OBJo_ID_ID o)
  let mask := s.f (CAN_OBJo_MASK_MASK o)
  let n := bits value 18 16
  if was = true then
    if bit value 30 ≠ s.on (CAN_OBJo_CFG_Q_EN o) ∨ bits value 26 24 ≠ s.f (CAN_OBJo_CFG_QUEUE o) ∨
        n ≠ s.f (CAN_OBJo_CFG_CTRL o) ∨ ide ≠ s.on (CAN_OBJo_CFG_IDE o) then s.regRefuse iCAN a req cBUSY
    else s.regW iCAN req a value
  else if bit value 31 = false then s.regW iCAN req a value
  else if 5 < n ∨ (ide = false ∧ (2 ^ 11 ≤ id ∨ 2 ^ 11 ≤ mask)) then s.regRefuse iCAN a req cRANGE
  else if (firstIdx 2048 (fun k => k != o && s.on (CAN_OBJo_CFG_EN k) && s.f (CAN_OBJo_CFG_CTRL k) == n &&
      s.on (CAN_OBJo_CFG_IDE k) == ide &&
      canOverlap ide id mask (s.f (CAN_OBJo_ID_ID k)) (s.f (CAN_OBJo_MASK_MASK k)))).isSome then
    s.regRefuse iCAN a req cCONFLICT
  else
    let r := s.regW iCAN req a value
    (r.1, (r.2.setF (CAN_OBJo_SEQ_SEQ o) 0).setCanObj o CanObj.fresh)

/-- A write of CAN_OBJ_ACK (R452): NEW and LOST clear only if the SEQ is current. -/
def State.objAck (s : State) (value : Nat) : Nat × State :=
  let o := bits value 10 0
  let x := s.canObj o
  if x.isNew = true ∧ s.f (CAN_OBJo_SEQ_SEQ o) = bits value 63 32 then
    let s := s.setCanObj o { x with isNew := false, lost := false }
    (cOK, (s.memWrite (ep iCAN 0) (s.objAddr o + 10) [0#8]).2)
  else (cOK, s)

/-- A write of CAN_OBJ_BASE (R451, R467). -/
def State.objBaseWrite (s : State) (req value : Nat) : Nat × State :=
  let a := 0x0200270020
  if (firstIdx 2048 (fun k => s.on (CAN_OBJo_CFG_EN k))).isSome then s.regRefuse iCAN a req cBUSY
  else if blockIn (bits value 39 7 * 128) 128 false = false then s.regRefuse iCAN a req cRANGE
  else s.regW iCAN req a value

def aRq (q o : Nat) : Nat := 0x0200270600 + q * 0x40 + o

/-- A write of CAN_RQq_CFG (R467). -/
def State.rqCfgWrite (s : State) (req q value : Nat) : Nat × State :=
  let was := s.on (CAN_RQq_CFG_ENABLE q)
  if was = true ∧ bit value 31 = false ∧ 0 < s.rqOwned q + s.rqWaiting q then s.regRefuse iCAN (aRq q 0) req cBUSY
  else if was = true ∧ bit value 30 ≠ s.on (CAN_RQq_CFG_MODE q) then s.regRefuse iCAN (aRq q 0) req cBUSY
  else s.regW iCAN req (aRq q 0) value

/-- A write of CAN_RQq_RD (R455, R456). -/
def State.rqRdWrite (s : State) (req q value : Nat) : Nat × State :=
  let rd := bits value 8 0
  if s.on (CAN_RQq_CFG_MODE q) then s.regRefuse iCAN (aRq q 0x1C) req cNOT_OWNER
  else if s.rqOwned q < (rd + 512 - s.f (CAN_RQq_RD_RD q)) % 512 then s.regRefuse iCAN (aRq q 0x1C) req cRANGE
  else s.regW iCAN req (aRq q 0x1C) value

/-- A write to a register of CAN that is more than its access codes. -/
def State.canRegWrite (s : State) (req isl base value : Nat) : Option (Nat × State) :=
  if isl ≠ iCAN then none
  else
    let o := base % 0x10000
    if o = 0x20 then some (s.objBaseWrite req value)
    else if o = 0x28 then some (s.objAck value)
    else if 0x100 ≤ o ∧ o < 0x400 then
      let n := (o - 0x100) / 0x80
      let k := o % 0x80
      if k = 0 then some (s.canCfgWrite req n value)
      else if k = 4 ∨ k = 8 ∨ k = 0xC then
        (if s.on (CAN_CTLn_CFG_ENABLE n) then some (s.regRefuse iCAN base req cBUSY) else none)
      else if k = 0x14 then some (s.canRecover req n value)
      else none
    else if 0x600 ≤ o ∧ o < 0x800 then
      let q := (o - 0x600) / 0x40
      if o % 0x40 = 0 then some (s.rqCfgWrite req q value)
      else if o % 0x40 = 8 then
        (if blockIn (bits value 39 7 * 128) 128 false then none else some (s.regRefuse iCAN base req cRANGE))
      else if o % 0x40 = 0x1C then some (s.rqRdWrite req q value)
      else none
    else if 0x8000 ≤ o then
      let b := (o - 0x8000) / 0x10
      if o % 0x10 = 0 then some (s.objCfgWrite req b value)
      else if s.on (CAN_OBJo_CFG_EN b) then some (s.regRefuse iCAN base req cBUSY)
      else none
    else none

/-- The region of a controller in a Snap, which CAN_CTLn_STAT shows live (R466). -/
def State.canRegion (s : State) (n : Nat) : List Byte :=
  let x := s.canCtl n
  leBytes 4 x.rxOk ++ leBytes 4 x.txOk ++ leBytes 4 x.rxDropped ++ leBytes 4 x.errFrames ++ leBytes 4 x.arbLost ++
    leBytes 2 x.tec ++ leBytes 2 x.rcv ++ leBytes 1 (s.canState n) ++ [0#8] ++ leBytes 2 x.busOffs ++
    leBytes 2 x.clashes ++ leBytes 2 x.pxe

/-- A token at CAN (R457, R461). -/
def State.canToken (s : State) (t : Token) : Nat × State :=
  let p := epPort t.dest
  if 0x010 ≤ p ∧ p < 0x016 then s.canRequest (p - 0x010) t
  else if 0x020 ≤ p ∧ p < 0x026 then s.canCancel (p - 0x020) t
  else (cNO_ROUTE, s)

/-- CAN is fenced or reset (R465): controllers, objects, buffers and queues start anew; items of FLOW queues that were
accepted go on without a queue. -/
def State.canClear (s : State) : State :=
  { s with
    can := { s.can with
      ctl := []
      obj := []
      old := (s.memc.live.filter (fun (r : JRec) => r.kind == 1 && r.source == 1 && !r.retired)).map
        (fun (r : JRec) => (r.flow, r.seq)) }
    memc := { s.memc with itemWrites := s.memc.itemWrites.filter (fun (w : JWrite) =>
      match w.origin with | .can _ _ => false | _ => true) } }

/-! ### Meanings -/

/-- CAN_ENABLE: a write of CAN_CTLn_CFG, with ENABLE. -/
def execCanEnable (req n value : Nat) (s : State) : Res :=
  s.regRow iCAN req (aCan n 0) 4 value (fun s => s.canCfgWrite req n value)

/-- CAN_DISABLE: a write of CAN_CTLn_CFG that clears ENABLE. -/
def execCanDisable (req n value : Nat) (s : State) : Res :=
  s.regRow iCAN req (aCan n 0) 4 value (fun s => s.canCfgWrite req n value)

/-- RECOVER. -/
def execRecover (req n : Nat) (s : State) : Res :=
  s.regRow iCAN req (aCan n 0x14) 4 1 (fun s => s.canRecover req n 1)

/-- CAN_RECOVERY_DONE (R447, R449). -/
def execCanRecoveryDone (n : Nat) (s : State) : Res :=
  .next (if s.canState n = 4 then (s.setCan n { s.canCtl n with tec := 0, rcv := 0 }).canTo n 1 else s)

/-- CAN_ERROR. -/
def execCanError (n : Nat) (err : CanErr) (s : State) : Res := .next (s.canError n err)

/-- CAN_OBJECT_ENABLE: a write of CAN_OBJo_CFG. -/
def execCanObjectEnable (req o value : Nat) (s : State) : Res :=
  s.regRow iCAN req (aObj o 0) 4 value (fun s => s.objCfgWrite req o value)

/-- CAN_OBJ_ACK. -/
def execCanObjAck (req value : Nat) (s : State) : Res :=
  s.regRow iCAN req 0x0200270028 8 value (fun s => s.objAck value)

/-- CAN_QUEUE_RD. -/
def execCanQueueRd (req q value : Nat) (s : State) : Res :=
  s.regRow iCAN req (aRq q 0x1C) 4 value (fun s => s.rqRdWrite req q value)

/-- CAN_TX_REQUEST. -/
def execCanTxRequest (t : Token) (s : State) : Res := .next (s.arrive t (fun s => s.canToken t))

/-- CAN_TX_SELECT: the SOF of the frame chosen starts `wait` SREF edges later. -/
def execCanTxSelect (n wait : Nat) (s : State) : Res := .next (s.canSelect n wait)

/-- CAN_TX_COMPLETE: the attempt under way ends. -/
def execCanTxComplete (n : Nat) (how : CanEnd) (s : State) : Res := .next (s.canEnd n how)

/-- CAN_CANCEL. -/
def execCanCancel (t : Token) (s : State) : Res := .next (s.arrive t (fun s => s.canToken t))

end Sys2Proof.Machine
end

