-- ==== Sys2Proof/Machine/Mch.lean ====
section
/-! DEFINITION. Machine functions and direct I/O (R399 to R425). -/

namespace Sys2Proof.Machine

def MchSlot.fresh : MchSlot := ⟨0, 0, 0, false⟩
def MchAn.fresh : MchAn := ⟨[], false, none, true, 0, 0, []⟩
def MchPi.fresh : MchPi := ⟨none, none⟩
def MchPw.fresh : MchPw := ⟨0, 0⟩
def MchSt.fresh : MchSt := ⟨[], [], [], [], [], 0, 0, 0, []⟩

def State.slot (s : State) (k : Nat) : MchSlot := Tab.get (fun _ => MchSlot.fresh) s.mch.slots k
def State.setSlot (s : State) (k : Nat) (x : MchSlot) : State :=
  { s with mch := { s.mch with slots := Tab.set (fun _ => MchSlot.fresh) s.mch.slots k x } }
def State.an (s : State) (c : Nat) : MchAn := Tab.get (fun _ => MchAn.fresh) s.mch.an c
def State.setAn (s : State) (c : Nat) (x : MchAn) : State :=
  { s with mch := { s.mch with an := Tab.set (fun _ => MchAn.fresh) s.mch.an c x } }
def State.pulse (s : State) (n : Nat) : MchPi := Tab.get (fun _ => MchPi.fresh) s.mch.pi n
def State.setPulse (s : State) (n : Nat) (x : MchPi) : State :=
  { s with mch := { s.mch with pi := Tab.set (fun _ => MchPi.fresh) s.mch.pi n x } }
def State.pwm (s : State) (n : Nat) : MchPw := Tab.get (fun _ => MchPw.fresh) s.mch.pw n
def State.setPwm (s : State) (n : Nat) (x : MchPw) : State :=
  { s with mch := { s.mch with pw := Tab.set (fun _ => MchPw.fresh) s.mch.pw n x } }

/-- A 32-bit field read as signed, and a signed value put into one. -/
def State.sg (s : State) (r : RF) : Int := signed 32 (s.f r)
def State.setI (s : State) (r : RF) (v : Int) : State := s.setF r (unsigned r.len v)

/-- A value kept within two limits. -/
def clampI (lo hi v : Int) : Int := if v < lo then lo else if hi < v then hi else v

/-- The range of a signed 32-bit integer. -/
def sat32 (v : Int) : Int := clampI (-2147483648) 2147483647 v

/-- Whether MCH works: neither OFF nor FENCED. -/
def State.mchUp (s : State) : Bool := s.ist iMCH != 0 && s.ist iMCH != 5

/-- Whether a stop is latched (R386). -/
def State.stopped (s : State) : Bool := s.on REF_STOP_STATUS_LATCHED

/-- A notice of MCH (R425): a slot, an interlock bit or a channel, and the kind. -/
def State.mchNotice (s : State) (kind k : Nat) : State :=
  if s.on MCH_NOTICE_EN && bit (s.f MCH_NOTICE_EN_EN) (kind - 1) then
    s.notice (ep iMCH 0) (s.f MCH_NOTICE_EP) (s.f MCH_NOTICE_TAG) (s.now % 2 ^ 32 * 2 ^ 32 + k * 2 ^ 16 + kind) false
  else s

/-! ### Actuator values and bindings (R406 to R409) -/

def State.slotState (s : State) (k : Nat) : Nat := s.f (MCH_MFs_STATUS_STATE k)

/-- Bytes of a WIDTH code. -/
def widthBytes (w : Nat) : Nat := 2 ^ w

/-- The actuator range of a slot's binding (R406). -/
def State.actRange (s : State) (k : Nat) : Int × Int :=
  match s.f (MCH_MFs_BIND_KIND k) with
  | 1 => (0, 65535)
  | 2 =>
    let w := 8 * widthBytes (s.f (MCH_MFs_BIND_WIDTH k))
    if s.on (MCH_MFs_BIND_SIGNED k) then (-(2 : Int) ^ (w - 1), (2 : Int) ^ (w - 1) - 1) else (0, (2 : Int) ^ w - 1)
  | 3 => (0, 1000000000)
  | _ => (-2147483648, 2147483647)

/-- The actuator value of an output value (R406). -/
def State.actOf (s : State) (k : Nat) (out : Int) : Int :=
  let v := s.sg (MCH_MFs_ACT_SCALE_A_OFFSET k) + out * s.sg (MCH_MFs_ACT_SCALE_A_GAIN k) / 65536
  clampI (s.actRange k).1 (s.actRange k).2 v

/-- The output value changes: the binding carries its actuator value (R406, R409). -/
def State.setOut (s : State) (k : Nat) (out : Int) : State :=
  let v := s.actOf k out
  let s := (s.setI (MCH_MFs_VALUES_OUTPUT k) out).setI (MCH_MFs_ACT_VALUE k) v
  if s.f (MCH_MFs_BIND_KIND k) = 3 then s.pinDrive (s.f (MCH_MFs_BIND_INDEX k)) v.toNat else s

/-- The data of a CAN binding's frame (R408). -/
def State.slotCanData (s : State) (k : Nat) : List Byte :=
  let t := leBytes 8 (s.f (MCH_MFs_CAN_DATA_TEMPLATE k))
  let w := widthBytes (s.f (MCH_MFs_BIND_WIDTH k))
  let o := s.f (MCH_MFs_BIND_BYTE k)
  t.take o ++ leBytes w (s.f (MCH_MFs_ACT_VALUE k)) ++ t.drop (o + w)

/-- A CAN binding sends its frame; a refusal is counted (R408). -/
def State.slotFrame (s : State) (k : Nat) : State :=
  if s.f (MCH_MFs_BIND_KIND k) ≠ 2 then s
  else
    let r := s.canMachine (s.f (MCH_MFs_BIND_CTRL k)) (s.f (MCH_MFs_CFG_CLASS k)) (s.on (MCH_MFs_BIND_IDE k))
      (s.f (MCH_MFs_BIND_ID k)) (s.slotCanData k)
    if r.1 = cOK then r.2 else r.2.inc (MCH_MFs_STAT_CAN_DROPS k)

/-- The slot that binds a PWM output or a time pin and is not OFF (R401, R407). -/
def State.binder (s : State) (kind index : Nat) : Option Nat :=
  firstIdx 48 (fun k => s.slotState k != 0 && s.f (MCH_MFs_BIND_KIND k) == kind && s.f (MCH_MFs_BIND_INDEX k) == index)

/-! ### State changes (R400, R415, R416) -/

/-- A slot changes its state. -/
def State.slotTo (s : State) (k st : Nat) : State :=
  if s.slotState k = st then s
  else
    let s := s.setF (MCH_MFs_STATUS_STATE k) st
    let s := s.setSlot k { s.slot k with waiting := false }
    s.mchNotice 1 k

/-- A slot enters STOPPED or INTERLOCKED: HOLD and NEUTRAL act at once, RAMP at the output steps; a CAN binding sends its
frame (R408, R415). -/
def State.slotStop (s : State) (k st : Nat) : State :=
  let s := s.slotTo k st
  let s := if s.f (MCH_MFs_CFG_STOP_MODE k) = 1 then s.setOut k (s.sg (MCH_MFs_NEUTRAL_NEUTRAL k)) else s
  s.slotFrame k

/-- A Whistle stop reaches MCH (R400, R415, R416). -/
def State.mchStop (s : State) : State :=
  if s.mchUp = false then s
  else (List.range 48).foldl (fun s k =>
    let st := s.slotState k
    if st = 1 ∨ st = 2 ∨ st = 4 then s.slotStop k 3 else s) s

/-- A fault of a slot is set: it notifies, and stops a slot in RUN (R412). -/
def State.slotFault (s : State) (k : Nat) : State :=
  let s := s.mchNotice 2 k
  if s.slotState k = 2 then s.slotStop k 4 else s

/-- Whether a slot has a fault (R412). -/
def State.slotFaulty (s : State) (k : Nat) : Bool := s.on (MCH_MFs_STATUS_STALE k) || s.on (MCH_MFs_STATUS_LAW_LATE k)

/-! ### Pulse inputs (R421, R422) -/

/-- The frequency of a pulse input at a time in 5 ns units, in mHz, signed (R422). -/
def State.pulseFreq (s : State) (n t : Nat) : Int :=
  match (s.pulse n).lastEdge with
  | none => 0
  | some e =>
    if s.f (MCH_PIn_ZERO_ZERO_MS n) * 200000 ≤ t - e then 0
    else
      let f : Int := Int.ofNat (200000000000 / max (s.f (MCH_PIn_PERIOD_PERIOD n)) (t - e))
      if s.on (MCH_PIn_STAT_DIR n) then -f else f

/-! ### Interlocks (R413) -/

/-- Interlock bit i (R413). -/
def State.ilBit (s : State) (i : Nat) : Bool :=
  let x := s.f (MCH_ILi_SRC_INDEX i)
  let v := match s.f (MCH_ILi_SRC_KIND i) with
    | 0 => bit (s.f MCH_IL_SOFT_SET_SOFT) i
    | 1 => decide (x < 32) && s.on (MCH_ANc_CFG_ENABLE x) && s.on (MCH_ANc_CFG_WIN_EN x) &&
        (decide (s.f (MCH_ANc_VALUE_FILT x) < s.f (MCH_ANc_WIN_LOW x)) ||
          decide (s.f (MCH_ANc_WIN_HIGH x) < s.f (MCH_ANc_VALUE_FILT x)))
    | 2 => decide (x < 16) && s.on (MCH_PIn_CFG_ENABLE x) && s.on (MCH_PIn_STAT_LEVEL x)
    | 3 => decide (x < 48) && s.slotFaulty x
    | 4 => decide (x < 16) && s.on (MCH_PIn_CFG_ENABLE x) && s.on (MCH_PIn_CFG_WIN_EN x) &&
        (let f := s.pulseFreq x (s.tim.edges * 2)
         decide (f < s.sg (MCH_PIn_WIN_FMIN x)) || decide (s.sg (MCH_PIn_WIN_FMAX x) < f))
    | _ => false
  v != s.on (MCH_ILi_SRC_INVERT i)

/-- The interlock word. -/
def State.ilWord (s : State) : Nat := ((List.range 32).map (fun i => b2n (s.ilBit i) * 2 ^ i)).sum

/-- Bits are re-evaluated, with notices of those that change (R413, R425). -/
def State.ilEval (s : State) : State :=
  let old := s.f MCH_IL_STATE_ACTIVE
  let new := s.ilWord
  let s := s.setF MCH_IL_STATE_ACTIVE new
  (List.range 32).foldl (fun s i =>
    if bit new i && !bit old i then s.mchNotice 3 i
    else if bit old i && !bit new i then s.mchNotice 4 i else s) s

/-- The word a RUN command is judged by: that of the step due at this edge, if one is (R414). -/
def State.ilNow (s : State) : Nat := if s.tim.edges % 1000 = 0 then s.ilWord else s.f MCH_IL_STATE_ACTIVE

/-! ### Measured values (R403, R404) -/

/-- A slot's source refreshes. -/
def State.slotRefresh (s : State) (k : Nat) (raw : Int) : State :=
  if s.slotState k = 0 then s
  else
    let m := sat32 (s.sg (MCH_MFs_MEAS_SCALE_M_OFFSET k) + raw * s.sg (MCH_MFs_MEAS_SCALE_M_GAIN k) / 65536)
    (s.setSlot k { s.slot k with raw := raw, seenAt := s.tim.edges }).setI (MCH_MFs_VALUES_MEASURED k) m

/-- Every slot whose source has this kind and index refreshes. -/
def State.refreshAll (s : State) (kind index : Nat) (raw : Int) : State :=
  (List.range 48).foldl (fun s k =>
    if s.f (MCH_MFs_MEAS_SRC_KIND k) = kind ∧ s.f (MCH_MFs_MEAS_SRC_INDEX k) = index then s.slotRefresh k raw else s) s

/-- The raw value that a slot takes from the data of a CAN object's copy (R403). -/
def State.canRaw (s : State) (k : Nat) (data : List Byte) : Int :=
  let w := widthBytes (s.f (MCH_MFs_MEAS_SRC_WIDTH k))
  let v := fld data (s.f (MCH_MFs_MEAS_SRC_BYTE k)) w
  if s.on (MCH_MFs_MEAS_SRC_SIGNED k) then signed (8 * w) v else Int.ofNat v

/-- An object has received a frame: slots that read it refresh. -/
def State.canRefresh (s : State) (o : Nat) : State :=
  if s.mchUp = false then s
  else (List.range 48).foldl (fun s k =>
    if s.f (MCH_MFs_MEAS_SRC_KIND k) = 5 ∧ s.f (MCH_MFs_MEAS_SRC_INDEX k) = o then
      s.slotRefresh k (s.canRaw k ((s.canObj o).bytes.drop 20)) else s) s

/-! ### Commands (R400, R401, R412) -/

/-- Whether bank M carries the machine I/O (R563). -/
def State.machineBank (s : State) : Bool := s.on SYS_STRAPS_BANK

/-- The checks of ENABLE on the slot's own configuration (R401, R563). -/
def State.slotRange (s : State) (k : Nat) : Bool :=
  let lo := s.sg (MCH_MFs_OUT_LIM_OUT_MIN k)
  let hi := s.sg (MCH_MFs_OUT_LIM_OUT_MAX k)
  let n := s.sg (MCH_MFs_NEUTRAL_NEUTRAL k)
  let per := s.f (MCH_MFs_TIMING_PERIOD k)
  let mk := s.f (MCH_MFs_MEAS_SRC_KIND k)
  let mi := s.f (MCH_MFs_MEAS_SRC_INDEX k)
  let bk := s.f (MCH_MFs_BIND_KIND k)
  let bi := s.f (MCH_MFs_BIND_INDEX k)
  decide (hi < lo) || decide (s.sg (MCH_MFs_SP_LIM_SP_MAX k) < s.sg (MCH_MFs_SP_LIM_SP_MIN k)) ||
    decide (n < lo) || decide (hi < n) || mk == 7 || decide (4 ≤ bk) || s.f (MCH_MFs_CFG_STOP_MODE k) == 3 ||
    s.f (MCH_MFs_MEAS_SRC_WIDTH k) == 3 || s.f (MCH_MFs_BIND_WIDTH k) == 3 ||
    decide (per = 0) || decide (2000 < per) || decide (per * 50 ≤ s.f (MCH_MFs_TIMING_PHASE k)) ||
    (s.on (MCH_MFs_CFG_MODE k) && s.f (MCH_MFs_CFG_LATE_LIMIT k) == 0) ||
    (s.on (MCH_MFs_CFG_RATE_EN k) && s.f (MCH_MFs_RATE_RATE_STEP k) == 0) ||
    (s.f (MCH_MFs_CFG_STOP_MODE k) == 2 && s.f (MCH_MFs_RATE_STOP_STEP k) == 0) ||
    (mk == 1 && decide (32 ≤ mi)) || ((mk == 2 || mk == 3) && decide (16 ≤ mi)) || (mk == 4 && decide (24 ≤ mi)) ||
    (mk == 5 && decide (2048 ≤ mi)) || (bk == 1 && decide (24 ≤ bi)) || (bk == 3 && decide (32 ≤ bi)) ||
    (bk == 2 && decide (6 ≤ s.f (MCH_MFs_BIND_CTRL k))) ||
    (bk == 2 && decide (8 < s.f (MCH_MFs_BIND_BYTE k) + widthBytes (s.f (MCH_MFs_BIND_WIDTH k)))) ||
    (mk == 5 && decide (64 < s.f (MCH_MFs_MEAS_SRC_BYTE k) + widthBytes (s.f (MCH_MFs_MEAS_SRC_WIDTH k)))) ||
    (s.on (MCH_MFs_CFG_STALE_EN k) && s.f (MCH_MFs_MEAS_SRC_AGE_MS k) == 0) ||
    (!s.machineBank && (bk == 1 || mk == 2 || mk == 3))

/-- The status of ENABLE (R401). -/
def State.slotCheck (s : State) (k : Nat) : Nat :=
  let bk := s.f (MCH_MFs_BIND_KIND k)
  let bi := s.f (MCH_MFs_BIND_INDEX k)
  if s.slotState k ≠ 0 then cBUSY
  else if s.slotRange k then cRANGE
  else if (bk = 1 ∨ bk = 3) ∧ (s.binder bk bi).isSome = true then cCONFLICT
  else if (bk = 1 ∧ s.on (MCH_PWn_CFG_ENABLE bi) = false) ∨ (bk = 3 ∧ s.on (TIM_TPp_CFG_ENABLE bi) = true) then cBUSY
  else cOK

/-- The first millisecond mark after an edge (R176). -/
def nextMark (e : Nat) : Nat := (e / 100000 + 1) * 100000

/-- ENABLE takes effect: READY, with NEUTRAL, no fault and a tick grid of its own (R399, R405, R410). The measured value
is that of raw 0 until the source refreshes (log entry 39). -/
def State.slotEnable (s : State) (k : Nat) : State :=
  let n := s.f (MCH_MFs_NEUTRAL_NEUTRAL k)
  let e := s.tim.edges
  let s := s.setSlot k ⟨0, e, nextMark e + s.f (MCH_MFs_TIMING_PHASE k) * 1000, false⟩
  let s := (s.setF (MCH_MFs_STATUS_STALE k) 0).setF (MCH_MFs_STATUS_LAW_LATE k) 0
  let s := (s.setF (MCH_MFs_STATUS_LATE_RUN k) 0).setF (MCH_MFs_TARGET_TARGET k) n
  let s := (s.setF (MCH_MFs_STATUS_CLAMPED k) 0).setF (MCH_MFs_STATUS_RATE_LIMITED k) 0
  let s := s.setI (MCH_MFs_VALUES_MEASURED k) (s.sg (MCH_MFs_MEAS_SCALE_M_OFFSET k))
  let s := (s.slotTo k 1).setOut k (signed 32 n)
  s.slotFrame k

/-- The status of RUN (R400, R414, R416). -/
def State.runCheck (s : State) (k : Nat) : Nat :=
  let st := s.slotState k
  if s.stopped then cSTOPPED
  else if st = 0 ∨ st = 2 ∨ s.slotFaulty k = true ∨ s.ilNow &&& s.f (MCH_MFs_IL_MASK_MASK k) ≠ 0 then cBUSY
  else cOK

/-- DISABLE (R400, R407). A slot that is OFF stays so. -/
def State.slotDisable (s : State) (k : Nat) : State :=
  if s.slotState k = 0 then s
  else
    let i := s.f (MCH_MFs_BIND_INDEX k)
    let s := match s.f (MCH_MFs_BIND_KIND k) with
      | 1 => s.setI (MCH_PWn_DUTY_DUTY i) (s.actOf k (s.sg (MCH_MFs_NEUTRAL_NEUTRAL k)))
      | 3 => s.pinFree i
      | _ => s
    s.slotTo k 0

/-- CLEAR_FAULT (R412). -/
def State.slotClear (s : State) (k : Nat) : Nat × State :=
  let s := (s.setF (MCH_MFs_STATUS_LAW_LATE k) 0).setF (MCH_MFs_STATUS_LATE_RUN k) 0
  if s.on (MCH_MFs_STATUS_STALE k) = false then (cOK, s)
  else if s.tim.edges < (s.slot k).seenAt + s.f (MCH_MFs_MEAS_SRC_AGE_MS k) * 100000 then
    (cOK, s.setF (MCH_MFs_STATUS_STALE k) 0)
  else (cBUSY, s)

def aSlot (k o : Nat) : Nat := 0x0200251000 + k * 0x80 + o

/-- A slot command (R401): the write is accepted, and STATUS holds its result. -/
def State.slotCmd (s : State) (req k value : Nat) : Nat × State :=
  let r := s.regW iMCH req (aSlot k 0x6C) value
  if r.1 ≠ cOK then r
  else
    let s := r.2
    let x : Nat × State := match bits value 2 0 with
      | 1 => let c := s.slotCheck k
             (c, if c = cOK then s.slotEnable k else s)
      | 2 => let c := s.runCheck k
             (c, if c = cOK then s.slotTo k 2 else s)
      | 3 => (cOK, s.slotDisable k)
      | _ => s.slotClear k
    (cOK, x.2.setF (MCH_MFs_CMD_STATUS k) x.1)

/-! ### Targets, setpoints, measured values (R402) -/

/-- A target for a slot (R402, R411). -/
def State.slotTarget (s : State) (k v : Nat) : Nat × State :=
  if s.slotState k = 0 then (cNOT_FOUND, s)
  else if s.on (MCH_MFs_CFG_MODE k) = false then (cRANGE, s)
  else (cOK, (s.setF (MCH_MFs_TARGET_TARGET k) v).setSlot k { s.slot k with waiting := false })

/-- A setpoint for a slot (R402). -/
def State.slotSetpoint (s : State) (k v : Nat) : Nat × State :=
  let x := signed 32 v
  if s.slotState k = 0 then (cNOT_FOUND, s)
  else if x < s.sg (MCH_MFs_SP_LIM_SP_MIN k) ∨ s.sg (MCH_MFs_SP_LIM_SP_MAX k) < x then (cRANGE, s)
  else (cOK, s.setF (MCH_MFs_SETPOINT_SETPOINT k) v)

/-- A raw measured value for a slot (R402, R403). -/
def State.slotMeasured (s : State) (k v : Nat) : Nat × State :=
  if s.slotState k = 0 then (cNOT_FOUND, s)
  else if s.f (MCH_MFs_MEAS_SRC_KIND k) ≠ 6 then (cRANGE, s)
  else (cOK, s.slotRefresh k (signed 32 v))

/-- A token at MCH (R402). -/
def State.mchToken (s : State) (t : Token) : Nat × State :=
  let p := epPort t.dest
  let k := bits t.tag 5 0
  if 3 ≤ p then (cNO_ROUTE, s)
  else if bits t.tag 22 6 ≠ 0 ∨ bits t.tag 31 26 ≠ 0 ∨ 48 ≤ k ∨ 2 ^ 32 ≤ t.data then (cRANGE, s)
  else if p = 0 then s.slotTarget k t.data
  else if p = 1 then s.slotSetpoint k t.data
  else s.slotMeasured k t.data

/-- A register write whose refusal is recorded under R34. -/
def State.mchChecked (s : State) (req addr : Nat) (r : Nat × State) : Nat × State :=
  if r.1 = cOK then r else s.regRefuse iMCH addr req r.1

/-! ### The output step (R405, R414, R415) -/

/-- A step of a slot in RUN (R405). -/
def State.slotStep (s : State) (k : Nat) : State :=
  let want := if s.on (MCH_MFs_CFG_MODE k) then s.sg (MCH_MFs_TARGET_TARGET k) else s.sg (MCH_MFs_SETPOINT_SETPOINT k)
  let t := clampI (s.sg (MCH_MFs_OUT_LIM_OUT_MIN k)) (s.sg (MCH_MFs_OUT_LIM_OUT_MAX k)) want
  let out := s.sg (MCH_MFs_VALUES_OUTPUT k)
  let step : Int := Int.ofNat (s.f (MCH_MFs_RATE_RATE_STEP k))
  let limited := s.on (MCH_MFs_CFG_RATE_EN k) && decide (step < Int.ofNat (t - out).natAbs)
  let new := if limited then (if out < t then out + step else out - step) else t
  ((s.setF (MCH_MFs_STATUS_CLAMPED k) (b2n (decide (t ≠ want)))).setF (MCH_MFs_STATUS_RATE_LIMITED k)
    (b2n limited)).setOut k new

/-- A step of a slot that ramps to NEUTRAL (R415). -/
def State.slotRamp (s : State) (k : Nat) : State :=
  let n := s.sg (MCH_MFs_NEUTRAL_NEUTRAL k)
  let out := s.sg (MCH_MFs_VALUES_OUTPUT k)
  let step : Int := Int.ofNat (s.f (MCH_MFs_RATE_STOP_STEP k))
  s.setOut k (if (n - out).natAbs ≤ step.toNat then n else if out < n then out + step else out - step)

/-- The output step: sources that refresh at it, interlocks, then every slot (R403, R405, R413, R414). -/
def State.outputStep (s : State) : State :=
  let s := (List.range 48).foldl (fun s k =>
    if s.f (MCH_MFs_MEAS_SRC_KIND k) = 2 then
      s.slotRefresh k (s.pulseFreq (s.f (MCH_MFs_MEAS_SRC_INDEX k)) (s.tim.edges * 2)) else s) s
  let s := s.ilEval
  (List.range 48).foldl (fun s k =>
    let s := if s.slotState k = 2 ∧ (s.f MCH_IL_STATE_ACTIVE &&& s.f (MCH_MFs_IL_MASK_MASK k) ≠ 0 ∨ s.slotFaulty k = true)
      then s.slotStop k 4 else s
    match s.slotState k with
    | 2 => s.slotStep k
    | 3 => if s.f (MCH_MFs_CFG_STOP_MODE k) = 2 then s.slotRamp k else s
    | 4 => if s.f (MCH_MFs_CFG_STOP_MODE k) = 2 then s.slotRamp k else s
    | _ => s) s

/-! ### Law ticks (R410, R411) -/

/-- A tick token (R410). Its PRIO is the slot's CLASS (R425, log entry 38). -/
def State.tickToken (s : State) (k data : Nat) : State :=
  let tag := s.f (MCH_MFs_LAW_TAG k)
  let tag := tag - bits tag 25 23 * 2 ^ 23 + s.f (MCH_MFs_CFG_CLASS k) * 2 ^ 23
  (s.notice (ep iMCH 0) (s.f (MCH_MFs_LAW_EP k)) tag data false).incW (MCH_MFs_STAT_TICKS k)

/-- An answer is missing at a tick, or was there (R411). -/
def State.lawLate (s : State) (k : Nat) : State :=
  if (s.slot k).waiting = false then s.setF (MCH_MFs_STATUS_LATE_RUN k) 0
  else
    let s := (s.inc (MCH_MFs_STATUS_LATE_RUN k)).inc (MCH_MFs_STAT_LATE k)
    if s.f (MCH_MFs_CFG_LATE_LIMIT k) ≤ s.f (MCH_MFs_STATUS_LATE_RUN k) then
      (s.setF (MCH_MFs_STATUS_LAW_LATE k) 1).slotFault k
    else s

/-- A tick of a slot falls due (R408, R410, R411). -/
def State.lawTick (s : State) (k : Nat) : State :=
  let x := s.slot k
  if s.mchUp = false ∨ s.slotState k = 0 ∨ s.tim.edges < x.tick then s
  else
    let data := s.f (MCH_MFs_SETPOINT_SETPOINT k) * 2 ^ 32 + s.f (MCH_MFs_VALUES_MEASURED k)
    let s := s.setSlot k { x with tick := x.tick + s.f (MCH_MFs_TIMING_PERIOD k) * 50000 }
    let law := s.on (MCH_MFs_CFG_MODE k)
    let s := if law && s.slotState k == 2 then s.lawLate k else s
    let s := if law && s.slotState k == 2 then
        let s := s.setSlot k { s.slot k with waiting := true }
        if s.ist iMCH = 4 then { s with mch := { s.mch with lateTicks := s.mch.lateTicks ++ [(k, data)] } }
        else s.tickToken k data
      else s
    s.slotFrame k

/-- A self-test slice ends: output steps and ticks that fell due are taken (R417). -/
def State.mchSliceEnd (s : State) : State :=
  let n := s.mch.lateSteps
  let ts := s.mch.lateTicks
  let s := { s with mch := { s.mch with lateSteps := 0, lateTicks := [] } }
  let s := (List.range n).foldl (fun s _ => s.outputStep) s
  ts.foldl (fun s p => s.tickToken p.1 p.2) s

/-! ### Analog inputs (R418 to R420) -/

/-- The mean of a channel's last samples (R419). -/
def filtOf (shift : Nat) (l : List Nat) : Nat :=
  let l := l.take (2 ^ shift)
  if l.isEmpty then 0 else l.sum / l.length

/-- The impact detector of a channel takes a sample (R420). -/
def MchAn.impact (x : MchAn) (v shift thresh dead : Nat) : MchAn × Bool :=
  let v : Int := Int.ofNat v
  let base := x.base.getD v
  let base := base + (v - base) / (2 : Int) ^ shift
  let d := v - base
  if x.armed && decide (Int.ofNat thresh ≤ d) then
    ({ x with base := some base, armed := false, dead := dead, bucket := x.bucket + 1 }, true)
  else if x.armed = false then
    if 0 < x.dead then ({ x with base := some base, dead := x.dead - 1 }, false)
    else ({ x with base := some base, armed := decide (d < Int.ofNat thresh) }, false)
  else ({ x with base := some base }, false)

/-- An enabled channel takes a sample (R419, R420). -/
def State.anSample (s : State) (c v : Nat) : State :=
  let v := v % 65536
  let x := s.an c
  let l := (v :: x.samples).take 256
  let filt := filtOf (s.f (MCH_ANc_CFG_AVG_SHIFT c)) l
  let s := (s.setF (MCH_ANc_VALUE_RAW c) v).setF (MCH_ANc_VALUE_FILT c) filt
  let out := s.on (MCH_ANc_CFG_WIN_EN c) &&
    (decide (filt < s.f (MCH_ANc_WIN_LOW c)) || decide (s.f (MCH_ANc_WIN_HIGH c) < filt))
  let x := { x with samples := l }
  let r := if s.on (MCH_ANc_CFG_IMPACT c) then
      x.impact v (s.f (MCH_ANc_CFG_B_SHIFT c)) (s.f (MCH_ANc_THRESH_THRESH c)) (s.f (MCH_ANc_CFG_DEAD c))
    else (x, false)
  let s := s.setAn c { r.1 with outside := out }
  let s := if r.2 then s.incW (MCH_ANc_HITS_COUNT c) else s
  let s := if out != x.outside && s.on (MCH_ANc_CFG_WIN_EN c) then s.mchNotice 5 c else s
  s.refreshAll 1 c (Int.ofNat filt)

/-- Whether a group samples at this edge (R418). -/
def State.groupDue (s : State) (g : Nat) : Bool :=
  s.mchUp && decide (g < 4) && s.on (MCH_ANG_g_ENABLE g) && decide (Tab.get (fun _ => 0) s.mch.groups g ≤ s.tim.edges)

/-- The channels of a group that sample. -/
def State.groupChans (s : State) (g : Nat) : List Nat :=
  (List.range 8).filterMap (fun i => if s.on (MCH_ANc_CFG_ENABLE (g * 8 + i)) then some (g * 8 + i) else none)

/-- A group samples its channels: eight codes, in channel order (R418). -/
def State.groupSample (s : State) (g : Nat) (codes : List Nat) : State :=
  let next := Tab.get (fun _ => 0) s.mch.groups g + 400 * s.f (MCH_ANG_g_DIV g)
  let s := { s with mch := { s.mch with groups := Tab.set (fun _ => 0) s.mch.groups g next } }
  (s.groupChans g).foldl (fun s c => s.anSample c (codes.getD (c % 8) 0)) s

/-- The impact window advances by one bucket of 10 ms (R420, R403). -/
def State.impactBucket (s : State) : State :=
  let s := { s with mch := { s.mch with bucketAt := s.tim.edges } }
  (List.range 24).foldl (fun s c =>
    if s.on (MCH_ANc_CFG_IMPACT c) = false then s
    else
      let x := s.an c
      let l := (x.bucket :: x.buckets).take 100
      let s := (s.setAn c { x with bucket := 0, buckets := l }).setF (MCH_ANc_RATE_HITS_1S c) l.sum
      s.refreshAll 4 c (Int.ofNat l.sum)) s

/-! ### Pulse inputs (R421) -/

/-- A counted edge of input n at time t: what PERIOD times is the rising edges, or with EDGE = falling the falling ones
(log entry 40). -/
def State.pulseCount (s : State) (n t : Nat) (delta : Int) (timed : Bool) : State :=
  let x := s.pulse n
  let s := s.setI (MCH_PIn_COUNT_COUNT n) (Int.ofNat (s.f (MCH_PIn_COUNT_COUNT n)) + delta)
  let s := match timed, x.lastRise with
    | true, some r =>
      let p := t - r
      s.setF (MCH_PIn_PERIOD_PERIOD n) (if p < 2 ^ 32 then p else (Config.beyondField 32 p).toNat)
    | _, _ => s
  let s := s.setPulse n ⟨some t, if timed then some t else x.lastRise⟩
  (s.refreshAll 2 n (s.pulseFreq n t)).refreshAll 3 n (s.sg (MCH_PIn_COUNT_COUNT n))

/-- An edge of a pulse input: it went to `level`, held it for `held` SREF ticks, and is timed to 5 ns by `half` (R421). A
before B counts up (log entry 40). -/
def State.pulseEdge (s : State) (n : Nat) (level : Bool) (held half : Nat) : State :=
  let b := if n % 2 = 1 ∧ s.on (MCH_PIn_CFG_QUAD (n - 1)) = true then n - 1 else n
  if s.mchUp = false ∨ 16 ≤ n ∨ s.on (MCH_PIn_CFG_ENABLE b) = false then s
  else if held < s.f (MCH_PIn_CFG_MIN_WIDTH b) then s.inc (MCH_PIn_STAT_GLITCHES n)
  else
    let t := s.tim.edges * 2 + half % 2
    let s := s.setF (MCH_PIn_STAT_LEVEL n) (b2n level)
    if s.on (MCH_PIn_CFG_QUAD b) then
      let a := s.on (MCH_PIn_STAT_LEVEL b)
      let bb := s.on (MCH_PIn_STAT_LEVEL (b + 1))
      let fwd := if n = b then a != bb else a == bb
      (s.setF (MCH_PIn_STAT_DIR b) (b2n !fwd)).pulseCount b t (if fwd then 1 else -1) (n == b && level)
    else
      let e := s.f (MCH_PIn_CFG_EDGE n)
      if e = 2 ∨ (e = 0 ∧ level = true) ∨ (e = 1 ∧ level = false) then
        s.pulseCount n t 1 (if e = 1 then !level else level)
      else s

/-- No edge has come for ZERO_MS (R422). -/
def State.pulseZero (s : State) (n : Nat) : State :=
  match (s.pulse n).lastEdge with
  | none => s
  | some e =>
    if s.f (MCH_PIn_ZERO_ZERO_MS n) * 200000 ≤ s.tim.edges * 2 - e then s.setF (MCH_PIn_PERIOD_PERIOD n) 0 else s

/-! ### PWM outputs (R423) -/

/-- The duty of a period: DUTY or the bound actuator value, with dither. -/
def State.pwmDuty (s : State) (n periods : Nat) : Nat :=
  let d := match s.binder 1 n with
    | some k => s.f (MCH_MFs_ACT_VALUE k)
    | none => s.f (MCH_PWn_DUTY_DUTY n)
  let amp := s.f (MCH_PWn_DITHER_AMP n)
  if periods / s.f (MCH_PWn_DITHER_HALF n) % 2 = 0 then min 65535 (d + amp) else d - amp

/-- The period of a generator in MCH cycles. -/
def State.pwmPeriod (s : State) (n : Nat) : Nat := 200000000 / s.f (MCH_PWn_CFG_FREQ_HZ n)

/-- A period starts at an MCH cycle. -/
def State.pwmStart (s : State) (n start : Nat) : State :=
  let x := s.pwm n
  (s.setF (MCH_PWn_STAT_DUTY_EFF n) (s.pwmDuty n x.periods)).setPwm n ⟨start, x.periods + 1⟩

/-- Whether an output is active now (R423): a disabled one, and every one while the stop is latched, sits at IDLE. -/
def State.pwmActive (s : State) (n : Nat) : Bool :=
  s.on (MCH_PWn_CFG_ENABLE n) && !s.stopped &&
    decide (s.tim.edges * 2 - (s.pwm n).start < s.pwmPeriod n * s.f (MCH_PWn_STAT_DUTY_EFF n) / 65535)

/-! ### Registers (R425) -/

/-- A write of MCH_ANc_CFG (R420, R425). -/
def State.anCfgWrite (s : State) (req c value : Nat) : Nat × State :=
  let a := 0x0200253000 + c * 0x20
  let was := s.on (MCH_ANc_CFG_ENABLE c)
  if bit value 30 = true ∧ 24 ≤ c then s.regRefuse iMCH a req cRANGE
  else if was = true ∧ (bit value 30 ≠ s.on (MCH_ANc_CFG_IMPACT c) ∨ bit value 29 ≠ s.on (MCH_ANc_CFG_WIN_EN c) ∨
      bits value 27 24 ≠ s.f (MCH_ANc_CFG_AVG_SHIFT c) ∨ bits value 19 16 ≠ s.f (MCH_ANc_CFG_B_SHIFT c) ∨
      bits value 15 0 ≠ s.f (MCH_ANc_CFG_DEAD c)) then
    s.regRefuse iMCH a req cBUSY
  else
    let r := s.regW iMCH req a value
    if r.1 = cOK ∧ was = false ∧ bit value 31 = true then
      (cOK, r.2.setAn c { MchAn.fresh with buckets := (r.2.an c).buckets, bucket := (r.2.an c).bucket })
    else r

/-- A write of MCH_PIn_CFG (R421, R425, R563). -/
def State.pulseCfgWrite (s : State) (req n value : Nat) : Nat × State :=
  let a := 0x0200253400 + n * 0x20
  let was := s.on (MCH_PIn_CFG_ENABLE n)
  if (bit value 28 = true ∧ n % 2 = 1) ∨ (bit value 31 = true ∧ s.machineBank = false) then s.regRefuse iMCH a req cRANGE
  else if was = true ∧ (bits value 30 29 ≠ s.f (MCH_PIn_CFG_EDGE n) ∨ bit value 28 ≠ s.on (MCH_PIn_CFG_QUAD n) ∨
      bit value 27 ≠ s.on (MCH_PIn_CFG_WIN_EN n) ∨ bits value 15 0 ≠ s.f (MCH_PIn_CFG_MIN_WIDTH n)) then
    s.regRefuse iMCH a req cBUSY
  else if (bit value 28 = true ∧ s.on (MCH_PIn_CFG_ENABLE (n + 1)) = true) ∨
      (bit value 31 = true ∧ n % 2 = 1 ∧ s.on (MCH_PIn_CFG_QUAD (n - 1)) = true) then s.regRefuse iMCH a req cBUSY
  else s.regW iMCH req a value

/-- A write of MCH_PWn_CFG (R423, R425, R563). -/
def State.pwmCfgWrite (s : State) (req n value : Nat) : Nat × State :=
  let a := 0x0200253800 + n * 0x10
  let was := s.on (MCH_PWn_CFG_ENABLE n)
  if bit value 31 = true ∧ s.machineBank = false then s.regRefuse iMCH a req cRANGE
  else if was = true ∧ (bit value 30 ≠ s.on (MCH_PWn_CFG_IDLE n) ∨ bit value 29 ≠ s.on (MCH_PWn_CFG_POL n) ∨
      bits value 14 0 ≠ s.f (MCH_PWn_CFG_FREQ_HZ n)) then s.regRefuse iMCH a req cBUSY
  else
    let r := s.regW iMCH req a value
    if r.1 = cOK ∧ was = false ∧ bit value 31 = true then
      (cOK, (r.2.setPwm n MchPw.fresh).pwmStart n (s.tim.edges * 2))
    else r

/-- A write of MCH_ANG_g (R418): ENABLE sets the first sample's edge. -/
def State.angWrite (s : State) (req g value : Nat) : Nat × State :=
  let was := s.on (MCH_ANG_g_ENABLE g)
  let r := s.regW iMCH req (0x0200252F00 + g * 4) value
  if r.1 = cOK ∧ was = false ∧ bit value 31 = true then
    (cOK, { r.2 with mch := { r.2.mch with
      groups := Tab.set (fun _ => 0) r.2.mch.groups g (nextMark s.tim.edges + bits value 24 16) } })
  else r

/-- A write to a slot's registers (R401, R402). -/
def State.slotWrite (s : State) (req k o value : Nat) : Option (Nat × State) :=
  let a := aSlot k o
  if o = 0x58 then some (s.mchChecked req a (s.slotSetpoint k value))
  else if o = 0x5C then some (s.mchChecked req a (s.slotTarget k value))
  else if o = 0x6C then some (s.slotCmd req k value)
  else if o = 0x7C then some (s.mchChecked req a (s.slotMeasured k value))
  else if o < 0x58 ∧ s.slotState k ≠ 0 then some (s.regRefuse iMCH a req cBUSY)
  else none

/-- A write of MCH_IL_SOFT_CLR (R425): the same bits as MCH_IL_SOFT_SET. -/
def State.ilClr (s : State) (value : Nat) : Nat × State :=
  let v := s.f MCH_IL_SOFT_SET_SOFT
  (cOK, s.setF MCH_IL_SOFT_SET_SOFT (v - (v &&& value)))

/-- A write to a register of MCH that is more than its access codes. -/
def State.mchRegWrite (s : State) (req isl base value : Nat) : Option (Nat × State) :=
  if isl ≠ iMCH then none
  else
    let o := base % 0x10000
    if o = 0x28 then some (s.ilClr value)
    else if 0x100 ≤ o ∧ o < 0x180 then
      (if (bits value 10 8 = 2 ∨ bits value 10 8 = 4) ∧ s.machineBank = false then some (s.regRefuse isl base req cRANGE) else none)
    else if 0x1000 ≤ o ∧ o < 0x2800 then s.slotWrite req ((o - 0x1000) / 0x80) (o % 0x80) value
    else if 0x2F00 ≤ o ∧ o < 0x2F10 then some (s.angWrite req ((o - 0x2F00) / 4) value)
    else if 0x3000 ≤ o ∧ o < 0x3400 ∧ o % 0x20 = 0 then some (s.anCfgWrite req ((o - 0x3000) / 0x20) value)
    else if 0x3400 ≤ o ∧ o < 0x3600 ∧ o % 0x20 = 0 then some (s.pulseCfgWrite req ((o - 0x3400) / 0x20) value)
    else if 0x3800 ≤ o ∧ o < 0x3980 then
      let n := (o - 0x3800) / 0x10
      if o % 0x10 = 0 then some (s.pwmCfgWrite req n value)
      else if o % 0x10 = 4 ∧ (s.binder 1 n).isSome = true then some (s.regRefuse isl base req cNOT_OWNER)
      else if o % 0x10 = 8 then
        let r := s.regW isl req base value
        some (r.1, if r.1 = cOK then r.2.setPwm n { r.2.pwm n with periods := 0 } else r.2)
      else none
    else none

/-- The live value of a register of MCH. -/
def State.mchLive (s : State) (isl base : Nat) : Option Nat :=
  if isl ≠ iMCH then none
  else
    let o := base % 0x10000
    if o = 0x28 then some (s.f MCH_IL_SOFT_SET_SOFT)
    else if 0x3400 ≤ o ∧ o < 0x3600 ∧ o % 0x20 = 0x18 then
      some (unsigned 32 (s.pulseFreq ((o - 0x3400) / 0x20) (s.tim.edges * 2)))
    else if 0x3800 ≤ o ∧ o < 0x3980 ∧ o % 0x10 = 0xC then
      let n := (o - 0x3800) / 0x10
      some (b2n (s.pwmActive n) * 2 ^ 31 + s.f (MCH_PWn_STAT_DUTY_EFF n))
    else none

/-- The region of a Snap (R424). -/
def State.mchRegion (s : State) : List Byte :=
  let l : Nat → (Nat → List Byte) → List Byte := fun n g => (List.range n).flatMap g
  l 16 (fun n => leBytes 4 (s.f (MCH_PIn_COUNT_COUNT n))) ++ l 16 (fun n => leBytes 4 (s.f (MCH_PIn_PERIOD_PERIOD n))) ++
    l 24 (fun c => leBytes 4 (s.f (MCH_ANc_HITS_COUNT c))) ++ leBytes 4 (s.f MCH_IL_STATE_ACTIVE) ++
    List.replicate 28 0#8 ++ l 32 (fun c => leBytes 2 (s.f (MCH_ANc_VALUE_FILT c))) ++
    l 48 (fun k => leBytes 4 (s.f (MCH_MFs_VALUES_MEASURED k)) ++ leBytes 4 (s.f (MCH_MFs_VALUES_OUTPUT k)) ++
      leBytes 2 (s.slotState k + s.f (MCH_MFs_STATUS_CLAMPED k) * 8 + s.f (MCH_MFs_STATUS_RATE_LIMITED k) * 16 +
        s.f (MCH_MFs_STATUS_STALE k) * 32 + s.f (MCH_MFs_STATUS_LAW_LATE k) * 64) ++
      leBytes 2 (s.f (MCH_MFs_STAT_TICKS k))) ++ List.replicate 128 0#8

/-- MCH is fenced or reset (R417): nothing is left of its state, and bound time pins stop pulsing. -/
def State.mchClear (s : State) : State :=
  let s := (List.range 32).foldl (fun s p =>
    if (s.pin p).bound.isSome then
      let s := s.setPin p PinSt.fresh
      if s.on (TIM_TPp_STAT_HIGH p) then s.pinFall p else s
    else s) s
  { s with mch := MchSt.fresh }

/-! ### Meanings -/

/-- SLOT_ENABLE. -/
def execSlotEnable (req k : Nat) (s : State) : Res :=
  s.regRow iMCH req (aSlot k 0x6C) 4 1 (fun s => s.slotCmd req k 1)

/-- SLOT_RUN. -/
def execSlotRun (req k : Nat) (s : State) : Res :=
  s.regRow iMCH req (aSlot k 0x6C) 4 2 (fun s => s.slotCmd req k 2)

/-- SLOT_DISABLE. -/
def execSlotDisable (req k : Nat) (s : State) : Res :=
  s.regRow iMCH req (aSlot k 0x6C) 4 3 (fun s => s.slotCmd req k 3)

/-- CLEAR_FAULT. -/
def execClearFault (req k : Nat) (s : State) : Res :=
  s.regRow iMCH req (aSlot k 0x6C) 4 4 (fun s => s.slotCmd req k 4)

/-- A value for a slot, by token or by register (R402). -/
def State.slotIn (s : State) (o : Nat) (i : SlotIn) (take : State → Nat → Nat → Nat × State) : Res :=
  match i with
  | .token t => .next (s.arrive t (fun s => s.mchToken t))
  | .write req k value =>
    s.regRow iMCH req (aSlot k o) 4 value (fun s => s.mchChecked req (aSlot k o) (take s k (value % 2 ^ 32)))

/-- SLOT_TARGET. -/
def execSlotTarget (i : SlotIn) (s : State) : Res := s.slotIn 0x5C i State.slotTarget

/-- SLOT_SETPOINT. -/
def execSlotSetpoint (i : SlotIn) (s : State) : Res := s.slotIn 0x58 i State.slotSetpoint

/-- MEASURED_WRITE. -/
def execMeasuredWrite (i : SlotIn) (s : State) : Res := s.slotIn 0x7C i State.slotMeasured

/-- OUTPUT_STEP: every 1,000th SREF edge; in a self-test slice the step is taken at its end (R417). -/
def execOutputStep (s : State) : Res :=
  .next (if s.mchUp = false ∨ s.tim.edges % 1000 ≠ 0 ∨ s.tim.edges = s.mch.stepAt then s
    else
      let s := { s with mch := { s.mch with stepAt := s.tim.edges } }
      if s.ist iMCH = 4 then { s with mch := { s.mch with lateSteps := s.mch.lateSteps + 1 } } else s.outputStep)

/-- LAW_TICK. -/
def execLawTick (k : Nat) (s : State) : Res := .next (s.lawTick k)

/-- STALE (R404): the age has expired without a refresh. -/
def execStale (k : Nat) (s : State) : Res :=
  .next (if s.slotState k ≠ 0 ∧ s.on (MCH_MFs_CFG_STALE_EN k) = true ∧ s.on (MCH_MFs_STATUS_STALE k) = false ∧
      (s.slot k).seenAt + s.f (MCH_MFs_MEAS_SRC_AGE_MS k) * 100000 ≤ s.tim.edges
    then (s.setF (MCH_MFs_STATUS_STALE k) 1).slotFault k else s)

/-- IL_SOFT_SET. -/
def execIlSoftSet (req value : Nat) (s : State) : Res :=
  s.regRow iMCH req 0x0200250024 4 value (fun s => s.regW iMCH req 0x0200250024 (value % 2 ^ 32))

/-- IL_SOFT_CLR. -/
def execIlSoftClr (req value : Nat) (s : State) : Res :=
  s.regRow iMCH req 0x0200250028 4 value (fun s => s.ilClr (value % 2 ^ 32))

/-- IMPACT_RATE_BUCKET: every 10 ms. -/
def execImpactRateBucket (s : State) : Res :=
  .next (if s.mchUp = true ∧ s.tim.edges % 1000000 = 0 ∧ s.tim.edges ≠ s.mch.bucketAt then s.impactBucket else s)

/-- PULSE_EDGE. -/
def execPulseEdge (n : Nat) (level : Bool) (held half : Nat) (s : State) : Res := .next (s.pulseEdge n level held half)

/-- PULSE_ZERO. -/
def execPulseZero (n : Nat) (s : State) : Res := .next (s.pulseZero n)

/-- PWM_PERIOD_START: the period under way has ended. -/
def execPwmPeriodStart (n : Nat) (s : State) : Res :=
  let next := (s.pwm n).start + s.pwmPeriod n
  .next (if s.mchUp = true ∧ s.on (MCH_PWn_CFG_ENABLE n) = true ∧ next ≤ s.tim.edges * 2 then s.pwmStart n next else s)

/-- CAN_FRAME_RECEIVED (R451, R453, R403). -/
def execCanFrameReceived (n : Nat) (frame : CanFrame) (ago : Nat) (s : State) : Res :=
  let r := s.canReceive n frame ago
  .next (match r.1 with | some o => r.2.canRefresh o | none => r.2)

end Sys2Proof.Machine
end

