-- ==== Sys2Proof/Machine/Tal.lean ====
section
/-! DEFINITION. Tally: accumulators, saves, pulse outputs (R426 to R445). -/

namespace Sys2Proof.Machine

def TalAcc.fresh : TalAcc := ⟨0, 0, 0, none, none, [], [], none, 0, 0, 0, false⟩
def TalPo.fresh : TalPo := ⟨0, 0, none, 0, false⟩

def State.acc (s : State) (i : Nat) : TalAcc := Tab.get (fun _ => TalAcc.fresh) s.tal.accs i
def State.setAcc (s : State) (i : Nat) (x : TalAcc) : State :=
  { s with tal := { s.tal with accs := Tab.set (fun _ => TalAcc.fresh) s.tal.accs i x } }
def State.po (s : State) (n : Nat) : TalPo := Tab.get (fun _ => TalPo.fresh) s.tal.pos n
def State.setPo (s : State) (n : Nat) (x : TalPo) : State :=
  { s with tal := { s.tal with pos := Tab.set (fun _ => TalPo.fresh) s.tal.pos n x } }

/-- Whether TAL works: neither OFF nor FENCED. -/
def State.talUp (s : State) : Bool := s.ist iTAL != 0 && s.ist iTAL != 5

def State.talOn (s : State) (i : Nat) : Bool := s.talUp && s.on (TAL_TQi_CFG_ENABLE i)

/-- A notice of TAL (R433). -/
def State.talNotice (s : State) (kind i : Nat) : State :=
  if s.on TAL_NOTICE_EN && bit (s.f TAL_NOTICE_EN_EN) (kind - 1) then
    s.notice (ep iTAL 0) (s.f TAL_NOTICE_EP) (s.f TAL_NOTICE_TAG)
      (s.f (TAL_TQi_LATCH_SEQ i) * 2 ^ 32 + i * 2 ^ 8 + kind) false
  else s

/-! ### Totals (R426 to R431) -/

/-- Whether the direction source of an accumulator shows reverse (R431). -/
def State.talReverse (s : State) (i : Nat) : Bool :=
  let x := s.f (TAL_TQi_CFG_DIR_INDEX i)
  match s.f (TAL_TQi_CFG_DIR_KIND i) with
  | 1 => decide (x < 16) && s.on (MCH_PIn_CFG_ENABLE x) && s.on (MCH_PIn_STAT_LEVEL x)
  | 2 => bit (s.f MCH_IL_STATE_ACTIVE) x
  | _ => false

/-- q and the residue of a raw value (R428). -/
def State.talQ (s : State) (i : Nat) (r : Int) : Int × Nat :=
  let p := (r - s.sg (TAL_TQi_SCALE_ZERO i)) * s.sg (TAL_TQi_SCALE_GAIN i) * Int.ofNat (s.f (TAL_TQi_CORR_G i)) +
    Int.ofNat (s.acc i).rho
  (p / 16384, (p % 16384).toNat)

/-- FWD and REV after a quantity (R426, R431): both wrap. -/
def talAdd (fwd rev : Nat) (q : Int) : Nat × Nat :=
  if 0 ≤ q then ((fwd + q.toNat) % 2 ^ 64, rev) else (fwd, (rev + (-q).toNat) % 2 ^ 64)

/-- Put totals into the registers (R426). -/
def State.setTotals (s : State) (i fwd rev : Nat) : State :=
  ((s.setF (TAL_TQi_FWD_FWD i) fwd).setF (TAL_TQi_REV_REV i) rev).setI (TAL_TQi_NET_NET i) (Int.ofNat fwd - Int.ofNat rev)

/-! ### Saves (R438 to R440) -/

/-- The STAMPS entry of a flow slot: all ones where nothing was counted (log entry 35). -/
def TalPair.bytes (p : TalPair) : List Byte := leBytes 6 (p.seq + p.index * 2 ^ 32 + p.flow * 2 ^ 36)
def TalPair.none : TalPair := ⟨0xFFF, 0xFFFFFFFF, 15⟩

/-- Cycles that can fall in 100 µs, at least 1 (R440). -/
def State.talCycles (s : State) (i : Nat) : Nat :=
  if s.f (TAL_TQi_CFG_SRC_KIND i) = 1 then
    let per := 400 * s.f (MCH_ANG_g_DIV (s.f (TAL_TQi_CFG_SRC_INDEX i) / 8))
    max 1 ((10000 + per - 1) / per)
  else 1

/-- The quantity a PARTIAL save adds for a pulse source: its count change up to this edge (R439). -/
def State.talPending (s : State) (i kind : Nat) : Int :=
  if kind = 3 ∧ s.f (TAL_TQi_CFG_SRC_KIND i) = 2 then
    let c := s.f (MCH_PIn_COUNT_COUNT (s.f (TAL_TQi_CFG_SRC_INDEX i)))
    let q := (s.talQ i (signed 32 (unsigned 32 (Int.ofNat c - Int.ofNat (s.acc i).lastCount)))).1
    if s.talReverse i then -q else q
  else 0

/-- A save of a kind starts (R438): its record is fixed, and it holds every stamp counted and not in an earlier one. -/
def State.talSave (s : State) (i kind : Nat) : State :=
  let s := s.incW (TAL_TQi_SAVE_SAVE_SEQ i)
  let seq := s.f (TAL_TQi_SAVE_SAVE_SEQ i)
  let x := s.acc i
  let t := talAdd (s.f (TAL_TQi_FWD_FWD i)) (s.f (TAL_TQi_REV_REV i)) (s.talPending i kind)
  let b := leBytes 4 seq ++ leBytes 4 (s.f (TAL_TQi_LATCH_SEQ i)) ++ leBytes 8 t.1 ++ leBytes 8 t.2 ++ leBytes 8 s.now ++
    (List.range 4).flatMap (fun k => (Tab.get (fun _ => TalPair.none) x.pairs k).bytes) ++ leBytes 1 i ++
    leBytes 1 (kind + s.f (TAL_TQi_CFG_ENABLE i) * 8) ++ leBytes 2 0
  let v : TalSave := ⟨i, b ++ leBytes 4 (crc32c b), seq % 2, x.stamps⟩
  let s := s.setAcc i { x with stamps := [], owed := none }
  { s with tal := { s.tal with
      saves := s.tal.saves ++ [v]
      bounds := Tab.set (fun _ => (0, 0, 0)) s.tal.bounds i (s.f (TAL_TQi_QMAX_QMAX i), s.talCycles i, s.f (TAL_TQi_N_N i)) } }

/-- The save under way ends: its record is valid in the copies that work (R437, R438). -/
def State.talSaveDone (s : State) : State :=
  match s.tal.saves with
  | [] => s
  | v :: vs =>
    let s := { s with tal := { s.tal with saves := vs } }
    let o := v.acc * 0x80 + v.slot * 0x40
    let lost := s.memc.failA && s.memc.failB
    let s := (s.copyAB (0x0400600000 + o) (0x0400A40000 + o) v.bytes)
    let s := if s.memc.failA || s.memc.failB then
        ((s.setF TAL_STATUS_SAVE_FAIL 1).talNotice 2 v.acc).stage 0x2601 [v.acc]
      else s.inc TAL_STATUS_SAVES
    if lost then
      let x := s.acc v.acc
      s.setAcc v.acc { x with stamps := v.stamps ++ x.stamps, owed := if v.stamps.isEmpty then x.owed else some s.tim.edges }
    else v.stamps.foldl (fun s st => s.outputConfirmed st.flow st.seq st.index cOK) s

/-! ### Latching (R432, R433) -/

/-- A latch of an accumulator whose N-th cycle fell at `time`. -/
def State.talLatch (s : State) (i time : Nat) : State :=
  let s := (s.setF (TAL_TQi_LFWD_LFWD i) (s.f (TAL_TQi_FWD_FWD i))).setF (TAL_TQi_LREV_LREV i) (s.f (TAL_TQi_REV_REV i))
  let s := (s.setF (TAL_TQi_LATCH_TIME_TICKS i) time).incW (TAL_TQi_LATCH_SEQ i)
  let s := s.setAcc i { s.acc i with latch := none, latchedAt := some s.tim.edges }
  let s := if s.on (TAL_TQi_CFG_NOTICE_EN i) then s.talNotice 1 i else s
  s.talSave i 1

/-- Take the latch of an accumulator if its edge has come. -/
def State.talLatchDue (s : State) (i : Nat) : State :=
  match (s.acc i).latch with
  | some (due, time) => if due ≤ s.tim.edges then s.talLatch i time else s
  | none => s

/-- A source cycle at this edge with a raw value (R428, R431, R432). A latch that was due before this edge is taken
first; a second one that falls due while one waits is taken with it (log entry 42). -/
def State.talCycle (s : State) (i : Nat) (r : Int) : State :=
  let s := match (s.acc i).latch with
    | some (due, time) => if due < s.tim.edges then s.talLatch i time else s
    | none => s
  let x := s.acc i
  let q := s.talQ i r
  let rev := s.talReverse i
  let t := talAdd (s.f (TAL_TQi_FWD_FWD i)) (s.f (TAL_TQi_REV_REV i)) (if rev then -q.1 else q.1)
  let s := (s.setTotals i t.1 t.2).setF (TAL_TQi_TEMP_REVERSE i) (b2n rev)
  let n := x.cycles + 1
  let full := decide (s.f (TAL_TQi_N_N i) ≤ n)
  let due := if s.f (TAL_TQi_CFG_SRC_KIND i) = 3 then
      (match x.latchedAt with | some e => max s.tim.edges (e + 100000) | none => s.tim.edges) else s.tim.edges
  let latch := if full && x.latch.isNone then some (due, s.now) else x.latch
  s.setAcc i { x with rho := q.2, cycles := if full then 0 else n, latch := latch }

/-- An analog channel has sampled: accumulators that count it take a cycle (R427). -/
def State.talAnalog (s : State) (c v : Nat) : State :=
  (List.range 16).foldl (fun s i =>
    if s.talOn i = true ∧ s.f (TAL_TQi_CFG_SRC_KIND i) = 1 ∧ s.f (TAL_TQi_CFG_SRC_INDEX i) = c then
      s.talCycle i (Int.ofNat (v % 65536)) else s) s

/-! ### Temperature (R429, R430) and lag (R434) -/

/-- A point of the correction table. -/
def State.talPoint (s : State) (i k : Nat) : Int × Int :=
  (Int.ofNat (s.f (TAL_TQi_TPk_G i k)), signed 16 (s.f (TAL_TQi_TPk_PHASE_MS i k)))

/-- G and P at a temperature (R430). -/
def State.talCorr (s : State) (i : Nat) (temp : Int) : Nat × Int :=
  let t := clampI (-4000) 12000 temp
  let k := min 31 ((t + 4000) / 500).toNat
  let f := t + 4000 - 500 * Int.ofNat k
  let a := s.talPoint i k
  let b := s.talPoint i (k + 1)
  ((a.1 + (b.1 - a.1) * f / 500).toNat, a.2 + (b.2 - a.2) * f / 500)

/-- The temperature, G and P are updated (R429). -/
def State.talTemp (s : State) (i : Nat) : State :=
  let put := fun (t : Int) =>
    let r := s.talCorr i t
    let s := (s.setI (TAL_TQi_TEMP_TEMP i) t).setF (TAL_TQi_CORR_G i) r.1
    s.setAcc i { s.acc i with phase := r.2 }
  match s.f (TAL_TQi_CFG_TEMP_KIND i) with
  | 1 =>
    let v := s.sg (TAL_TQi_TSCALE_T_OFFSET i) +
      Int.ofNat (s.f (MCH_ANc_VALUE_FILT (s.f (TAL_TQi_CFG_TEMP_INDEX i)))) * s.sg (TAL_TQi_TSCALE_T_GAIN i) / 65536
    put (clampI (-32768) 32767 v)
  | 2 => if s.on (TAL_TQi_CORR_TEMP_STALE i) then s else put (signed 16 (s.acc i).temp)
  | _ => (s.setF (TAL_TQi_CORR_G i) 16384).setAcc i { s.acc i with phase := 0 }

/-- The target of D in ms (R434). -/
def State.lagTarget (s : State) (i : Nat) : Nat :=
  (clampI 0 30000 (Int.ofNat (s.f (TAL_TQi_LAG_LAG_MS i)) + (s.acc i).phase)).toNat

/-- D moves 1 ms towards its target (R434). -/
def State.lagStep (s : State) (i : Nat) : State :=
  let d := s.f (TAL_TQi_CORR_D_MS i)
  let t := s.lagTarget i
  s.setF (TAL_TQi_CORR_D_MS i) (if d < t then d + 1 else if t < d then d - 1 else d)

/-- What TAL does at a millisecond mark (R427, R429): the cycles of pulse and elapsed sources, with the old G, then the
temperature. -/
def State.talMark (s : State) : State :=
  (List.range 16).foldl (fun s i =>
    if s.talOn i = false then s
    else
      let x := s.f (TAL_TQi_CFG_SRC_INDEX i)
      let s := match s.f (TAL_TQi_CFG_SRC_KIND i) with
        | 2 =>
          let c := s.f (MCH_PIn_COUNT_COUNT x)
          let d := signed 32 (unsigned 32 (Int.ofNat c - Int.ofNat (s.acc i).lastCount))
          (s.setAcc i { s.acc i with lastCount := c }).talCycle i d
        | 4 => s.talCycle i (if x = 32 ∨ bit (s.f MCH_IL_STATE_ACTIVE) x = true then 1 else 0)
        | _ => s
      s.talTemp i) s

/-! ### Enabling, clearing (R428, R441, R445) -/

/-- QMAX of an accumulator (R427, R428). -/
def State.talQmax (s : State) (i : Nat) : Nat :=
  let zero := s.sg (TAL_TQi_SCALE_ZERO i)
  let rmax : Nat := match s.f (TAL_TQi_CFG_SRC_KIND i) with
    | 1 => (max (65535 - zero) zero).toNat
    | 2 => if s.on (MCH_PIn_CFG_QUAD (s.f (TAL_TQi_CFG_SRC_INDEX i))) then 4000 else 2000
    | 3 => s.f (TAL_TQi_INC_LIMIT_LIMIT i)
    | 4 => 1
    | _ => 0
  let g := if s.f (TAL_TQi_CFG_TEMP_KIND i) = 0 then 16384
    else maxList ((List.range 33).map (fun k => s.f (TAL_TQi_TPk_G i k)))
  rmax * (s.sg (TAL_TQi_SCALE_GAIN i)).natAbs * g / 16384

/-- Whether ENABLE refuses an accumulator's settings (R445, R563). -/
def State.talBad (s : State) (i : Nat) : Bool :=
  let k := s.f (TAL_TQi_CFG_SRC_KIND i)
  let x := s.f (TAL_TQi_CFG_SRC_INDEX i)
  decide (5 ≤ k) || (k == 1 && decide (32 ≤ x)) || (k == 2 && decide (16 ≤ x)) || (k == 4 && decide (33 ≤ x)) ||
    s.f (TAL_TQi_CFG_DIR_KIND i) == 3 ||
    (s.f (TAL_TQi_CFG_DIR_KIND i) == 1 && decide (16 ≤ s.f (TAL_TQi_CFG_DIR_INDEX i))) ||
    s.f (TAL_TQi_CFG_TEMP_KIND i) == 3 || (k == 3 && s.f (TAL_TQi_INC_LIMIT_LIMIT i) == 0) ||
    (!s.machineBank && (k == 2 || s.f (TAL_TQi_CFG_DIR_KIND i) == 1)) ||
    (k == 1 && decide (s.f (TAL_TQi_N_N i) * 400 * s.f (MCH_ANG_g_DIV (x / 8)) < 100000))

def aTal (i o : Nat) : Nat := 0x0200260100 + i * 0x80 + o

/-- ENABLE starts counting (R428, R432, R434). -/
def State.talEnable (s : State) (i : Nat) : State :=
  let s := s.setF (TAL_TQi_QMAX_QMAX i) (s.talQmax i)
  let x := s.f (TAL_TQi_CFG_SRC_INDEX i)
  let s := s.setAcc i { s.acc i with
    cycles := 0, latch := none, latchedAt := none
    lastCount := if s.f (TAL_TQi_CFG_SRC_KIND i) = 2 then s.f (MCH_PIn_COUNT_COUNT x) else 0 }
  let s := s.talTemp i
  s.setF (TAL_TQi_CORR_D_MS i) (s.lagTarget i)

/-- A write of TAL_TQi_CFG (R441, R445). -/
def State.talCfgWrite (s : State) (req i value : Nat) : Nat × State :=
  let a := aTal i 0
  let was := s.on (TAL_TQi_CFG_ENABLE i)
  if was = true ∧ (bits value 29 27 ≠ s.f (TAL_TQi_CFG_SRC_KIND i) ∨ bits value 26 21 ≠ s.f (TAL_TQi_CFG_SRC_INDEX i) ∨
      bits value 20 19 ≠ s.f (TAL_TQi_CFG_DIR_KIND i) ∨ bits value 18 14 ≠ s.f (TAL_TQi_CFG_DIR_INDEX i) ∨
      bits value 13 12 ≠ s.f (TAL_TQi_CFG_TEMP_KIND i) ∨ bits value 11 7 ≠ s.f (TAL_TQi_CFG_TEMP_INDEX i)) then
    s.regRefuse iTAL a req cBUSY
  else
    let r := s.regW iTAL req a value
    if r.1 = cRANGE then r
    else if was = false ∧ bit value 31 = true then
      if r.2.talBad i then s.regRefuse iTAL a req cRANGE else (r.1, r.2.talEnable i)
    else if was = true ∧ bit value 31 = false then
      (r.1, ((r.2.talLatchDue i).setAcc i { (r.2.talLatchDue i).acc i with latch := none }).talSave i 4)
    else r

/-- A write of TAL_TQi_CMD (R441): CLEAR takes the latches due and one of the old totals, and clears at the next edge. -/
def State.talCmdWrite (s : State) (req i value : Nat) : Nat × State :=
  if (s.acc i).clear then s.regRefuse iTAL (aTal i 0x64) req cBUSY
  else
    let r := s.regW iTAL req (aTal i 0x64) value
    if r.1 ≠ cOK then r
    else if s.on (ISL_LOCK_LOCKED iTAL) then (cOK, r.2.setF (TAL_TQi_CMD_STATUS i) cNOT_OWNER)
    else
      let s := (r.2.talLatchDue i).talLatch i s.now
      (cOK, ((s.setAcc i { s.acc i with clear := true }).setF (TAL_TQi_CMD_BUSY i) 1).setF (TAL_TQi_CMD_STATUS i) cOK)

/-- The totals are cleared (R441, R442): pulse outputs that follow them make no pulse of it. -/
def State.talZero (s : State) (i : Nat) : State :=
  let net := signed 64 (s.f (TAL_TQi_NET_NET i))
  let s := (List.range 8).foldl (fun s n =>
    if s.on (TAL_POn_CFG_ENABLE n) = true ∧ s.f (TAL_POn_CFG_ACC n) = i then
      s.setPo n { s.po n with net0 := (s.po n).net0 - net } else s) s
  let s := (s.setTotals i 0 0).setAcc i { s.acc i with rho := 0, clear := false }
  (s.setF (TAL_TQi_CMD_BUSY i) 0).talSave i 5

/-- Before an SREF edge: latches due at the edge that ends. -/
def State.talBeforeTick (s : State) : State :=
  (s.tal.accs.map Prod.fst).foldl (fun s i => if s.talUp then s.talLatchDue i else s) s

/-- At an SREF edge: totals whose CLEAR waits for it. -/
def State.talTick (s : State) : State :=
  (s.tal.accs.map Prod.fst).foldl (fun s i => if (s.acc i).clear && s.talUp then s.talZero i else s) s

/-! ### Increments (R436, R437) -/

/-- Whether a stamp is newer than the pair last counted (R437). -/
def newerPair (p : TalPair) (st : Stamp) : Bool :=
  let d := (st.seq + 2 ^ 32 - p.seq) % 2 ^ 32
  if d = 0 then decide (p.index < st.index) else decide (d < 2 ^ 31)

/-- The flow slot that names a flow (R436). -/
def State.talSlot (s : State) (i flow : Nat) : Option Nat :=
  firstIdx 4 (fun k => bit (s.f (TAL_TQi_FLOWS_VALID i)) k &&
    (match k with
      | 0 => s.f (TAL_TQi_FLOWS_FLOW0 i)
      | 1 => s.f (TAL_TQi_FLOWS_FLOW1 i)
      | 2 => s.f (TAL_TQi_FLOWS_FLOW2 i)
      | _ => s.f (TAL_TQi_FLOWS_FLOW3 i)) == flow)

/-- An increment of an accumulator, with its stamp if it has one (R436, R437). -/
def State.talIncrement (s : State) (i raw : Nat) (stamp : Option Stamp) : Nat × State :=
  let r := signed 32 raw
  if s.f (TAL_TQi_CFG_SRC_KIND i) ≠ 3 ∨ s.f (TAL_TQi_INC_LIMIT_LIMIT i) < r.natAbs then (cRANGE, s)
  else if s.on (TAL_TQi_CFG_ENABLE i) = false then (cNOT_FOUND, s)
  else match stamp with
    | none => if s.tal.pwrfail then (cBUSY, s) else (cOK, s.talCycle i r)
    | some st =>
      match s.talSlot i st.flow with
      | none => (cNOT_OWNER, s)
      | some k =>
        let p := Tab.get (fun _ => TalPair.none) (s.acc i).pairs k
        if s.tal.pwrfail then (cBUSY, s)
        else if p.flow = st.flow ∧ p ≠ TalPair.none ∧ newerPair p st = false then (cDUPLICATE, s)
        else
          let s := s.talCycle i r
          let x := s.acc i
          (cOK, s.setAcc i { x with
            pairs := Tab.set (fun _ => TalPair.none) x.pairs k ⟨st.flow, st.seq, st.index⟩
            stamps := x.stamps ++ [st]
            owed := some (x.owed.getD s.tim.edges) })

/-- A token at TAL (R436). -/
def State.talToken (s : State) (t : Token) : Nat × State :=
  if epPort t.dest ≠ 0 then (cNO_ROUTE, s)
  else if bits t.tag 22 4 ≠ 0 ∨ bits t.tag 31 26 ≠ 0 ∨ 2 ^ 32 ≤ t.data then (cRANGE, s)
  else s.talIncrement (bits t.tag 3 0) t.data t.stamp

/-! ### PWRFAIL (R439) -/

/-- PARTIAL saves of every enabled accumulator; one that has a latch due takes that as its save. -/
def State.talPartial (s : State) : State :=
  let s := { s with tal := { s.tal with partialAt := s.tim.edges + 10000 } }
  (List.range 16).foldl (fun s i =>
    if s.talOn i = false then s
    else match (s.acc i).latch with
      | some (due, time) => if due ≤ s.tim.edges then s.talLatch i time else s.talSave i 3
      | none => s.talSave i 3) s

/-- PWRFAIL reaches TAL. -/
def State.talPwrfail (s : State) : State :=
  if s.talUp = false then s
  else
    let s := { s with tal := { s.tal with pwrfail := true } }
    (s.setF TAL_STATUS_PWRFAIL_SEEN 1).talPartial

/-- PWRFAIL is deasserted. -/
def State.talPwrOk (s : State) : State := { s with tal := { s.tal with pwrfail := false } }

/-! ### Restoring (R440) -/

/-- The bytes of a slot's record, if it is valid. -/
def State.talRecord (s : State) (a : Nat) : Option (List Byte) :=
  let b := s.rdBytes a 64
  if fld b 60 4 = crc32c (b.take 60) then some b else none

/-- The valid record with the newest SAVE_SEQ among both copies. -/
def State.talNewest (s : State) (i : Nat) : Option (List Byte) :=
  let o := i * 0x80
  let cs := (if s.memc.failA then [] else [0x0400600000 + o, 0x0400600040 + o]) ++
    (if s.memc.failB then [] else [0x0400A40000 + o, 0x0400A40040 + o])
  (cs.filterMap (fun a => s.talRecord a)).foldl (fun b r => match b with
    | none => some r
    | some x =>
      let d := (fld r 0 4 + 2 ^ 32 - fld x 0 4) % 2 ^ 32
      if d ≠ 0 ∧ d < 2 ^ 31 then some r else some x) none

/-- One accumulator is restored: the loss bound comes from the settings in force at its last save (log entry 41); after a
CLEAR save the spec states none. -/
def State.talRestore1 (s : State) (i : Nat) : State :=
  match s.talNewest i with
  | none => (s.setF TAL_STATUS_RESTORE_FAIL 1).stage 0x2603 [i]
  | some b =>
    let s := s.setTotals i (fld b 8 8) (fld b 16 8)
    let s := (s.setF (TAL_TQi_LATCH_SEQ i) (fld b 4 4)).setF (TAL_TQi_SAVE_SAVE_SEQ i) (fld b 0 4)
    let pairs := (List.range 4).foldl (fun t k =>
      let v := fld b (32 + 6 * k) 6
      Tab.set (fun _ => TalPair.none) t k ⟨v / 2 ^ 36, v % 2 ^ 32, v / 2 ^ 32 % 16⟩) ([] : Tab TalPair)
    let s := s.setAcc i { TalAcc.fresh with pairs := pairs }
    let flags := fld b 57 1
    let kind := flags % 8
    if bit flags 3 = false then s
    else
      let m := Tab.get (fun _ => (0, 0, 0)) s.tal.bounds i
      let fr := s.free 64
      let r := if kind = 3 then (m.1 * m.2.1, s) else if kind = 1 ∨ kind = 2 then (m.1 * m.2.2, s) else (fr.1, fr.2)
      r.2.stage 0x2602 [i + kind * 2 ^ 8, fld b 0 4, r.1 % 2 ^ 64, fld b 24 8]

/-- TAL restores its totals, at reset and on release (R440). -/
def State.talRestore (s : State) : State :=
  (List.range 16).foldl (fun s i => s.talRestore1 i) (s.setF TAL_STATUS_RESTORED 1)

/-- TAL is fenced or reset: saves under way and what was not saved are lost. -/
def State.talClear (s : State) : State :=
  { s with tal := { s.tal with accs := [], saves := [], pos := [] } }

/-! ### Pulse outputs (R442, R443) -/

/-- The target of a pulse output (R442). -/
def State.poTarget (s : State) (n : Nat) : Int :=
  (signed 64 (s.f (TAL_TQi_NET_NET (s.f (TAL_POn_CFG_ACC n)))) - (s.po n).net0) / Int.ofNat (s.f (TAL_POn_WEIGHT_WEIGHT n))

/-- A pulse output that is idle, has pulses to give and whose gap has ended turns PDIR round, or starts a pulse. -/
def State.poStart (s : State) (n : Nat) : State :=
  let x := s.po n
  if s.talUp = false ∨ s.on (TAL_POn_CFG_ENABLE n) = false ∨ x.upto.isSome = true ∨ s.tim.edges < x.gap then s
  else
    let d := s.poTarget n - x.emitted
    if d = 0 then s
    else if decide (d < 0) ≠ x.rev then
      s.setPo n { x with rev := decide (d < 0), gap := s.tim.edges + s.f (TAL_POn_TIMING_GAP n) }
    else
      let m := x.emitted + (if d < 0 then -1 else 1)
      (s.setPo n { x with emitted := m, upto := some (s.tim.edges + s.f (TAL_POn_TIMING_WIDTH n)) }).setI
        (TAL_POn_EMITTED_COUNT n) m

/-- A pulse ends and its gap begins. -/
def State.poEnd (s : State) (n : Nat) : State :=
  let x := s.po n
  match x.upto with
  | some e => if e ≤ s.tim.edges then s.setPo n { x with upto := none, gap := e + s.f (TAL_POn_TIMING_GAP n) } else s
  | none => s

/-- TAL_POn_STAT (R443, R445). -/
def State.poStat (s : State) (n : Nat) : Nat :=
  let x := s.po n
  let d := if s.on (TAL_POn_CFG_ENABLE n) then s.poTarget n - x.emitted else 0
  b2n x.upto.isSome * 2 ^ 31 + b2n x.rev * 2 ^ 30 + b2n (decide (d < 0)) * 2 ^ 24 + min (2 ^ 24 - 1) d.natAbs

def aPo (n o : Nat) : Nat := 0x0200260900 + n * 0x20 + o

/-- A write of TAL_POn_CFG (R442, R445, R563). -/
def State.poCfgWrite (s : State) (req n value : Nat) : Nat × State :=
  let was := s.on (TAL_POn_CFG_ENABLE n)
  if bit value 31 = true ∧ s.machineBank = false then s.regRefuse iTAL (aPo n 0) req cRANGE
  else if was = true ∧ (bit value 30 ≠ s.on (TAL_POn_CFG_POL n) ∨ bit value 29 ≠ s.on (TAL_POn_CFG_DIR_POL n) ∨
      bits value 3 0 ≠ s.f (TAL_POn_CFG_ACC n)) then s.regRefuse iTAL (aPo n 0) req cBUSY
  else
    let r := s.regW iTAL req (aPo n 0) value
    if r.1 = cOK ∧ was = false ∧ bit value 31 = true then
      let net := signed 64 (r.2.f (TAL_TQi_NET_NET (bits value 3 0)))
      (cOK, (r.2.setPo n { r.2.po n with net0 := net, emitted := 0 }).setF (TAL_POn_EMITTED_COUNT n) 0)
    else r

/-! ### Registers (R445) -/

/-- A write of TAL_TQi_INC (R436): refused as a token would be. -/
def State.talIncWrite (s : State) (req i value : Nat) : Nat × State :=
  let r := s.talIncrement i value none
  if r.1 = cOK then r else s.regRefuse iTAL (aTal i 0x68) req r.1

/-- A write of TAL_TQi_TEMP_WRITE (R429). -/
def State.talTempWrite (s : State) (i value : Nat) : Nat × State :=
  (cOK, (s.setAcc i { s.acc i with temp := value % 65536, tempAt := s.tim.edges }).setF (TAL_TQi_CORR_TEMP_STALE i) 0)

/-- A write to a register of TAL that is more than its access codes. -/
def State.talRegWrite (s : State) (req isl base value : Nat) : Option (Nat × State) :=
  if isl ≠ iTAL then none
  else
    let o := base % 0x10000
    if 0x100 ≤ o ∧ o < 0x900 then
      let i := (o - 0x100) / 0x80
      let k := o % 0x80
      if k = 0 then some (s.talCfgWrite req i value)
      else if k = 0x64 then some (s.talCmdWrite req i value)
      else if k = 0x68 then some (s.talIncWrite req i value)
      else if k = 0x6C then some (s.talTempWrite i value)
      else if k < 0x28 ∧ s.on (TAL_TQi_CFG_ENABLE i) = true then some (s.regRefuse isl base req cBUSY)
      else none
    else if 0x900 ≤ o ∧ o < 0xA00 then
      let n := (o - 0x900) / 0x20
      if o % 0x20 = 0 then some (s.poCfgWrite req n value)
      else if o % 0x20 < 0x10 ∧ s.on (TAL_POn_CFG_ENABLE n) = true then some (s.regRefuse isl base req cBUSY)
      else none
    else if 0x1000 ≤ o ∧ o < 0x2000 ∧ s.on (TAL_TQi_CFG_ENABLE ((o - 0x1000) / 0x100)) = true then
      some (s.regRefuse isl base req cBUSY)
    else none

/-- The live value of a register of TAL. -/
def State.talLive (s : State) (isl base : Nat) : Option Nat :=
  let o := base % 0x10000
  if isl = iTAL ∧ 0x900 ≤ o ∧ o < 0xA00 ∧ o % 0x20 = 0x14 then some (s.poStat ((o - 0x900) / 0x20)) else none

/-- The region of an accumulator in a Snap (R444). -/
def State.talRegion (s : State) (i : Nat) : List Byte :=
  leBytes 8 (s.f (TAL_TQi_FWD_FWD i)) ++ leBytes 8 (s.f (TAL_TQi_REV_REV i)) ++ leBytes 8 (s.f (TAL_TQi_NET_NET i)) ++
    leBytes 4 (s.f (TAL_TQi_LATCH_SEQ i)) ++ leBytes 2 (s.f (TAL_TQi_CORR_D_MS i)) ++
    leBytes 2 (s.f (TAL_TQi_CFG_ENABLE i) + s.f (TAL_TQi_TEMP_REVERSE i) * 2 + s.f (TAL_TQi_CORR_TEMP_STALE i) * 4 +
      s.f TAL_STATUS_SAVE_FAIL * 8) ++ leBytes 2 (s.f (TAL_TQi_TEMP_TEMP i)) ++ leBytes 2 (s.f (TAL_TQi_CORR_G i)) ++
    leBytes 4 0 ++ leBytes 8 (s.f (TAL_TQi_LATCH_TIME_TICKS i)) ++ List.replicate 16 0#8

/-! ### Meanings -/

/-- ANALOG_SAMPLE: a group's eight codes at its sample edge (R418, R427). -/
def execAnalogSample (g : Nat) (codes : List Nat) (s : State) : Res :=
  .next (if s.groupDue g = false then s
    else
      let cs := s.groupChans g
      cs.foldl (fun s c => s.talAnalog c (codes.getD (c % 8) 0)) (s.groupSample g codes))

/-- TALLY_ENABLE: a write of TAL_TQi_CFG. -/
def execTallyEnable (req i value : Nat) (s : State) : Res :=
  s.regRow iTAL req (aTal i 0) 4 value (fun s => s.talCfgWrite req i value)

/-- TALLY_DISABLE: a write of TAL_TQi_CFG that clears ENABLE. -/
def execTallyDisable (req i value : Nat) (s : State) : Res :=
  s.regRow iTAL req (aTal i 0) 4 value (fun s => s.talCfgWrite req i value)

/-- TALLY_INCREMENT. -/
def execTallyIncrement (t : Token) (s : State) : Res := .next (s.arrive t (fun s => s.talToken t))

/-- TALLY_INC_WRITE. -/
def execTallyIncWrite (req i value : Nat) (s : State) : Res :=
  s.regRow iTAL req (aTal i 0x68) 4 value (fun s => s.talIncWrite req i (value % 2 ^ 32))

/-- TALLY_LATCH: the latch of an accumulator, if its edge has come. -/
def execTallyLatch (i : Nat) (s : State) : Res := .next (if s.talUp then s.talLatchDue i else s)

/-- TALLY_CHECKPOINT: at the first mark after a stamped increment that no save holds (R437). -/
def execTallyCheckpoint (i : Nat) (s : State) : Res :=
  .next (match (s.acc i).owed with
    | some e => if s.talUp = true ∧ s.tim.edges % 100000 = 0 ∧ e < s.tim.edges then s.talSave i 2 else s
    | none => s)

/-- TALLY_SAVE_DONE. -/
def execTallySaveDone (s : State) : Res := .next s.talSaveDone

/-- TALLY_PARTIAL_SAVE: every 10,000 ticks while PWRFAIL stays asserted. -/
def execTallyPartialSave (s : State) : Res :=
  .next (if s.talUp = true ∧ s.tal.pwrfail = true ∧ s.tal.partialAt ≤ s.tim.edges then s.talPartial else s)

/-- TALLY_CLEAR. -/
def execTallyClear (req i : Nat) (s : State) : Res :=
  s.regRow iTAL req (aTal i 0x64) 4 1 (fun s => s.talCmdWrite req i 1)

/-- TEMP_WRITE. -/
def execTempWrite (req i value : Nat) (s : State) : Res :=
  s.regRow iTAL req (aTal i 0x6C) 4 value (fun s => s.talTempWrite i value)

/-- TEMP_STALE (R429): 10,000 ms without a write. -/
def execTempStale (i : Nat) (s : State) : Res :=
  .next (if s.talOn i = true ∧ s.f (TAL_TQi_CFG_TEMP_KIND i) = 2 ∧ s.on (TAL_TQi_CORR_TEMP_STALE i) = false ∧
      (s.acc i).tempAt + 1000000000 ≤ s.tim.edges
    then (s.setF (TAL_TQi_CORR_TEMP_STALE i) 1).talNotice 3 i else s)

/-- LAG_STEP: every tenth millisecond mark. -/
def execLagStep (s : State) : Res :=
  .next (if s.tim.edges % 1000000 ≠ 0 ∨ s.tim.edges = s.tal.lagAt then s
    else
      let s := { s with tal := { s.tal with lagAt := s.tim.edges } }
      (List.range 16).foldl (fun s i => if s.talOn i then s.lagStep i else s) s)

/-- PULSE_OUTPUT_ENABLE: a write of TAL_POn_CFG. -/
def execPulseOutputEnable (req n value : Nat) (s : State) : Res :=
  s.regRow iTAL req (aPo n 0) 4 value (fun s => s.poCfgWrite req n value)

/-- PULSE_OUTPUT_START. -/
def execPulseOutputStart (n : Nat) (s : State) : Res := .next (s.poStart n)

/-- PULSE_OUTPUT_END. -/
def execPulseOutputEnd (n : Nat) (s : State) : Res := .next (s.poEnd n)

end Sys2Proof.Machine
end

