-- ==== Sys2Proof/Machine/Stop.lean ====
section
/-! DEFINITION. The Whistle (R386 to R398): raising, release, the output enables and supervision. -/

namespace Sys2Proof.Machine

def State.setStop (s : State) (f : StopSt → StopSt) : State := { s with stop := f s.stop }

/-- A control block leaves a port that is UP (R470, R471). -/
def State.ctlSend (s : State) (p code content : Nat) : State :=
  if s.f (BXL_Pp_STATUS_LINK p) = 2 then { s with bxl := { s.bxl with ctl := s.bxl.ctl ++ [(p, code, content % 2 ^ 48)] } }
  else s

/-- The sources that are levels and asserted now, as bit and reason (R388). -/
def State.levelSources (s : State) : List (Nat × Nat) :=
  (if s.on REF_STOP_STATUS_PIN_A then [] else [(0, 1)]) ++ (if s.on REF_STOP_STATUS_PIN_B then [] else [(1, 2)]) ++
    (if s.stop.mismatch = [] then [] else [(3, 6)]) ++
    (if s.on PWR_STATUS_PWRFAIL && s.on REF_STOP_CFG_PWRFAIL_STOP then [(4, 7)] else [])

def sourceBits (l : List (Nat × Nat)) : Nat := l.foldl (fun b p => b ||| 2 ^ p.1) 0
def lowestReason (l : List (Nat × Nat)) : Nat := l.foldl (fun r p => min r p.2) 255

/-- ARG0 of a stop record (R544). -/
def State.stopArg (s : State) (reason sources origin : Nat) : Nat :=
  s.f REF_STOP_ID_STOP_ID + reason * 2 ^ 32 + sources * 2 ^ 40 + origin * 2 ^ 48

/-- The origin sends STOP three times on both ports, and STOPINFO to every member (R487). -/
def State.stopSpread (s : State) (reason stamp : Nat) : State :=
  if s.bxlUp = false ∨ s.inStack = false then s
  else
    let id := s.f REF_STOP_ID_STOP_ID
    let c := id + reason * 2 ^ 32 + s.pos' * 2 ^ 40
    let s := [0, 0, 0].foldl (fun s _ => (s.ctlSend 0 2 c).ctlSend 1 2 c) s
    let s := s.setStop (fun x => { x with seen := (s.pos', id) :: x.seen })
    s.others.foldl (fun s p => s.bxlSend p 0x0A 0
      (leBytes 4 id ++ leBytes 1 reason ++ leBytes 1 s.pos' ++ leBytes 2 0 ++ leBytes 8 stamp)) s

/-- The latch sets (R388, R390): outputs fall, STOP_ID advances and is recorded, the latch edge is stamped, the stack, RAD
and MCH learn of it, a record is staged and the notice sent. `own` says that this member is the origin. -/
def State.latchSet (s : State) (l : List (Nat × Nat)) (origin : Nat) (own : Bool) : State :=
  let sources := sourceBits l
  let reason := lowestReason l
  let s := (((s.setF REF_STOP_STATUS_LATCHED 1).setF REF_STOP_STATUS_SOURCES sources).setF REF_STOP_STATUS_REASON reason).setF
    REF_STOP_STATUS_ORIGIN origin
  let s := ((s.setF REF_STOP_STATUS_ARMED 0).setF REF_FENCE_EN_EN 0).setF REF_PWEN_EN_EN 0
  let s := s.setStop (fun x => { x with arm := 0, latchedAt := some s.tim.edges })
  let s := (s.incW REF_STOP_ID_STOP_ID).inc REF_STOP_STAT_STOPS
  let id := s.f REF_STOP_ID_STOP_ID
  let stamp := s.stampWord 0
  let s := (s.setF REF_STOP_LOCAL_TIME_STAMP stamp).setF REF_STOP_TIME_STAMP stamp
  let b := leBytes 4 id ++ leBytes 8 stamp
  let s := s.copyAB (0x04006A0000 + id % 2 * 16) (0x0400C00000 + id % 2 * 16) (b ++ leBytes 4 (crc32c b))
  let s := if own then s.stopSpread reason stamp else s
  let s := s.radStop.mchStop
  let s := s.stage 0x0202 [s.stopArg reason sources origin, stamp]
  if s.on REF_STOP_NOTICE_EN then
    s.notice (ep iREF 0) (s.f REF_STOP_NOTICE_EP) (s.f REF_STOP_NOTICE_TAG)
      (id * 2 ^ 32 + 0x01 * 2 ^ 16 + reason * 2 ^ 8 + origin * 16 + sources % 16) false
  else s

/-- A raise (R388): a source within the tick in which the latch set joins it; a later one while latched is counted,
recorded, and clears ARMED (R394); otherwise the latch sets, with every source asserted now. -/
def State.stopRaise (s : State) (src reason origin : Nat) (own : Bool) : State :=
  let reason := if src = 5 ∨ src = 6 then max reason 0x10 else reason
  if s.stopped = false then s.latchSet ((src, reason) :: s.levelSources) origin own
  else if s.stop.latchedAt = some s.tim.edges then
    (s.setF REF_STOP_STATUS_SOURCES (s.f REF_STOP_STATUS_SOURCES ||| 2 ^ src)).setF REF_STOP_STATUS_REASON
      (min reason (s.f REF_STOP_STATUS_REASON))
  else
    let s := s.setStop (fun x => { x with
      arm := if x.arm = 1 then 3 else x.arm, raisedAt := some s.tim.edges, lastRaise := (src, reason) })
    let s := (s.setF REF_STOP_STATUS_ARMED 0).inc REF_STOP_STAT_RAISES
    s.stage 0x0203 [s.stopArg reason (2 ^ src) origin, s.f REF_STOP_TIME_STAMP]

/-- A stop of this member's own. -/
def State.raise (s : State) (src reason : Nat) : State := s.stopRaise src reason s.pos' true

/-! ### Inputs and supervision -/

/-- The two inputs are compared (R396). -/
def State.pinsCompare (s : State) : State :=
  let differ := s.on REF_STOP_STATUS_PIN_A != s.on REF_STOP_STATUS_PIN_B
  s.setStop (fun x => { x with disagree := if differ then some (x.disagree.getD s.tim.edges) else none })

/-- STOP input p (0 A, 1 B) is low, or was low for `width` tenths of a nanosecond and is high (R386, R387). Between 0 and
2 ns a pulse may or may not set the latch: free. -/
def State.stopInput (s : State) (p : Nat) (level : Bool) (width : Nat) : State :=
  let r := if p = 0 then REF_STOP_STATUS_PIN_A else REF_STOP_STATUS_PIN_B
  let was := s.on r
  let set := (s.setF r (b2n level)).pinsCompare
  if was = false then set
  else if level = false then set.raise (p % 2) (1 + p % 2)
  else if 20 ≤ width then set.raise (p % 2) (1 + p % 2)
  else if width = 0 then set
  else
    let c := set.free 1
    if c.1 = 1 then c.2.raise (p % 2) (1 + p % 2) else c.2

/-- The levels the FENCE and PWEN contacts are commanded to (R386). -/
def State.outLevels (s : State) : Nat :=
  if s.stopped then 0 else s.f REF_FENCE_EN_EN + s.f REF_PWEN_EN_EN * 2 ^ 16

/-- The levels read back: as commanded, but for the outputs that differ (R397). -/
def State.outRead (s : State) : Nat := s.stop.mismatch.foldl (fun v o => v ^^^ 2 ^ o) s.outLevels

/-- An output's read-back has differed for more than 1 µs (R397), or agrees again. -/
def State.readback (s : State) (o : Nat) (differs : Bool) : State :=
  let rest := s.stop.mismatch.filter (· != o)
  if 20 ≤ o then s
  else if differs = false then s.setStop (fun x => { x with mismatch := rest })
  else
    let s := s.setStop (fun x => { x with mismatch := o :: rest })
    (s.stage 0x0205 [o]).raise 3 6

/-- The inputs have disagreed for more than DISAGREE_MS (R396). -/
def State.disagree (s : State) : State :=
  match s.stop.disagree with
  | none => s
  | some t =>
    if s.tim.edges ≤ t + s.f REF_STOP_CFG_DISAGREE_MS * 100000 then s
    else
      let pins := s.f REF_STOP_STATUS_PIN_A + s.f REF_STOP_STATUS_PIN_B * 2
      let s := (s.setF REF_STOP_STATUS_DISAGREE 1).setStop (fun x => { x with disagree := none })
      let s := s.stage 0x0204 [pins]
      if s.on REF_STOP_NOTICE_EN then
        s.notice (ep iREF 0) (s.f REF_STOP_NOTICE_EP) (s.f REF_STOP_NOTICE_TAG)
          (s.now % 2 ^ 32 * 2 ^ 32 + 0x02 * 2 ^ 16 + pins) false
      else s

/-! ### Release (R394, R395) -/

/-- Whether this member is ready: both inputs high, no REF source asserted, PWRFAIL not asserted. -/
def State.stopReady (s : State) : Bool :=
  s.on REF_STOP_STATUS_PIN_A && s.on REF_STOP_STATUS_PIN_B && decide (s.stop.mismatch = []) && s.ist iMCH != 5 &&
    s.f BXL_STATUS_STATE != 3 && !s.on PWR_STATUS_PWRFAIL

/-- A member that stays latched raises anew, which latches every member again. -/
def State.relatch (s : State) : State :=
  let l := s.levelSources ++ (if s.stop.raisedAt = some s.tim.edges then [s.stop.lastRaise] else []) ++
    (if s.ist iMCH = 5 ∨ s.f BXL_STATUS_STATE = 3 then [(3, 4)] else [])
  s.latchSet (if l = [] then [(4, 7)] else l) s.pos' true

/-- RELEASE at one member: it clears its latch if it is still ready and no raise came in this cycle. -/
def State.releaseHere (s : State) : Nat × State :=
  if s.stopped = false then (cOK, s)
  else if s.stopReady = false ∨ s.stop.raisedAt = some s.tim.edges then (cSTOPPED, s.relatch)
  else
    let s := (s.setF REF_STOP_STATUS_LATCHED 0).setF REF_STOP_STATUS_ARMED 0
    (cOK, (s.setStop (fun x => { x with releaseSeq := (x.releaseSeq + 1) % 256, latchedAt := none })).radUnstop)

/-- ARM or RELEASE ends. -/
def State.stopDone (s : State) (status : Nat) : State :=
  (s.setF REF_STOP_CMD_BUSY 0).setF REF_STOP_CMD_STATUS status

/-- Every member has answered. -/
def State.stopAnswered (s : State) : State :=
  if s.on REF_STOP_CMD_BUSY = false ∨ s.stop.asked ≠ [] then s
  else if s.stop.releasing then s.stopDone (if s.stop.notReady then cSTOPPED else cOK)
  else if s.stop.notReady || !s.stopReady then s.stopDone cSTOPPED
  else
    (s.setF REF_STOP_STATUS_ARMED 1).setStop (fun x => { x with arm := 1, armedAt := s.tim.edges }) |>.stopDone cOK

/-- A member's answer to ARM or RELEASE. -/
def State.stopAnswer (s : State) (pos status : Nat) : State :=
  if s.on REF_STOP_CMD_BUSY = false ∨ s.stop.asked.contains pos = false then s
  else (s.setStop (fun x => { x with
    asked := x.asked.filter (· != pos), notReady := x.notReady || status != cOK })).stopAnswered

/-- A CONTROL message of the release (R479). -/
def State.stopControl (s : State) (dst op status : Nat) : State :=
  s.bxlSend dst 0x0B 0 (leBytes 1 op ++ leBytes 1 s.pos' ++ leBytes 1 status ++ leBytes 1 0)

/-- The stack is asked, or told. -/
def State.stopAsk (s : State) (release bad : Bool) (op : Nat) : State :=
  let o := if s.inStack then s.others else []
  let s := s.setF REF_STOP_CMD_BUSY 1
  let s := s.setStop (fun x => { x with releasing := release, asked := o, notReady := bad })
  (o.foldl (fun s p => s.stopControl p op 0) s).stopAnswered

/-- ARM (R394). -/
def State.stopArm (s : State) : State :=
  if s.stopped = false then s.stopDone cBUSY
  else if s.stopReady = false then s.stopDone cSTOPPED
  else s.stopAsk false false 3

/-- The window of 1 s after ARM. -/
def stopWindow : Nat := 100000000

/-- RELEASE (R394): taken while armed and within the window, its last cycle included. -/
def State.stopRelease (s : State) : State :=
  let e := s.tim.edges
  let inTime := decide (e ≤ s.stop.armedAt + stopWindow)
  if s.stop.arm = 3 ∧ s.stop.raisedAt = some e then
    (s.relatch.setStop (fun x => { x with arm := 0 })).stopDone cSTOPPED
  else if (s.stop.arm = 1 ∨ s.stop.arm = 2) ∧ inTime = true then
    let s := (s.setStop (fun x => { x with arm := 0 })).setF REF_STOP_STATUS_ARMED 0
    let r := s.releaseHere
    r.2.stopAsk true (r.1 != cOK) 5
  else if s.stop.arm = 1 ∨ s.stop.arm = 2 then
    ((s.setStop (fun x => { x with arm := 2 })).setF REF_STOP_STATUS_ARMED 0).stopDone cTIMEOUT
  else s.stopDone cBUSY

def aStopCmd : Nat := 0x020002041C

/-- A write of REF_STOP_CMD (R34, R394). -/
def State.stopCmdWrite (s : State) (req value : Nat) : Nat × State :=
  let op := value % 4
  if op ≠ 1 ∧ op ≠ 2 then s.regRefuse iREF aStopCmd req cRANGE
  else if s.captain = false then s.regRefuse iREF aStopCmd req cNOT_OWNER
  else if s.on REF_STOP_CMD_BUSY then s.regRefuse iREF aStopCmd req cBUSY
  else
    let s := s.setF REF_STOP_CMD_OP op
    (cOK, if op = 1 then s.stopArm else s.stopRelease)

/-- A write of an output enable (R386, R390). -/
def State.enableWrite (s : State) (req base value : Nat) : Nat × State :=
  if s.stopped then s.regRefuse iREF base req cSTOPPED else s.regW iREF req base value

/-- A write of REF_STOP_RAISE (R388). -/
def State.raiseWrite (s : State) (value : Nat) : Nat × State := (cOK, s.raise 6 (value % 256))

def State.stopRegWrite (s : State) (req isl base value : Nat) : Option (Nat × State) :=
  if isl ≠ iREF then none
  else
    let o := base - 0x0200020000
    if o = 0x418 then some (s.raiseWrite value)
    else if o = 0x41C then some (s.stopCmdWrite req value)
    else if o = 0x424 ∨ o = 0x42C then some (s.enableWrite req base value)
    else if o = 0x438 then
      some (if tagBad (bits value 47 16) then s.regRefuse iREF base req cRANGE else s.regW iREF req base value)
    else none

def State.stopLive (s : State) (isl base : Nat) : Option Nat :=
  if isl ≠ iREF then none
  else if base = 0x0200020428 then some (s.outRead % 2 ^ 16)
  else if base = 0x0200020430 then some (s.outRead / 2 ^ 16 % 16)
  else none

/-! ### Meanings -/

/-- STOP_INPUT. -/
def execStopInput (p : Nat) (level : Bool) (width : Nat) (s : State) : Res := .next (s.stopInput p level width)

/-- STOP_RAISE. -/
def execStopRaise (req value : Nat) (s : State) : Res := s.regRow iREF req 0x0200020418 4 value (fun s => s.raiseWrite value)

/-- STOP_ARM. -/
def execStopArm (req : Nat) (s : State) : Res := s.regRow iREF req aStopCmd 4 1 (fun s => s.stopCmdWrite req 1)

/-- STOP_RELEASE. -/
def execStopRelease (req : Nat) (s : State) : Res := s.regRow iREF req aStopCmd 4 2 (fun s => s.stopCmdWrite req 2)

/-- STOP_ARM_EXPIRY. -/
def execStopArmExpiry (s : State) : Res :=
  .next (if s.stop.arm = 1 ∧ s.stop.armedAt + stopWindow ≤ s.tim.edges then
    (s.setStop (fun x => { x with arm := 2 })).setF REF_STOP_STATUS_ARMED 0 else s)

/-- DISAGREE. -/
def execDisagree (s : State) : Res := .next s.disagree

/-- READBACK_MISMATCH: an output's read-back differs, or agrees with the commanded level again. -/
def execReadbackMismatch (o : Nat) (differs : Bool) (s : State) : Res := .next (s.readback o differs)

/-- OUTPUT_ENABLE_WRITE: of REF_FENCE_EN, or of REF_PWEN_EN. -/
def execOutputEnableWrite (req : Nat) (pwen : Bool) (value : Nat) (s : State) : Res :=
  s.regRow iREF req (if pwen then 0x020002042C else 0x0200020424) 4 value
    (fun s => s.enableWrite req (if pwen then 0x020002042C else 0x0200020424) value)

/-- WATCHDOG: a REF watchdog expires (R388). -/
def execWatchdog (s : State) : Res := .next (s.raise 3 5)

/-- CONTROL_STOP_ARM: this member answers whether it is ready (R394). -/
def execControlStopArm (m : BxlMsg) (s : State) : Res :=
  .next (s.bxlIn m (fun s => (some cOK, s.stopControl m.src 4 (if s.stopReady then cOK else cSTOPPED))))

/-- STOP_READY: a member's answer reaches the Captain (R394). -/
def execStopReady (m : BxlMsg) (s : State) : Res :=
  .next (s.bxlIn m (fun s => (some cOK, if s.stop.releasing then s else s.stopAnswer m.src (fld m.body 2 1))))

/-- CONTROL_STOP_RELEASE: the member clears its latch if it is still ready; the ACK says which (R394). -/
def execControlStopRelease (m : BxlMsg) (s : State) : Res :=
  .next (s.bxlIn m (fun s => let r := s.releaseHere; (some r.1, r.2)))

/-- STOPINFO: the origin's raise time (R487). -/
def execStopinfo (m : BxlMsg) (s : State) : Res :=
  .next (s.bxlIn m (fun s => (some cOK, if s.stopped && s.f REF_STOP_STATUS_ORIGIN == fld m.body 5 1 % 16
    then s.setF REF_STOP_TIME_STAMP (fld m.body 8 8) else s)))

end Sys2Proof.Machine
end

