-- ==== Sys2Proof/Machine/ZonTab.lean ====
section
/-! DEFINITION. The Zone table (R362 to R370, R374, R376, R380): slots, expansion, conflicts, checks and results. -/

namespace Sys2Proof.Machine

def State.setZon (s : State) (f : ZonSt → ZonSt) : State := { s with zon := f s.zon }

/-- An open end (R363). -/
def slotOpen : Nat := 0xFFFFFFFF

/-- Ticks of a slot of frame f. -/
def State.quantum (s : State) (f : Nat) : Nat := max (s.f (ZON_Ff_CFG_QUANTUM_MS f)) 1 * 100000

/-- The current slot of frame f (R363). -/
def State.slotOf (s : State) (f : Nat) : Nat := (s.now - s.f (ZON_Ff_EPOCH_TICKS f)) / s.quantum f % 2 ^ 32

/-- An entry is live while the current slot is at most its b (R376). -/
def State.zonLive (s : State) (e : ZonEnt) : Bool := decide (s.slotOf e.frame ≤ e.b)

def State.liveEnts (s : State) : List ZonEnt := s.zon.entries.filter s.zonLive

/-- Live entries of a frame. -/
def State.frameLive (s : State) (f : Nat) : Nat := (s.liveEnts.filter (fun e => e.frame == f)).length

/-! ### Command blocks (R366) -/

def zOp (b : List Byte) : Nat := fld b 0 1
def zFrame (b : List Byte) : Nat := fld b 1 1
def zFlag (b : List Byte) (k : Nat) : Bool := bit (fld b 2 2) k
def zOwner (b : List Byte) : Nat := fld b 4 2
def zCount (b : List Byte) : Nat := fld b 6 2
def zRadius (b : List Byte) : Nat := fld b 8 1 + fld b 9 1
def zTrack (b : List Byte) : Nat := fld b 12 4
def zResult (b : List Byte) : Nat := fld b 24 8
def zResultLen (b : List Byte) : Nat := fld b 32 4
def zUser (b : List Byte) : Nat := fld b 44 4
def zFirst (b : List Byte) : Nat := fld b 48 4

/-- A path entry: X, Y, START, END. -/
structure ZonStep where
  x : Nat
  y : Nat
  start : Nat
  stop : Nat
  deriving DecidableEq, Repr

def zPath (b : List Byte) : List ZonStep :=
  (List.range (zCount b)).map (fun i =>
    ⟨fld b (64 + 8 * i) 2, fld b (66 + 8 * i) 2, fld b (68 + 8 * i) 2, fld b (70 + 8 * i) 2⟩)

/-- Whether a path keeps R367. -/
def pathOk : List ZonStep → Bool
  | a :: b :: l =>
    decide (b.x ≤ a.x + 1) && decide (a.x ≤ b.x + 1) && decide (b.y ≤ a.y + 1) && decide (a.y ≤ b.y + 1) &&
      decide (a.start ≤ b.start) && decide (b.start ≤ b.stop) && pathOk (b :: l)
  | _ => true

/-! ### Sweep (R369) -/

/-- Whether two windows overlap or touch. -/
def touches (a b c d : Nat) : Bool := decide (a ≤ d + 1) && decide (c ≤ b + 1)

/-- A cell joins the entries so far: the first entry of the cell that it overlaps or touches takes the union, and those
that then overlap or touch it close up into it. -/
def addCell (c : ZonCell) (l : List ZonCell) : List ZonCell :=
  let hit := fun (e : ZonCell) => e.x == c.x && e.y == c.y && touches e.a e.b c.a c.b
  let all := l.filter hit
  match all with
  | [] => l ++ [c]
  | e0 :: _ =>
    let u : ZonCell := ⟨c.x, c.y, all.foldl (fun m e => min m e.a) c.a, all.foldl (fun m e => max m e.b) c.b⟩
    l.filterMap (fun e => if e = e0 then some u else if hit e then none else some e)

/-- The offsets of a disc of radius r, by rows. -/
def disc (r : Nat) : List (Int × Int) :=
  let k := (List.range (2 * r + 1)).map (fun i => Int.ofNat i - Int.ofNat r)
  k.flatMap (fun dy => (k.filter (fun dx => decide (dx * dx + dy * dy ≤ Int.ofNat (r * r)))).map (fun dx => (dx, dy)))

/-- The entries of a command at a current slot, in their order. -/
def expand (b : List Byte) (now : Nat) : List ZonCell :=
  let m := fld b 10 2
  (zPath b).foldl (fun l p =>
    let a := max (zFirst b + p.start - m) now
    let e := if p.stop = 0xFFFF then slotOpen else zFirst b + p.stop + m
    (disc (zRadius b)).foldl (fun l d =>
      let x := Int.ofNat p.x + d.1
      let y := Int.ofNat p.y + d.2
      if x < 0 ∨ 65535 < x ∨ y < 0 ∨ 65535 < y then l else addCell ⟨x.toNat, y.toNat, a, e⟩ l) l) []

/-! ### Conflicts (R370) -/

/-- Of two live entries met, the one reported: the earlier start, then the lower track index. -/
def worse (a b : ZonEnt) : ZonEnt :=
  if b.a < a.a ∨ (b.a = a.a ∧ b.track % 65536 < a.track % 65536) then b else a

/-- The live entry that a new entry of an owner conflicts with. -/
def State.meets (s : State) (f owner : Nat) (c : ZonCell) : Option ZonEnt :=
  match s.liveEnts.filter (fun e =>
      e.frame == f && e.x == c.x && e.y == c.y && e.owner != owner && decide (c.a ≤ e.b) && decide (e.a ≤ c.b)) with
  | [] => none
  | e :: l => some (l.foldl worse e)

/-- The first conflict of numbered entries: its index, the entry, and the live entry met. -/
def State.firstConflict (s : State) (f owner : Nat) : List (Nat × ZonCell) → Option (Nat × ZonCell × ZonEnt)
  | [] => none
  | (i, c) :: l => match s.meets f owner c with
    | some e => some (i, c, e)
    | none => State.firstConflict s f owner l

/-- Offsets 32 to 63 of a result that reports a conflict (R374). -/
def conflictBytes (i : Nat) (c : ZonCell) (e : ZonEnt) : List Byte :=
  leBytes 4 i ++ leBytes 2 c.x ++ leBytes 2 c.y ++ leBytes 4 c.a ++ leBytes 4 c.b ++ leBytes 4 e.track ++
    leBytes 2 e.owner ++ leBytes 2 0 ++ leBytes 4 e.a ++ leBytes 4 e.b

/-! ### Checks (R368) -/

/-- The staging checks of a block at its frame's current slot. -/
def State.zonStage (s : State) (b : List Byte) : Nat :=
  let n := zCount b
  let op := zOp b
  let len := zResultLen b
  let path := zPath b
  if fld b 20 4 < 64 + 8 * n ∨ len < 64 ∨ (zFlag b 1 = true ∧ len < 104 + 8 * n) then cLENGTH
  else if op = 0 ∨ 4 < op ∨ 7 < zFrame b ∨ 8 ≤ fld b 2 2 ∨ 1024 < n ∨ 255 < fld b 10 2 ∨ fld b 18 2 ≠ 0 ∨ fld b 38 2 ≠ 0 ∨
      fld b 52 12 ≠ 0 ∨ bits (fld b 40 4) 31 27 ≠ 0 ∨ (op ≠ 3 ∧ zTrack b ≠ 0) then cRANGE
  else if s.on (ZON_Ff_CFG_VALID (zFrame b)) = false ∨ zOwner b = 0 ∨ 15 < zRadius b then cRANGE
  else if path.any (fun p => p.stop != 0xFFFF && decide (p.stop < p.start)) = true then cRANGE
  else if zFlag b 0 = false ∧ pathOk path = false then cRANGE
  else if path.any (fun p => decide (0xFFFF0000 ≤ zFirst b + p.start) ||
      (p.stop != 0xFFFF && decide (0xFFFF0000 ≤ zFirst b + p.stop))) = true then cRANGE
  else if zFlag b 1 = true ∧ 119 < n then cRANGE
  else if zResult b % 32 ≠ 0 ∨ 2 ^ 40 ≤ zResult b ∨ blockIn (zResult b) len true = false then cRANGE
  else if op ≤ 2 ∧ 4096 < (expand b (s.slotOf (zFrame b))).length then cRANGE
  else cOK

/-- The service checks of RESERVE and CHECK that need no table (R363, R368). -/
def State.zonEarly (s : State) (b : List Byte) (now : Nat) : Nat :=
  let path := zPath b
  if zOp b = 1 ∧ 0xFFFF0000 ≤ now then cRANGE
  else if path.any (fun p => p.stop != 0xFFFF && decide (zFirst b + p.stop + fld b 10 2 < now)) then cTOO_LATE
  else if zOp b = 1 ∧ s.on REF_STOP_STATUS_LATCHED = true ∧ s.on ZON_CTRL_STOP_REFUSE = true ∧
      path.any (fun p => p.stop != 0xFFFF) = true then cSTOPPED
  else cOK

/-- Whether entries would exceed the entry or per-cell limit of this member (R364). -/
def State.zonFull (s : State) (f : Nat) (cells : List ZonCell) : Bool :=
  let live := s.liveEnts
  decide (2 ^ s.f ZON_TABLE_CFG_LOG2_ENTRIES < live.length + cells.length) ||
    cells.any (fun c => decide (8 < (live.filter (fun e => e.frame == f && e.x == c.x && e.y == c.y)).length +
      (cells.filter (fun d => d.x == c.x && d.y == c.y)).length))

/-! ### Results (R374, R380) -/

/-- The TRACK body of a command's track. -/
def State.trackBody (s : State) (b : List Byte) (id : Nat) : List Byte :=
  let f := zFrame b
  let gps := if s.tim.qst ≤ 1 then 0
    else unsigned 64 ((Int.ofNat (s.f (ZON_Ff_EPOCH_TICKS f)) + signed 64 (s.f TIM_GPS_OFFSET_TICKS)) * 10)
  leBytes 4 id ++ leBytes 1 f ++ leBytes 1 1 ++ leBytes 2 (zCount b) ++ leBytes 8 gps ++ leBytes 4 (zFirst b) ++
    leBytes 2 (s.f (ZON_Ff_CFG_QUANTUM_MS f)) ++ leBytes 1 (s.f (ZON_Ff_CFG_CELL_DM f)) ++ leBytes 1 (zRadius b) ++
    leBytes 4 (s.f (ZON_Ff_ORIGIN_E f)) ++ leBytes 4 (s.f (ZON_Ff_ORIGIN_N f)) ++ leBytes 2 (s.f (ZON_Ff_ROT_ROT f)) ++
    leBytes 2 (fld b 16 2) ++ leBytes 2 (zOwner b) ++ leBytes 2 0 ++ (b.drop 64).take (8 * zCount b)

/-- A result: status, flags, track, entries, service time, slot, and what stands at offsets 32 to 63. -/
def State.zonResult (s : State) (b : List Byte) (status flags id entries time slot : Nat) (conflict : List Byte) : List Byte :=
  leBytes 1 status ++ leBytes 1 (zOp b) ++ leBytes 2 flags ++ leBytes 4 id ++ leBytes 4 (zUser b) ++ leBytes 4 entries ++
    leBytes 8 time ++ leBytes 4 slot ++ leBytes 4 0 ++ (if conflict.length = 32 then conflict else List.replicate 32 0) ++
    (if zFlag b 1 && status == cOK && zOp b == 1 then s.trackBody b id else [])

/-- A result and its notice leave for the block at an address. -/
def State.zonLeave (s : State) (addr : Nat) (b result : List Byte) : State :=
  let s := if 64 ≤ zResultLen b then (s.memWrite (ep iZON 0) (zResult b) result).2 else s
  s.notice (ep iZON 0) (fld b 36 2) (fld b 40 4)
    (fld result 0 1 * 2 ^ 56 + fld result 2 1 * 2 ^ 48 + addr) true

/-- The notice of a command whose result address cannot be used. -/
def State.zonFail (s : State) (addr : Nat) (b : List Byte) (status : Nat) : State :=
  let b' := if zResult b % 32 = 0 ∧ zResult b < 2 ^ 40 ∧ blockIn (zResult b) 64 true = true then b
    else b.take 32 ++ leBytes 4 0 ++ b.drop 36
  s.zonLeave addr b' ((s.zonResult b status 0 0 0 0 0 []).take 64)

/-! ### Tracks -/

/-- A track index: the lowest that holds no track (log entry 31), with its generation. -/
def State.trackIndex (s : State) : Option Nat :=
  firstIdx (min 65536 (s.zon.tracks.length + 1)) (fun i => s.zon.tracks.all (fun t => t.id % 65536 != i))

/-- The TRACK_ID of an index on this member. -/
def State.trackId (s : State) (i : Nat) : Nat :=
  i + s.pos' * 65536 + Tab.get (fun _ => 0) s.zon.gens i % 4096 * 2 ^ 20

/-- A track record is removed: its index may be used again, with the next generation. -/
def State.trackDrop (s : State) (id : Nat) : State :=
  let i := id % 65536
  s.setZon (fun z => { z with
    tracks := z.tracks.filter (fun t => t.id != id)
    gens := Tab.set (fun _ => 0) z.gens i ((Tab.get (fun _ => 0) z.gens i + 1) % 4096) })

/-- Entries of a track leave; how many were live. -/
def State.freeTrack (s : State) (id : Nat) : Nat × State :=
  ((s.liveEnts.filter (fun e => e.track == id && e.txn == none)).length,
    s.setZon (fun z => { z with entries := z.entries.filter (fun e => !(e.track == id && e.txn == none)) }))

/-- Whether a track can still be released: its last slot has not ended, or ends at this very edge (R376). -/
def State.trackLive (s : State) (t : ZonTrack) : Bool :=
  decide (s.slotOf t.frame ≤ t.last) ||
    s.now == s.f (ZON_Ff_EPOCH_TICKS t.frame) + (t.last + 1) * s.quantum t.frame

/-- The last slot of a list of cells. -/
def lastSlot (cells : List ZonCell) : Nat := maxList (cells.map ZonCell.b)

/-! ### Shards (R381, R492, R493) -/

/-- The shard map's member for an index. -/
def State.shardMember (s : State) (idx : Nat) : Nat :=
  s.regs.get regReset (RF.key ⟨0x0200240200 + idx / 8 * 4, idx % 8 * 4, 4⟩)

/-- The member that owns the tile of a cell by the shard map. -/
def State.tileMember (s : State) (f x y : Nat) : Nat :=
  let k := 2 ^ s.f (ZON_Ff_CFG_TILE_SHIFT f)
  s.shardMember (x / k % 16 + 16 * (y / k % 16))

/-- The member that serves the tile of a cell: the owner, or who serves for it once it has failed or left. -/
def State.cellOwner (s : State) (f x y : Nat) : Nat :=
  let m := s.tileMember f x y
  let e := Tab.get (fun _ => (⟨0, 0, 0, 0xFF, 0⟩ : RosterEnt)) s.bxl.roster m
  if e.st = 4 ∨ e.st = 5 then e.served else m

/-- Whether a cell lies in a tile of a member whose entries are being merged (R493). -/
def State.inMerge (s : State) (f x y : Nat) : Bool := s.zon.merging.contains (s.tileMember f x y)

/-- Whether every cell is local. -/
def State.allLocal (s : State) (f : Nat) (cells : List ZonCell) : Bool :=
  !s.inStack || cells.all (fun c => s.cellOwner f c.x c.y == s.pos')

end Sys2Proof.Machine
end

