-- ==== Sys2Proof/Machine/Zon.lean ====
section
/-! DEFINITION. Zone table commands and their service, alone and across a stack (R365, R371 to R385). -/

namespace Sys2Proof.Machine

/-! ### Inserting and mirroring -/

/-- Entries of cells, for a track; PENDING under a transaction (R382). -/
def zonEnts (f owner track : Nat) (txn : Option Nat) (cells : List ZonCell) : List ZonEnt :=
  cells.map (fun c => ⟨f, c.x, c.y, c.a, c.b, owner, track, txn⟩)

/-- Bytes of an entry in ZON's own layout (log entry 32). -/
def ZonEnt.bytes (e : ZonEnt) : List Byte :=
  leBytes 1 e.frame ++ leBytes 1 0 ++ leBytes 2 e.owner ++ leBytes 2 e.x ++ leBytes 2 e.y ++ leBytes 4 e.a ++
    leBytes 4 e.b ++ leBytes 4 e.track

/-- Bytes of a track record in ZON's own layout. -/
def ZonTrack.bytes (t : ZonTrack) : List Byte :=
  leBytes 4 t.id ++ leBytes 2 t.owner ++ leBytes 2 t.ep ++ leBytes 4 t.tag ++ leBytes 1 (t.frame + b2n t.notice * 8) ++
    leBytes 3 0 ++ leBytes 4 t.last

/-- A write-back's mirror to the Buddy (R484): OFFSET 0 entries, 1 track records, 2 TRACK_IDs freed. -/
def State.zonMirror (s : State) (kind : Nat) (content : List Byte) : State :=
  if s.inStack && s.on BXL_GUEST_HAS_BUDDY && !content.isEmpty then
    (pieces 1000 256 content).foldl (fun s c =>
      s.bxlSend (s.f BXL_STATUS_BUDDY_POS) 0x04 0 (leBytes 1 3 ++ leBytes 3 0 ++ leBytes 4 kind ++ c)) s
  else s

/-- Put entries into the table and its mirror. -/
def State.zonInsert (s : State) (es : List ZonEnt) : State :=
  (s.setZon (fun z => { z with entries := z.entries.filter s.zonLive ++ es })).zonMirror 0 (es.flatMap ZonEnt.bytes)

/-- Put a track record into the table and its mirror. -/
def State.zonTrackPut (s : State) (t : ZonTrack) : State :=
  (s.setZon (fun z => { z with tracks := z.tracks ++ [t] })).zonMirror 1 t.bytes

/-- The track record of a RESERVE. -/
def zonTrackOf (b : List Byte) (id last : Nat) (remote : List Nat) : ZonTrack :=
  ⟨id, zFrame b, zOwner b, fld b 36 2, fld b 40 4, zFlag b 2, last, remote⟩

/-- A track is freed here: its entries and its record. -/
def State.zonFree (s : State) (id : Nat) : Nat × State :=
  let r := s.freeTrack id
  (r.1, (r.2.trackDrop id).zonMirror 2 (leBytes 4 id))

/-! ### Service (R371) -/

/-- A served command's write-back begins. -/
def State.zonServed (s : State) (c : ZonCmd) (result : List Byte) : State :=
  s.setZon (fun z => { z with done := z.done ++ [⟨c.addr, c.blk, result, c.stamp⟩] })

/-- The outcome of RESERVE or CHECK over cells that are all local: status, TRACK_ID, entries, conflict bytes and flags, and
the state. -/
def State.zonReserve (s : State) (b : List Byte) (cells : List ZonCell) : (Nat × Nat × Nat × List Byte × Nat) × State :=
  let f := zFrame b
  let n := cells.length
  let s := s.addF ZON_STAT_CELLS_COUNT n
  let reserve := zOp b == 1
  if reserve && (!(s.zon.copyA && s.zon.copyB) || s.zonFull f cells || decide (65536 ≤ s.zon.tracks.length) ||
      cells.any (fun c => s.inMerge f c.x c.y)) then
    ((cBUSY, 0, 0, [], 0), s)
  else match s.firstConflict f (zOwner b) ((List.range n).zip cells) with
    | some (i, c, e) =>
      ((cCONFLICT, 0, n, conflictBytes i c e, b2n e.txn.isSome * 4), s.inc ZON_STAT_CONFLICTS_COUNT)
    | none =>
      if reserve = false then ((cOK, 0, n, [], 0), s)
      else if n = 0 then ((cOK, 0, 0, [], 0), s.inc ZON_STAT_RESERVED_COUNT)
      else match s.trackIndex with
        | none => ((cBUSY, 0, 0, [], 0), s)
        | some i =>
          let id := s.trackId i
          let s := s.zonInsert (zonEnts f (zOwner b) id none cells)
          let s := s.zonTrackPut (zonTrackOf b id (lastSlot cells) [])
          ((cOK, id, n, [], 0), s.inc ZON_STAT_RESERVED_COUNT)

/-- RELEASE of a track recorded here. -/
def State.zonRelease (s : State) (b : List Byte) : (Nat × Nat) × State :=
  match s.zon.tracks.find? (fun t => t.id == zTrack b) with
  | none => ((cNOT_FOUND, 0), s)
  | some t =>
    if s.trackLive t = false then ((cNOT_FOUND, 0), s)
    else if t.owner ≠ zOwner b then ((cNOT_OWNER, 0), s)
    else if s.zon.entries.any (fun e => e.track == t.id && s.inMerge e.frame e.x e.y) then ((cBUSY, 0), s)
    else
      let r := s.zonFree t.id
      ((cOK, r.1), r.2)

/-- RELEASE_OWNER over the tracks recorded here. -/
def State.zonReleaseOwner (s : State) (b : List Byte) : Nat × State :=
  (s.zon.tracks.filter (fun t => t.owner == zOwner b && t.frame == zFrame b)).foldl
    (fun (r : Nat × State) t => let q := r.2.zonFree t.id; (r.1 + q.1, q.2)) (0, s)

/-- Hand a command that touches other members' tiles to the Captain (R382). -/
def State.zonForward (s : State) (c : ZonCmd) : State :=
  let s := (s.setZon (fun z => { z with forwarded := some c })).inc ZON_STAT_CROSS_COUNT
  let stamp := leBytes 8 (match c.stamp with | some st => stampValue st | none => 0)
  if s.captain then s.setZon (fun z => { z with fwdQ := z.fwdQ ++ [⟨s.pos', c.addr, c.blk, c.stamp⟩] })
  else s.zonSend (s.f BXL_STATUS_CAPTAIN_POS) c.prio 1 0 0 0 0 (stamp ++ c.blk)

/-- Whether RELEASE of a track goes to the Captain: its record is there, or it has entries on other members. -/
def State.releaseFar (s : State) (b : List Byte) : Bool :=
  s.inStack && (match s.zon.tracks.find? (fun t => t.id == zTrack b) with
    | some t => !t.remote.isEmpty
    | none => zTrack b / 65536 % 16 != s.pos' && zTrack b / 65536 % 16 == s.f BXL_STATUS_CAPTAIN_POS)

/-- Serve a command (R371): it samples its frame's slot once, and no other command comes between. -/
def State.zonServe (s : State) (c : ZonCmd) : State :=
  let b := c.blk
  let s := s.setZon (fun z => { z with queue := z.queue.erase c })
  let now := s.slotOf (zFrame b)
  let fin := fun (s : State) (status flags id n : Nat) (cf : List Byte) =>
    s.zonServed c (s.zonResult b status flags id n s.now now cf)
  if zOp b ≤ 2 then
    let k := s.zonEarly b now
    let cells := expand b now
    if k ≠ cOK then fin (s.inc ZON_STAT_REFUSED_COUNT) k 0 0 0 []
    else if s.allLocal (zFrame b) cells = false then s.zonForward c
    else
      let r := s.zonReserve b cells
      fin r.2 r.1.1 r.1.2.2.2.2 r.1.2.1 r.1.2.2.1 r.1.2.2.2.1
  else if zOp b = 3 then
    if s.releaseFar b then s.zonForward c
    else
      let r := s.zonRelease b
      fin r.2 r.1.1 0 0 r.1.2 []
  else
    let r := s.zonReleaseOwner b
    fin r.2 cOK 0 0 r.1 []

/-- The command served next: the highest class, then the earliest arrival; none while one is with the Captain. -/
def State.zonNext (s : State) : Option ZonCmd :=
  if s.zon.forwarded.isSome ∨ s.on ZON_CTRL_ENABLE = false then none
  else s.zon.queue.foldl (fun b c => match b with
    | none => some c
    | some x => if c.prio < x.prio || (c.prio == x.prio && c.order < x.order) then some c else some x) none

/-- Serve the next command if it is of an operation. -/
def State.zonServeOp (s : State) (op : Nat) : State :=
  match s.zonNext with
  | some c => if zOp c.blk = op then s.zonServe c else s
  | none => s

/-! ### The Captain's transactions (R382, R383) -/

/-- Send DECIDE to a member. -/
def State.zonDecideTo (s : State) (p prio num : Nat) (commit : Bool) : State :=
  s.zonSend p prio 4 (if commit then cOK else cCANCELLED) num 0 0 []

/-- The transaction is over: its result goes to the origin (R382). -/
def State.zonTxnEnd (s : State) (x : ZonTxn) : State :=
  let b := x.fwd.blk
  let cf := match x.conflict with | some (_, l) => l | none => []
  let pend := match x.conflict with | some (i, _) => i / 2 ^ 32 % 2 | none => 0
  let id := if x.status = cOK ∧ zOp b = 1 then x.track else 0
  let res := s.zonResult b x.status (2 + pend * 4) id x.cells.length x.time x.slot (if x.status = cCONFLICT then cf else [])
  let s := s.setZon (fun z => { z with txn := none })
  let s := match x.fwd.stamp with
    | some st => s.setZon (fun z => { z with kept := ((st, res) :: z.kept).take 64 })
    | none => s
  if x.fwd.origin = s.pos' then
    match s.zon.forwarded with
    | some c => (s.setZon (fun z => { z with forwarded := none })).zonServed c res
    | none => s
  else s.zonSend x.fwd.origin 0 6 x.status x.num 0 0 res

/-- Once every vote is in, the decision is recorded and sent (R382); the Captain's own part takes effect at once. -/
def State.zonDecide (s : State) (x : ZonTxn) : State :=
  let ok := x.status == cOK
  let b := x.fwd.blk
  let me := s.pos'
  let s := s.setZon (fun z => { z with decisions := z.decisions ++ [(x.num, ok)] })
  let s := x.members.foldl (fun s p => if p = me then s else s.zonDecideTo p 0 x.num ok) s
  let s := if zOp b ≤ 2 then
      let s := s.setZon (fun z => { z with
        entries := if ok && zOp b == 1
          then z.entries.map (fun e => if e.txn = some x.num then { e with txn := none } else e)
          else z.entries.filter (fun e => e.txn != some x.num) })
      if ok && zOp b == 1 then
        (s.zonTrackPut (zonTrackOf b x.track (lastSlot x.cells) (x.members.filter (· != me)))).inc ZON_STAT_RESERVED_COUNT
      else s
    else if ok then (s.zonFree (zTrack b)).2 else s
  let wait := x.members.filter (· != me)
  let x := { x with decided := some ok, waiting := wait }
  if wait.isEmpty then s.zonTxnEnd x else s.setZon (fun z => { z with txn := some x })

/-- The lower of two conflicts of a transaction. -/
def lowerConflict : Option (Nat × List Byte) → Option (Nat × List Byte) → Option (Nat × List Byte)
  | none, y => y
  | x, none => x
  | some x, some y => if y.1 % 2 ^ 32 < x.1 % 2 ^ 32 then some y else some x

/-- Numbered cells of a member. -/
def State.cellsOf (s : State) (f p : Nat) (cells : List ZonCell) : List (Nat × ZonCell) :=
  ((List.range cells.length).zip cells).filter (fun c => s.cellOwner f c.2.x c.2.y == p)

/-- A member checks its entries and inserts them as PENDING (R382): the vote, its conflict with the index and whether it
met a pending entry, and the state. -/
def State.zonPrepare (s : State) (f owner track num : Nat) (mine : List (Nat × ZonCell)) (insert : Bool) :
    Nat × Option (Nat × List Byte) × State :=
  match s.firstConflict f owner mine with
  | some (i, c, e) => (cCONFLICT, some (i + b2n e.txn.isSome * 2 ^ 32, conflictBytes i c e), s)
  | none =>
    if insert = false then (cOK, none, s)
    else if s.zonFull f (mine.map Prod.snd) || !(s.zon.copyA && s.zon.copyB) ||
        mine.any (fun c => s.inMerge f c.2.x c.2.y) then (cBUSY, none, s)
    else (cOK, none, s.zonInsert (zonEnts f owner track (some num) (mine.map Prod.snd)))

/-- Bytes of a prepared entry (R491). -/
def cellBytes (c : Nat × ZonCell) : List Byte :=
  leBytes 2 c.2.x ++ leBytes 2 c.2.y ++ leBytes 4 c.2.a ++ leBytes 4 c.2.b ++ leBytes 4 c.1

/-- The Captain begins the next forwarded command when none is under way (R382). OWNER, FRAME, the kind and TRACK_ID, which
a member needs, stand at offsets 8 to 15 of PREPARE (log entry 33). -/
def State.zonTxnStart (s : State) : State :=
  match s.zon.txn, s.zon.fwdQ with
  | none, x :: xs =>
    let b := x.blk
    let f := zFrame b
    let now := s.slotOf f
    let num := s.zon.nextTxn
    let s := s.setZon (fun z => { z with fwdQ := xs, nextTxn := wrapInc 32 num })
    let s := if x.origin = s.pos' then s else s.inc ZON_STAT_CROSS_COUNT
    let kind := if zOp b ≤ 2 then 0 else 1
    let cells := if kind = 0 then expand b now else []
    let tr := s.zon.tracks.find? (fun t => t.id == zTrack b)
    let members := if kind = 0 then (cells.map (fun c => s.cellOwner f c.x c.y)).dedup
      else match tr with | some t => s.pos' :: t.remote | none => []
    let id := match s.trackIndex with | some i => s.trackId i | none => 0
    let early := if kind = 0 then s.zonEarly b now
      else match tr with
        | some t => if s.trackLive t = false then cNOT_FOUND else if t.owner ≠ zOwner b then cNOT_OWNER else cOK
        | none => cNOT_FOUND
    let early := if early = cOK ∧ zOp b = 1 ∧ s.trackIndex = none then cBUSY else early
    let t : ZonTxn := ⟨num, x, cells, members, [], none, none, early, s.now, now, id⟩
    if early ≠ cOK then s.zonTxnEnd t
    else
      let s := if kind = 0 then s.addF ZON_STAT_CELLS_COUNT cells.length else s
      let r := if kind = 0 then s.zonPrepare f (zOwner b) id num (s.cellsOf f s.pos' cells) (zOp b == 1)
        else (cOK, none, s)
      let far := members.filter (· != s.pos')
      let s := far.foldl (fun s p => s.zonSend p 0 2 0 num
        (zOwner b + f * 2 ^ 16 + (if zOp b = 2 then 2 else kind) * 2 ^ 24) (if kind = 0 then id else zTrack b)
        ((s.cellsOf f p cells).flatMap cellBytes)) r.2.2
      let t := { t with status := r.1, conflict := r.2.1, waiting := far }
      if far.isEmpty then s.zonDecide t else s.setZon (fun z => { z with txn := some t })
  | _, _ => s

/-! ### Messages (R382, R383, R491) -/

/-- The content of a split body once its last part is here. -/
def State.zonGather (s : State) (m : BxlMsg) : Option (List Byte) × State :=
  let op := fld m.body 0 1
  let txn := fld m.body 4 4
  let old := match s.zon.parts.find? (fun p => p.src == m.src && p.op == op && p.txn == txn) with
    | some p => p.content
    | none => []
  let all := old ++ m.body.drop 16
  let rest := s.zon.parts.filter (fun p => !(p.src == m.src && p.op == op && p.txn == txn))
  if fld m.body 2 1 + 1 = fld m.body 3 1 then (some all, s.setZon (fun z => { z with parts := rest }))
  else (none, s.setZon (fun z => { z with parts := rest ++ [⟨m.src, op, txn, all⟩] }))

/-- A stamp from its value; 0 is no stamp. -/
def stampOf (v : Nat) : Option Stamp := if v = 0 then none else some ⟨v % 4096, v / 2 ^ 16 % 2 ^ 32, v / 4096 % 16⟩

/-- The result kept under a stamp. -/
def State.keptResult (s : State) (st : Option Stamp) : Option (List Byte) :=
  match st with
  | none => none
  | some x => (s.zon.kept.find? (fun p => p.1 == x)).map Prod.snd

/-- A body that is whole is handled; each message is acknowledged OK. -/
def State.zonMsg (s : State) (m : BxlMsg) (h : State → List Byte → State) : State :=
  s.bxlIn m (fun s =>
    let r := s.zonGather m
    (some cOK, match r.1 with | some c => h r.2 c | none => r.2))

/-- FORWARD at the Captain. -/
def State.zonOnForward (s : State) (m : BxlMsg) (c : List Byte) : State :=
  if s.captain = false then s
  else
    let st := stampOf (fld c 0 8)
    match s.keptResult st with
    | some res => s.zonSend m.src m.prio 6 (fld res 0 1) 0 0 0 res
    | none => (s.setZon (fun z => { z with fwdQ := z.fwdQ ++ [⟨m.src, 0, c.drop 8, st⟩] })).zonTxnStart

/-- The entries of a PREPARE. -/
def prepCells : Nat → List Byte → List (Nat × ZonCell)
  | 0, _ => []
  | k + 1, c =>
    if c.length < 16 then []
    else (fld c 12 4, ⟨fld c 0 2, fld c 2 2, fld c 4 4, fld c 8 4⟩) :: prepCells k (c.drop 16)

/-- PREPARE at a member: it votes, and holds what it voted OK on until a DECIDE. -/
def State.zonOnPrepare (s : State) (m : BxlMsg) (c : List Byte) : State :=
  let num := fld m.body 4 4
  let owner := fld m.body 8 2
  let f := fld m.body 10 1
  let kind := fld m.body 11 1
  let track := fld m.body 12 4
  let r := if kind = 1 then (cOK, none, s) else s.zonPrepare f owner track num (prepCells 4096 c) (kind == 0)
  let s := if r.1 = cOK then r.2.2.setZon (fun z => { z with held := z.held ++ [⟨num, s.tim.edges, kind, f, owner, track⟩] })
    else r.2.2
  match r.2.1 with
  | some (i, l) => s.zonSend m.src m.prio 3 (r.1 + i / 2 ^ 32 * 128) num (i % 2 ^ 32) 0 l
  | none => s.zonSend m.src m.prio 3 r.1 num 0 0 []

/-- VOTE at the Captain. -/
def State.zonOnVote (s : State) (m : BxlMsg) (c : List Byte) : State :=
  match s.zon.txn with
  | none => s
  | some x =>
    if x.num ≠ fld m.body 4 4 ∨ x.decided.isSome = true ∨ x.waiting.contains m.src = false then s
    else
      let st := fld m.body 1 1 % 128
      let cf := if st = cCONFLICT then some (fld m.body 8 4 + fld m.body 1 1 / 128 * 2 ^ 32, c) else none
      let x := { x with
        waiting := x.waiting.filter (· != m.src), conflict := lowerConflict x.conflict cf
        status := if x.status = cBUSY ∨ st = cBUSY then cBUSY else if x.status = cOK then st else x.status }
      if x.waiting.isEmpty then (s.zonDecide x).zonTxnStart else s.setZon (fun z => { z with txn := some x })

/-- DECIDE at a member: PENDING entries become ACTIVE or leave, or a track is freed; DONE answers it. -/
def State.zonOnDecide (s : State) (m : BxlMsg) (_ : List Byte) : State :=
  let num := fld m.body 4 4
  let commit := fld m.body 1 1 == cOK
  let h := s.zon.held.find? (fun h => h.txn == num)
  let s := s.setZon (fun z => { z with
    held := z.held.filter (fun h => h.txn != num)
    entries := if commit then z.entries.map (fun e => if e.txn = some num then { e with txn := none } else e)
      else z.entries.filter (fun e => e.txn != some num) })
  let s := match h with
    | some h =>
      if commit && h.kind == 1 then (s.freeTrack h.track).2.zonMirror 2 (leBytes 4 h.track)
      else if !commit && h.kind == 0 then s.zonMirror 2 (leBytes 4 h.track) else s
    | none => s
  s.zonSend m.src m.prio 5 cOK num 0 0 []

/-- DONE at the Captain. -/
def State.zonOnDone (s : State) (m : BxlMsg) (_ : List Byte) : State :=
  match s.zon.txn with
  | none => s
  | some x =>
    if x.num ≠ fld m.body 4 4 ∨ x.decided = none then s
    else
      let x := { x with waiting := x.waiting.filter (· != m.src) }
      if x.waiting.isEmpty then (s.zonTxnEnd x).zonTxnStart else s.setZon (fun z => { z with txn := some x })

/-- RESULT at the origin: result and notice go through its own write-back. -/
def State.zonOnResult (s : State) (_ : BxlMsg) (c : List Byte) : State :=
  match s.zon.forwarded with
  | some x => (s.setZon (fun z => { z with forwarded := none })).zonServed x c
  | none => s

/-- ASK at the Captain: the recorded decision, or ABORT recorded now (R383). -/
def State.zonOnAsk (s : State) (m : BxlMsg) (_ : List Byte) : State :=
  let num := fld m.body 4 4
  match s.zon.decisions.find? (fun d => d.1 == num) with
  | some d => s.zonDecideTo m.src m.prio num d.2
  | none =>
    match s.zon.txn with
    | some x =>
      if x.num = num then (s.zonDecide { x with status := cCANCELLED }).zonTxnStart
      else (s.setZon (fun z => { z with decisions := z.decisions ++ [(num, false)] })).zonDecideTo m.src m.prio num false
    | none => (s.setZon (fun z => { z with decisions := z.decisions ++ [(num, false)] })).zonDecideTo m.src m.prio num false

/-- The fields of the frame registers and the shard map as CONFIG carries them: the register block from 0x0100 to 0x027F. -/
def zonCfgFields : List RF :=
  ((List.range 8).flatMap (fun f =>
    [ZON_Ff_CFG_VALID f, ZON_Ff_CFG_TILE_SHIFT f, ZON_Ff_CFG_CELL_DM f, ZON_Ff_CFG_QUANTUM_MS f, ZON_Ff_ROT_ROT f,
      ZON_Ff_ORIGIN_N f, ZON_Ff_ORIGIN_E f, ZON_Ff_EPOCH_TICKS f])) ++
    (List.range 256).map (fun i => ⟨0x0200240200 + i / 8 * 4, i % 8 * 4, 4⟩)

/-- CONFIG's content (R381). -/
def State.zonCfgBytes (s : State) : List Byte :=
  leBytes 384 ((zonCfgFields.map (fun r => s.f r * 2 ^ (8 * (r.addr - 0x0200240100) + r.lo))).sum)

/-- CONFIG at a member. -/
def State.zonOnConfig (s : State) (_ : BxlMsg) (c : List Byte) : State :=
  let v := leValue c
  zonCfgFields.foldl (fun s r => s.setF r (v / 2 ^ (8 * (r.addr - 0x0200240100) + r.lo) % 2 ^ r.len)) s

/-- The Captain copies its frame registers and map to every member (R381). -/
def State.zonCfgSend (s : State) : State :=
  if s.inStack && s.on BXL_STATUS_CAPTAIN then
    s.ringOthers.foldl (fun s p => s.zonSend p 0 8 cOK 0 0 0 s.zonCfgBytes) s
  else s

/-! ### Tokens (R365, R373, R377) -/

/-- A refused token or failed check is counted. -/
def State.zonRefused (s : State) (code : Nat) : Nat × State := (code, s.inc ZON_STAT_REFUSED_COUNT)

/-- A command token. With ENABLE = 0 it is refused with NO_ROUTE (log entry 34). -/
def State.zonCommand (s : State) (t : Token) : Nat × State :=
  let addr := bits t.data 39 0
  if t.tag ≠ tagPrio t.tag * 2 ^ 23 ∨ bits t.data 63 40 ≠ 0 ∨ addr % 64 ≠ 0 ∨ blockIn addr 64 true = false then
    s.zonRefused cRANGE
  else if s.on ZON_CTRL_ENABLE = false then s.zonRefused cNO_ROUTE
  else
    let h := s.memRead (ep iZON 0) addr 64
    if h.1 ≠ cOK then h.2.2.zonRefused h.1
    else match s.keptResult t.stamp with
      | some res =>
        let again := res.take 2 ++ leBytes 2 (fld res 2 2 ||| 1) ++ res.drop 4
        let s := s.zonLeave addr h.2.1 again
        (cOK, match t.stamp with | some st => s.confirm st.flow st.seq st.index | none => s)
      | none =>
        if 32 ≤ s.zon.queue.length then s.zonRefused cBUSY
        else
          let n := zCount h.2.1
          let whole := if n ≤ 1024 ∧ 64 + 8 * n ≤ fld h.2.1 20 4 ∧ blockIn addr (64 + 8 * n) true = true
            then (s.memRead (ep iZON 0) addr (64 + 8 * n)).2.1 else h.2.1
          let k := if n ≤ 1024 ∧ 64 + 8 * n ≤ fld h.2.1 20 4 ∧ blockIn addr (64 + 8 * n) true = false then cRANGE
            else s.zonStage whole
          if k ≠ cOK then
            let s := (s.inc ZON_STAT_REFUSED_COUNT).zonFail addr whole k
            (cOK, match t.stamp with | some st => s.confirm st.flow st.seq st.index | none => s)
          else
            let c : ZonCmd := ⟨addr, tagPrio t.tag, s.zon.order, whole, t.stamp⟩
            (cOK, s.setZon (fun z => { z with queue := z.queue ++ [c], order := z.order + 1 }))

/-- A cancel token. -/
def State.zonCancel (s : State) (t : Token) : Nat × State :=
  let addr := bits t.data 39 0
  if t.tag ≠ tagPrio t.tag * 2 ^ 23 ∨ bits t.data 63 40 ≠ 0 ∨ addr % 64 ≠ 0 then s.zonRefused cRANGE
  else match s.zon.queue.find? (fun c => c.addr == addr) with
    | some c =>
      let s := (s.setZon (fun z => { z with queue := z.queue.erase c })).zonFail addr c.blk cCANCELLED
      (cOK, match c.stamp with | some st => s.confirm st.flow st.seq st.index | none => s)
    | none =>
      if s.zon.done.any (fun d => d.addr == addr) ∨ s.zon.forwarded.any (fun c => c.addr == addr) = true then
        s.zonRefused cTOO_LATE
      else s.zonRefused cNOT_FOUND

/-- A token at ZON. -/
def State.zonToken (s : State) (t : Token) : Nat × State :=
  match epPort t.dest with
  | 1 => s.zonCommand t
  | 2 => s.zonCancel t
  | _ => s.zonRefused cNO_ROUTE

/-- Whether the Buddy has acknowledged every mirrored entry (R484). -/
def State.zonMirrored (s : State) : Bool :=
  (s.pair (s.f BXL_STATUS_BUDDY_POS)).unacked.all (fun u => !(u.msg.kind == 4 && fld u.msg.body 0 1 == 3))

/-- The oldest write-back ends: result and notice leave, the stamp is confirmed and kept (R373). -/
def State.zonWriteback (s : State) : State :=
  match (if s.zonMirrored then s.zon.done else []) with
  | [] => s
  | d :: ds =>
    let s := (s.setZon (fun z => { z with done := ds })).zonLeave d.addr d.blk d.result
    match d.stamp with
    | none => s
    | some st =>
      (s.setZon (fun z => { z with kept := ((st, d.result.take 64) :: z.kept).take 64 })).confirm st.flow st.seq st.index

/-- A track expires when its last slot has ended (R376). -/
def State.trackExpire (s : State) (id : Nat) : State :=
  match s.zon.tracks.find? (fun t => t.id == id) with
  | none => s
  | some t =>
    if s.slotOf t.frame ≤ t.last then s
    else
      let s := (s.zonFree id).2.inc ZON_STAT_EXPIRED_COUNT
      if t.notice then s.notice (ep iZON 0) t.ep t.tag (id * 2 ^ 32 + 0x010000 + t.owner) false else s

/-! ### Registers (R364, R379, R381, R385) -/

/-- Bytes of a copy. -/
def copyBytes (log2 : Nat) : Nat := 4259840 + 32 * 2 ^ log2

/-- The LPDDR5 channels of a copy, if it lies in LPDDR5. -/
def copyChannels (base log2 : Nat) : Option (Nat × Nat) :=
  let a := base * 65536
  let e := a + copyBytes log2
  if 0x1000000000 ≤ a ∧ e ≤ 0x1200000000 then some ((a - 0x1000000000) / 0x80000000, (e - 1 - 0x1000000000) / 0x80000000)
  else none

/-- Whether two copies lie in channels of different anchors (R364). -/
def copiesOk (a b log2 : Nat) : Bool :=
  match copyChannels a log2, copyChannels b log2 with
  | some x, some y => decide (x.2 < y.1) || decide (y.2 < x.1)
  | _, _ => false

def aZon (o : Nat) : Nat := 0x0200240000 + o

/-- A write of ZON_CTRL (R364, R385). -/
def State.zonCtrlWrite (s : State) (req value : Nat) : Nat × State :=
  let was := s.on ZON_CTRL_ENABLE
  if bit value 31 = true ∧ was = false ∧
      copiesOk (s.f ZON_TABLE_A_BASE) (s.f ZON_TABLE_B_BASE) (s.f ZON_TABLE_CFG_LOG2_ENTRIES) = false then
    s.regRefuse iZON (aZon 0x20) req cRANGE
  else if bit value 31 = false ∧ was = true ∧ (s.liveEnts ≠ [] ∨ s.zon.queue ≠ []) then s.regRefuse iZON (aZon 0x20) req cBUSY
  else
    let r := s.regW iZON req (aZon 0x20) value
    (r.1, if bit value 31 = true ∧ was = false then r.2.setZon (fun z => { z with copyA := true, copyB := true }) else r.2)

/-- A write of ZON_TABLE_A or ZON_TABLE_B (R379, R385): with REBUILD set and the other copy alive, the new copy is made of
it. -/
def State.zonTableWrite (s : State) (req base value : Nat) : Nat × State :=
  let isA := base % 0x10000 == 0x28
  let v := bits value 39 16
  if s.on ZON_CTRL_ENABLE = false then s.regW iZON req base value
  else if s.on ZON_CTRL_REBUILD = false ∨ s.zon.rebuilding = true ∨
      (if isA then s.zon.copyB else s.zon.copyA) = false then
    s.regRefuse iZON base req cBUSY
  else if copiesOk (if isA then v else s.f ZON_TABLE_A_BASE) (if isA then s.f ZON_TABLE_B_BASE else v)
      (s.f ZON_TABLE_CFG_LOG2_ENTRIES) = false then s.regRefuse iZON base req cRANGE
  else
    let r := s.regW iZON req base value
    (r.1, if r.1 = cOK then
      r.2.setZon (fun z =>
        if isA then { z with copyA := false, rebuilding := true } else { z with copyB := false, rebuilding := true })
      else r.2)

/-- A write of a frame register or of the shard map (R381, R385). -/
def State.zonFrameWrite (s : State) (req base value : Nat) : Nat × State :=
  let o := base % 0x10000
  let busy := if o < 0x200 then
      let f := (o - 0x100) / 0x20
      decide (0 < s.frameLive f) || s.zon.queue.any (fun c => zFrame c.blk == f)
    else (List.range 8).any (fun f => decide (0 < s.frameLive f))
  if s.inStack = true ∧ s.on BXL_STATUS_CAPTAIN = false ∧ epIsl req ≠ iBXL then s.regRefuse iZON base req cNOT_OWNER
  else if busy then s.regRefuse iZON base req cBUSY
  else
    let r := s.regW iZON req base value
    (r.1, if r.1 = cOK then r.2.zonCfgSend else r.2)

/-- A write to a register of ZON that is more than its access codes. -/
def State.zonRegWrite (s : State) (req isl base value : Nat) : Option (Nat × State) :=
  if isl ≠ iZON then none
  else
    let o := base % 0x10000
    if o = 0x20 then some (s.zonCtrlWrite req value)
    else if o = 0x28 ∨ o = 0x30 then some (s.zonTableWrite req base value)
    else if o = 0x38 then (if s.on ZON_CTRL_ENABLE then some (s.regRefuse isl base req cBUSY) else none)
    else if 0x100 ≤ o ∧ o < 0x280 then some (s.zonFrameWrite req base value)
    else none

/-- Registers of ZON that show another part of the state. -/
def State.zonRegLive (s : State) (isl base : Nat) : Option Nat :=
  if isl ≠ iZON then none
  else
    let o := base % 0x10000
    if o = 0x40 then some (b2n s.zon.forwarded.isSome * 256 + s.zon.queue.length)
    else if o = 0x44 then some s.liveEnts.length
    else if o = 0x48 then some (s.zon.tracks.filter (fun t => decide (s.slotOf t.frame ≤ t.last))).length
    else if 0x100 ≤ o ∧ o < 0x200 ∧ o % 0x20 = 0x18 then some (s.slotOf ((o - 0x100) / 0x20))
    else if 0x100 ≤ o ∧ o < 0x200 ∧ o % 0x20 = 0x1C then some (s.frameLive ((o - 0x100) / 0x20))
    else none

/-- ZON is fenced (R379): queued commands are lost; what the copies hold stays, but for reservations whose write-back had
not ended. -/
def State.zonClear (s : State) : State :=
  let s := s.zon.done.foldl (fun s d =>
    if zOp d.blk = 1 ∧ fld d.result 0 1 = cOK ∧ fld d.result 4 4 ≠ 0 then (s.zonFree (fld d.result 4 4)).2 else s) s
  s.setZon (fun z => { z with queue := [], done := [], forwarded := none, parts := [] })

/-- The anchor that carries an LPDDR5 channel fails: ZON goes on with the other copy (R379). -/
def State.zonAnchorLost (s : State) (ch : Nat) : State :=
  let on := fun (base : Nat) => match copyChannels base (s.f ZON_TABLE_CFG_LOG2_ENTRIES) with
    | some x => decide (x.1 ≤ ch) && decide (ch ≤ x.2)
    | none => false
  if s.on ZON_CTRL_ENABLE then
    s.setZon (fun z => { z with
      copyA := z.copyA && !on (s.f ZON_TABLE_A_BASE), copyB := z.copyB && !on (s.f ZON_TABLE_B_BASE) })
  else s

/-! ### Meanings -/

/-- ZON_ENABLE: a write of ZON_CTRL. -/
def execZonEnable (req value : Nat) (s : State) : Res :=
  s.regRow iZON req (aZon 0x20) 4 value (fun s => s.zonCtrlWrite req value)

/-- ZON_COMMAND. -/
def execZonCommand (t : Token) (s : State) : Res := .next (s.arrive t (fun s => s.zonToken t))

/-- RESERVE. -/
def execReserve (s : State) : Res := .next (s.zonServeOp 1)

/-- CHECK. -/
def execCheck (s : State) : Res := .next (s.zonServeOp 2)

/-- ZON_RELEASE. -/
def execZonRelease (s : State) : Res := .next (s.zonServeOp 3)

/-- RELEASE_OWNER. -/
def execReleaseOwner (s : State) : Res := .next (s.zonServeOp 4)

/-- ZON_WRITEBACK_DONE. -/
def execZonWritebackDone (s : State) : Res := .next s.zonWriteback

/-- ZON_CANCEL. -/
def execZonCancel (t : Token) (s : State) : Res := .next (s.arrive t (fun s => s.zonToken t))

/-- TRACK_EXPIRY. -/
def execTrackExpiry (track : Nat) (s : State) : Res := .next (s.trackExpire track)

/-- ZON_REBUILD: a write of ZON_TABLE_A (copy 0) or ZON_TABLE_B (copy 1). -/
def execZonRebuild (req copy value : Nat) (s : State) : Res :=
  let a := if copy = 0 then aZon 0x28 else aZon 0x30
  s.regRow iZON req a 8 value (fun s => s.zonTableWrite req a value)

/-- ZON_REBUILD_DONE: the new copy is whole, and RESERVE is served again (R379). -/
def execZonRebuildDone (s : State) : Res :=
  .next (if s.zon.rebuilding then s.setZon (fun z => { z with copyA := true, copyB := true, rebuilding := false }) else s)

/-- ZON_2PC_HOLD_TIMEOUT: the Captain in office is asked (R383), and the wait starts again. -/
def execZon2pcHoldTimeout (txn : Nat) (s : State) : Res :=
  .next (match s.zon.held.find? (fun h => h.txn == txn) with
    | some h =>
      if h.since + s.f ZON_2PC_HOLD_MS * 100000 ≤ s.tim.edges then
        let s := s.setZon (fun z => { z with
          held := z.held.map (fun x => if x.txn = txn then { x with since := s.tim.edges } else x) })
        s.zonSend (s.f BXL_STATUS_CAPTAIN_POS) 0 7 cOK txn 0 0 []
      else s
    | none => s)

def execForward (m : BxlMsg) (s : State) : Res := .next (s.zonMsg m (fun s c => s.zonOnForward m c))
def execPrepare (m : BxlMsg) (s : State) : Res := .next (s.zonMsg m (fun s c => s.zonOnPrepare m c))
def execVote (m : BxlMsg) (s : State) : Res := .next (s.zonMsg m (fun s c => s.zonOnVote m c))
def execDecide (m : BxlMsg) (s : State) : Res := .next (s.zonMsg m (fun s c => s.zonOnDecide m c))
def execZonDone (m : BxlMsg) (s : State) : Res := .next (s.zonMsg m (fun s c => s.zonOnDone m c))
def execZonResult (m : BxlMsg) (s : State) : Res := .next (s.zonMsg m (fun s c => s.zonOnResult m c))
def execZonAsk (m : BxlMsg) (s : State) : Res := .next (s.zonMsg m (fun s c => s.zonOnAsk m c))
def execZonConfig (m : BxlMsg) (s : State) : Res := .next (s.zonMsg m (fun s c => s.zonOnConfig m c))

end Sys2Proof.Machine
end

