-- ==== Sys2Proof/Machine/Bxl.lean ====
section
/-! DEFINITION. Bexlink (R468 to R498): links and Kickoff, the Roster, mirroring, takeover, join and leave, time. -/

namespace Sys2Proof.Machine

def State.setBxl (s : State) (f : BxlSt → BxlSt) : State := { s with bxl := f s.bxl }

def State.setRos (s : State) (p : Nat) (e : RosterEnt) : State :=
  s.setBxl (fun b => { b with roster := Tab.set (fun _ => RosterEnt.none) b.roster p e })

/-- A notice of BXL (R498). -/
def State.bxlNotice (s : State) (kind pos status hi : Nat) : State :=
  if s.on BXL_NOTICE_EN && bit (s.f BXL_NOTICE_EN_EN) (kind - 1) then
    s.notice (ep iBXL 0) (s.f BXL_NOTICE_EP) (s.f BXL_NOTICE_TAG)
      (hi % 2 ^ 32 * 2 ^ 32 + pos * 2 ^ 16 + status * 2 ^ 8 + kind) false
  else s

def State.linkUp (s : State) (p : Nat) : Bool := s.f (BXL_Pp_STATUS_LINK p) == 2

/-- This module's unit ID. -/
def State.unitId (s : State) : Nat := s.f UPD_UNIT_ID_LO_ID + s.f UPD_UNIT_ID_HI_ID * 2 ^ 64

/-! ### The Roster (R476, R477) -/

def State.rosterCount (s : State) : Nat := (idxWhere 16 s.liveAt).length

def RosterEnt.bytes (e : RosterEnt) : List Byte :=
  leBytes 16 e.unit ++ leBytes 1 e.st ++ leBytes 1 e.ring ++ leBytes 1 e.buddy ++ leBytes 1 e.served ++ leBytes 12 0

/-- The body of a ROSTER message. -/
def State.rosterBody (s : State) : List Byte :=
  leBytes 2 (s.f BXL_STATUS_EPOCH) ++ leBytes 1 (s.f BXL_STATUS_CAPTAIN_POS) ++ leBytes 1 s.rosterCount ++ leBytes 4 0 ++
    (List.range 16).flatMap (fun p => (s.ros p).bytes)

/-- The entries of a ROSTER body. -/
def rosterOf (b : List Byte) : Tab RosterEnt :=
  (List.range 16).foldl (fun t p =>
    let e := b.drop (8 + 32 * p)
    Tab.set (fun _ => RosterEnt.none) t p ⟨fld e 0 16, fld e 16 1, fld e 17 1, fld e 18 1, fld e 19 1⟩) []

/-- The next member east of a position in ring order. -/
def State.eastOf (s : State) (p : Nat) : Option Nat :=
  let n := s.rosterCount
  if n < 2 then none
  else ((List.range n).filterMap (fun d =>
    firstIdx 16 (fun q => s.liveAt q && q != p && (s.ros q).ring == ((s.ros p).ring + d + 1) % n))).head?

/-- The member whose Buddy a position is. -/
def State.westOf (s : State) (p : Nat) : Option Nat := firstIdx 16 (fun q => s.liveAt q && q != p && s.eastOf q == some p)

/-- The port on the path with fewer hops to a member, west on a tie; the other one while that link is not UP (R478,
R488). -/
def State.portTo (s : State) (p : Nat) : Nat :=
  let n := max s.rosterCount 1
  let west := ((s.ros s.pos').ring + n - (s.ros p).ring) % n
  let east := ((s.ros p).ring + n - (s.ros s.pos').ring) % n
  let k := if west ≤ east then 0 else 1
  if s.linkUp k then k else if s.linkUp (1 - k) then 1 - k else k

/-! ### Sending, and what an acknowledgement completes (R480, R484) -/

/-- Whether messages go to a member: it is live, or a failed one for which another answers. -/
def State.reachable (s : State) (p : Nat) : Bool := s.liveAt p || (s.ros p).st == 4

/-- Whether an acknowledgement completes something of the mirror. -/
def BxlAct.mirrors : BxlAct → Bool
  | .update _ _ _ _ => false
  | .scb _ => false
  | _ => true

/-- A member is Buddy no longer: what its acknowledgements would have completed waits for the new Buddy. The messages of
the mirror to a member that is gone are taken back. -/
def State.pairDrop (s : State) (p : Nat) : State :=
  let mine := fun (u : BxlPend) => match u.act with | some a => a.mirrors | none => false
  let l := (s.pair p).unacked
  let acts := (l.filter mine).filterMap BxlPend.act
  let l := if s.liveAt p then l.map (fun u => if mine u then { u with act := none } else u)
    else l.filter (fun u => !mine u && u.msg.kind != 4)
  (s.setPair p { s.pair p with unacked := l }).setBxl (fun b => { b with waiting := b.waiting ++ acts })

/-- A copy of the whole journal, of the flow-bound descriptors and of the Zone table to a member (R489). -/
def State.mirrorAll (s : State) (p : Nat) : State :=
  let s := s.memc.live.foldl (fun s r => if r.retired then s else s.bxlSend p 0x04 0 (mirrorBody r)) s
  let s := s.dug.inst.foldl (fun s e =>
    if e.2.flowBound && !e.2.guest && e.2.st != 0 then
      s.bxlSend p 0x04 0 (leBytes 1 2 ++ leBytes 3 0 ++ leBytes 4 e.1 ++ (e.2.words 0).flatMap (leBytes 8))
    else s) s
  let z := fun (s : State) (kind : Nat) (c : List Byte) =>
    if c.isEmpty then s else (pieces 1000 256 c).foldl (fun s c =>
      s.bxlSend p 0x04 0 (leBytes 1 3 ++ leBytes 3 0 ++ leBytes 4 kind ++ c)) s
  z (z s 0 (s.zon.entries.flatMap ZonEnt.bytes)) 1 (s.zon.tracks.flatMap ZonTrack.bytes)

/-- A CONTROL message (R479). -/
def State.control (s : State) (dst op member status : Nat) (data : List Byte) : State :=
  s.bxlSend dst 0x0B 0 (leBytes 1 op ++ leBytes 1 member ++ leBytes 1 status ++ leBytes 1 0 ++ data)

/-- The fresh copy has arrived whole: HANDOVER_DONE goes to the Captain (R489). -/
def State.handoverCheck (s : State) : State :=
  match s.bxl.handover with
  | none => s
  | some p =>
    if (s.pair p).unacked.any (fun u => u.msg.kind == 4) then s
    else if s.on BXL_STATUS_CAPTAIN then s
    else (s.setBxl (fun b => { b with handover := none })).control (s.f BXL_STATUS_CAPTAIN_POS) 6 p 0 []

/-- Begin a fresh copy to a member. -/
def State.handoverTo (s : State) (p : Nat) : State :=
  ((s.setBxl (fun b => { b with handover := some p })).mirrorAll p).handoverCheck

/-! ### The partner's mirror (R484, R485) -/

/-- Output entries of a commit record (R589). -/
def parseOuts : Nat → List Byte → List Out
  | 0, _ => []
  | n + 1, b => ⟨fld b 0 2, fld b 2 1, fld b 3 1, fld b 4 4, fld b 8 8⟩ :: parseOuts n (b.drop 16)

/-- A record from its bytes, if it is valid (R50, R51); of the guest flow table for a partner's. -/
def parseRec (off : Nat) (guest : Bool) (b : List Byte) : Option JRec :=
  let len := fld b 0 2
  let k := fld b 2 1
  let kind := k % 8
  if len < 32 ∨ 1024 < len ∨ len % 32 ≠ 0 ∨ b.length < len ∨ kind = 0 ∨ 4 < kind then none
  else
    let b := b.take len
    let outs := if kind = 2 then parseOuts (fld b 24 2) (b.drop 32) else []
    let rel := fld b 26 2
    if crc32c (b.take 26 ++ leBytes 2 0 ++ b.drop 32) ≠ fld b 28 4 then none
    else some ⟨off, len, k / 128, kind, k / 8 % 8, fld b 3 1, fld b 4 2 % 4096 + (if guest then 4096 else 0), fld b 4 2 / 4096,
      fld b 6 2, fld b 8 4, fld b 12 4, fld b 16 8, outs, rel, List.range rel, if kind = 1 then b.drop 32 else [],
      kind == 3 || kind == 4 || (kind == 2 && rel == outs.length)⟩

/-- The retention entry of an item record, in an area that starts at an address (R54). A host's session number is not in
the record: the entry keeps the one it holds, and where it holds none the number is open. -/
def State.recRetention (s : State) (base : Nat) (r : JRec) : Option (Nat × List Byte) × State :=
  if r.source = 2 then
    (some (r.sref / 2 ^ 16 % 64 * 16, leBytes 1 1 ++ leBytes 1 (r.sref / 2 ^ 22 % 4) ++ leBytes 2 (r.flow % 4096) ++
      leBytes 2 (r.sref % 2 ^ 16) ++ leBytes 6 0), s)
  else if r.source = 3 then
    let o := 0x400 + r.slot * 16
    let old := s.rdBytes (base + o) 16
    let v := crc32c (old.take 12) == fld old 12 4 && fld old 10 1 == 1
    let n := s.free 32
    let x := if v then (fld old 0 4, s) else n
    (some (o, leBytes 4 x.1 ++ leBytes 4 r.sref ++ leBytes 2 (r.flow % 4096) ++ leBytes 1 1 ++ leBytes 1 0), x.2)
  else if r.source = 4 then
    (some (0x800 + (fld r.payload 8 1 % 16 * 64 + r.sref % 64) * 16, r.payload.take 8 ++ leBytes 4 r.sref), s)
  else (none, s)

/-- The guest flow table follows a mirrored record (R160, R485). -/
def State.guestFlowRec (s : State) (r : JRec) : State :=
  let fl := s.flow r.flow
  if r.kind = 1 then s.setFlow r.flow { fl with
    nextAccept := wrapInc 32 r.seq
    nextServe := if (s.flowPending r.flow).all (fun x => x.seq == r.seq) then r.seq else fl.nextServe }
  else if r.kind = 2 ∨ r.kind = 3 then (s.setFlow r.flow { fl with nextServe := wrapInc 32 r.seq }).retireItem r.flow r.seq
  else s

/-- Guest items with no valid commit or cancelled record (R497). -/
def State.guestPending (s : State) : Nat := (s.bxl.guest.filter (fun r => r.kind == 1 && !r.retired)).length

/-- A guest instance leaves. -/
def State.guestInstDrop (s : State) (src : Nat) : State :=
  match s.bxl.guestMap.find? (fun p => p.1 == src) with
  | none => s
  | some p => ((s.unbind p.2).freeInst p.2).setBxl (fun b => { b with guestMap := b.guestMap.filter (fun q => q.1 != src) })

/-- What is held for a partner is dropped, for the next one (R489, R492). -/
def State.guestDrop (s : State) : State :=
  let s := s.bxl.guestMap.foldl (fun s p => s.guestInstDrop p.1) s
  let s := { s with dug := { s.dug with flows := s.dug.flows.filter (fun p => decide (p.1 < 4096)) } }
  (s.setBxl (fun b => { b with guest := [], guestHead := 0, guestLap := 0 })).setF BXL_TAKEOVER_ACTIVE 0

/-- Zone entries in ZON's layout. -/
def parseEnts : Nat → List Byte → List ZonEnt
  | 0, _ => []
  | n + 1, b =>
    if b.length < 20 then []
    else ⟨fld b 0 1, fld b 4 2, fld b 6 2, fld b 8 4, fld b 12 4, fld b 2 2, fld b 16 4, none⟩ :: parseEnts n (b.drop 20)

def parseTracks : Nat → List Byte → List ZonTrack
  | 0, _ => []
  | n + 1, b =>
    if b.length < 20 then []
    else ⟨fld b 0 4, fld b 12 1 % 8, fld b 4 2, fld b 6 2, fld b 8 4, bit (fld b 12 1) 3, fld b 16 4, []⟩ ::
      parseTracks n (b.drop 20)

/-- A descriptor for the guest range, or its removal (R485): BUSY when the range is full. -/
def State.guestDesc (s : State) (src : Nat) (ws : List Nat) : Nat × State :=
  let s := s.guestInstDrop src
  if ws.all (· == 0) then (cOK, s)
  else
    let base := s.f BXL_GUEST_BASE
    match firstIdx (s.f BXL_GUEST_COUNT) (fun k => (s.inst (base + k)).st == 0) with
    | none => (cBUSY, s)
    | some k =>
      let i := base + k
      let d : Desc := { Desc.ofWords ws with guest := true, st := 2, gen := ((s.inst i).gen + 1) % 16 }
      let s := (s.setInst i d).setFlow d.flow { s.flow d.flow with bound := some i }
      (cOK, s.setBxl (fun b => { b with guestMap := b.guestMap ++ [(src, i)] }))

/-- A MIRROR message at the Buddy (R484): the status of its acknowledgement. A new partner waits until no guest item of the
last one is pending (R492); what was held for that one is then dropped. -/
def State.mirrorIn (s : State) (src : Nat) (b : List Byte) : Nat × State :=
  let off := fld b 4 4
  let c := b.drop 8
  let change := s.bxl.partner != some src
  if change && s.on BXL_TAKEOVER_ACTIVE && decide (0 < s.guestPending) then (cBUSY, s)
  else
    let s := if change then s.guestDrop.setBxl (fun x => { x with partner := some src }) else s
    let ty := fld b 0 1
    if ty = 1 then
      match parseRec off true c with
      | none => (cINTEGRITY, s)
      | some r =>
        let s := (s.guestPut r).guestFlowRec r
        let e := if r.kind = 1 then s.recRetention (mirrorAddr 0x1F8000) r else (none, s)
        let s := match e.1 with | some x => e.2.mirrorRetain x.1 x.2 | none => e.2
        (cOK, s.guestTail)
    else if ty = 2 then s.guestDesc off ((List.range 8).map (fun k => fld c (8 * k) 8))
    else if ty = 3 then
      if off = 0 then
        let es := parseEnts 64 c
        (cOK, s.setBxl (fun x => { x with
          guestEnts := x.guestEnts.filter (fun e => !es.contains e.2) ++ es.map (fun e => (src, e)) }))
      else if off = 1 then
        let ts := parseTracks 64 c
        (cOK, s.setBxl (fun x => { x with
          guestTracks := x.guestTracks.filter (fun t => !ts.any (fun u => u.id == t.2.id)) ++ ts.map (fun t => (src, t)) }))
      else
        let id := fld c 0 4
        (cOK, s.setBxl (fun x => { x with
          guestEnts := x.guestEnts.filter (fun e => e.2.track != id)
          guestTracks := x.guestTracks.filter (fun t => t.2.id != id) }))
    else (cRANGE, s)

/-- The Buddy serves a member's tiles from its guest copy, whose entries it merges (R490, R493). -/
def State.takeTiles (s : State) (m : Nat) : State :=
  let es := (s.bxl.guestEnts.filter (fun e => e.1 == m)).map Prod.snd
  let ts := (s.bxl.guestTracks.filter (fun e => e.1 == m)).map Prod.snd
  let s := s.setBxl (fun b => { b with
    guestEnts := b.guestEnts.filter (fun e => e.1 != m), guestTracks := b.guestTracks.filter (fun e => e.1 != m) })
  s.setZon (fun z => { z with entries := z.entries ++ es, tracks := z.tracks ++ ts, merging := m :: z.merging })

/-- The Buddy takes over (R492): guest flows deliver from their first item that is not served, and committed outputs leave
again from RELEASED. Whether an item had been dispatched before stands in no record: its ATTEMPT is open. -/
def State.takeover (s : State) (m : Nat) : State :=
  let s := (s.setF BXL_TAKEOVER_ACTIVE 1).setF BXL_TAKEOVER_PARTNER m
  let s := (s.dug.flows.filter (fun p => guestFlow p.1)).foldl (fun s p =>
    match s.flowPending p.1 with
    | [] => s
    | r :: _ =>
      let n := s.free 1
      n.2.setFlow p.1 { n.2.flow p.1 with nextServe := r.seq, delivered := false, again := n.1 }) s
  let s := s.bxl.guest.foldl (fun s r =>
    if r.kind = 2 then s.releaseFrom r.flow r.seq r.released (r.outs.drop r.released) else s) s
  let s := s.takeTiles m
  (s.bxlNotice 3 m cOK s.now).stage 0x2902 [m]

/-! ### Applying a Roster -/

/-- The upstream port (R488). -/
def State.upstream (s : State) : State := s.setF BXL_TIME_UPSTREAM (s.portTo (s.f BXL_STATUS_CAPTAIN_POS))

/-- BXL's own write of TIM_SRC.SEL (R488, R494). -/
def State.bxlSrc (s : State) (sel : Nat) : State :=
  (s.srcWrite (ep iBXL 0) (sel + s.f TIM_SRC_PPS_INPUT * 16 + s.f TIM_SRC_TIMEOUT * 2 ^ 16)).2

/-- This member becomes Captain on succession (R494). -/
def State.succeed (s : State) : State :=
  let s := ((s.setF BXL_STATUS_CAPTAIN 1).setF BXL_STATUS_CAPTAIN_POS s.pos').bxlSrc (s.f BXL_CFG_CAPTAIN_SRC)
  if s.tim.qst = 2 ∨ s.tim.qst = 3 then s.timState 4 4 else s

/-- A member is gone from the release, from the Captain's transaction and from a forwarded command. -/
def State.forget (s : State) (m : Nat) : State :=
  let s := if s.stop.asked.contains m then s.stopAnswer m cOK else s
  match s.zon.txn with
  | some x =>
    if x.waiting.contains m then
      let w := x.waiting.filter (· != m)
      if x.decided.isSome then
        (if w.isEmpty then (s.zonTxnEnd { x with waiting := w }).zonTxnStart else s.setZon (fun z => { z with txn := some { x with waiting := w } }))
      else
        let x := { x with waiting := w, status := cBUSY }
        if w.isEmpty then (s.zonDecide x).zonTxnStart else s.setZon (fun z => { z with txn := some x })
    else s
  | none => s

/-- A member is declared failed (R492): its Buddy takes over, the member it was Buddy of loses its Buddy and begins a fresh
copy to the next one. -/
def State.memberGone (s : State) (m : Nat) : State :=
  let e := s.ros m
  if e.st = 0 ∨ e.st = 4 ∨ e.st = 5 then s
  else
    let b := if e.buddy < 16 then e.buddy else (s.eastOf m).getD 0xFF
    let wasMine := s.on BXL_GUEST_HAS_BUDDY && s.f BXL_STATUS_BUDDY_POS == m
    let s := s.setRos m { e with st := 4, served := b }
    let s := s.setBxl (fun x => { x with depends := x.depends.filter (· != m) ++ [m] })
    let s := (s.setF BXL_MEMBERS_FAILED (s.f BXL_MEMBERS_FAILED ||| 2 ^ m)).setF BXL_MEMBERS_MEMBER
      (s.f BXL_MEMBERS_MEMBER &&& (2 ^ 16 - 1 - 2 ^ m))
    let s := s.forget m
    let s := if b = s.pos' ∧ s.bxl.partner = some m then s.takeover m else s
    let s := if m = s.f BXL_STATUS_CAPTAIN_POS ∧ b = s.pos' then s.succeed else s
    let s := match s.zon.forwarded with
      | some c => if m = s.f BXL_STATUS_CAPTAIN_POS then s.zonForward c else s
      | none => s
    if wasMine then
      let s := (s.pairDrop m).setF BXL_GUEST_HAS_BUDDY 0
      let s := s.setRos s.pos' { s.ros s.pos' with buddy := 0xFF }
      if b < 16 ∧ b ≠ s.pos' then s.handoverTo b else s
    else s

/-- The registers follow the Roster (R477, R497), and STATE follows this member's entry. -/
def State.rosterRegs (s : State) (captain epoch : Nat) : State :=
  let me := match firstIdx 16 (fun p => (s.ros p).unit == s.unitId && (s.ros p).st != 0) with
    | some p => p
    | none => s.pos'
  let e := s.ros me
  let s := (((s.setF BXL_STATUS_EPOCH epoch).setF BXL_STATUS_CAPTAIN_POS captain).setF BXL_STATUS_POSITION me).setF
    BXL_STATUS_CAPTAIN (b2n (captain == me))
  let mask := fun k => ((List.range 16).map (fun p => if (s.ros p).st = k then 2 ^ p else 0)).sum
  let s := (s.setF BXL_MEMBERS_MEMBER (mask 1)).setF BXL_MEMBERS_FAILED (mask 4)
  let has := decide (e.buddy < 16) && (e.st == 1 || e.st == 3)
  let s := (s.setF BXL_GUEST_HAS_BUDDY (b2n has)).setF BXL_STATUS_BUDDY_POS (if has then e.buddy else s.f BXL_STATUS_BUDDY_POS)
  let st := s.f BXL_STATUS_STATE
  s.setF BXL_STATUS_STATE (
    if st = 3 then 3 else if e.st = 5 then 5 else if e.st = 3 then 4
    else if e.st = 1 ∧ (captain = me ∨ s.on BXL_TIME_LOCKED = true) then 2
    else if e.st = 1 ∧ st = 2 then 2
    else if e.st = 1 ∨ e.st = 2 then 1 else st)

/-- A new Roster takes effect (R477, R480, R485 to R492): pairs of a member that enters start again, but for the pair with
the sender of the ROSTER; members newly failed are declared; the mirror goes to the Buddy it names. -/
def State.rosterApply (s : State) (new : Tab RosterEnt) (captain epoch : Nat) (src : Option Nat) : State :=
  let get := fun p => Tab.get (fun _ => RosterEnt.none) new p
  let live := fun (e : RosterEnt) => 1 ≤ e.st && e.st ≤ 3
  let hadBuddy := s.on BXL_GUEST_HAS_BUDDY
  let oldBuddy := s.f BXL_STATUS_BUDDY_POS
  let formed := decide (s.f BXL_STATUS_EPOCH ≠ 0)
  let was := s.on BXL_STATUS_CAPTAIN
  let s := (List.range 16).foldl (fun s p => if (get p).st = 4 then s.memberGone p else s) s
  let entered := idxWhere 16 (fun p => live (get p) && !s.liveAt p)
  let s := s.setBxl (fun b => { b with roster := new })
  let s := entered.foldl (fun s p =>
    let s := s.setBxl (fun b => { b with beats := Tab.set (fun _ => 0) b.beats p s.tim.edges })
    if src = some p then s else s.setPair p BxlPair.fresh) s
  let s := s.rosterRegs captain epoch
  let s := if was && !s.on BXL_STATUS_CAPTAIN then s.gobNotCaptain else s
  let s := if !was && s.on BXL_STATUS_CAPTAIN && formed then s.succeed else s
  let s := if s.inStack && !s.on BXL_STATUS_CAPTAIN && s.f TIM_SRC_SEL != 4 then s.bxlSrc 4 else s
  let s := s.upstream
  let has := s.on BXL_GUEST_HAS_BUDDY
  let buddy := s.f BXL_STATUS_BUDDY_POS
  let s :=
    if has && (!hadBuddy || oldBuddy != buddy) then
      let s := if hadBuddy then s.pairDrop oldBuddy else s
      let s := if formed then s else s.mirrorAll buddy
      s.setBxl (fun b => { b with finish := b.finish ++ b.waiting, waiting := [], handover := none })
    else s
  let s := (idxWhere 16 (fun p => (s.ros p).st == 5 && (s.ros p).served == s.pos' &&
    s.bxl.guestEnts.any (fun e => e.1 == p))).foldl State.takeTiles s
  let s := (idxWhere 16 (fun p => (s.ros p).st == 3 && p != s.pos')).foldl (fun s p =>
    match s.eastOf p with
    | some b => if has && buddy == p && s.bxl.handover == none && b != s.pos' then s.handoverTo b else s
    | none => s) s
  let s := if s.f BXL_STATUS_STATE = 5 then
      let s := ((s.setF (BXL_Pp_STATUS_LINK 0) 0).setF (BXL_Pp_STATUS_LINK 1) 0).setBxl (fun b => { b with leaveSent := false })
      if s.on BXL_CMD_BUSY && s.f BXL_CMD_OP == 1 then (s.setF BXL_CMD_BUSY 0).setF BXL_CMD_STATUS cOK else s
    else s
  s.bxlNotice 1 captain cOK s.now

/-- The Captain publishes a changed Roster (R477). -/
def State.publishAs (s : State) (new : Tab RosterEnt) (captain : Nat) : State :=
  let e := wrapInc 16 (s.f BXL_STATUS_EPOCH)
  let s := s.rosterApply new captain e none
  s.others.foldl (fun s p => s.bxlSend p 0x05 0 s.rosterBody) s

def State.publish (s : State) (new : Tab RosterEnt) : State := s.publishAs new s.pos'

/-- Change one entry. -/
def rosSet (t : Tab RosterEnt) (p : Nat) (f : RosterEnt → RosterEnt) : Tab RosterEnt :=
  Tab.set (fun _ => RosterEnt.none) t p (f (Tab.get (fun _ => RosterEnt.none) t p))

/-- The time configuration of the Captain (R479, R488). -/
def State.timeCfg (s : State) : Nat × Nat × Nat :=
  (s.f TIM_GPS_OFFSET_TICKS, s.f TIM_LEAP_CUR + s.f TIM_LEAP_NEXT * 2 ^ 8 + s.f TIM_LEAP_PENDING * 2 ^ 16 +
    s.f TIM_LEAP_VALID * 2 ^ 17, s.f TIM_LEAP_AT_SECONDS)

def State.timeCfgSend (s : State) (l : List Nat) : State :=
  let c := s.timeCfg
  let s := s.setBxl (fun b => { b with cfgSent := c })
  l.foldl (fun s p => s.bxlSend p 0x07 0 (leBytes 8 c.1 ++ leBytes 4 c.2.1 ++ leBytes 8 c.2.2 ++ leBytes 4 0)) s

/-! ### Kickoff (R472 to R475) -/

/-- Whether this module is in a formed stack. -/
def State.formed (s : State) : Bool := s.f BXL_STATUS_EPOCH != 0 && s.liveAt s.pos' && (s.ros s.pos').st != 2

/-- The toss record (R473). -/
def State.tossRecord (s : State) : List Byte :=
  leBytes 4 (s.f UPD_HW_TYPE_TYPE) ++ leBytes 2 Config.bxlVersion ++ leBytes 1 (s.f BXL_CFG_CAPTAIN_PRIO) ++
    leBytes 1 (b2n s.formed) ++ leBytes 16 s.unitId ++ leBytes 8 (s.f BXL_STACK_ID_ID) ++
    leBytes 4 (s.f UPD_VERSION_ENGINE) ++ leBytes 2 (if s.formed then s.f BXL_STATUS_EPOCH else 0) ++ leBytes 26 0

def State.tossSend (s : State) (p : Nat) (r : List Byte) : State :=
  if s.linkUp p then s.setBxl (fun b => { b with tossOut := b.tossOut ++ [(p, r)] }) else s

/-- A link changes: its notice. The status of one that goes down is open. -/
def State.linkNotice (s : State) (p : Nat) : State :=
  if s.linkUp p then s.bxlNotice 2 p cOK s.now
  else
    let c := s.free 8
    c.2.bxlNotice 2 p c.1 s.now

/-- Steps 1 to 5 of Kickoff end on a port (R472): the lanes were detected or not, the preset kept, the skew in 0.125 ns and
the delay in ps. Over the limits of R469, or without its anchor (R64), the link is FAILED; otherwise the toss record goes out. -/
def State.trainEnd (s : State) (p : Nat) (detected : Bool) (preset skew delay : Nat) : State :=
  let ok := detected && decide (skew ≤ 32) && decide (delay ≤ 10000) && s.ist (iENG (14 + p)) != 5
  let s := s.setBxl (fun b => { b with trained := Tab.set (fun _ => 0) b.trained p s.tim.edges })
  let s := (((s.setF (BXL_Pp_STATUS_PRESET p) preset).setF (BXL_Pp_STATUS_SKEW p) (min skew 63)).setF (BXL_Pp_STATUS_DELAY p)
    (min delay 16383)).setF (BXL_Pp_STATUS_LINK p) (if ok then 2 else if detected then 3 else 0)
  let s := if s.f BXL_STATUS_STATE = 0 then s.setF BXL_STATUS_STATE 1 else s
  let s := if ok then
      (s.setBxl (fun b => { b with toss0 := some (b.toss0.getD s.tim.edges) })).tossSend p s.tossRecord else s
  let s := if s.on BXL_CMD_BUSY && s.f BXL_CMD_OP == 2 + p then
      let c := s.free 8
      if ok then (s.setF BXL_CMD_BUSY 0).setF BXL_CMD_STATUS cOK else (c.2.setF BXL_CMD_BUSY 0).setF BXL_CMD_STATUS c.1
    else s
  (s.linkNotice p).upstream

/-- A link is marked DOWN (R471, R495). -/
def State.linkDown (s : State) (p : Nat) : State :=
  let s := s.setF (BXL_Pp_STATUS_LINK p) 0
  let s := s.setBxl (fun b => { b with trained := Tab.set (fun _ => 0) b.trained p s.tim.edges })
  (s.linkNotice p).upstream

/-- Whether a neighbour's toss record lets the link be used (R473). -/
def State.tossFits (s : State) (r : List Byte) : Bool :=
  fld r 0 4 == s.f UPD_HW_TYPE_TYPE && fld r 5 1 == Config.bxlVersion / 256 % 256 && fld r 24 8 == s.f BXL_STACK_ID_ID &&
    !(s.formed && bit (fld r 7 1) 0 && !(List.range 16).any (fun p => s.liveAt p && (s.ros p).unit == fld r 8 16))

/-- A toss record arrives on a port (R473, R475): the first is the neighbour's and decides about the link; the others are
passed on until they are back. -/
def State.toss (s : State) (p : Nat) (r : List Byte) : State :=
  if s.linkUp p = false then s
  else
    let first := !s.bxl.tosses.any (fun t => t.port == p)
    let hops := (s.bxl.tosses.filter (fun t => t.port == p)).length + 1
    if first && !s.tossFits r then
      (s.setF (BXL_Pp_STATUS_LINK p) 0).linkNotice p |>.stage 0x2901 [p]
    else
      let s := s.setBxl (fun b => { b with tosses := b.tosses ++ [⟨p, hops, r⟩] })
      if fld r 8 16 = s.unitId then s else s.tossSend (1 - p) r

/-- The members that discovery found, in ring order going east from this module: unit, priority and image (R474). -/
def State.found (s : State) : List (Nat × Nat × Nat) :=
  let of := fun (p : Nat) => (s.bxl.tosses.filter (fun t => t.port == p && fld t.record 8 16 != s.unitId)).map
    (fun t => (fld t.record 8 16, fld t.record 6 1, fld t.record 32 4))
  let east := of 1
  let west := (of 0).filter (fun t => !east.any (fun u => u.1 == t.1))
  (s.unitId, s.f BXL_CFG_CAPTAIN_PRIO, s.f UPD_VERSION_ENGINE) :: (east ++ west.reverse)

/-- The Captain of those found (R474): the highest priority, then the lowest unit ID. -/
def electCaptain : List (Nat × Nat × Nat) → Nat × Nat × Nat
  | [] => (0, 0, 0)
  | [x] => x
  | x :: l =>
    let y := electCaptain l
    if y.2.1 < x.2.1 ∨ (y.2.1 = x.2.1 ∧ x.1 ≤ y.1) then x else y

/-- Whether the neighbour on a port looped back to this module (R475). -/
def State.looped (s : State) : Bool :=
  s.bxl.tosses.any (fun t => t.hops == 1 && fld t.record 8 16 == s.unitId)

/-- A stack of one: this module is its Captain (R475). -/
def State.stackOfOne (s : State) : State :=
  let s := s.rosterApply (rosSet [] 0 (fun _ => ⟨s.unitId, 1, 0, 0xFF, 0⟩)) 0 1 none
  s.setBxl (fun b => { b with tosses := [], toss0 := none })

/-- The Roster of an election, from the members in ring order, the Captain first. -/
def firstRoster (l : List (Nat × Nat × Nat)) : Tab RosterEnt :=
  let n := l.length
  (List.range n).foldl (fun t k =>
    rosSet t k (fun _ => ⟨(l.getD k (0, 0, 0)).1, 1, k, if n < 2 then 0xFF else (k + 1) % n, 0⟩)) []

/-- Ring discovery ends (R472 to R475): a neighbour that is in a stack is asked to join; otherwise the election. -/
def State.discoveryEnd (s : State) : State :=
  if s.formed ∨ s.f BXL_STATUS_STATE ≠ 1 then s.setBxl (fun b => { b with tosses := [], toss0 := none })
  else if s.looped then s.stackOfOne
  else match s.bxl.tosses.find? (fun t => t.hops == 1 && bit (fld t.record 7 1) 0) with
    | some _ =>
      let s := s.setBxl (fun b => { b with tosses := [], toss0 := none })
      { s with bxl := { s.bxl with out := s.bxl.out ++ [⟨0x0B, 0, s.pos', s.f BXL_STATUS_CAPTAIN_POS, 0, 0,
        leBytes 1 1 ++ leBytes 1 (s.f (BXL_Pp_STATUS_NEIGHBOUR 0)) ++ leBytes 2 0 ++ s.tossRecord⟩] } }
    | none =>
      let all := s.found
      let cap := electCaptain all
      let s := s.setBxl (fun b => { b with tosses := [], toss0 := none })
      if all.length < 2 then s.stackOfOne
      else if cap.1 ≠ s.unitId then
        (if cap.2.2 = s.f UPD_VERSION_ENGINE then s else s.setF BXL_STATUS_STATE 0)
      else
        let refused := all.filter (fun t => t.2.2 != cap.2.2)
        let s := refused.foldl (fun s _ => s.bxlNotice 5 0 cAUTH s.now) s
        let s := s.rosterApply (firstRoster (all.filter (fun t => t.2.2 == cap.2.2))) 0 1 none
        let s := s.others.foldl (fun s p => s.bxlSend p 0x05 0 s.rosterBody) s
        s.timeCfgSend s.others

/-! ### Control blocks (R470, R471, R487, R492, R496) -/

/-- A forwarded control block: out of the opposite port, with HOPS incremented, while HOPS is below the Roster count less
one. -/
def State.ctlForward (s : State) (p code content hopsAt : Nat) : State :=
  let h := content / 2 ^ hopsAt % 16
  if h + 1 ≤ s.rosterCount - 1 then s.ctlSend (1 - p) code (content + 2 ^ hopsAt) else s

/-- HEARTBEAT of this member on both ports. -/
def State.heartbeatSend (s : State) : State :=
  if s.formed = false ∨ s.f BXL_STATUS_STATE = 5 ∨ s.tim.edges < s.bxl.beatAt + 100 then s
  else
    let c := s.pos' + b2n s.stopped * 2 ^ 4 + s.f BXL_STATUS_EPOCH * 2 ^ 8 + s.stop.releaseSeq * 2 ^ 24 +
      s.f BXL_STATUS_CAPTAIN_POS * 2 ^ 32
    let s := s.setBxl (fun b => { b with beatAt := s.tim.edges })
    (s.ctlSend 0 1 c).ctlSend 1 1 c

/-- A HEARTBEAT arrives (R471, R487, R492). The REASON of a stop learned only from it is open. -/
def State.heartbeat (s : State) (p c : Nat) : State :=
  let origin := c % 16
  if origin = s.pos' ∧ s.formed = true then s
  else
    let s := s.ctlForward p 1 c 36
    let s := if c / 2 ^ 36 % 16 = 0 then s.setF (BXL_Pp_STATUS_NEIGHBOUR p) origin else s
    let s := if s.formed then s else s.setF BXL_STATUS_CAPTAIN_POS (c / 2 ^ 32 % 16)
    let s := s.setBxl (fun b => { b with beats := Tab.set (fun _ => 0) b.beats origin s.tim.edges })
    if bit c 4 && !s.stopped && c / 2 ^ 24 % 256 == s.stop.releaseSeq && s.formed then
      let r := s.free 8
      r.2.stopRaise 7 r.1 origin false
    else s

/-- A STOP control block arrives (R391, R487). -/
def State.stopBlock (s : State) (p c : Nat) : State :=
  let key := (c / 2 ^ 40 % 16, c % 2 ^ 32)
  if s.stop.seen.contains key ∨ key.1 = s.pos' then s
  else
    let s := (s.ctlForward p 2 c 44).setStop (fun x => { x with seen := key :: x.seen })
    s.stopRaise 7 (c / 2 ^ 32 % 256) key.1 false

/-- Whether no HEARTBEAT came from a member for 3 µs; one that comes at the last edge still counts. -/
def State.silent (s : State) (m : Nat) : Bool := decide (Tab.get (fun _ => 0) s.bxl.beats m + 300 < s.tim.edges)

/-- Whether this member is cut off (R496). -/
def State.cutOff (s : State) : Bool := s.inStack && s.formed && s.others.all s.silent

/-- ISOLATED (R496). -/
def State.isolate (s : State) : State :=
  let s := s.setF BXL_STATUS_STATE 3
  let c := s.free 8
  ((c.2.bxlNotice 4 s.pos' c.1 s.now).stage 0x2903 []).raise 3 4

/-- A member is declared failed, and the Captain publishes it (R492). -/
def State.memberFail (s : State) (m : Nat) : State :=
  if s.liveAt m = false ∨ m = s.pos' ∨ s.silent m = false ∨ s.cutOff = true then s
  else
    let s := s.memberGone m
    if s.on BXL_STATUS_CAPTAIN then s.publish s.bxl.roster else s

/-! ### Time (R488) -/

def BxlTime.fresh : BxlTime := ⟨none, none, none, 0⟩

def State.link (s : State) (p : Nat) : BxlTime := Tab.get (fun _ => BxlTime.fresh) s.bxl.times p

def State.setLink (s : State) (p : Nat) (x : BxlTime) : State :=
  s.setBxl (fun b => { b with times := Tab.set (fun _ => BxlTime.fresh) b.times p x })

/-- A stamp: device time in 2^-8 tick, low 48 bits, with the fraction of the block boundary. -/
def State.ctlStamp (s : State) (sub : Nat) : Nat := (s.tim.time48 / 2 ^ 40 + sub) % 2 ^ 48

/-- TIME_T leaves every 10 µs. -/
def State.timeSend (s : State) (p sub : Nat) : State :=
  let x := s.link p
  if s.linkUp p = false ∨ s.tim.edges < x.sentAt + 1000 then s
  else
    let t := s.ctlStamp sub
    (s.setLink p { x with t1 := some t, t2 := none, sentAt := s.tim.edges }).ctlSend p 3 t

/-- A follower applies an offset in 2^-8 tick: whole ticks by the step and slew rules; the fraction moves SREF's phase,
which no state shows. -/
def State.timeApply (s : State) (off : Int) : State :=
  let s := s.setF BXL_TIME_OFFSET (unsigned 32 (off * 10000 / 256))
  let n := if off.natAbs ≤ 6 then s.bxl.good + 1 else 0
  let s := s.setBxl (fun b => { b with good := n })
  let s := if 100 ≤ n then s.setF BXL_TIME_LOCKED 1 else s
  let s := if s.on BXL_TIME_LOCKED && s.f BXL_STATUS_STATE == 1 && (s.ros s.pos').st == 1 then s.setF BXL_STATUS_STATE 2 else s
  let whole := off.tdiv 256
  if whole = 0 ∨ s.tim.stepLeft ≠ 0 ∨ s.tim.qst = 0 ∨ s.tim.qst = 5 then s
  else (s.setF TIM_ADJ_PHASE_PHASE (unsigned 64 (whole * 2 ^ 32))).adjApply (4 * 256 + 12)

/-- An exchange that is whole gives delay and offset. -/
def State.timeWhole (s : State) (p : Nat) : State :=
  let x := s.link p
  match x.t1, x.t2, x.t34 with
  | some t1, some t2, some (t3, t4) =>
    let d := signed 48 (t2 + 2 ^ 48 - t1)
    let delay := (d + signed 48 (t4 + 2 ^ 48 - t3)) / 2
    let s := s.setLink p { x with t1 := none, t2 := none, t34 := none }
    if s.inStack && !s.on BXL_STATUS_CAPTAIN && s.f BXL_TIME_UPSTREAM == p then s.timeApply (d - delay) else s
  | _, _, _ => s

/-- A TIME_T or a TIME_R arrives. -/
def State.timeExchange (s : State) (p : Nat) (isR : Bool) (content sub : Nat) : State :=
  if s.linkUp p = false then s
  else if isR then (s.setLink p { s.link p with t2 := some content }).timeWhole p
  else
    let t := s.ctlStamp sub
    ((s.setLink p { s.link p with t34 := some (content, t) }).ctlSend p 4 t).timeWhole p

/-! ### Join and leave (R489, R490) -/

/-- Whether a position is free to give: EMPTY, or FAILED or LEFT with no tile and no guest flow that depends on it
(R477). -/
def State.positionFree (s : State) (p : Nat) : Bool :=
  let e := s.ros p
  e.st == 0 || ((e.st == 4 || e.st == 5) && (List.range 256).all (fun i => s.shardMember i != p) &&
    !s.bxl.depends.contains p)

/-- A newcomer asks the Captain (R473, R489): `west` is its west neighbour. -/
def State.joinAsk (s : State) (west : Nat) (toss : List Byte) : State :=
  if s.on BXL_STATUS_CAPTAIN = false ∨ s.bxl.newcomer.isSome = true then s
  else if fld toss 32 4 ≠ s.f UPD_VERSION_ENGINE ∨ s.tossFits toss = false then s.bxlNotice 5 west cAUTH s.now
  else match firstIdx 16 s.positionFree with
    | none => s.bxlNotice 5 west cBUSY s.now
    | some p =>
      let w := if s.liveAt west then west else s.pos'
      let r := (s.ros w).ring + 1
      let shifted := (idxWhere 16 (fun q => s.liveAt q && decide (r ≤ (s.ros q).ring))).foldl
        (fun t q => rosSet t q (fun e => { e with ring := e.ring + 1 })) s.bxl.roster
      let s := s.setBxl (fun b => { b with newcomer := some (p, w), depends := b.depends.filter (· != p) })
      let s := s.publish (rosSet shifted p (fun _ => ⟨fld toss 8 16, 2, r, 0xFF, 0⟩))
      let s := s.timeCfgSend [p]
      if w = s.pos' then s.handoverTo p else s

/-- HANDOVER_DONE from a member w, or by the Captain itself (R489, R490, R492): the Captain publishes w's new Buddy. -/
def State.handoverDone (s : State) (w p : Nat) : State :=
  if s.on BXL_STATUS_CAPTAIN = false then s
  else
    let t := rosSet s.bxl.roster w (fun e => { e with buddy := p })
    let s := s.setBxl (fun b => { b with
      handover := if w = s.pos' then none else b.handover
      depends := b.depends.filter (fun m => (s.ros m).served != p) })
    let t := (idxWhere 16 (fun m => ((s.ros m).st == 4 || (s.ros m).st == 5) && s.positionFree m)).foldl
      (fun t m => rosSet t m (fun _ => RosterEnt.none)) t
    match s.bxl.newcomer with
    | some (c, w') =>
      if c = p ∧ w' = w then
        let east := (idxWhere 16 (fun q => s.liveAt q && q != c && (s.ros q).ring == ((s.ros c).ring + 1) % s.rosterCount)).headD w
        (s.setBxl (fun b => { b with newcomer := none })).publish (rosSet t c (fun e => { e with st := 1, buddy := east }))
      else s.publish t
    | none =>
      match s.bxl.leaving.find? (fun m => (s.ros w).buddy == m) with
      | some m =>
        let s := s.setBxl (fun b => { b with leaving := b.leaving.filter (· != m) })
        let t := rosSet t m (fun e => { e with st := 5, served := p })
        if m = s.pos' then s.publishAs t p else s.publish t
      | none => s.publish t

/-- A member asks to leave (R490). In a stack of two there is no one to give a fresh copy to. -/
def State.leaveAsk (s : State) (m : Nat) : State :=
  if s.on BXL_STATUS_CAPTAIN = false ∨ s.liveAt m = false then s
  else
    let b := (s.eastOf m).getD s.pos'
    let w := (s.westOf m).getD s.pos'
    let s := s.setBxl (fun x => { x with leaving := x.leaving.filter (· != m) ++ [m] })
    let s := s.publish (rosSet s.bxl.roster m (fun e => { e with st := 3 }))
    if w = b then
      let s := s.setBxl (fun x => { x with leaving := x.leaving.filter (· != m) })
      let t := rosSet (rosSet s.bxl.roster m (fun e => { e with st := 5, served := b })) w (fun e => { e with buddy := 0xFF })
      if m = s.pos' then s.publishAs t b else s.publish t
    else s

/-- The Captain's own handover is complete. -/
def State.handoverOwn (s : State) : State :=
  match s.bxl.handover with
  | some p =>
    if s.on BXL_STATUS_CAPTAIN && !(s.pair p).unacked.any (fun u => u.msg.kind == 4) then s.handoverDone s.pos' p else s
  | none => s

/-- A leave begins (R490): acceptance stops. -/
def State.leaveStart (s : State) : State :=
  if s.inStack && s.f BXL_STATUS_STATE == 2 then s.setF BXL_STATUS_STATE 4 else s

/-- LEAVE_REQ goes to the Captain once no flow has an item pending. -/
def State.leaveCheck (s : State) : State :=
  if s.f BXL_STATUS_STATE ≠ 4 ∨ s.bxl.leaveSent = true ∨ s.memc.pendingItems ≠ [] ∨ s.memc.itemWrites ≠ [] then s
  else
    let s := s.setBxl (fun b => { b with leaveSent := true })
    if s.on BXL_STATUS_CAPTAIN then s.leaveAsk s.pos' else s.control (s.f BXL_STATUS_CAPTAIN_POS) 2 s.pos' 0 []

/-! ### Acknowledgements and resending (R480) -/

/-- An acknowledged message has its effects here. -/
def State.ackDone (s : State) (u : BxlPend) (status : Nat) : State :=
  let s := match u.stamp with
    | some st => s.outputConfirmed st.flow st.seq st.index status
    | none => s
  let s := match u.report with
    | some r => s.bxlNotice 6 u.msg.dst status r
    | none => s
  let s := if u.msg.kind = 0x0B ∧ fld u.msg.body 0 1 = 5 ∧ s.stop.releasing = true then s.stopAnswer u.msg.dst status else s
  match u.act with
  | some (.desc i ws) =>
    let s := (s.setF DUG_DESC_CMD_BUSY 0).setF DUG_DESC_CMD_STATUS status
    if status ≠ cOK then s else if ws = [] then s.descDrop i else s.descPut i (Desc.ofWords ws)
  | some (.update op t st _) => s.setBxl (fun b => { b with finish := b.finish ++ [.update op t st status] })
  | some (.scb a) => s.setBxl (fun b => { b with finish := b.finish ++ [.scb (a / 256 * 256 + status)] })
  | some a => s.setBxl (fun b => { b with finish := b.finish ++ [a] })
  | none => s

/-- Messages that were past the window of 16 leave now; `before` of those in it have left already. -/
def State.windowSend (s : State) (p before : Nat) : State :=
  let l := (s.pair p).unacked
  s.setBxl (fun b => { b with out := b.out ++ ((l.take 16).drop before).map BxlPend.msg })

/-- Messages are sent again, in order. -/
def State.resend (s : State) (p : Nat) (l : List BxlPend) : State :=
  let s := s.addF (BXL_Pp_STAT_RESENDS (s.portTo p)) l.length
  let x := s.pair p
  let s := s.setPair p { x with unacked := x.unacked.map (fun (u : BxlPend) =>
    if l.any (fun v => v.msg.num == u.msg.num) then { u with at' := s.tim.edges } else u) }
  s.setBxl (fun b => { b with out := b.out ++ l.map BxlPend.msg })

/-- An ACK arrives (R480): messages up to its number are confirmed; BUSY asks for the message again, but for a descriptor,
whose operation it ends (R485). -/
def State.ackIn (s : State) (m : BxlMsg) : State :=
  if s.bxlUp = false then s
  else if m.dst ≠ s.pos' then s.setBxl (fun b => { b with out := b.out ++ [m] })
  else
    let n := fld m.body 0 4
    let status := fld m.body 4 1
    let x := s.pair m.src
    let upTo := fun (u : BxlPend) => decide ((n + 2 ^ 32 - u.msg.num) % 2 ^ 32 < 2 ^ 31)
    let again := fun (u : BxlPend) => u.msg.num == n && status == cBUSY &&
      !(match u.act with | some (.desc _ _) => true | _ => false)
    let fin := x.unacked.filter (fun u => upTo u && !again u)
    let rest := x.unacked.filter (fun u => !upTo u || again u)
    let s := s.setPair m.src { x with unacked := rest }
    let s := s.windowSend m.src (min 16 x.unacked.length - fin.length)
    let s := if rest.any again then s.resend m.src (rest.take 16) else s
    let s := fin.foldl (fun s u => s.ackDone u (if u.msg.num = n then status else cOK)) s
    s.handoverCheck.handoverOwn

/-- ACK_US has passed for messages to a member (R480): they are sent again. -/
def State.ackTimeout (s : State) (p : Nat) : State :=
  let due := ((s.pair p).unacked.take 16).filter (fun u => decide (u.at' + s.f BXL_CFG_ACK_US * 100 < s.tim.edges))
  if due.isEmpty then s else s.resend p due

/-! ### Send blocks and items (R482, R483) -/

/-- A token at BXL:0x000 (R482). -/
def State.bexSend (s : State) (t : Token) : Nat × State :=
  let a := t.data % 2 ^ 40
  let tagBad := bits t.tag 31 26 != 0 || bits t.tag 22 0 != 0
  if tagBad ∨ t.data / 2 ^ 40 ≠ 0 ∨ a % 32 ≠ 0 ∨ blockIn a 24 true = false then (cRANGE, s)
  else
    let h := s.rdBytes a 24
    let kind := fld h 0 1
    let dst := fld h 1 1
    let len := fld h 2 2
    let target := fld h 4 2
    let item := kind == 3
    if (kind ≠ 2 ∧ kind ≠ 3) ∨ 16 ≤ dst ∨ 2 ≤ fld h 6 1 ∨ fld h 7 1 ≠ 0 ∨ (item = false ∧ len ≠ 0) ∨
        (item = true ∧ (4096 ≤ target ∨ fld h 8 4 ≠ 0 ∨ fld h 16 8 ≠ 0)) ∨
        (t.stamp.isSome = true ∧ regionOf a (24 + min len 976) ≠ .mram) ∨ dst = s.pos' then (cRANGE, s)
    else if 976 < len then (cLENGTH, s)
    else if blockIn a (24 + len) true = false then (cRANGE, s)
    else if (s.ros dst).st = 0 ∨ (s.ros dst).st = 5 then (cNO_ROUTE, s)
    else if 16 ≤ (s.pair dst).unacked.length then (cBUSY, s)
    else
      let stamp := match t.stamp with | some st => stampValue st | none => 0
      let body := h.take 16 ++ (if item then leBytes 8 stamp else h.drop 16) ++ s.rdBytes (a + 24) len
      (cOK, s.bxlSendWith dst kind (tagPrio t.tag) body t.stamp (if bit (fld h 6 1) 0 then some (fld h 12 4) else none) none)

/-- Whether one of an origin's 64 newest items carries a stamp (R483). -/
def State.stampKept (s : State) (pos stamp : Nat) : Bool :=
  stamp != 0 && (List.range 64).any (fun k =>
    let e := s.rdBytes (s.jAddr (0x1F8800 + (pos * 64 + k) * 16)) 16
    fld e 0 8 == stamp && crc32c (e.take 12) == fld e 12 4)

/-- An ITEM at its destination (R483): the status, none while its journal write runs. -/
def State.itemMessage (s : State) (m : BxlMsg) : Option Nat × State :=
  let fl := fld m.body 4 2 % 4096
  let stamp := fld m.body 16 8
  if s.stampKept m.src stamp then (some cDUPLICATE, s)
  else if (s.flow fl).bound = none then (some cNOT_FOUND, s)
  else
    let payload := leBytes 8 stamp ++ leBytes 1 m.src ++ leBytes 7 0 ++ m.body.drop 24
    let r := s.offer ⟨.bexlink m.src m.num stamp, 4, fl, 0, m.prio, m.num, payload⟩
    (if r.1 = cOK then none else some r.1, r.2)

/-! ### Registers (R497) -/

def aBxl (o : Nat) : Nat := 0x0200290000 + o

/-- A write of BXL_CMD. -/
def State.bxlCmdWrite (s : State) (req value : Nat) : Nat × State :=
  let op := value % 8
  if op = 0 ∨ 4 ≤ op then s.regRefuse iBXL (aBxl 0x48) req cRANGE
  else if s.on BXL_CMD_BUSY then s.regRefuse iBXL (aBxl 0x48) req cBUSY
  else
    let s := s.setF BXL_CMD_OP op
    if op = 1 then
      (if s.inStack = false ∨ s.f BXL_STATUS_STATE ≠ 2 then (cOK, s.setF BXL_CMD_STATUS cBUSY)
      else (cOK, (s.setF BXL_CMD_BUSY 1).leaveStart.leaveCheck))
    else
      let s := (s.setF BXL_CMD_BUSY 1).setF (BXL_Pp_STATUS_LINK (op - 2)) 1
      (cOK, (s.inc (BXL_Pp_STAT_RETRAINS (op - 2))).upstream)

def State.bxlRegWrite (s : State) (req isl base value : Nat) : Option (Nat × State) :=
  if isl ≠ iBXL then none
  else
    let o := base - aBxl 0
    let st := s.f BXL_STATUS_STATE
    let busy := some (s.regRefuse isl base req cBUSY)
    let plain := some (s.regW isl req base value)
    if o = 0x20 then (if bit value 31 ≠ s.on BXL_CFG_ENABLE ∧ st ≠ 0 ∧ st ≠ 5 then busy else plain)
    else if o = 0x28 then (if s.on BXL_CFG_ENABLE then busy else plain)
    else if o = 0x38 then
      (if st = 2 ∧ value % 2 ^ 32 ≠ s.f BXL_GUEST_BASE + s.f BXL_GUEST_COUNT * 2 ^ 16 then busy else plain)
    else if o = 0x48 then some (s.bxlCmdWrite req value)
    else if o = 0x50 then (if tagBad (bits value 47 16) then some (s.regRefuse isl base req cRANGE) else plain)
    else none

def State.bxlLive (s : State) (isl base : Nat) : Option Nat :=
  if isl = iBXL ∧ base = aBxl 0x68 then
    some (s.f BXL_TAKEOVER_ACTIVE * 2 ^ 31 + s.f BXL_TAKEOVER_PARTNER * 2 ^ 24 + min s.guestPending (2 ^ 17 - 1))
  else none

/-- The Roster entries as bytes, from offset 0x400 of the block. -/
def State.rosterBytes (s : State) : List Byte := (List.range 16).flatMap (fun p => (s.ros p).bytes)

end Sys2Proof.Machine
end

