-- ==== Sys2Proof/Machine/GbbTrack.lean ====
section
/-! DEFINITION. Integration boundaries, dumps and vector updates (R192 to R207). -/

namespace Sys2Proof.Machine

/-! ### Discriminators (R195) -/

/-- The sums of correlator k (VE 0, E 1, P 2, L 3, VL 4, PD 5, NF 6), as binary64. -/
def corrI (b : BoundIn) (k : Nat) : Nat := dInt (b.corr.getD (2 * k) 0)
def corrQ (b : BoundIn) (k : Nat) : Nat := dInt (b.corr.getD (2 * k + 1) 0)
def corrAbs (b : BoundIn) (k : Nat) : Nat := dSqrt (dSq2 (corrI b k) (corrQ b k))

/-- The binary64 nearest to 2π. -/
def dTwoPi : Nat := 0x401921FB54442D18

/-- atan(y / x), with a zero denominator giving 0. -/
def dAtanQ (y x : Nat) : Nat := if dIsZero x then 0 else Config.atan (dDiv y x)

/-- ep: the carrier phase discriminator, in cycles. -/
def discCarr (g : Sig) (b : BoundIn) : Nat :=
  dDiv (if g.pilot then Config.atan2 (corrQ b 2) (corrI b 2) else dAtanQ (corrQ b 2) (corrI b 2)) dTwoPi

/-- ef: the frequency discriminator, in Hz. -/
def discFreq (g : Sig) (x : Chan) (b : BoundIn) (t : Nat) : Nat :=
  if x.first then 0
  else
    let pi := dInt x.prevI
    let pq := dInt x.prevQ
    let cross := dSub (dMul pi (corrQ b 2)) (dMul pq (corrI b 2))
    let dot := dAdd (dMul pi (corrI b 2)) (dMul pq (corrQ b 2))
    dDiv (if g.pilot then Config.atan2 cross dot else dAtanQ cross dot) (dMul dTwoPi t)

/-- ec: the code discriminator, in chips. -/
def discCode (g : Sig) (disc el : Nat) (b : BoundIn) : Nat :=
  let k := if g.boc then 3 else 1
  let k2 := dNat (2 * k)
  let e := corrAbs b 1
  let l := corrAbs b 3
  match disc with
  | 0 => dDiv (dMul (dDiv0 (dSub e l) (dAdd e l)) (dSub (dNat 2) (dRat (Int.ofNat (k * el)) 128))) k2
  | 1 =>
    let num := dAdd (dMul (dSub (corrI b 1) (corrI b 3)) (corrI b 2)) (dMul (dSub (corrQ b 1) (corrQ b 3)) (corrQ b 2))
    dDiv (dDiv0 num (dSq2 (corrI b 2) (corrQ b 2))) k2
  | _ =>
    let num := dSub (dMul (dNat 2) (dSub e l)) (dSub (corrAbs b 0) (corrAbs b 4))
    dDiv (dDiv0 num (corrAbs b 2)) k2

/-! ### Filters (R196) -/

/-- The loop filters of one integration of t seconds. -/
def State.loopRun (s : State) (c : Nat) (x : Chan) (ep ef ec t : Nat) (kf : Bool) : Chan :=
  let pll := dRat (Int.ofNat (s.f (GBB_CH_LOOP_PLL_BW c))) 100
  let fll := dRat (Int.ofNat (s.f (GBB_CH_LOOP_FLL_BW c))) 10
  let dll := dRat (Int.ofNat (s.f (GBB_CH_LOOP_DLL_BW c))) 200
  let k := fun (v : Nat) => if kf then v else 0
  let x :=
    if s.on (GBB_CH_CFG_PLL_ORDER c) then
      let wp := dDiv pll (dRat 7845 10000)
      let wf := dDiv fll (dRat 53 100)
      let w2 := dMul wp wp
      let a := dAdd x.accA (dMul t (dAdd (dMul (dMul w2 wp) ep) (k (dMul (dMul wf wf) ef))))
      let v := dAdd x.accV (dMul t (dAdd (dAdd a (dMul (dMul (dRat 11 10) w2) ep))
        (k (dMul (dMul (dRat 1414 1000) wf) ef))))
      { x with accA := a, accV := v, dopp := dAdd v (dMul (dMul (dRat 24 10) wp) ep) }
    else
      let wp := dDiv pll (dRat 53 100)
      let wf := dMul (dNat 4) fll
      let v := dAdd x.accV (dMul t (dAdd (dMul (dMul wp wp) ep) (k (dMul wf ef))))
      { x with accV := v, dopp := dAdd v (dMul (dMul (dRat 1414 1000) wp) ep) }
  { x with codeAdj := dMul (dMul (dNat 4) dll) ec }

/-! ### Averages (R197) -/

/-- The term of PLI of one integration. -/
def pliTerm (b : BoundIn) : Nat :=
  let i2 := dMul (corrI b 2) (corrI b 2)
  let q2 := dMul (corrQ b 2) (corrQ b 2)
  dDiv0 (dSub i2 q2) (dAdd i2 q2)

/-- C/N0 over a window, in dB-Hz. -/
def cn0Of (w : List Sums) (t : Nat) : Nat :=
  let pp := dMean (w.map Sums.pp)
  let pn := dMean (w.map Sums.nn)
  if dLe pp pn then 0 else dMul (dNat 10) (Config.log10 (dDiv (dSub pp pn) (dMul pn t)))

/-! ### Synchronisation (R198) -/

/-- Set the longer code count so that it is `total` chips at the start of the integration unit nearest the present
phase. -/
def Chan.alignBase (x : Chan) (g : Sig) (range total : Nat) : Chan :=
  let unit := g.chip * g.u / 1000 * 2 ^ 32
  let k := (x.phase + unit / 2) / unit
  let m := chipModulus g range
  { x with range := range, base := ((Int.ofNat total - Int.ofNat (k * (g.chip * g.u / 1000))) % Int.ofNat m).toNat }

/-- Increment entry k of a histogram. -/
def bumpAt : List Nat → Nat → List Nat
  | [], _ => []
  | n :: l, 0 => (n + 1) :: l
  | n :: l, k + 1 => n :: bumpAt l k

/-- SEC_SYNC is found at secondary phase p (on L2C: at alignment p of CL). -/
def State.secFound (s : State) (c : Nat) (g : Sig) (p : Nat) : State :=
  let x := s.ch c
  let l2c := isL2C (s.f (GBB_CH_CFG_SIGNAL c))
  let x := if l2c then
      { x with phase := x.phase % (10230 * 2 ^ 32) + p % 75 * 10230 * 2 ^ 32, range := max x.range 1, base := 0 }
    else x.alignBase g (max x.range 1) (p % max g.sec 1 * g.len)
  let s := (s.setCh c x).setF (GBB_CH_STATUS_SEC_SYNC c) 1
  if g.pilot then s.setF (GBB_CH_STATUS_HALF_CYCLE c) 0 else s.setF (GBB_CH_STATUS_BIT_SYNC c) 1

/-- The search for the secondary phase over one more integration. -/
def State.secSeek (s : State) (c : Nat) (g : Sig) (b : BoundIn) : State :=
  let x := s.ch c
  let l2c := isL2C (s.f (GBB_CH_CFG_SIGNAL c))
  let w := if l2c then s.f (GBB_CH_LOOP_CN0_AVG c) else min g.sec 64
  let n := x.bitN + 1
  let s1 := s.setCh c { x with bitN := n }
  if s.on (GBB_CH_STATUS_SEC_SYNC c) then s
  else match x.secCand with
    | none =>
      match b.sec with
      | some p =>
        if n < w then s1
        else if l2c then s1.secFound c g p
        else s1.setCh c { s1.ch c with secCand := some p, secN := 0 }
      | none => s1
    | some p0 =>
      let k := x.secN + 1
      if k < w then s1.setCh c { s1.ch c with secN := k }
      else if b.sec = some ((p0 + k) % g.sec) then s1.secFound c g ((p0 + k) % g.sec)
      else s1.setCh c { s1.ch c with secCand := none, secN := 0 }

/-- The search for the bit edge over one more 1 ms integration: sign changes are counted by offset over blocks of 100
symbol periods (log entry 23). -/
def State.bitSeek (s : State) (c : Nat) (g : Sig) (b : BoundIn) : State :=
  let x := s.ch c
  let neg := decide (b.corr.getD 4 0 < 0)
  let hist := if x.hist.isEmpty then List.replicate g.sym 0 else x.hist
  let hist := match x.sign with
    | some old => if old = neg then hist else bumpAt hist (x.bitN % g.sym)
    | none => hist
  let n := x.bitN + 1
  if n < 100 * g.sym then s.setCh c { x with sign := some neg, hist := hist, bitN := n }
  else
    let total := hist.sum
    let best := maxList hist
    if 10 ≤ total ∧ total * 8 ≤ best * 10 then
      let edge := hist.idxOf best
      let x := { x with sign := some neg, hist := [], bitN := 0 }
      let x := x.alignBase g (max x.range 1) ((n + g.sym - edge) % g.sym * g.len)
      (s.setCh c x).setF (GBB_CH_STATUS_BIT_SYNC c) 1
    else s.setCh c { x with sign := some neg, hist := [], bitN := 0 }

/-! ### Dumps (R201, R202) -/

/-- The 128 bytes of a dump record. -/
def State.dumpBytes (s : State) (c : Nat) (x : Chan) (g : Sig) (b : BoundIn) (st t : Nat) (cn0 pli ep ef ec dopp adj : Nat)
    (bump : Bool) : List Byte :=
  let known := s.on (GBB_CH_STATUS_SEC_SYNC c) || s.on (GBB_CH_STATUS_BIT_SYNC c)
  let flags := b2n g.pilot + b2n (b.edge && known) * 2 + b2n (decide (st = 5)) * 4 + b2n b.blanked * 8 + b2n bump * 16
  leBytes 4 x.seq ++ leBytes 2 c ++ leBytes 1 st ++ leBytes 1 t ++ leBytes 8 s.now ++ leBytes 4 flags ++
    leBytes 2 (dField 16 false (dScale cn0 100)) ++ leBytes 2 (dField 16 true (dScale pli (2 ^ 14))) ++
    leBytes 4 (dField 32 true (dScale ep (2 ^ 32))) ++ leBytes 4 (dField 32 true (dScale ef 1000)) ++
    leBytes 4 (dField 32 true (dScale ec (2 ^ 24))) ++ leBytes 4 0 ++
    (List.range 14).flatMap (fun k => leBytes 4 (unsigned 32 (b.corr.getD k 0))) ++
    leBytes 4 (dField 32 true (dScale dopp 1000)) ++ leBytes 4 (dField 32 true (dScale adj 65536)) ++
    leBytes 8 x.phase ++ leBytes 4 x.vecSeq ++ leBytes 12 0

/-- A dump goes to the ring: every DECIM-th one (by SEQ, log entry 24), dropped when the ring is full (R202). -/
def State.dumpRing (s : State) (c seq : Nat) (rec : List Byte) : State :=
  let dec := s.f (GBB_CH_DUMP_CFG_DECIM c)
  let size := s.f GBB_DUMP_SIZE_ENTRIES
  if s.on (GBB_CH_DUMP_CFG_RING_EN c) = false ∨ dec = 0 ∨ seq % dec ≠ 0 then s
  else
    let wr := s.f GBB_DUMP_WR_INDEX
    let next := if size = 0 then 0 else (wr + 1) % size
    if size = 0 ∨ next = s.f GBB_DUMP_RD_INDEX then s.inc GBB_STAT_DUMP_DROPS_COUNT
    else
      let s := (s.memWrite (ep iGBB 0) (s.f GBB_DUMP_BASE_BASE * 128 + wr * 128) rec).2
      let s := s.setF GBB_DUMP_WR_INDEX next
      if s.on GBB_DUMP_Q_EN then
        s.sendQ ⟨s.f GBB_DUMP_Q_QUEUE, s.f GBB_DUMP_Q_PRIO, seq * 2 ^ 32 + wr * 2 ^ 16 + c, ep iGBB 0, none, none⟩
      else s

/-! ### The boundary (R194) -/

/-- Whether one of 16 integrations' counts moves the prompt (R199): −1 not, 0 towards VE, 1 towards VL. -/
def bumpTo (e l : Nat) : Option Bool :=
  if 12 ≤ e ∧ l < e then some false else if 12 ≤ l ∧ e < l then some true else none

/-- The automatic transition of a boundary (R188, R197), from the averages over a full window. -/
def State.autoMove (s : State) (c : Nat) (g : Sig) (full : Bool) (cn0 : Nat) : State :=
  let st := s.chSt c
  let strong := full && dLe (dRat (Int.ofNat (s.f (GBB_CH_LOOP_LOCK_CN0 c))) 4) cn0
  let lost := full && decide (s.f (GBB_CH_LOOP_LOSS_COUNT c) ≤ (s.ch c).low)
  if st = 2 ∧ strong = true ∧ s.on (GBB_CH_STATUS_PLL_LOCK c) ∧ s.on (GBB_CH_STATUS_FLL_LOCK c) then
    s.chEnter c (if s.synced c g then 4 else 3)
  else if st = 3 ∧ s.synced c g = true then s.chEnter c 4
  else if (st = 2 ∨ st = 3 ∨ st = 4) ∧ lost = true then
    let s := ((s.setCh c { s.ch c with low := 0 }).chEvent c 1).inc (GBB_CH_STAT_LOSSES c)
    let s := s.chEnter c 6
    if s.f (GBB_CH_RECOVER_COAST_MS c) = 0 then s.coastExit c else s
  else if st = 6 ∧ strong = true ∧ s.on (GBB_CH_STATUS_REACQ c) = false ∧
      s.elapsedMs (s.ch c).since (s.f (GBB_CH_RECOVER_COAST_MS c) + 1) = false then s.chEnter c 2
  else s

/-- An integration boundary of a channel that integrates (R194 to R202). -/
def State.bound (s : State) (c : Nat) (g : Sig) (b : BoundIn) : State :=
  let st := s.chSt c
  let t := if st = 4 ∨ st = 5 then s.trackMs c g else g.u
  let ts := dRat (Int.ofNat t) 1000
  let x := (s.ch c).advance g s.tim.edges
  let x := { x.addCode g (x.stepBy * 256) with stepBy := 0 }
  let x := match x.towBase with
    | some ms => { x.alignBase g 3 (ms * g.chip / 1000) with towBase := none }
    | none => x
  let oldDopp := x.dopp
  let oldAdj := x.codeAdj
  let ep := discCarr g b
  let ef := discFreq g x b ts
  let ec := discCode g (s.f (GBB_CH_CFG_DISC c)) (s.f (GBB_CH_CFG_EL_SPACING c)) b
  let u : Sums := ⟨dSq2 (corrI b 2) (corrQ b 2), dSq2 (corrI b 6) (corrQ b 6), pliTerm b, dAbs ef⟩
  let avg := s.f (GBB_CH_LOOP_CN0_AVG c)
  let win := (u :: x.win).take avg
  let full := decide (win.length = avg)
  let pli := dMean (win.map Sums.pli)
  let cn0 := cn0Of win ts
  let pll := dLe (dRat 80 100) pli
  let fll := dLe (dMean (win.map Sums.ef)) (dNat 10)
  let weak := dLt cn0 (dRat (Int.ofNat (s.f (GBB_CH_LOOP_LOSS_CN0 c))) 4) ||
    ((st == 3 || st == 4) && dLt pli (dRat 50 100))
  let x := { x with
    win := win, low := if weak then x.low + 1 else 0, first := false
    prevI := b.corr.getD 4 0, prevQ := b.corr.getD 5 0, blanked := x.blanked || b.blanked }
  let x := if st = 2 ∨ st = 3 then s.loopRun c x ep ef ec ts true
    else if st = 4 then s.loopRun c x ep ef ec ts (s.on (GBB_CH_CFG_FLL_TRACK c))
    else if st = 6 ∧ s.on (GBB_CH_CFG_PLL_ORDER c) then { x with dopp := dAdd x.dopp (dMul x.accA ts) } else x
  let runE := x.runE + b2n (dLt (corrAbs b 2) (corrAbs b 0))
  let runL := x.runL + b2n (dLt (corrAbs b 2) (corrAbs b 4))
  let bump := if g.boc && s.on (GBB_CH_CFG_BUMP_EN c) then bumpTo runE runL else none
  let again := bump.isSome || decide (x.runN + 1 = 16)
  let x := { x with
    runN := if again then 0 else x.runN + 1, runE := if again then 0 else runE, runL := if again then 0 else runL }
  let x := match bump with
    | some late => x.addCode g (if late then -(2 ^ 31) else 2 ^ 31)
    | none => x
  let rec' := s.dumpBytes c x g b st t cn0 pli ep ef ec oldDopp oldAdj bump.isSome
  let seq := x.seq
  let slipPll := (st == 4 || st == 5) && s.on (GBB_CH_STATUS_PLL_LOCK c) && !pll
  let s := s.setCh c { x with seq := wrapInc 32 seq, dump := rec' }
  let s := ((s.setF (GBB_CH_STATUS_PLL_LOCK c) (b2n pll)).setF (GBB_CH_STATUS_FLL_LOCK c) (b2n fll)).setF
    (GBB_CH_STATUS_CN0 c) (dField 16 false (dScale cn0 100))
  let s := if slipPll then s.slip c else s
  let s := if bump.isSome then (s.chEvent c 3).inc (GBB_CH_STAT_BUMPS c) else s
  let s := s.dumpRing c seq rec'
  let s := if st = 3 then (if needsSec g then s.secSeek c g b else s.bitSeek c g b) else s
  let op := (s.ch c).op
  let s := if op = 2 ∨ op = 4 then s else s.autoMove c g full cn0
  let s := if op = 0 then s else s.chOpDone c op
  (s.chNco c).chFlush c

/-- INTEGRATION_BOUNDARY: nothing is integrated in OFF and IDLE. -/
def execIntegrationBoundary (c : Nat) (b : BoundIn) (s : State) : Res :=
  .next (if s.chSt c ≤ 1 then s
    else match s.chSig c with
      | some g => s.bound c g b
      | none => s)

/-! ### Vector updates (R203 to R207) -/

/-- The notice of a vector update (R205). -/
def State.vecNotice (s : State) (seq applied skipped status : Nat) : State :=
  s.notice (ep iGBB 0) (s.f GBB_VEC_NOTICE_EP) (s.f GBB_VEC_NOTICE_TAG)
    (seq * 2 ^ 32 + applied * 2 ^ 22 + skipped * 2 ^ 12 + status) true

/-- Whether a list of numbers holds one twice. -/
def hasTwice : List Nat → Bool
  | [] => false
  | x :: l => l.contains x || hasTwice l

/-- The entries of a record at address a. -/
def State.vecEntries (s : State) (a : Nat) (count : Nat) : List (VecEnt × Bool) :=
  (List.range count).map (fun i =>
    let p := a + 32 + 16 * i
    let ch := s.rd p 2
    let fl := s.rd (p + 2) 2
    (⟨ch, fl, s.rd (p + 4) 4, s.rd (p + 8) 4, s.rd (p + 12) 4⟩, decide (512 ≤ ch) || decide (8 ≤ fl)))

/-- A vector update token at GBB:0x020 (R203, R204): the token is refused, or the record is read and checked whole. -/
def State.vecServe (s : State) (t : Token) : Nat × State :=
  let a := t.data
  if t.tag % 2 ^ 23 ≠ 0 ∨ bits t.tag 31 26 ≠ 0 ∨ a % 32 ≠ 0 ∨ blockIn a 32 false = false then (cRANGE, s)
  else if 4 ≤ s.gbb.vecs.length then (cBUSY, s)
  else
    let seq := s.rd a 4
    let count := s.rd (a + 4) 2
    let apply := s.rd (a + 8) 8
    let refused := fun (k : Nat) => (cOK, (s.inc GBB_STAT_VEC_REFUSED_COUNT).vecNotice seq 0 0 k)
    if s.rd (a + 16) 4 < 32 + 16 * count then refused cLENGTH
    else
      let es := s.vecEntries a count
      let early := match s.gbb.lastApply with
        | some p => decide (apply ≠ 0) && decide (apply < p + 100000)
        | none => false
      if s.rd (a + 6) 2 ≠ 0 ∨ s.rd (a + 20) 8 ≠ 0 ∨ s.rd (a + 28) 4 ≠ 0 ∨ seq = 0 ∨ 512 < count ∨
          es.any (fun e => e.2) = true ∨ hasTwice (es.map (fun e => e.1.chan)) = true ∨ early = true then refused cRANGE
      else if apply ≠ 0 ∧ apply < s.now then refused cTOO_LATE
      else
        let at' := if apply ≠ 0 then apply else
          max (s.now + 1) (match s.gbb.lastApply with | some p => p + 100000 | none => 0)
        (cOK, { s with gbb := { s.gbb with
          vecs := s.gbb.vecs ++ [⟨seq, at', es.map Prod.fst⟩], lastApply := some at' } })

/-- One entry takes effect in a channel that is in VECTOR. -/
def State.vecEntry (s : State) (seq : Nat) (e : VecEnt) : State :=
  match s.chSig e.chan with
  | none => s
  | some g =>
    let x := (s.ch e.chan).advance g s.tim.edges
    let x := { x with
      dopp := if bit e.flags 0 then dRat (signed 32 e.dopp) 1000 else x.dopp
      codeAdj := if bit e.flags 1 then dRat (signed 32 e.adj) 65536 else x.codeAdj
      stepBy := if bit e.flags 2 then signed 32 e.stepBy else x.stepBy
      lastVec := s.tim.edges, vecSeq := seq }
    (s.setCh e.chan x).chNco e.chan

/-- VECTOR_UPDATE. -/
def execVectorUpdate (t : Token) (s : State) : Res := .next (s.arrive t (fun s => s.vecServe t))

/-- VECTOR_APPLY: the oldest pending update, once device time has reached its APPLY_TIME. -/
def execVectorApply (s : State) : Res :=
  .next (match s.gbb.vecs with
    | [] => s
    | u :: rest =>
      if s.now < u.apply then s
      else
        let s := { s with gbb := { s.gbb with vecs := rest } }
        let go := u.entries.filter (fun e => s.chSt e.chan == 5)
        let s' := go.foldl (fun s e => s.vecEntry u.seq e) s
        s'.vecNotice u.seq go.length (u.entries.length - go.length) cOK)

end Sys2Proof.Machine
end

