-- ==== Sys2Proof/Machine/GbbSearch.lean ====
section
/-! DEFINITION. Acquisition searchers (R208 to R217) and the ports of GBB. -/

namespace Sys2Proof.Machine

def Searcher.fresh : Searcher := ⟨[], none⟩

def State.sr (s : State) (k : Nat) : Searcher := Tab.get (fun _ => Searcher.fresh) s.gbb.srch k

/-- Keep a searcher with its status register (R220). -/
def State.setSr (s : State) (k : Nat) (x : Searcher) : State :=
  let s := { s with gbb := { s.gbb with srch := Tab.set (fun _ => Searcher.fresh) s.gbb.srch k x } }
  (s.setF (GBB_SRCH_s_STAT_QUEUED k) x.queue.length).setF (GBB_SRCH_s_STAT_ACTIVE k) (b2n x.active.isSome)

/-- An n-byte field of a command block. -/
def blk (b : List Byte) (off n : Nat) : Nat := leValue ((b.drop off).take n)

/-- The numbers a block selects, in ascending order (R209). -/
def blkNumbers (b : List Byte) : List Nat :=
  (idxWhere 64 (fun i => bit (blk b 8 8) i)).map (fun i => numBase (blk b 2 1) + i)

/-- The tag and address rules of a GBB command token (R208). -/
def gbbTokenBad (t : Token) : Bool :=
  decide (t.tag % 2 ^ 23 ≠ 0) || decide (bits t.tag 31 26 ≠ 0) || decide (t.data % 32 ≠ 0) || !(blockIn t.data 64 false)

/-- The searcher that port 0x012 chooses: fewer commands queued or active, S0 on a tie. -/
def State.lighter (s : State) : Nat :=
  let load := fun k => (s.sr k).queue.length + b2n (s.sr k).active.isSome
  if load 1 < load 0 then 1 else 0

/-- A command token for searcher k (R208). -/
def State.searchServe (s : State) (k : Nat) (t : Token) : Nat × State :=
  let x := s.sr k
  if gbbTokenBad t then (cRANGE, s)
  else if 8 ≤ x.queue.length then (cBUSY, s)
  else
    let c : SrchCmd := ⟨t.data, bits t.tag 25 23, s.gbb.order, none⟩
    let s := { s with gbb := { s.gbb with order := s.gbb.order + 1 } }
    (cOK, s.setSr k { x with queue := x.queue ++ [c] })

/-- The command a searcher serves next: the highest class (0 first), then arrival order. -/
def nextCmd (q : List SrchCmd) : Option SrchCmd :=
  q.foldl (fun b c => match b with
    | none => some c
    | some x => if c.prio < x.prio || (c.prio == x.prio && c.order < x.order) then some c else some x) none

/-- Doppler bins per number (R211): 2 ⌈DOPP_SPAN / w⌉ + 1 with w = 500 / T_COH Hz. -/
def blkBins (b : List Byte) : Nat := 2 * ((blk b 20 4 * blk b 4 2 + 499) / 500) + 1

/-- The checks of R210, in the order of its table. -/
def State.searchCheck (s : State) (b : List Byte) : Nat :=
  let sig := blk b 2 1
  let sid := blk b 1 1
  let comp := bit (blk b 3 1) 0
  let tc := blk b 4 2
  let start := blk b 32 8
  match sigOf sig (numBase sig) with
  | none => cRANGE
  | some g0 =>
    let nums := blkNumbers b
    let gs := nums.filterMap (fun n => sigOf sig n)
    let g := gs.headD g0
    let l2c := isL2C sig
    let len := if l2c then 10230 else g.len
    let centre := signed 32 (blk b 16 4)
    let data := comp || !g.pilot
    let prim := if comp then g.dPrim else g.u
    let sec := fun (g : Sig) => if comp then g.dSec else g.sec
    let r := g.rate * (if g.boc then 4 else 2)
    if (blk b 0 1 ≠ 1 ∧ blk b 0 1 ≠ 2) ∨ 16 ≤ sid ∨ sid % 4 = 3 ∨ 4 ≤ blk b 3 1 ∨ centre < -50000000 ∨
        50000000 < centre ∨ 50000 < blk b 20 4 ∨ blk b 40 8 % 32 ≠ 0 ∨ 512 ≤ blk b 54 2 ∨ 512 < blk b 56 2 ∨
        tagBad (blk b 60 4) = true ∨ nums.any (fun n => decide (n < g.lo) || decide (g.hi < n)) = true ∨
        len * 256 ≤ blk b 24 4 ∨ len * 256 < blk b 28 4 ∨ 512 < blk b 54 2 + blk b 56 2 ∨ g.g ≠ sid % 4 then cRANGE
    else if tc % prim ≠ 0 ∨ gs.any (fun g => sec g != 0 && tc != prim) = true ∨
        (data = true ∧ gs.any (fun g => decide (g.sym < tc)) = true) ∨ (comp = false ∧ l2c = true) then cRANGE
    else if 2097152 * 1000 < tc * blk b 6 2 * r then cLENGTH
    else if blk b 48 4 < 32 + 32 * nums.length then cLENGTH
    else if s.streamOk sid = false then cBUSY
    else if start ≠ 0 ∧ start < s.now then cTOO_LATE
    else cOK

/-- The completion notice (R214). -/
def State.searchNotice (s : State) (addr : Nat) (b : List Byte) (status found : Nat) : State :=
  s.notice (ep iGBB 0) (blk b 58 2) (blk b 60 4) (status * 2 ^ 56 + found * 2 ^ 48 + addr) true

/-- The reacquisition of a channel ends without success (R188). -/
def State.reacqFail (s : State) (c : Nat) : State :=
  if s.chSt c = 6 ∧ s.on (GBB_CH_STATUS_REACQ c) then ((s.chEnter c 1).chEvent c 6).chFlush c else s

/-- SEARCH_CAPTURE_START: searcher k takes its next command, checks it and begins capture, or completes it with the
status of the check (R210, R211). -/
def State.captureStart (s : State) (k : Nat) : State :=
  let x := s.sr k
  match x.active, nextCmd x.queue with
  | none, some c =>
    let q := x.queue.erase c
    match c.chan with
    | some ch =>
      if s.streamOk (s.f (GBB_CH_CFG_STREAM ch)) then s.setSr k ⟨q, some ⟨c, [], s.now⟩⟩
      else ((s.setSr k ⟨q, none⟩).inc (GBB_SRCH_s_STAT_DONE k)).reacqFail ch
    | none =>
      let b := s.rdBytes c.addr 64
      let r := s.searchCheck b
      if r = cOK then
        let start := blk b 32 8
        s.setSr k ⟨q, some ⟨c, b, if start = 0 then s.now else start⟩⟩
      else ((s.setSr k ⟨q, none⟩).inc (GBB_SRCH_s_STAT_DONE k)).searchNotice c.addr b r 0
  | _, _ => s

/-- A found number's START on a channel (R215): its status and the state. -/
def State.handOver (s : State) (c sid sig num : Nat) (m : SearchIn) (capture : Nat) : Nat × State :=
  let s1 := ((s.setF (GBB_CH_CFG_SIGNAL c) sig).setF (GBB_CH_CFG_STREAM c) sid).setF (GBB_CH_CFG_NUMBER c) num
  let s1 := ((s1.setF (GBB_CH_INIT_CODE_PHASE c) (m.code * 2 ^ 24)).setF (GBB_CH_INIT_DOPP_DOPP c) m.dopp).setF
    (GBB_CH_INIT_DOPP_RATE c) 0
  let s1 := s1.setF (GBB_CH_INIT_TIME_TIME c) capture
  let r := s1.startCheck c
  if r = cOK then (cOK, s1.startGo c) else (r, s1)

/-- One entry of the result record (R214). -/
def resultEntry (num : Nat) (found : Bool) (ho : Nat) (m : SearchIn) (st : Nat) : List Byte :=
  leBytes 1 num ++ leBytes 1 (b2n found) ++ leBytes 2 ho ++ leBytes 4 (if found then m.code else 0) ++
    leBytes 4 (if found then m.dopp else 0) ++ leBytes 2 m.metric ++ leBytes 2 m.second ++
    leBytes 2 (if found then m.cn0 else 0) ++ leBytes 1 st ++ leBytes 13 0

/-- The header of the result record. -/
def resultHead (status k entries bins capture now : Nat) : List Byte :=
  leBytes 1 status ++ leBytes 1 k ++ leBytes 2 entries ++ leBytes 4 bins ++ leBytes 8 capture ++ leBytes 8 now ++ leBytes 8 0

/-- The entries of a search, found numbers handed over in turn: the bytes, how many were found, and the state. A channel
that a hand-over was tried on counts as used (log entry 25). -/
def State.resultRun (s : State) (b : List Byte) (capture : Nat) :
    List Nat → List SearchIn → List Nat → List Byte × Nat × State
  | [], _, _ => ([], 0, s)
  | num :: nums, ms, used =>
    let none' : SearchIn := ⟨0, 0, 0, 0, 0⟩
    let m := ms.headD none'
    let cells := blk b 6 2 != 0 && blk b 4 2 != 0 && (blk b 28 4 != 0 || bit (blk b 3 1) 1)
    let len := match sigOf (blk b 2 1) num with
      | some g => if isL2C (blk b 2 1) then 10230 else g.len
      | none => 1
    let m := if cells && !ms.isEmpty then { m with code := m.code % (len * 256), dopp := m.dopp % 2 ^ 32 } else none'
    let found := cells && !ms.isEmpty && decide (blk b 52 2 ≤ m.metric)
    let pool := if found && blk b 0 1 == 2 then
        ((List.range (blk b 56 2)).map (fun i => blk b 54 2 + i)).find? (fun c => s.chSt c == 1 && !used.contains c)
      else none
    match pool with
    | none =>
      let r := State.resultRun s b capture nums (ms.drop 1) used
      (resultEntry num found 0xFFFF m cOK ++ r.1, r.2.1 + b2n found, r.2.2)
    | some c =>
      let h := s.handOver c (blk b 1 1) (blk b 2 1) num m capture
      let s := if h.1 = cOK then (h.2.chEvent c 7).chFlush c else h.2
      let r := State.resultRun s b capture nums (ms.drop 1) (c :: used)
      (resultEntry num found (if h.1 = cOK then c else 0xFFFF) m h.1 ++ r.1, r.2.1 + 1, r.2.2)

/-- The end of an internal reacquisition search (R217). -/
def State.reacqDone (s : State) (c : Nat) (m : SearchIn) (capture : Nat) : State :=
  if s.chSt c ≠ 6 ∨ s.on (GBB_CH_STATUS_REACQ c) = false then s
  else if (s.ch c).discard = false ∧ s.f GBB_CFG_REACQ_THRESH ≤ m.metric then
    let len := match s.chSig c with
      | some g => if isL2C (s.f (GBB_CH_CFG_SIGNAL c)) then 10230 else g.len
      | none => 1
    let h := s.handOver c (s.f (GBB_CH_CFG_STREAM c)) (s.f (GBB_CH_CFG_SIGNAL c)) (s.f (GBB_CH_CFG_NUMBER c))
      { m with code := m.code % (len * 256), dopp := m.dopp % 2 ^ 32 } capture
    if h.1 = cOK then (h.2.inc (GBB_CH_STAT_REACQS c)).chFlush c else h.2.reacqFail c
  else s.reacqFail c

/-- SEARCH_DONE (R212 to R217): the active search of searcher k ends with what it found for each number in turn. -/
def State.searchDone (s : State) (k : Nat) (ms : List SearchIn) : State :=
  let x := s.sr k
  match x.active with
  | none => s
  | some a =>
    let s := (s.setSr k { x with active := none }).inc (GBB_SRCH_s_STAT_DONE k)
    match a.cmd.chan with
    | some c => s.reacqDone c (ms.headD ⟨0, 0, 0, 0, 0⟩) a.capture
    | none =>
      let nums := blkNumbers a.blk
      let r := s.resultRun a.blk a.capture nums ms []
      let s := r.2.2
      let rec' := resultHead cOK k nums.length (blkBins a.blk) a.capture s.now ++ r.1
      (s.memWrite (ep iGBB 0) (blk a.blk 40 8) rec').2.searchNotice a.cmd.addr a.blk cOK r.2.1

/-- The end of a cancelled command (R216): its result record holds only the header. CAPTURE_TIME of a command whose
capture never began is open (log entry 4). -/
def State.cancelled (s : State) (k addr : Nat) (b : List Byte) (capture : Option Nat) : State :=
  let r := match capture with
    | some c => (c, s)
    | none => s.free 64
  let s := r.2
  let rec' := resultHead cCANCELLED k 0 (blkBins b) r.1 s.now
  let s := if 32 ≤ blk b 48 4 then (s.memWrite (ep iGBB 0) (blk b 40 8) rec').2 else s
  s.searchNotice addr b cCANCELLED 0

/-- A cancel token at GBB:0x013 (R216). -/
def State.searchCancel (s : State) (t : Token) : Nat × State :=
  if gbbTokenBad t then (cRANGE, s)
  else
    let queued := fun k => (s.sr k).queue.find? (fun c => c.chan == none && c.addr == t.data)
    let active := fun k => match (s.sr k).active with
      | some a => if a.cmd.chan = none ∧ a.cmd.addr = t.data then some a else none
      | none => none
    let dropQ := fun (k : Nat) (c : SrchCmd) =>
      let s := s.setSr k { s.sr k with queue := (s.sr k).queue.erase c }
      (cOK, s.cancelled k t.data (s.rdBytes t.data 64) none)
    let dropA := fun (k : Nat) (a : SrchAct) =>
      let s := s.setSr k { s.sr k with active := none }
      (cOK, s.cancelled k t.data a.blk (some a.capture))
    match queued 0, queued 1, active 0, active 1 with
    | some c, _, _, _ => dropQ 0 c
    | none, some c, _, _ => dropQ 1 c
    | none, none, some a, _ => dropA 0 a
    | none, none, none, some a => dropA 1 a
    | none, none, none, none => (cNOT_FOUND, s)

/-- The ports of GBB (R208). -/
def State.gbbToken (s : State) (t : Token) : Nat × State :=
  match epPort t.dest with
  | 0x010 => s.searchServe 0 t
  | 0x011 => s.searchServe 1 t
  | 0x012 => s.searchServe s.lighter t
  | 0x013 => s.searchCancel t
  | 0x020 => s.vecServe t
  | _ => (cNO_ROUTE, s)

/-- Delayed reacquisitions are placed again at a mark (R217). -/
def State.reacqMark (s : State) : State :=
  s.gbb.chan.foldl (fun s e => if (s.ch e.1).reacqWait then s.placeReacq e.1 else s) s

/-- Every channel OFF, and every search, update and internal command lost (R221). -/
def State.gbbClear (s : State) : State := { s with gbb := ⟨[], [], [], none, 0⟩ }

/-- SEARCH_COMMAND. -/
def execSearchCommand (t : Token) (s : State) : Res := .next (s.arrive t (fun s => s.gbbToken t))

/-- SEARCH_CAPTURE_START. -/
def execSearchCaptureStart (k : Nat) (s : State) : Res := .next (s.captureStart k)

/-- SEARCH_DONE. -/
def execSearchDone (k : Nat) (ms : List SearchIn) (s : State) : Res := .next (s.searchDone k ms)

/-- SEARCH_CANCEL. -/
def execSearchCancel (t : Token) (s : State) : Res := .next (s.arrive t (fun s => s.searchCancel t))

end Sys2Proof.Machine
end

