-- ==== Sys2Proof/Machine/Pos.lean ====
section
/-! DEFINITION. The ambiguity engine POS (R255 to R268). -/

namespace Sys2Proof.Machine

/-! ### The problem (R257, R259) -/

/-- The triangle of Q restricted to the selected ambiguities, and their float values. -/
def posSelect (b : List Byte) : List Nat × List (List Nat) :=
  let n := blk b 2 1
  let sel := if bit (blk b 1 1) 0 then idxWhere n (fun i => bit (blk b 16 12) i) else List.range n
  let q := fun i j => blk b (64 + 8 * n + 8 * (i * (i + 1) / 2 + j)) 8
  (sel.map (fun i => blk b (64 + 8 * i) 8), sel.map (fun i => (sel.filter (fun j => decide (j ≤ i))).map (fun j => q i j)))

/-- A sum of products of three lists, entry by entry. -/
def dot3 : List Nat → List Nat → List Nat → Nat
  | a :: as, b :: bs, c :: cs => dAdd (dMul (dMul a b) c) (dot3 as bs cs)
  | _, _, _ => 0

/-- A row of L: each entry from the entries before it. -/
def ldlRow (qrow : List Nat) : List (List Nat) → List Nat → List Nat → List Nat → List Nat
  | lj :: ls, dj :: ds, dAll, row =>
    let v := dDiv (dSub (qrow.getD row.length 0) (dot3 row lj dAll)) dj
    ldlRow qrow ls ds dAll (row ++ [v])
  | _, _, _, row => row

/-- The decomposition L D Lᵀ row by row (R259): the rows of L, the pivots, and the index of a pivot that is not above 0. -/
def ldl : List (List Nat) → List (List Nat) → List Nat → List (List Nat) × List Nat × Option Nat
  | [], l, d => (l, d, none)
  | q :: qs, l, d =>
    let row := ldlRow q l d d []
    let p := dSub (q.getD row.length 0) (dot3 row row d)
    if dLt 0 p then ldl qs (l ++ [row]) (d ++ [p]) else (l, d, some row.length)

/-- (a − â)ᵀ Q⁻¹ (a − â) for one integer vector, by forward substitution. -/
def posNorm : List (List Nat) → List Nat → List Nat → List Int → List Nat → Nat
  | row :: l, d :: ds, a :: as, z :: zs, y =>
    let r := dSub (dSub (dInt z) a) ((row.zip y).foldl (fun t p => dAdd t (dMul p.1 p.2)) 0)
    dAdd (dDiv (dMul r r) d) (posNorm l ds as zs (y ++ [r]))
  | _, _, _, _, _ => 0

/-- Whether one candidate comes before another: by norm, then element by element (R260). -/
def candBefore (a b : Nat × List Int) : Bool :=
  dLt a.1 b.1 || (!(dLt b.1 a.1) && (compare a.2 b.2 == .lt))

/-- Insert a candidate in order, a vector already present left out. -/
def candInsert (c : Nat × List Int) : List (Nat × List Int) → List (Nat × List Int)
  | [] => [c]
  | x :: xs => if x.2 = c.2 then x :: xs else if candBefore c x then c :: x :: xs else x :: candInsert c xs

/-- The integers z with (z − c)² ≤ r · d, one more on each side for rounding. -/
def intsNear (c r d : Nat) : List Int :=
  let w := dSqrt (dMul r d)
  let lo := (fpToInt 2 (-Int.ofNat (2 ^ 40)) (Int.ofNat (2 ^ 40)) (fmt64.unpack (dSub c w))).1 - 1
  let hi := (fpToInt 3 (-Int.ofNat (2 ^ 40)) (Int.ofNat (2 ^ 40)) (fmt64.unpack (dAdd c w))).1 + 1
  (List.range (hi - lo + 1).toNat).map (fun k => lo + Int.ofNat k)

/-- Every integer vector whose squared norm is at most a radius, level by level. -/
def posPoints (radius : Nat) : List (List Nat) → List Nat → List Nat → List Nat → Nat → List Int → List (List Int)
  | row :: l, d :: ds, a :: as, y, part, z =>
    let c := dAdd a ((row.zip y).foldl (fun t p => dAdd t (dMul p.1 p.2)) 0)
    (intsNear c (dSub radius part) d).flatMap (fun k =>
      let r := dSub (dInt k) c
      let part' := dAdd part (dDiv (dMul r r) d)
      if dLe part' radius then posPoints radius l ds as (y ++ [r]) part' (z ++ [k]) else [])
  | _, _, _, _, _, z => [z]

/-- Sequential conditional rounding (R259): the vector it gives, and `off` added to its last element. -/
def posRound (off : Int) : List (List Nat) → List Nat → List Nat → List Int → List Int
  | [row], [a], y, z =>
    let c := dAdd a ((row.zip y).foldl (fun t p => dAdd t (dMul p.1 p.2)) 0)
    z ++ [(fpToInt 0 (-Int.ofNat (2 ^ 40)) (Int.ofNat (2 ^ 40)) (fmt64.unpack c)).1 + off]
  | row :: l, a :: as, y, z =>
    let c := dAdd a ((row.zip y).foldl (fun t p => dAdd t (dMul p.1 p.2)) 0)
    let k := (fpToInt 0 (-Int.ofNat (2 ^ 40)) (Int.ofNat (2 ^ 40)) (fmt64.unpack c)).1
    posRound off l as (y ++ [dSub (dInt k) c]) (z ++ [k])
  | _, _, _, z => z

/-- The k best integer vectors, with their norms, in order (R259, R260): every lattice point within a radius that is sure
to hold k of them, or within CHI2_MAX, sorted and cut. -/
def posBest (l : List (List Nat)) (d a : List Nat) (k chi : Nat) : List (Nat × List Int) :=
  let start := (List.range k).map (fun (i : Nat) => posNorm l d a (posRound (Int.ofNat i) l a [] []) [])
  let radius := if dIsZero chi then start.foldl (fun m x => if dLt m x then x else m) 0 else chi
  let all := (posPoints radius l d a [] 0 []).foldl (fun t z => candInsert (posNorm l d a z [], z) t) []
  (all.filter (fun c => dIsZero chi || dLe c.1 chi)).take k

/-! ### Commands -/

def State.setPos (s : State) (x : PosSt) : State :=
  ({ s with pos := x }).setF POS_QUEUE_QUEUED x.queue.length

def State.posUnit (s : State) (u : Nat) : Option PosAct := Tab.get (fun _ => none) s.pos.active u

/-- A unit takes up or ends a command, its register with it (R268). -/
def State.setUnit (s : State) (u : Nat) (a : Option PosAct) : State :=
  let s := { s with pos := { s.pos with active := Tab.set (fun _ => none) s.pos.active u a } }
  let s := s.setF (POS_UNIT_u_ACTIVE u) (b2n a.isSome)
  match a with
  | some x => (s.setF (POS_UNIT_u_CLASS u) x.cmd.prio).setF (POS_UNIT_u_ADDR u) x.cmd.addr
  | none => (s.setF (POS_UNIT_u_CLASS u) 0).setF (POS_UNIT_u_ADDR u) 0

/-- The tag and address rules of a POS token (R256). -/
def posTokenBad (t : Token) : Bool :=
  decide (t.tag % 2 ^ 23 ≠ 0) || decide (bits t.tag 31 26 ≠ 0) || decide (t.data % 64 ≠ 0) || !(blockIn t.data 64 false)

/-- A command token at POS:0x000 (R256). -/
def State.posServe (s : State) (t : Token) : Nat × State :=
  if posTokenBad t then (cRANGE, s.inc POS_STAT_REFUSED_COUNT)
  else if 16 ≤ s.pos.queue.length then (cBUSY, s.inc POS_STAT_REFUSED_COUNT)
  else (cOK, s.setPos { s.pos with
    queue := s.pos.queue ++ [⟨t.data, bits t.tag 25 23, s.pos.order⟩], order := s.pos.order + 1 })

/-- S(m) (R257). -/
def candSize (m : Nat) : Nat := 8 + 8 * ((m + 1) / 2)

/-- The fixed dimension m. -/
def posM (b : List Byte) : Nat :=
  if bit (blk b 1 1) 0 then (idxWhere 96 (fun i => bit (blk b 16 12) i)).length else blk b 2 1

/-- Whether a binary64 is finite. -/
def dFinite (v : Nat) : Bool := decide (v / 2 ^ 52 % 2 ^ 11 ≠ 2047)

/-- The checks of R258, in the order of its table. A result address outside shared SRAM and LPDDR5, or not 32-byte aligned,
counts as a reserved value (log entry 28). -/
def State.posCheck (s : State) (b : List Byte) : Nat :=
  let n := blk b 2 1
  let a := (List.range n).map (fun i => blk b (64 + 8 * i) 8)
  let q := (List.range (n * (n + 1) / 2)).map (fun i => blk b (64 + 8 * n + 8 * i) 8)
  let chi := blk b 56 8
  let big := dNat (2 ^ 31)
  if blk b 28 4 < 64 + 8 * n + 4 * n * (n + 1) then cLENGTH
  else if blk b 40 4 < 64 + blk b 3 1 * candSize (posM b) then cLENGTH
  else if blk b 0 1 ≠ 1 ∨ 4 ≤ blk b 1 1 ∨ 96 < n ∨ 8 < blk b 3 1 ∨ 16777215 < blk b 4 4 ∨ 2 ^ n ≤ blk b 16 12 ∨
      blk b 46 2 ≠ 0 ∨ tagBad (blk b 48 4) = true ∨ blk b 32 8 % 32 ≠ 0 ∨ blockIn (blk b 32 8) 64 false = false then cRANGE
  else if a.any (fun v => !(dFinite v) || dLe big (dAbs v)) = true ∨ q.any (fun v => !(dFinite v)) = true ∨
      (fmt64.unpack chi).isNaN = true ∨ dLt chi 0 = true then cRANGE
  else if blk b 8 8 ≠ 0 ∧ blk b 8 8 < s.now then cTOO_LATE
  else cOK

/-- The completion notice (R263). -/
def State.posNotice (s : State) (b : List Byte) (addr status found : Nat) : State :=
  s.notice (ep iPOS 0) (blk b 44 2) (blk b 48 4) (status * 2 ^ 56 + found * 2 ^ 48 + addr) true

/-- A queued command that a unit takes next: the highest class, then the oldest. -/
def nextPos (q : List PosCmd) : Option PosCmd :=
  q.foldl (fun b c => match b with
    | none => some c
    | some x => if c.prio < x.prio || (c.prio == x.prio && c.order < x.order) then some c else some x) none

/-- The bytes of a block at an address: its header, â and Q. -/
def State.posBlock (s : State) (a : Nat) : List Byte :=
  let n := s.rd (a + 2) 1
  s.rdBytes a (64 + 8 * n + 4 * n * (n + 1))

/-- A unit that is enabled and free takes a command and checks it (R256, R258). -/
def State.posStart (s : State) (u : Nat) : State :=
  let en := if u = 0 then s.on POS_CTRL_U0_EN else s.on POS_CTRL_U1_EN
  if 2 ≤ u ∨ en = false ∨ (s.posUnit u).isSome = true then s
  else match nextPos s.pos.queue with
    | none => s
    | some c =>
      let s := s.setPos { s.pos with queue := s.pos.queue.erase c }
      let b := s.posBlock c.addr
      let k := s.posCheck b
      if k = cOK then s.setUnit u (some ⟨c, b, s.now⟩)
      else (s.inc POS_STAT_REFUSED_COUNT).posNotice b c.addr k 0

/-- The header of a result (R263). -/
def posHead (status u m found flags pivot user nodes start now ratio boot adop : Nat) : List Byte :=
  leBytes 1 status ++ leBytes 1 u ++ leBytes 1 m ++ leBytes 1 found ++ leBytes 2 flags ++ leBytes 1 pivot ++ leBytes 1 0 ++
    leBytes 4 user ++ leBytes 4 nodes ++ leBytes 8 start ++ leBytes 8 now ++ leBytes 8 ratio ++ leBytes 8 boot ++
    leBytes 8 adop ++ leBytes 8 0

/-- The bytes of one candidate, padded to S(m). -/
def candBytes (c : Nat × List Int) : List Byte :=
  leBytes 8 c.1 ++ c.2.flatMap (fun z => leBytes 4 (unsigned 32 z)) ++ leBytes (if c.2.length % 2 = 1 then 4 else 0) 0

/-- The candidates of a search and its flags: complete, or stopped by its budget or (`stop`) its deadline. -/
def posFind (l : List (List Nat)) (d a q : List Nat) (b : List Byte) (stop : Option Nat) :
    List (Nat × List Int) × Nat × Nat :=
  let k := blk b 3 1
  let chi := blk b 56 8
  let max' := blk b 4 4
  let need := Config.posNodes a q k chi
  let some' := fun (n : Nat) => ((Config.posPartial a q k chi n).filter (fun z => z.length == a.length)).foldl
    (fun t z => candInsert (posNorm l d a z [], z) t) []
  let cut := fun t => (t.filter (fun (c : Nat × List Int) => dIsZero chi || dLe c.1 chi)).take k
  if k = 0 ∨ a.isEmpty = true then ([], 0, 0)
  else if max' = 0 then ([], 1, 0)
  else match stop with
    | some n => (cut (some' (min n max')), 2, min n max')
    | none =>
      if max' ≤ need then (cut (some' max'), 1, max')
      else
        let best := posBest l d a k chi
        (best, if !(dIsZero chi) && best.isEmpty then 8 else 0, need)

/-- A search of unit u ends (R259 to R263): complete, by budget, or by deadline with `stop` nodes visited. -/
def State.posFinish (s : State) (u : Nat) (x : PosAct) (stop : Option Nat) : State :=
  let b := x.blk
  let p := posSelect b
  let a := p.1
  let q := p.2.flatten
  let f := ldl p.2 [] []
  let m := a.length
  let res := blk b 32 8
  let user := blk b 52 4
  let s := (s.setUnit u none).inc POS_STAT_DONE_COUNT
  match f.2.2 with
  | some piv =>
    let h := posHead cRANGE u m 0 4 piv user 0 x.start s.now 0 0 0
    (s.memWrite (ep iPOS 0) res h).2.posNotice b x.cmd.addr cRANGE 0
  | none =>
    let r := posFind f.1 f.2.1 a q b stop
    let found := r.1.length
    let flags := r.2.1
    let ratio := match r.1 with
      | c1 :: c2 :: _ => if dLt 0 c1.1 then dDiv c2.1 c1.1 else 0
      | _ => 0
    let boot := if bit (blk b 1 1) 1 then (if m = 0 then dNat 1 else Config.posBoot a q) else 0
    let adop := Config.root (f.2.1.foldl dMul (dNat 1)) (2 * m)
    let s := s.addF POS_STAT_NODES_COUNT r.2.2
    let s := if flags = 1 then s.inc POS_STAT_BUDGET_COUNT else if flags = 2 then s.inc POS_STAT_DEADLINE_COUNT else s
    let s := (s.memWrite (ep iPOS 0) (res + 64) (r.1.flatMap candBytes)).2
    let h := posHead cOK u m found flags 0 user r.2.2 x.start s.now ratio boot adop
    (s.memWrite (ep iPOS 0) res h).2.posNotice b x.cmd.addr cOK found

/-- A command is cancelled (R264): a header where there is room for it, and the notice. What the header's NODES,
START_TIME of a queued command, P_BOOT and ADOP hold then is open (log entry 4). -/
def State.posCancelled (s : State) (u addr : Nat) (b : List Byte) (start : Option Nat) : State :=
  let st := match start with
    | some t => (t, s)
    | none => s.free 64
  let nodes := st.2.free 32
  let boot := nodes.2.free 64
  let adop := boot.2.free 64
  let s := adop.2.inc POS_STAT_CANCELLED_COUNT
  let h := posHead cCANCELLED u (posM b) 0 0 0 (blk b 52 4) nodes.1 st.1 s.now 0
    (if bit (blk b 1 1) 1 then boot.1 else 0) adop.1
  let s := if 64 ≤ blk b 40 4 then (s.memWrite (ep iPOS 0) (blk b 32 8) h).2 else s
  s.posNotice b addr cCANCELLED 0

/-- A cancel token at POS:0x001 (R264). -/
def State.posCancel (s : State) (t : Token) : Nat × State :=
  if posTokenBad t then (cRANGE, s)
  else match s.pos.queue.find? (fun c => c.addr == t.data) with
    | some c =>
      (cOK, (s.setPos { s.pos with queue := s.pos.queue.erase c }).posCancelled 0 t.data (s.posBlock t.data) none)
    | none =>
      let hit := fun u => match s.posUnit u with
        | some x => if x.cmd.addr = t.data then some x else none
        | none => none
      match hit 0, hit 1 with
      | some x, _ => (cOK, (s.setUnit 0 none).posCancelled 0 t.data x.blk (some x.start))
      | none, some x => (cOK, (s.setUnit 1 none).posCancelled 1 t.data x.blk (some x.start))
      | none, none => (cNOT_FOUND, s)

/-- The ports of POS (R255). -/
def State.posToken (s : State) (t : Token) : Nat × State :=
  match epPort t.dest with
  | 0 => s.posServe t
  | 1 => s.posCancel t
  | _ => (cNO_ROUTE, s)

/-- Queued and active commands are lost (R265). -/
def State.posClear (s : State) : State := { s with pos := ⟨[], [], 0⟩ }

/-- POS_COMMAND. -/
def execPosCommand (t : Token) (s : State) : Res := .next (s.arrive t (fun s => s.posToken t))

/-- POS_COMMAND_START. -/
def execPosCommandStart (u : Nat) (s : State) : Res := .next (s.posStart u)

/-- POS_SEARCH_DONE. -/
def execPosSearchDone (u : Nat) (s : State) : Res :=
  .next (match s.posUnit u with
    | some x => s.posFinish u x none
    | none => s)

/-- POS_DEADLINE: the search stops at the next node boundary with the nodes it has visited, whose number is open (log entry
27). -/
def execPosDeadline (u : Nat) (s : State) : Res :=
  .next (match s.posUnit u with
    | some x =>
      if blk x.blk 8 8 ≠ 0 ∧ blk x.blk 8 8 ≤ s.now then
        let n := s.free 24
        n.2.posFinish u x (some n.1)
      else s
    | none => s)

/-- POS_CANCEL. -/
def execPosCancel (t : Token) (s : State) : Res := .next (s.arrive t (fun s => s.posCancel t))

end Sys2Proof.Machine
end

