-- ==== Sys2Proof/Machine/Reset.lean ====
section
/-! DEFINITION. Resets (R573, R574), the last-breath cell (R554), and what fencing does to an island (R538 to R540). -/

namespace Sys2Proof.Machine

/-! ### The last-breath cell -/

/-- REF writes the cell (R554). -/
def State.cellWrite (s : State) (kind isl status cause failMap : Nat) : State :=
  { s with cell := { LastBreath.reset with
      valid := true, kind := kind, isl := isl, status := status, cause := cause, time := s.now, failMap := failMap
      lastHeader := List.replicate 20 0 } }

/-- The 64 bytes of the cell; CHECK is cleared where the cell is not valid (R541, R554). -/
def LastBreath.bytes (c : LastBreath) : List Byte :=
  let b := leBytes 1 c.kind ++ leBytes 1 c.isl ++ leBytes 1 c.status ++ leBytes 1 c.cause ++ leBytes 4 c.dropped ++
    leBytes 8 c.time ++ leBytes 8 c.lastTime ++ leBytes 8 c.failMap ++ (c.lastHeader ++ List.replicate 20 0).take 20 ++
    leBytes 8 c.lastArg0
  b ++ leBytes 4 (if c.valid then crc32c b else 0)

/-! ### Reset -/

/-- Whether a byte of memory keeps its content through a reset: MRAM and NOR always, LPDDR5 unless power was lost. On-die
memory is tested by the power-up BIST, which leaves nothing of it. -/
def keepsMem (power : Bool) (a : Nat) : Bool :=
  (decide (0x0400000000 ≤ a) && decide (a < 0x0900000000)) || (decide (0x1000000000 ≤ a) && !power)

/-- Registers that no reset touches: OTP, identifiers set at manufacture, the levels of the STOP inputs. -/
def keptRegs : List RF :=
  [UPD_HW_TYPE_TYPE, UPD_UNIT_ID_LO_ID, UPD_UNIT_ID_HI_ID, UPD_OTP_REVOKED, UPD_OTP_ROLLBACK, HST_PCI_ID_DEVICE,
    HST_PCI_ID_VENDOR, REF_STOP_STATUS_PIN_A, REF_STOP_STATUS_PIN_B]

/-- A reset of the module with cause bit c of SYS_RESET_CAUSE: 0 POWER_ON, 1 BROWN_OUT, 2 PIN, 3 FAULT, 4 SOFTWARE, 5 UPDATE
(R573, R574). It holds until RESET_RELEASE. What has left the module has left it. -/
def State.moduleReset (s : State) (c : Nat) : State :=
  let power := decide (c < 2)
  let z : State := { State.reset with
    pending := s.pending
    fresh := s.fresh
    answer := s.answer
    data := s.data
    mem := s.mem.filter (fun e => keepsMem power e.1)
    memc := { State.reset.memc with failA := s.memc.failA, failB := s.memc.failB }
    upd := { UpdSt.reset with keys := s.upd.keys }
    tal := { State.reset.tal with bounds := s.tal.bounds }
    eth := { State.reset.eth with out := s.eth.out }
    can := { State.reset.can with out := s.can.out, tries := s.can.tries }
    rad := { State.reset.rad with out := s.rad.out }
    bxl := { BxlSt.reset with out := s.bxl.out, ctl := s.bxl.ctl, tossOut := s.bxl.tossOut }
    hst := { HstSt.reset with out := s.hst.out, msix := s.hst.msix, uart := s.hst.uart, perst := s.hst.perst }
    cell := if power then LastBreath.reset else s.cell
    boot := { BootSt.reset with converters := !power } }
  keptRegs.foldl (fun (z : State) r => z.setF r (s.f r)) (z.setF SYS_RESET_CAUSE_CAUSE (2 ^ c))

/-- A fault of an island that is never fenced (R539): the cell, then the reset. -/
def State.faultReset (s : State) (isl cause : Nat) : State :=
  (s.cellWrite 1 isl (if cause = 1 ∨ cause = 4 then cTIMEOUT else cINTEGRITY) cause 0).moduleReset 3

/-! ### Fencing -/

/-- The islands that are never fenced (R539). -/
def neverFenced (isl : Nat) : Bool := [iSYS, iPWR, iREF, iTIM, iDUG, iQUE, iMEM].contains isl

/-- What an island holds for later is refused. -/
def State.heldRefuse (s : State) (isl : Nat) : State :=
  let mine : HeldReq → Bool := fun h => match h with | .token i _ => i == isl | .write i _ _ _ _ => i == isl | .word _ => false
  let l := s.held.filter mine
  l.foldl (fun s h => match h with
    | .token _ t => s.answerTo cFENCED t.src t.dest t.task
    | .write i req a _ _ => (s.refuse i a req true cFENCED).ans cFENCED
    | .word _ => s)
    { s with held := s.held.filter (fun h => !mine h) }

/-- Memory that an island owns keeps no content (R540). -/
def State.memLost (s : State) (isl : Nat) : State :=
  if isl = iGOB ∨ (0x10 ≤ isl ∧ isl < 0x20) then { s with mem := s.mem.filter (fun e => ownerOf e.1 != isl) } else s

/-- A fenced anchor takes its LPDDR5 channel and its network endpoint with it (R64, R155, R379). -/
def State.anchorLost (s : State) (ch : Nat) : State :=
  let s := s.zonAnchorLost ch
  let s := if regionOf (s.f DUG_SPILL_BASE_BASE * 16) 1 = .lpddr ch then s.spillLost else s
  if ch < 2 then s.setF (ETH_Pp_LINK_UP ch) 0
  else if s.linkUp (ch - 2) then s.linkDown (ch - 2) else s

/-- A member is isolated once (R496). -/
def State.isolateOnce (s : State) : State :=
  if s.inStack && s.f BXL_STATUS_STATE != 3 then s.isolate else s

/-- What an island's own state becomes without its power. -/
def State.islandLost (s : State) (isl : Nat) : State :=
  if 0x10 ≤ isl ∧ isl < 0x20 then
    let e := isl - 0x10
    let s := (s.rebindEngine e).setEng e EngSt.fresh
    if 12 ≤ e then s.anchorLost (e - 12) else s
  else if isl = iBST then { s with bst := BstSt.reset }
  else if isl = iSCB then { s with scb := ScbSt.reset }
  else if isl = iUPD then { s with upd := { UpdSt.reset with keys := s.upd.keys } }
  else if isl = iGBB then s.gbbClear
  else if isl = iGOB then { s with gob := GobSt.reset }
  else if isl = iPOS then s.posClear
  else if isl = iRAD then s.radClear
  else if isl = iZON then s.zonClear
  else if isl = iMCH then s.mchClear
  else if isl = iTAL then s.talClear
  else if isl = iCAN then s.canClear
  else if isl = iETH then (s.ethClear.setF (ETH_Pp_LINK_UP 0) 0).setF (ETH_Pp_LINK_UP 1) 0
  else if isl = iHST then
    { s with hst := { HstSt.reset with out := s.hst.out, msix := s.hst.msix, uart := s.hst.uart, perst := s.hst.perst } }
  else if 0x2C ≤ isl then { s with smp := Tab.set (fun _ => SmpPort.fresh) s.smp (isl - 0x2C) SmpPort.fresh }
  else s

/-- An island's registers go back to their reset values, but for what no reset touches; Bexlink of a stack member stays
isolated until the module resets (R496). -/
def State.islandRegs (s : State) (isl : Nat) : State :=
  if isl = iBXL ∧ s.inStack = true then s
  else
    let z := s.resetRegs isl
    keptRegs.foldl (fun (z : State) r => z.setF r (s.f r)) z

/-- REF fences an island for a cause of R544 (R538): clock and power go, what it served restarts elsewhere, and a FENCE
record is staged. An island that is never fenced resets the module instead (R539). One that is FENCED stays so. -/
def State.fence (s : State) (isl cause : Nat) : State :=
  if isIsland isl = false ∨ s.ist isl = 5 then s
  else if neverFenced isl then s.faultReset isl cause
  else
    let s := if s.bst.run.any (fun r => r.1 == isl) then { s with bst := { s.bst with run := none } }.setF BST_CUR_ACTIVE 0 else s
    let s := ((s.islandLost isl).memLost isl).islandRegs isl
    let s := { s with stamps := Tab.set (fun _ => []) s.stamps isl [] }
    let s := (s.setF (ISL_PSTATE_STATE isl) 5).setF REF_FENCED_FENCED (s.f REF_FENCED_FENCED ||| 2 ^ isl)
    let s := s.heldRefuse isl
    let s := (s.stage 0x0201 [isl + cause * 2 ^ 8])
    if isl = iMCH then s.raise 3 4 else if isl = iBXL then s.isolateOnce else s

end Sys2Proof.Machine
end

