-- ==== Sys2Proof/Machine/Upd.lean ====
section
/-! DEFINITION. The Playbook update (R499 to R525): download, verification, the swap, the trial and the transaction across
a stack. -/

namespace Sys2Proof.Machine

def State.setUpd (s : State) (f : UpdSt → UpdSt) : State := { s with upd := f s.upd }

/-! ### NOR (R499) -/

def aLoader : Nat := 0x0800000000
def aImage : Nat := 0x0800400000
def aStaging : Nat := 0x0806400000
def aScratch : Nat := 0x080C400000
def norSector : Nat := 0x10000

/-- UPD erases and programs a sector, which then reads back as written; after a fourth mismatch what it holds is open
(R502). -/
def State.norWrite (s : State) (a : Nat) (bs : List Byte) (mismatches : Nat) : Bool × State :=
  if mismatches < 4 then (true, s.wrBytes a bs)
  else
    let n := s.free (8 * norSector)
    (false, (n.2.wrBytes a (leBytes norSector n.1)).stage 0x0501 [a])

/-! ### The journal (R508, R509) -/

def State.updSt (s : State) : Nat := s.f UPD_STATUS_STATE

/-- Whether FLAGS bit k of the journal is set. -/
def State.updFlag (s : State) (k : Nat) : Bool := bit s.upd.flags k

def State.updFlagSet (s : State) (k : Nat) (v : Bool) : State :=
  s.setUpd (fun u => { u with flags := if bit u.flags k = v then u.flags else u.flags ^^^ 2 ^ k })

/-- A notice of UPD (R525). -/
def State.updNotice (s : State) (kind : Nat) : State :=
  if s.on UPD_NOTICE_EN && bit (s.f UPD_NOTICE_EN_EN) (kind - 1) then
    s.notice (ep iUPD 0) (s.f UPD_NOTICE_EP) (s.f UPD_NOTICE_TAG)
      (s.now % 2 ^ 32 * 2 ^ 32 + s.f UPD_STATUS_LAST_STATUS * 2 ^ 16 + s.updSt * 2 ^ 8 + kind) false
  else s

/-- The 128 bytes of the journal record. -/
def State.updRecord (s : State) : List Byte :=
  let u := s.upd
  let b := leBytes 4 u.seq ++ leBytes 1 s.updSt ++ leBytes 1 (s.f UPD_PROGRESS_PHASE) ++ leBytes 2 u.flags ++
    leBytes 2 (s.f UPD_PROGRESS_SECTOR) ++ leBytes 2 (s.f UPD_PROGRESS_SWAP_COUNT) ++ leBytes 2 (s.f UPD_STATUS_DL_NEXT) ++
    leBytes 1 (s.f UPD_STATUS_BOOTS) ++ leBytes 1 (s.f UPD_STATUS_LAST_STATUS) ++ leBytes 4 (s.f UPD_TXN_TXN) ++
    leBytes 4 u.elapsed ++ leBytes 2 u.newBlocks ++ leBytes 2 u.oldBlocks ++ leBytes 2 u.members ++ leBytes 2 0 ++
    (u.digest ++ List.replicate 48 0#8).take 48 ++ List.replicate 44 0#8
  b ++ leBytes 4 (crc32c b)

/-- The journal record is written. -/
def State.updJournal (s : State) : State :=
  let q := s.upd.seq
  let b := s.updRecord
  (s.copyAB (0x0400610000 + q % 2 * 128) (0x0400A50000 + q % 2 * 128) b).setUpd (fun u => { u with seq := wrapInc 32 q })

/-- The state changes: journaled, and announced. -/
def State.updEnter (s : State) (st : Nat) : State :=
  let was := s.updSt
  let s := (s.setF UPD_STATUS_STATE st).updJournal
  if was = st then s else s.updNotice 1

/-- IDLE, or another state, with DL_NEXT 0. -/
def State.updFresh (s : State) (st : Nat) : State := (s.setF UPD_STATUS_DL_NEXT 0).updEnter st

/-- The valid record with the newest SEQ of the working copies. -/
def State.updNewest (s : State) : Option (List Byte) :=
  let as := (if s.memc.failA then [] else [0x0400610000, 0x0400610080]) ++
    (if s.memc.failB then [] else [0x0400A50000, 0x0400A50080])
  (as.filterMap (fun a =>
    let b := s.rdBytes a 128
    if fld b 124 4 = crc32c (b.take 124) then some b else none)).foldl (fun x r => match x with
      | none => some r
      | some y =>
        let d := (fld r 0 4 + 2 ^ 32 - fld y 0 4) % 2 ^ 32
        if d ≠ 0 ∧ d < 2 ^ 31 then some r else some y) none

/-- UPD takes its state from the journal, at boot and when it is released (R509, R519); none: IDLE. Decisions known are
those the journal records. -/
def State.updLoad (s : State) : State :=
  match s.updNewest with
  | none => s
  | some b =>
    let st := fld b 4 1
    let s := ((((((s.setF UPD_STATUS_STATE st).setF UPD_PROGRESS_PHASE (fld b 5 1)).setF UPD_PROGRESS_SECTOR (fld b 8 2)).setF
      UPD_PROGRESS_SWAP_COUNT (fld b 10 2)).setF UPD_STATUS_DL_NEXT (fld b 12 2)).setF UPD_STATUS_BOOTS (fld b 14 1)).setF
      UPD_STATUS_LAST_STATUS (fld b 15 1)
    let txn := fld b 16 4
    let fl := fld b 6 2
    let s := (s.setF UPD_TXN_TXN txn).setF UPD_TRIAL_ELAPSED (min (fld b 20 4) 65535)
    let ds := (if 6 ≤ st ∧ txn ≠ 0 then [(txn, 4, cOK)] else []) ++ (if bit fl 2 then [(txn, 9, cOK)] else []) ++
      (if bit fl 3 then [(txn, 9, cCANCELLED)] else [])
    s.setUpd (fun u => { u with
      seq := wrapInc 32 (fld b 0 4), flags := fl, elapsed := fld b 20 4, newBlocks := fld b 24 2, oldBlocks := fld b 26 2
      members := fld b 28 2, digest := (b.drop 32).take 48, decisions := ds, since := s.tim.edges })

/-! ### Verification (R503 to R507, R512) -/

/-- Entry j of a manifest. -/
def partOf (m : List Byte) (j : Nat) : List Byte := (m.drop (64 + 64 * j)).take 64

def manifestParts (m : List Byte) : List (List Byte) := (List.range (fld m 6 1)).map (partOf m)

/-- Whether bytes o to o + n - 1 are all 0. -/
def zeros (m : List Byte) (o n : Nat) : Bool := ((m.drop o).take n).all (· == 0#8)

def lengthOk (n : Nat) : Bool := 65536 ≤ n && n ≤ 100663296

/-- What a position needs of the parts that name it (R505). -/
def partsFor (m : List Byte) (p : Nat) : Bool :=
  let mine := (manifestParts m).filter (fun e => bit (fld e 2 2) p)
  let count := fun (t i : Nat) => (mine.filter (fun e => fld e 0 1 == t && (t != 5 || fld e 1 1 == i))).length
  (List.range 4).all (fun k => count (k + 1) 0 == 1) && (List.range 4).all (fun i => decide (count 5 i ≤ 1))

/-- A reserved field or value, or R505 broken (R512, first row). -/
def manifestBad (m : List Byte) (p : Nat) : Bool :=
  let parts := manifestParts m
  fld m 0 4 != 0x59424C50 || fld m 4 2 != 1 || decide (16 < fld m 6 1) || decide (4 ≤ fld m 7 1) || !lengthOk (fld m 12 4) ||
    (!bit (fld m 7 1) 0 && !zeros m 16 16) || decide (64 < fld m 32 1) || decide (3 < fld m 33 1) ||
    decide (16 ≤ fld m 34 1) || !zeros m 35 29 || !zeros m (64 + 64 * fld m 6 1) (1088 - (64 + 64 * fld m 6 1)) ||
    !zeros m 1185 2815 ||
    parts.any (fun e =>
      fld e 0 1 == 0 || decide (5 < fld e 0 1) || (if fld e 0 1 = 5 then decide (3 < fld e 1 1) else fld e 1 1 != 0) ||
        fld e 8 4 % 65536 != 0 || fld e 8 4 == 0 || fld e 12 4 == 0 || (fld e 0 1 == 1 && fld e 2 2 != 0xFFFF)) ||
    !partsFor m p

/-- Parts beyond LENGTH, or overlapping, for which the spec names no status of its own (log entry 45). -/
def manifestLong (m : List Byte) : Bool :=
  let l := (manifestParts m).map (fun e => (fld e 8 4, fld e 8 4 + fld e 12 4))
  l.any (fun e => decide (fld m 12 4 < e.2)) ||
    (List.range l.length).any (fun i => (List.range i).any (fun j =>
      let a := l.getD i (0, 0)
      let b := l.getD j (0, 0)
      decide (a.1 < b.2) && decide (b.1 < a.2)))

/-- The checks of VERIFY on the Playbook at a base, for a Roster position: the status of the first that fails. -/
def State.verifyCheck (s : State) (base p : Nat) : Nat :=
  let m := s.rdBytes base 4096
  let slot := fld m 33 1
  let key := (m.drop 1088).take 97
  if manifestBad m p then cRANGE
  else if manifestLong m then cLENGTH
  else if fld m 8 4 ≠ s.f UPD_HW_TYPE_TYPE ∨ (bit (fld m 7 1) 0 = true ∧ fld m 16 16 ≠ s.unitId) then cAUTH
  else if bit (s.f UPD_OTP_REVOKED) slot = true ∨ sha384 key ≠ s.upd.keys.getD slot [] ∨
      ecdsaValid key (sha384 (m.take 4000)) ((m.drop 4000).take 96) = false ∨ bit (fld m 34 1) slot = true then cAUTH
  else if fld m 32 1 < s.f UPD_OTP_ROLLBACK then cROLLBACK
  else if (manifestParts m).all (fun e =>
      sha384 (s.rdBytes (base + fld e 8 4) (fld e 12 4)) == (e.drop 16).take 48) = false then cINTEGRITY
  else cOK

/-- Blocks of the Playbook at a base. -/
def State.blocksAt (s : State) (base : Nat) : Nat := (s.rd (base + 12) 4 + 65535) / 65536

/-! ### UPDATE messages (R521) -/

def State.updSend (s : State) (dst op status index txn piece : Nat) (data : List Byte) (act : Option BxlAct) : State :=
  s.bxlSendWith dst 0x09 6 (leBytes 1 op ++ leBytes 1 status ++ leBytes 2 index ++ leBytes 4 txn ++ leBytes 1 piece ++
    leBytes 7 0 ++ data) none none act

/-- An UPDATE message without data of this member's transaction. -/
def State.updTell (s : State) (dst op status : Nat) : State := s.updSend dst op status 0 (s.f UPD_TXN_TXN) 0 [] none

/-- ASK, with this member's STATE (R522). -/
def State.updAsk (s : State) : State :=
  let s := s.setUpd (fun u => { u with since := s.tim.edges })
  s.updSend (s.f BXL_STATUS_CAPTAIN_POS) 0x0A 0 0 (s.f UPD_TXN_TXN) 0 (leBytes 1 s.updSt) none

/-- Whether this module settles an update with its stack: the stack has two or more members and the transaction is open. -/
def State.updStack (s : State) : Bool := s.inStack && s.updFlag 0

/-- Positions of the transaction that are still MEMBER. -/
def State.updMembers (s : State) : List Nat := idxWhere 16 (fun p => bit s.upd.members p && (s.ros p).st == 1)

/-! ### Commands (R510) -/

/-- A command ends. -/
def State.updDone (s : State) (status : Nat) : State := (s.setF UPD_CMD_BUSY 0).setF UPD_CMD_STATUS status

/-- A command in progress of an OP ends. -/
def State.updEnd (s : State) (op status : Nat) : State :=
  if s.on UPD_CMD_BUSY && s.f UPD_CMD_OP == op then s.updDone status else s

/-- The status of a block that is to be written (R511): of its index, and of block 0's header. -/
def State.blockCheck (s : State) (i : Nat) (head : List Byte) : Nat :=
  let next := s.f UPD_STATUS_DL_NEXT
  if i < next then cDUPLICATE
  else if next ≠ 0 ∧ s.upd.newBlocks ≤ i then cLENGTH
  else if next < i then cRANGE
  else if i ≠ 0 then cOK
  else if fld head 0 4 ≠ 0x59424C50 ∨ fld head 4 2 ≠ 1 then cRANGE
  else if 100663296 < fld head 12 4 then cLENGTH
  else if fld head 12 4 < 65536 then cRANGE
  else cOK

/-- WRITE_BLOCK (R511). -/
def State.updWrite (s : State) : State :=
  let a := s.f UPD_BLOCK_SRC_ADDR * 64
  let i := s.f UPD_BLOCK_IDX_INDEX
  if s.updSt ≠ 1 ∨ s.upd.writing.isSome = true then s.updDone cBUSY
  else if blockIn a norSector false = false then s.updDone cRANGE
  else
    let c := s.blockCheck i (s.rdBytes a 16)
    if c ≠ cOK then s.updDone c
    else (s.setF UPD_CMD_BUSY 1).setUpd (fun u => { u with writing := some (i, s.rdBytes a norSector, true) })

/-- A staging sector is written (R502, R511). -/
def State.updWritten (s : State) (mismatches : Nat) : State :=
  match s.upd.writing with
  | none => s
  | some (i, bs, mine) =>
    let s := s.setUpd (fun u => { u with writing := none, pieces := [] })
    let r := s.norWrite (aStaging + i * norSector) bs mismatches
    let s := r.2
    if r.1 = false then (if mine then s.updDone cINTEGRITY else s)
    else
      let s := if i = 0 then s.setUpd (fun u => { u with
        newBlocks := s.blocksAt aStaging, digest := sha384 (bs.take 4096) }) else s
      let s := s.setF UPD_STATUS_DL_NEXT (i + 1)
      let s := if i + 1 = s.upd.newBlocks then s.updEnter 2 else s.updJournal
      let s := s.updNotice 2
      if mine then s.updDone cOK else s

/-- Verification ends (R512). -/
def State.updVerified (s : State) : State :=
  if s.updSt ≠ 3 then s
  else
    let c := s.verifyCheck aStaging s.pos'
    let s := if c = cOK then s.updEnter 4 else (s.setF UPD_STATUS_LAST_STATUS c).updFresh 0
    s.updEnd 3 c

/-- The swap begins, forward or back (R513). -/
def State.swapStart (s : State) (st : Nat) : State :=
  let s := s.setUpd (fun u => { u with oldBlocks := if st = 6 then s.blocksAt aImage else u.oldBlocks, halted := false })
  (((s.setF UPD_PROGRESS_SECTOR 0).setF UPD_PROGRESS_PHASE 0).setF UPD_PROGRESS_SWAP_COUNT
    (max s.upd.newBlocks s.upd.oldBlocks)).updEnter st

/-- The trial is settled: CONFIRMING (R517) or REVERTING with its LAST_STATUS (R516, R518). -/
def State.trialEnd (s : State) (confirm : Bool) (status : Nat) : State :=
  let s := s.setUpd (fun u => { u with trial := false })
  let s := if confirm then ((s.updFlagSet 2 true).setF UPD_PROGRESS_SECTOR 0).updEnter 9
    else ((s.updFlagSet 3 true).setF UPD_STATUS_LAST_STATUS status).swapStart 10
  s.updNotice 3

/-! ### Decisions across the stack (R522, R523) -/

/-- A decision is recorded: that of DECIDE (op 4) or VERDICT (op 9). -/
def State.updKeep (s : State) (txn op status : Nat) : State :=
  s.setUpd (fun u => { u with decisions := u.decisions.filter (fun d => !(d.1 == txn && d.2.1 == op)) ++ [(txn, op, status)] })

def State.updKnown (s : State) (txn op : Nat) : Option Nat :=
  (s.upd.decisions.find? (fun d => d.1 == txn && d.2.1 == op)).map (fun d => d.2.2)

/-- A decision is announced to every member of the transaction, and takes effect here. -/
def State.updAnnounce (s : State) (op status : Nat) : State :=
  let s := (s.updKeep (s.f UPD_TXN_TXN) op status).setUpd (fun u => { u with recording := none, waiting := [] })
  let s := (s.updMembers.filter (· != s.pos')).foldl (fun s p => s.updTell p op status) s
  if op = 4 then
    if status = cOK then (s.updEnd 4 cOK).swapStart 6
    else s.updEnd 4 (if s.upd.vote = cOK then cCANCELLED else s.upd.vote)
  else s.trialEnd (status == cOK) s.upd.vote

/-- RECORD goes to the Buddy, whose acknowledgement lets the decision out; without a Buddy it waits for one, and a module
that is alone needs none. -/
def State.updRecordSend (s : State) (op status : Nat) : State :=
  let txn := s.f UPD_TXN_TXN
  let act : BxlAct := .update 0x0B txn (op * 256 + status) 255
  let s := s.setUpd (fun u => { u with recording := some (txn, op, status) })
  if s.inStack = false then s.updAnnounce op status
  else if s.on BXL_GUEST_HAS_BUDDY = false then s.setBxl (fun b => { b with waiting := b.waiting ++ [act] })
  else s.updSend (s.f BXL_STATUS_BUDDY_POS) 0x0B 0 0 txn 0 (leBytes 1 op ++ leBytes 1 status) (some act)

/-- The Captain decides once every vote is in. -/
def State.updDecide (s : State) : State :=
  if s.upd.waiting ≠ [] ∨ s.upd.recording.isSome = true then s
  else if s.upd.vote = cOK ∧ s.f BXL_STATUS_EPOCH = s.upd.epoch then s.updRecordSend 4 cOK
  else s.updAnnounce 4 cCANCELLED

/-- The Captain's verdict on the trial, given once. -/
def State.updVerdict (s : State) (confirm : Bool) (reason : Nat) : State :=
  if s.updSt ≠ 8 ∨ s.upd.recording.isSome = true then s
  else (s.setUpd (fun u => { u with vote := reason })).updRecordSend 9 (if confirm then cOK else cCANCELLED)

/-- HEALTHY of every member confirms. -/
def State.updHealthyCheck (s : State) : State :=
  if s.on BXL_STATUS_CAPTAIN && s.updMembers.all (fun p => s.upd.healthy.contains p) then s.updVerdict true cOK else s

/-- ACTIVATE (R513, R522). -/
def State.updActivate (s : State) : State :=
  if s.updSt ≠ 4 then s.updDone cBUSY
  else if s.inStack = false then
    (((s.setF UPD_TXN_TXN 0).setUpd (fun u => { u with flags := 0, members := 0 })).swapStart 6).updDone cOK
  else if s.on BXL_STATUS_CAPTAIN = false then s.updDone cNOT_OWNER
  else if bit (s.rd (aStaging + 7) 1) 1 = false then s.updDone cRANGE
  else
    let n := wrapInc 32 (s.f UPD_TXN_TXN)
    let txn := if n = 0 then 1 else n
    let mask := s.f BXL_MEMBERS_MEMBER
    let o := idxWhere 16 (fun p => bit mask p && p != s.pos')
    let s := (s.setF UPD_CMD_BUSY 1).setF UPD_TXN_TXN txn
    let s := s.setUpd (fun u => { u with
      flags := 1, members := mask, waiting := o, vote := cOK, epoch := s.f BXL_STATUS_EPOCH, swapped := [], healthy := []
      recording := none })
    let s := s.updJournal
    let data := (s.upd.digest ++ List.replicate 48 0#8).take 48 ++ leBytes 2 s.upd.epoch
    (o.foldl (fun s p => s.updSend p 2 0 0 txn 0 data (some (.update 2 txn p 255))) s).updDecide

/-- RESTART (R514, R522). -/
def State.updRestart (s : State) : State :=
  if s.updSt ≠ 7 then s.updDone cBUSY
  else if s.updStack = false then s.moduleReset 5
  else if s.on BXL_STATUS_CAPTAIN = false then s.updDone cNOT_OWNER
  else if s.updMembers.all (fun p => s.upd.swapped.contains p) = false then s.updDone cBUSY
  else
    let t := s.now + 1000000
    let s := (s.setF UPD_CMD_BUSY 1).setUpd (fun u => { u with restartAt := some t })
    (s.updMembers.filter (· != s.pos')).foldl (fun s p => s.updSend p 6 0 0 (s.f UPD_TXN_TXN) 0 (leBytes 8 t) none) s

/-- CONFIRM (R516, R523). -/
def State.updConfirm (s : State) : State :=
  if s.updSt ≠ 8 then s.updDone cBUSY
  else if s.updStack = false then (s.trialEnd true cOK).updDone cOK
  else
    let s := ((s.updFlagSet 1 true).updJournal).updDone cOK
    if s.on BXL_STATUS_CAPTAIN then (s.setUpd (fun u => { u with healthy := s.pos' :: u.healthy })).updHealthyCheck
    else s.updTell (s.f BXL_STATUS_CAPTAIN_POS) 7 0

/-- REJECT (R516, R523). -/
def State.updReject (s : State) : State :=
  let r := s.f UPD_CMD_REASON
  if s.updSt ≠ 8 then s.updDone cBUSY
  else if r = 0 then s.updDone cRANGE
  else if s.updStack = false then (s.trialEnd false r).updDone cOK
  else
    let s := s.updDone cOK
    if s.on BXL_STATUS_CAPTAIN then s.updVerdict false r else s.updTell (s.f BXL_STATUS_CAPTAIN_POS) 8 r

/-- DISTRIBUTE (R520): every block in 66 pieces to every other member. -/
def State.updDistribute (s : State) : State :=
  if (s.updSt ≠ 2 ∧ s.updSt ≠ 4) ∨ s.inStack = false ∨ s.on BXL_STATUS_CAPTAIN = false then s.updDone cBUSY
  else
    let o := idxWhere 16 (fun p => (s.ros p).st == 1 && p != s.pos')
    let s := s.setF UPD_CMD_BUSY 1
    let s := o.foldl (fun s p => (List.range s.upd.newBlocks).foldl (fun s i => (List.range 66).foldl (fun s k =>
      s.updSend p 1 0 i 0 k (s.rdBytes (aStaging + i * norSector + k * 1008) (if k = 65 then 16 else 1008))
        (some (.update 1 0 0 255))) s) s) s
    if o = [] then s.updDone cOK else s

/-- BEGIN, VERIFY and ABANDON (R510). -/
def State.updBegin (s : State) : State :=
  if [0, 1, 2, 4].contains s.updSt then ((s.setUpd (fun u => { u with pieces := [] })).updFresh 1).updDone cOK
  else s.updDone cBUSY

def State.updVerify (s : State) : State :=
  if s.updSt = 2 then (s.setF UPD_CMD_BUSY 1).updEnter 3 else s.updDone cBUSY

def State.updAbandon (s : State) : State :=
  if [1, 2, 4].contains s.updSt then ((s.setUpd (fun u => { u with pieces := [] })).updFresh 0).updDone cOK
  else s.updDone cBUSY

def aUpdCmd : Nat := 0x0200050028

/-- A write of UPD_CMD. -/
def State.updCmdWrite (s : State) (req value : Nat) : Nat × State :=
  let op := value % 16
  if op = 0 ∨ 10 ≤ op then s.regRefuse iUPD aUpdCmd req cRANGE
  else if s.on UPD_CMD_BUSY then s.regRefuse iUPD aUpdCmd req cBUSY
  else
    let s := (s.setF UPD_CMD_OP op).setF UPD_CMD_REASON (bits value 15 8)
    (cOK, if op = 1 then s.updBegin else if op = 2 then s.updWrite else if op = 3 then s.updVerify
      else if op = 4 then s.updActivate else if op = 5 then s.updRestart else if op = 6 then s.updConfirm
      else if op = 7 then s.updReject else if op = 8 then s.updDistribute else s.updAbandon)

def State.updRegWrite (s : State) (req isl base value : Nat) : Option (Nat × State) :=
  if isl ≠ iUPD then none
  else if base = aUpdCmd then some (s.updCmdWrite req value)
  else if base = 0x0200050060 then
    some (if tagBad (bits value 47 16) then s.regRefuse isl base req cRANGE else s.regW isl req base value)
  else none

/-! ### The swap and its end (R513, R517, R518) -/

/-- One copy of the swap completes and is journaled; a sector that fails stops it (R502, R513). -/
def State.swapPhase (s : State) (mismatches : Nat) : State :=
  let i := s.f UPD_PROGRESS_SECTOR
  let ph := s.f UPD_PROGRESS_PHASE
  let n := s.f UPD_PROGRESS_SWAP_COUNT
  if (s.updSt ≠ 6 ∧ s.updSt ≠ 10) ∨ s.upd.halted = true ∨ n ≤ i then s
  else
    let img := aImage + i * norSector
    let stg := aStaging + i * norSector
    let scr := aScratch + i % 64 * norSector
    let src := if ph = 0 then img else if ph = 1 then stg else scr
    let dst := if ph = 0 then scr else if ph = 1 then img else stg
    let r := s.norWrite dst (s.rdBytes src norSector) mismatches
    if r.1 = false then (r.2.setF UPD_STATUS_LAST_STATUS cINTEGRITY).setUpd (fun u => { u with halted := true })
    else
      let s := if ph < 2 then r.2.setF UPD_PROGRESS_PHASE (ph + 1)
        else (r.2.setF UPD_PROGRESS_PHASE 0).setF UPD_PROGRESS_SECTOR (i + 1)
      if s.updSt = 6 ∧ s.f UPD_PROGRESS_SECTOR = n then
        let s := s.updEnter 7
        if s.updStack = false then s
        else if s.on BXL_STATUS_CAPTAIN then s.setUpd (fun u => { u with swapped := s.pos' :: u.swapped })
        else s.updTell (s.f BXL_STATUS_CAPTAIN_POS) 5 0
      else s.updJournal

/-- CONFIRMING, to its end (R517): the shadow set becomes the active one, OTP is programmed, and the old Playbook stands in
staging. -/
def State.confirming (s : State) : State :=
  if s.updSt ≠ 9 then s
  else
    let s := if s.memc.failA || s.memc.failB then s else s.wrBytes 0x0400620000 (s.rdBytes 0x0400A60000 0x80000)
    let s := s.setF UPD_OTP_ROLLBACK (max (s.f UPD_OTP_ROLLBACK) (s.rd (aImage + 32) 1))
    let s := s.setF UPD_OTP_REVOKED (s.f UPD_OTP_REVOKED ||| s.rd (aImage + 34) 1 % 16)
    let n := s.upd.oldBlocks
    let s := s.setUpd (fun u => { u with
      newBlocks := n, oldBlocks := u.newBlocks, digest := sha384 (s.rdBytes aStaging 4096) })
    let s := ((s.updFlagSet 1 false).updFlagSet 4 false).setF UPD_STATUS_DL_NEXT n
    (s.setF UPD_STATUS_LAST_STATUS cOK).updEnter 2

/-- REVERTING ends when every sector is back: IDLE, and the module resets into the old image; at boot the old image simply
starts (R518, R519). -/
def State.reverting (s : State) : State :=
  if s.updSt ≠ 10 ∨ s.upd.halted = true ∨ s.f UPD_PROGRESS_SECTOR < s.f UPD_PROGRESS_SWAP_COUNT then s
  else
    let s := s.updFresh 0
    if s.f SYS_BOOT_PHASE = 2 then s else s.moduleReset 5

/-- ELAPSED counts a second of the trial (R516). -/
def State.updSecond (s : State) : State :=
  if s.upd.trial = false ∨ s.updSt ≠ 8 ∨ s.tim.edges < s.upd.secondAt then s
  else
    let s := s.setUpd (fun u => { u with elapsed := u.elapsed + 1, secondAt := u.secondAt + 100000000 })
    (s.setF UPD_TRIAL_ELAPSED (min s.upd.elapsed 65535)).updJournal

/-- ELAPSED has reached TRIAL_S (R516, R523). -/
def State.trialTimeout (s : State) : State :=
  if s.updSt ≠ 8 ∨ s.upd.elapsed < s.f UPD_TRIAL_TRIAL_S then s
  else if s.updStack = false then s.trialEnd false cTIMEOUT
  else if s.on BXL_STATUS_CAPTAIN then s.updVerdict false cTIMEOUT
  else s.updAsk

/-! ### Messages (R520 to R524) -/

/-- A BLOCK piece at a member (R520): pieces of a block arrive in order; the last one is answered BUSY until the block is
written, and one that does not follow the pieces held, because its block failed, INTEGRITY. -/
def State.updBlock (s : State) (m : BxlMsg) : Nat × State :=
  let i := fld m.body 2 2
  let k := fld m.body 8 1
  let data := m.body.drop 16
  if [0, 1, 2, 4].contains s.updSt = false then (cBUSY, s)
  else
    let s := if i = 0 ∧ k = 0 ∧ s.upd.writing = none then
      (s.setUpd (fun u => { u with pieces := [] })).updFresh 1 else s
    if i < s.f UPD_STATUS_DL_NEXT then (cDUPLICATE, s)
    else if s.updSt ≠ 1 then (cRANGE, s)
    else if s.upd.writing.isSome then (cBUSY, s)
    else if k = 0 then (cOK, s.setUpd (fun u => { u with pieces := data }))
    else if s.upd.pieces.length ≠ k * 1008 then (cINTEGRITY, s)
    else if k < 65 then (cOK, s.setUpd (fun u => { u with pieces := u.pieces ++ data }))
    else
      let bs := (s.upd.pieces ++ data).take norSector
      let c := s.blockCheck i (bs.take 16)
      if c ≠ cOK then (c, s.setUpd (fun u => { u with pieces := [] }))
      else (cBUSY, s.setUpd (fun u => { u with writing := some (i, bs, false) }))

/-- PREPARE at a member (R522): its vote. -/
def State.updPrepare (s : State) (m : BxlMsg) : State :=
  let v := if s.updSt ≠ 4 then cBUSY else if (m.body.drop 16).take 48 ≠ s.upd.digest then cAUTH
    else if partsFor (s.rdBytes aStaging 4096) s.pos' = false then cRANGE else cOK
  let txn := fld m.body 4 4
  let s := if v = cOK then
      ((s.setF UPD_TXN_TXN txn).setUpd (fun u => { u with flags := 1, since := s.tim.edges, members := 2 ^ s.pos' })).updEnter 5
    else s
  s.updSend m.src 3 v 0 txn 0 [] none

/-- A vote, or what stands for one of a member that did not take PREPARE. -/
def State.updVote (s : State) (txn p status : Nat) : State :=
  if txn ≠ s.f UPD_TXN_TXN ∨ s.upd.waiting.contains p = false then s
  else (s.setUpd (fun u => { u with
    waiting := u.waiting.filter (· != p), vote := if u.vote = cOK then status else u.vote })).updDecide

/-- DECIDE at a member. -/
def State.updDecided (s : State) (m : BxlMsg) : State :=
  if s.updSt ≠ 5 ∨ fld m.body 4 4 ≠ s.f UPD_TXN_TXN then s
  else if fld m.body 1 1 = cOK then s.swapStart 6 else s.updEnter 4

/-- VERDICT at a member. -/
def State.updJudged (s : State) (m : BxlMsg) : State :=
  if s.updSt ≠ 8 ∨ fld m.body 4 4 ≠ s.f UPD_TXN_TXN then s
  else s.trialEnd (fld m.body 1 1 == cOK) cCANCELLED

/-- ASK at the Captain (R522, R523). -/
def State.updAsked (s : State) (m : BxlMsg) : State :=
  let txn := fld m.body 4 4
  if s.on BXL_STATUS_CAPTAIN = false then s
  else if fld m.body 16 1 = 8 then
    match s.updKnown txn 9 with
    | some st => s.updSend m.src 9 st 0 txn 0 [] none
    | none =>
      if txn = s.f UPD_TXN_TXN ∧ s.updSt = 8 then s.updVerdict false cTIMEOUT
      else (s.updKeep txn 9 cCANCELLED).updSend m.src 9 cCANCELLED 0 txn 0 [] none
  else
    match s.updKnown txn 4 with
    | some st => s.updSend m.src 4 st 0 txn 0 [] none
    | none =>
      if txn = s.f UPD_TXN_TXN ∧ s.upd.recording.isSome = true then s
      else if txn = s.f UPD_TXN_TXN ∧ s.upd.waiting ≠ [] then
        (s.setUpd (fun u => { u with vote := if u.vote = cOK then cCANCELLED else u.vote })).updAnnounce 4 cCANCELLED
      else (s.updKeep txn 4 cCANCELLED).updSend m.src 4 cCANCELLED 0 txn 0 [] none

/-- An acknowledgement of an UPDATE message, or the loss of the Buddy it was for (ack 255). -/
def State.updActDone (s : State) (op txn x ack : Nat) : State :=
  if op = 1 then
    if s.on UPD_CMD_BUSY = false ∨ s.f UPD_CMD_OP ≠ 8 then s
    else if ack ≠ cOK ∧ ack ≠ cDUPLICATE then s.updDone (if ack = 255 then cNO_ROUTE else ack)
    else if s.acts.any (fun a => match a with | .update 1 _ _ _ => true | _ => false) then s
    else s.updDone cOK
  else if op = 2 then
    if ack = cOK ∨ ack = cDUPLICATE then s else s.updVote txn x (if ack = 255 then cNO_ROUTE else ack)
  else
    match s.upd.recording with
    | some (t, o, st) =>
      if t ≠ txn ∨ x ≠ o * 256 + st then s
      else if ack = 255 then s.updRecordSend o st
      else s.updAnnounce o st
    | none => s

/-- An update message of this member arrives: processed by `f`, and acknowledged with OK. -/
def State.updMsg (s : State) (m : BxlMsg) (f : State → State) : State := s.bxlIn m (fun s => (some cOK, f s))

/-! ### Meanings -/

def State.updCmdRow (s : State) (req value : Nat) : Res :=
  s.regRow iUPD req aUpdCmd 4 value (fun s => s.updCmdWrite req value)

/-- BEGIN. -/
def execBegin (req : Nat) (s : State) : Res := s.updCmdRow req 1

/-- WRITE_BLOCK. -/
def execWriteBlock (req : Nat) (s : State) : Res := s.updCmdRow req 2

/-- WRITE_BLOCK_DONE: the read-back of the sector differed that many times. -/
def execWriteBlockDone (mismatches : Nat) (s : State) : Res := .next (s.updWritten mismatches)

/-- VERIFY. -/
def execVerify (req : Nat) (s : State) : Res := s.updCmdRow req 3

/-- VERIFY_DONE. -/
def execVerifyDone (s : State) : Res := .next s.updVerified

/-- ACTIVATE. -/
def execActivate (req : Nat) (s : State) : Res := s.updCmdRow req 4

/-- SWAP_PHASE_DONE. -/
def execSwapPhaseDone (mismatches : Nat) (s : State) : Res := .next (s.swapPhase mismatches)

/-- RESTART. -/
def execRestart (req : Nat) (s : State) : Res := s.updCmdRow req 5

/-- CONFIRM. -/
def execConfirm (req : Nat) (s : State) : Res := s.updCmdRow req 6

/-- REJECT, with its REASON. -/
def execReject (req reason : Nat) (s : State) : Res := s.updCmdRow req (7 + reason % 256 * 256)

/-- DISTRIBUTE. -/
def execDistribute (req : Nat) (s : State) : Res := s.updCmdRow req 8

/-- ABANDON. -/
def execAbandon (req : Nat) (s : State) : Res := s.updCmdRow req 9

/-- TRIAL_TIMEOUT. -/
def execTrialTimeout (s : State) : Res := .next s.trialTimeout

/-- CONFIRMING. -/
def execConfirming (s : State) : Res := .next s.confirming

/-- REVERTING. -/
def execReverting (s : State) : Res := .next s.reverting

/-- UPDATE_BLOCK. -/
def execUpdateBlock (m : BxlMsg) (s : State) : Res :=
  .next (s.bxlIn m (fun s => let r := s.updBlock m; (some r.1, r.2)))

/-- UPDATE_PREPARE. -/
def execUpdatePrepare (m : BxlMsg) (s : State) : Res := .next (s.updMsg m (fun s => s.updPrepare m))

/-- UPDATE_VOTE. -/
def execUpdateVote (m : BxlMsg) (s : State) : Res :=
  .next (s.updMsg m (fun s => s.updVote (fld m.body 4 4) m.src (fld m.body 1 1)))

/-- UPDATE_DECIDE. -/
def execUpdateDecide (m : BxlMsg) (s : State) : Res := .next (s.updMsg m (fun s => s.updDecided m))

/-- UPDATE_SWAPPED. -/
def execUpdateSwapped (m : BxlMsg) (s : State) : Res :=
  .next (s.updMsg m (fun s => if fld m.body 4 4 = s.f UPD_TXN_TXN then
    s.setUpd (fun u => { u with swapped := m.src :: u.swapped.filter (· != m.src) }) else s))

/-- UPDATE_RESTART. -/
def execUpdateRestart (m : BxlMsg) (s : State) : Res :=
  .next (s.updMsg m (fun s => if s.updSt = 7 ∧ fld m.body 4 4 = s.f UPD_TXN_TXN then
    s.setUpd (fun u => { u with restartAt := some (fld m.body 16 8) }) else s))

/-- UPDATE_RESTART_TIME. -/
def execUpdateRestartTime (s : State) : Res :=
  .next (match s.upd.restartAt with
    | some t => if t ≤ s.now then s.moduleReset 5 else s
    | none => s)

/-- HEALTHY. -/
def execHealthy (m : BxlMsg) (s : State) : Res :=
  .next (s.updMsg m (fun s => if fld m.body 4 4 = s.f UPD_TXN_TXN then
    (s.setUpd (fun u => { u with healthy := m.src :: u.healthy.filter (· != m.src) })).updHealthyCheck else s))

/-- UNHEALTHY. -/
def execUnhealthy (m : BxlMsg) (s : State) : Res :=
  .next (s.updMsg m (fun s => if fld m.body 4 4 = s.f UPD_TXN_TXN ∧ s.on BXL_STATUS_CAPTAIN = true then
    s.updVerdict false (fld m.body 1 1) else s))

/-- VERDICT. -/
def execVerdict (m : BxlMsg) (s : State) : Res := .next (s.updMsg m (fun s => s.updJudged m))

/-- UPDATE_ASK. -/
def execUpdateAsk (m : BxlMsg) (s : State) : Res := .next (s.updMsg m (fun s => s.updAsked m))

/-- UPDATE_RECORD: the Buddy keeps the Captain's decision. -/
def execUpdateRecord (m : BxlMsg) (s : State) : Res :=
  .next (s.updMsg m (fun s => s.updKeep (fld m.body 4 4) (fld m.body 16 1) (fld m.body 17 1)))

/-- DECIDE_TIMEOUT. -/
def execDecideTimeout (s : State) : Res :=
  .next (if s.updSt = 5 ∧ s.upd.since + 10000000 ≤ s.tim.edges ∧ s.inStack = true then s.updAsk else s)

end Sys2Proof.Machine
end

