-- ==== Sys2Proof/Machine/Scb.lean ====
section
/-! DEFINITION. The Scorebook (R542 to R557): writing, bookmarks, commands, and the reserve region. -/

namespace Sys2Proof.Machine

def State.setScb (s : State) (f : ScbSt → ScbSt) : State := { s with scb := f s.scb }

/-! ### Regions (R542, R543) -/

def scbBase (r : Nat) : Nat := if r = 0 then 0x0400200000 else 0x0400A00000
def scbSize (r : Nat) : Nat := if r = 0 then 0x200000 else 0x40000

def State.scbRegion (s : State) : Nat := s.f SCB_STATUS_REGION

/-- Whether the device that holds a region is marked failed (R47). -/
def State.scbFailed (s : State) (r : Nat) : Bool := if r = 0 then s.memc.failA else s.memc.failB

/-- The bytes of a record (R543). -/
def scbBytes (r : ScbRec) (seq member : Nat) : List Byte :=
  let h := scbHead r seq member
  h ++ leBytes 4 (crc32c (h ++ r.body)) ++ r.body

/-- The pointer slot of a region: WR, OLDEST, ACTIVE, CHECK. The places of its fields are the model's (log entry 46). -/
def State.scbPointer (s : State) (r active : Nat) : State :=
  let b := leBytes 4 (s.f SCB_WR_OFFSET) ++ leBytes 4 (s.f SCB_WR_SEQ) ++ leBytes 4 (s.f SCB_OLDEST_OFFSET) ++
    leBytes 4 (s.f SCB_OLDEST_SEQ) ++ leBytes 4 active ++ List.replicate 40 0#8
  if s.scbFailed r then s
  else s.wrBytes (scbBase r + s.f SCB_WR_SEQ % 2 * 64) (b ++ leBytes 4 (crc32c b))

/-- The newest valid pointer slot of a region. -/
def State.scbSlot (s : State) (r : Nat) : Option (List Byte) :=
  ([0, 64].filterMap (fun o =>
    let b := s.rdBytes (scbBase r + o) 64
    if fld b 60 4 = crc32c (b.take 60) then some b else none)).foldl (fun x b => match x with
      | none => some b
      | some y =>
        let d := (fld b 4 4 + 2 ^ 32 - fld y 4 4) % 2 ^ 32
        if d ≠ 0 ∧ d < 2 ^ 31 then some b else some y) none

/-- The bookmarks of the region's table. -/
def State.scbMarks (s : State) : State :=
  if s.scbFailed s.scbRegion then s
  else s.wrBytes (scbBase s.scbRegion + 0x80) ((List.range 8).flatMap (fun k =>
    leBytes 4 (s.f (SCB_BMk_POS_OFFSET k) + s.f (SCB_BMk_POS_OPEN k) * 2 ^ 31) ++ leBytes 4 (s.f (SCB_BMk_POS_SEQ k)) ++
      leBytes 8 0))

/-- The records of a region from an offset and SEQ on, up to a SEQ; pads are stepped over. -/
def State.scbWalk (s : State) (r last : Nat) : Nat → Nat → Nat → List ScbEnt
  | 0, _, _ => []
  | n + 1, off, seq =>
    if seq = last then []
    else if scbSize r ≤ off then State.scbWalk s r last n 0x100 seq
    else
      let len := s.rd (scbBase r + off) 2
      if s.rd (scbBase r + off + 2) 2 = 0 then
        (if off = 0x100 then [] else State.scbWalk s r last n 0x100 seq)
      else if len < 24 ∨ scbSize r < off + len then []
      else ⟨seq, off, len⟩ :: State.scbWalk s r last n (off + len) (wrapInc 32 seq)

/-- Whether a valid record of a SEQ lies at an offset (R543). -/
def State.scbValid (s : State) (r off seq : Nat) : Option Nat :=
  let b := s.rdBytes (scbBase r + off) 24
  let len := fld b 0 2
  if len < 24 ∨ 1024 < len ∨ scbSize r < off + len ∨ fld b 4 4 ≠ seq ∨ fld b 2 2 = 0 then none
  else if fld b 20 4 = crc32c (b.take 20 ++ s.rdBytes (scbBase r + off + 24) (len - 24)) then some len
  else none

/-- Records after the pointer that are valid and next in number (R546). -/
def State.scbStep (s : State) (r : Nat) : Nat → Nat → Nat → List ScbEnt
  | 0, _, _ => []
  | n + 1, off, seq =>
    let off := if scbSize r ≤ off ∨ s.rd (scbBase r + off + 2) 2 = 0 then 0x100 else off
    match s.scbValid r off seq with
    | none => []
    | some len => ⟨seq, off, len⟩ :: State.scbStep s r n (off + len) (wrapInc 32 seq)

/-- The pointers of a region, and its records. -/
def State.scbOpen (s : State) (r : Nat) : State :=
  let s := s.setF SCB_STATUS_REGION r
  let p := match s.scbSlot r with
    | some b => (fld b 0 4, fld b 4 4, fld b 8 4, fld b 12 4)
    | none => (0x100, 0, 0x100, 0)
  let l := s.scbWalk r p.2.1 300000 p.2.2.1 p.2.2.2
  let more := s.scbStep r 300000 p.1 p.2.1
  let wr := match more.getLast? with
    | some e => (e.off + e.len, wrapInc 32 e.seq)
    | none => (p.1, p.2.1)
  let s := (((s.setF SCB_WR_OFFSET wr.1).setF SCB_WR_SEQ wr.2).setF SCB_OLDEST_OFFSET p.2.2.1).setF SCB_OLDEST_SEQ p.2.2.2
  s.setScb (fun c => { c with live := l ++ more })

/-- SCB takes its place from MRAM, at boot and when it is released (R546, R548, R553). -/
def State.scbLoad (s : State) : State :=
  let reserve := s.memc.failA || (match s.scbSlot 1 with | some b => fld b 16 4 == 1 | none => false)
  let s := s.scbOpen (if reserve then 1 else 0)
  (List.range 8).foldl (fun s k =>
    let b := s.rdBytes (scbBase s.scbRegion + 0x80 + 16 * k) 8
    ((s.setF (SCB_BMk_POS_OFFSET k) (fld b 0 4)).setF (SCB_BMk_POS_OPEN k) (fld b 0 4 / 2 ^ 31)).setF
      (SCB_BMk_POS_SEQ k) (fld b 4 4)) s

/-! ### Notices and ends of commands -/

/-- A notice of SCB (R557). -/
def State.scbNotice (s : State) (kind x : Nat) : State :=
  if s.on SCB_NOTICE_EN && bit (s.f SCB_NOTICE_EN_EN) (kind - 1) then
    s.notice (ep iSCB 0) (s.f SCB_NOTICE_EP) (s.f SCB_NOTICE_TAG) (s.now % 2 ^ 32 * 2 ^ 32 + x * 2 ^ 8 + kind) false
  else s

/-- A command ends with its status, which goes back to the sender of a token. -/
def State.scbEnd (s : State) (status : Nat) (src : Option Nat) (task : Option (Nat × Nat × Nat)) : State :=
  let s := (s.setF SCB_CMD_STATUS_BUSY 0).setF SCB_CMD_STATUS_STATUS status
  match src with
  | some e => s.answerTo status e (ep iSCB 0) task
  | none => s

def State.scbWaitEnd (s : State) (status : Nat) : State :=
  match s.scb.wait with
  | some w => (s.setScb (fun c => { c with wait := none, main := false })).scbEnd status w.src w.task
  | none => s

def State.scbSendEnd (s : State) (status : Nat) : State :=
  match s.scb.send with
  | some x => ((s.setScb (fun c => { c with send := none })).scbNotice 4 status).scbEnd status x.src x.task
  | none => s

/-! ### Writing (R546, R547, R550, R553) -/

/-- Where a record of n bytes will lie: at WR, or at the start when it does not fit. -/
def State.scbPlace (s : State) (n : Nat) : Nat :=
  if scbSize s.scbRegion < s.f SCB_WR_OFFSET + n then 0x100 else s.f SCB_WR_OFFSET

/-- A bookmark moves to a place. -/
def State.markTo (s : State) (k seq off : Nat) : State :=
  (s.setF (SCB_BMk_POS_SEQ k) seq).setF (SCB_BMk_POS_OFFSET k) off

/-- A bookmark is overrun: it moves on, LOST grows (R550). -/
def State.markLost (s : State) (k seq off lost : Nat) : State :=
  (((s.markTo k seq off).addF (SCB_BMk_STAT_LOST k) lost).setF (SCB_BMk_STAT_OVERRUN k) 1).scbNotice 1 k

def State.marksOpen (s : State) : List Nat := idxWhere 8 (fun k => s.on (SCB_BMk_POS_OPEN k))

/-- OLDEST moves to the first record kept, and open bookmarks behind it are overrun (R550). -/
def State.scbOldest (s : State) (keep : List ScbEnt) : State :=
  let o := match keep with
    | e :: _ => (e.seq, e.off)
    | [] => (s.f SCB_WR_SEQ, s.f SCB_WR_OFFSET)
  let s := ((s.setScb (fun c => { c with live := keep })).setF SCB_OLDEST_SEQ o.1).setF SCB_OLDEST_OFFSET o.2
  s.marksOpen.foldl (fun s k =>
    let d := (o.1 + 2 ^ 32 - s.f (SCB_BMk_POS_SEQ k)) % 2 ^ 32
    if d ≠ 0 ∧ d < 2 ^ 31 then s.markLost k o.1 o.2 d else s) s

/-- The bytes of a pad (R543), as many as are left. -/
def padBytes (n seq : Nat) : List Byte :=
  (leBytes 2 n ++ leBytes 2 0 ++ leBytes 4 seq ++ List.replicate n 0#8).take n

/-- A record is written at WR (R546). -/
def State.scbPut (s : State) (r : ScbRec) : State :=
  let reg := s.scbRegion
  let n := 24 + r.body.length
  let wr := s.f SCB_WR_OFFSET
  let seq := s.f SCB_WR_SEQ
  let off := s.scbPlace n
  let s := if off = wr then s else s.wrBytes (scbBase reg + wr) (padBytes (scbSize reg - wr) seq)
  let covers := fun (e : ScbEnt) =>
    (decide (e.off < off + n) && decide (off < e.off + e.len)) || (decide (off ≠ wr) && decide (wr ≤ e.off))
  let keep := s.scb.live.filter (fun e => !covers e)
  let s := if keep.length = s.scb.live.length then s else
    (if keep = [] then ((s.scbOldest [⟨seq, off, n⟩]).setScb (fun c => { c with live := [] })) else s.scbOldest keep)
  let s := if s.scb.live = [] then (s.setF SCB_OLDEST_SEQ seq).setF SCB_OLDEST_OFFSET off else s
  let s := s.marksOpen.foldl (fun s k => if s.f (SCB_BMk_POS_SEQ k) = seq then s.markTo k seq off else s) s
  let s := s.wrBytes (scbBase reg + off) (scbBytes r seq (s.f BXL_STATUS_POSITION))
  let s := s.setScb (fun c => { c with live := c.live ++ [⟨seq, off, n⟩] })
  let next := if off + n = scbSize reg then 0x100 else off + n
  let s := (s.setF SCB_WR_OFFSET next).setF SCB_WR_SEQ (wrapInc 32 seq)
  (s.scbPointer reg reg).scbMarks

/-- The next record: a CLEAR that waits (R551), DROPPED (R547), what goes before staging, staging. -/
def State.scbNext (s : State) : State :=
  if s.scb.writing.isSome ∨ s.on SCB_STATUS_LOGFAIL = true then s
  else if 0 < s.scb.dropCount then
    s.setScb (fun c => { c with
      writing := some ⟨0x0401, s.now, cOVERRUN, false, [c.dropCount, c.dropFirst, c.dropLast].flatMap (leBytes 8)⟩
      dropCount := 0, dropFirst := 0, dropLast := 0 })
  else match s.scb.first, s.scb.staged with
    | r :: l, _ => s.setScb (fun c => { c with writing := some r, first := l })
    | [], r :: l => s.setScb (fun c => { c with writing := some r, staged := l })
    | [], [] => s

/-- Whether a CLEAR waits for the record in progress. -/
def State.clearDue (s : State) : Option ScbWait := s.scb.wait.filter (fun w => w.op == 4)

/-- CLEAR takes effect (R551): OLDEST becomes WR, bookmarks move there, and CLEARED is the next record. -/
def State.scbClear (s : State) (requester : Nat) : State :=
  let n := s.scb.live.length
  let r : ScbRec := ⟨0x0403, s.now, cOK, false, [n, requester].flatMap (leBytes 8)⟩
  let off := s.scbPlace (24 + r.body.length)
  let seq := s.f SCB_WR_SEQ
  let s := s.setScb (fun c => { c with live := [], writing := some r })
  let s := (s.setF SCB_OLDEST_SEQ seq).setF SCB_OLDEST_OFFSET off
  s.marksOpen.foldl (fun s k => s.markTo k seq off) s

/-- SCB goes to the other region: open bookmarks move to the record written there next, of n bytes, with OVERRUN (R553). -/
def State.scbTurn (s : State) (r n : Nat) : State :=
  let stop' := s.f SCB_WR_SEQ
  let marks := s.marksOpen.map (fun k => (k, (stop' + 2 ^ 32 - s.f (SCB_BMk_POS_SEQ k)) % 2 ^ 32))
  let s := s.scbOpen r
  marks.foldl (fun s m => s.markLost m.1 (s.f SCB_WR_SEQ) (s.scbPlace n) m.2) s

/-- The reserve fails too (R554): LOGFAIL, and what waits is lost. -/
def State.scbLogfail (s : State) : State :=
  let l := s.scb.writing.toList ++ s.scb.first ++ s.scb.staged
  let s := s.setScb (fun c => { c with writing := none, first := [], staged := [] })
  let s := ((s.setF SCB_STATUS_LOGFAIL 1).cellWrite 2 iSCB cLOGFAIL 0 0).scbNotice 3 cLOGFAIL
  ((l.foldl State.cellEvent s).scbWaitEnd cLOGFAIL).scbSendEnd cLOGFAIL

/-- The main ring fails at an offset (R553): LOG_FAULT, then the record that failed, then staging. -/
def State.scbFault (s : State) (failed : Option ScbRec) : State :=
  let body := [0, s.f SCB_WR_OFFSET].flatMap (leBytes 8)
  let s := s.scbTurn 1 40
  let s := s.setScb (fun c => { c with
    writing := some ⟨0x0402, s.now, cLOGFAIL, false, body⟩, first := failed.toList ++ c.first })
  s.scbNotice 2 cLOGFAIL

/-- MAIN's record (R553): in the main ring if that works, otherwise in the reserve after all. -/
def State.scbMain (s : State) (r : ScbRec) (bad : Bool) : State :=
  if bad ∨ s.scbFailed 0 = true then (s.setScb (fun c => { c with main := false })).scbWaitEnd cLOGFAIL
  else
    let s := s.scbPointer 1 0
    let s := (s.scbTurn 0 (24 + r.body.length)).scbPut r
    (s.setScb (fun c => { c with writing := none })).scbWaitEnd cOK

/-- A record is written and read back (R546), or its read-back differs. -/
def State.scbWritten (s : State) (bad : Bool) : State :=
  match s.scb.writing with
  | none => s
  | some r =>
    if s.scb.main then (s.scbMain r bad).scbNext
    else if bad ∨ s.scbFailed s.scbRegion = true then
      (if s.scbRegion = 0 then s.scbFault (some r) else s.scbLogfail)
    else
      let s := (s.scbPut r).setScb (fun c => { c with writing := none })
      match s.clearDue with
      | none => s.scbNext
      | some w => if r.typ = 0x0403 then (s.scbWaitEnd cOK).scbNext else s.scbClear (w.src.getD 0)

/-! ### Commands (R549 to R553) -/

/-- The next record of a SEND, or its end. -/
def State.sendNext (s : State) : State :=
  match s.scb.send with
  | none => s
  | some x =>
    let seq := s.f (SCB_BMk_POS_SEQ x.k)
    if s.on (SCB_BMk_STAT_OVERRUN x.k) then s.scbSendEnd cOVERRUN
    else if x.count = 0 then s.scbSendEnd cOK
    else match s.scb.live.find? (fun e => e.seq == seq) with
      | none => s.scbSendEnd cOK
      | some e =>
        if (s.ros x.member).st = 0 ∨ (s.ros x.member).st = 5 then s.scbSendEnd cNO_ROUTE
        else
          let b := s.rdBytes (scbBase s.scbRegion + e.off) e.len
          let ps := pieces 968 2 b
          let s := s.setScb (fun c => { c with send := some { x with parts := ps.length } })
          (List.range ps.length).foldl (fun s i =>
            let p := leBytes 4 seq ++ leBytes 1 (i + ps.length * 16) ++ leBytes 1 s.pos' ++ leBytes 2 0 ++ ps.getD i []
            let h := leBytes 1 3 ++ leBytes 1 x.member ++ leBytes 2 p.length ++ leBytes 2 x.flow ++ leBytes 18 0
            s.bxlSendWith x.member 3 7 (h ++ p) none none (some (.scb (seq * 256 + 255)))) s

/-- One item of a SEND is acknowledged (R552). -/
def State.scbActDone (s : State) (a : Nat) : State :=
  match s.scb.send with
  | none => s
  | some x =>
    let seq := s.f (SCB_BMk_POS_SEQ x.k)
    let st := a % 256
    if a / 256 ≠ seq then s
    else if st ≠ cOK ∧ st ≠ cDUPLICATE then s.scbSendEnd (if st = 255 then cNO_ROUTE else st)
    else if 1 < x.parts then s.setScb (fun c => { c with send := some { x with parts := x.parts - 1 } })
    else
      let next := match s.scb.live.find? (fun e => e.seq == wrapInc 32 seq) with
        | some e => e.off
        | none => s.f SCB_WR_OFFSET
      let s := ((s.markTo x.k (wrapInc 32 seq) next).scbMarks).setScb (fun c => { c with
        send := some { x with count := x.count - 1, parts := 0 } })
      s.sendNext

/-- A command word (R549), from a token (its sender and task) or a register write: its status, none while it goes on. -/
def State.scbCommand (s : State) (w req : Nat) (src : Option Nat) (task : Option (Nat × Nat × Nat)) : Option Nat × State :=
  let op := w % 16
  let k := bits w 6 4
  let count := bits w 15 8
  let isOpen := s.on (SCB_BMk_POS_OPEN k)
  if w / 2 ^ 32 ≠ 0 ∨ op = 0 ∨ 6 < op then (some cRANGE, s)
  else if s.on SCB_STATUS_LOGFAIL && decide (4 ≤ op) then (some cLOGFAIL, s)
  else if op = 1 then
    if isOpen then (some cBUSY, s)
    else
      let s := if bit w 7 then s.markTo k (s.f SCB_WR_SEQ) (s.f SCB_WR_OFFSET)
        else s.markTo k (s.f SCB_OLDEST_SEQ) (s.f SCB_OLDEST_OFFSET)
      (some cOK, (((s.setF (SCB_BMk_POS_OPEN k) 1).setF (SCB_BMk_STAT_OVERRUN k) 0).setF (SCB_BMk_STAT_LOST k) 0).scbMarks)
  else if op = 2 then
    if isOpen then (some cOK, (s.setF (SCB_BMk_POS_OPEN k) 0).scbMarks) else (some cNOT_FOUND, s)
  else if op = 3 then
    let seq := s.f (SCB_BMk_POS_SEQ k)
    if isOpen = false then (some cNOT_FOUND, s)
    else if s.on (SCB_BMk_STAT_OVERRUN k) then (some cOVERRUN, s)
    else if (s.f SCB_WR_SEQ + 2 ^ 32 - seq) % 2 ^ 32 < count then (some cRANGE, s)
    else
      let dest := (seq + count) % 2 ^ 32
      let off := match s.scb.live.find? (fun e => e.seq == dest) with
        | some e => e.off
        | none => s.f SCB_WR_OFFSET
      (some cOK, (s.markTo k dest off).scbMarks)
  else if op = 4 then
    let s := s.setScb (fun c => { c with wait := some ⟨4, some req, task⟩ })
    (none, if s.scb.writing.isSome then s else s.scbClear req)
  else if op = 5 then
    if bits w 31 28 = s.pos' then (some cRANGE, s)
    else if isOpen = false then (some cNOT_FOUND, s)
    else if s.on (SCB_BMk_STAT_OVERRUN k) then (some cOVERRUN, s)
    else if count = 0 then (some cOK, s)
    else (none, (s.setScb (fun c => { c with
      send := some ⟨k, count, bits w 27 16, bits w 31 28, 0, src, task⟩ })).sendNext)
  else if s.scbRegion = 0 then (some cOK, s)
  else (none, s.setScb (fun c => { c with wait := some ⟨6, src, task⟩, main := true }))

/-- A command runs: one at a time. -/
def State.scbRun (s : State) (w req : Nat) (src : Option Nat) (task : Option (Nat × Nat × Nat)) : Nat × State :=
  if s.on SCB_CMD_STATUS_BUSY then (cBUSY, s)
  else
    let r := (s.setF SCB_CMD_STATUS_BUSY 1).scbCommand w req src task
    match r.1 with
    | none => (cOK, r.2)
    | some st => (st, (r.2.setF SCB_CMD_STATUS_BUSY 0).setF SCB_CMD_STATUS_STATUS st)

def aScbCmd : Nat := 0x0200040038

/-- A write of SCB_CMD. -/
def State.scbCmdWrite (s : State) (req value : Nat) : Nat × State :=
  if s.on SCB_CMD_STATUS_BUSY then s.regRefuse iSCB aScbCmd req cBUSY else (cOK, (s.scbRun value req none none).2)

/-- A software record (R545). -/
def State.scbSoftware (s : State) (t : Token) : Nat × State :=
  let a := t.data % 2 ^ 40
  let bad := bits t.tag 31 26 != 0 || bits t.tag 22 0 != 0 || t.data / 2 ^ 40 != 0 || a % 8 != 0 || !blockIn a 24 true
  if bad then (cRANGE, s)
  else
    let n := s.rd a 2
    let typ := s.rd (a + 2) 2
    if 1024 < n then (cLENGTH, s)
    else if n < 24 ∨ n % 8 ≠ 0 ∨ typ < 0x8000 ∨ blockIn a n true = false then (cRANGE, s)
    else
      let full := decide (64 ≤ s.scb.staged.length) && s.scb.writing.isSome && !s.on SCB_STATUS_LOGFAIL
      let s := s.stageRec ⟨typ, s.now, s.rd (a + 16) 1, true, s.rdBytes (a + 24) (n - 24)⟩
      (if full then cBUSY else cOK, s)

/-- A token at SCB (R545, R549). -/
def State.scbToken (s : State) (t : Token) : Nat × State :=
  if epPort t.dest = 0 then
    (if bits t.tag 31 26 ≠ 0 ∨ bits t.tag 22 0 ≠ 0 then (cRANGE, s) else s.scbRun t.data t.src (some t.src) t.task)
  else if epPort t.dest = 1 then s.scbSoftware t
  else (cNO_ROUTE, s)

/-- A write of SCB_BMk_STAT: 1 to OVERRUN clears it with LOST (R550). -/
def State.markStatWrite (s : State) (k value : Nat) : Nat × State :=
  (cOK, if bit value 31 then (s.setF (SCB_BMk_STAT_OVERRUN k) 0).setF (SCB_BMk_STAT_LOST k) 0 else s)

def State.scbRegWrite (s : State) (req isl base value : Nat) : Option (Nat × State) :=
  let o := base - 0x0200040000
  if isl ≠ iSCB then none
  else if o = 0x38 then some (s.scbCmdWrite req value)
  else if o = 0x48 then
    some (if tagBad (bits value 47 16) then s.regRefuse isl base req cRANGE else s.regW isl req base value)
  else if 0x100 ≤ o ∧ o < 0x180 ∧ o % 0x10 = 8 then some (s.markStatWrite ((o - 0x100) / 0x10) value)
  else none

def State.scbLive (s : State) (isl base : Nat) : Option Nat :=
  if isl = iSCB ∧ base = 0x0200040020 then
    some (s.f SCB_STATUS_LOGFAIL * 2 ^ 31 + s.f SCB_STATUS_REGION * 2 ^ 30 + b2n s.scb.writing.isSome * 2 ^ 29 +
      s.scb.staged.length)
  else none

/-- A device whose MRAM is marked failed: SCB leaves the main ring (R553). -/
def State.scbDeviceFail (s : State) : State :=
  if s.memc.failA && s.scbRegion == 0 && s.boot.restored && !s.on SCB_STATUS_LOGFAIL then
    (s.setScb (fun c => { c with writing := none })).scbFault s.scb.writing
  else s

/-- A command by token or by a register write, of one OP. -/
def State.scbRow (s : State) (op : Nat) (i : ScbIn) : Res :=
  match i with
  | .token t => .next (s.arrive t (fun s => s.scbToken { t with data := t.data / 16 * 16 + op }))
  | .write req value =>
    s.regRow iSCB req aScbCmd 8 (value / 16 * 16 + op) (fun s => s.scbCmdWrite req (value / 16 * 16 + op))

/-! ### Meanings -/

/-- SCB_SOFTWARE_RECORD. -/
def execScbSoftwareRecord (t : Token) (s : State) : Res := .next (s.arrive t (fun s => s.scbToken t))

/-- SCB_RECORD_WRITTEN: read back as written, or not. -/
def execScbRecordWritten (differs : Bool) (s : State) : Res := .next (s.scbWritten differs)

/-- OPEN. -/
def execOpenBookmark (i : ScbIn) (s : State) : Res := s.scbRow 1 i

/-- CLOSE. -/
def execCloseBookmark (i : ScbIn) (s : State) : Res := s.scbRow 2 i

/-- ADVANCE. -/
def execAdvanceBookmark (i : ScbIn) (s : State) : Res := s.scbRow 3 i

/-- CLEAR. -/
def execClearRecords (i : ScbIn) (s : State) : Res := s.scbRow 4 i

/-- SEND. -/
def execSendRecords (i : ScbIn) (s : State) : Res := s.scbRow 5 i

/-- MAIN. -/
def execMainRing (i : ScbIn) (s : State) : Res := s.scbRow 6 i

end Sys2Proof.Machine
end

