-- ==== Sys2Proof/Machine/Boot.lean ====
section
/-! DEFINITION. Self-test, REF's commands, power, resets and start-up (R526 to R541, R555, R562 to R579). -/

namespace Sys2Proof.Machine

def State.setBst (s : State) (f : BstSt → BstSt) : State := { s with bst := f s.bst }
def State.setBoot (s : State) (f : BootSt → BootSt) : State := { s with boot := f s.boot }

def islandList : List Nat := (List.range 48).filter isIsland

/-! ### Runtime slices (R530 to R537) -/

/-- Slices of an island in a round; REF has none (R530). -/
def slicesOf (isl : Nat) : Nat :=
  if isl = iREF ∨ isIsland isl = false then 0
  else if 0x10 ≤ isl ∧ isl < 0x1C then 48
  else if 0x1C ≤ isl ∧ isl < 0x20 then 64
  else if isl = iGBB then 128
  else if isl = iDUG then 32
  else 16

/-- Island and slice at a place of the round: islands by ascending ID. -/
def slicePlace : List Nat → Nat → Option (Nat × Nat)
  | [], _ => none
  | i :: l, k => if k < slicesOf i then some (i, k) else slicePlace l (k - slicesOf i)

def sliceTotal : Nat := (islandList.map slicesOf).sum

/-- The edge of a place of the round: places are spaced evenly. -/
def State.sliceAt (s : State) (k : Nat) : Nat := s.bst.roundAt + k * (s.f BST_CTRL_ROUND_MS * 100000) / sliceTotal

def State.sliceDone (s : State) (isl : Nat) : State :=
  s.setBst (fun b => { b with done := Tab.set (fun _ => 0) b.done isl (Tab.get (fun _ => 0) b.done isl + 1) })

/-- Whether a slice of an island is skipped: OFF, FENCED, or a gated cluster of GBB. -/
def State.sliceSkips (s : State) (isl sl : Nat) : Bool :=
  s.ist isl == 0 || s.ist isl == 5 || (isl == iGBB && bit (s.f GBB_CLUSTERS_GATED) (sl / 16))

/-- Whether an engine has a context in an atomic section, which no slice may split (R532). -/
def State.sliceWaits (s : State) (isl : Nat) : Bool :=
  decide (0x10 ≤ isl) && decide (isl < 0x20) && (List.range 8).any (fun c => (s.ctx (isl - 0x10) c).atomic)

/-- A slice begins, or is put off by 100 µs. A GATED island is woken for it and is to be gated again (R530). -/
def State.sliceBegin (s : State) (isl sl : Nat) : State :=
  if s.sliceSkips isl sl then s.sliceDone isl
  else if s.sliceWaits isl then s.setBst (fun b => { b with again := b.again ++ [(isl, sl, s.tim.edges + 10000)] })
  else
    let was := s.ist isl
    let s := (s.wakeFor isl).setF (ISL_PSTATE_STATE isl) 4
    let s := ((s.setF BST_CUR_ACTIVE 1).setF BST_CUR_ISLAND isl).setF BST_CUR_SLICE sl
    s.setBst (fun b => { b with run := some (isl, sl, was), began := s.tim.edges })

/-- Whether BST works: its own power-up test is over, it is not fenced, and no slice runs. -/
def State.bstReady (s : State) : Bool :=
  s.on BST_CTRL_RUN_EN && s.ist iBST != 5 && s.boot.holding == none && !s.boot.held &&
    decide (1 ≤ s.f SYS_BOOT_PHASE) && s.bst.run == none

/-- The next slice of the round, when it is due; those moved to the end come last. -/
def State.sliceStart (s : State) : State :=
  if s.bstReady = false then s
  else if s.bst.next < sliceTotal then
    (if s.tim.edges < s.sliceAt s.bst.next then s
    else match slicePlace islandList s.bst.next with
      | some p => (s.setBst (fun b => { b with next := b.next + 1 })).sliceBegin p.1 p.2
      | none => s)
  else match s.bst.last with
    | [] => s
    | p :: l => (s.setBst (fun b => { b with last := l })).sliceBegin p.1 p.2

/-- A slice whose 100 µs have passed is tried again. -/
def State.sliceRetry (s : State) : State :=
  if s.bstReady = false then s
  else match s.bst.again.find? (fun a => decide (a.2.2 ≤ s.tim.edges)) with
    | some a => (s.setBst (fun b => { b with again := b.again.erase a })).sliceBegin a.1 a.2.1
    | none => s

/-- The island of the slice goes back to the state it left. -/
def State.sliceRestore (s : State) (isl was : Nat) : State :=
  let s := ((s.setF BST_CUR_ACTIVE 0).setBst (fun b => { b with run := none })).setF (ISL_PSTATE_STATE isl) was
  if isl = iMCH then s.mchSliceEnd else s

/-- A slice failed: BST reports it, and REF fences the island (R537). -/
def State.sliceFail (s : State) (isl sl sig : Nat) : State :=
  ((s.stage 0x0301 [isl + sl * 2 ^ 8, sig]).setBst (fun b => { b with run := none })).setF BST_CUR_ACTIVE 0 |>.fence isl 3

/-- An aborted slice runs again after 100 µs; after three aborts in a round it moves to the end (R535). -/
def State.sliceAgain (s : State) (isl sl : Nat) : State :=
  let k := isl * 256 + sl
  let n := Tab.get (fun _ => 0) s.bst.aborts k + 1
  s.setBst (fun b => { b with
    aborts := Tab.set (fun _ => 0) b.aborts k n
    again := if n % 3 = 0 then b.again else b.again ++ [(isl, sl, s.tim.edges + 10000)]
    last := if n % 3 = 0 then b.last ++ [(isl, sl)] else b.last })

/-- Class of a held request (R36, R534): a token's PRIO; of an access, the class of the context that issued it, and no
access from elsewhere is P0. -/
def State.heldClass (s : State) (h : HeldReq) : Nat :=
  match h with
  | .token _ t => tagPrio t.tag
  | .word w => w.prio
  | .write _ req _ _ _ =>
    if 0x10 ≤ epIsl req ∧ epIsl req < 0x20 ∧ epPort req < 8 then (s.ctx (epIsl req - 0x10) (epPort req)).cls else 7

def heldIsl (h : HeldReq) : Nat := match h with | .token i _ => i | .write i _ _ _ _ => i | .word _ => iQUE

/-- An island has stayed in SELFTEST for 13 µs (R533). -/
def State.hang (s : State) (isl : Nat) : State :=
  match s.bst.run with
  | some r =>
    if r.1 = isl ∧ s.bst.began + 1300 ≤ s.tim.edges then
      ((s.setBst (fun b => { b with run := none })).setF BST_CUR_ACTIVE 0).fence isl 4
    else s
  | none => s

/-- One island at the end of a round (R536): its slices were all run, or one more round has passed without. -/
def State.roundIsland (s : State) (isl : Nat) : State :=
  if s.ist isl = 0 ∨ s.ist isl = 5 ∨ slicesOf isl = 0 then s
  else
    let n := if Tab.get (fun _ => 0) s.bst.done isl < slicesOf isl then Tab.get (fun _ => 0) s.bst.missed isl + 1 else 0
    let s := s.setBst (fun b => { b with missed := Tab.set (fun _ => 0) b.missed isl (if n = 3 then 0 else n) })
    if n = 3 then (s.setF BST_STARVED_STARVED (s.f BST_STARVED_STARVED ||| 2 ^ isl)).stage 0x0302 [isl] else s

/-- A round begins now. -/
def State.roundNew (s : State) : State :=
  s.setBst (fun b => { b with next := 0, roundAt := s.tim.edges, again := [], last := [], aborts := [], done := [] })

/-- A round ends. -/
def State.roundEnd (s : State) : State :=
  if s.bstReady = false ∨ s.tim.edges < s.bst.roundAt + s.f BST_CTRL_ROUND_MS * 100000 then s
  else ((islandList.foldl State.roundIsland s).inc BST_ROUNDS_COUNT).roundNew

/-- A write of BST_CTRL: turning the slices on begins a round. -/
def State.bstCtrlWrite (s : State) (req base value : Nat) : Nat × State :=
  let was := s.on BST_CTRL_RUN_EN
  let r := s.regW iBST req base value
  (r.1, if !was && r.2.on BST_CTRL_RUN_EN then r.2.roundNew else r.2)

/-! ### REF's commands (R538 to R541) -/

def aIslandCmd : Nat := 0x0200020508
def aLbClear : Nat := 0x0200020580

/-- A write of REF_ISLAND_CMD. -/
def State.islandCmd (s : State) (req value : Nat) : Nat × State :=
  let op := value % 4
  let isl := bits value 13 8
  if s.on REF_ISLAND_CMD_BUSY then s.regRefuse iREF aIslandCmd req cBUSY
  else if op = 0 ∨ op = 3 ∨ isIsland isl = false then s.regRefuse iREF aIslandCmd req cRANGE
  else if op = 1 ∧ (neverFenced isl = true ∨ isl = iBST) then s.regRefuse iREF aIslandCmd req cRANGE
  else
    let s := (s.setF REF_ISLAND_CMD_OP op).setF REF_ISLAND_CMD_ISLAND isl
    if op = 1 then (cOK, (s.fence isl 6).setF REF_ISLAND_CMD_STATUS cOK)
    else if s.ist isl ≠ 5 then (cOK, s.setF REF_ISLAND_CMD_STATUS cBUSY)
    else (cOK, s.setF REF_ISLAND_CMD_BUSY 1)

/-- A write of REF_LB_CLEAR. -/
def State.lbClear (s : State) (value : Nat) : Nat × State :=
  (cOK, if bit value 0 then { s with cell := { s.cell with valid := false } } else s)

/-- The caps of R121, R566 and R569 on every engine. -/
def State.capsApply (s : State) : State :=
  let c := match s.boot.cap, s.boot.thermal with
    | some a, some b => some (min a b)
    | some a, none => some a
    | none, b => b
  (List.range 16).foldl (fun s e =>
    if (s.engSt e).cap = c then s
    else if s.ist (iENG e) = 0 ∨ s.ist (iENG e) = 5 then s.setEng e { s.engSt e with cap := c }
    else s.dvfsCap e c) s

/-- What an island takes up from MRAM when it is powered. -/
def State.islandLoad (s : State) (isl : Nat) : State :=
  if isl = iTAL then s.talRestore else if isl = iUPD then s.updLoad else if isl = iSCB then s.scbLoad else s

/-- The BIST of a released island ends (R540). -/
def State.releaseDone (s : State) (pass : Bool) : State :=
  let isl := s.f REF_ISLAND_CMD_ISLAND
  if s.on REF_ISLAND_CMD_BUSY = false ∨ s.f REF_ISLAND_CMD_OP ≠ 2 then s
  else
    let s := s.setF REF_ISLAND_CMD_BUSY 0
    if s.ist isl ≠ 5 then s.setF REF_ISLAND_CMD_STATUS cBUSY
    else if pass = false then (s.setF REF_ISLAND_CMD_STATUS cINTEGRITY).stage 0x0201 [isl + 5 * 2 ^ 8]
    else
      let m := s.f REF_FENCED_FENCED
      let s := ((s.islandRegs isl).setF REF_FENCED_FENCED (if bit m isl then m - 2 ^ isl else m)).setF (ISL_PSTATE_STATE isl) 3
      ((s.islandLoad isl).capsApply).setF REF_ISLAND_CMD_STATUS cOK

/-! ### Power (R564 to R571) -/

/-- PWRFAIL asserts (R566). -/
def State.pwrfail (s : State) : State :=
  if s.on PWR_STATUS_PWRFAIL ∨ s.boot.held = true then s
  else
    let s := ((s.setF PWR_STATUS_PWRFAIL 1).setF PWR_STATUS_PWRFAIL_SEEN 1).inc PWR_STATUS_PWRFAIL_COUNT
    let s := if s.on REF_STOP_CFG_PWRFAIL_STOP then s.raise 4 7 else s
    ((s.setBoot (fun b => { b with cap := some 0 })).capsApply).talPwrfail

/-- PWRFAIL deasserts (R568). -/
def State.pwrOk (s : State) : State :=
  if s.on PWR_STATUS_PWRFAIL = false then s
  else (((s.setF PWR_STATUS_PWRFAIL 0).setBoot (fun b => { b with cap := none })).capsApply).talPwrOk

/-- A reading of PWR, in 0.01 °C, mV and mW (R569, R579). -/
def State.thermal (s : State) (temp : Int) (vin power : Nat) : State :=
  let s := ((s.setF PWR_CASE_TEMP (unsigned 16 temp)).setF PWR_VIN_MV vin).setF PWR_INPUT_MW power
  let cap := Int.ofNat (s.f PWR_THERM_CAP_C) * 100
  let low := cap - Int.ofNat (s.f PWR_THERM_HYST_C) * 100
  let th := if s.on PWR_THERM_CAP_EN = false then none
    else if cap ≤ temp then some (s.f PWR_THERM_CAP_CODE)
    else if s.boot.thermal.isSome = true ∧ low ≤ temp then some (s.f PWR_THERM_CAP_CODE)
    else none
  ((s.setBoot (fun b => { b with thermal := th })).setF PWR_STATUS_THERM_CAP (b2n th.isSome)).capsApply

/-- Whether this module's removal is that of a stack member. -/
def State.ejectStack (s : State) : Bool := s.inStack || s.f BXL_STATUS_STATE == 4 || s.f BXL_STATUS_STATE == 5

/-- EJECT_REQ_N has been low for 50 ms (R571). -/
def State.eject (s : State) : State :=
  if s.boot.held then s
  else
    let s := { s with ejecting := true }
    if s.inStack then s.leaveStart.leaveCheck else s

/-- EJECT_REQ_N goes high. -/
def State.ejectBack (s : State) : State :=
  if s.boot.safe ∨ s.ejectStack = true then s
  else { s with ejecting := false }.setBoot (fun b => { b with checkpoint := false })

/-- An orderly removal goes on (R571): once no flow has an item pending every accumulator is saved, and SAFE_TO_REMOVE goes
high when that is done and the latch is set. -/
def State.ejectTick (s : State) : State :=
  if s.ejecting = false then s
  else if s.ejectStack then
    s.setBoot (fun b => { b with safe := s.f BXL_STATUS_STATE == 5 && s.stopped })
  else if s.memc.pendingItems ≠ [] ∨ s.memc.itemWrites ≠ [] then s
  else if s.boot.checkpoint = false then
    ((List.range 16).foldl (fun s i => if s.talOn i then s.talSave i 2 else s) s).setBoot (fun b => { b with checkpoint := true })
  else s.setBoot (fun b => { b with safe := s.tal.saves.isEmpty && s.stopped })

/-- The level of SAFE_TO_REMOVE. -/
def State.safeToRemove (s : State) : Bool := s.boot.held || s.boot.safe

/-! ### Reset and the power-up test (R527, R528, R573, R574) -/

/-- The newest valid STOP_ID record (R25). -/
def State.stopIdRecord (s : State) : Option Nat :=
  let as := (if s.memc.failA then [] else [0x04006A0000, 0x04006A0010]) ++
    (if s.memc.failB then [] else [0x0400C00000, 0x0400C00010])
  (as.filterMap (fun a =>
    let b := s.rdBytes a 16
    if fld b 12 4 = crc32c (b.take 12) then some (fld b 0 4) else none)).foldl (fun x id => match x with
      | none => some id
      | some y =>
        let d := (id + 2 ^ 32 - y) % 2 ^ 32
        if d ≠ 0 ∧ d < 2 ^ 31 then some id else some y) none

/-- Reset is released (R25, R47, R562, R575): straps by bit as in SYS_STRAPS, and which MRAM device fails MEM's test. -/
def State.resetRelease (s : State) (straps : Nat) (failA failB : Bool) : State :=
  if s.boot.held = false ∨ s.boot.converters = false then s
  else
    let s := s.setBoot (fun b => { b with held := false })
    let s := { s with memc := { s.memc with failA := failA, failB := failB } }
    let s := (((s.setF SYS_STRAPS_REFSEL (bits straps 0 0)).setF SYS_STRAPS_PCIE (bits straps 1 1)).setF SYS_STRAPS_BANK
      (bits straps 2 2)).setF SYS_STRAPS_HOLD (bits straps 3 3)
    let s := islandList.foldl (fun s i => s.setF (ISL_PSTATE_STATE i) 4) s
    match s.stopIdRecord with
    | some id => s.setF REF_STOP_ID_STOP_ID id
    | none => (s.setF REF_STOP_ID_STOP_ID 0).stageAs 0x0206 cINTEGRITY [0]

/-- The islands without which the module does not start (R528). -/
def bistCritical (isl : Nat) : Bool := [iSYS, iPWR, iREF, iBST, iTIM, iDUG, iQUE, iMEM, iUPD].contains isl

/-- The module holds (R528, R577). -/
def State.holdFor (s : State) (isl failMap : Nat) : State :=
  (s.cellWrite 3 isl cINTEGRITY 5 failMap).setBoot (fun b => { b with holding := some cINTEGRITY, reportAt := s.tim.edges })

/-- The power-up test ends (R527, R528, R563, R576). -/
def State.bistDone (s : State) (fail : Nat) (stopPath : Bool) (ticks : Nat) : State :=
  if s.boot.held = true ∨ s.boot.holding.isSome = true ∨ s.f SYS_BOOT_PHASE ≠ 0 then s
  else
    let failed := islandList.filter (fun i => bit fail i)
    let s := (s.setF BST_PU_FAIL_FAIL ((failed.map (fun i => 2 ^ i)).sum)).setF BST_PU_TIME_TICKS ticks
    let s := islandList.foldl (fun s i =>
      if failed.contains i = false then s.setF (ISL_PSTATE_STATE i) (if 0x2E ≤ i ∧ s.on SYS_STRAPS_BANK = true then 0 else 3)
      else if bistCritical i then s
      else (s.setF (ISL_PSTATE_STATE i) 5).setF REF_FENCED_FENCED (s.f REF_FENCED_FENCED ||| 2 ^ i)) s
    let map := s.f BST_PU_FAIL_FAIL
    match failed.find? bistCritical, firstIdx 12 (fun e => !bit fail (0x10 + e)) with
    | some i, _ => s.holdFor i map
    | none, none => s.holdFor 0x10 map
    | none, some e =>
      if stopPath = false then s.holdFor iREF map
      else ((s.setF SYS_BOOT_ENGINE e).setF SYS_BOOT_PHASE 1).roundNew

/-- The boot ROM's check of the loader ends (R577). -/
def State.loaderCheck (s : State) (ok : Bool) : State :=
  if s.f SYS_BOOT_PHASE ≠ 1 ∨ s.boot.holding.isSome = true then s
  else if ok then (s.setF SYS_BOOT_PHASE 2).updLoad
  else s.holdFor iUPD (2 ^ iUPD)

/-! ### The loader (R501, R514, R516, R519, R575, R576) -/

/-- A boot of a trial image begins: the first one after the swap, or a later one. Answers whether the image is to be
started. -/
def State.trialBoot (s : State) : Bool × State :=
  if s.updSt = 7 then
    let s := if s.memc.failA || s.memc.failB then s else s.wrBytes 0x0400A60000 (s.rdBytes 0x0400620000 0x80000)
    let s := (s.updFlagSet 4 true).setUpd (fun u => { u with elapsed := 0 })
    (true, ((s.setF UPD_STATUS_BOOTS 1).setF UPD_TRIAL_ELAPSED 0).updEnter 8)
  else if s.updSt = 8 then
    let n := s.f UPD_STATUS_BOOTS + 1
    if 4 ≤ n ∧ (s.updFlag 0 && s.updFlag 1) = false then (false, s.trialEnd false cTIMEOUT)
    else (true, (s.setF UPD_STATUS_BOOTS (min n 3)).updJournal)
  else (true, s)

/-- One piece of a part is copied to its place: part, offset in it, bytes, address. -/
def State.partCopy (s : State) (m : List Byte) (g : Nat × Nat × Nat × Nat) : State :=
  let e := partOf m g.1
  let n := min g.2.2.1 (fld e 12 4 - g.2.1)
  let ok := match regionOf g.2.2.2 n with
    | .sram => true
    | .localSram _ => true
    | .lpddr _ => true
    | _ => false
  if decide (g.1 < fld m 6 1) && bit (fld e 2 2) s.pos' && ok && decide (n ≤ 100663296) then
    s.wrBytes g.2.2.2 (s.rdBytes (aImage + fld e 8 4 + g.2.1) n)
  else s

/-- The loader does not start the image: the module stays in it. -/
def State.loaderStay (s : State) (status : Nat) : State :=
  (s.setF UPD_STATUS_LAST_STATUS status).setBoot (fun b => { b with stay := true })

/-- The loader ends: the update journal is settled, the image is checked, and its pieces go where the image says (the
format in which it says so is not part of the spec). -/
def State.loaderDone (s : State) (segs : List (Nat × Nat × Nat × Nat)) : State :=
  if s.f SYS_BOOT_PHASE ≠ 2 ∨ s.boot.stay = true ∨ s.boot.holding.isSome = true ∨ [3, 6, 9, 10].contains s.updSt = true then s
  else
    let t := s.trialBoot
    let s := t.2
    if t.1 = false then s
    else
      let c := s.verifyCheck aImage s.pos'
      if c ≠ cOK then (if s.updSt = 8 then s.trialEnd false c else s.loaderStay c)
      else if segs.any (fun g => s.ist (ownerOf g.2.2.2) == 5) then s.loaderStay cFENCED
      else
        let m := s.rdBytes aImage 4096
        let s := segs.foldl (fun s g => s.partCopy m g) s
        if s.on SYS_STRAPS_HOLD then s.setBoot (fun b => { b with stay := true })
        else
          let v := match (manifestParts m).find? (fun e => fld e 0 1 == 1 && bit (fld e 2 2) s.pos') with
            | some e => fld e 4 4
            | none => 0
          (s.setF UPD_VERSION_ENGINE v).setF SYS_BOOT_PHASE 3

/-! ### RESTORE (R54, R60, R160, R555, R588) -/

/-- The ring pointer block's newest valid slot. -/
def State.ringPointer (s : State) : Option (Nat × Nat × Nat) :=
  let as := (if s.memc.failA then [] else [0x04001F8500, 0x04001F8510]) ++
    (if s.memc.failB then [] else [0x04009F8500, 0x04009F8510])
  (as.filterMap (fun a =>
    let b := s.rdBytes a 16
    if fld b 12 4 = crc32c (b.take 12) then some (fld b 0 4, fld b 4 1 % 2, fld b 8 4) else none)).foldl
      (fun x r => match x with
        | none => some r
        | some y =>
          let d := (r.2.2 + 2 ^ 32 - y.2.2) % 2 ^ 32
          if d ≠ 0 ∧ d < 2 ^ 31 then some r else some y) none

/-- The live records from an offset and LAP on, with the head and its LAP. -/
def State.ringScan (s : State) : Nat → Nat → Nat → List JRec → List JRec × Nat × Nat
  | 0, off, lap, l => (l, off, lap)
  | n + 1, off, lap, l =>
    let b := s.rdBytes (s.jAddr off) 1024
    match parseRec off false b with
    | none => (l, off, lap)
    | some r =>
      if r.lap ≠ lap ∨ jRing < off + r.len then (l, off, lap)
      else if off + r.len = jRing then State.ringScan s n 0 (1 - lap) (l ++ [r])
      else State.ringScan s n (off + r.len) lap (l ++ [r])

/-- Item records whose commit or cancelled record is live too are served. -/
def ringRetire (l : List JRec) : List JRec :=
  l.map (fun r => if r.kind = 1 ∧ l.any (fun x => (x.kind == 2 || x.kind == 3) && x.flow == r.flow && x.seq == r.seq) = true
    then { r with retired := true } else r)

/-- A flow takes its numbers from a record. -/
def State.flowRec (s : State) (r : JRec) : State :=
  if r.kind = 1 then s.setFlow r.flow { s.flow r.flow with nextAccept := wrapInc 32 r.seq }
  else if r.kind = 2 ∨ r.kind = 3 then
    s.setFlow r.flow { s.flow r.flow with nextServe := wrapInc 32 r.seq, nextAccept := wrapInc 32 r.seq }
  else s

/-- The first pending item of each flow is the next to serve; whether it had been dispatched stands in no record, and its
ATTEMPT is open. -/
def State.flowPend (s : State) (r : JRec) : State :=
  if r.kind ≠ 1 ∨ r.retired = true then s
  else match s.flowPending r.flow with
    | x :: _ =>
      if x.seq ≠ r.seq then s
      else
        let n := s.free 1
        n.2.setFlow r.flow { n.2.flow r.flow with nextServe := r.seq, delivered := false, again := n.1 }
    | [] => s

/-- A retention entry that does not hold a live record's values is written anew (R54). -/
def State.retainRec (s : State) (r : JRec) : State :=
  if r.kind ≠ 1 then s
  else
    let e := s.recRetention (s.jAddr 0x1F8000) r
    match e.1 with
    | some x => if s.rdBytes (s.jAddr (0x1F8000 + x.1)) 12 = x.2 then s else e.2.retain x.1 x.2
    | none => s

/-- The outputs of a commit record that were not confirmed leave again (R60); a reservation is gone (R589). -/
def State.resendOuts (s : State) (r : JRec) : State :=
  if r.kind ≠ 2 ∨ r.outs.length ≤ r.released then s
  else (List.range r.outs.length).foldl (fun s k =>
    let o := r.outs.getD k ⟨0, 0, 0, 0, 0⟩
    if k < r.released then s
    else if o.typ = 3 then s.outputConfirmed r.flow r.seq k cNOT_FOUND
    else s.release (ep iDUG 0) (some ⟨r.flow, r.seq, k⟩) none o) s

/-- HST takes its sessions from the retention area (R583). -/
def State.sessionLoad (s : State) : State :=
  (List.range 16).foldl (fun s k =>
    let b := s.rdBytes (s.jAddr (0x1F8400 + k * 16)) 16
    let v := fld b 12 4 == crc32c (b.take 12) && fld b 10 1 == 1
    (((s.setF (HST_SESSION_s_SESSION k) (if v then fld b 0 4 else 0)).setF (HST_SESSION_s_H k) (if v then fld b 4 4 else 0)).setF
      (HST_SESSION_FLOW_s_VALID k) (b2n v)).setF (HST_SESSION_FLOW_s_FLOW k) (if v then fld b 8 2 else 0)) s

/-- The journal is scanned and the flow table rebuilt. -/
def State.journalRestore (s : State) : State :=
  let p := s.ringPointer.getD (0, 0, 0)
  let r := if s.ringPointer.isSome then s.ringScan 64512 p.1 p.2.1 [] else ([], 0, 0)
  let live := ringRetire r.1
  let s := { s with memc := { s.memc with
    live := live, head := r.2.1, lap := r.2.2, tail := p.1, tailLap := p.2.1
    ptrSeq := if s.ringPointer.isSome then wrapInc 32 p.2.2 else 0 } }
  let s := (live.foldl State.flowRec s)
  let s := live.foldl State.flowPend s
  let s := live.foldl State.retainRec s
  let s := s.sessionLoad
  let s := { s with can := { s.can with
    old := (live.filter (fun (r : JRec) => r.kind == 1 && r.source == 1 && !r.retired)).map (fun (r : JRec) => (r.flow, r.seq)) } }
  (live.foldl State.resendOuts s).tailAdvance

/-- SCB writes BOOT first, with the last-breath cell if it is valid, and the FENCE records of the power-up test after it
(R528, R555); what waits in staging follows. -/
def State.bootRecords (s : State) : State :=
  if s.ist iSCB = 5 ∨ s.ist iSCB = 0 then s
  else
    let s := s.scbLoad
    let map := s.f BST_PU_FAIL_FAIL
    let n := s.free 8
    let s := n.2
    let body := leBytes 8 map ++ (if s.cell.valid then s.cell.bytes else List.replicate 64 0)
    let fences := (islandList.filter (fun i => bit map i)).map (fun i =>
      (⟨0x0201, s.now, n.1, false, leBytes 8 (i + 5 * 2 ^ 8)⟩ : ScbRec))
    { s with
      scb := { s.scb with writing := some ⟨0x0404, s.now, n.1, false, body⟩, first := fences ++ s.scb.first }
      cell := LastBreath.reset }

/-- The steps of phase RESTORE. -/
def State.restore (s : State) : State :=
  if s.f SYS_BOOT_PHASE ≠ 3 ∨ s.boot.restored = true then s
  else
    let s := s.journalRestore
    let s := if s.talUp then s.talRestore else s
    s.bootRecords.setBoot (fun b => { b with restored := true })

/-- The engine image's first instruction issues: context 0 of the boot engine runs, in handler mode, from the image's
entry (log entry 47). -/
def State.runStart (s : State) (entry : Nat) : State :=
  if s.f SYS_BOOT_PHASE ≠ 3 ∨ s.boot.restored = false then s
  else
    let s := s.setF SYS_BOOT_PHASE 4
    let e := s.f SYS_BOOT_ENGINE
    let s := if s.updSt = 8 then s.setUpd (fun u => { u with trial := true, secondAt := s.tim.edges + 100000000 }) else s
    (s.setCtx e 0 { Ctx.empty with inst := 0xFFFF, handler := true, pc := entry % 2 ^ 40 / 4 * 4 }).makeRunnable e 0

/-! ### Registers of SYS, PWR, BST, REF and the island block -/

/-- A write of SYS_RESET (R573, R579). -/
def State.sysReset (s : State) (req value : Nat) : Nat × State :=
  let a := 0x0200000028
  if bits value 15 8 ≠ 0x5A then s.regRefuse iSYS a req cRANGE
  else if bit value 0 = false then (cOK, s)
  else if s.on (ISL_LOCK_LOCKED iSYS) then s.regRefuse iSYS a req cNOT_OWNER
  else (cOK, s.moduleReset 4)

/-- Whether an island has work of its own, which keeps it out of GATED (R30; log entry 48). -/
def State.islandActive (s : State) (isl : Nat) : Bool :=
  if 0x10 ≤ isl ∧ isl < 0x20 then s.engBusy (isl - 0x10)
  else if isl = iBST then s.on BST_CTRL_RUN_EN
  else if isl = iSCB then s.scb.writing.isSome || s.scb.send.isSome || !s.scb.staged.isEmpty
  else if isl = iUPD then [3, 6, 8, 9, 10].contains s.updSt || s.upd.writing.isSome
  else if isl = iGBB then
    (List.range 512).any (fun c => s.chSt c != 0) || s.gbb.srch.any (fun e => e.2.active.isSome || !e.2.queue.isEmpty)
  else if isl = iGOB then
    s.gob.fill.isSome || s.gob.soft.isSome || s.gob.floating.isSome || !s.gob.stack.isEmpty || s.gob.target.isSome
  else if isl = iPOS then !s.pos.queue.isEmpty || s.pos.active.any (fun e => e.2.isSome)
  else if isl = iRAD then (List.range 4).any (fun n => s.on (RADn_CFG_ENABLE n))
  else if isl = iZON then !s.zon.queue.isEmpty || s.zon.txn.isSome || !s.zon.done.isEmpty || !s.zon.tracks.isEmpty
  else if isl = iMCH then
    (List.range 48).any (fun k => s.slotState k != 0) || (List.range 4).any (fun g => s.on (MCH_ANG_g_ENABLE g)) ||
      (List.range 16).any (fun n => s.on (MCH_PIn_CFG_ENABLE n)) || (List.range 24).any (fun n => s.on (MCH_PWn_CFG_ENABLE n))
  else if isl = iTAL then
    (List.range 16).any (fun i => s.on (TAL_TQi_CFG_ENABLE i)) || (List.range 8).any (fun n => s.on (TAL_POn_CFG_ENABLE n)) ||
      !s.tal.saves.isEmpty
  else if isl = iCAN then (List.range 6).any (fun n => s.canState n != 0)
  else if isl = iETH then (List.range 2).any (fun p => s.on (ETH_Pp_MACCFG_ENABLE p))
  else if isl = iBXL then s.on BXL_CFG_ENABLE
  else if isl = iHST then s.hst.ifs.any (fun e => !e.2.queue.isEmpty)
  else if 0x2C ≤ isl then (List.range 3).any (fun g => s.on (SMPn_Sg_CFG_ENABLE (isl - 0x2C) g))
  else false

/-- An island goes OFF (R30): nothing of it is kept, and what it held is refused. -/
def State.islandOff (s : State) (isl : Nat) : State :=
  let s := ((s.islandLost isl).memLost isl).islandRegs isl
  let s := { s with stamps := Tab.set (fun _ => []) s.stamps isl [] }
  let s := (s.setF (ISL_PSTATE_STATE isl) 0).setF (ISL_PSTATE_REQ isl) 0
  let l := s.held.filter (fun h => heldIsl h == isl)
  let s := l.foldl (fun (s : State) h => match h with
    | .token _ t => s.answerTo cNO_ROUTE t.src t.dest t.task
    | .write i req a _ _ => (s.refuse i a req true cNO_ROUTE).ans cNO_ROUTE
    | .word _ => s)
    { s with held := s.held.filter (fun h => heldIsl h != isl) }
  if isl = iBXL then s.isolateOnce else s

/-- A write of PSTATE (R30, R32, R34, R563). An island that is OFF or GATED stays so until ISLAND_WAKE_DONE; a register
access wakes a GATED one. -/
def State.pstateWrite (s : State) (req isl value : Nat) : Nat × State :=
  let a := 0x0200000004 + isl * 0x10000
  let q := bits value 6 4
  if q = 0 ∧ neverGates isl = true then s.regRefuse isl a req cRANGE
  else if 0x2E ≤ isl ∧ s.on SYS_STRAPS_BANK = true then s.regRefuse isl a req cRANGE
  else
    let r := s.regW isl req a value
    let s := r.2
    if r.1 ≠ cOK ∨ s.ist isl = 5 ∨ s.ist isl = 0 then r
    else if q = 0 then (cOK, s.islandOff isl)
    else (cOK, if 0x10 ≤ isl ∧ isl < 0x20 then s.engTouch (isl - 0x10) else s.touch isl)

/-- An island that has stayed IDLE for GATE_DELAY is gated (R30, R32). -/
def State.islandGate (s : State) (isl : Nat) : State :=
  if s.ist isl = 2 ∧ neverGates isl = false ∧ s.islandActive isl = false ∧
      Tab.get (fun _ => 0) s.idleSince isl + s.f (ISL_PSTATE_GATE_DELAY isl) * 10 ≤ s.now
  then s.setF (ISL_PSTATE_STATE isl) 1 else s

/-- A write of a register of SYS, PWR, REF's island commands or BST that is more than its access codes. -/
def State.bootRegWrite (s : State) (req isl base value : Nat) : Option (Nat × State) :=
  if isl = iSYS ∧ base = 0x0200000028 then some (s.sysReset req value)
  else if isl = iBST ∧ base = 0x0200030020 then some (s.bstCtrlWrite req base value)
  else if base = aIslandCmd then some (s.islandCmd req value)
  else if base = aLbClear then some (s.lbClear value)
  else none

/-! ### Meanings -/

/-- SLICE_START. -/
def execSliceStart (s : State) : Res := .next s.sliceStart

/-- SLICE_RETRY. -/
def execSliceRetry (s : State) : Res := .next s.sliceRetry

/-- HANG. -/
def execHang (isl : Nat) (s : State) : Res := .next (s.hang isl)

/-- ROUND_END. -/
def execRoundEnd (s : State) : Res := .next s.roundEnd

/-- FENCE: a write of REF_ISLAND_CMD with OP FENCE. -/
def execFence (req isl : Nat) (s : State) : Res := s.regRow iREF req aIslandCmd 4 (1 + isl % 64 * 2 ^ 8)
  (fun s => s.islandCmd req (1 + isl % 64 * 2 ^ 8))

/-- ISLAND_RELEASE: a write of REF_ISLAND_CMD with OP RELEASE. -/
def execIslandRelease (req isl : Nat) (s : State) : Res := s.regRow iREF req aIslandCmd 4 (2 + isl % 64 * 2 ^ 8)
  (fun s => s.islandCmd req (2 + isl % 64 * 2 ^ 8))

/-- ISLAND_RELEASE_DONE. -/
def execIslandReleaseDone (pass : Bool) (s : State) : Res := .next (s.releaseDone pass)

/-- LAST_BREATH_CLEAR. -/
def execLastBreathClear (req value : Nat) (s : State) : Res := s.regRow iREF req aLbClear 4 value (fun s => s.lbClear value)

/-- POWER_ON. -/
def execPowerOn (s : State) : Res := .next (s.moduleReset 0)

/-- CONVERTER_START. -/
def execConverterStart (s : State) : Res := .next (s.setBoot (fun b => { b with converters := true }))

/-- PIN_RESET: a module that is held in reset stays so. -/
def execPinReset (s : State) : Res := .next (if s.boot.held then s else s.moduleReset 2)

/-- SOFTWARE_RESET. -/
def execSoftwareReset (req value : Nat) (s : State) : Res := s.regRow iSYS req 0x0200000028 4 value (fun s => s.sysReset req value)

/-- BROWN_OUT. -/
def execBrownOut (s : State) : Res := .next (s.moduleReset 1)

/-- RESET_RELEASE. -/
def execResetRelease (straps : Nat) (failA failB : Bool) (s : State) : Res := .next (s.resetRelease straps failA failB)

/-- POWERUP_BIST_DONE. -/
def execPowerupBistDone (fail : Nat) (stopPath : Bool) (ticks : Nat) (s : State) : Res := .next (s.bistDone fail stopPath ticks)

/-- LOADER_CHECK_DONE. -/
def execLoaderCheckDone (ok : Bool) (s : State) : Res := .next (s.loaderCheck ok)

/-- LOADER_DONE. -/
def execLoaderDone (segs : List (Nat × Nat × Nat × Nat)) (s : State) : Res := .next (s.loaderDone segs)

/-- RESTORE. -/
def execRestore (s : State) : Res := .next s.restore

/-- RUN_START. -/
def execRunStart (entry : Nat) (s : State) : Res := .next (s.runStart entry)

/-- PWRFAIL_ASSERT. -/
def execPwrfailAssert (s : State) : Res := .next s.pwrfail

/-- PWRFAIL_DEASSERT. -/
def execPwrfailDeassert (s : State) : Res := .next s.pwrOk

/-- THERMAL_SAMPLE. -/
def execThermalSample (temp : Int) (vin power : Nat) (s : State) : Res := .next (s.thermal temp vin power)

/-- EJECT_REQUEST. -/
def execEjectRequest (s : State) : Res := .next s.eject

/-- EJECT_REQ_HIGH. -/
def execEjectReqHigh (s : State) : Res := .next s.ejectBack

/-- A requester's write of a common register of an island (R34), at offset o. Those of an island that is OFF or FENCED answer
too: PSTATE is where its state is read and changed (R30; log entry 15). -/
def State.prefixRow (s : State) (isl req o value : Nat) (f : State → Nat × State) : Res :=
  let a := 0x0200000000 + isl * 0x10000 + o
  if isIsland isl = false then done (s.regRefuse iSYS a req cRANGE)
  else if s.holds isl then .next { s with held := s.held ++ [.write isl req a 4 value] }
  else done (f s)

/-- PSTATE_REQUEST. -/
def execPstateRequest (req isl value : Nat) (s : State) : Res :=
  s.prefixRow isl req 4 value (fun s => s.pstateWrite req isl value)

/-- ISLAND_GATE. -/
def execIslandGate (isl : Nat) (s : State) : Res := .next (s.islandGate isl)

/-- UNLOCK: a write of PREFIX_LOCK with UNLOCK set. -/
def execUnlock (req isl value : Nat) (s : State) : Res :=
  s.prefixRow isl req 8 (value % 2 + 2) (fun s => s.lockWrite req isl (value % 2 + 2))

/-- LOCKED: a write of PREFIX_LOCK with LOCKED set. -/
def execLocked (req isl value : Nat) (s : State) : Res :=
  s.prefixRow isl req 8 (value % 4 / 2 * 2 + 1) (fun s => s.lockWrite req isl (value % 4 / 2 * 2 + 1))

/-- REFUSE_CAPTURE_CLEAR: a write of PREFIX_REFUSE_INFO with VALID set. -/
def execRefuseCaptureClear (req isl value : Nat) (s : State) : Res :=
  s.prefixRow isl req 0x18 (value % 2 ^ 31 + 2 ^ 31) (fun s => s.refuseInfoWrite isl (value % 2 ^ 31 + 2 ^ 31))

end Sys2Proof.Machine
end

