-- ==== Sys2Proof/Machine/HstBase.lean ====
section
/-! DEFINITION. HST (R580 to R587): interfaces, completions, rings, notices and registers; what Ethernet hands over. -/

namespace Sys2Proof.Machine

def HstIf.fresh : HstIf := ⟨[], false, []⟩

def State.setHst (s : State) (f : HstSt → HstSt) : State := { s with hst := f s.hst }
def State.hif (s : State) (x : Nat) : HstIf := Tab.get (fun _ => HstIf.fresh) s.hst.ifs x
def State.setHif (s : State) (x : Nat) (v : HstIf) : State :=
  s.setHst (fun h => { h with ifs := Tab.set (fun _ => HstIf.fresh) h.ifs x v })

/-- Whether the PCIe part works: enabled by its strap, and not held in reset (R562, R584). -/
def State.pcieOn (s : State) : Bool := s.on SYS_STRAPS_PCIE && !s.hst.perst && s.ist iHST != 0 && s.ist iHST != 5

/-- HST raises an MSI-X vector. The table that masks vectors belongs to the PCI Express specification. -/
def State.msi (s : State) (v : Nat) : State := s.setHst (fun h => { h with msix := h.msix ++ [v] })

/-- HST writes to host memory. -/
def State.hostWrite (s : State) (a : Nat) (b : List Byte) : State := s.setHst (fun h => { h with out := h.out ++ [(a, b)] })

/-! ### Frames (R581, R582, R585, R586) -/

/-- A completion frame. -/
def completionFrame (op status tag session seq flags : Nat) (payload : List Byte) : List Byte :=
  let b := leBytes 1 op ++ leBytes 1 status ++ leBytes 2 payload.length ++ leBytes 4 tag ++ leBytes 4 session ++ leBytes 4 seq ++
    leBytes 1 flags ++ leBytes 15 0 ++ payload
  b ++ leBytes 4 (crc32c b)

/-- Consistent overhead byte stuffing: groups of up to 254 bytes that are not 0, each behind its count; `g` is the group
under way. -/
def cobsGo : List Byte → List Byte → List Byte
  | g, [] => leBytes 1 (g.length + 1) ++ g
  | g, b :: l =>
    if b = 0#8 then leBytes 1 (g.length + 1) ++ g ++ cobsGo [] l
    else if g.length = 253 then leBytes 1 255 ++ g ++ [b] ++ (if l = [] then [] else cobsGo [] l)
    else cobsGo (g ++ [b]) l

/-- A frame as it goes out on the UART (R585). -/
def uartFrame (b : List Byte) : List Byte := cobsGo [] b ++ [0#8]

/-- The ones' complement sum over 16-bit words, most significant byte first. -/
def sum16 : List Byte → Nat
  | [] => 0
  | [a] => a.toNat * 256
  | a :: b :: l => a.toNat * 256 + b.toNat + sum16 l

def fold16 (n : Nat) : Nat :=
  let a := n % 65536 + n / 65536
  let b := a % 65536 + a / 65536
  b % 65536 + b / 65536

/-- The checksum over bytes in which its own field is 0. -/
def inetSum (b : List Byte) : Nat := 65535 - fold16 (sum16 b)

/-- Where the UDP header of a frame begins, with its pseudo header and whether it is IPv4 (R586). -/
def udpAt (f : List Byte) : Option (Nat × List Byte × Bool) :=
  let o := etherOff f
  let i := o + 2
  if fr f o 2 = 0x0800 ∧ fr f i 1 = 0x45 ∧ fr f (i + 6) 2 % 16384 = 0 ∧ fr f (i + 9) 1 = 17 ∧
      fr f (i + 2) 2 = 20 + fr f (i + 24) 2 then
    some (i + 20, (f.drop (i + 12)).take 8 ++ [0#8, 17#8] ++ beBytes 2 (fr f (i + 24) 2), true)
  else if fr f o 2 = 0x86DD ∧ fr f i 1 / 16 = 6 ∧ fr f (i + 6) 1 = 17 ∧ fr f (i + 4) 2 = fr f (i + 44) 2 then
    some (i + 40, (f.drop (i + 8)).take 32 ++ beBytes 4 (fr f (i + 44) 2) ++ [0#8, 0#8, 0#8, 17#8], false)
  else none

/-- The command frame of an Ethernet frame that is HST's (R586). -/
def State.hstCommand (s : State) (p : Nat) (f : List Byte) : Option (List Byte) :=
  if s.on HST_ETH_EN = false ∨ bit (s.f HST_ETH_PORTS) p = false ∨ leValue (f.take 6) ≠ s.f (ETH_Pp_MAC_ADDR p) then none
  else match udpAt f with
    | none => none
    | some (u, pseudo, v4) =>
      let n := fr f (u + 4) 2
      let udp := (f.drop u).take n
      let c := (udp.drop 8)
      let sumOk := fold16 (sum16 (pseudo ++ udp)) == 65535 || (v4 && fr udp 6 2 == 0)
      if fr udp 2 2 = s.f HST_ETH_UDP_PORT ∧ 44 ≤ n ∧ udp.length = n ∧ sumOk = true ∧ c.length = 36 + fld c 2 2 then some c
      else none

/-- ETH hands a frame to HST, or keeps it (R319, R586). -/
def State.hstClaim (s : State) (p : Nat) (f : List Byte) : Option State :=
  if s.ist iHST = 0 ∨ s.ist iHST = 5 then none
  else match s.hstCommand p f with
    | some c => some (s.setHif 2 { s.hif 2 with queue := (s.hif 2).queue ++ [⟨c, some (p, f)⟩] })
    | none => none

/-- The datagram that carries a completion back (R586). -/
def answerFrame (f c : List Byte) : List Byte :=
  match udpAt f with
  | none => []
  | some (u, _, v4) =>
    let o := etherOff f
    let i := o + 2
    let n := 8 + c.length
    let eth := (f.drop 6).take 6 ++ f.take 6 ++ (f.drop 12).take (o + 2 - 12)
    let ip :=
      if v4 then
        let h := (f.drop i).take 2 ++ beBytes 2 (20 + n) ++ (f.drop (i + 4)).take 4 ++ [64#8, 17#8, 0#8, 0#8] ++
          (f.drop (i + 16)).take 4 ++ (f.drop (i + 12)).take 4
        putAt h 10 (beBytes 2 (inetSum h))
      else (f.drop i).take 4 ++ beBytes 2 n ++ [17#8, 64#8] ++ (f.drop (i + 24)).take 16 ++ (f.drop (i + 8)).take 16
    let pseudo := if v4 then (ip.drop 12).take 8 ++ [0#8, 17#8] ++ beBytes 2 n
      else (ip.drop 8).take 32 ++ beBytes 4 n ++ [0#8, 0#8, 0#8, 17#8]
    let udp := (f.drop (u + 2)).take 2 ++ (f.drop u).take 2 ++ beBytes 2 n ++ [0#8, 0#8] ++ c
    let k := inetSum (pseudo ++ udp)
    eth ++ ip ++ putAt udp 6 (beBytes 2 (if k = 0 then 65535 else k))

/-- HST hands ETH a frame to send, behind all classes (log entry 49); a port without a link loses it. -/
def State.hstEthSend (s : State) (p : Nat) (f : List Byte) : State :=
  let x := s.ethPort p
  if s.on (ETH_Pp_MACCFG_ENABLE p) = false ∨ s.on (ETH_Pp_LINK_UP p) = false ∨ 32 ≤ x.bufs.length then s
  else s.setEth p { x with bufs := x.bufs ++ [⟨7, x.order, 0, false, false, false, 0, f, none⟩], order := x.order + 1 }

/-! ### The rings (R584) -/

def qSize (s : State) : Nat := s.f HST_Q_SIZE_ENTRIES

/-- HST fetches a command while the completion ring has a free entry, one at a time. -/
def State.hstFetch (s : State) : State :=
  match s.hst.ring with
  | [] => s
  | f :: l =>
    if s.pcieOn = false ∨ s.hst.master = false ∨ (s.hif 0).queue ≠ [] ∨
        (s.f HST_CQ_WR_INDEX + 1) % qSize s = s.f HST_CQ_RD_INDEX then s
    else (s.setHst (fun h => { h with ring := l })).setHif 0 { s.hif 0 with queue := [⟨f, none⟩] }

/-- A completion goes out on its interface, and the command leaves it. -/
def State.hstOut (s : State) (x : Nat) (c : List Byte) : State :=
  let v := s.hif x
  let s := (s.setHif x { v with queue := v.queue.drop 1, busy := false }).inc (HST_Ix_STAT_COMMANDS x)
  if x = 0 then
    let wr := s.f HST_CQ_WR_INDEX
    let s := (s.hostWrite (s.f HST_CQ_BASE_ADDR * 4096 + wr * 2048) c).setF HST_CQ_WR_INDEX ((wr + 1) % qSize s)
    let s := if s.on HST_PCI_CFG_CQ_IRQ then s.msi 0 else s
    (s.setF HST_SQ_HEAD_INDEX ((s.f HST_SQ_HEAD_INDEX + 1) % qSize s)).hstFetch
  else if x = 1 then s.setHst (fun h => { h with uart := h.uart ++ [uartFrame c] })
  else match v.queue with
    | ⟨_, some (p, f)⟩ :: _ => s.hstEthSend p (answerFrame f c)
    | _ => s

/-- Whether the same request, unchanged, can succeed later (R39). -/
def retryStatus (st : Nat) : Bool := [cBUSY, cTIMEOUT, cCONFLICT, cNO_ROUTE, cSTOPPED].contains st

/-- The fields of a command frame (R581). -/
def cmdOp (f : List Byte) : Nat := fld f 0 1
def cmdLen (f : List Byte) : Nat := fld f 2 2
def cmdTag (f : List Byte) : Nat := fld f 4 4
def cmdSession (f : List Byte) : Nat := fld f 8 4
def cmdFlow (f : List Byte) : Nat := fld f 12 2
def cmdArg0 (f : List Byte) : Nat := fld f 16 8
def cmdArg1 (f : List Byte) : Nat := fld f 24 8
def cmdPayload (f : List Byte) : List Byte := (f.drop 32).take (cmdLen f)
def cmdCheck (f : List Byte) : Nat := fld f (32 + cmdLen f) 4

/-- The command of an interface ends; its completion is kept, but for one that asks for the same command again (R39, R582;
log entry 50). -/
def State.hstEnd (s : State) (x status seq : Nat) (payload : List Byte) (keep : Bool) : State :=
  match (s.hif x).queue with
  | [] => s
  | q :: _ =>
    let f := q.bytes
    let d : HstDone := ⟨cmdSession f, cmdTag f, cmdOp f, cmdCheck f, status, seq, payload⟩
    let s := if keep && !retryStatus status then s.setHif x { s.hif x with kept := (d :: (s.hif x).kept).take 16 } else s
    s.hstOut x (completionFrame (cmdOp f) status (cmdTag f) (cmdSession f) seq 0 payload)

/-! ### Notices, registers -/

/-- A token at HST (R584). -/
def State.hstToken (s : State) (t : Token) : Nat × State :=
  let v := epPort t.dest - 0x100
  if epPort t.dest ≤ 0x100 ∨ 31 < v then (cNO_ROUTE, s)
  else
    let wr := s.f HST_NR_WR_INDEX
    let size := s.f HST_NR_SIZE_ENTRIES
    if s.pcieOn = false ∨ s.hst.master = false ∨ (wr + 1) % size = s.f HST_NR_RD_INDEX then (cBUSY, s)
    else
      let b := leBytes 8 t.data ++ leBytes 4 t.tag ++ leBytes 1 v ++ leBytes 3 s.hst.notices
      let s := (s.hostWrite (s.f HST_NR_BASE_ADDR * 4096 + wr * 16) b).setF HST_NR_WR_INDEX ((wr + 1) % size)
      (cOK, (s.setHst (fun h => { h with notices := h.notices + 1 })).msi v)

def aHst (o : Nat) : Nat := 0x02002A0000 + o

/-- A write of HST_SQ_TAIL: what the new entries of the ring hold. An index that names no entry is refused. -/
def State.sqTail (s : State) (req value : Nat) (frames : List (List Byte)) : Nat × State :=
  let new := value % 256
  let n := qSize s
  if n ≤ new then s.regRefuse iHST (aHst 0x3C) req cRANGE
  else
    let count := (new + n - s.f HST_SQ_TAIL_INDEX) % n
    let fs := (frames ++ List.replicate count []).take count
    (cOK, ((s.setF HST_SQ_TAIL_INDEX new).setHst (fun h => { h with ring := h.ring ++ fs })).hstFetch)

/-- A write of HST_CQ_RD: HST goes on fetching. -/
def State.cqRd (s : State) (req value : Nat) : Nat × State :=
  if qSize s ≤ value % 256 then s.regRefuse iHST (aHst 0x48) req cRANGE
  else (cOK, (s.setF HST_CQ_RD_INDEX (value % 256)).hstFetch)

def State.hstRegWrite (s : State) (req isl base value : Nat) : Option (Nat × State) :=
  if isl ≠ iHST then none
  else if base = aHst 0x38 ∧ (s.f HST_SQ_HEAD_INDEX ≠ s.f HST_SQ_TAIL_INDEX ∨ s.f HST_CQ_WR_INDEX ≠ s.f HST_CQ_RD_INDEX) then
    some (s.regRefuse isl base req cBUSY)
  else if base = aHst 0x3C then some (s.sqTail req value [])
  else if base = aHst 0x48 then some (s.cqRd req value)
  else none

/-- The PCIe part is reset (R562, R584): its rings, its link, and the command it runs. -/
def State.pcieReset (s : State) : State :=
  let z := { s with regs := s.regs.filter (fun e => !(decide (aHst 0x24 ≤ e.1 / 64) && decide (e.1 / 64 < aHst 0x68))) }
  (z.setHif 0 { z.hif 0 with queue := [], busy := false }).setHst (fun h => { h with
    ring := [], master := false, notices := 0 })

/-! ### Meanings -/

/-- SQ_DOORBELL, with what the new entries of the submission ring hold. -/
def execSqDoorbell (req value : Nat) (frames : List (List Byte)) (s : State) : Res :=
  s.regRow iHST req (aHst 0x3C) 4 value (fun s => s.sqTail req value frames)

/-- CQ_RD_WRITE. -/
def execCqRdWrite (req value : Nat) (s : State) : Res :=
  s.regRow iHST req (aHst 0x48) 4 value (fun s => s.cqRd req value)

/-- HOST_NOTICE. -/
def execHostNotice (t : Token) (s : State) : Res := .next (s.arrive t (fun s => s.hstToken t))

/-- PCIE_PERST. -/
def execPciePerst (low : Bool) (s : State) : Res :=
  .next (if low then (s.setHst (fun h => { h with perst := true })).pcieReset else s.setHst (fun h => { h with perst := false }))

/-- PCIE_LINK_CHANGE: the link is up with a width and speed, or down; and whether bus mastering is on. -/
def execPcieLinkChange (up : Bool) (width speed : Nat) (master : Bool) (s : State) : Res :=
  .next (if s.pcieOn = false then s
  else
    let s := ((s.setF HST_PCI_CFG_LINK_UP (b2n up)).setF HST_PCI_CFG_WIDTH (if up then width else 0)).setF HST_PCI_CFG_SPEED
      (if up then speed else 0)
    (s.setHst (fun h => { h with master := up && master })).hstFetch)

/-- ETH_FRAME_RECEIVED (R319, R586). -/
def execEthFrameReceived (p : Nat) (frame : List Byte) (fcsOk : Bool) (sub : Nat) (s : State) : Res :=
  .next (s.frameIn p frame fcsOk sub (fun s => s.hstClaim p frame))

/-- REPORT: once a second while the boot ROM holds (R585). -/
def execReport (s : State) : Res :=
  .next (match s.boot.holding with
    | none => s
    | some st =>
      if s.ist iHST ≠ 3 ∨ s.on HST_UART_EN = false ∨ s.tim.edges < s.boot.reportAt + 100000000 then s
      else
        let b := leBytes 8 (s.f BST_PU_FAIL_FAIL) ++ s.cell.bytes ++ leBytes 4 (s.f SYS_BOOT_ENGINE * 2 ^ 8 + s.f SYS_BOOT_PHASE)
        (s.setHst (fun h => { h with uart := h.uart ++ [uartFrame (completionFrame 0x7F st 0 0 0 0 b)] })).setBoot
          (fun b => { b with reportAt := s.tim.edges }))

end Sys2Proof.Machine
end

