-- ==== Sys2Proof/Machine/Bus.lean ====
section
/-! DEFINITION. Accesses to any device address and tokens to any endpoint: the one place that sends an access or a token
to the family that owns it. -/

namespace Sys2Proof.Machine

/-- The write rule of the family that owns a register; none where its access codes say everything. -/
def State.familyWrite (s : State) (req isl base value : Nat) : Option (Nat × State) :=
  if isl = iDUG ∨ isl = iQUE ∨ (0x10 ≤ isl ∧ isl < 0x20) then s.coreRegWrite req isl base value
  else if isl = iSYS ∨ isl = iPWR ∨ isl = iBST then s.bootRegWrite req isl base value
  else if isl = iREF then
    match s.bootRegWrite req isl base value with
    | some r => some r
    | none => s.stopRegWrite req isl base value
  else if isl = iSCB then s.scbRegWrite req isl base value
  else if isl = iUPD then s.updRegWrite req isl base value
  else if isl = iTIM then s.timRegWrite req isl base value
  else if isl = iGBB then s.gbbRegWrite req isl base value
  else if isl = iGOB then s.gobRegWrite req isl base value
  else if isl = iRAD then s.radRegWrite req isl base value
  else if isl = iZON then s.zonRegWrite req isl base value
  else if isl = iMCH then s.mchRegWrite req isl base value
  else if isl = iTAL then s.talRegWrite req isl base value
  else if isl = iCAN then s.canRegWrite req isl base value
  else if isl = iETH then s.ethRegWrite req isl base value
  else if isl = iBXL then s.bxlRegWrite req isl base value
  else if isl = iHST then s.hstRegWrite req isl base value
  else if 0x2C ≤ isl then s.smpRegWrite req isl base value
  else none

/-- A whole-register write by any requester (R14 to R16): the register's own rule where it has one, otherwise its access
codes. -/
def State.regFull (s : State) (req isl base value : Nat) : Nat × State :=
  let o := base % 0x10000
  if base < 0x0300000000 ∧ o = 0x04 then s.pstateWrite req isl value
  else if base < 0x0300000000 ∧ o = 0x08 then s.lockWrite req isl value
  else if base < 0x0300000000 ∧ o = 0x18 then s.refuseInfoWrite isl value
  else match s.familyWrite req isl base value with
    | some r => r
    | none => s.regW isl req base value

/-- What a register shows of another part of the state; none where it shows its fields. -/
def State.familyLive (s : State) (isl base : Nat) : Option Nat :=
  if isl = iDUG ∨ isl = iQUE ∨ (0x10 ≤ isl ∧ isl < 0x20) then s.coreLive isl base
  else if isl = iREF then s.stopLive isl base
  else if isl = iSCB then s.scbLive isl base
  else if isl = iTIM then s.timLive isl base
  else if isl = iGOB then s.gobLive isl base
  else if isl = iRAD then s.radLive isl base
  else if isl = iZON then s.zonRegLive isl base
  else if isl = iMCH then s.mchLive isl base
  else if isl = iTAL then s.talLive isl base
  else if isl = iETH then s.ethLive isl base
  else if isl = iBXL then s.bxlLive isl base
  else none

/-- The live value of a register. -/
def State.regLive (s : State) (isl : Nat) (r : RegD) (base : Nat) : Nat :=
  match s.familyLive isl base with
  | some v => v
  | none => s.regValue r base

/-- What a full read of a register takes with it (R13, R305, R315). -/
def State.regTake (s : State) (isl base : Nat) : State :=
  if isl = iTIM then s.timTake base else if isl = iETH then s.ethTake base else s

/-- Records that are read as bytes among the registers: the bytes and the offset of an address in them. Channel dumps
(R199), CAN counters (R466), the Roster (R476), the last-breath cell (R554). -/
def State.byteWindow (s : State) (addr : Nat) : Option (List Byte × Nat) :=
  if 0x0300000000 ≤ addr ∧ addr < 0x0300020000 then
    (if 0x80 ≤ addr % 0x100 then some ((s.ch ((addr - 0x0300000000) / 0x100)).dump, addr % 0x100 - 0x80) else none)
  else if 0x0200270100 ≤ addr ∧ addr < 0x0200270400 then
    let o := addr - 0x0200270100
    if 0x40 ≤ o % 0x80 ∧ o % 0x80 < 0x60 then some (s.canRegion (o / 0x80), o % 0x80 - 0x40) else none
  else if 0x0200290400 ≤ addr ∧ addr < 0x0200290600 then some (s.rosterBytes, addr - 0x0200290400)
  else if 0x0200020540 ≤ addr ∧ addr < 0x0200020580 then some (s.cell.bytes, addr - 0x0200020540)
  else none

/-- Whether an address is a common register of an island (R34), which answers in every state. -/
def prefixAddr (addr : Nat) : Bool := decide (addr < 0x0300000000) && decide (addr % 0x10000 < 0x20)

/-- The status with which an access to a register of an island that is FENCED or OFF is refused (R33; log entry 15). -/
def State.islandRefuses (s : State) (isl addr : Nat) : Option Nat :=
  if prefixAddr addr then none
  else if s.ist isl = 5 then some cFENCED
  else if s.ist isl = 0 then some cNO_ROUTE
  else none

/-- An access has been served: the engines keep their own count of activity. -/
def State.accessed (s : State) (isl : Nat) : State := if 0x10 ≤ isl ∧ isl < 0x20 then s else s.touch isl

/-- A device write of `size` bytes by a requester: the status and the state. -/
def State.devWrite (s : State) (req addr size value : Nat) : Nat × State :=
  match regIsland addr with
  | some isl =>
    match s.islandRefuses isl addr with
    | some c => (c, s.refuse isl addr req true c)
    | none =>
      let r := (s.wakeFor isl).sizedWrite isl req addr size value (fun s base v => s.regFull req isl base v)
      (r.1, r.2.accessed isl)
  | none => s.memWrite req addr (leBytes size value)

/-- A device read of `size` bytes by a requester: the status, the value and the state. -/
def State.devRead (s : State) (req addr size : Nat) : Nat × Nat × State :=
  match regIsland addr with
  | some isl =>
    match s.islandRefuses isl addr with
    | some c => (c, 0, s.refuse isl addr req false c)
    | none =>
      let s := s.wakeFor isl
      match (if [1, 2, 4, 8].contains size && addr % size == 0 then s.byteWindow addr else none) with
      | some (b, o) => (cOK, fld b o size, s.accessed isl)
      | none =>
        let r := s.sizedRead isl req addr size (fun s r base => s.regLive isl r base) (fun s base => s.regTake isl base)
        (r.1, r.2.1, r.2.2.accessed isl)
  | none =>
    let r := s.memRead req addr size
    (r.1, leValue r.2.1, r.2.2)

/-- A token is served by the island of its endpoint (R125, R128). -/
def State.tokenServe (s : State) (t : Token) : Nat × State :=
  let isl := epIsl t.dest
  if isl = iDUG then
    (if epPort t.dest = 0 then s.operandServe t else if epPort t.dest = 1 then s.intakeServe t else (cNO_ROUTE, s))
  else if isl = iSCB then s.scbToken t
  else if isl = iGBB then s.gbbToken t
  else if isl = iPOS then s.posToken t
  else if isl = iRAD then s.radToken t
  else if isl = iZON then s.zonToken t
  else if isl = iMCH then s.mchToken t
  else if isl = iTAL then s.talToken t
  else if isl = iCAN then s.canToken t
  else if isl = iETH then s.ethToken t
  else if isl = iBXL then (if epPort t.dest = 0 then s.bexSend t else (cNO_ROUTE, s))
  else if isl = iHST then s.hstToken t
  else if 0x2C ≤ isl then s.smpToken t
  else (cNO_ROUTE, s)

/-- A token of any kind arrives. -/
def State.arriveAny (s : State) (t : Token) : State := s.arrive t (fun s => s.tokenServe t)

/-- Insert by class, behind those of the same class. -/
def heldInsert (s : State) (h : HeldReq) : List HeldReq → List HeldReq
  | [] => [h]
  | x :: l => if s.heldClass h < s.heldClass x then h :: x :: l else x :: heldInsert s h l

/-- What an island held is served: the higher class first, then the earlier one (R31, R36). -/
def State.serveHeld (s : State) (isl : Nat) : State :=
  let mine := s.held.filter (fun h => heldIsl h == isl)
  let order := mine.foldl (fun l h => heldInsert s h l) []
  order.foldl (fun s h => match h with
    | .token _ t => s.arriveAny t
    | .write _ req addr size value =>
      let r := s.devWrite req addr size value
      r.2.ans r.1
    | .word w => s.arriveWord w)
    { s with held := s.held.filter (fun h => heldIsl h != isl) }

/-- BEXLINK_SEND. -/
def execBexlinkSend (t : Token) (s : State) : Res := .next (s.arriveAny t)

end Sys2Proof.Machine
end

