-- ==== Sys2Proof/Machine/EngCore.lean ====
section
/-! DEFINITION. How an engine executes one instruction (R68 to R86, R110 to R118): the running context, the fetch checks,
traps and ends of activations, and the memory accesses of a context. The word executed is the one the fetch delivered. -/

namespace Sys2Proof.Machine

/-! ### Fields of an instruction word (R84) -/

def wOp (w : BitVec 32) : Nat := bits w.toNat 6 0
def wRd (w : BitVec 32) : Nat := bits w.toNat 11 7
def wRa (w : BitVec 32) : Nat := bits w.toNat 16 12
def wRb (w : BitVec 32) : Nat := bits w.toNat 21 17
def wFn3 (w : BitVec 32) : Nat := bits w.toNat 19 17
def wFn10 (w : BitVec 32) : Nat := bits w.toNat 31 22
/-- The sign-extended 12-bit immediate as a 64-bit word. -/
def wImm12 (w : BitVec 32) : BitVec 64 := BitVec.ofInt 64 (Sys2Proof.signed 12 (bits w.toNat 31 20))
/-- The sign-extended 20-bit immediate. -/
def wImm20 (w : BitVec 32) : Int := Sys2Proof.signed 20 (bits w.toNat 31 12)

/-- The major opcodes of R85; every other value is reserved. -/
def opKnown (op : Nat) : Bool :=
  [0x01, 0x02, 0x03, 0x04, 0x08, 0x09, 0x0A, 0x0C, 0x0D, 0x10, 0x11, 0x12, 0x20, 0x21, 0x30, 0x31, 0x40, 0x48].contains op

/-! ### Trap causes (R112) -/

def tILLEGAL : Nat := 1
def tALIGN : Nat := 2
def tWINDOW : Nat := 3
def tACCESS : Nat := 4
def tOUTBOX_FULL : Nat := 5
def tOPERAND_EMPTY : Nat := 6
def tFLOW_RULE : Nat := 7
def tATOMIC : Nat := 8
def tBREAK : Nat := 9

/-- What executing one instruction comes to: it completes and the context goes on at pc; it traps with a cause, a status
and a value; it leaves RUNNING (its context has been dealt with); or it stalls and nothing retires. -/
inductive ERes where
  | go (s : State) (pc : Nat)
  | trap (cause status value : Nat)
  | trapIn (s : State) (cause status value : Nat)
  | left (s : State)
  | stall (s : State)

/-! ### Ends and traps -/

/-- The context is aborted (R114, R115): record, cancelled item, EMPTY. The record of a double trap shows the trap that was
not delivered (log entry 51). -/
def State.abortCtx (s : State) (e c cause pc : Nat) (double : Bool) : State :=
  let x := s.ctx e c
  let s := s.discard e c
  let s := s.stage ((0x10 + e) * 256 + 1)
    [cause % 256 + b2n double * 256 + x.inst * 2 ^ 12, pc, x.flow % 4096 + x.seq * 2 ^ 32]
  s.endCancelled x.inst

/-- A trap (R113): the section ends, the trap registers are written, the context goes on at ENG_TRAP_VEC in handler
mode. A trap in handler mode aborts the context as a double trap (R115). -/
def State.takeTrap (s : State) (e c pc cause status value : Nat) (fetch : Bool) : State :=
  let x := s.ctx e c
  if x.handler then s.abortCtx e c cause pc true
  else
    let x := { x with
      handler := true, atomic := false, left := 0, trapPc := pc,
      trapCause := b2n fetch * 65536 + status * 256 + cause, trapValue := value,
      pc := s.f (ENG_TRAP_VEC_VEC e) * 4 }
    (s.setCtx e c x).inc (ENG_TRAPS_COUNT e)

/-- A preemption point (R42, R70, R118): a cancel that waited takes effect, then a higher class preempts. -/
def State.boundary (s : State) (e c : Nat) : State :=
  let x := s.ctx e c
  if x.atomic then s
  else
    let s := if x.cancelled && (x.st == 1 || x.st == 2 || x.st == 3) then s.cancelCtx e c else s
    (s.preempt e).engTouch e

/-- The oldest deferred refusal of a context is taken as its ACCESS trap (R83): TRAP_PC holds the access's address. -/
def State.takeDeferred (s : State) (e c : Nat) : State :=
  let x := s.ctx e c
  match x.deferred with
  | [] => s
  | d :: ds => (s.setCtx e c { x with deferred := ds }).takeTrap e c d.pc tACCESS d.code d.addr false

/-! ### Windows and memory (R73 to R76, R83) -/

/-- Whether a selected, valid window covers n bytes at a and grants bit `perm` (0 R, 1 W, 2 X; R74, R124). -/
def State.windowOk (s : State) (e mask a n perm : Nat) : Bool :=
  (List.range 16).any (fun w =>
    bit mask w && s.on (ENG_WIN_BASE_w_VALID e w) &&
      decide (s.f (ENG_WIN_BASE_w_BASE e w) * 4096 ≤ a) &&
      decide (a + n ≤ s.f (ENG_WIN_LIMIT_w_LIMIT e w) * 4096 + 4096) &&
      (if perm = 0 then s.on (ENG_WIN_LIMIT_w_R e w) else if perm = 1 then s.on (ENG_WIN_LIMIT_w_W e w)
        else s.on (ENG_WIN_LIMIT_w_X e w)))

/-- Whether n bytes at a lie in an engine's own local SRAM. -/
def ownSram (e a n : Nat) : Bool := regionOf a n == .localSram e

/-- The check of a data access (R73, R74, R76, R117): the cause of its trap, or none. -/
def State.dataCheck (s : State) (e : Nat) (x : Ctx) (a n : Nat) (perms : List Nat) : Option Nat :=
  if 2 ^ 40 ≤ a ∨ a % n ≠ 0 then some tALIGN
  else if x.atomic = true ∧ ownSram e a n = false then some tATOMIC
  else if x.handler = false ∧ ownSram e a n = false ∧
      (List.range 16).any (fun w => perms.all (fun p => s.windowOk e (x.winmask &&& 2 ^ w) a n p)) = false then
    some tWINDOW
  else none

/-- The value TRAP_VALUE takes: the address for ALIGN, WINDOW and ACCESS, otherwise the word (R111). -/
def trapVal (cause a : Nat) (w : BitVec 32) : Nat :=
  if cause = tALIGN ∨ cause = tWINDOW ∨ cause = tACCESS then a else w.toNat

/-- A load of n bytes at a into something written by `put`; a refusal by a remote target is deferred (R83), and what the
register then holds is not used before the trap. -/
def State.loadAt (s : State) (e c : Nat) (w : BitVec 32) (a n file : Nat) (put : Ctx → Nat → Ctx) : ERes :=
  let x := s.ctx e c
  match s.dataCheck e x a n [0] with
  | some t => .trap t 0 (trapVal t a w)
  | none =>
    let r := if n ≤ 8 then s.devRead (ep (iENG e) c) a n
      else (match s.memRead (ep (iENG e) c) a n with | (k, b, s') => (k, leValue b, s'))
    if r.1 = cOK then .go (r.2.2.setCtx e c (put (r.2.2.ctx e c) r.2.1)) (x.pc + 4)
    else if ownSram e a n then .trapIn r.2.2 tACCESS r.1 a
    else
      let x' := r.2.2.ctx e c
      .go (r.2.2.setCtx e c { x' with deferred := x'.deferred ++ [⟨x.pc, a, r.1, true, file, wRd w⟩] }) (x.pc + 4)

/-- A store of n bytes at a, posted; a refusal is deferred (R83). -/
def State.storeAt (s : State) (e c : Nat) (w : BitVec 32) (a n v : Nat) : ERes :=
  let x := s.ctx e c
  match s.dataCheck e x a n [1] with
  | some t => .trap t 0 (trapVal t a w)
  | none =>
    let r := if n ≤ 8 then s.devWrite (ep (iENG e) c) a n v else s.memWrite (ep (iENG e) c) a (leBytes n v)
    if r.1 = cOK then .go r.2 (x.pc + 4)
    else
      let x' := r.2.ctx e c
      .go (r.2.setCtx e c { x' with deferred := x'.deferred ++ [⟨x.pc, a, r.1, false, 0, 0⟩] }) (x.pc + 4)

/-! ### One instruction -/

/-- The registers an instruction reads, as (file, number): 0 g, 1 f, 2 v. -/
def wReads (w : BitVec 32) : List (Nat × Nat) :=
  let op := wOp w
  let fn6 := bits w.toNat 27 22
  let fn9 := bits w.toNat 30 22
  if op = 0x01 ∨ op = 0x40 then [(0, wRa w), (0, wRb w)]
  else if op = 0x02 ∨ op = 0x08 ∨ op = 0x0C ∨ op = 0x12 ∨ op = 0x48 then [(0, wRa w)]
  else if op = 0x09 ∨ op = 0x10 then [(0, wRa w), (0, wRd w)]
  else if op = 0x0A then [(0, wRa w), (0, wRb w), (0, wRd w)]
  else if op = 0x0D then [(0, wRa w), (1, wRd w)]
  else if op = 0x20 then
    if fn6 = 0x0F ∨ fn6 = 0x12 then [(0, wRa w)]
    else if fn6 = 0x04 ∨ 0x0D ≤ fn6 then [(1, wRa w)] else [(1, wRa w), (1, wRb w)]
  else if op = 0x21 then [(1, wRa w), (1, wRb w), (1, bits w.toNat 26 22)]
  else if op = 0x30 then
    if fn9 = 0x020 ∨ fn9 = 0x021 then [(1, wRa w), (2, bits w.toNat 10 7)]
    else if fn9 = 0x018 then [(0, wRb w), (2, bits w.toNat 15 12)]
    else [(2, bits w.toNat 15 12), (2, bits w.toNat 20 17), (2, bits w.toNat 10 7)]
  else if op = 0x31 then [(0, wRa w), (2, bits w.toNat 10 7)]
  else []

/-- The check of a fetch at pc (R73, R75, R74, R83): cause and status of its trap, or none. -/
def State.fetchCheck (s : State) (e : Nat) (x : Ctx) : Option (Nat × Nat) :=
  let ok := match regionOf x.pc 4 with
    | .localSram _ => true
    | .sram => true
    | .lpddr _ => true
    | _ => false
  if 2 ^ 40 ≤ x.pc then some (tALIGN, 0)
  else if ok = false then some (tACCESS, cRANGE)
  else if x.handler = false ∧ ownSram e x.pc 4 = false ∧ s.windowOk e x.winmask x.pc 4 2 = false then some (tWINDOW, 0)
  else
    let k := s.memCheck (ep (iENG e) 0) x.pc 4 false
    if k = cOK then none else some (tACCESS, k)

/-- The word that engine e fetches at a: from the line its instruction cache holds, which is not kept coherent with memory,
or from memory (R80). -/
def State.fetchWord (s : State) (e a : Nat) : BitVec 32 :=
  match (s.engSt e).icache.find? (fun l => l.1 == a / 64) with
  | some l => BitVec.ofNat 32 (fld l.2 (a % 64) 4)
  | none => BitVec.ofNat 32 (s.rd a 4)

/-- The line of a goes into the instruction cache of engine e (R80): 128 sets of 4 lines, the set of a line its number modulo
128 (log entry 121). Which line leaves a full set is a free value. -/
def State.fetchLine (s : State) (e a : Nat) : State :=
  let en := s.engSt e
  let n := a / 64
  if en.icache.any (fun l => l.1 == n) then s
  else
    let line := (n, s.rdBytes (n * 64) 64)
    let set := en.icache.filter (fun l => l.1 % 128 == n % 128)
    if set.length < 4 then s.setEng e { en with icache := line :: en.icache }
    else
      let r := s.free 2
      let out := set.getD r.1 line
      r.2.setEng e { en with icache := line :: en.icache.filter (fun l => l.1 != out.1) }

/-- The context after an instruction retired: pc, counts, and one fewer left in its atomic section (R111, R116). -/
def State.retire (s : State) (e c pc : Nat) (wasAtomic : Bool) : State :=
  let x := s.ctx e c
  let left := if x.atomic && wasAtomic then x.left - 1 else x.left
  (s.setCtx e c { x with pc := pc, retired := x.retired + 1, left := left }).inc (ENG_RETIRED_COUNT e)

/-- The running context of engine e executes the word w, by `body`, where w is a word of the row whose opcodes `mine`
names or has a reserved opcode (R86). With no running context, or one that waits for the Dugout, nothing issues; nor does
a word that is not the one fetched at the context's pc (R80, log entry 62). -/
def State.engExec (s : State) (e : Nat) (w : BitVec 32) (mine : Nat → Bool)
    (body : State → Nat → Ctx → ERes) : State :=
  match s.running e with
  | none => s
  | some c =>
    let x := s.ctx e c
    if s.engOn e = false ∨ x.ask ≠ none then s
    else match s.fetchCheck e x with
      | some (t, k) => (s.takeTrap e c x.pc t k x.pc true).boundary e c
      | none =>
        if s.fetchWord e x.pc ≠ w then s
        else
        let s := s.fetchLine e x.pc
        if x.deferred.any (fun d => d.isLoad && (wReads w).contains (d.file, d.rd)) then
          (s.takeDeferred e c).boundary e c
        else if x.atomic = true ∧ x.left = 0 then (s.takeTrap e c x.pc tATOMIC 0 w.toNat false).boundary e c
        else if opKnown (wOp w) = false then (s.takeTrap e c x.pc tILLEGAL 0 w.toNat false).boundary e c
        else if mine (wOp w) = false then s
        else match body s c x with
          | .go s' pc => (s'.retire e c pc x.atomic).boundary e c
          | .trap t k v => (s.takeTrap e c x.pc t k v false).boundary e c
          | .trapIn s' t k v => (s'.takeTrap e c x.pc t k v false).boundary e c
          | .left s' => (s'.pickNext e).engTouch e
          | .stall s' => s'

/-- Raise ILLEGAL. -/
def ill (w : BitVec 32) : ERes := .trap tILLEGAL 0 w.toNat

/-- Write the context and go on at the next instruction. -/
def State.goNext (s : State) (e c : Nat) (x : Ctx) : ERes := .go (s.setCtx e c x) (x.pc + 4)

/-! ### Events of an engine -/

/-- MEMORY_REFUSAL: the refusal of an earlier load or store is taken as its deferred ACCESS trap (R83). -/
def execMemoryRefusal (e : Nat) (s : State) : Res :=
  .next (match s.running e with
    | none => s
    | some c => if (s.ctx e c).deferred = [] then s else (s.takeDeferred e c).boundary e c)

/-- ECC_UNCORRECTABLE: the reading activation ends without a trap and without commit (R82); REF is told of the memory's
island. A flow-bound item restarts from its beginning; an unflowed instance waits for its next operand set. -/
def execEccUncorrectable (e isl : Nat) (s : State) : Res :=
  .next (match s.running e with
    | none => s
    | some c =>
      let x := s.ctx e c
      let s := if isl = iENG e then s.inc (ENG_ECC_UNCORRECTED e) else s
      let s := { s with trapPend := s.trapPend ++ [isl] }
      if x.bound then s.rebind e c
      else
        let s := s.discard e c
        s.nextState x.inst { s.inst x.inst with moved := [] })

/-- ATOMIC_LIMIT: an atomic section has reached its limit of instructions or cycles, and ends with the ATOMIC trap at the
instruction that would exceed it (R116). The cycle count is timing, so the event may come at any count (log entry 17). -/
def execAtomicLimit (e : Nat) (s : State) : Res :=
  .next (match s.running e with
    | none => s
    | some c =>
      let x := s.ctx e c
      if x.atomic then
        let r := s.free 32
        (r.2.takeTrap e c x.pc tATOMIC 0 r.1 false).boundary e c
      else s)

end Sys2Proof.Machine
end

