-- ==== Sys2Proof/Machine/EngFp.lean ====
section
/-! DEFINITION. Floating, fused and vector instructions (R91 to R95). -/

namespace Sys2Proof.Machine

/-- The rounding mode held in FCSR. -/
def Ctx.rm (x : Ctx) : Nat := bits x.fcsr 2 0

/-- Sticky flags ORed into FCSR [8:4] (R91, R111). -/
def Ctx.flags (x : Ctx) (fl : Nat) : Ctx := { x with fcsr := x.fcsr ||| fl * 16 }

/-- Write a floating result and its flags. -/
def Ctx.wfr (x : Ctx) (r : Nat) (v : Nat × Nat) : Ctx := (x.wf r (BitVec.ofNat 64 v.1)).flags v.2

/-- Write an integer result of a floating instruction and its flags. -/
def Ctx.wgr (x : Ctx) (r : Nat) (v : Nat × Nat) : Ctx := (x.wg r (BitVec.ofNat 64 v.1)).flags v.2

/-- The range of the integer type that the rb field of FCVT names (R92). -/
def cvtRange (k : Nat) : Int × Int :=
  match k with
  | 0 => (-(2 ^ 63), 2 ^ 63 - 1)
  | 1 => (0, 2 ^ 64 - 1)
  | 2 => (-(2 ^ 31), 2 ^ 31 - 1)
  | _ => (0, 2 ^ 32 - 1)

/-- The integer an FCVT.F operand holds, by its type. -/
def cvtOperand (k : Nat) (v : BitVec 64) : Int :=
  match k with
  | 0 => v.toInt
  | 1 => Int.ofNat v.toNat
  | 2 => (v.setWidth 32).toInt
  | _ => Int.ofNat (v.setWidth 32).toNat

/-- One floating operate instruction on a context (R92); none is ILLEGAL. -/
def floatOp (w : BitVec 32) (x : Ctx) : Option Ctx :=
  let rmf := bits w.toNat 31 29
  let p := bit w.toNat 28
  let f := fmtOf p
  let rm := if rmf = 7 then x.rm else rmf
  let a := (x.rf (wRa w)).toNat
  let b := (x.rf (wRb w)).toNat
  let u := f.unpack a
  let v := f.unpack b
  let rd := wRd w
  let one := wRb w == 0
  let sa := bit a (f.ebits + f.mbits)
  let sb := bit b (f.ebits + f.mbits)
  let mag := a % 2 ^ (f.ebits + f.mbits)
  if rmf = 5 ∨ rmf = 6 then none
  else match bits w.toNat 27 22 with
    | 0x00 => some (x.wfr rd (f.add rm u v))
    | 0x01 => some (x.wfr rd (f.add rm u v.neg))
    | 0x02 => some (x.wfr rd (f.mul rm u v))
    | 0x03 => some (x.wfr rd (f.div rm u v))
    | 0x04 => if one then some (x.wfr rd (f.sqrt rm u)) else none
    | 0x05 => some (x.wfr rd (f.minmax false a b))
    | 0x06 => some (x.wfr rd (f.minmax true a b))
    | 0x07 => some (x.wfr rd (f.signed sb mag, 0))
    | 0x08 => some (x.wfr rd (f.signed (!sb) mag, 0))
    | 0x09 => some (x.wfr rd (f.signed (sa != sb) mag, 0))
    | 0x0A => some (x.wgr rd (b2n (fcompare 0 u v).1, (fcompare 0 u v).2))
    | 0x0B => some (x.wgr rd (b2n (fcompare 1 u v).1, (fcompare 1 u v).2))
    | 0x0C => some (x.wgr rd (b2n (fcompare 2 u v).1, (fcompare 2 u v).2))
    | 0x0D => if one then some (x.wgr rd (f.fclass a, 0)) else none
    | 0x0E =>
      if 4 ≤ wRb w then none
      else
        let r := cvtRange (wRb w)
        let c := fpToInt rm r.1 r.2 u
        some ((x.wg rd (BitVec.ofInt 64 c.1)).flags c.2)
    | 0x0F =>
      if 4 ≤ wRb w then none
      else some (x.wfr rd (f.ofInt rm (cvtOperand (wRb w) (x.rg (wRa w)))))
    | 0x10 => if one then some (x.wfr rd (f.convert rm ((fmtOf (!p)).unpack a))) else none
    | 0x11 => if one then some (x.wg rd (BitVec.ofNat 64 (a % 2 ^ f.width))) else none
    | 0x12 => if one then some (x.wf rd (BitVec.ofNat 64 ((x.rg (wRa w)).toNat % 2 ^ f.width))) else none
    | _ => none

/-- FLOATING_OPERATE. -/
def execFloatingOperate (e : Nat) (w : BitVec 32) (s : State) : Res :=
  .next (s.engExec e w (· == 0x20) (fun s c x =>
    match floatOp w x with
    | some x' => s.goNext e c x'
    | none => ill w))

/-- One fused multiply-add (R93): the product's and the addend's signs by kind. -/
def fmaKind (f : Fmt) (rm kind a b c : Nat) : Nat × Nat :=
  let u := f.unpack a
  let v := f.unpack b
  let z := f.unpack c
  match kind with
  | 0 => f.fma rm u v z
  | 1 => f.fma rm u v z.neg
  | 2 => f.fma rm u.neg v z.neg
  | _ => f.fma rm u.neg v z

/-- FUSED_MULTIPLY_ADD. -/
def execFusedMultiplyAdd (e : Nat) (w : BitVec 32) (s : State) : Res :=
  .next (s.engExec e w (· == 0x21) (fun s c x =>
    if bits w.toNat 31 30 ≠ 0 then ill w
    else s.goNext e c (x.wfr (wRd w) (fmaKind (fmtOf (bit w.toNat 27)) x.rm (bits w.toNat 29 28)
      (x.rf (wRa w)).toNat (x.rf (wRb w)).toNat (x.rf (bits w.toNat 26 22)).toNat))))

/-! ### Vectors (R94) -/

/-- Lane i of a vector. -/
def lane (f : Fmt) (v : BitVec 256) (i : Nat) : Nat := v.toNat / 2 ^ (i * f.width) % 2 ^ f.width

/-- A vector of lanes, lane 0 first. -/
def ofLanes (f : Fmt) (l : List Nat) : BitVec 256 :=
  BitVec.ofNat 256 (l.zipIdx.map (fun p => p.1 % 2 ^ f.width * 2 ^ (p.2 * f.width))).sum

/-- Lanes of a format: 4 or 8. -/
def lanes (f : Fmt) : Nat := 256 / f.width

/-- A lane-wise operation: the vector and the OR of the flags of all lanes. -/
def laneWise (f : Fmt) (op : Nat → Nat × Nat) : BitVec 256 × Nat :=
  let r := (List.range (lanes f)).map op
  (ofLanes f (r.map Prod.fst), (r.map Prod.snd).foldl (· ||| ·) 0)

/-- A chain over the lanes from +0, in lane order, with the OR of the flags. -/
def chain (f : Fmt) (op : Nat → Nat → Nat × Nat) : Nat × Nat :=
  (List.range (lanes f)).foldl (fun acc i => let r := op acc.1 i; (r.1, acc.2 ||| r.2)) (0, 0)

/-- One vector operate instruction on a context (R94); none is ILLEGAL. -/
def vectorOp (w : BitVec 32) (x : Ctx) : Option Ctx :=
  let n := w.toNat
  let f := fmtOf (bit n 31)
  let fn := bits n 30 22
  let rm := x.rm
  let vb := bits n 20 17
  let va := bits n 15 12
  let vd := bits n 10 7
  let A := x.rv va
  let B := x.rv vb
  let D := x.rv vd
  let plain := !bit n 21 && !bit n 16 && !bit n 11
  let put : BitVec 256 × Nat → Option Ctx := fun r => some ((x.wv vd r.1).flags r.2)
  let bin : (FP → FP → Nat × Nat) → Option Ctx := fun op =>
    if plain then put (laneWise f (fun i => op (f.unpack (lane f A i)) (f.unpack (lane f B i)))) else none
  match fn with
  | 0x000 => bin (fun a b => f.add rm a b)
  | 0x001 => bin (fun a b => f.add rm a b.neg)
  | 0x002 => bin (fun a b => f.mul rm a b)
  | 0x003 => bin (fun a b => f.div rm a b)
  | 0x004 =>
    if plain && vb == 0 then put (laneWise f (fun i => f.sqrt rm (f.unpack (lane f A i)))) else none
  | 0x005 => if plain then put (laneWise f (fun i => f.minmax false (lane f A i) (lane f B i))) else none
  | 0x006 => if plain then put (laneWise f (fun i => f.minmax true (lane f A i) (lane f B i))) else none
  | 0x008 =>
    if plain then put (laneWise f (fun i =>
      f.fma rm (f.unpack (lane f A i)) (f.unpack (lane f B i)) (f.unpack (lane f D i)))) else none
  | 0x009 =>
    if plain then put (laneWise f (fun i =>
      f.fma rm (f.unpack (lane f A i)).neg (f.unpack (lane f B i)) (f.unpack (lane f D i)))) else none
  | 0x010 =>
    if plain then
      let r := chain f (fun acc i => f.fma rm (f.unpack (lane f A i)) (f.unpack (lane f B i)) (f.unpack acc))
      put (ofLanes f [r.1], r.2)
    else none
  | 0x011 =>
    if plain && vb == 0 then
      let r := chain f (fun acc i => f.add rm (f.unpack acc) (f.unpack (lane f A i)))
      put (ofLanes f [r.1], r.2)
    else none
  | 0x018 =>
    if bit n 16 || bit n 11 then none
    else
      let sel := (x.rg (bits n 21 17)).toNat
      put (ofLanes f ((List.range (lanes f)).map (fun i =>
        let k := sel / 2 ^ (3 * i) % 8
        lane f A (if k < lanes f then k else 0))), 0)
  | 0x020 =>
    if bits n 21 17 ≠ 0 ∨ bit n 11 = true then none
    else put (ofLanes f (List.replicate (lanes f) (x.rf (bits n 16 12)).toNat), 0)
  | 0x021 =>
    let k := bits n 19 17
    if bits n 21 20 ≠ 0 ∨ bit n 11 = true ∨ lanes f ≤ k then none
    else put (ofLanes f ((List.range (lanes f)).map (fun i =>
      if i = k then (x.rf (bits n 16 12)).toNat else lane f D i)), 0)
  | 0x022 =>
    let k := bits n 19 17
    if bits n 21 20 ≠ 0 ∨ bit n 16 = true ∨ lanes f ≤ k then none
    else some (x.wf (bits n 11 7) (BitVec.ofNat 64 (lane f A k)))
  | 0x030 =>
    if bits n 21 18 ≠ 0 ∨ bit n 16 = true ∨ bits n 11 7 ≠ 0 then none
    else
      let o := if bit n 17 then 4 else 0
      some ((List.range 4).foldl (fun x i => x.wo (o + i) (BitVec.ofNat 64 (lane fmt64 A i))) x)
  | _ => none

/-- VECTOR_OPERATE. -/
def execVectorOperate (e : Nat) (w : BitVec 32) (s : State) : Res :=
  .next (s.engExec e w (· == 0x30) (fun s c x =>
    match vectorOp w x with
    | some x' => s.goNext e c x'
    | none => ill w))

/-- The address of a vector access. -/
def vea (x : Ctx) (w : BitVec 32) : Nat := (x.rg (wRa w) + wImm12 w).toNat

/-- Whether a word of op 0x31 is the load (fn3 0) or the store (fn3 1) with bit 11 zero (R95); a reserved fn3 or a set
bit 11 is ILLEGAL under either row. -/
def vform (w : BitVec 32) : Option Nat :=
  if bit w.toNat 11 then none else if wFn3 w = 0 then some 0 else if wFn3 w = 1 then some 1 else none

/-- VLD: v[[10:7]] from 32 bytes, 32-byte aligned (R76, R95). -/
def execVld (e : Nat) (w : BitVec 32) (s : State) : Res :=
  .next (s.engExec e w (fun op => op == 0x31 && vform w != some 1) (fun s c x =>
    match vform w with
    | some _ => s.loadAt e c w (vea x w) 32 2 (fun x v => x.wv (bits w.toNat 10 7) (BitVec.ofNat 256 v))
    | none => ill w))

/-- VST: v[[10:7]] to 32 bytes, 32-byte aligned (R76, R95). -/
def execVst (e : Nat) (w : BitVec 32) (s : State) : Res :=
  .next (s.engExec e w (fun op => op == 0x31 && vform w != some 0) (fun s c x =>
    match vform w with
    | some _ => s.storeAt e c w (vea x w) 32 (x.rv (bits w.toNat 10 7)).toNat
    | none => ill w))

end Sys2Proof.Machine
end

