-- ==== Sys2Proof/Machine/EngInt.lean ====
section
/-! DEFINITION. Integer, load, store, atomic and branch instructions (R85 to R90). -/

namespace Sys2Proof.Machine

/-- Quotient and remainder (R88). -/
def divS {n : Nat} (a b : BitVec n) : BitVec n := if b = 0 then BitVec.allOnes n else a.sdiv b
def divU {n : Nat} (a b : BitVec n) : BitVec n := if b = 0 then BitVec.allOnes n else a / b
def remS {n : Nat} (a b : BitVec n) : BitVec n := if b = 0 then a else a.srem b
def remU {n : Nat} (a b : BitVec n) : BitVec n := if b = 0 then a else a % b

/-- Trailing zeros of a number, counted up to k. -/
def ctzUp (v : Nat) : Nat → Nat → Nat
  | 0, i => i
  | k + 1, i => if v / 2 ^ i % 2 = 1 then i else ctzUp v k (i + 1)

/-- The 64-bit operations of R87 by fn10; none for a reserved value. -/
def alu64 (fn : Nat) (a b : BitVec 64) : Option (BitVec 64) :=
  match fn with
  | 0x000 => some (a + b)
  | 0x001 => some (a - b)
  | 0x002 => some (a &&& b)
  | 0x003 => some (a ||| b)
  | 0x004 => some (a ^^^ b)
  | 0x005 => some (a <<< (b.toNat % 64))
  | 0x006 => some (a >>> (b.toNat % 64))
  | 0x007 => some (a.sshiftRight (b.toNat % 64))
  | 0x008 => some (if a.slt b then 1 else 0)
  | 0x009 => some (if a.ult b then 1 else 0)
  | 0x00A => some (if b.slt a then b else a)
  | 0x00B => some (if a.slt b then b else a)
  | 0x00C => some (if b.ult a then b else a)
  | 0x00D => some (if a.ult b then b else a)
  | 0x010 => some (a * b)
  | 0x011 => some (BitVec.ofInt 64 (a.toInt * b.toInt / 2 ^ 64))
  | 0x012 => some (BitVec.ofNat 64 (a.toNat * b.toNat / 2 ^ 64))
  | 0x014 => some (divS a b)
  | 0x015 => some (divU a b)
  | 0x016 => some (remS a b)
  | 0x017 => some (remU a b)
  | 0x020 => some (if a = 0 then 64 else BitVec.ofNat 64 (63 - a.toNat.log2))
  | 0x021 => some (BitVec.ofNat 64 (ctzUp a.toNat 64 0))
  | 0x022 => some (BitVec.ofNat 64 (((List.range 64).filter (fun i => bit a.toNat i)).length))
  | 0x023 => some (BitVec.ofNat 64 (beValue (leBytes 8 a.toNat)))
  | _ => none

/-- The 32-bit forms of R87 (marked W), by fn10 without bit 9; none where the table has no W. -/
def alu32 (fn : Nat) (a b : BitVec 32) : Option (BitVec 32) :=
  match fn with
  | 0x000 => some (a + b)
  | 0x001 => some (a - b)
  | 0x005 => some (a <<< (b.toNat % 32))
  | 0x006 => some (a >>> (b.toNat % 32))
  | 0x007 => some (a.sshiftRight (b.toNat % 32))
  | 0x010 => some (a * b)
  | 0x014 => some (divS a b)
  | 0x015 => some (divU a b)
  | 0x016 => some (remS a b)
  | 0x017 => some (remU a b)
  | _ => none

/-- The result of an integer register operation (R87); none is ILLEGAL, as is rb ≠ 0 where the table has rb = 0. -/
def intReg (w : BitVec 32) (a b : BitVec 64) : Option (BitVec 64) :=
  let fn := wFn10 w
  if fn < 0x200 then
    if 0x020 ≤ fn ∧ fn ≤ 0x023 ∧ wRb w ≠ 0 then none else alu64 fn a b
  else (alu32 (fn - 0x200) (a.setWidth 32) (b.setWidth 32)).map (fun r => r.signExtend 64)

/-- INTEGER_REGISTER. -/
def execIntegerRegister (e : Nat) (w : BitVec 32) (s : State) : Res :=
  .next (s.engExec e w (· == 0x01) (fun s c x =>
    match intReg w (x.rg (wRa w)) (x.rg (wRb w)) with
    | some v => s.goNext e c (x.wg (wRd w) v)
    | none => ill w))

/-- The result of an integer immediate operation (R89). -/
def intImm (w : BitVec 32) (a : BitVec 64) : Option (BitVec 64) :=
  let i := wImm12 w
  let sh := bits w.toNat 25 20
  match wFn3 w with
  | 0 => some (a + i)
  | 1 => some (a &&& i)
  | 2 => some (a ||| i)
  | 3 => some (a ^^^ i)
  | 4 => some (if a.slt i then 1 else 0)
  | 5 => some (if a.ult i then 1 else 0)
  | 6 =>
    if bits w.toNat 31 28 ≠ 0 then none
    else match bits w.toNat 27 26 with
      | 0 => some (a <<< sh)
      | 1 => some (a >>> sh)
      | 2 => some (a.sshiftRight sh)
      | _ => none
  | _ => some (((a + i).setWidth 32).signExtend 64)

/-- INTEGER_IMMEDIATE. -/
def execIntegerImmediate (e : Nat) (w : BitVec 32) (s : State) : Res :=
  .next (s.engExec e w (· == 0x02) (fun s c x =>
    match intImm w (x.rg (wRa w)) with
    | some v => s.goNext e c (x.wg (wRd w) v)
    | none => ill w))

/-- LUP. -/
def execLup (e : Nat) (w : BitVec 32) (s : State) : Res :=
  .next (s.engExec e w (· == 0x03) (fun s c x =>
    s.goNext e c (x.wg (wRd w) (BitVec.ofInt 64 (wImm20 w * 4096)))))

/-- AUP. -/
def execAup (e : Nat) (w : BitVec 32) (s : State) : Res :=
  .next (s.engExec e w (· == 0x04) (fun s c x =>
    s.goNext e c (x.wg (wRd w) (BitVec.ofInt 64 (Int.ofNat x.pc + wImm20 w * 4096)))))

/-- The effective address g[ra] + imm12. -/
def ea (x : Ctx) (w : BitVec 32) : Nat := (x.rg (wRa w) + wImm12 w).toNat

/-- INTEGER_LOAD. -/
def execIntegerLoad (e : Nat) (w : BitVec 32) (s : State) : Res :=
  .next (s.engExec e w (· == 0x08) (fun s c x =>
    let a := ea x w
    let put : (Nat → BitVec 64) → Ctx → Nat → Ctx := fun ext x v => x.wg (wRd w) (ext v)
    match wFn3 w with
    | 0 => s.loadAt e c w a 1 0 (put (fun v => (BitVec.ofNat 8 v).signExtend 64))
    | 1 => s.loadAt e c w a 2 0 (put (fun v => (BitVec.ofNat 16 v).signExtend 64))
    | 2 => s.loadAt e c w a 4 0 (put (fun v => (BitVec.ofNat 32 v).signExtend 64))
    | 3 => s.loadAt e c w a 8 0 (put (BitVec.ofNat 64))
    | 4 => s.loadAt e c w a 1 0 (put (BitVec.ofNat 64))
    | 5 => s.loadAt e c w a 2 0 (put (BitVec.ofNat 64))
    | 6 => s.loadAt e c w a 4 0 (put (BitVec.ofNat 64))
    | _ => ill w))

/-- INTEGER_STORE. -/
def execIntegerStore (e : Nat) (w : BitVec 32) (s : State) : Res :=
  .next (s.engExec e w (· == 0x09) (fun s c x =>
    if 4 ≤ wFn3 w then ill w
    else
      let n := 2 ^ wFn3 w
      s.storeAt e c w (ea x w) n ((x.rg (wRd w)).toNat % 2 ^ (8 * n))))

/-- The word an atomic memory operation leaves (R90); none for a reserved fn10. -/
def amoNew (fn : Nat) (old b d : BitVec 64) : Option (BitVec 64) :=
  match fn with
  | 0 => some b
  | 1 => some (old + b)
  | 2 => some (old &&& b)
  | 3 => some (old ||| b)
  | 4 => some (if old = d then b else old)
  | _ => none

/-- ATOMIC_MEMORY_OPERATION: on local SRAM, shared SRAM and LPDDR5; ACCESS with RANGE elsewhere (R90). -/
def execAtomicMemoryOperation (e : Nat) (w : BitVec 32) (s : State) : Res :=
  .next (s.engExec e w (· == 0x0A) (fun s c x =>
    let a := (x.rg (wRa w)).toNat
    if 5 ≤ wFn10 w then ill w
    else match s.dataCheck e x a 8 [0, 1] with
      | some t => .trap t 0 (trapVal t a w)
      | none =>
        let ok := match regionOf a 8 with
          | .localSram _ => true
          | .sram => true
          | .lpddr _ => true
          | _ => false
        if ok = false then .trap tACCESS cRANGE a
        else
          let r := s.memRead (ep (iENG e) c) a 8
          if r.1 ≠ cOK then .trapIn r.2.2 tACCESS r.1 a
          else
            let old := BitVec.ofNat 64 (leValue r.2.1)
            match amoNew (wFn10 w) old (x.rg (wRb w)) (x.rg (wRd w)) with
            | some v => (r.2.2.wr a 8 v.toNat).goNext e c (x.wg (wRd w) old)
            | none => ill w))

/-- FLOATING_LOAD. -/
def execFloatingLoad (e : Nat) (w : BitVec 32) (s : State) : Res :=
  .next (s.engExec e w (· == 0x0C) (fun s c x =>
    if wFn3 w = 2 then s.loadAt e c w (ea x w) 4 1 (fun x v => x.wf (wRd w) (BitVec.ofNat 64 v))
    else if wFn3 w = 3 then s.loadAt e c w (ea x w) 8 1 (fun x v => x.wf (wRd w) (BitVec.ofNat 64 v))
    else ill w))

/-- FLOATING_STORE. -/
def execFloatingStore (e : Nat) (w : BitVec 32) (s : State) : Res :=
  .next (s.engExec e w (· == 0x0D) (fun s c x =>
    if wFn3 w = 2 then s.storeAt e c w (ea x w) 4 ((x.rf (wRd w)).toNat % 2 ^ 32)
    else if wFn3 w = 3 then s.storeAt e c w (ea x w) 8 (x.rf (wRd w)).toNat
    else ill w))

/-- The condition of a branch (R89), ra in [11:7] and rb in [16:12]; none for a reserved code. -/
def branchTaken (cond : Nat) (a b : BitVec 64) : Option Bool :=
  match cond with
  | 0 => some (a == b)
  | 1 => some (a != b)
  | 2 => some (a.slt b)
  | 3 => some (!a.slt b)
  | 4 => some (a.ult b)
  | 5 => some (!a.ult b)
  | _ => none

/-- A jump target from a signed byte offset, modulo the 64-bit PC. -/
def target (pc : Nat) (off : Int) : Nat := ((Int.ofNat pc + off) % 2 ^ 64).toNat

/-- CONDITIONAL_BRANCH. -/
def execConditionalBranch (e : Nat) (w : BitVec 32) (s : State) : Res :=
  .next (s.engExec e w (· == 0x10) (fun s _ x =>
    match branchTaken (wFn3 w) (x.rg (wRd w)) (x.rg (wRa w)) with
    | some true => .go s (target x.pc ((wImm12 w).toInt * 4))
    | some false => .go s (x.pc + 4)
    | none => ill w))

/-- JAL. -/
def execJal (e : Nat) (w : BitVec 32) (s : State) : Res :=
  .next (s.engExec e w (· == 0x11) (fun s c x =>
    .go (s.setCtx e c (x.wg (wRd w) (BitVec.ofNat 64 (x.pc + 4)))) (target x.pc (wImm20 w * 4))))

/-- JALR: a target that is not 4-byte aligned raises ALIGN (R76). -/
def execJalr (e : Nat) (w : BitVec 32) (s : State) : Res :=
  .next (s.engExec e w (· == 0x12) (fun s c x =>
    if wFn3 w ≠ 0 then ill w
    else if ea x w % 4 ≠ 0 then .trap tALIGN 0 (ea x w)
    else .go (s.setCtx e c (x.wg (wRd w) (BitVec.ofNat 64 (x.pc + 4)))) (ea x w)))

end Sys2Proof.Machine
end

