-- ==== Sys2Proof/Machine/Hst.lean ====
section
/-! DEFINITION. Host commands (R580 to R584): the checks and effects of command frames, and accesses through BAR2. -/

namespace Sys2Proof.Machine

/-- A token whose answer is wanted at once: its island is woken for it (R31; log entry 16). -/
def State.tokenNow (s : State) (t : Token) : Nat × State :=
  let isl := epIsl t.dest
  if isIsland isl = false ∨ s.ist isl = 0 then (cNO_ROUTE, s)
  else if s.ist isl = 5 then (cFENCED, s)
  else
    let r := (s.wakeFor isl).tokenServe t
    (r.1, r.2.touch isl)

/-- A register as a word. -/
def State.regWord (s : State) (isl addr : Nat) : Nat :=
  match regAt addr with
  | some (r, base) => s.regLive isl r base
  | none => 0

/-! ### Windows (R582, R584) -/

/-- Whether window j of interface x is valid and grants reading (0) or writing (1). -/
def State.hstWin (s : State) (x j perm : Nat) : Bool :=
  s.on (HST_Ix_WIN_BASE_j_VALID x j) && (if perm = 0 then s.on (HST_Ix_WIN_LIMIT_j_R x j) else s.on (HST_Ix_WIN_LIMIT_j_W x j))

/-- Where window j of interface x begins, and the byte after its end. -/
def State.hstWinAt (s : State) (x j : Nat) : Nat × Nat :=
  (s.f (HST_Ix_WIN_BASE_j_BASE x j) * 4096, s.f (HST_Ix_WIN_LIMIT_j_LIMIT x j) * 4096 + 4096)

/-- Whether one window grants an access. -/
def State.hstGrantOne (s : State) (x a n perm : Nat) : Bool :=
  (List.range 4).any (fun j => s.hstWin x j perm &&
    decide ((s.hstWinAt x j).1 ≤ a) && decide (a + n ≤ (s.hstWinAt x j).2))

/-- The end of the bytes from a on that granting windows cover, within k windows. -/
def State.hstReach (s : State) (x perm : Nat) : Nat → Nat → Nat
  | 0, a => a
  | k + 1, a => State.hstReach s x perm k ((List.range 4).foldl (fun p j =>
      if s.hstWin x j perm && decide ((s.hstWinAt x j).1 ≤ p) && decide (p < (s.hstWinAt x j).2) then (s.hstWinAt x j).2
      else p) a)

/-- Whether the granting windows together cover an access. -/
def State.hstGrant (s : State) (x a n perm : Nat) : Bool := n == 0 || decide (a + n ≤ s.hstReach x perm 4 a)

/-! ### Device accesses (R581) -/

/-- The size of the next access where `left` bytes remain from address a. -/
def accessSize (a left : Nat) : Nat := if a % 8 = 0 ∧ left % 8 = 0 then 8 else 4

/-- Read n bytes in ascending order: the first status that is not OK, the bytes read before it, and the state. -/
def State.hstRead (s : State) : Nat → Nat → Nat → List Byte → Nat × List Byte × State
  | 0, _, _, acc => (cOK, acc, s)
  | k + 1, a, n, acc =>
    if n = 0 then (cOK, acc, s)
    else
      let z := accessSize a n
      let r := s.devRead (ep iHST 0) a z
      if r.1 ≠ cOK then (r.1, acc, r.2.2)
      else State.hstRead r.2.2 k (a + z) (n - z) (acc ++ leBytes z r.2.1)

/-- Write bytes in ascending order: the first status that is not OK, how many were written before it, and the state. -/
def State.hstWrite (s : State) : Nat → Nat → List Byte → Nat → Nat × Nat × State
  | 0, _, _, k => (cOK, k, s)
  | fuel + 1, a, b, k =>
    if b = [] then (cOK, k, s)
    else
      let z := accessSize a b.length
      let r := s.devWrite (ep iHST 0) a z (leValue (b.take z))
      if r.1 ≠ cOK then (r.1, k, r.2)
      else State.hstWrite r.2 fuel (a + z) (b.drop z) (k + z)

/-! ### Checks (R582) -/

/-- Whether the boot ROM or the loader serves the interfaces (R585). -/
def State.hstBoot (s : State) : Bool := decide (s.f SYS_BOOT_PHASE < 4)

/-- The reserved fields and bits of a frame, and its multiples of 4. -/
def frameBad (f : List Byte) : Bool :=
  let op := cmdOp f
  let a0 := cmdArg0 f
  let a1 := cmdArg1 f
  op == 0 || decide (6 < op) || decide (8 ≤ fld f 1 1) || fld f 14 2 != 0 ||
    (if op = 4 then decide (4096 ≤ cmdFlow f) else cmdFlow f != 0) ||
    (if op = 1 then decide (2 ^ 40 ≤ a0) || decide (2 ^ 11 ≤ a1) || cmdLen f != 0 || a0 % 4 != 0 || a1 % 4 != 0
      else if op = 2 then decide (2 ^ 40 ≤ a0) || a1 != 0 || a0 % 4 != 0 || cmdLen f % 4 != 0
      else if op = 3 then decide (2 ^ 48 ≤ a0)
      else a0 != 0 || a1 != 0)

/-- The status of the checks before a command is executed. -/
def State.frameCheck (s : State) (x : Nat) (f : List Byte) : Nat :=
  let op := cmdOp f
  let n := if op = 1 then cmdArg1 f else cmdLen f
  if s.hstBoot = true ∧ op ≠ 1 ∧ op ≠ 2 ∧ op ≠ 6 then cBUSY
  else if frameBad f then cRANGE
  else if op = 1 ∧ 1024 < n then cLENGTH
  else if s.hstBoot then cOK
  else if (op = 1 ∨ op = 2) ∧ (s.on (HST_Ix_CFG_MEM_EN x) = false ∨ s.hstGrant x (cmdArg0 f) n (op - 1) = false) then cNOT_OWNER
  else if op = 3 ∧ s.on (HST_Ix_CFG_TOKEN_EN x) = false then cNOT_OWNER
  else cOK

/-! ### SUBMIT and CLOSE (R583) -/

/-- The flows that an interface may submit to. -/
def State.hstFlows (s : State) (x : Nat) : List Nat :=
  let v := s.f (HST_Ix_FLOWS_VALID x)
  let l := [s.f (HST_Ix_FLOWS_FLOW0 x), s.f (HST_Ix_FLOWS_FLOW1 x), s.f (HST_Ix_FLOWS_FLOW2 x), s.f (HST_Ix_FLOWS_FLOW3 x)]
  ((List.range 4).filter (fun k => bit v k)).map (fun k => l.getD k 0)

/-- Session and slot of each SUBMIT whose record is being written. -/
def State.hostPend (s : State) : List (Nat × Nat) :=
  let one : JWrite → Option (Nat × Nat) := fun w => match w.origin with | .host _ _ k j => some (k, j) | _ => none
  s.memc.itemWrites.filterMap one ++ s.acts.filterMap (fun a => match a with | .item w _ => one w | _ => none)

/-- The slot that holds a session. -/
def State.sessionSlot (s : State) (k : Nat) : Option Nat :=
  firstIdx 16 (fun j => s.on (HST_SESSION_FLOW_s_VALID j) && s.f (HST_SESSION_s_SESSION j) == k)

/-- A free slot. -/
def State.sessionFree (s : State) : Option Nat :=
  firstIdx 16 (fun j => !s.on (HST_SESSION_FLOW_s_VALID j) && !s.hostPend.any (fun p => p.2 == j))

/-- What the session says of a SUBMIT: the status, and the slot when it is OK. While a SUBMIT of the session is being
written by another interface it is answered BUSY. -/
def State.sessionCheck (s : State) (k tag flow : Nat) : Nat × Nat :=
  if s.hostPend.any (fun p => p.1 == k) then (cBUSY, 0)
  else match s.sessionSlot k with
    | none =>
      match s.sessionFree with
      | none => (cBUSY, 0)
      | some j => (cOK, j)
    | some j =>
      let d := (tag + 2 ^ 32 - s.f (HST_SESSION_s_H j)) % 2 ^ 32
      if s.f (HST_SESSION_FLOW_s_FLOW j) ≠ flow then (cRANGE, j)
      else if d = 0 ∨ 2 ^ 32 - 31 ≤ d then (cDUPLICATE, j)
      else if 33 ≤ d then (cRANGE, j)
      else (cOK, j)

/-- A SUBMIT of interface x: answered, or its journal write starts. -/
def State.hstSubmit (s : State) (x : Nat) (f : List Byte) : State :=
  let k := cmdSession f
  let fl := cmdFlow f
  let c := s.sessionCheck k (cmdTag f) fl
  if k = 0 then s.hstEnd x cRANGE 0 [] true
  else if s.on (HST_Ix_CFG_SUBMIT_EN x) = false ∨ (s.hstFlows x).contains fl = false then s.hstEnd x cNOT_OWNER 0 [] true
  else if c.1 ≠ cOK then s.hstEnd x c.1 0 [] true
  else if 992 < cmdLen f then s.hstEnd x cLENGTH 0 [] true
  else if (s.flow fl).bound = none then s.hstEnd x cNOT_FOUND 0 [] true
  else
    let r := s.offer ⟨.host x (cmdTag f) k c.2, 3, fl, c.2, fld f 1 1 % 8, cmdTag f, cmdPayload f⟩
    if r.1 = cOK then r.2.setHif x { r.2.hif x with busy := true } else s.hstEnd x r.1 0 [] true

/-- The entry of a session as HST shows it. -/
def State.setSession (s : State) (j session h flow : Nat) (valid : Bool) : State :=
  (((s.setF (HST_SESSION_s_SESSION j) session).setF (HST_SESSION_s_H j) h).setF (HST_SESSION_FLOW_s_VALID j)
    (b2n valid)).setF (HST_SESSION_FLOW_s_FLOW j) flow

/-- CLOSE frees the session's entry. -/
def State.hstClose (s : State) (x : Nat) (f : List Byte) : State :=
  match s.sessionSlot (cmdSession f) with
  | none => s.hstEnd x cNOT_FOUND 0 [] true
  | some j => ((s.retain (0x400 + j * 16) (leBytes 12 0)).setSession j 0 0 0 false).hstEnd x cOK 0 [] true

/-! ### Commands -/

/-- The payload of PING. -/
def State.pingBytes (s : State) : List Byte :=
  leBytes 4 (s.f UPD_HW_TYPE_TYPE) ++ leBytes 4 (s.f UPD_VERSION_ENGINE) ++ leBytes 16 s.unitId ++
    leBytes 4 (s.regWord iSYS 0x020000002C) ++ leBytes 4 (s.regWord iREF 0x0200020400)

/-- The effect of a command that passed the checks. -/
def State.hstDo (s : State) (x : Nat) (f : List Byte) : State :=
  let op := cmdOp f
  if op = 1 then
    let r := s.hstRead 300 (cmdArg0 f) (cmdArg1 f) []
    r.2.2.hstEnd x r.1 0 r.2.1 true
  else if op = 2 then
    let r := s.hstWrite 300 (cmdArg0 f) (cmdPayload f) 0
    r.2.2.hstEnd x r.1 0 (if r.1 = cOK then [] else leBytes 4 r.2.1) true
  else if op = 3 then
    let tag := cmdArg0 f / 2 ^ 16 % 2 ^ 32
    let t : Token := ⟨cmdArg0 f % 2 ^ 16, tag - bits tag 25 23 * 2 ^ 23 + fld f 1 1 % 8 * 2 ^ 23, cmdArg1 f, ep iHST 0, none, none⟩
    let r := s.tokenNow t
    r.2.hstEnd x r.1 0 [] true
  else if op = 4 then s.hstSubmit x f
  else if op = 5 then s.hstClose x f
  else s.hstEnd x cOK 0 s.pingBytes true

/-- A frame is dropped without a completion. -/
def State.hstDrop (s : State) (x : Nat) : State :=
  (s.setHif x { s.hif x with queue := (s.hif x).queue.drop 1 }).inc (HST_Ix_STAT_BAD x)

/-- A kept completion of the same command, if there is one. -/
def State.hstKept (s : State) (x : Nat) (f : List Byte) : Option HstDone :=
  (s.hif x).kept.find? (fun d => d.session == cmdSession f && d.tag == cmdTag f && d.op == cmdOp f && d.check == cmdCheck f)

/-- The repeat of a command is answered from its kept completion. -/
def State.hstRepeat (s : State) (x : Nat) (d : HstDone) : State :=
  let s := s.inc (HST_Ix_STAT_REPEATS x)
  if d.op = 4 ∧ (d.status = cOK ∨ d.status = cDUPLICATE) then
    s.hstOut x (completionFrame d.op cDUPLICATE d.tag d.session d.seq 0 [])
  else s.hstOut x (completionFrame d.op d.status d.tag d.session d.seq 1 d.payload)

/-- The oldest frame of interface x is checked and executed. -/
def State.hstRun (s : State) (x : Nat) : State :=
  match (s.hif x).queue with
  | [] => s
  | q :: _ =>
    let f := q.bytes
    if (s.hif x).busy then s
    else if 1024 < cmdLen f ∨ (x ≠ 0 ∧ f.length ≠ 36 + cmdLen f) then s.hstEnd x cLENGTH 0 [] false
    else if crc32c (f.take (32 + cmdLen f)) ≠ cmdCheck f then
      (if x = 0 then s.hstEnd x cINTEGRITY 0 [] false else s.hstDrop x)
    else match s.hstKept x f with
      | some d => s.hstRepeat x d
      | none =>
        let c := s.frameCheck x f
        if c = cOK then s.hstDo x f else s.hstEnd x c 0 [] true

/-- The frames that wait at the UART are executed until one does not end at once. -/
def State.uartRun (s : State) : Nat → State
  | 0 => s
  | n + 1 => if (s.hif 1).busy ∨ (s.hif 1).queue = [] then s else State.uartRun (s.hstRun 1) n

/-- Whether an interface is served: HST works, and the boot ROM, the loader or the image runs. -/
def State.hstServes (s : State) : Bool :=
  s.ist iHST != 0 && s.ist iHST != 5 && !s.boot.held && (s.f SYS_BOOT_PHASE != 0 || s.boot.holding.isSome)

/-- A command frame: on the UART it arrives and is executed in its turn; one fetched from the submission ring, or one that
ETH handed over, is executed when it is the oldest of its interface. A row takes the frames of its OP, and those whose OP
is reserved. -/
def State.hostRow (s : State) (op x : Nat) (f : List Byte) : State :=
  if s.hstServes = false ∨ 3 ≤ x then s
  else if cmdOp f ≠ op ∧ 1 ≤ cmdOp f ∧ cmdOp f ≤ 6 then s
  else
    let s := s.wakeFor iHST
    let s :=
      if x = 1 then
        if s.on HST_UART_EN = false then s
        else if 1060 < f.length then s.inc (HST_Ix_STAT_BAD 1)
        else
          let s := s.setHif 1 { s.hif 1 with queue := (s.hif 1).queue ++ [⟨f, none⟩] }
          s.uartRun ((s.hif 1).queue.length)
      else match (s.hif x).queue with
        | q :: _ => if q.bytes = f then s.hstRun x else s
        | [] => s
    s.touch iHST

/-- The journal has answered the SUBMIT in progress at interface x. -/
def State.hstSubmitted (s : State) (x tag session status seq : Nat) : State :=
  match (s.hif x).queue with
  | [] => s
  | q :: _ =>
    if (s.hif x).busy = false ∨ cmdTag q.bytes ≠ tag ∨ cmdSession q.bytes ≠ session then s
    else
      let s := s.hstEnd x status seq [] true
      if x = 1 then s.uartRun ((s.hif 1).queue.length) else s

/-! ### BAR2 (R584) -/

/-- An access through BAR2: the status, the bytes read, the state. A read that is refused completes with Unsupported
Request, which is answered as the status of its refusal. -/
def State.bar2 (s : State) (write : Bool) : Nat → Nat → List Byte → List Byte → Nat × List Byte × State
  | 0, _, _, acc => (cOK, acc, s)
  | k + 1, a, b, acc =>
    if b = [] then (cOK, acc, s)
    else
      let z := accessSize a b.length
      let ok := s.hstGrantOne 0 a z (b2n write)
      if write then
        let isl := ownerOf a
        let r := if ok then s.devWrite (ep iHST 0) a z (leValue (b.take z))
          else (cNOT_OWNER, s.refuse isl a (ep iHST 0) true cNOT_OWNER)
        let t := State.bar2 r.2 write k (a + z) (b.drop z) acc
        (if r.1 = cOK then t.1 else r.1, t.2)
      else if ok = false then (cNOT_OWNER, acc, s)
      else
        let r := s.devRead (ep iHST 0) a z
        if r.1 ≠ cOK then (r.1, acc, r.2.2) else State.bar2 r.2.2 write k (a + z) (b.drop z) (acc ++ leBytes z r.2.1)

/-! ### Meanings -/

/-- HOST_READ. -/
def execHostRead (x : Nat) (frame : List Byte) (s : State) : Res := .next (s.hostRow 1 x frame)

/-- HOST_WRITE. -/
def execHostWrite (x : Nat) (frame : List Byte) (s : State) : Res := .next (s.hostRow 2 x frame)

/-- HOST_TOKEN. -/
def execHostToken (x : Nat) (frame : List Byte) (s : State) : Res := .next (s.hostRow 3 x frame)

/-- SUBMIT. -/
def execSubmit (x : Nat) (frame : List Byte) (s : State) : Res := .next (s.hostRow 4 x frame)

/-- HOST_CLOSE. -/
def execHostClose (x : Nat) (frame : List Byte) (s : State) : Res := .next (s.hostRow 5 x frame)

/-- PING. -/
def execPing (x : Nat) (frame : List Byte) (s : State) : Res := .next (s.hostRow 6 x frame)

/-- BAR2_ACCESS: a write of the bytes, or a read of as many. -/
def execBar2Access (write : Bool) (addr : Nat) (data : List Byte) (s : State) : Res :=
  .next (if s.pcieOn = false ∨ 2 ^ 40 < addr + data.length ∨ addr % 4 ≠ 0 ∨ data.length % 4 ≠ 0 then s.reply cRANGE 0
  else
    let r := s.bar2 write (data.length / 4) addr data []
    (r.2.2.touch iHST).reply r.1 (if write then 0 else leValue r.2.1))

end Sys2Proof.Machine
end

