-- ==== Sys2Proof/Machine/Snap.lean ====
section
/-! DEFINITION. The Snap itself (R222 to R244, R252): what falls due at an edge, the bank, and the end of the fill. -/

namespace Sys2Proof.Machine

/-! ### Channel records (R225, R240) -/

/-- The record of a channel and whether it is VALID; the counts of the Snap begin anew. -/
def State.chanSnap (s : State) (c : Nat) : List Byte × Bool :=
  let st := s.chSt c
  let g := s.chSig c
  let x := match g with | some g => (s.ch c).advance g s.tim.edges | none => s.ch c
  let valid := decide (2 ≤ st) && decide (st ≤ 6) && s.streamOk (s.f (GBB_CH_CFG_STREAM c)) && g.isSome
  let pilot := match g with | some g => g.pilot | none => false
  let code := (x.base * 2 ^ 32 + x.phase) % 2 ^ 64
  let flags := st + 8 + b2n pilot * 2 ^ 4 + s.f (GBB_CH_STATUS_HALF_CYCLE c) * 2 ^ 5 + b2n x.halfAdded * 2 ^ 6 +
    b2n (decide (st = 6)) * 2 ^ 7 + b2n (decide (st = 5)) * 2 ^ 8 + b2n x.slipped * 2 ^ 9 + b2n x.blanked * 2 ^ 10 +
    x.range * 2 ^ 11
  let head := if valid then
      leBytes 8 code ++ leBytes 8 x.carr ++ leBytes 4 (s.f (GBB_CH_NCO_DOPP c)) ++ leBytes 2 (s.f (GBB_CH_STATUS_CN0 c)) ++
        leBytes 2 flags ++ leBytes 4 (min ((s.tim.edges - x.lockAt) / 100000) (2 ^ 32 - 1))
    else leBytes 22 0 ++ leBytes 2 st ++ leBytes 4 0
  (head ++ leBytes 1 x.slips ++ leBytes 1 (s.f (GBB_CH_CFG_SIGNAL c)) ++ leBytes 1 (s.f (GBB_CH_CFG_NUMBER c)) ++
    leBytes 1 (s.f (GBB_CH_CFG_STREAM c)) ++ leBytes 4 (fld x.dump 0 4) ++ leBytes 28 0, valid)

/-- SLIPPED and BLANKED count from this Snap on. -/
def State.chanClear (s : State) : State :=
  { s with gbb := { s.gbb with chan := s.gbb.chan.map (fun (e : Nat × Chan) =>
      (e.1, { e.2 with slipped := false, blanked := false })) } }

/-! ### The header (R239, R252) -/

/-- The entry of a system in the table of offsets. -/
def State.isbEntry (s : State) (y : Nat) : List Byte :=
  let b := Tab.get (fun _ => (none : Option Bcast)) s.gob.bcast y
  let v : Nat := match b with
    | some b => dField 32 true (dRat (b.ps * 104857600000000 + b.rate * Int.ofNat (s.now - b.ref)) 104857600000000)
    | none => 0
  let age := min ((s.tim.edges - Tab.get (fun _ => 0) s.gob.estAt y) / 100000) (2 ^ 32 - 1)
  leBytes 1 y ++ leBytes 1 (b2n b.isSome + s.f (GOB_ISB_EST_s_VALID y) * 2) ++ leBytes 2 0 ++ leBytes 4 v ++
    leBytes 4 (s.f (GOB_ISB_EST_s_EST y)) ++ leBytes 4 age

/-- Whether an island contributes: it is neither OFF nor FENCED (R224). -/
def State.contributes (s : State) (isl : Nat) : Bool := s.ist isl != 0 && s.ist isl != 5

/-- VALID_MASK: TIM, GBB, TAL, MCH, CAN, RAD and GOB in bit order. -/
def State.snapMask (s : State) : Nat :=
  1 + b2n (s.contributes iGBB) * 2 + b2n (s.contributes iTAL) * 4 + b2n (s.contributes iMCH) * 8 +
    b2n (s.contributes iCAN) * 16 + b2n (s.contributes iRAD) * 32 + 64

/-- What falls due at an edge: triggers, the flags STEPPED and DEFERRED, the number of a stack-wide Snap, and the floating
request that is taken. -/
structure SnapDue where
  triggers : Nat
  stepped : Bool
  deferred : Bool
  stack : Option Nat
  floating : Option FloatReq

/-- The triggers whose edge has come (R226, R232). -/
def State.snapDue (s : State) : SnapDue :=
  let g := s.gob
  let st := g.stack.filter (fun r => decide (r.time ≤ s.now))
  let soft := match g.soft with
    | some r => if r.time ≠ 0 ∧ r.time ≤ s.now then some r else none
    | none => none
  let fixed := decide (0 < g.due) || !st.isEmpty || soft.isSome
  let fl := match g.floating with
    | some r =>
      if r.join then (if fixed = true ∨ (s.fixedTimes = [] ∧ r.edge ≤ s.tim.edges) then some r else none)
      else if r.edge ≤ s.tim.edges then some r else none
    | none => none
  ⟨g.due ||| (if soft.isSome then 4 else 0) ||| (match fl with | some r => r.triggers | none => 0) |||
      (if st.isEmpty then 0 else 16) ||| (st.map StackReq.joined).foldl (· ||| ·) 0,
    g.dueStep || (match soft with | some r => r.stepped | none => false),
    (match fl with | some r => r.deferred | none => false),
    (st.map StackReq.num).head?, fl⟩

/-- The bytes of the header at the edge. -/
def State.snapHeader (s : State) (num bank valid : Nat) (d : SnapDue) : List Byte :=
  let flags := b2n d.deferred + b2n d.stepped * 2 + b2n d.stack.isSome * 4 + b2n s.gob.restarted * 8
  let cap := match d.floating with
    | some r => if bit d.triggers 1 then (r.capTicks, r.capSub, r.capInput) else (0, 0, 0)
    | none => (0, 0, 0)
  let own := match d.floating with
    | some r => if d.deferred then r.own else s.now
    | none => s.now
  let week : Int := 604800000000000
  leBytes 4 num ++ leBytes 1 1 ++ leBytes 1 bank ++ leBytes 2 flags ++ leBytes 2 d.triggers ++ leBytes 2 s.snapMask ++
    leBytes 4 (d.stack.getD 0) ++ leBytes 8 s.now ++ leBytes 4 (s.tim.time48 / 2 ^ 16 % 2 ^ 32) ++ leBytes 1 s.quality ++
    leBytes 3 0 ++ leBytes 8 own ++ leBytes 8 cap.1 ++ leBytes 1 cap.2.1 ++ leBytes 1 cap.2.2 ++ leBytes 2 valid ++
    leBytes 4 0 ++ leBytes 8 (s.gpsNs % week).toNat ++ leBytes 2 (unsigned 16 (s.gpsNs / week)) ++ leBytes 30 0 ++
    (List.range 6).flatMap (fun y => s.isbEntry (y + 1)) ++ leBytes 64 0

/-! ### The bank -/

/-- The bank that a Snap fills (R233). Before the first Snap both are free, and B0 is taken unless it is held. -/
def State.snapBank (s : State) : Nat :=
  let hold := s.f GOB_HOLD_BANK
  let last := s.f GOB_LAST_BANK_BANK
  if s.gob.num = 0 then (if hold = 1 then 1 else 0)
  else if hold = 2 - last then last else 1 - last

/-- A region of a bank, zeros where its island gives none. -/
def padTo (n : Nat) (b : List Byte) : List Byte := (b ++ List.replicate n 0#8).take n

/-- The fill is complete (R234 to R237). -/
def State.fillDone (s : State) : State :=
  match s.gob.fill with
  | none => s
  | some f =>
    let a := aBank f.bank
    let s := (s.wr (a + 0xAFFC) 4 f.num).wr (a + 4) 1 2
    let s := (((s.setF GOB_LAST_SNAP_NUM f.num).setF GOB_LAST_BANK_BANK f.bank).inc GOB_STAT_SNAPS_COUNT).setGob
      (fun g => { g with fill := none })
    if s.on GOB_SNAP_NOTICE_EN then
      s.notice (ep iGOB 0) (s.f GOB_SNAP_NOTICE_EP) (s.f GOB_SNAP_NOTICE_TAG) f.info false
    else s

/-- The requests whose edge is taken leave; a requester by register receives OK. -/
def State.snapTaken (s : State) (d : SnapDue) : State :=
  let softDone := match s.gob.soft with
    | some r => if r.time = 0 then bit d.triggers 3 else bit d.triggers 2
    | none => false
  let s := if softDone then
      (if (match s.gob.soft with | some r => r.register | none => false) then s.setF GOB_SOFT_STATUS cOK else s).setSoft none
    else s
  s.setGob (fun g => { g with
    due := 0, dueStep := false, restarted := false, lastEdge := some s.tim.edges
    stack := g.stack.filter (fun r => decide (s.now < r.time))
    floating := if d.floating.isSome then none else g.floating })

/-- A Snap at the present edge (R222 to R239). -/
def State.snapTake (s : State) (d : SnapDue) : State :=
  let s := s.fillDone
  let bank := s.snapBank
  let num := wrapInc 32 s.gob.num
  let chans := if s.contributes iGBB then (List.range 512).map s.chanSnap else []
  let valid := (chans.filter Prod.snd).length
  let region := fun (isl n : Nat) (b : List Byte) => if s.contributes isl then padTo n b else List.replicate n 0#8
  let head := s.snapHeader num bank valid d
  let body := padTo 0x8000 (chans.flatMap Prod.fst) ++
    region iTAL 0x400 ((List.range 16).flatMap s.talRegion) ++ region iMCH 0x400 s.mchRegion ++
    region iCAN 0x800 ((List.range 6).flatMap s.canRegion) ++ region iRAD 0x500 s.radRegion
  let a := aBank bank
  let old := s.rdBytes (a + 0xAFFC) 4
  let s := { s with mem := s.mem.filter (fun e => decide (e.1 < a) || decide (a + 0xB000 ≤ e.1)) }
  let s := ((s.wrBytes a head).wrBytes (a + 0x1000) body).wrBytes (a + 0xAFFC) old
  let info := num * 2 ^ 32 + d.triggers % 64 * 2 ^ 26 + bank * 2 ^ 25 + b2n d.deferred * 2 ^ 24 + s.snapMask * 2 ^ 16 +
    s.now % 2 ^ 16
  ((s.chanClear).snapTaken d).setGob (fun g => { g with num := num, fill := some ⟨bank, num, info⟩ })

/-! ### Meanings -/

/-- SNAP_EDGE: at the edge of one trigger or more. A periodic target that the edge has reached is one of them. -/
def execSnapEdge (s : State) : Res :=
  .next (if s.contributes iGOB = false then s
  else
    let s := s.snapPeriodic
    let d := s.snapDue
    if d.triggers = 0 then s else s.snapTake d)

/-- SNAP_FILL_DONE. -/
def execSnapFillDone (s : State) : Res := .next s.fillDone

end Sys2Proof.Machine
end

