-- ==== Sys2Proof/Machine/Late.lean ====
section
/-! DEFINITION. Rows that touch several islands: register writes, wakes, the end of a slice, the journal write and what
its acceptance completes, faults, millisecond marks, stamp reads. -/

namespace Sys2Proof.Machine

/-! ### Acceptance (R46, R47, R54, R484) -/

/-- The lowest numbers of items of a member whose acknowledgement is due. -/
def State.openNums (s : State) (pos : Nat) : List Nat :=
  let one : JWrite → Option Nat := fun w => match w.origin with | .bexlink p n _ => if p = pos then some n else none | _ => none
  s.memc.itemWrites.filterMap one ++ s.acts.filterMap (fun a => match a with | .item w _ => one w | _ => none)

/-- Acknowledgements that waited for earlier items of a member leave, in order (R483). -/
def State.ackFlush (s : State) (pos : Nat) : State :=
  let nums := s.openNums pos
  let go : Nat × Nat × Nat → Bool := fun h =>
    h.1 == pos && nums.all (fun n => decide (0 < (n + 2 ^ 32 - h.2.1) % 2 ^ 32) && decide ((n + 2 ^ 32 - h.2.1) % 2 ^ 32 < 2 ^ 31))
  let out := s.bxl.ackHold.filter go
  out.foldl (fun s h => s.bxlAck h.1 h.2.1 h.2.2) (s.setBxl (fun b => { b with ackHold := b.ackHold.filter (fun h => !go h) }))

/-- An item is accepted: its source has the acknowledgement. -/
def State.finishItem (s : State) (w : JWrite) (seq : Nat) : State :=
  match w.origin with
  | .can q _ => if s.can.old.contains (w.flow, seq) then s else s.rqAccepted q
  | .radio _ a sq _ => s.radAck a sq cOK
  | .host x tag k j => (s.setSession j k tag w.flow true).hstSubmitted x tag k cOK seq
  | .bexlink p n _ => (s.bxlAck p n cOK).ackFlush p
  | .task _ _ => s.ans cOK

/-- An item is refused while its record was being written (R47): nothing of it is stored. A Bexlink sender sends it again,
and what follows it of the same sender is taken up again. -/
def State.refuseItem (s : State) (w : JWrite) (st : Nat) : State :=
  match w.origin with
  | .can q _ => s.inc (CAN_RQq_DROPS_JOURNAL q)
  | .radio _ a sq _ => s.radAck a sq st
  | .host x tag k _ => s.hstSubmitted x tag k st 0
  | .bexlink p n _ =>
    let s := s.setPair p { s.pair p with accepted := (n + 2 ^ 32 - 1) % 2 ^ 32 }
    (s.setBxl (fun b => { b with ackHold := b.ackHold.filter (fun h => h.1 != p) })).bxlAck p n st
  | .task _ stamp =>
    let s := match stamp with
      | some x => { s with stamps := Tab.set (fun _ => []) s.stamps iDUG ((Tab.get (fun _ => []) s.stamps iDUG).erase x) }
      | none => s
    s.ans st

/-- What an acknowledgement of the Buddy completes. -/
def State.runAct (s : State) (a : BxlAct) : State :=
  match a with
  | .item w seq => s.finishItem w seq
  | .commit j => s.finishCommit j
  | .cancel i fl seq => s.finishCancel i fl seq
  | .desc _ _ => s
  | .update op txn x ack => s.updActDone op txn x ack
  | .scb ack => s.scbActDone ack

/-- Completions whose acknowledgement is here take effect, in order. -/
def State.runActs (s : State) : Nat → State
  | 0 => s
  | n + 1 =>
    match s.bxl.finish with
    | [] => s
    | a :: l => State.runActs ((s.setBxl (fun b => { b with finish := l })).runAct a) n

/-- The oldest item's record and retention entry become valid (R47, R48, R54). An ISOLATED member writes none (R496). -/
def State.journalDone (s : State) : State :=
  match s.memc.itemWrites with
  | [] => s
  | w :: ws =>
    if (s.memc.failA && s.memc.failB) || s.f BXL_STATUS_STATE == 3 then s
    else
      let s := { s with memc := { s.memc with itemWrites := ws } }
      let seq := (s.flow w.flow).nextAccept
      let r := (s.itemValid w).mirrorStart w.flow (.item w seq)
      if r.1 then r.2 else r.2.finishItem w seq

/-- A write to an MRAM device fails (R47, R553): the item being written is refused, and every item while a standalone module
lacks a device. -/
def State.mramFail (s : State) (dev addr status : Nat) : State :=
  if 2 ≤ dev ∨ (if dev = 0 then s.memc.failA else s.memc.failB) = true ∨ s.boot.held = true then s
  else
    let s := { s with memc := { s.memc with failA := s.memc.failA || dev == 0, failB := s.memc.failB || dev == 1 } }
    let s := s.stage 0x2B01 [dev, addr, status]
    if s.memc.failA && s.memc.failB then s.faultReset iMEM 8
    else
      let l := if s.inStack then s.memc.itemWrites.take 1 else s.memc.itemWrites
      let s := { s with memc := { s.memc with itemWrites := s.memc.itemWrites.drop l.length } }
      (l.foldl (fun s w => s.refuseItem w cBUSY) s).scbDeviceFail

/-! ### Wakes and slices -/

/-- A woken island is ON and serves what it held (R30, R31). -/
def State.wakeDone (s : State) (isl : Nat) : State :=
  if isIsland isl = false then s
  else if s.ist isl = 1 then
    (if s.held.any (fun h => heldIsl h == isl) then ((s.wakeFor isl).serveHeld isl).touch isl else s)
  else if s.ist isl = 0 ∧ s.f (ISL_PSTATE_REQ isl) ≠ 0 then
    let s := s.setF (ISL_PSTATE_STATE isl) 3
    ((({ s with idleSince := Tab.set (fun _ => 0) s.idleSince isl s.now }.islandLoad isl).capsApply).serveHeld isl).touch isl
  else s

/-- The slice under way ends (R531, R534, R537), with its signature if it failed. -/
def State.sliceEnd (s : State) (bad : Option Nat) : State :=
  match s.bst.run with
  | none => s
  | some (isl, sl, was) =>
    match bad with
    | some sig => s.sliceFail isl sl sig
    | none => (((s.sliceRestore isl was).sliceDone isl).inc BST_SLICES_COUNT).serveHeld isl

/-- A request of class P0 aborts the slice (R535). -/
def State.sliceAbort (s : State) : State :=
  match s.bst.run with
  | none => s
  | some (isl, sl, was) =>
    if s.held.any (fun h => heldIsl h == isl && s.heldClass h == 0) then
      (((s.sliceRestore isl was).inc BST_ABORTS_COUNT).sliceAgain isl sl).serveHeld isl
    else s

/-! ### Marks -/

/-- A millisecond mark (R176, R217, R292, R427): TIM latches device time, the ports check their streams, delayed
reacquisitions are placed, and accumulators count. -/
def State.msMark (s : State) (ms : List MarkIn) : State :=
  if s.tim.edges = 0 ∨ s.tim.edges % 100000 ≠ 0 ∨ s.tim.edges = s.tim.markAt then s
  else
    let s := { s with tim := { s.tim with markAt := s.tim.edges } }
    let s := ((s.setF TIM_MARK_TICKS s.now).setF TIM_MARK_FRAC_FRAC (s.tim.time48 / 2 ^ 16 % 2 ^ 32)).incW TIM_MARK_COUNT_COUNT
    let s := ms.foldl State.streamMark s
    let s := if s.contributes iGBB then s.reacqMark else s
    if s.talUp then s.talMark else s

/-! ### Meanings -/

/-- REGISTER_WRITE: of a register that has no row of its own. What reaches an island in SELFTEST is held (R534). -/
def execRegisterWrite (req addr size value : Nat) (s : State) : Res :=
  match regIsland addr with
  | some isl =>
    if s.holds isl then .next { s with held := s.held ++ [.write isl req addr size value] }
    else done (s.devWrite req addr size value)
  | none => done (s.devWrite req addr size value)

/-- ISLAND_WAKE_DONE. -/
def execIslandWakeDone (isl : Nat) (s : State) : Res := .next (s.wakeDone isl)

/-- SLICE_END. -/
def execSliceEnd (bad : Option Nat) (s : State) : Res := .next (s.sliceEnd bad)

/-- SLICE_ABORT. -/
def execSliceAbort (s : State) : Res := .next s.sliceAbort

/-- JOURNAL_WRITE_DONE. -/
def execJournalWriteDone (s : State) : Res := .next s.journalDone

/-- MRAM_DEVICE_FAIL: device, the address and the status of the failed write. -/
def execMramDeviceFail (dev addr status : Nat) (s : State) : Res := .next (s.mramFail dev addr status)

/-- ISLAND_FAULT_TRAP (R62): a parity or ECC trap, or a fault that an island has reported, reaches REF. -/
def execIslandFaultTrap (isl : Nat) (s : State) : Res :=
  .next (let s := { s with trapPend := s.trapPend.erase isl }
    if s.boot.held = true ∨ s.ist isl = 0 ∨ s.ist isl = 5 then s else s.fence isl 2)

/-- HEARTBEAT_MISSED: the third one in a row of an island that is awake; one in SELFTEST is not watched (R62, R533). -/
def execHeartbeatMissed (isl : Nat) (s : State) : Res :=
  .next (if s.boot.held = false ∧ (s.ist isl = 2 ∨ s.ist isl = 3) then s.fence isl 1 else s)

/-- FAULT_RESET: a fault in an island that is never fenced (R539). -/
def execFaultReset (cause isl : Nat) (s : State) : Res :=
  .next (if s.boot.held = true ∨ neverFenced isl = false then s else s.faultReset isl cause)

/-- ARBITRATION_LOST. -/
def execArbitrationLost (n : Nat) (s : State) : Res := .next (s.canEnd n .lost)

/-- PAUSE_EXPIRY. -/
def execPauseExpiry (p : Nat) (s : State) : Res :=
  .next (if (s.ethPort p).paused ≤ s.tim.edges then s.setEth p { s.ethPort p with paused := 0 } else s)

/-- MILLISECOND_MARK, with what each stream shows. -/
def execMillisecondMark (ms : List MarkIn) (s : State) : Res := .next (s.msMark ms)

/-- TX_STAMP_READ: a read of ETH_PTPp_TXTS_STAMP. -/
def execTxStampRead (req p : Nat) (s : State) : Res :=
  let r := s.devRead req (0x0200280110 + p * 0x40) 8
  .next (r.2.2.reply r.1 r.2.1)

/-- CAPTURE_STAMP_READ: a read of the FIFO of an input. -/
def execCaptureStampRead (req n : Nat) (s : State) : Res :=
  let r := s.devRead req (0x0200060810 + n * 0x20) 8
  .next (r.2.2.reply r.1 r.2.1)

end Sys2Proof.Machine
end

