-- ==== Sys2Proof/Machine/EngTok.lean ====
section
/-! DEFINITION. Token and control instructions (R97 to R118), and the Dugout's answer to a context that asked it. -/

namespace Sys2Proof.Machine

/-! ### Fields and formats -/

/-- The fields of a T word (R84). -/
def wFn6 (w : BitVec 32) : Nat := bits w.toNat 31 26
def wM (w : BitVec 32) : Bool := bit w.toNat 25
def wX (w : BitVec 32) : Nat := bits w.toNat 24 22

/-- Whether the fields a token instruction does not use are 0 (R84, R97): rd, ra, rb, x, M. -/
def tokFields (w : BitVec 32) (rd ra rb x m : Bool) : Bool :=
  (rd || wRd w == 0) && (ra || wRa w == 0) && (rb || wRb w == 0) && (x || wX w == 0) && (m || !wM w)

/-- The words of the row of function fn of the token instructions, and those of a reserved function (R86, R97). -/
def mineTok (w : BitVec 32) (fn : Nat) (op : Nat) : Bool := op == 0x40 && (wFn6 w == fn || decide (0x0D < wFn6 w))

/-- The same for a function that has two forms by M. -/
def mineTokM (w : BitVec 32) (fn : Nat) (m : Bool) (op : Nat) : Bool :=
  op == 0x40 && ((wFn6 w == fn && wM w == m) || decide (0x0D < wFn6 w))

/-- The words of MFC (0) and MTC (1), and the reserved ones of the control opcode (R86, R110). -/
def mineCtl (w : BitVec 32) (fn : Nat) (op : Nat) : Bool :=
  op == 0x48 && (wFn3 w == fn || decide (3 ≤ wFn3 w) || (wFn3 w == 2 && decide (6 ≤ bits w.toNat 31 20)))

/-- The words of SYS function k, and the reserved ones. -/
def mineSys (w : BitVec 32) (k : Nat) (op : Nat) : Bool :=
  op == 0x48 && ((wFn3 w == 2 && bits w.toNat 31 20 == k) || decide (3 ≤ wFn3 w) ||
    (wFn3 w == 2 && decide (6 ≤ bits w.toNat 31 20)))

def trapTok (t : Nat) (w : BitVec 32) : ERes := .trap t 0 w.toNat

/-- A token instruction of function fn whose fields are right runs `body`; ILLEGAL otherwise (R86). -/
def tokBody (w : BitVec 32) (fn : Nat) (ok : Bool) (body : ERes) : ERes :=
  if wFn6 w ≠ fn ∨ ok = false then ill w else body

/-- A SYS instruction (R110). -/
def sysBody (w : BitVec 32) (k : Nat) (body : ERes) : ERes :=
  if wFn3 w ≠ 2 ∨ bits w.toNat 31 20 ≠ k ∨ wRd w ≠ 0 ∨ wRa w ≠ 0 then ill w else body

/-- ATOMIC inside a section (R117). -/
def notAtomic (w : BitVec 32) (x : Ctx) (body : ERes) : ERes := if x.atomic then trapTok tATOMIC w else body

/-- FLOW_RULE in a flow-bound task (R99). -/
def unflowedOnly (w : BitVec 32) (x : Ctx) (body : ERes) : ERes := if x.bound then trapTok tFLOW_RULE w else body

/-- A SYNC.M (R79, R83): a deferred refusal is taken in place of the instruction. -/
def State.syncM (s : State) (e c : Nat) (body : ERes) : ERes :=
  if (s.ctx e c).deferred = [] then body else .stall ((s.takeDeferred e c).boundary e c)

/-- One more entry of the outbox, or OUTBOX_FULL (R98). -/
def State.outboxPut (s : State) (e c : Nat) (w : BitVec 32) (x : Ctx) (o : Out) : ERes :=
  if 16 ≤ x.outbox.length then trapTok tOUTBOX_FULL w
  else s.goNext e c { x with outbox := x.outbox ++ [o] }

/-- EMIT and SENDQ: into the outbox, or with D at once after a SYNC.M (R98, R99). -/
def State.output (s : State) (e c : Nat) (w : BitVec 32) (x : Ctx) (o : Out) : ERes :=
  if wM w then
    notAtomic w x (unflowedOnly w x (s.syncM e c
      (.go (s.release (ep (iENG e) c) none (some (x.inst, x.gen, 0)) o) (x.pc + 4))))
  else s.outboxPut e c w x o

/-! ### Token instructions -/

/-- TAKE. -/
def execTake (e : Nat) (w : BitVec 32) (s : State) : Res :=
  .next (s.engExec e w (mineTok w 0x00) (fun s c x =>
    tokBody w 0x00 (tokFields w true false false true false)
      (let k := x.rk (wX w)
       if k.full = false then trapTok tOPERAND_EMPTY w
       else s.goNext e c ((x.wk (wX w) KSlot.none).wg (wRd w) (BitVec.ofNat 64 k.data)))))

/-- TAGK. -/
def execTagk (e : Nat) (w : BitVec 32) (s : State) : Res :=
  .next (s.engExec e w (mineTok w 0x01) (fun s c x =>
    tokBody w 0x01 (tokFields w true false false true false)
      (let k := x.rk (wX w)
       s.goNext e c (x.wg (wRd w) (if k.full then BitVec.ofNat 64 (2 ^ 32 + k.tag % 2 ^ 32) else 0)))))

/-- EMIT and EMIT.D. -/
def execEmit (e : Nat) (w : BitVec 32) (s : State) : Res :=
  .next (s.engExec e w (mineTok w 0x02) (fun s c x =>
    tokBody w 0x02 (tokFields w false true true true true)
      (let a := (x.rg (wRa w)).toNat
       let b := (x.rg (wRb w)).toNat
       if 2 ^ 16 ≤ a ∨ 2 ^ 32 ≤ b then ill w
       else s.output e c w x ⟨a, 1, 0, b, (x.ro (wX w)).toNat⟩)))

/-- SENDQ and SENDQ.D. -/
def execSendq (e : Nat) (w : BitVec 32) (s : State) : Res :=
  .next (s.engExec e w (mineTok w 0x03) (fun s c x =>
    tokBody w 0x03 (tokFields w false true false true true)
      (let a := (x.rg (wRa w)).toNat
       if 2 ^ 11 ≤ a ∨ bits a 7 6 ≠ 0 then ill w
       else s.output e c w x ⟨bits a 5 0, 2, bits a 10 8, 0, (x.ro (wX w)).toNat⟩)))

/-- A queue read that takes nothing (R103). -/
def State.recvNone (s : State) (e c : Nat) (w : BitVec 32) (x : Ctx) (code : Nat) : ERes :=
  s.goNext e c { x.wg (wRd w) 0 with qstat := 2 ^ 63 + code }

/-- The status of a read of queue n by a task (R97, R103, R166). -/
def State.recvStatus (s : State) (inst a : Nat) : Nat :=
  if 64 ≤ a then cRANGE
  else if s.on (QUE_Qn_CFG_ENABLE a) = false then cNO_ROUTE
  else if s.on (QUE_Qn_CFG_ANY_READER a) = false ∧ s.f (QUE_Qn_READER_INSTANCE a) ≠ inst then cNOT_OWNER
  else cOK

/-- A word taken by a read (R103, R104, R165, R170): held for a flow-bound task. -/
def State.recvTake (s : State) (e c n : Nat) (w : BitVec 32) (x : Ctx) (q : QEnt) : ERes :=
  let qu := s.q n
  let held := if x.bound then qu.held ++ [⟨q.prio, q.data, q.order, e, c⟩] else qu.held
  let s := s.setQ n { qu with words := qu.words.erase q, held := held, staleStart := s.now }
  s.goNext e c { x.wg (wRd w) (BitVec.ofNat 64 q.data) with qstat := qstatWord q.prio }

/-- RECVQ and RECVQ.W. While QUE runs a slice the read waits (R534). -/
def execRecvq (e : Nat) (w : BitVec 32) (s : State) : Res :=
  .next (s.engExec e w (mineTok w 0x04) (fun s c x =>
    tokBody w 0x04 (tokFields w true true false false true)
      (notAtomic w x
        (let a := (x.rg (wRa w)).toNat
         if x.bound = true ∧ 16 ≤ s.heldCount e c then trapTok tFLOW_RULE w
         else if s.ist iQUE = 4 then .stall s
         else
          let s := (s.wakeFor iQUE).touch iQUE
          let k := s.recvStatus x.inst a
          if k ≠ cOK then s.recvNone e c w x k
          else match (s.q a).best with
          | some q => s.recvTake e c a w x q
          | none =>
            if wM w = false then s.recvNone e c w x cOK
            else
              let s := (s.setCtx e c x).retire e c (x.pc + 4) false
              let s := s.setCtx e c { s.ctx e c with st := 3, recvRd := wRd w, recvQ := a }
              .left (s.setQ a { s.q a with waits := (s.q a).waits ++ [⟨e, c, x.cls⟩] })))))

/-- SPAWN: the context asks the Dugout and stalls (R106). -/
def execSpawn (e : Nat) (w : BitVec 32) (s : State) : Res :=
  .next (s.engExec e w (mineTok w 0x05) (fun s c x =>
    tokBody w 0x05 (tokFields w true true false false false)
      (notAtomic w x
        (let a := (x.rg (wRa w)).toNat
         if 16 ≤ x.outbox.length then trapTok tOUTBOX_FULL w
         else if 2 ^ 16 ≤ a then s.goNext e c (x.wg (wRd w) (BitVec.ofNat 64 (2 ^ 63 + cRANGE)))
         else .stall (s.setCtx e c { x with ask := some (.spawn (wRd w) a) })))))

/-- CANCEL: the context asks the Dugout and stalls (R107). -/
def execCancel (e : Nat) (w : BitVec 32) (s : State) : Res :=
  .next (s.engExec e w (mineTok w 0x06) (fun s c x =>
    tokBody w 0x06 (tokFields w true true false false false)
      (notAtomic w x
        (let a := (x.rg (wRa w)).toNat
         if 2 ^ 20 ≤ a then s.goNext e c (x.wg (wRd w) (BitVec.ofNat 64 cRANGE))
         else .stall (s.setCtx e c { x with ask := some (.cancel (wRd w) (bits a 15 0) (bits a 19 16)) })))))

/-- The answer reaches the engine: rd is written and the instruction retires. -/
def State.answered (s : State) (e c rd v : Nat) (outs : List Out) : State :=
  let x := s.ctx e c
  let pc := x.pc + 4
  let s := s.setCtx e c { x.wg rd (BitVec.ofNat 64 v) with ask := none, outbox := x.outbox ++ outs }
  (s.retire e c pc false).boundary e c

/-- DUGOUT_ANSWER: the Dugout answers the SPAWN or CANCEL that a context waits on (R106, R107). Cancelling the issuing
instance ends it: there is then no context to answer. -/
def execDugoutAnswer (e c : Nat) (s : State) : Res :=
  .next (if s.ist iDUG = 4 ∨ s.engOn e = false then s
  else
    let s' := s.touch iDUG
    match (s.ctx e c).ask with
    | none => s
    | some (.spawn rd tpl) =>
      let r := s'.spawnReserve tpl
      (match r.2.1 with
       | some _ => r.2.2.answered e c rd r.1 [⟨ep iDUG 0, 3, 0, r.1, 0⟩]
       | none => r.2.2.answered e c rd r.1 [])
    | some (.cancel rd i gen) =>
      let r := s'.cancelInst i gen
      if (r.2.ctx e c).ask = none then r.2 else r.2.answered e c rd r.1 [])

/-- An activation ends with its outputs released (R99, R100): of a flow-bound task by a commit record, otherwise at
once. -/
def State.commitEnd (s : State) (e c : Nat) (ends : Bool) : ERes :=
  let s := s.retire e c ((s.ctx e c).pc + 4) false
  let x := s.ctx e c
  let s := s.setCtx e c { x with st := 4, outbox := [], deferred := [] }
  if x.bound then
    let s := s.setInst x.inst { s.inst x.inst with st := 5 }
    .left { s with memc := { s.memc with
      commitJobs := s.memc.commitJobs ++ [⟨e, c, x.inst, x.flow, x.seq, x.outbox, ends, s.now⟩] } }
  else .left ((s.releaseAll (ep (iENG e) c) x.inst x.gen 0 x.outbox).endReleased x.inst 0 ends)

/-- COMMIT without E (R99, R100). -/
def execCommit (e : Nat) (w : BitVec 32) (s : State) : Res :=
  .next (s.engExec e w (mineTokM w 0x07 false) (fun s c x =>
    tokBody w 0x07 (tokFields w false false false false false)
      (notAtomic w x (unflowedOnly w x (s.syncM e c
        (let s := s.setCtx e c { x with outbox := [] }
         .go (s.releaseAll (ep (iENG e) c) x.inst x.gen 0 x.outbox) (x.pc + 4)))))))

/-- COMMIT.E. -/
def execCommitE (e : Nat) (w : BitVec 32) (s : State) : Res :=
  .next (s.engExec e w (mineTokM w 0x07 true) (fun s c x =>
    tokBody w 0x07 (tokFields w false false false false true)
      (notAtomic w x (s.syncM e c (s.commitEnd e c true)))))

/-- YIELD. -/
def execYield (e : Nat) (w : BitVec 32) (s : State) : Res :=
  .next (s.engExec e w (mineTok w 0x08) (fun s c x =>
    tokBody w 0x08 (tokFields w false false false false false)
      (notAtomic w x (s.syncM e c (s.commitEnd e c false)))))

/-- The request of a SNAP instruction at GOB (R33, R108). -/
def State.snapAsk (s : State) (t : Nat) : Nat × State :=
  match s.islandRefuses iGOB 0x20 with
  | some k => (k, s)
  | none =>
    let r := (s.wakeFor iGOB).softRequest t false
    (r.1, r.2.touch iGOB)

/-- SNAP. -/
def execSnap (e : Nat) (w : BitVec 32) (s : State) : Res :=
  .next (s.engExec e w (mineTok w 0x09) (fun s c x =>
    tokBody w 0x09 (tokFields w true true false false false)
      (notAtomic w x
        (let r := s.snapAsk (x.rg (wRa w)).toNat
         r.2.goNext e c (x.wg (wRd w) (BitVec.ofNat 64 r.1))))))

/-- STOP: the Whistle, in every mode and state (R109). -/
def execStop (e : Nat) (w : BitVec 32) (s : State) : Res :=
  .next (s.engExec e w (mineTok w 0x0A) (fun s c x =>
    tokBody w 0x0A (tokFields w false true false false false)
      ((s.raise 5 (bits (x.rg (wRa w)).toNat 7 0)).goNext e c x)))

/-- MTO. -/
def execMto (e : Nat) (w : BitVec 32) (s : State) : Res :=
  .next (s.engExec e w (mineTok w 0x0B) (fun s c x =>
    tokBody w 0x0B (tokFields w false true false true false)
      (s.goNext e c (x.wo (wX w) (x.rg (wRa w))))))

/-- MFO. -/
def execMfo (e : Nat) (w : BitVec 32) (s : State) : Res :=
  .next (s.engExec e w (mineTok w 0x0C) (fun s c x =>
    tokBody w 0x0C (tokFields w true false false true false)
      (s.goNext e c (x.wg (wRd w) (x.ro (wX w))))))

/-- ABORT (R114), with the cause of the trap that the handler serves. -/
def execAbort (e : Nat) (w : BitVec 32) (s : State) : Res :=
  .next (s.engExec e w (mineTok w 0x0D) (fun s c x =>
    tokBody w 0x0D (tokFields w false false false false false)
      (.left ((s.retire e c (x.pc + 4) x.atomic).abortCtx e c (if x.handler then x.trapCause % 256 else 0)
        x.trapPc false))))

/-! ### Control instructions -/

/-- The control registers as MFC reads them (R111); none for a number that is not listed. CYCLE is timing, and TIME may
lie up to 2 ticks off: free values (log entries 4, 52). -/
def State.ctlRead (s : State) (e c : Nat) (x : Ctx) (n : Nat) : Option (Nat × State) :=
  match n with
  | 0x000 => some (c * 16 + e, s)
  | 0x001 => some (x.gen * 65536 + x.inst, s)
  | 0x002 => some (b2n x.bound * 2 ^ 31 + x.flow % 4096, s)
  | 0x003 => some (x.seq, s)
  | 0x004 => some (x.cls, s)
  | 0x005 => some (x.winmask, s)
  | 0x006 => some (x.attempt, s)
  | 0x008 => some (x.left * 256 + b2n x.atomic * 2 + b2n x.handler, s)
  | 0x010 => some (x.fcsr, s)
  | 0x011 => some (x.qstat, s)
  | 0x018 => some (x.outbox.length, s)
  | 0x020 => some (x.trapPc, s)
  | 0x021 => some (x.trapCause, s)
  | 0x022 => some (x.trapValue, s)
  | 0x030 => some (s.free 64)
  | 0x031 => some (x.retired, s)
  | 0x032 =>
    let r := s.free 3
    some ((s.now + r.1 % 5 - 2) % 2 ^ 64, r.2)
  | _ => none

/-- MFC. -/
def execMfc (e : Nat) (w : BitVec 32) (s : State) : Res :=
  .next (s.engExec e w (mineCtl w 0) (fun s c x =>
    if wFn3 w ≠ 0 ∨ wRa w ≠ 0 then ill w
    else match s.ctlRead e c x (bits w.toNat 31 20) with
      | none => ill w
      | some r => r.2.goNext e c (x.wg (wRd w) (BitVec.ofNat 64 r.1))))

/-- MTC. -/
def execMtc (e : Nat) (w : BitVec 32) (s : State) : Res :=
  .next (s.engExec e w (mineCtl w 1) (fun s c x =>
    let a := (x.rg (wRa w)).toNat
    let n := bits w.toNat 31 20
    if wFn3 w ≠ 1 ∨ wRd w ≠ 0 then ill w
    else if n = 0x010 then
      if 5 ≤ a % 8 then ill w else s.goNext e c { x with fcsr := a &&& 0x1F7 }
    else if n = 0x020 ∧ x.handler = true then s.goNext e c { x with trapPc := a }
    else ill w))

/-- SYNC.M: every store of the model is acknowledged when it is made; refusals that were deferred are taken (R79, R83). -/
def execSyncM (e : Nat) (w : BitVec 32) (s : State) : Res :=
  .next (s.engExec e w (mineSys w 0) (fun s c x => sysBody w 0 (notAtomic w x (s.syncM e c (s.goNext e c x)))))

/-- SYNC.I: the instruction cache of the engine is invalidated (R80). -/
def execSyncI (e : Nat) (w : BitVec 32) (s : State) : Res :=
  .next (s.engExec e w (mineSys w 1) (fun s c x =>
    sysBody w 1 (notAtomic w x ((s.setEng e { s.engSt e with icache := [] }).goNext e c x))))

/-- ATOM.B (R116). -/
def execAtomB (e : Nat) (w : BitVec 32) (s : State) : Res :=
  .next (s.engExec e w (mineSys w 2) (fun s c x =>
    sysBody w 2 (notAtomic w x (s.goNext e c { x with atomic := true, left := 64 }))))

/-- ATOM.E (R116, R117). -/
def execAtomE (e : Nat) (w : BitVec 32) (s : State) : Res :=
  .next (s.engExec e w (mineSys w 3) (fun s c x =>
    sysBody w 3 (if x.atomic then s.goNext e c { x with atomic := false, left := 0 } else trapTok tATOMIC w)))

/-- TRET: to TRAP_PC in task mode (R76, R110, R113). -/
def execTret (e : Nat) (w : BitVec 32) (s : State) : Res :=
  .next (s.engExec e w (mineSys w 4) (fun s c x =>
    sysBody w 4
      (if x.handler = false then ill w
       else if x.trapPc % 4 ≠ 0 then .trap tALIGN 0 x.trapPc
       else .go (s.setCtx e c { x with handler := false }) x.trapPc)))

/-- BRK. -/
def execBrk (e : Nat) (w : BitVec 32) (s : State) : Res :=
  .next (s.engExec e w (mineSys w 5) (fun _ _ _ => sysBody w 5 (trapTok tBREAK w)))

end Sys2Proof.Machine
end

