-- ==== Sys2Proof/Machine/Lib.lean ====
section
/-! DEFINITION. The positioning library (R269 to R287): what its tasks leave in the machine. What its filters, its coder of
RTCM bodies and its searches find is an operand of the row (log entry 53). -/

namespace Sys2Proof.Machine

def State.setLib (s : State) (f : LibSt → LibSt) : State := { s with lib := f s.lib }

/-- An integer in a field of w bits; a value beyond the field is open (log entry 18). -/
def fieldInt (w : Nat) (sgn : Bool) (i : Int) : Nat :=
  let lo : Int := if sgn then -Int.ofNat (2 ^ (w - 1)) else 0
  let hi : Int := if sgn then Int.ofNat (2 ^ (w - 1)) - 1 else Int.ofNat (2 ^ w) - 1
  if lo ≤ i ∧ i ≤ hi then unsigned w i else (Config.beyondField w (unsigned 64 i)).toNat

/-! ### The configuration record (R269) -/

def LibSt.mode (l : LibSt) (k : Nat) : Bool := bit l.modes k
def LibSt.fld (l : LibSt) (o n : Nat) : Nat := Sys2Proof.fld l.cfg o n

/-- Whether a number lies in a range. -/
def within (lo hi n : Nat) : Bool := decide (lo ≤ n) && decide (n ≤ hi)

/-- Whether the record's values are such as R269 admits, with the Snap period in ms and the mean of the first fixes in
0.1 mm. -/
def libCfgOk (b : List Byte) (period : Nat) (x y z : Int) : Bool :=
  let f := fld b
  let modes := f 0 1
  let axis := fun (o : Nat) (m : Int) => (signed 64 (f o 8) - m) * (signed 64 (f o 8) - m)
  modes < 16 && (!bit modes 3 || bit modes 1) && f 1 1 < 4 && f 2 1 < 4 && (!bit modes 3 || f 1 1 != f 2 1) &&
    f 3 1 < 128 && f 4 2 < 4096 && f 6 2 ≤ 9000 && decide (axis 8 x + axis 16 y + axis 24 z ≤ 1000000000000) &&
    (f 34 2 == 0 || (period != 0 && f 34 2 % period == 0)) && f 36 1 ≤ 60 && f 37 1 ≤ 60 && within 300 10000 (f 38 2) &&
    within 1 60 (f 44 1) && f 45 1 ≤ 64 && within 1 16383 (f 46 2) && f 48 8 < 2 ^ 48 && f 56 8 < 2 ^ 48 &&
    (List.range (f 45 1)).all (fun r => decide (f (64 + 8 * r) 8 < 2 ^ 18))

/-- The library starts with the record at addr and its report ring at `ring` (R269). A refused record leaves a software
record with RANGE, whose TYPE the spec leaves open. -/
def State.libStart (s : State) (e addr ring : Nat) (x y z : Int) : State :=
  let req := ep (iENG e) 0
  let h := s.memRead req addr 64
  let r := h.2.2.memRead req addr (64 + 8 * fld h.2.1 45 1)
  let s := r.2.2
  if h.1 = cOK ∧ r.1 = cOK ∧ libCfgOk r.2.1 (s.f GOB_PERIOD_MS) x y z = true then
    s.setLib (fun _ => { LibSt.reset with cfg := r.2.1, modes := fld r.2.1 0 1, reports := ring })
  else
    let t := s.free 15
    (t.2.setLib (fun _ => LibSt.reset)).stageRec ⟨0x8000 + t.1, s.now, cRANGE, true, []⟩

/-! ### Base mode (R273, R275) -/

/-- An RTCM 3.3 frame of a message body (R273). -/
def rtcmFrame (body : List Byte) : List Byte :=
  let h := leBytes 1 0xD3 ++ beBytes 2 (body.length % 1024) ++ body
  h ++ beBytes 3 (crc24q h)

/-- The messages of base output in the order of R273, with the SYSTEMS bit an MSM7 belongs to. -/
def baseOrder : List (Nat × Option Nat) :=
  [(1077, some 0), (1087, some 1), (1097, some 2), (1107, some 6), (1117, some 4), (1127, some 3), (1005, none),
    (1006, none), (1230, none)]

/-- Whether base output carries a message (R269, R273). -/
def LibSt.sends (l : LibSt) (n : Nat) (sys : Option Nat) : Bool :=
  match sys with
  | some k => bit (l.fld 3 1) k && l.fld 34 2 != 0
  | none =>
    if n = 1230 then l.fld 37 1 != 0
    else l.fld 36 1 != 0 && ((n == 1005) == (l.fld 32 2 == 0))

/-- The frames of an epoch, in order. -/
def LibSt.frames (l : LibSt) (msgs : List (Nat × List Byte)) : List (List Byte) :=
  baseOrder.filterMap (fun p =>
    if l.sends p.1 p.2 then (msgs.find? (fun m => m.1 == p.1 && decide (m.2.length < 1024))).map (fun m => rtcmFrame m.2)
    else none)

/-- The frames that fit in 4 KiB: the later ones are dropped (R275). -/
def fitFrames : Nat → List (List Byte) → List (List Byte)
  | _, [] => []
  | n, f :: l => if n + f.length ≤ 4096 then f :: fitFrames (n + f.length) l else []

/-- A base epoch (R275). -/
def State.baseEpoch (s : State) (e buf : Nat) (msgs : List (Nat × List Byte)) : State :=
  let all := s.lib.frames msgs
  if s.lib.mode 0 = false ∨ all = [] then s
  else
    let fit := fitFrames 0 all
    let s := if fit.length < all.length then s.setLib (fun l => { l with cut := l.cut + 1 }) else s
    let b := fit.flatten
    let s := (s.memWrite (ep (iENG e) 0) buf b).2
    let o := s.lib.fld 48 8
    s.send ⟨bits o 15 0, bits o 47 16, buf % 2 ^ 40 + b.length * 2 ^ 40, ep (iENG e) 0, none, none⟩

/-! ### Corrections (R276) -/

/-- The RTCM messages that local RTK takes. -/
def corrAccepted (n : Nat) : Bool :=
  n == 1005 || n == 1006 || n == 1230 ||
    [1070, 1080, 1090, 1100, 1110, 1120].any (fun b => within (b + 4) (b + 7) n)

/-- Whether a message is one of MSM4 to MSM7: it carries a base epoch. -/
def corrMsm (n : Nat) : Bool := corrAccepted n && n != 1005 && n != 1006 && n != 1230

/-- Whether a frame has the transport layer of RTCM 3.3 and its CRC-24Q is right. -/
def rtcmOk (f : List Byte) : Bool :=
  let n := beValue ((f.drop 1).take 2)
  fld f 0 1 == 0xD3 && n < 1024 && f.length == n + 6 && beValue (f.drop (n + 3)) == crc24q (f.take (n + 3))

/-- A correction frame: held as the newest of its number, or discarded and counted. -/
def State.corrFrame (s : State) (f : List Byte) : State :=
  let n := beValue ((f.drop 3).take 2) / 16
  if s.lib.mode 1 = false then s
  else if rtcmOk f ∧ corrAccepted n = true then
    s.setLib (fun l => { l with corr := l.corr.filter (fun c => c.1 != n) ++ [(n, s.now, f)] })
  else s.setLib (fun l => { l with discarded := l.discarded + 1 })

/-! ### Local RTK (R270, R276 to R280) -/

/-- P_BOOT ≥ 0.999, in binary64. -/
def pBootFixed : Nat := 0x3FEFF7CED916872B

/-- TYPE of a solution (R280): from the best one formed, RATIO × 100, P_BOOT and BUDGET_HIT. -/
def solType (best ratio pBoot : Nat) (budget headOk : Bool) : Nat :=
  if best < 3 then best
  else if 300 ≤ ratio ∧ dLe pBootFixed pBoot = true ∧ budget = false ∧ headOk = true then 4 else 3

/-- The bank that holds Snap `num`, by its header. -/
def State.bankOf (s : State) (num : Nat) : Option Nat := firstIdx 2 (fun b => num != 0 && s.rd (aBank b) 4 == num)

/-- How far the GPS view at a bank's edge lies from its nominal epoch, in ns (R270). -/
def State.gridError (s : State) (bank : Nat) : Nat :=
  let p := s.f GOB_PERIOD_MS * 1000000
  let t := s.rd (aBank bank + 56) 8
  if p = 0 then 0 else min (t % p) (p - t % p)

/-- A report (R279): fields that a solution of this TYPE does not have are open. -/
def State.report (s : State) (x : RtkIn) : List Byte × State :=
  let l := s.lib
  let held := l.corr.any (fun c => corrMsm c.1)
  let age := if held then x.age else none
  let limit := l.fld 44 1 * 1000
  let fresh := match age with | some a => decide (a ≤ limit) | none => false
  let best := if fresh then x.best else min x.best 1
  let heading := l.mode 3 && x.headOk
  let typ := solType best x.ratio x.pBoot x.budget (!l.mode 3 || x.headOk)
  let r := s.free 288
  let open' := fun (o n : Nat) => leBytes n (r.1 / 2 ^ (8 * o))
  let stale := match age with | some a => decide (limit < a) | none => bit r.1 280
  let vel := fieldInt 16 true
  let pos := leBytes 8 x.lat ++ leBytes 8 x.lon ++ leBytes 4 (fieldInt 32 true x.height) ++ leBytes 2 (min x.sigH 65535) ++
    leBytes 2 (min x.sigV 65535) ++ leBytes 2 (vel x.velE) ++ leBytes 2 (vel x.velN) ++ leBytes 2 (vel x.velU)
  let head := leBytes 2 x.heading ++ leBytes 2 (fieldInt 16 true x.pitch) ++ leBytes 2 (fieldInt 16 false x.sigHead)
  (leBytes 4 x.num ++ leBytes 1 typ ++ leBytes 1 x.nsat ++
    leBytes 2 (b2n heading + b2n stale * 2 + b2n (s.tim.qst == 4) * 4 + b2n (x.budget && typ == 4) * 8) ++
    leBytes 8 x.epoch ++ (if typ = 0 then open' 0 30 else pos) ++ (if heading then head else open' 0 6) ++
    (match age with | some a => leBytes 2 (min a 65535) | none => open' 30 2) ++ leBytes 2 (min x.ratio 65535) ++
    leBytes 2 x.baseId ++ leBytes 6 0, r.2)

/-- Local RTK solves an epoch (R270, R279). An epoch off the grid is skipped and counted. -/
def State.rtkSolve (s : State) (e : Nat) (x : RtkIn) : State :=
  if s.lib.mode 1 = false then s
  else match s.bankOf x.num with
  | none => s
  | some b =>
    if 1000 < s.gridError b then s.setLib (fun l => { l with skipped := l.skipped + 1 })
    else
      let r := s.report x
      let a := s.lib.reports + 64 * (s.lib.nextReport % 16)
      let s := (r.2.memWrite (ep (iENG e) 0) a r.1).2
      let s := s.setLib (fun l => { l with nextReport := l.nextReport + 1 })
      let o := s.lib.fld 56 8
      s.send ⟨bits o 15 0, bits o 47 16, a, ep (iENG e) 0, none, none⟩

/-! ### Central solve (R281 to R287) -/

/-- The system of a signal code (R184). -/
def signalSys (c : Nat) : Nat :=
  if c < 4 then 0 else if c < 7 then 1 else if c < 0x0B then 2 else if c < 0x0F then 3 else if c < 0x13 then 4
  else if c = 0x13 then 5 else if c = 0x14 then 6 else 7

/-- Whether a satellite block's values are such as R282 admits. -/
def satOk (w : Nat) : Bool :=
  let sys := bits w 2 0
  let n := bits w 10 3
  let fcn := bits w 14 11
  (match sys with
   | 0 => within 1 63 n
   | 1 => within 1 24 n
   | 2 => within 1 50 n
   | 3 => within 1 63 n
   | 4 => within 193 202 n
   | 5 => within 1 14 n
   | 6 => within 120 158 n
   | _ => false) && (if sys = 1 then within 1 14 fcn else fcn == 0)

/-- Whether the signal entries of the satellites belong to their systems (R283): entries left, satellites left. -/
def sigsOk (sigs : List Nat) : List Nat → Bool
  | [] => true
  | w :: l =>
    let n := bits w 16 15
    (sigs.take n).all (fun g => signalSys (bits g 4 0) == bits w 2 0) && sigsOk (sigs.drop n) l

/-- The words of a part. -/
def cofSats (p : List Byte) : List Nat := (List.range (fld p 10 1)).map (fun k => fld p (16 + 4 * k) 4)
def cofSigs (p : List Byte) : List Nat :=
  (List.range (fld p 11 1)).map (fun k => fld p (16 + 4 * fld p 10 1 + 8 * k) 8)
/-- Its epoch: week and ms of the week. -/
def cofEpoch (p : List Byte) : Nat × Nat := (fld p 8 2, fld p 4 4)

def LibRobot.fresh : LibRobot := ⟨none, 0, [], none, none⟩
def State.robot (s : State) (r : Nat) : LibRobot := Tab.get (fun _ => LibRobot.fresh) s.lib.robots r
def State.setRobot (s : State) (r : Nat) (x : LibRobot) : State :=
  s.setLib (fun l => { l with robots := Tab.set (fun _ => LibRobot.fresh) l.robots r x })

/-- GPS time of an epoch in ms, from week and ms. -/
def epochMs (p : Nat × Nat) : Int := Int.ofNat p.1 * 604800000 + Int.ofNat p.2

/-- GPS time now in ns, with the week in 16 bits. -/
def State.gpsWeekNs (s : State) : Int := s.gpsNs % (65536 * 604800000000000)

/-- The parts of the epoch of a part gathered before it. -/
def LibRobot.before (x : LibRobot) (p : List Byte) : List (Nat × List Byte) :=
  if x.epoch = some (cofEpoch p) then x.parts.filter (fun q => q.1 != bits (fld p 1 1) 3 0) else []

/-- The check of a part (R284). -/
def State.cofCheck (s : State) (x : LibRobot) (p : List Byte) : Nat :=
  let len := fld p 2 2
  let sats := cofSats p
  let sigs := cofSigs p
  let count := bits (fld p 1 1) 7 4
  let all := p :: (x.before p).map Prod.snd
  let t := epochMs (cofEpoch p)
  if 20 ≤ len ∧ len ≤ p.length ∧ fld p (len - 4) 4 ≠ crc32c (p.take (len - 4)) then cINTEGRITY
  else if len ≠ 20 + 4 * fld p 10 1 + 8 * fld p 11 1 ∨ len ≠ p.length then cLENGTH
  else if fld p 0 1 ≠ 0x11 ∨ fld p 12 2 / 4 ≠ 0 ∨ fld p 14 2 ≠ 0 ∨ within 1 4 count = false ∨
      count ≤ bits (fld p 1 1) 3 0 ∨ 604800000 ≤ fld p 4 4 ∨ sats.all satOk = false ∨
      (sats.map (fun w => bits w 16 15)).sum ≠ fld p 11 1 ∨ sigsOk sigs sats = false ∨
      s.f GOB_PERIOD_MS = 0 ∨ fld p 4 4 % s.f GOB_PERIOD_MS ≠ 0 ∨
      (x.epoch = some (cofEpoch p) ∧ x.parts ≠ [] ∧ x.count ≠ count) ∨
      64 < (all.map (fun q => fld q 10 1)).sum ∨ 128 < (all.map (fun q => fld q 11 1)).sum then cRANGE
  else if (match x.solved with | some e => decide (t ≤ epochMs e) | none => false) = true ∨
      t * 1000000 + 2000000000 < s.gpsWeekNs then cTOO_LATE
  else cOK

/-- A position return block (R287): with a status other than OK, or with no solution, what the solution would give is
open. -/
def State.prb (s : State) (ms : Nat) (t : Int) (status : Nat) (part : Bool) (still : Bool) (x : CofIn) : List Byte × State :=
  let typ := if status = cOK then solType x.best x.ratio x.pBoot x.budget true else 0
  let r := s.free 176
  let v := fieldInt 16 true
  let age := ((s.gpsWeekNs - t * 1000000) / 1000000).toNat
  let body := leBytes 4 (fieldInt 32 true x.east) ++ leBytes 4 (fieldInt 32 true x.north) ++
    leBytes 4 (fieldInt 32 true x.up) ++ leBytes 2 (min x.sigH 65535) ++ leBytes 2 (min x.sigV 65535) ++
    leBytes 2 (v x.velE) ++ leBytes 2 (v x.velN) ++ leBytes 2 (v x.velU)
  (leBytes 4 ms ++ leBytes 1 typ ++ leBytes 1 (if status = cOK then x.nsat else 0) ++
    leBytes 2 (b2n part + b2n (s.tim.qst == 4) * 2 + b2n (x.budget && typ == 4) * 4 + b2n (still && x.still && status == cOK) * 8) ++
    (if typ = 0 then leBytes 22 r.1 else body) ++ leBytes 1 (min age 255) ++ leBytes 1 status, r.2)

/-- The task's item is committed, with the outputs given (R55, R285). -/
def State.cofCommit (s : State) (e c : Nat) (outs : List Out) : State :=
  match (s.setCtx e c { s.ctx e c with outbox := outs }).commitEnd e c false with
  | .left s' => (s'.pickNext e).engTouch e
  | _ => s

/-- The reply: the block is written to MRAM at blk and given to RAD as the one output (R287, R351). -/
def State.cofReply (s : State) (e c r blk : Nat) (b : List Byte) : State :=
  let s := (s.memWrite (ep (iENG e) c) blk b).2
  let a := bits (s.lib.fld (64 + 8 * r) 8) 5 0
  s.cofCommit e c [⟨ep iRAD 0x011, 1, 0, 0x100 + a + (s.ctx e c).cls * 2 ^ 23, blk % 2 ^ 40 + 32 * 2 ^ 40⟩]

/-- The item a solve task of robot r serves on (e, c), if it does: the library solves centrally, the context runs, serves
the flow of ROBOT_r, and blk is MRAM it may write. -/
def State.cofItem (s : State) (e c r blk : Nat) : Option JRec :=
  let x := s.ctx e c
  if s.lib.mode 2 = true ∧ r < s.lib.fld 45 1 ∧ s.running e = some c ∧ s.engOn e = true ∧ x.ask = none ∧ x.bound = true ∧
      x.flow = bits (s.lib.fld (64 + 8 * r) 8) 17 6 ∧ blockIn blk 32 true = true ∧
      s.memCheck (ep (iENG e) c) blk 32 true = cOK then
    s.recs.find? (fun q => q.kind == 1 && q.flow == x.flow && q.seq == x.seq)
  else none

/-- The parts gathered of a robot's epoch are solved (R285). -/
def State.cofSolve (s : State) (e c r blk : Nat) (x : CofIn) : State :=
  let rb := s.robot r
  match rb.epoch with
  | none => s
  | some ep' =>
    let still := rb.parts.any (fun p => bit (fld p.2 12 2) 1)
    let b := s.prb ep'.2 (epochMs ep') cOK (decide (rb.parts.length < rb.count)) still x
    (b.2.setRobot r { rb with
      epoch := none, count := 0, parts := [], waits := none, solved := some ep' }).cofReply e c r blk b.1

/-- A part is served (R284, R285). It completes the epoch, or is checked and answered, or waits: its item is committed with
no output once a further part of the epoch is pending in the flow (log entry 54). -/
def State.cofPart (s : State) (e c r blk : Nat) (x : CofIn) : State :=
  match s.cofItem e c r blk with
  | none => s
  | some q =>
    let p := q.payload
    let rb := s.robot r
    let more := s.recs.any (fun z => z.kind == 1 && z.flow == q.flow && z.seq == wrapInc 32 q.seq &&
      cofEpoch z.payload == cofEpoch p)
    if rb.waits = some q.seq then
      (if more then (s.setRobot r { rb with waits := none }).cofCommit e c [] else s)
    else
      let k := s.cofCheck rb p
      if k ≠ cOK then
        let b := s.prb (fld p 4 4) (epochMs (cofEpoch p)) k false false x
        b.2.cofReply e c r blk b.1
      else
        let parts := rb.before p ++ [(bits (fld p 1 1) 3 0, p)]
        let count := bits (fld p 1 1) 7 4
        let rb := { rb with epoch := some (cofEpoch p), count := count, parts := parts }
        if count ≤ parts.length then (s.setRobot r rb).cofSolve e c r blk x
        else if more then (s.setRobot r { rb with waits := none }).cofCommit e c []
        else s.setRobot r { rb with waits := some q.seq }

/-- Device time has reached t_k + 60 ms with an item in service that waits for more parts (R285). -/
def State.cofLimit (s : State) (e c r blk : Nat) (x : CofIn) : State :=
  match s.cofItem e c r blk with
  | none => s
  | some q =>
    let rb := s.robot r
    match rb.epoch with
    | none => s
    | some t =>
      if rb.waits = some q.seq ∧ (epochMs t + 60) * 1000000 ≤ s.gpsWeekNs then s.cofSolve e c r blk x else s

/-! ### Meanings -/

/-- LIBRARY_START. -/
def execLibraryStart (e addr ring : Nat) (x y z : Int) (s : State) : Res := .next (s.libStart e addr ring x y z)

/-- BASE_EPOCH. -/
def execBaseEpoch (e buf : Nat) (msgs : List (Nat × List Byte)) (s : State) : Res := .next (s.baseEpoch e buf msgs)

/-- CORRECTION_FRAME. -/
def execCorrectionFrame (f : List Byte) (s : State) : Res := .next (s.corrFrame f)

/-- RTK_SOLUTION. -/
def execRtkSolution (e : Nat) (x : RtkIn) (s : State) : Res := .next (s.rtkSolve e x)

/-- COF_PART. -/
def execCofPart (e c r blk : Nat) (x : CofIn) (s : State) : Res := .next (s.cofPart e c r blk x)

/-- COF_EPOCH_LIMIT. -/
def execCofEpochLimit (e c r blk : Nat) (x : CofIn) (s : State) : Res := .next (s.cofLimit e c r blk x)

end Sys2Proof.Machine
end

