-- ==== Sys2Proof/Machine/BxlRows.lean ====
section
/-! DEFINITION. The rows of Bexlink (R471 to R497): links and Kickoff, control blocks, messages, membership. What an
acknowledgement completes on other islands takes effect at the end of its row. -/

namespace Sys2Proof.Machine

/-- What acknowledgements have completed takes effect. -/
def State.bxlDone (s : State) : State := s.runActs (s.bxl.finish.length + 64)

/-- Whether the ports work at all (R497): the island is there and ENABLE is 1. -/
def State.portsOn (s : State) : Bool :=
  s.ist iBXL != 0 && s.ist iBXL != 5 && !s.boot.held && s.on BXL_CFG_ENABLE && s.f BXL_STATUS_STATE != 5

/-- What follows a control block or a timer of BXL. -/
def State.bxlRow (s : State) (f : State → State) : Res := .next (if s.portsOn then (f s).bxlDone else s)

/-- What follows a message. -/
def State.msgRow (s : State) (m : BxlMsg) (serve : State → Option Nat × State) : Res := .next (s.bxlIn m serve).bxlDone

/-! ### Kickoff (R471 to R475, R524) -/

/-- A member refused at join with AUTH settles its open transaction (R524). -/
def State.joinRefused (s : State) : State :=
  if s.updFlag 0 = false then s
  else if s.updSt = 8 then s.trialEnd false cAUTH
  else if s.updSt = 5 then s.updEnter 4
  else s

/-- Whether ring discovery has ended: every record is back, or 5 ms have passed since the toss (R472). -/
def State.discoveryOver (s : State) : Bool :=
  match s.bxl.toss0 with
  | some t => decide (t + 500000 ≤ s.tim.edges) || s.bxl.tosses.any (fun x => fld x.record 8 16 == s.unitId)
  | none => false

/-- Ring discovery ends. A module whose image is not that of the stack it meets, or of the Captain elected, is refused. -/
def State.discovered (s : State) : State :=
  if s.discoveryOver = false then s
  else
    let stack := s.bxl.tosses.find? (fun t => t.hops == 1 && bit (fld t.record 7 1) 0)
    let image := match stack with
      | some t => fld t.record 32 4
      | none => (electCaptain s.found).2.2
    let refused := !s.formed && s.f BXL_STATUS_STATE == 1 && !s.looped && image != s.f UPD_VERSION_ENGINE
    let s := s.discoveryEnd
    if refused then s.joinRefused else s

/-- KICKOFF: steps 1 to 6 end on a port that trains at reset or by command (R472). -/
def execKickoff (p : Nat) (detected : Bool) (preset skew delay : Nat) (s : State) : Res :=
  s.bxlRow (fun s =>
    if 2 ≤ p ∨ s.f SYS_BOOT_PHASE < 3 ∨ ¬(s.f (BXL_Pp_STATUS_LINK p) = 1 ∨ Tab.get (fun _ => 0) s.bxl.trained p = 0) then s
    else s.trainEnd p detected preset skew delay)

/-- LINK_RETRAIN: 100 ms after a link was marked DOWN or FAILED (R471). -/
def execLinkRetrain (p : Nat) (detected : Bool) (preset skew delay : Nat) (s : State) : Res :=
  s.bxlRow (fun s =>
    let l := s.f (BXL_Pp_STATUS_LINK p)
    if 2 ≤ p ∨ (l ≠ 0 ∧ l ≠ 3) ∨ s.tim.edges < Tab.get (fun _ => 0) s.bxl.trained p + 10000000 then s
    else (s.inc (BXL_Pp_STAT_RETRAINS p)).trainEnd p detected preset skew delay)

/-- TOSS: a toss record arrives on a port. -/
def execToss (p : Nat) (record : List Byte) (s : State) : Res := s.bxlRow (fun s => s.toss p record)

/-- RING_DISCOVERY_END. -/
def execRingDiscoveryEnd (s : State) : Res := s.bxlRow State.discovered

/-- STACK_OF_ONE: 10 ms have passed and no other member was met (R475). -/
def execStackOfOne (s : State) : Res :=
  s.bxlRow (fun s =>
    if s.f BXL_STATUS_EPOCH ≠ 0 ∨ 2 ≤ s.f BXL_STATUS_STATE ∨ s.tim.edges < 1000000 ∨
        s.bxl.tosses.any (fun t => fld t.record 8 16 != s.unitId) = true then s
    else s.stackOfOne)

/-- LINK_DOWN: a lane has lost block lock, or sync headers were invalid too often (R471). -/
def execLinkDown (p : Nat) (s : State) : Res := s.bxlRow (fun s => if p < 2 ∧ s.linkUp p = true then s.linkDown p else s)

/-! ### Control blocks (R470, R471, R487, R488, R492, R496) -/

/-- HEARTBEAT_SEND. -/
def execHeartbeatSend (s : State) : Res := s.bxlRow State.heartbeatSend

/-- HEARTBEAT, with its content. -/
def execHeartbeat (p c : Nat) (s : State) : Res := s.bxlRow (fun s => s.heartbeat p c)

/-- BEXLINK_STOP, with its content. -/
def execBexlinkStop (p c : Nat) (s : State) : Res := s.bxlRow (fun s => s.stopBlock p c)

/-- MEMBER_FAIL. -/
def execMemberFail (m : Nat) (s : State) : Res := s.bxlRow (fun s => s.memberFail m)

/-- ISOLATED: a member that has swapped its image resets at once (R522). -/
def execIsolated (s : State) : Res :=
  s.bxlRow (fun s =>
    if s.cutOff = false ∨ s.f BXL_STATUS_STATE = 3 then s
    else
      let s := s.isolate
      if s.updSt = 7 then s.moduleReset 5 else s)

/-- TIME_T_SEND. -/
def execTimeTSend (p sub : Nat) (s : State) : Res := s.bxlRow (fun s => s.timeSend p sub)

/-- TIME_EXCHANGE: a TIME_T or a TIME_R arrives. -/
def execTimeExchange (p : Nat) (isR : Bool) (content sub : Nat) (s : State) : Res :=
  s.bxlRow (fun s => s.timeExchange p isR content sub)

/-! ### Messages (R480 to R486) -/

/-- ACK. -/
def execAck (m : BxlMsg) (s : State) : Res := .next (s.ackIn m).bxlDone

/-- ACK_TIMEOUT. -/
def execAckTimeout (dst : Nat) (s : State) : Res := s.bxlRow (fun s => if s.bxlUp then s.ackTimeout dst else s)

/-- TOKEN_MESSAGE: the token goes to its endpoint here, whose refusal is the status of the ACK (R483). -/
def execTokenMessage (m : BxlMsg) (s : State) : Res :=
  s.msgRow m (fun s =>
    let r := s.tokenNow ⟨fld m.body 4 2, fld m.body 8 4, fld m.body 16 8, ep iBXL 0, none, none⟩
    (some r.1, r.2))

/-- ITEM_MESSAGE. -/
def execItemMessage (m : BxlMsg) (s : State) : Res := s.msgRow m (fun s => s.itemMessage m)

/-- MIRROR. BUSY for a descriptor is final and so does not withdraw the message's number (R485). -/
def execMirror (m : BxlMsg) (s : State) : Res :=
  s.msgRow m (fun s =>
    let r := s.mirrorIn m.src m.body
    if r.1 = cBUSY ∧ fld m.body 0 1 = 2 then (none, (r.2.bxlAckIn m.src m.num cBUSY).ans cBUSY) else (some r.1, r.2))

/-- SNAP_MESSAGE (R230, R486). -/
def execSnapMessage (m : BxlMsg) (s : State) : Res :=
  s.msgRow m (fun s =>
    match s.islandRefuses iGOB 0x20 with
    | some k => (some k, s)
    | none =>
      let r := (s.wakeFor iGOB).snapMessage (fld m.body 0 8) (fld m.body 8 4)
      (some r.1, r.2.touch iGOB))

/-- TIMECFG: the Captain's GPS offset and leap second go into TIM (R295, R488). -/
def execTimecfg (m : BxlMsg) (s : State) : Res :=
  s.msgRow m (fun s =>
    if s.on BXL_STATUS_CAPTAIN then (some cOK, s)
    else
      let req := ep iBXL 0
      let s := (s.offsetWrite req (fld m.body 0 8)).2
      let s := (s.leapWrite req (aTim 0x78) (fld m.body 8 4)).2
      (some cOK, (s.leapWrite req (aTim 0x80) (fld m.body 12 8)).2))

/-! ### Membership (R476, R477, R489, R490, R493) -/

/-- A module that is no member yet takes the position at which the Roster of the message names it. -/
def State.takePosition (s : State) (m : BxlMsg) : State :=
  if s.bxlUp = true ∧ s.formed = false ∧ (Tab.get (fun _ => RosterEnt.none) (rosterOf m.body) m.dst).unit = s.unitId then
    s.setF BXL_STATUS_POSITION m.dst
  else s

/-- A Roster newer than this member's is applied (R477). The west neighbour of a newcomer begins its copy (R489), and a
member that returns with an open transaction asks for the decision (R524). -/
def State.rosterIn (s : State) (m : BxlMsg) : State :=
  let e := fld m.body 0 2
  let d := (e + 2 ^ 16 - s.f BXL_STATUS_EPOCH) % 2 ^ 16
  if d = 0 ∨ 2 ^ 15 ≤ d then s
  else
    let was := idxWhere 16 s.liveAt
    let s := s.rosterApply (rosterOf m.body) (fld m.body 2 1) e (some m.src)
    let new := (idxWhere 16 s.liveAt).filter (fun p => !was.contains p)
    let s := match new.find? (fun p => (s.ros p).st == 2 && p != s.pos' && s.westOf p == some s.pos') with
      | some p => s.handoverTo p
      | none => s
    if new.contains s.pos' && s.updFlag 0 && s.f UPD_TXN_TXN != 0 && (s.updSt == 5 || s.updSt == 8) then s.updAsk else s

/-- ROSTER. -/
def execRoster (m : BxlMsg) (s : State) : Res := (s.takePosition m).msgRow m (fun s => (some cOK, s.rosterIn m))

/-- CONTROL_JOIN_REQ: a newcomer's request has no number (R480, R489). -/
def execControlJoinReq (m : BxlMsg) (s : State) : Res :=
  .next (if s.bxlUp = false then s
  else if m.dst ≠ s.pos' then s.setBxl (fun b => { b with out := b.out ++ [m] })
  else (s.joinAsk (fld m.body 1 1) (m.body.drop 4)).bxlDone)

/-- LEAVE_REQ. -/
def execLeaveReq (m : BxlMsg) (s : State) : Res := s.msgRow m (fun s => (some cOK, s.leaveAsk m.src))

/-- HANDOVER_DONE. -/
def execHandoverDone (m : BxlMsg) (s : State) : Res :=
  s.msgRow m (fun s => (some cOK, s.handoverDone m.src (fld m.body 1 1)))

/-- ZON_MERGE_DONE: the entries of a member's tiles are merged, and go on to the Buddy (R493). -/
def execZonMergeDone (m : Nat) (s : State) : Res :=
  .next (if s.zon.merging.contains m = false then s
  else
    let es := s.zon.entries.filter (fun e => s.tileMember e.frame e.x e.y == m)
    let ts := s.zon.tracks.filter (fun t => es.any (fun e => e.track == t.id))
    let s := s.setZon (fun z => { z with merging := z.merging.filter (· != m) })
    (s.zonMirror 0 (es.flatMap ZonEnt.bytes)).zonMirror 1 (ts.flatMap ZonTrack.bytes))

/-! ### Commands (R490, R497) -/

/-- LEAVE. -/
def execLeave (req : Nat) (s : State) : Res :=
  s.regRow iBXL req (aBxl 0x48) 4 1 (fun s => let r := s.bxlCmdWrite req 1; (r.1, r.2.bxlDone))

/-- RETRAIN_WEST. -/
def execRetrainWest (req : Nat) (s : State) : Res := s.regRow iBXL req (aBxl 0x48) 4 2 (fun s => s.bxlCmdWrite req 2)

/-- RETRAIN_EAST. -/
def execRetrainEast (req : Nat) (s : State) : Res := s.regRow iBXL req (aBxl 0x48) 4 3 (fun s => s.bxlCmdWrite req 3)

end Sys2Proof.Machine
end

