-- ==== Sys2Proof/Machine/Dispatch.lean ====
section
/-! DEFINITION. The dispatch of commands: one arm per row of the operation table, each a direct call of its meaning. -/

namespace Sys2Proof.Machine

/-- The effect of one command on everything but the queue. -/
def exec (i : Instr) (s : State) : Host.Outcome State Fault Refusal :=
  match i with
  | .registerWrite req addr size value => Sys2Proof.Machine.execRegisterWrite req addr size value s
  | .unlock req isl value => Sys2Proof.Machine.execUnlock req isl value s
  | .locked req isl value => Sys2Proof.Machine.execLocked req isl value s
  | .refuseCaptureClear req isl value => Sys2Proof.Machine.execRefuseCaptureClear req isl value s
  | .pstateRequest req isl value => Sys2Proof.Machine.execPstateRequest req isl value s
  | .islandGate isl => Sys2Proof.Machine.execIslandGate isl s
  | .islandWakeDone isl => Sys2Proof.Machine.execIslandWakeDone isl s
  | .refinLost => Sys2Proof.Machine.execRefinLost s
  | .refinReturn => Sys2Proof.Machine.execRefinReturn s
  | .journalWriteDone => Sys2Proof.Machine.execJournalWriteDone s
  | .mramDeviceFail dev addr status => Sys2Proof.Machine.execMramDeviceFail dev addr status s
  | .commitRecordValid => Sys2Proof.Machine.execCommitRecordValid s
  | .outputConfirmed flow seq index status => Sys2Proof.Machine.execOutputConfirmed flow seq index status s
  | .islandFaultTrap isl => Sys2Proof.Machine.execIslandFaultTrap isl s
  | .heartbeatMissed isl => Sys2Proof.Machine.execHeartbeatMissed isl s
  | .faultReset cause isl => Sys2Proof.Machine.execFaultReset cause isl s
  | .integerRegister e w => Sys2Proof.Machine.execIntegerRegister e w s
  | .integerImmediate e w => Sys2Proof.Machine.execIntegerImmediate e w s
  | .lup e w => Sys2Proof.Machine.execLup e w s
  | .aup e w => Sys2Proof.Machine.execAup e w s
  | .integerLoad e w => Sys2Proof.Machine.execIntegerLoad e w s
  | .integerStore e w => Sys2Proof.Machine.execIntegerStore e w s
  | .atomicMemoryOperation e w => Sys2Proof.Machine.execAtomicMemoryOperation e w s
  | .floatingLoad e w => Sys2Proof.Machine.execFloatingLoad e w s
  | .floatingStore e w => Sys2Proof.Machine.execFloatingStore e w s
  | .conditionalBranch e w => Sys2Proof.Machine.execConditionalBranch e w s
  | .jal e w => Sys2Proof.Machine.execJal e w s
  | .jalr e w => Sys2Proof.Machine.execJalr e w s
  | .floatingOperate e w => Sys2Proof.Machine.execFloatingOperate e w s
  | .fusedMultiplyAdd e w => Sys2Proof.Machine.execFusedMultiplyAdd e w s
  | .vectorOperate e w => Sys2Proof.Machine.execVectorOperate e w s
  | .vld e w => Sys2Proof.Machine.execVld e w s
  | .vst e w => Sys2Proof.Machine.execVst e w s
  | .memoryRefusal e => Sys2Proof.Machine.execMemoryRefusal e s
  | .eccUncorrectable e isl => Sys2Proof.Machine.execEccUncorrectable e isl s
  | .take e w => Sys2Proof.Machine.execTake e w s
  | .tagk e w => Sys2Proof.Machine.execTagk e w s
  | .emit e w => Sys2Proof.Machine.execEmit e w s
  | .sendq e w => Sys2Proof.Machine.execSendq e w s
  | .recvq e w => Sys2Proof.Machine.execRecvq e w s
  | .spawn e w => Sys2Proof.Machine.execSpawn e w s
  | .cancel e w => Sys2Proof.Machine.execCancel e w s
  | .dugoutAnswer e c => Sys2Proof.Machine.execDugoutAnswer e c s
  | .commit e w => Sys2Proof.Machine.execCommit e w s
  | .commitE e w => Sys2Proof.Machine.execCommitE e w s
  | .yield e w => Sys2Proof.Machine.execYield e w s
  | .snap e w => Sys2Proof.Machine.execSnap e w s
  | .stop e w => Sys2Proof.Machine.execStop e w s
  | .mto e w => Sys2Proof.Machine.execMto e w s
  | .mfo e w => Sys2Proof.Machine.execMfo e w s
  | .abort e w => Sys2Proof.Machine.execAbort e w s
  | .mfc e w => Sys2Proof.Machine.execMfc e w s
  | .mtc e w => Sys2Proof.Machine.execMtc e w s
  | .syncM e w => Sys2Proof.Machine.execSyncM e w s
  | .syncI e w => Sys2Proof.Machine.execSyncI e w s
  | .atomB e w => Sys2Proof.Machine.execAtomB e w s
  | .atomE e w => Sys2Proof.Machine.execAtomE e w s
  | .atomicLimit e => Sys2Proof.Machine.execAtomicLimit e s
  | .tret e w => Sys2Proof.Machine.execTret e w s
  | .brk e w => Sys2Proof.Machine.execBrk e w s
  | .dvfsRequest req e value => Sys2Proof.Machine.execDvfsRequest req e value s
  | .dvfsStepDone e => Sys2Proof.Machine.execDvfsStepDone e s
  | .dispatch => Sys2Proof.Machine.execDispatch s
  | .commitConfirm e c => Sys2Proof.Machine.execCommitConfirm e c s
  | .operandToken t => Sys2Proof.Machine.execOperandToken t s
  | .flowIntake t => Sys2Proof.Machine.execFlowIntake t s
  | .flowItemDelivery flow => Sys2Proof.Machine.execFlowItemDelivery flow s
  | .descWrite req => Sys2Proof.Machine.execDescWrite req s
  | .descRead req => Sys2Proof.Machine.execDescRead req s
  | .descDelete req => Sys2Proof.Machine.execDescDelete req s
  | .descCancel req => Sys2Proof.Machine.execDescCancel req s
  | .descRearm req => Sys2Proof.Machine.execDescRearm req s
  | .spillRefillBatch => Sys2Proof.Machine.execSpillRefillBatch s
  | .dugoutStall => Sys2Proof.Machine.execDugoutStall s
  | .queueWord q => Sys2Proof.Machine.execQueueWord q s
  | .queuePush req n value => Sys2Proof.Machine.execQueuePush req n value s
  | .queueConfig req n value => Sys2Proof.Machine.execQueueConfig req n value s
  | .staleConfig req n value => Sys2Proof.Machine.execStaleConfig req n value s
  | .staleTail n => Sys2Proof.Machine.execStaleTail n s
  | .millisecondMark ms => Sys2Proof.Machine.execMillisecondMark ms s
  | .streamConfig req p g value => Sys2Proof.Machine.execStreamConfig req p g value s
  | .blankInput p level => Sys2Proof.Machine.execBlankInput p level s
  | .sampleOverrun p g => Sys2Proof.Machine.execSampleOverrun p g s
  | .spiTransaction t => Sys2Proof.Machine.execSpiTransaction t s
  | .spiTransactionDone p miso => Sys2Proof.Machine.execSpiTransactionDone p miso s
  | .channelEnable req c => Sys2Proof.Machine.execChannelEnable req c s
  | .channelDisable req c => Sys2Proof.Machine.execChannelDisable req c s
  | .channelStart req c => Sys2Proof.Machine.execChannelStart req c s
  | .channelStop req c => Sys2Proof.Machine.execChannelStop req c s
  | .vectorOn req c => Sys2Proof.Machine.execVectorOn req c s
  | .vectorOff req c => Sys2Proof.Machine.execVectorOff req c s
  | .channelLoopWrite req c value => Sys2Proof.Machine.execChannelLoopWrite req c value s
  | .integrationBoundary c b => Sys2Proof.Machine.execIntegrationBoundary c b s
  | .pullinFail c => Sys2Proof.Machine.execPullinFail c s
  | .syncFail c => Sys2Proof.Machine.execSyncFail c s
  | .coastExpiry c => Sys2Proof.Machine.execCoastExpiry c s
  | .fallback c => Sys2Proof.Machine.execFallback c s
  | .vectorUpdate t => Sys2Proof.Machine.execVectorUpdate t s
  | .vectorApply => Sys2Proof.Machine.execVectorApply s
  | .searchCommand t => Sys2Proof.Machine.execSearchCommand t s
  | .searchCaptureStart k => Sys2Proof.Machine.execSearchCaptureStart k s
  | .searchDone k ms => Sys2Proof.Machine.execSearchDone k ms s
  | .searchCancel t => Sys2Proof.Machine.execSearchCancel t s
  | .snapSoftRequest req value => Sys2Proof.Machine.execSnapSoftRequest req value s
  | .snapStackRequest req value => Sys2Proof.Machine.execSnapStackRequest req value s
  | .snapPeriodConfig req addr value => Sys2Proof.Machine.execSnapPeriodConfig req addr value s
  | .snapPeriodic => Sys2Proof.Machine.execSnapPeriodic s
  | .snapEdge => Sys2Proof.Machine.execSnapEdge s
  | .snapFillDone => Sys2Proof.Machine.execSnapFillDone s
  | .bankHold req value => Sys2Proof.Machine.execBankHold req value s
  | .navUnitDecoded c u => Sys2Proof.Machine.execNavUnitDecoded c u s
  | .bcastExpiry y => Sys2Proof.Machine.execBcastExpiry y s
  | .posCommand t => Sys2Proof.Machine.execPosCommand t s
  | .posCommandStart u => Sys2Proof.Machine.execPosCommandStart u s
  | .posSearchDone u => Sys2Proof.Machine.execPosSearchDone u s
  | .posDeadline u => Sys2Proof.Machine.execPosDeadline u s
  | .posCancel t => Sys2Proof.Machine.execPosCancel t s
  | .libraryStart e addr ring x y z => Sys2Proof.Machine.execLibraryStart e addr ring x y z s
  | .baseEpoch e buf msgs => Sys2Proof.Machine.execBaseEpoch e buf msgs s
  | .correctionFrame frame => Sys2Proof.Machine.execCorrectionFrame frame s
  | .rtkSolution e x => Sys2Proof.Machine.execRtkSolution e x s
  | .cofPart e c r blk x => Sys2Proof.Machine.execCofPart e c r blk x s
  | .cofEpochLimit e c r blk x => Sys2Proof.Machine.execCofEpochLimit e c r blk x s
  | .timeLatch req value => Sys2Proof.Machine.execTimeLatch req value s
  | .gpsOffsetWrite req value => Sys2Proof.Machine.execGpsOffsetWrite req value s
  | .leapSecond => Sys2Proof.Machine.execLeapSecond s
  | .sourceSelect req value => Sys2Proof.Machine.execSourceSelect req value s
  | .slewMaxWrite req value => Sys2Proof.Machine.execSlewMaxWrite req value s
  | .timeCorrection req value => Sys2Proof.Machine.execTimeCorrection req value s
  | .stepPart => Sys2Proof.Machine.execStepPart s
  | .holdover => Sys2Proof.Machine.execHoldover s
  | .captureInputEdge n rising sub => Sys2Proof.Machine.execCaptureInputEdge n rising sub s
  | .captureStampRead req n => Sys2Proof.Machine.execCaptureStampRead req n s
  | .pinEnable req p value => Sys2Proof.Machine.execPinEnable req p value s
  | .pinDisable req p value => Sys2Proof.Machine.execPinDisable req p value s
  | .pinLeadingEdge p => Sys2Proof.Machine.execPinLeadingEdge p s
  | .pinTrailingEdge p => Sys2Proof.Machine.execPinTrailingEdge p s
  | .txStampRead req p => Sys2Proof.Machine.execTxStampRead req p s
  | .ethTransmit t => Sys2Proof.Machine.execEthTransmit t s
  | .ethFrameSent p sub => Sys2Proof.Machine.execEthFrameSent p sub s
  | .ethFrameReceived p frame fcsOk sub => Sys2Proof.Machine.execEthFrameReceived p frame fcsOk sub s
  | .ethLinkChange p up speed partner => Sys2Proof.Machine.execEthLinkChange p up speed partner s
  | .radioPortEnable req n value => Sys2Proof.Machine.execRadioPortEnable req n value s
  | .radioPortDisable req n value => Sys2Proof.Machine.execRadioPortDisable req n value s
  | .arm req a => Sys2Proof.Machine.execArm req a s
  | .armFresh req a => Sys2Proof.Machine.execArmFresh req a s
  | .updateMap req a => Sys2Proof.Machine.execUpdateMap req a s
  | .updateTiming req a => Sys2Proof.Machine.execUpdateTiming req a s
  | .updateGroups req a => Sys2Proof.Machine.execUpdateGroups req a s
  | .release req a => Sys2Proof.Machine.execRelease req a s
  | .associationOff req a => Sys2Proof.Machine.execAssociationOff req a s
  | .beacon n => Sys2Proof.Machine.execBeacon n s
  | .joinReq n frame rssi => Sys2Proof.Machine.execJoinReq n frame rssi s
  | .connectionEvent a => Sys2Proof.Machine.execConnectionEvent a s
  | .robotFrame n frame rssi => Sys2Proof.Machine.execRobotFrame n frame rssi s
  | .supervisionTimeout a => Sys2Proof.Machine.execSupervisionTimeout a s
  | .joinFail a => Sys2Proof.Machine.execJoinFail a s
  | .closeTimeout a => Sys2Proof.Machine.execCloseTimeout a s
  | .updateInstant a => Sys2Proof.Machine.execUpdateInstant a s
  | .radioRecordAssociation t => Sys2Proof.Machine.execRadioRecordAssociation t s
  | .radioRecordGroup t => Sys2Proof.Machine.execRadioRecordGroup t s
  | .groupEvent g => Sys2Proof.Machine.execGroupEvent g s
  | .stopBurst n => Sys2Proof.Machine.execStopBurst n s
  | .budgetSecond => Sys2Proof.Machine.execBudgetSecond s
  | .zonEnable req value => Sys2Proof.Machine.execZonEnable req value s
  | .zonCommand t => Sys2Proof.Machine.execZonCommand t s
  | .reserve => Sys2Proof.Machine.execReserve s
  | .check => Sys2Proof.Machine.execCheck s
  | .zonRelease => Sys2Proof.Machine.execZonRelease s
  | .releaseOwner => Sys2Proof.Machine.execReleaseOwner s
  | .zonWritebackDone => Sys2Proof.Machine.execZonWritebackDone s
  | .zonCancel t => Sys2Proof.Machine.execZonCancel t s
  | .trackExpiry track => Sys2Proof.Machine.execTrackExpiry track s
  | .zonRebuild req copy value => Sys2Proof.Machine.execZonRebuild req copy value s
  | .zon2pcHoldTimeout txn => Sys2Proof.Machine.execZon2pcHoldTimeout txn s
  | .forward m => Sys2Proof.Machine.execForward m s
  | .prepare m => Sys2Proof.Machine.execPrepare m s
  | .vote m => Sys2Proof.Machine.execVote m s
  | .decide m => Sys2Proof.Machine.execDecide m s
  | .zonDone m => Sys2Proof.Machine.execZonDone m s
  | .zonResult m => Sys2Proof.Machine.execZonResult m s
  | .zonAsk m => Sys2Proof.Machine.execZonAsk m s
  | .zonConfig m => Sys2Proof.Machine.execZonConfig m s
  | .stopInput p level width => Sys2Proof.Machine.execStopInput p level width s
  | .stopRaise req value => Sys2Proof.Machine.execStopRaise req value s
  | .stopArm req => Sys2Proof.Machine.execStopArm req s
  | .stopRelease req => Sys2Proof.Machine.execStopRelease req s
  | .stopArmExpiry => Sys2Proof.Machine.execStopArmExpiry s
  | .disagree => Sys2Proof.Machine.execDisagree s
  | .readbackMismatch o differs => Sys2Proof.Machine.execReadbackMismatch o differs s
  | .outputEnableWrite req pwen value => Sys2Proof.Machine.execOutputEnableWrite req pwen value s
  | .slotEnable req k => Sys2Proof.Machine.execSlotEnable req k s
  | .slotRun req k => Sys2Proof.Machine.execSlotRun req k s
  | .slotDisable req k => Sys2Proof.Machine.execSlotDisable req k s
  | .clearFault req k => Sys2Proof.Machine.execClearFault req k s
  | .slotTarget slot => Sys2Proof.Machine.execSlotTarget slot s
  | .slotSetpoint slot => Sys2Proof.Machine.execSlotSetpoint slot s
  | .measuredWrite slot => Sys2Proof.Machine.execMeasuredWrite slot s
  | .outputStep => Sys2Proof.Machine.execOutputStep s
  | .lawTick k => Sys2Proof.Machine.execLawTick k s
  | .stale k => Sys2Proof.Machine.execStale k s
  | .ilSoftSet req value => Sys2Proof.Machine.execIlSoftSet req value s
  | .ilSoftClr req value => Sys2Proof.Machine.execIlSoftClr req value s
  | .analogSample g codes => Sys2Proof.Machine.execAnalogSample g codes s
  | .impactRateBucket => Sys2Proof.Machine.execImpactRateBucket s
  | .pulseEdge n level held half => Sys2Proof.Machine.execPulseEdge n level held half s
  | .pulseZero n => Sys2Proof.Machine.execPulseZero n s
  | .pwmPeriodStart n => Sys2Proof.Machine.execPwmPeriodStart n s
  | .tallyEnable req slot value => Sys2Proof.Machine.execTallyEnable req slot value s
  | .tallyDisable req slot value => Sys2Proof.Machine.execTallyDisable req slot value s
  | .tallyIncrement t => Sys2Proof.Machine.execTallyIncrement t s
  | .tallyIncWrite req slot value => Sys2Proof.Machine.execTallyIncWrite req slot value s
  | .tallyLatch slot => Sys2Proof.Machine.execTallyLatch slot s
  | .tallyCheckpoint slot => Sys2Proof.Machine.execTallyCheckpoint slot s
  | .tallySaveDone => Sys2Proof.Machine.execTallySaveDone s
  | .tallyPartialSave => Sys2Proof.Machine.execTallyPartialSave s
  | .tallyClear req slot => Sys2Proof.Machine.execTallyClear req slot s
  | .tempWrite req slot value => Sys2Proof.Machine.execTempWrite req slot value s
  | .tempStale slot => Sys2Proof.Machine.execTempStale slot s
  | .lagStep => Sys2Proof.Machine.execLagStep s
  | .pulseOutputEnable req n value => Sys2Proof.Machine.execPulseOutputEnable req n value s
  | .pulseOutputStart n => Sys2Proof.Machine.execPulseOutputStart n s
  | .pulseOutputEnd n => Sys2Proof.Machine.execPulseOutputEnd n s
  | .canEnable req n value => Sys2Proof.Machine.execCanEnable req n value s
  | .canDisable req n value => Sys2Proof.Machine.execCanDisable req n value s
  | .recover req n => Sys2Proof.Machine.execRecover req n s
  | .canRecoveryDone n => Sys2Proof.Machine.execCanRecoveryDone n s
  | .canError n err => Sys2Proof.Machine.execCanError n err s
  | .canFrameReceived n frame ago => Sys2Proof.Machine.execCanFrameReceived n frame ago s
  | .canObjectEnable req o value => Sys2Proof.Machine.execCanObjectEnable req o value s
  | .canObjAck req value => Sys2Proof.Machine.execCanObjAck req value s
  | .canQueueRd req q value => Sys2Proof.Machine.execCanQueueRd req q value s
  | .canTxRequest t => Sys2Proof.Machine.execCanTxRequest t s
  | .canTxSelect n wait => Sys2Proof.Machine.execCanTxSelect n wait s
  | .canTxComplete n how => Sys2Proof.Machine.execCanTxComplete n how s
  | .canCancel t => Sys2Proof.Machine.execCanCancel t s
  | .kickoff p detected preset skew delay => Sys2Proof.Machine.execKickoff p detected preset skew delay s
  | .toss p record => Sys2Proof.Machine.execToss p record s
  | .ringDiscoveryEnd => Sys2Proof.Machine.execRingDiscoveryEnd s
  | .linkDown p => Sys2Proof.Machine.execLinkDown p s
  | .linkRetrain p detected preset skew delay => Sys2Proof.Machine.execLinkRetrain p detected preset skew delay s
  | .heartbeatSend => Sys2Proof.Machine.execHeartbeatSend s
  | .heartbeat p c => Sys2Proof.Machine.execHeartbeat p c s
  | .bexlinkStop p c => Sys2Proof.Machine.execBexlinkStop p c s
  | .memberFail m => Sys2Proof.Machine.execMemberFail m s
  | .isolated => Sys2Proof.Machine.execIsolated s
  | .bexlinkSend t => Sys2Proof.Machine.execBexlinkSend t s
  | .ack m => Sys2Proof.Machine.execAck m s
  | .ackTimeout dst => Sys2Proof.Machine.execAckTimeout dst s
  | .tokenMessage m => Sys2Proof.Machine.execTokenMessage m s
  | .itemMessage m => Sys2Proof.Machine.execItemMessage m s
  | .mirror m => Sys2Proof.Machine.execMirror m s
  | .roster m => Sys2Proof.Machine.execRoster m s
  | .snapMessage m => Sys2Proof.Machine.execSnapMessage m s
  | .timecfg m => Sys2Proof.Machine.execTimecfg m s
  | .stopinfo m => Sys2Proof.Machine.execStopinfo m s
  | .controlJoinReq m => Sys2Proof.Machine.execControlJoinReq m s
  | .leaveReq m => Sys2Proof.Machine.execLeaveReq m s
  | .controlStopArm m => Sys2Proof.Machine.execControlStopArm m s
  | .stopReady m => Sys2Proof.Machine.execStopReady m s
  | .controlStopRelease m => Sys2Proof.Machine.execControlStopRelease m s
  | .handoverDone m => Sys2Proof.Machine.execHandoverDone m s
  | .timeTSend p sub => Sys2Proof.Machine.execTimeTSend p sub s
  | .timeExchange p isR content sub => Sys2Proof.Machine.execTimeExchange p isR content sub s
  | .leave req => Sys2Proof.Machine.execLeave req s
  | .retrainWest req => Sys2Proof.Machine.execRetrainWest req s
  | .retrainEast req => Sys2Proof.Machine.execRetrainEast req s
  | .begin req => Sys2Proof.Machine.execBegin req s
  | .writeBlock req => Sys2Proof.Machine.execWriteBlock req s
  | .writeBlockDone mismatches => Sys2Proof.Machine.execWriteBlockDone mismatches s
  | .verify req => Sys2Proof.Machine.execVerify req s
  | .verifyDone => Sys2Proof.Machine.execVerifyDone s
  | .activate req => Sys2Proof.Machine.execActivate req s
  | .swapPhaseDone mismatches => Sys2Proof.Machine.execSwapPhaseDone mismatches s
  | .restart req => Sys2Proof.Machine.execRestart req s
  | .confirm req => Sys2Proof.Machine.execConfirm req s
  | .reject req reason => Sys2Proof.Machine.execReject req reason s
  | .distribute req => Sys2Proof.Machine.execDistribute req s
  | .abandon req => Sys2Proof.Machine.execAbandon req s
  | .trialTimeout => Sys2Proof.Machine.execTrialTimeout s
  | .confirming => Sys2Proof.Machine.execConfirming s
  | .reverting => Sys2Proof.Machine.execReverting s
  | .updateBlock m => Sys2Proof.Machine.execUpdateBlock m s
  | .updatePrepare m => Sys2Proof.Machine.execUpdatePrepare m s
  | .updateVote m => Sys2Proof.Machine.execUpdateVote m s
  | .updateDecide m => Sys2Proof.Machine.execUpdateDecide m s
  | .updateSwapped m => Sys2Proof.Machine.execUpdateSwapped m s
  | .updateRestart m => Sys2Proof.Machine.execUpdateRestart m s
  | .updateRestartTime => Sys2Proof.Machine.execUpdateRestartTime s
  | .healthy m => Sys2Proof.Machine.execHealthy m s
  | .unhealthy m => Sys2Proof.Machine.execUnhealthy m s
  | .verdict m => Sys2Proof.Machine.execVerdict m s
  | .updateAsk m => Sys2Proof.Machine.execUpdateAsk m s
  | .updateRecord m => Sys2Proof.Machine.execUpdateRecord m s
  | .decideTimeout => Sys2Proof.Machine.execDecideTimeout s
  | .sliceStart => Sys2Proof.Machine.execSliceStart s
  | .sliceEnd bad => Sys2Proof.Machine.execSliceEnd bad s
  | .sliceAbort => Sys2Proof.Machine.execSliceAbort s
  | .sliceRetry => Sys2Proof.Machine.execSliceRetry s
  | .hang isl => Sys2Proof.Machine.execHang isl s
  | .roundEnd => Sys2Proof.Machine.execRoundEnd s
  | .fence req isl => Sys2Proof.Machine.execFence req isl s
  | .islandRelease req isl => Sys2Proof.Machine.execIslandRelease req isl s
  | .islandReleaseDone pass => Sys2Proof.Machine.execIslandReleaseDone pass s
  | .lastBreathClear req value => Sys2Proof.Machine.execLastBreathClear req value s
  | .scbSoftwareRecord t => Sys2Proof.Machine.execScbSoftwareRecord t s
  | .scbRecordWritten differs => Sys2Proof.Machine.execScbRecordWritten differs s
  | .openBookmark slot => Sys2Proof.Machine.execOpenBookmark slot s
  | .closeBookmark slot => Sys2Proof.Machine.execCloseBookmark slot s
  | .advanceBookmark slot => Sys2Proof.Machine.execAdvanceBookmark slot s
  | .clearRecords slot => Sys2Proof.Machine.execClearRecords slot s
  | .sendRecords slot => Sys2Proof.Machine.execSendRecords slot s
  | .mainRing slot => Sys2Proof.Machine.execMainRing slot s
  | .powerOn => Sys2Proof.Machine.execPowerOn s
  | .converterStart => Sys2Proof.Machine.execConverterStart s
  | .pinReset => Sys2Proof.Machine.execPinReset s
  | .softwareReset req value => Sys2Proof.Machine.execSoftwareReset req value s
  | .brownOut => Sys2Proof.Machine.execBrownOut s
  | .resetRelease straps failA failB => Sys2Proof.Machine.execResetRelease straps failA failB s
  | .powerupBistDone fail stopPath ticks => Sys2Proof.Machine.execPowerupBistDone fail stopPath ticks s
  | .loaderCheckDone ok => Sys2Proof.Machine.execLoaderCheckDone ok s
  | .loaderDone segs => Sys2Proof.Machine.execLoaderDone segs s
  | .restore => Sys2Proof.Machine.execRestore s
  | .runStart entry => Sys2Proof.Machine.execRunStart entry s
  | .pwrfailAssert => Sys2Proof.Machine.execPwrfailAssert s
  | .pwrfailDeassert => Sys2Proof.Machine.execPwrfailDeassert s
  | .thermalSample temp vin power => Sys2Proof.Machine.execThermalSample temp vin power s
  | .ejectRequest => Sys2Proof.Machine.execEjectRequest s
  | .hostRead x frame => Sys2Proof.Machine.execHostRead x frame s
  | .hostWrite x frame => Sys2Proof.Machine.execHostWrite x frame s
  | .hostToken x frame => Sys2Proof.Machine.execHostToken x frame s
  | .submit x frame => Sys2Proof.Machine.execSubmit x frame s
  | .hostClose x frame => Sys2Proof.Machine.execHostClose x frame s
  | .ping x frame => Sys2Proof.Machine.execPing x frame s
  | .sqDoorbell req value frames => Sys2Proof.Machine.execSqDoorbell req value frames s
  | .bar2Access write addr data => Sys2Proof.Machine.execBar2Access write addr data s
  | .hostNotice t => Sys2Proof.Machine.execHostNotice t s
  | .pciePerst low => Sys2Proof.Machine.execPciePerst low s
  | .pcieLinkChange up width speed master => Sys2Proof.Machine.execPcieLinkChange up width speed master s
  | .report => Sys2Proof.Machine.execReport s
  | .arbitrationLost n => Sys2Proof.Machine.execArbitrationLost n s
  | .pauseExpiry p => Sys2Proof.Machine.execPauseExpiry p s
  | .watchdog => Sys2Proof.Machine.execWatchdog s
  | .stackOfOne => Sys2Proof.Machine.execStackOfOne s
  | .zonMergeDone m => Sys2Proof.Machine.execZonMergeDone m s
  | .zonRebuildDone => Sys2Proof.Machine.execZonRebuildDone s
  | .ejectReqHigh => Sys2Proof.Machine.execEjectReqHigh s
  | .cqRdWrite req value => Sys2Proof.Machine.execCqRdWrite req value s

end Sys2Proof.Machine
end

