-- ==== Sys2Proof/Machine/Tick.lean ====
section
/-! DEFINITION. One edge of SREF: what happens by the clock alone and has no row of its own. -/

namespace Sys2Proof.Machine

/-- The Captain sends a changed time configuration to every member (R488). -/
def State.cfgTick (s : State) : State :=
  if s.bxlUp && s.inStack && s.on BXL_STATUS_CAPTAIN && s.timeCfg != s.bxl.cfgSent then s.timeCfgSend s.others else s

/-- An edge of SREF with no command: device time advances (R290, R299), the tallies' and the radio's clocks run, an orderly
leave goes on (R490), the trial counts its seconds (R516) and the eject handshake goes on (R571). In reset nothing runs. -/
def State.tick (s : State) : State :=
  if s.boot.held then s
  else (s.talBeforeTick.timTick.talTick.radTick.leaveCheck.cfgTick.updSecond.ejectTick).bxlDone

end Sys2Proof.Machine
end

