-- ==== Sys2Proof/Safety.lean ====
section
/-! DEFINITION. The terms in which claims speak of states: the canonical forms a step keeps, the module in normal running,
the Whistle's outputs at their safe level. -/

namespace Sys2Proof.Machine

/-- Memory and the register file are in their canonical form. -/
def State.wf (s : State) : Bool := Memory.wf s.mem && Tab.wf regReset s.regs

/-- The module runs: out of reset, in phase RUN (R575). -/
def State.runs (s : State) : Bool := !s.boot.held && s.f SYS_BOOT_PHASE == 4

/-- An island serves what reaches it at once: it is IDLE or ON (R30). -/
def State.serves (s : State) (isl : Nat) : Bool := isIsland isl && (s.ist isl == 2 || s.ist isl == 3)

/-- The Whistle has latched (R387). -/
def State.latched (s : State) : Bool := s.on REF_STOP_STATUS_LATCHED

/-- From s to t memory, the engines and every register field but those of l are as they were. -/
def State.keeps (s t : State) (l : List RF) : Prop :=
  t.mem = s.mem ∧ t.eng = s.eng ∧ ∀ q : RF, (∀ r ∈ l, q.key ≠ r.key) → t.f q = s.f q

/-- From s to t memory, the engines and every register outside island isl's block are as they were. -/
def State.within (s t : State) (isl : Nat) : Prop :=
  t.mem = s.mem ∧ t.eng = s.eng ∧ ∀ q : RF, q.key / 64 / 0x10000 ≠ 0x20000 + isl → t.f q = s.f q

/-- From s to t the engines and every register field but those of l are as they were. -/
def State.alters (s t : State) (l : List RF) : Prop :=
  t.eng = s.eng ∧ ∀ q : RF, (∀ r ∈ l, q.key ≠ r.key) → t.f q = s.f q

/-- From s to t every byte of memory outside the areas of l (address and length) is as it was. -/
def State.outside (s t : State) (l : List (Nat × Nat)) : Prop :=
  ∀ a, (∀ p ∈ l, a < p.1 ∨ p.1 + p.2 ≤ a) → t.rdB a = s.rdB a

/-- The two copies of the update journal (R508). -/
def updArea : List (Nat × Nat) := [(0x0400610000, 0x100), (0x0400A50000, 0x100)]

/-- From s to t the module has been reset with a cause (R573, R574): it is held, the cause is noted, the Whistle is latched
with its reset reason, and what MRAM and NOR hold is kept. -/
def State.wasReset (s t : State) (c : Nat) : Prop :=
  t.boot.held = true ∧ t.f SYS_RESET_CAUSE_CAUSE = 2 ^ c ∧ t.latched = true ∧ t.f REF_STOP_STATUS_REASON = 3 ∧
    t.eng = State.reset.eng ∧ t.pending = s.pending ∧ t.f UPD_OTP_ROLLBACK = s.f UPD_OTP_ROLLBACK % 2 ^ 7 ∧
    ∀ a, 0x0400000000 ≤ a → a < 0x0900000000 → t.rdB a = s.rdB a

/-- The fields of an island's refused-access record (R34). -/
def refuseRegs (isl : Nat) : List RF :=
  [ISL_REFUSE_ADDR_ADDR isl, ISL_REFUSE_INFO_VALID isl, ISL_REFUSE_INFO_WRITE isl, ISL_REFUSE_INFO_REQUESTER isl,
    ISL_REFUSE_INFO_STATUS isl, ISL_REFUSE_COUNT_COUNT isl]

/-- A Bexlink message is for this member, the next of its pair, and nothing of its sender waits for an acknowledgement. -/
def State.hears (s : State) (m : BxlMsg) : Prop :=
  s.bxlUp = true ∧ m.dst = s.pos' ∧ (m.num + 2 ^ 32 - (s.pair m.src).accepted) % 2 ^ 32 = 1 ∧ s.itemOpen m.src = false

/-! ### Stops and messages -/

/-- From s to t the Whistle has latched at this edge (R390): the outputs are off and stay off, the stop count and the counter
of latches have advanced, and the latch edge is stamped. -/
def State.newStop (s t : State) (sources reason origin : Nat) : Prop :=
  t.latched = true ∧ t.on REF_STOP_STATUS_ARMED = false ∧ t.outLevels = 0 ∧ t.f REF_FENCE_EN_EN = 0 ∧ t.f REF_PWEN_EN_EN = 0 ∧
    t.f REF_STOP_STATUS_SOURCES = sources ∧ t.f REF_STOP_STATUS_REASON = reason ∧
    t.f REF_STOP_STATUS_ORIGIN = origin % 2 ^ 4 ∧ t.f REF_STOP_ID_STOP_ID = wrapInc 32 (s.f REF_STOP_ID_STOP_ID) % 2 ^ 32 ∧
    t.f REF_STOP_STAT_STOPS = satInc 16 (s.f REF_STOP_STAT_STOPS) % 2 ^ 16 ∧
    t.f REF_STOP_LOCAL_TIME_STAMP = s.stampWord 0 % 2 ^ 64 ∧ t.f REF_STOP_TIME_STAMP = s.stampWord 0 % 2 ^ 64 ∧
    t.rad.bursting = true ∧ t.stop.latchedAt = some s.tim.edges ∧ t.eng = s.eng ∧
    (∀ q : RF, q.key / 64 < 0x0200060000 → q.key / 64 / 0x10000 ≠ 0x20000 + iREF → q.key ≠ SCB_DROPPED_COUNT.key →
      t.f q = s.f q) ∧
    ∀ a, (a < 0x04006A0000 ∨ 0x04006A0020 ≤ a) → (a < 0x0400C00000 ∨ 0x0400C00020 ≤ a) → t.rdB a = s.rdB a

/-- From s to t, latched at an earlier edge, a raise has come (R388): it is counted and the outputs stay as they were. -/
def State.raiseMore (s t : State) : Prop :=
  t.latched = true ∧ t.on REF_STOP_STATUS_ARMED = false ∧ t.outLevels = 0 ∧
    t.f REF_STOP_STAT_RAISES = satInc 16 (s.f REF_STOP_STAT_RAISES) % 2 ^ 16 ∧
    t.f REF_STOP_STATUS_REASON = s.f REF_STOP_STATUS_REASON ∧ t.f REF_STOP_ID_STOP_ID = s.f REF_STOP_ID_STOP_ID ∧
    t.stop.raisedAt = some s.tim.edges ∧ t.mem = s.mem ∧ t.eng = s.eng ∧
    ∀ q : RF, q.key / 64 / 0x10000 ≠ 0x20000 + iREF → q.key ≠ SCB_DROPPED_COUNT.key → t.f q = s.f q

/-- From s to t, message m has been taken and an ACK with this status has left (R480). -/
def State.acked (s t : State) (m : BxlMsg) (status : Nat) : Prop :=
  t.answer = status ∧ (t.pair m.src).accepted = m.num ∧ (t.pair m.src).unacked = (s.pair m.src).unacked ∧
    ∃ x ∈ t.bxl.out, x.kind = 1 ∧ x.dst = m.src ∧ x.body = leBytes 4 m.num ++ leBytes 1 status ++ leBytes 3 0

/-! ### Host frames -/

/-- A command frame that comes whole and with its CHECK at the idle service UART (R581, R582, R585). -/
def State.hearsUart (s : State) (f : List Byte) : Prop :=
  s.hstServes = true ∧ s.serves iHST = true ∧ s.on HST_UART_EN = true ∧ (s.hif 1).queue = [] ∧ (s.hif 1).busy = false ∧
    cmdLen f ≤ 1024 ∧ f.length = 36 + cmdLen f ∧ crc32c (f.take (32 + cmdLen f)) = cmdCheck f

/-- From s to t the frame has been answered on the UART with this completion (R582) and counted. -/
def State.hostAnswered (s t : State) (f : List Byte) (status seq flags : Nat) (payload : List Byte) : Prop :=
  t.hst.uart = s.hst.uart ++
      [uartFrame (completionFrame (cmdOp f) status (cmdTag f) (cmdSession f) seq flags payload)] ∧
    (t.hif 1).queue = [] ∧ (t.hif 1).busy = false ∧
    t.f (HST_Ix_STAT_COMMANDS 1) = satInc 32 (s.f (HST_Ix_STAT_COMMANDS 1)) % 2 ^ 32

/-! ### Engines -/

/-- Context c of engine e issues the word w: it is the running context, the engine's clock runs, it waits for no answer of
the Dugout and no cancel, no refused load is due for a register that w reads, the fetch passes its checks and finds w at
the pc, an open atomic section has instructions left, and the opcode is one of R85. -/
def State.issues (s : State) (e c : Nat) (w : BitVec 32) : Prop :=
  s.running e = some c ∧ s.engOn e = true ∧ (s.ctx e c).ask = none ∧ (s.ctx e c).cancelled = false ∧
    (s.ctx e c).deferred.any (fun d => d.isLoad && (wReads w).contains (d.file, d.rd)) = false ∧
    s.fetchCheck e (s.ctx e c) = none ∧ ((s.ctx e c).atomic = true → (s.ctx e c).left ≠ 0) ∧ opKnown (wOp w) = true ∧
    s.fetchWord e (s.ctx e c).pc = w

/-- The state in which the body of an instruction runs: the line it was fetched from is in the instruction cache (R80). -/
def State.fetched (s : State) (e c : Nat) : State := s.fetchLine e (s.ctx e c).pc

/-- From s to t, context c of engine e has retired one instruction and gone on at pc with the registers of y; the order of
issue (its state and age) may have changed at the preemption point. -/
def State.went (s t : State) (e c : Nat) (y : Ctx) (pc : Nat) : Prop :=
  ∃ st age, t.ctx e c = { y with
    pc := pc
    retired := y.retired + 1
    left := if y.atomic && (s.ctx e c).atomic then y.left - 1 else y.left
    st := st
    age := age }

/-- From s to t, context c of engine e has taken a trap (R113) at pc: the section is ended, TRAP_PC, TRAP_CAUSE and TRAP_VALUE
are written, and the context goes on at ENG_TRAP_VEC in handler mode with every other register as it was. -/
def State.trapped (s t : State) (e c pc cause status value : Nat) : Prop :=
  ∃ st age, t.ctx e c = { s.ctx e c with
    handler := true
    atomic := false
    left := 0
    trapPc := pc
    trapCause := status * 256 + cause
    trapValue := value
    pc := s.f (ENG_TRAP_VEC_VEC e) * 4
    st := st
    age := age }

/-- From s to t nothing has changed but what retiring an instruction of context c of engine e changes by itself: that
context, the order of issue of the engine's other contexts, its instruction cache, its counters of retired instructions
and preemptions, its PSTATE, the clock that orders arrivals, and the count of free values. Memory, every other register
and every other island's state are as they were. -/
def State.quiet (s t : State) (e c : Nat) : Prop :=
  t = { s with
    eng := t.eng
    regs := t.regs
    dug := { s.dug with clock := t.dug.clock }
    idleSince := t.idleSince
    fresh := t.fresh } ∧
    (∀ d, d ≠ e → t.engSt d = s.engSt d) ∧
    (∀ d, d ≠ c → ∃ st age, t.ctx e d = { s.ctx e d with st := st, age := age }) ∧
    (∀ q : RF, q.key ≠ (ENG_RETIRED_COUNT e).key → q.key ≠ (ENG_PREEMPT_COUNT e).key →
      q.key ≠ (ISL_PSTATE_STATE (iENG e)).key → t.f q = s.f q)

end Sys2Proof.Machine
end

