-- ==== Sys2Proof/WellFormed.lean ====
section
/-! DEFINITION. Which commands are well formed: every operand is in the range the spec gives it. A token row carries a
token for its own endpoint, a message row a message of its own kind, an index lies within the units there are. -/

namespace Sys2Proof

/-- A number below a bound. -/
def below (n bound : Nat) : Bool := decide (n < bound)

/-- An island ID of the map (R20). -/
def islandId (i : Nat) : Bool := decide (i < 9) || (decide (0x10 ≤ i) && decide (i < 0x30))

/-- An endpoint of an island (R125). -/
def endpointId (e : Nat) : Bool := decide (e < 0x10000) && islandId (e / 0x400)

/-- The fields of a stamp (R56): flow, 32-bit sequence number, output index of at most 16 outputs. -/
def Stamp.wellFormed (s : Stamp) : Bool := decide (s.flow < 8192) && decide (s.seq < 2 ^ 32) && decide (s.index < 16)

/-- The fields of a token: endpoints, a 32-bit tag, 64 bits of data (R125, R126). -/
def Token.wellFormed (t : Token) : Bool :=
  decide (t.dest < 0x10000) && decide (t.tag < 2 ^ 32) && decide (t.data < 2 ^ 64) && decide (t.src < 0x10000) &&
    (match t.stamp with | some s => s.wellFormed | none => true)

/-- A token at one of the ports of an island. -/
def tokenAt (t : Token) (isl : Nat) (ports : List Nat) : Bool :=
  t.wellFormed && t.dest / 0x400 == isl && ports.contains (t.dest % 0x400)

/-- A token at any port of islands lo to hi. -/
def tokenRange (t : Token) (lo hi : Nat) : Bool :=
  t.wellFormed && decide (lo ≤ t.dest / 0x400) && decide (t.dest / 0x400 ≤ hi)

/-- The fields of a queue word: one of 64 queues, a class, 64 bits of data (R161, R163). -/
def QWord.wellFormed (q : QWord) : Bool :=
  decide (q.queue < 64) && decide (q.prio < 8) && decide (q.data < 2 ^ 64) && decide (q.src < 0x10000)

/-- A Bexlink message of a kind (R478, R479): a body of at most 1,024 bytes, positions of 4 bits. -/
def BxlMsg.wellFormed (m : BxlMsg) (kind : Nat) : Bool :=
  m.kind == kind && decide (m.prio < 8) && decide (m.src < 16) && decide (m.dst < 16) && decide (m.epoch < 2 ^ 16) &&
    decide (m.num < 2 ^ 32) && decide (m.body.length ≤ 1024)

/-- A message whose body begins with an operation (R479, R491, R521). -/
def BxlMsg.wellFormedOp (m : BxlMsg) (kind : Nat) (op : Byte) : Bool := m.wellFormed kind && m.body.head? == some op

/-- A target, setpoint or measured value (R402): a token at its port of MCH, or a write to one of 48 slots. -/
def SlotIn.wellFormed (port : Nat) : SlotIn → Bool
  | .token t => tokenAt t 0x25 [port]
  | .write req k value => endpointId req && decide (k < 48) && decide (value < 2 ^ 32)

/-- A Scorebook command (R549): a token at SCB:0x000, or a write of SCB_CMD. -/
def ScbIn.wellFormed : ScbIn → Bool
  | .token t => tokenAt t 0x04 [0]
  | .write req value => endpointId req && decide (value < 2 ^ 32)

/-- A CAN frame (R447): an identifier of 11 or 29 bits, a data length code of 4 bits, the data it stands for. -/
def CanFrame.wellFormed (f : CanFrame) : Bool :=
  decide (f.id < (if f.ide then 2 ^ 29 else 2 ^ 11)) && decide (f.dlc < 16) && decide (f.data.length ≤ 64)

/-- A well-formed command. -/
def Instr.wellFormed : Instr → Bool
  | .registerWrite req addr size value =>
      endpointId req && below addr (2 ^ 40) && [1, 2, 4, 8].contains size && below value (2 ^ 64)
  | .unlock req isl value => endpointId req && islandId isl && below value (2 ^ 64)
  | .locked req isl value => endpointId req && islandId isl && below value (2 ^ 64)
  | .refuseCaptureClear req isl value => endpointId req && islandId isl && below value (2 ^ 64)
  | .pstateRequest req isl value => endpointId req && islandId isl && below value (2 ^ 64)
  | .islandGate isl => islandId isl
  | .islandWakeDone isl => islandId isl
  | .refinLost => true
  | .refinReturn => true
  | .journalWriteDone => true
  | .mramDeviceFail dev addr _ => below dev 2 && below addr (2 ^ 40)
  | .commitRecordValid => true
  | .outputConfirmed flow _ _ _ => below flow 4096
  | .islandFaultTrap isl => islandId isl
  | .heartbeatMissed isl => islandId isl
  | .faultReset _ isl => islandId isl
  | .integerRegister e _ => below e 16
  | .integerImmediate e _ => below e 16
  | .lup e _ => below e 16
  | .aup e _ => below e 16
  | .integerLoad e _ => below e 16
  | .integerStore e _ => below e 16
  | .atomicMemoryOperation e _ => below e 16
  | .floatingLoad e _ => below e 16
  | .floatingStore e _ => below e 16
  | .conditionalBranch e _ => below e 16
  | .jal e _ => below e 16
  | .jalr e _ => below e 16
  | .floatingOperate e _ => below e 16
  | .fusedMultiplyAdd e _ => below e 16
  | .vectorOperate e _ => below e 16
  | .vld e _ => below e 16
  | .vst e _ => below e 16
  | .memoryRefusal e => below e 16
  | .eccUncorrectable e isl => below e 16 && islandId isl
  | .take e _ => below e 16
  | .tagk e _ => below e 16
  | .emit e _ => below e 16
  | .sendq e _ => below e 16
  | .recvq e _ => below e 16
  | .spawn e _ => below e 16
  | .cancel e _ => below e 16
  | .dugoutAnswer e c => below e 16 && below c 8
  | .commit e _ => below e 16
  | .commitE e _ => below e 16
  | .yield e _ => below e 16
  | .snap e _ => below e 16
  | .stop e _ => below e 16
  | .mto e _ => below e 16
  | .mfo e _ => below e 16
  | .abort e _ => below e 16
  | .mfc e _ => below e 16
  | .mtc e _ => below e 16
  | .syncM e _ => below e 16
  | .syncI e _ => below e 16
  | .atomB e _ => below e 16
  | .atomE e _ => below e 16
  | .atomicLimit e => below e 16
  | .tret e _ => below e 16
  | .brk e _ => below e 16
  | .dvfsRequest req e value => endpointId req && below e 16 && below value (2 ^ 64)
  | .dvfsStepDone e => below e 16
  | .dispatch => true
  | .commitConfirm e c => below e 16 && below c 8
  | .operandToken t => tokenAt t 0x07 [0]
  | .flowIntake t => tokenAt t 0x07 [1]
  | .flowItemDelivery flow => below flow 4096
  | .descWrite req => endpointId req
  | .descRead req => endpointId req
  | .descDelete req => endpointId req
  | .descCancel req => endpointId req
  | .descRearm req => endpointId req
  | .spillRefillBatch => true
  | .dugoutStall => true
  | .queueWord q => q.wellFormed
  | .queuePush req n value => endpointId req && below n 64 && below value (2 ^ 64)
  | .queueConfig req n value => endpointId req && below n 64 && below value (2 ^ 64)
  | .staleConfig req n value => endpointId req && below n 64 && below value (2 ^ 64)
  | .staleTail n => below n 64
  | .millisecondMark _ => true
  | .streamConfig req p g value => endpointId req && below p 4 && below g 3 && below value (2 ^ 64)
  | .blankInput p _ => below p 4
  | .sampleOverrun p g => below p 4 && below g 3
  | .spiTransaction t => tokenRange t 0x2C 0x2F
  | .spiTransactionDone p _ => below p 4
  | .channelEnable req c => endpointId req && below c 512
  | .channelDisable req c => endpointId req && below c 512
  | .channelStart req c => endpointId req && below c 512
  | .channelStop req c => endpointId req && below c 512
  | .vectorOn req c => endpointId req && below c 512
  | .vectorOff req c => endpointId req && below c 512
  | .channelLoopWrite req c value => endpointId req && below c 512 && below value (2 ^ 64)
  | .integrationBoundary c _ => below c 512
  | .pullinFail c => below c 512
  | .syncFail c => below c 512
  | .coastExpiry c => below c 512
  | .fallback c => below c 512
  | .vectorUpdate t => tokenAt t 0x20 [0x020]
  | .vectorApply => true
  | .searchCommand t => tokenAt t 0x20 [0x010, 0x011, 0x012]
  | .searchCaptureStart k => below k 2
  | .searchDone k _ => below k 2
  | .searchCancel t => tokenAt t 0x20 [0x013]
  | .snapSoftRequest req value => endpointId req && below value (2 ^ 64)
  | .snapStackRequest req value => endpointId req && below value (2 ^ 64)
  | .snapPeriodConfig req addr value => endpointId req && below addr (2 ^ 40) && below value (2 ^ 64)
  | .snapPeriodic => true
  | .snapEdge => true
  | .snapFillDone => true
  | .bankHold req value => endpointId req && below value (2 ^ 64)
  | .navUnitDecoded c _ => below c 512
  | .bcastExpiry y => below y 7
  | .posCommand t => tokenAt t 0x22 [0]
  | .posCommandStart u => below u 2
  | .posSearchDone u => below u 2
  | .posDeadline u => below u 2
  | .posCancel t => tokenAt t 0x22 [1]
  | .libraryStart e addr _ _ _ _ => below e 16 && below addr (2 ^ 40)
  | .baseEpoch e _ _ => below e 16
  | .correctionFrame _ => true
  | .rtkSolution e _ => below e 16
  | .cofPart e c r _ _ => below e 16 && below c 8 && below r 64
  | .cofEpochLimit e c r _ _ => below e 16 && below c 8 && below r 64
  | .timeLatch req value => endpointId req && below value (2 ^ 64)
  | .gpsOffsetWrite req value => endpointId req && below value (2 ^ 64)
  | .leapSecond => true
  | .sourceSelect req value => endpointId req && below value (2 ^ 64)
  | .slewMaxWrite req value => endpointId req && below value (2 ^ 64)
  | .timeCorrection req value => endpointId req && below value (2 ^ 64)
  | .stepPart => true
  | .holdover => true
  | .captureInputEdge n _ _ => below n 16
  | .captureStampRead req n => endpointId req && below n 16
  | .pinEnable req p value => endpointId req && below p 32 && below value (2 ^ 64)
  | .pinDisable req p value => endpointId req && below p 32 && below value (2 ^ 64)
  | .pinLeadingEdge p => below p 32
  | .pinTrailingEdge p => below p 32
  | .txStampRead req p => endpointId req && below p 2
  | .ethTransmit t => tokenAt t 0x28 [0x010, 0x011]
  | .ethFrameSent p _ => below p 2
  | .ethFrameReceived p _ _ _ => below p 2
  | .ethLinkChange p _ _ _ => below p 2
  | .radioPortEnable req n value => endpointId req && below n 4 && below value (2 ^ 64)
  | .radioPortDisable req n value => endpointId req && below n 4 && below value (2 ^ 64)
  | .arm req a => endpointId req && below a 64
  | .armFresh req a => endpointId req && below a 64
  | .updateMap req a => endpointId req && below a 64
  | .updateTiming req a => endpointId req && below a 64
  | .updateGroups req a => endpointId req && below a 64
  | .release req a => endpointId req && below a 64
  | .associationOff req a => endpointId req && below a 64
  | .beacon n => below n 4
  | .joinReq n _ _ => below n 4
  | .connectionEvent a => below a 64
  | .robotFrame n _ _ => below n 4
  | .supervisionTimeout a => below a 64
  | .joinFail a => below a 64
  | .closeTimeout a => below a 64
  | .updateInstant a => below a 64
  | .radioRecordAssociation t => tokenAt t 0x23 [0x010, 0x011]
  | .radioRecordGroup t => tokenAt t 0x23 [0x012, 0x013]
  | .groupEvent g => below g 16
  | .stopBurst n => below n 4
  | .budgetSecond => true
  | .zonEnable req value => endpointId req && below value (2 ^ 64)
  | .zonCommand t => tokenAt t 0x24 [1]
  | .reserve => true
  | .check => true
  | .zonRelease => true
  | .releaseOwner => true
  | .zonWritebackDone => true
  | .zonCancel t => tokenAt t 0x24 [2]
  | .trackExpiry _ => true
  | .zonRebuild req copy value => endpointId req && below copy 2 && below value (2 ^ 64)
  | .zon2pcHoldTimeout _ => true
  | .forward m => m.wellFormedOp 8 1
  | .prepare m => m.wellFormedOp 8 2
  | .vote m => m.wellFormedOp 8 3
  | .decide m => m.wellFormedOp 8 4
  | .zonDone m => m.wellFormedOp 8 5
  | .zonResult m => m.wellFormedOp 8 6
  | .zonAsk m => m.wellFormedOp 8 7
  | .zonConfig m => m.wellFormedOp 8 8
  | .stopInput p _ _ => below p 2
  | .stopRaise req value => endpointId req && below value (2 ^ 64)
  | .stopArm req => endpointId req
  | .stopRelease req => endpointId req
  | .stopArmExpiry => true
  | .disagree => true
  | .readbackMismatch o _ => below o 20
  | .outputEnableWrite req _ value => endpointId req && below value (2 ^ 64)
  | .slotEnable req k => endpointId req && below k 48
  | .slotRun req k => endpointId req && below k 48
  | .slotDisable req k => endpointId req && below k 48
  | .clearFault req k => endpointId req && below k 48
  | .slotTarget i => i.wellFormed 0
  | .slotSetpoint i => i.wellFormed 1
  | .measuredWrite i => i.wellFormed 2
  | .outputStep => true
  | .lawTick k => below k 48
  | .stale k => below k 48
  | .ilSoftSet req value => endpointId req && below value (2 ^ 64)
  | .ilSoftClr req value => endpointId req && below value (2 ^ 64)
  | .analogSample g _ => below g 4
  | .impactRateBucket => true
  | .pulseEdge n _ _ _ => below n 16
  | .pulseZero n => below n 16
  | .pwmPeriodStart n => below n 24
  | .tallyEnable req i value => endpointId req && below i 16 && below value (2 ^ 64)
  | .tallyDisable req i value => endpointId req && below i 16 && below value (2 ^ 64)
  | .tallyIncrement t => tokenAt t 0x26 [0]
  | .tallyIncWrite req i value => endpointId req && below i 16 && below value (2 ^ 64)
  | .tallyLatch i => below i 16
  | .tallyCheckpoint i => below i 16
  | .tallySaveDone => true
  | .tallyPartialSave => true
  | .tallyClear req i => endpointId req && below i 16
  | .tempWrite req i value => endpointId req && below i 16 && below value (2 ^ 64)
  | .tempStale i => below i 16
  | .lagStep => true
  | .pulseOutputEnable req n value => endpointId req && below n 8 && below value (2 ^ 64)
  | .pulseOutputStart n => below n 8
  | .pulseOutputEnd n => below n 8
  | .canEnable req n value => endpointId req && below n 6 && below value (2 ^ 64)
  | .canDisable req n value => endpointId req && below n 6 && below value (2 ^ 64)
  | .recover req n => endpointId req && below n 6
  | .canRecoveryDone n => below n 6
  | .canError n _ => below n 6
  | .canFrameReceived n frame _ => below n 6 && frame.wellFormed
  | .canObjectEnable req o value => endpointId req && below o 2048 && below value (2 ^ 64)
  | .canObjAck req value => endpointId req && below value (2 ^ 64)
  | .canQueueRd req q value => endpointId req && below q 8 && below value (2 ^ 64)
  | .canTxRequest t => tokenAt t 0x27 [0x010, 0x011, 0x012, 0x013, 0x014, 0x015]
  | .canTxSelect n _ => below n 6
  | .canTxComplete n _ => below n 6
  | .canCancel t => tokenAt t 0x27 [0x020, 0x021, 0x022, 0x023, 0x024, 0x025]
  | .kickoff p _ _ _ _ => below p 2
  | .toss p _ => below p 2
  | .ringDiscoveryEnd => true
  | .linkDown p => below p 2
  | .linkRetrain p _ _ _ _ => below p 2
  | .heartbeatSend => true
  | .heartbeat p _ => below p 2
  | .bexlinkStop p _ => below p 2
  | .memberFail m => below m 16
  | .isolated => true
  | .bexlinkSend t => tokenAt t 0x29 [0]
  | .ack m => m.wellFormed 1
  | .ackTimeout dst => below dst 16
  | .tokenMessage m => m.wellFormed 2
  | .itemMessage m => m.wellFormed 3
  | .mirror m => m.wellFormed 4
  | .roster m => m.wellFormed 5
  | .snapMessage m => m.wellFormed 6
  | .timecfg m => m.wellFormed 7
  | .stopinfo m => m.wellFormed 10
  | .controlJoinReq m => m.wellFormedOp 11 1
  | .leaveReq m => m.wellFormedOp 11 2
  | .controlStopArm m => m.wellFormedOp 11 3
  | .stopReady m => m.wellFormedOp 11 4
  | .controlStopRelease m => m.wellFormedOp 11 5
  | .handoverDone m => m.wellFormedOp 11 6
  | .timeTSend p _ => below p 2
  | .timeExchange p _ _ _ => below p 2
  | .leave req => endpointId req
  | .retrainWest req => endpointId req
  | .retrainEast req => endpointId req
  | .begin req => endpointId req
  | .writeBlock req => endpointId req
  | .writeBlockDone _ => true
  | .verify req => endpointId req
  | .verifyDone => true
  | .activate req => endpointId req
  | .swapPhaseDone _ => true
  | .restart req => endpointId req
  | .confirm req => endpointId req
  | .reject req _ => endpointId req
  | .distribute req => endpointId req
  | .abandon req => endpointId req
  | .trialTimeout => true
  | .confirming => true
  | .reverting => true
  | .updateBlock m => m.wellFormedOp 9 1
  | .updatePrepare m => m.wellFormedOp 9 2
  | .updateVote m => m.wellFormedOp 9 3
  | .updateDecide m => m.wellFormedOp 9 4
  | .updateSwapped m => m.wellFormedOp 9 5
  | .updateRestart m => m.wellFormedOp 9 6
  | .updateRestartTime => true
  | .healthy m => m.wellFormedOp 9 7
  | .unhealthy m => m.wellFormedOp 9 8
  | .verdict m => m.wellFormedOp 9 9
  | .updateAsk m => m.wellFormedOp 9 10
  | .updateRecord m => m.wellFormedOp 9 11
  | .decideTimeout => true
  | .sliceStart => true
  | .sliceEnd _ => true
  | .sliceAbort => true
  | .sliceRetry => true
  | .hang isl => islandId isl
  | .roundEnd => true
  | .fence req isl => endpointId req && islandId isl
  | .islandRelease req isl => endpointId req && islandId isl
  | .islandReleaseDone _ => true
  | .lastBreathClear req value => endpointId req && below value (2 ^ 64)
  | .scbSoftwareRecord t => tokenAt t 0x04 [1]
  | .scbRecordWritten _ => true
  | .openBookmark i => i.wellFormed
  | .closeBookmark i => i.wellFormed
  | .advanceBookmark i => i.wellFormed
  | .clearRecords i => i.wellFormed
  | .sendRecords i => i.wellFormed
  | .mainRing i => i.wellFormed
  | .powerOn => true
  | .converterStart => true
  | .pinReset => true
  | .softwareReset req value => endpointId req && below value (2 ^ 64)
  | .brownOut => true
  | .resetRelease _ _ _ => true
  | .powerupBistDone _ _ _ => true
  | .loaderCheckDone _ => true
  | .loaderDone _ => true
  | .restore => true
  | .runStart _ => true
  | .pwrfailAssert => true
  | .pwrfailDeassert => true
  | .thermalSample _ _ _ => true
  | .ejectRequest => true
  | .hostRead x _ => below x 3
  | .hostWrite x _ => below x 3
  | .hostToken x _ => below x 3
  | .submit x _ => below x 3
  | .hostClose x _ => below x 3
  | .ping x _ => below x 3
  | .sqDoorbell req value _ => endpointId req && below value (2 ^ 64)
  | .bar2Access _ addr _ => below addr (2 ^ 40)
  | .hostNotice t => tokenRange t 0x2A 0x2A
  | .pciePerst _ => true
  | .pcieLinkChange _ _ _ _ => true
  | .report => true
  | .arbitrationLost n => below n 6
  | .pauseExpiry p => below p 2
  | .watchdog => true
  | .stackOfOne => true
  | .zonMergeDone m => below m 16
  | .zonRebuildDone => true
  | .ejectReqHigh => true
  | .cqRdWrite req value => endpointId req && below value (2 ^ 64)

end Sys2Proof
end

