-- ==== Sys2Proof/Certificates/Slice0/Obligations.lean ====
section
/-! DEFINITION. The statements for the provers, chapter by chapter of the spec. A command's statement says what the next state
is where the command has its effect, under hypotheses on the state and the operands alone, and what it leaves as it was. -/

section
open Sys2Proof Sys2Proof.Machine

/-! ### The block -/

/-- A step runs the command at the front of the queue on the state without it, whatever the command and the state; with
none waiting the time of one SREF edge passes (model's choice: log entry 55), and in a module held in reset nothing does. -/
def Obligations.StepRunsFront : Prop :=
  ∀ s : State,
    (∀ (c : Instr) (rest : List Instr), s.pending = c :: rest → step s = exec c { s with pending := rest }) ∧
    (s.pending = [] → step s = .next s.tick) ∧ (s.pending = [] → s.boot.held = true → step s = .next s)

/-- Every command answers a next state in every state: none ends in a fault or a refusal, so no data or order of commands
stops the block. -/
def Obligations.NeverStops : Prop :=
  (∀ (c : Instr) (s : State), ∃ t : State, exec c s = .next t) ∧ ∀ s : State, ∃ t : State, step s = .next t

/-- No command touches the queue of the commands behind it, not even one that resets the module. -/
def Obligations.QueueKept : Prop :=
  ∀ (c : Instr) (s t : State), exec c s = .next t → t.pending = s.pending

/-- What reset leaves, of the values that the register tables give: the Whistle latched with reason RESET and every output
safe (R386, R393), the islands that never gate and the others ON, device time 0, the counters of BST 0 and its slices on,
the thermal cap set, the host rings and the UART at their sizes, POWER_ON as the cause of the first reset (R573). -/
def Obligations.ResetValues : Prop :=
  (∀ p ∈ [(REF_STOP_STATUS_LATCHED, 1), (REF_STOP_STATUS_REASON, 3), (REF_STOP_STATUS_ARMED, 0), (REF_FENCE_EN_EN, 0),
      (REF_PWEN_EN_EN, 0), (REF_FENCED_FENCED, 0), (REF_ISLAND_CMD_BUSY, 0), (BST_CTRL_RUN_EN, 1), (BST_CTRL_ROUND_MS, 10000),
      (BST_STARVED_STARVED, 0), (BST_ROUNDS_COUNT, 0), (SCB_STATUS_LOGFAIL, 0), (SCB_DROPPED_COUNT, 0),
      (SCB_NOTICE_EN, 0), (SYS_BOOT_PHASE, 0), (SYS_RESET_CAUSE_CAUSE, 1), (PWR_STATUS_PWRFAIL, 0),
      (PWR_STATUS_RAILS_GOOD, 1), (PWR_THERM_CAP_EN, 1), (PWR_THERM_CAP_CODE, 3), (PWR_THERM_CAP_C, 100),
      (PWR_THERM_HYST_C, 5), (HST_PCI_CFG_CQ_IRQ, 1), (HST_Q_SIZE_ENTRIES, 16), (HST_NR_SIZE_ENTRIES, 256),
      (HST_UART_EN, 1), (HST_UART_DIV, 136), (HST_ETH_EN, 0), (HST_ETH_PORTS, 3), (HST_ETH_UDP_PORT, 45120),
      (UPD_CMD_BUSY, 0)], State.reset.f p.1 = p.2) ∧
    State.reset.latched = true ∧ State.reset.outLevels = 0 ∧ State.reset.now = 0 ∧ State.reset.mem = [] ∧
    State.reset.pending = [] ∧ ∀ x ∈ [0, 1, 2], State.reset.f (HST_Ix_CFG_MEM_EN x) = 0 ∧ State.reset.hif x = HstIf.fresh

/-- The state right after reset has its memory and its registers in their canonical form. -/
def Obligations.ResetWf : Prop := State.reset.wf = true

/-- From every state whose memory and registers are in their canonical form, every step, of any command or of an edge with
none, leads to one whose memory and registers are: equal memories stay equal data. -/
def Obligations.StepKeepsWf : Prop :=
  ∀ s t : State, s.wf = true → step s = .next t → t.wf = true

/-! ### Accesses, islands, the journal, faults (chapter 01) -/

/-- R14, R16, R33, R34, R35, R13, R22: a register write takes effect by its access codes: a write to POS_CTRL sets its two
enables; a locked RWL field keeps its value and the requester gets NOT_OWNER; a reserved encoding is refused with RANGE and
changes nothing; an island that is OFF answers NO_ROUTE, with the refused access captured; the low half of a 64-bit register
is held for its requester and changes no register; a write to memory stores its bytes, little-endian. UNLOCK from REF
clears the lock and from elsewhere is refused, LOCKED sets it, and a 1 to VALID clears the refused-access record. -/
def Obligations.RegisterAccess : Prop :=
  ∀ (s : State) (req v : Nat),
    (s.serves iPOS = true → v < 4 →
      ∃ t : State, exec (.registerWrite req 0x0200220020 4 v) s = .next t ∧ t.answer = cOK ∧ t.f POS_CTRL_U0_EN = v % 2 ∧
        t.f POS_CTRL_U1_EN = v / 2 ∧ s.keeps t [POS_CTRL_U0_EN, POS_CTRL_U1_EN, ISL_PSTATE_STATE iPOS]) ∧
    (s.serves iDUG = true → s.on (ISL_LOCK_LOCKED iDUG) = true → v < 2 → s.f DUG_CTRL_SPILL_EN ≠ v →
      ∃ t : State, exec (.registerWrite req 0x0200070020 4 v) s = .next t ∧ t.answer = cNOT_OWNER ∧
        t.f (ISL_REFUSE_INFO_VALID iDUG) = 1 ∧ s.keeps t (ISL_PSTATE_STATE iDUG :: refuseRegs iDUG)) ∧
    (s.serves iZON = true → (v = 0 ∨ 1000 < v ∧ v < 2 ^ 16) →
      ∃ t : State, exec (.registerWrite req 0x020024003C 4 v) s = .next t ∧ t.answer = cRANGE ∧
        s.keeps t (ISL_PSTATE_STATE iZON :: refuseRegs iZON)) ∧
    (∀ isl a n : Nat, regIsland a = some isl → prefixAddr a = false → s.ist isl = 0 → s.on (ISL_REFUSE_INFO_VALID isl) = false →
      a < 2 ^ 40 →
      ∃ t : State, exec (.registerWrite req a n v) s = .next t ∧ t.answer = cNO_ROUTE ∧ t.f (ISL_REFUSE_ADDR_ADDR isl) = a ∧
        t.f (ISL_REFUSE_INFO_VALID isl) = 1 ∧ t.f (ISL_REFUSE_INFO_WRITE isl) = 1 ∧
        t.f (ISL_REFUSE_INFO_STATUS isl) = cNO_ROUTE ∧ s.keeps t (refuseRegs isl)) ∧
    (∀ (isl a : Nat) (r : RegD), regIsland a = some isl → regAt a = some (r, a) → r.bytes = 8 → a % 4 = 0 →
      s.serves isl = true →
      ∃ t : State, exec (.registerWrite req a 4 v) s = .next t ∧ t.answer = cOK ∧ t.lowHalf req a = some (v % 2 ^ 32) ∧
        s.keeps t [ISL_PSTATE_STATE isl]) ∧
    (∀ a n : Nat, regIsland a = none → s.memCheck req a n true = cOK →
      ∃ t : State, exec (.registerWrite req a n v) s = .next t ∧ t.answer = cOK ∧ t.rd a n = v % 2 ^ (8 * n) ∧ t.regs = s.regs ∧
        t.eng = s.eng ∧ ∀ b : Nat, (b < a ∨ a + n ≤ b) → t.rdB b = s.rdB b) ∧
    (∀ isl : Nat, isIsland isl = true → s.holds isl = false →
      (epIsl req = iREF →
        ∃ t : State, exec (.unlock req isl v) s = .next t ∧ t.answer = cOK ∧ t.f (ISL_LOCK_LOCKED isl) = v % 2 ∧
          s.keeps t [ISL_LOCK_LOCKED isl]) ∧
      (epIsl req ≠ iREF →
        ∃ t : State, exec (.unlock req isl v) s = .next t ∧ t.answer = cNOT_OWNER ∧ s.keeps t (refuseRegs isl)) ∧
      (v / 2 % 2 = 0 →
        ∃ t : State, exec (.locked req isl v) s = .next t ∧ t.answer = cOK ∧ t.f (ISL_LOCK_LOCKED isl) = 1 ∧
          s.keeps t [ISL_LOCK_LOCKED isl]) ∧
      ∃ t : State, exec (.refuseCaptureClear req isl v) s = .next t ∧ t.answer = cOK ∧ t.f (ISL_REFUSE_INFO_VALID isl) = 0 ∧
        t.f (ISL_REFUSE_COUNT_COUNT isl) = 0 ∧ s.keeps t [ISL_REFUSE_INFO_VALID isl, ISL_REFUSE_COUNT_COUNT isl])

/-- R30, R31, R32: a PSTATE write of ON makes a serving island ON, one that allows gating leaves it IDLE, one of OFF is
refused with RANGE by an island that never enters it and turns every other island OFF; an IDLE island whose delay has passed
without work is GATED; an island that is OFF with a request to be on comes up with the end of its wake. -/
def Obligations.IslandPower : Prop :=
  ∀ (s : State) (req isl v : Nat), isIsland isl = true → isl < 0x2E →
    (s.serves isl = true → bits v 6 4 = 3 →
      ∃ t : State, exec (.pstateRequest req isl v) s = .next t ∧ t.answer = cOK ∧ t.ist isl = 3 ∧
        t.f (ISL_PSTATE_REQ isl) = 3 ∧ t.f (ISL_PSTATE_GATE_DELAY isl) = bits v 15 8 ∧
        s.keeps t [ISL_PSTATE_STATE isl, ISL_PSTATE_REQ isl, ISL_PSTATE_GATE_DELAY isl]) ∧
    (s.serves isl = true → bits v 6 4 = 2 → ¬(0x10 ≤ isl ∧ isl < 0x20) →
      ∃ t : State, exec (.pstateRequest req isl v) s = .next t ∧ t.answer = cOK ∧ t.ist isl = 2 ∧
        s.keeps t [ISL_PSTATE_STATE isl, ISL_PSTATE_REQ isl, ISL_PSTATE_GATE_DELAY isl]) ∧
    (s.holds isl = false → bits v 6 4 = 0 → neverGates isl = true →
      ∃ t : State, exec (.pstateRequest req isl v) s = .next t ∧ t.answer = cRANGE ∧ s.keeps t (refuseRegs isl)) ∧
    (s.serves isl = true → bits v 6 4 = 0 → neverGates isl = false → isl ≠ iBXL →
      ∃ t : State, exec (.pstateRequest req isl v) s = .next t ∧ t.answer = cOK ∧ t.ist isl = 0 ∧
        t.f (ISL_PSTATE_REQ isl) = 0) ∧
    (s.ist isl = 2 → neverGates isl = false → s.islandActive isl = false →
      Tab.get (fun _ => 0) s.idleSince isl + s.f (ISL_PSTATE_GATE_DELAY isl) * 10 ≤ s.now →
      ∃ t : State, exec (.islandGate isl) s = .next t ∧ t.ist isl = 1 ∧ s.keeps t [ISL_PSTATE_STATE isl]) ∧
    (s.ist isl = 0 → s.f (ISL_PSTATE_REQ isl) ≠ 0 → s.held = [] → isl ≠ iTAL → isl ≠ iUPD → isl ≠ iSCB →
      ∃ t : State, exec (.islandWakeDone isl) s = .next t ∧ t.ist isl = (if s.f (ISL_PSTATE_REQ isl) = 2 then 2 else 3) ∧
        t.mem = s.mem)

/-- R47, R48, R50, R55, R56: the oldest item's record becomes valid: it is in the journal with the flow's next number and
the item's payload, and its source has the acknowledgement. A commit record that is valid releases the outputs in order
with their stamps and advances its flow. A confirmed output is marked in its record. A failed MRAM device leaves a
standalone module not accepting; with both failed the module resets. -/
def Obligations.JournalRecords : Prop :=
  ∀ s : State, s.inStack = false → s.f BXL_STATUS_STATE ≠ 3 →
    (∀ (w : JWrite) (ws : List JWrite) (src : Nat) (st : Option Stamp), s.memc.itemWrites = w :: ws →
      (s.memc.failA && s.memc.failB) = false → w.flow < 4096 →
      w.origin = .task src st →
      ∃ t : State, exec .journalWriteDone s = .next t ∧ t.answer = cOK ∧ t.memc.itemWrites = ws ∧
        (t.flow w.flow).nextAccept = wrapInc 32 (s.flow w.flow).nextAccept ∧ t.sent = s.sent ∧
        ∃ r ∈ t.memc.live, r.kind = 1 ∧ r.flow = w.flow ∧ r.seq = (s.flow w.flow).nextAccept ∧ r.payload = w.payload ∧
          r.prio = w.prio ∧ r.source = w.source ∧ r.retired = false) ∧
    (∀ (j : CommitJob) (js : List CommitJob), s.memc.commitJobs = j :: js → (s.memc.failA && s.memc.failB) = false →
      j.flow < 4096 →
      (∀ o ∈ j.outs, o.typ = 1 ∨ o.typ = 2) →
      ∃ t : State, exec .commitRecordValid s = .next t ∧ t.memc.commitJobs = js ∧
        (t.flow j.flow).nextServe = wrapInc 32 j.seq ∧ (t.flow j.flow).delivered = false ∧
        ∃ l : List Token, t.sent = s.sent ++ j.outs.zipIdx.filterMap (fun p =>
          if p.1.typ = 1 then some ⟨p.1.dest, p.1.tag, p.1.data, ep iDUG 0, some ⟨j.flow, j.seq, p.2⟩, none⟩ else none) ++ l) ∧
    (∀ (fl sq k : Nat) (r : JRec), s.recs.find? (fun r => r.kind == 2 && r.flow == fl && r.seq == sq) = some r →
      ∃ t : State, exec (.outputConfirmed fl sq k cOK) s = .next t ∧ t.sent = s.sent ∧ t.regs = s.regs ∧ t.eng = s.eng ∧
        ∀ x ∈ t.recs, x.kind = 2 → x.flow = fl → x.seq = sq → k ∈ x.confirmed) ∧
    (∀ dev a st : Nat, dev < 2 → s.memc.failA = false → s.memc.failB = false → s.boot.held = false → s.memc.itemWrites = [] →
      ∃ t : State, exec (.mramDeviceFail dev a st) s = .next t ∧ t.memc.failA = (dev == 0) ∧ t.memc.failB = (dev == 1) ∧
        t.accepting = false) ∧
    (∀ a st : Nat, s.memc.failA = true → s.memc.failB = false → s.boot.held = false →
      ∃ t : State, exec (.mramDeviceFail 1 a st) s = .next t ∧ t.boot.held = true ∧ t.f SYS_RESET_CAUSE_CAUSE = 8)

/-! ### Yelsil engines (chapter 02) -/

/-- R85, R87, R88, R89: INTEGER_REGISTER, INTEGER_IMMEDIATE, LUP and AUP complete whenever they issue with a defined
function: rd takes the result (g0 discards it, R72), the pc advances by 4, and no other register of the context, no flag and
no byte of memory changes. The function of each number of the register form is the one R87 names; division never traps, and
what it gives on a divisor of 0 and on the one signed overflow, in both widths, is what R88 says; ADD, SUB and MUL wrap. -/
def Obligations.IntegerResults : Prop :=
  (∀ (s : State) (e c : Nat) (w : BitVec 32), s.issues e c w →
    (∀ v : BitVec 64, wOp w = 0x01 → intReg w ((s.ctx e c).rg (wRa w)) ((s.ctx e c).rg (wRb w)) = some v →
      ∃ t : State, exec (.integerRegister e w) s = .next t ∧ s.quiet t e c ∧
        s.went t e c ((s.ctx e c).wg (wRd w) v) ((s.ctx e c).pc + 4)) ∧
    (∀ v : BitVec 64, wOp w = 0x02 → intImm w ((s.ctx e c).rg (wRa w)) = some v →
      ∃ t : State, exec (.integerImmediate e w) s = .next t ∧ s.quiet t e c ∧
        s.went t e c ((s.ctx e c).wg (wRd w) v) ((s.ctx e c).pc + 4)) ∧
    (wOp w = 0x03 →
      ∃ t : State, exec (.lup e w) s = .next t ∧ s.quiet t e c ∧
        s.went t e c ((s.ctx e c).wg (wRd w) (BitVec.ofInt 64 (wImm20 w * 4096))) ((s.ctx e c).pc + 4)) ∧
    (wOp w = 0x04 →
      ∃ t : State, exec (.aup e w) s = .next t ∧ s.quiet t e c ∧
        s.went t e c ((s.ctx e c).wg (wRd w) (BitVec.ofInt 64 (Int.ofNat (s.ctx e c).pc + wImm20 w * 4096)))
          ((s.ctx e c).pc + 4))) ∧
  ∀ (w : BitVec 32) (a b : BitVec 64) (x y : BitVec 32), x = a.setWidth 32 → y = b.setWidth 32 →
    (wFn10 w = 0x000 → intReg w a b = some (BitVec.ofNat 64 (a.toNat + b.toNat))) ∧
    (wFn10 w = 0x001 → intReg w a b = some (BitVec.ofInt 64 (a.toInt - b.toInt))) ∧
    (wFn10 w = 0x002 → intReg w a b = some (a &&& b)) ∧
    (wFn10 w = 0x003 → intReg w a b = some (a ||| b)) ∧
    (wFn10 w = 0x004 → intReg w a b = some (a ^^^ b)) ∧
    (wFn10 w = 0x005 → intReg w a b = some (BitVec.ofNat 64 (a.toNat * 2 ^ (b.toNat % 64)))) ∧
    (wFn10 w = 0x006 → intReg w a b = some (BitVec.ofNat 64 (a.toNat / 2 ^ (b.toNat % 64)))) ∧
    (wFn10 w = 0x008 → intReg w a b = some (if a.toInt < b.toInt then 1 else 0)) ∧
    (wFn10 w = 0x009 → intReg w a b = some (if a.toNat < b.toNat then 1 else 0)) ∧
    (wFn10 w = 0x010 → intReg w a b = some (BitVec.ofNat 64 (a.toNat * b.toNat))) ∧
    (wFn10 w = 0x200 → intReg w a b = some ((BitVec.ofNat 32 (x.toNat + y.toNat)).signExtend 64)) ∧
    (wFn10 w = 0x201 → intReg w a b = some ((BitVec.ofInt 32 (x.toInt - y.toInt)).signExtend 64)) ∧
    (wFn10 w = 0x210 → intReg w a b = some ((BitVec.ofNat 32 (x.toNat * y.toNat)).signExtend 64)) ∧
    (wFn10 w ∈ [0x014, 0x015, 0x016, 0x017, 0x214, 0x215, 0x216, 0x217] → ∃ v : BitVec 64, intReg w a b = some v) ∧
    (b = 0 → (wFn10 w ∈ [0x014, 0x015] → intReg w a b = some (BitVec.allOnes 64)) ∧
      (wFn10 w ∈ [0x016, 0x017] → intReg w a b = some a)) ∧
    (y = 0 → (wFn10 w ∈ [0x214, 0x215] → intReg w a b = some (BitVec.allOnes 64)) ∧
      (wFn10 w ∈ [0x216, 0x217] → intReg w a b = some (x.signExtend 64))) ∧
    (a = BitVec.intMin 64 → b = BitVec.allOnes 64 →
      (wFn10 w = 0x014 → intReg w a b = some a) ∧ (wFn10 w = 0x016 → intReg w a b = some 0)) ∧
    (x = BitVec.intMin 32 → y = BitVec.allOnes 32 →
      (wFn10 w = 0x214 → intReg w a b = some (x.signExtend 64)) ∧ (wFn10 w = 0x216 → intReg w a b = some 0)) ∧
    (b ≠ 0 → (wFn10 w = 0x014 → intReg w a b = some (BitVec.ofInt 64 (a.toInt.tdiv b.toInt))) ∧
      (wFn10 w = 0x015 → intReg w a b = some (BitVec.ofNat 64 (a.toNat / b.toNat))) ∧
      (wFn10 w = 0x016 → intReg w a b = some (BitVec.ofInt 64 (a.toInt.tmod b.toInt))) ∧
      (wFn10 w = 0x017 → intReg w a b = some (BitVec.ofNat 64 (a.toNat % b.toNat)))) ∧
    (wFn10 w = 0x3FF → intReg w a b = none)

/-- R89, R73, R76: a load whose access passes the checks reads the bytes at g[ra] + imm of memory, little-endian, into its
register, sign-extended or zero-extended as its fn3 says (INTEGER_LOAD), into f (FLOATING_LOAD) or v (VLD). Memory does not
change. -/
def Obligations.Loads : Prop :=
  ∀ (s : State) (e c : Nat) (w : BitVec 32), s.issues e c w →
    (∀ (n : Nat) (sgn : Bool), wOp w = 0x08 →
      [(0, 1, true), (1, 2, true), (2, 4, true), (3, 8, true), (4, 1, false), (5, 2, false), (6, 4, false)].contains
        (wFn3 w, n, sgn) = true →
      s.dataCheck e (s.ctx e c) (ea (s.ctx e c) w) n [0] = none → regIsland (ea (s.ctx e c) w) = none →
      s.memCheck (ep (iENG e) c) (ea (s.ctx e c) w) n false = cOK →
      ∃ t : State, exec (.integerLoad e w) s = .next t ∧ s.quiet t e c ∧
        s.went t e c ((s.ctx e c).wg (wRd w)
          (if sgn then (BitVec.ofNat (8 * n) (s.rd (ea (s.ctx e c) w) n)).signExtend 64
            else BitVec.ofNat 64 (s.rd (ea (s.ctx e c) w) n))) ((s.ctx e c).pc + 4)) ∧
    (∀ n : Nat, wOp w = 0x0C → [(2, 4), (3, 8)].contains (wFn3 w, n) = true →
      s.dataCheck e (s.ctx e c) (ea (s.ctx e c) w) n [0] = none → regIsland (ea (s.ctx e c) w) = none →
      s.memCheck (ep (iENG e) c) (ea (s.ctx e c) w) n false = cOK →
      ∃ t : State, exec (.floatingLoad e w) s = .next t ∧ s.quiet t e c ∧
        s.went t e c ((s.ctx e c).wf (wRd w) (BitVec.ofNat 64 (s.rd (ea (s.ctx e c) w) n))) ((s.ctx e c).pc + 4)) ∧
    (wOp w = 0x31 → vform w = some 0 →
      s.dataCheck e (s.ctx e c) (vea (s.ctx e c) w) 32 [0] = none →
      s.memCheck (ep (iENG e) c) (vea (s.ctx e c) w) 32 false = cOK →
      ∃ t : State, exec (.vld e w) s = .next t ∧ s.quiet t e c ∧
        s.went t e c ((s.ctx e c).wv (bits w.toNat 10 7) (BitVec.ofNat 256 (s.rd (vea (s.ctx e c) w) 32)))
          ((s.ctx e c).pc + 4))

/-- R89, R95: a store whose access passes the checks writes the low bytes of its register at g[ra] + imm, little-endian:
every byte outside those bytes reads as before, and no register of the context changes. -/
def Obligations.Stores : Prop :=
  ∀ (s : State) (e c : Nat) (w : BitVec 32), s.issues e c w →
    (∀ n : Nat, wOp w = 0x09 → [(0, 1), (1, 2), (2, 4), (3, 8)].contains (wFn3 w, n) = true →
      s.dataCheck e (s.ctx e c) (ea (s.ctx e c) w) n [1] = none → regIsland (ea (s.ctx e c) w) = none →
      s.memCheck (ep (iENG e) c) (ea (s.ctx e c) w) n true = cOK →
      ∃ t : State, exec (.integerStore e w) s = .next t ∧
        (s.wr (ea (s.ctx e c) w) n ((s.ctx e c).rg (wRd w)).toNat).quiet t e c ∧
        s.went t e c (s.ctx e c) ((s.ctx e c).pc + 4) ∧
        (∀ a : Nat, (a < ea (s.ctx e c) w ∨ ea (s.ctx e c) w + n ≤ a) → t.rdB a = s.rdB a)) ∧
    (∀ n : Nat, wOp w = 0x0D → [(2, 4), (3, 8)].contains (wFn3 w, n) = true →
      s.dataCheck e (s.ctx e c) (ea (s.ctx e c) w) n [1] = none → regIsland (ea (s.ctx e c) w) = none →
      s.memCheck (ep (iENG e) c) (ea (s.ctx e c) w) n true = cOK →
      ∃ t : State, exec (.floatingStore e w) s = .next t ∧
        (s.wr (ea (s.ctx e c) w) n ((s.ctx e c).rf (wRd w)).toNat).quiet t e c ∧
        s.went t e c (s.ctx e c) ((s.ctx e c).pc + 4) ∧
        (∀ a : Nat, (a < ea (s.ctx e c) w ∨ ea (s.ctx e c) w + n ≤ a) → t.rdB a = s.rdB a)) ∧
    (wOp w = 0x31 → vform w = some 1 →
      s.dataCheck e (s.ctx e c) (vea (s.ctx e c) w) 32 [1] = none →
      s.memCheck (ep (iENG e) c) (vea (s.ctx e c) w) 32 true = cOK →
      ∃ t : State, exec (.vst e w) s = .next t ∧
        (s.wr (vea (s.ctx e c) w) 32 ((s.ctx e c).rv (bits w.toNat 10 7)).toNat).quiet t e c ∧
        s.went t e c (s.ctx e c) ((s.ctx e c).pc + 4) ∧
        (∀ a : Nat, (a < vea (s.ctx e c) w ∨ vea (s.ctx e c) w + 32 ≤ a) → t.rdB a = s.rdB a))

/-- R90: ATOMIC_MEMORY_OPERATION reads the 8-byte word at g[ra] into rd and leaves the new word in its place: swap, add,
and, or, or compare-and-swap, which stores g[rb] only where the word equals the old rd. Every other byte reads as before. -/
def Obligations.AtomicWords : Prop :=
  ∀ (s : State) (e c : Nat) (w : BitVec 32) (v : BitVec 64), s.issues e c w → wOp w = 0x0A →
    s.dataCheck e (s.ctx e c) ((s.ctx e c).rg (wRa w)).toNat 8 [0, 1] = none →
    (regionOf ((s.ctx e c).rg (wRa w)).toNat 8 = .sram ∨
      ∃ k : Nat, regionOf ((s.ctx e c).rg (wRa w)).toNat 8 = .localSram k ∨
        regionOf ((s.ctx e c).rg (wRa w)).toNat 8 = .lpddr k) →
    s.memCheck (ep (iENG e) c) ((s.ctx e c).rg (wRa w)).toNat 8 false = cOK →
    ((wFn10 w = 0 ∧ v = (s.ctx e c).rg (wRb w)) ∨
      (wFn10 w = 1 ∧ v = BitVec.ofNat 64 (s.rd ((s.ctx e c).rg (wRa w)).toNat 8) + (s.ctx e c).rg (wRb w)) ∨
      (wFn10 w = 2 ∧ v = BitVec.ofNat 64 (s.rd ((s.ctx e c).rg (wRa w)).toNat 8) &&& (s.ctx e c).rg (wRb w)) ∨
      (wFn10 w = 3 ∧ v = BitVec.ofNat 64 (s.rd ((s.ctx e c).rg (wRa w)).toNat 8) ||| (s.ctx e c).rg (wRb w)) ∨
      (wFn10 w = 4 ∧ v = (if BitVec.ofNat 64 (s.rd ((s.ctx e c).rg (wRa w)).toNat 8) = (s.ctx e c).rg (wRd w)
        then (s.ctx e c).rg (wRb w) else BitVec.ofNat 64 (s.rd ((s.ctx e c).rg (wRa w)).toNat 8)))) →
    ∃ t : State, exec (.atomicMemoryOperation e w) s = .next t ∧
      (s.wr ((s.ctx e c).rg (wRa w)).toNat 8 v.toNat).quiet t e c ∧
      s.went t e c ((s.ctx e c).wg (wRd w) (BitVec.ofNat 64 (s.rd ((s.ctx e c).rg (wRa w)).toNat 8)))
        ((s.ctx e c).pc + 4) ∧
      (∀ a : Nat, (a < ((s.ctx e c).rg (wRa w)).toNat ∨ ((s.ctx e c).rg (wRa w)).toNat + 8 ≤ a) → t.rdB a = s.rdB a)

/-- R89, R85: a conditional branch goes to pc + 4 × imm when its condition on the two registers holds and to pc + 4
otherwise; JAL and JALR write pc + 4 to rd and go to their targets (R76: a JALR target is 4-byte aligned). -/
def Obligations.Branches : Prop :=
  ∀ (s : State) (e c : Nat) (w : BitVec 32), s.issues e c w →
    (∀ taken : Prop, wOp w = 0x10 →
      ((wFn3 w = 0 ∧ (taken ↔ (s.ctx e c).rg (wRd w) = (s.ctx e c).rg (wRa w))) ∨
        (wFn3 w = 1 ∧ (taken ↔ (s.ctx e c).rg (wRd w) ≠ (s.ctx e c).rg (wRa w))) ∨
        (wFn3 w = 2 ∧ (taken ↔ ((s.ctx e c).rg (wRd w)).toInt < ((s.ctx e c).rg (wRa w)).toInt)) ∨
        (wFn3 w = 3 ∧ (taken ↔ ((s.ctx e c).rg (wRa w)).toInt ≤ ((s.ctx e c).rg (wRd w)).toInt)) ∨
        (wFn3 w = 4 ∧ (taken ↔ ((s.ctx e c).rg (wRd w)).toNat < ((s.ctx e c).rg (wRa w)).toNat)) ∨
        (wFn3 w = 5 ∧ (taken ↔ ((s.ctx e c).rg (wRa w)).toNat ≤ ((s.ctx e c).rg (wRd w)).toNat))) →
      ∃ t : State, ∃ pc : Nat, exec (.conditionalBranch e w) s = .next t ∧ s.quiet t e c ∧ s.went t e c (s.ctx e c) pc ∧
        (taken → pc = target (s.ctx e c).pc ((wImm12 w).toInt * 4)) ∧ (¬taken → pc = (s.ctx e c).pc + 4)) ∧
    (wOp w = 0x11 →
      ∃ t : State, exec (.jal e w) s = .next t ∧ s.quiet t e c ∧
        s.went t e c ((s.ctx e c).wg (wRd w) (BitVec.ofNat 64 ((s.ctx e c).pc + 4)))
          (target (s.ctx e c).pc (wImm20 w * 4))) ∧
    (wOp w = 0x12 → wFn3 w = 0 → ea (s.ctx e c) w % 4 = 0 →
      ∃ t : State, exec (.jalr e w) s = .next t ∧ s.quiet t e c ∧
        s.went t e c ((s.ctx e c).wg (wRd w) (BitVec.ofNat 64 ((s.ctx e c).pc + 4))) (ea (s.ctx e c) w))

/-- R92, R93, R94: FLOATING_OPERATE, FUSED_MULTIPLY_ADD and VECTOR_OPERATE with a defined function complete with the
registers and flags the operation gives and nothing else changed; a fused multiply-add rounds once. -/
def Obligations.FloatingResults : Prop :=
  ∀ (s : State) (e c : Nat) (w : BitVec 32), s.issues e c w →
    (∀ y : Ctx, wOp w = 0x20 → floatOp w (s.ctx e c) = some y →
      ∃ t : State, exec (.floatingOperate e w) s = .next t ∧ s.quiet t e c ∧ s.went t e c y ((s.ctx e c).pc + 4) ∧
        y.pc = (s.ctx e c).pc ∧ y.v = (s.ctx e c).v ∧ y.k = (s.ctx e c).k ∧ y.o = (s.ctx e c).o) ∧
    (wOp w = 0x21 → bits w.toNat 31 30 = 0 →
      ∃ t : State, exec (.fusedMultiplyAdd e w) s = .next t ∧ s.quiet t e c ∧
        s.went t e c ((s.ctx e c).wfr (wRd w) (fmaKind (fmtOf (bit w.toNat 27)) (s.ctx e c).rm (bits w.toNat 29 28)
          ((s.ctx e c).rf (wRa w)).toNat ((s.ctx e c).rf (wRb w)).toNat
          ((s.ctx e c).rf (bits w.toNat 26 22)).toNat)) ((s.ctx e c).pc + 4)) ∧
    (∀ y : Ctx, wOp w = 0x30 → vectorOp w (s.ctx e c) = some y →
      ∃ t : State, exec (.vectorOperate e w) s = .next t ∧ s.quiet t e c ∧ s.went t e c y ((s.ctx e c).pc + 4) ∧
        y.g = (s.ctx e c).g ∧ y.k = (s.ctx e c).k ∧ y.outbox = (s.ctx e c).outbox)

/-- R97, R98: TAKE moves the word of a full k slot to rd and empties the slot; TAGK reads a slot's tag with bit 32 set, or
0 of an empty slot; MTO writes o[x] and MFO reads it. Nothing else of the context or of the machine changes. -/
def Obligations.TokenRegisters : Prop :=
  ∀ (s : State) (e c : Nat) (w : BitVec 32) (x : Ctx), s.issues e c w → s.ctx e c = x → wOp w = 0x40 →
    (wFn6 w = 0x00 → tokFields w true false false true false = true → (x.rk (wX w)).full = true →
      ∃ t : State, exec (.take e w) s = .next t ∧ s.quiet t e c ∧
        s.went t e c ((x.wk (wX w) ⟨0, 0, false⟩).wg (wRd w) (BitVec.ofNat 64 (x.rk (wX w)).data)) (x.pc + 4)) ∧
    (wFn6 w = 0x01 → tokFields w true false false true false = true → (x.rk (wX w)).full = true →
      ∃ t : State, exec (.tagk e w) s = .next t ∧ s.quiet t e c ∧
        s.went t e c (x.wg (wRd w) (BitVec.ofNat 64 (2 ^ 32 + (x.rk (wX w)).tag % 2 ^ 32))) (x.pc + 4)) ∧
    (wFn6 w = 0x01 → tokFields w true false false true false = true → (x.rk (wX w)).full = false →
      ∃ t : State, exec (.tagk e w) s = .next t ∧ s.quiet t e c ∧ s.went t e c (x.wg (wRd w) 0) (x.pc + 4)) ∧
    (wFn6 w = 0x0B → tokFields w false true false true false = true →
      ∃ t : State, exec (.mto e w) s = .next t ∧ s.quiet t e c ∧ s.went t e c (x.wo (wX w) (x.rg (wRa w))) (x.pc + 4)) ∧
    (wFn6 w = 0x0C → tokFields w true false false true false = true →
      ∃ t : State, exec (.mfo e w) s = .next t ∧ s.quiet t e c ∧ s.went t e c (x.wg (wRd w) (x.ro (wX w))) (x.pc + 4))

/-- R97, R98, R99, R100, R102: EMIT and SENDQ append one entry to an outbox that holds fewer than 16; their D forms release the
output at once, after a SYNC.M, from an unflowed task outside an atomic section: the token or queue word leaves unstamped
from the engine's context with its instance, generation and index 0. The tokens and queue words of an unflowed release leave
in outbox order, each with its index, and nothing else of the state changes with them. -/
def Obligations.Outbox : Prop :=
  (∀ (s : State) (e c : Nat) (w : BitVec 32) (x : Ctx) (a b : Nat), s.issues e c w → s.ctx e c = x → wOp w = 0x40 →
    (x.rg (wRa w)).toNat = a → (x.rg (wRb w)).toNat = b →
    (wFn6 w = 0x02 → tokFields w false true true true true = true → a < 2 ^ 16 → b < 2 ^ 32 →
      (wM w = false → x.outbox.length < 16 →
        ∃ t : State, exec (.emit e w) s = .next t ∧ s.quiet t e c ∧
          s.went t e c { x with outbox := x.outbox ++ [⟨a, 1, 0, b, (x.ro (wX w)).toNat⟩] } (x.pc + 4)) ∧
      (wM w = true → x.atomic = false → x.bound = false → x.deferred = [] →
        ∃ t : State, exec (.emit e w) s = .next t ∧
          State.quiet { s with sent := s.sent ++
            [⟨a, b, (x.ro (wX w)).toNat, ep (iENG e) c, none, some (x.inst, x.gen, 0)⟩] } t e c ∧
          s.went t e c x (x.pc + 4))) ∧
    (wFn6 w = 0x03 → tokFields w false true false true true = true → a < 2 ^ 11 → bits a 7 6 = 0 →
      (wM w = false → x.outbox.length < 16 →
        ∃ t : State, exec (.sendq e w) s = .next t ∧ s.quiet t e c ∧
          s.went t e c { x with outbox := x.outbox ++ [⟨bits a 5 0, 2, bits a 10 8, 0, (x.ro (wX w)).toNat⟩] }
            (x.pc + 4)) ∧
      (wM w = true → x.atomic = false → x.bound = false → x.deferred = [] →
        ∃ t : State, exec (.sendq e w) s = .next t ∧
          State.quiet { s with qsent := s.qsent ++
            [⟨bits a 5 0, bits a 10 8, (x.ro (wX w)).toNat, ep (iENG e) c, none, some (x.inst, x.gen, 0)⟩] } t e c ∧
          s.went t e c x (x.pc + 4)))) ∧
  ∀ (s : State) (src i gen k : Nat) (outs : List Out), (∀ o ∈ outs, o.typ = 1 ∨ o.typ = 2) →
    s.releaseAll src i gen k outs = { s with
      sent := s.sent ++ (outs.zipIdx k).filterMap (fun p =>
        if p.1.typ = 1 then some ⟨p.1.dest, p.1.tag, p.1.data, src, none, some (i, gen, p.2)⟩ else none)
      qsent := s.qsent ++ (outs.zipIdx k).filterMap (fun p =>
        if p.1.typ = 2 then some ⟨p.1.dest, p.1.prio, p.1.data, src, none, some (i, gen, p.2)⟩ else none) }

/-- R103, R104, R165: RECVQ on an enabled queue the task may read takes its best word into rd, with the word's class in QSTAT,
and the word leaves the queue (held by the context if the task is flow-bound); with none there it reads 0 and QSTAT says
so; RECVQ.W on an empty queue retires and waits there. -/
def Obligations.Receive : Prop :=
  ∀ (s : State) (e c n : Nat) (w : BitVec 32) (x : Ctx), s.issues e c w → s.ctx e c = x → wOp w = 0x40 →
    wFn6 w = 0x04 → tokFields w true true false false true = true → x.atomic = false →
    (x.rg (wRa w)).toNat = n → n < 64 → ¬(x.bound = true ∧ 16 ≤ s.heldCount e c) → s.serves iQUE = true →
    s.on (QUE_Qn_CFG_ENABLE n) = true →
    (s.on (QUE_Qn_CFG_ANY_READER n) = true ∨ s.f (QUE_Qn_READER_INSTANCE n) = x.inst) →
    (∀ q : QEnt, (s.q n).best = some q →
      ∃ t : State, exec (.recvq e w) s = .next t ∧
        ((s.touch iQUE).setQ n { s.q n with
          words := (s.q n).words.erase q
          held := if x.bound then (s.q n).held ++ [⟨q.prio, q.data, q.order, e, c⟩] else (s.q n).held
          staleStart := s.now }).quiet t e c ∧
        s.went t e c { x.wg (wRd w) (BitVec.ofNat 64 q.data) with qstat := qstatWord q.prio } (x.pc + 4)) ∧
    ((s.q n).best = none → wM w = false →
      ∃ t : State, exec (.recvq e w) s = .next t ∧ (s.touch iQUE).quiet t e c ∧
        s.went t e c { x.wg (wRd w) 0 with qstat := 2 ^ 63 } (x.pc + 4)) ∧
    ((s.q n).best = none → wM w = true →
      ∃ t : State, exec (.recvq e w) s = .next t ∧ t.mem = s.mem ∧
        (t.q n).waits = (s.q n).waits ++ [⟨e, c, x.cls⟩] ∧ (t.q n).words = (s.q n).words ∧
        ∃ age : Nat, t.ctx e c =
          { x with st := 3, age := age, pc := x.pc + 4, retired := x.retired + 1, recvRd := wRd w, recvQ := n })

/-- R106, R107: SPAWN and CANCEL ask the Dugout: the context stalls with its question and nothing else changes. DUGOUT_ANSWER
writes rd and retires the instruction; a SPAWN of a template that is free answers NOT_FOUND with bit 63, a granted one the
reserved instance with its generation, and its reservation joins the outbox. -/
def Obligations.DugoutAsks : Prop :=
  ∀ (s : State) (e c a : Nat) (w : BitVec 32) (x : Ctx), s.ctx e c = x →
    (s.issues e c w → wOp w = 0x40 → tokFields w true true false false false = true → x.atomic = false →
      (x.rg (wRa w)).toNat = a →
      (wFn6 w = 0x05 → a < 2 ^ 16 → x.outbox.length < 16 →
        ∃ t : State, exec (.spawn e w) s = .next t ∧ s.quiet t e c ∧ t.ctx e c = { x with ask := some (.spawn (wRd w) a) }) ∧
      (wFn6 w = 0x06 → a < 2 ^ 20 →
        ∃ t : State, exec (.cancel e w) s = .next t ∧ s.quiet t e c ∧
          t.ctx e c = { x with ask := some (.cancel (wRd w) (bits a 15 0) (bits a 19 16)) })) ∧
    (s.serves iDUG = true → s.engOn e = true → x.cancelled = false →
      (∀ rd : Nat, x.ask = some (.spawn rd a) → (4096 ≤ a ∨ (s.templ a).kind = 0) →
        ∃ t : State, exec (.dugoutAnswer e c) s = .next t ∧ (s.touch iDUG).quiet t e c ∧
          s.went t e c { x.wg rd (BitVec.ofNat 64 (2 ^ 63 + cNOT_FOUND)) with ask := none } (x.pc + 4)) ∧
      (∀ rd i : Nat, x.ask = some (.spawn rd a) → a < 4096 → (s.templ a).kind ≠ 0 → s.freeLongest = some i →
        ∃ t : State, ∃ v : Nat, exec (.dugoutAnswer e c) s = .next t ∧ v = i + ((s.inst i).gen + 1) % 16 * 65536 ∧
          t.mem = s.mem ∧ (t.inst i).st = 1 ∧ (t.inst i).gen = ((s.inst i).gen + 1) % 16 ∧ (t.inst i).kind = 2 ∧
          s.went t e c { x.wg rd (BitVec.ofNat 64 v) with
            ask := none, outbox := x.outbox ++ [⟨ep iDUG 0, 3, 0, v, 0⟩] } (x.pc + 4)) ∧
      (∀ rd i g : Nat, x.ask = some (.cancel rd i g) → ((s.inst i).st = 0 ∨ (s.inst i).gen ≠ g) →
        ∃ t : State, exec (.dugoutAnswer e c) s = .next t ∧ (s.touch iDUG).quiet t e c ∧
          s.went t e c { x.wg rd (BitVec.ofNat 64 cNOT_FOUND) with ask := none } (x.pc + 4)))

/-- R99, R100, R114: COMMIT releases the outbox of an unflowed task in order and goes on. COMMIT.E and YIELD of a flow-bound
task hand the outbox to the commit record under way and the context becomes COMMITTING; of an unflowed task they release
the outbox, with the completion its descriptor asks for, and COMMIT.E leaves a static instance DONE. ABORT discards the
outbox and the context is EMPTY. The confirmation frees a COMMITTING context. -/
def Obligations.Commits : Prop :=
  ∀ (s : State) (e c : Nat) (w : BitVec 32) (x : Ctx), s.ctx e c = x →
    (s.issues e c w → wOp w = 0x40 → x.atomic = false → x.deferred = [] →
      (wFn6 w = 0x07 → tokFields w false false false false false = true → x.bound = false →
        ∃ t : State, exec (.commit e w) s = .next t ∧
          (s.releaseAll (ep (iENG e) c) x.inst x.gen 0 x.outbox).quiet t e c ∧
          s.went t e c { x with outbox := [] } (x.pc + 4)) ∧
      (wFn6 w = 0x07 → wM w = true → tokFields w false false false false true = true → x.bound = true →
        ∃ t : State, ∃ age : Nat, exec (.commitE e w) s = .next t ∧ t.mem = s.mem ∧ t.sent = s.sent ∧ t.qsent = s.qsent ∧
          t.memc = { s.memc with commitJobs := s.memc.commitJobs ++
            [⟨e, c, x.inst, x.flow, x.seq, x.outbox, true, s.now⟩] } ∧
          t.inst x.inst = { s.inst x.inst with st := 5 } ∧
          t.ctx e c = { x with st := 4, outbox := [], deferred := [], age := age, pc := x.pc + 4, retired := x.retired + 1 }) ∧
      (wFn6 w = 0x08 → tokFields w false false false false false = true → x.bound = true →
        ∃ t : State, ∃ age : Nat, exec (.yield e w) s = .next t ∧ t.mem = s.mem ∧ t.sent = s.sent ∧ t.qsent = s.qsent ∧
          t.memc = { s.memc with commitJobs := s.memc.commitJobs ++
            [⟨e, c, x.inst, x.flow, x.seq, x.outbox, false, s.now⟩] } ∧
          t.inst x.inst = { s.inst x.inst with st := 5 } ∧
          t.ctx e c = { x with st := 4, outbox := [], deferred := [], age := age, pc := x.pc + 4, retired := x.retired + 1 }) ∧
      (wFn6 w = 0x07 → wM w = true → tokFields w false false false false true = true → x.bound = false →
        (∀ o ∈ x.outbox, o.typ = 1 ∨ o.typ = 2) → (s.inst x.inst).flowBound = false → (s.inst x.inst).kind ≠ 2 →
        ∃ t : State, ∃ age : Nat, exec (.commitE e w) s = .next t ∧ t.mem = s.mem ∧
          t.sent = ((s.releaseAll (ep (iENG e) c) x.inst x.gen 0 x.outbox).completion x.inst 0 cOK).sent ∧
          t.qsent = (s.releaseAll (ep (iENG e) c) x.inst x.gen 0 x.outbox).qsent ∧
          (t.inst x.inst).st = 6 ∧ (t.inst x.inst).toks = [] ∧
          t.ctx e c = { x with st := 4, outbox := [], deferred := [], age := age, pc := x.pc + 4, retired := x.retired + 1 }) ∧
      (wFn6 w = 0x08 → tokFields w false false false false false = true → x.bound = false →
        (∀ o ∈ x.outbox, o.typ = 1 ∨ o.typ = 2) →
        ∃ t : State, ∃ age : Nat, exec (.yield e w) s = .next t ∧ t.mem = s.mem ∧
          t.sent = ((s.releaseAll (ep (iENG e) c) x.inst x.gen 0 x.outbox).completion x.inst 0 cOK).sent ∧
          t.qsent = (s.releaseAll (ep (iENG e) c) x.inst x.gen 0 x.outbox).qsent ∧
          ((t.inst x.inst).st = 2 ∨ (t.inst x.inst).st = 3) ∧ (t.inst x.inst).toks = (s.inst x.inst).toks ∧
          t.ctx e c = { x with st := 4, outbox := [], deferred := [], age := age, pc := x.pc + 4, retired := x.retired + 1 })) ∧
    (s.issues e c w → wOp w = 0x40 → wFn6 w = 0x0D → tokFields w false false false false false = true →
      (s.inst x.inst).flowBound = false →
      ∃ t : State, exec (.abort e w) s = .next t ∧ t.mem = s.mem ∧ t.qsent = s.qsent ∧ t.ctx e c = Ctx.empty) ∧
    (x.st = 4 → s.memc.commitJobs = [] → s.acts = [] →
      ∃ t : State, exec (.commitConfirm e c) s = .next t ∧ t.mem = s.mem ∧ t.sent = s.sent ∧ t.qsent = s.qsent ∧
        t.ctx e c = Ctx.empty)

/-- R108, R109, R228, R388: SNAP answers OK and takes GOB's one software slot, BUSY while the slot is taken, TOO_LATE for a
time less than 16 ticks ahead; STOP raises the stop in every mode, atomic sections and handlers included, and the
instruction after it goes on. -/
def Obligations.SnapAndStop : Prop :=
  ∀ (s : State) (e c a : Nat) (w : BitVec 32) (x : Ctx), s.issues e c w → s.ctx e c = x → wOp w = 0x40 →
    (x.rg (wRa w)).toNat = a →
    (wFn6 w = 0x09 → tokFields w true true false false false = true → x.atomic = false → s.serves iGOB = true →
      (s.gob.soft = none → s.now + 16 ≤ a → s.snapConflict (s.edgeAt a) = false →
        ∃ t : State, exec (.snap e w) s = .next t ∧ t.mem = s.mem ∧ t.gob = { s.gob with soft := some ⟨a, false, false⟩ } ∧
          t.f GOB_SOFT_PENDING = 1 ∧ s.went t e c (x.wg (wRd w) 0) (x.pc + 4)) ∧
      (s.gob.soft ≠ none →
        ∃ t : State, exec (.snap e w) s = .next t ∧ t.mem = s.mem ∧ t.gob = s.gob ∧
          s.went t e c (x.wg (wRd w) (BitVec.ofNat 64 cBUSY)) (x.pc + 4)) ∧
      (s.gob.soft = none → 0 < a → a < s.now + 16 →
        ∃ t : State, exec (.snap e w) s = .next t ∧ t.mem = s.mem ∧ t.gob = s.gob ∧
          s.went t e c (x.wg (wRd w) (BitVec.ofNat 64 cTOO_LATE)) (x.pc + 4))) ∧
    (wFn6 w = 0x0A → tokFields w false true false false false = true →
      ∃ t : State, exec (.stop e w) s = .next t ∧ t.latched = true ∧ s.went t e c x (x.pc + 4) ∧
        (s.latched = false → t.f REF_FENCE_EN_EN = 0 ∧ t.f REF_PWEN_EN_EN = 0))

/-- R110, R111, R97: MFC reads the control registers of the context (and refuses no number listed) without changing any;
MTC writes FCSR in any mode and TRAP_PC in handler mode, and nothing else of the context. -/
def Obligations.ControlRegisters : Prop :=
  ∀ (s : State) (e c : Nat) (w : BitVec 32) (x : Ctx), s.issues e c w → s.ctx e c = x → wOp w = 0x48 →
    (∀ n v : Nat, wFn3 w = 0 → wRa w = 0 → bits w.toNat 31 20 = n →
      ((n = 0x000 ∧ v = c * 16 + e) ∨ (n = 0x001 ∧ v = x.gen * 65536 + x.inst) ∨ (n = 0x003 ∧ v = x.seq) ∨
        (n = 0x002 ∧ v = x.flow % 4096 + (if x.bound then 2 ^ 31 else 0)) ∨ (n = 0x004 ∧ v = x.cls) ∨
        (n = 0x005 ∧ v = x.winmask) ∨ (n = 0x006 ∧ v = x.attempt) ∨
        (n = 0x008 ∧ v = x.left * 256 + (if x.atomic then 2 else 0) + (if x.handler then 1 else 0)) ∨
        (n = 0x010 ∧ v = x.fcsr) ∨ (n = 0x011 ∧ v = x.qstat) ∨ (n = 0x018 ∧ v = x.outbox.length) ∨
        (n = 0x020 ∧ v = x.trapPc) ∨ (n = 0x021 ∧ v = x.trapCause) ∨ (n = 0x022 ∧ v = x.trapValue) ∨
        (n = 0x031 ∧ v = x.retired)) →
      ∃ t : State, exec (.mfc e w) s = .next t ∧ s.quiet t e c ∧ s.went t e c (x.wg (wRd w) (BitVec.ofNat 64 v)) (x.pc + 4)) ∧
    (wFn3 w = 0 → wRa w = 0 → bits w.toNat 31 20 = 0x030 →
      ∃ t : State, ∃ v : BitVec 64, exec (.mfc e w) s = .next t ∧ t.mem = s.mem ∧ s.went t e c (x.wg (wRd w) v) (x.pc + 4)) ∧
    (wFn3 w = 0 → wRa w = 0 → bits w.toNat 31 20 = 0x032 →
      ∃ t : State, ∃ k : Nat, exec (.mfc e w) s = .next t ∧ t.mem = s.mem ∧ k < 5 ∧
        s.went t e c (x.wg (wRd w) (BitVec.ofNat 64 ((s.now + k - 2) % 2 ^ 64))) (x.pc + 4)) ∧
    (∀ a : Nat, wFn3 w = 1 → wRd w = 0 → (x.rg (wRa w)).toNat = a → bits w.toNat 31 20 = 0x010 → a % 8 < 5 →
      ∃ t : State, exec (.mtc e w) s = .next t ∧ s.quiet t e c ∧ s.went t e c { x with fcsr := a &&& 0x1F7 } (x.pc + 4)) ∧
    (wFn3 w = 1 → wRd w = 0 → bits w.toNat 31 20 = 0x020 → x.handler = true →
      ∃ t : State, exec (.mtc e w) s = .next t ∧ s.quiet t e c ∧
        s.went t e c { x with trapPc := (x.rg (wRa w)).toNat } (x.pc + 4))

/-- R79, R80, R110, R113, R116: SYNC.M completes once nothing is deferred; SYNC.I empties the engine's instruction cache;
ATOM.B opens a section of 64 instructions and ATOM.E closes it; TRET returns to TRAP_PC in task mode. -/
def Obligations.Sections : Prop :=
  ∀ (s : State) (e c : Nat) (w : BitVec 32) (x : Ctx), s.issues e c w → s.ctx e c = x → wOp w = 0x48 → wFn3 w = 2 →
    wRd w = 0 → wRa w = 0 →
    (bits w.toNat 31 20 = 0 → x.atomic = false → x.deferred = [] →
      ∃ t : State, exec (.syncM e w) s = .next t ∧ s.quiet t e c ∧ s.went t e c x (x.pc + 4)) ∧
    (bits w.toNat 31 20 = 1 → x.atomic = false →
      ∃ t : State, exec (.syncI e w) s = .next t ∧ s.quiet t e c ∧ s.went t e c x (x.pc + 4) ∧ (t.engSt e).icache = []) ∧
    (bits w.toNat 31 20 = 2 → x.atomic = false →
      ∃ t : State, exec (.atomB e w) s = .next t ∧ s.quiet t e c ∧
        s.went t e c { x with atomic := true, left := 64 } (x.pc + 4)) ∧
    (bits w.toNat 31 20 = 3 → x.atomic = true →
      ∃ t : State, exec (.atomE e w) s = .next t ∧ s.quiet t e c ∧
        s.went t e c { x with atomic := false, left := 0 } (x.pc + 4)) ∧
    (bits w.toNat 31 20 = 4 → x.handler = true → x.trapPc % 4 = 0 →
      ∃ t : State, exec (.tret e w) s = .next t ∧ s.quiet t e c ∧ s.went t e c { x with handler := false } x.trapPc)

/-- R112, R113, R86, R116, R117, R83, R82: a trap in task mode saves the address, cause and value, ends the section and goes
on at ENG_TRAP_VEC in handler mode, with memory and every other register of the context as they were: BRK, a reserved
function, EMIT or COMMIT in a flow-bound task or a section where the rules forbid them, a section's limit, and a refused
access, which shows its own address. An uncorrectable error ends the activation without a trap. -/
def Obligations.Traps : Prop :=
  ∀ (s : State) (e c : Nat) (x : Ctx), s.ctx e c = x → x.cancelled = false → x.handler = false →
    (∀ w : BitVec 32, s.issues e c w →
      (wOp w = 0x48 → wFn3 w = 2 → wRd w = 0 → wRa w = 0 → bits w.toNat 31 20 = 5 →
        ∃ t : State, exec (.brk e w) s = .next t ∧ t.mem = s.mem ∧ s.trapped t e c x.pc tBREAK 0 w.toNat) ∧
      (wOp w = 0x01 → wFn10 w = 0x3FF →
        ∃ t : State, exec (.integerRegister e w) s = .next t ∧ t.mem = s.mem ∧ s.trapped t e c x.pc tILLEGAL 0 w.toNat) ∧
      (wOp w = 0x40 → wFn6 w = 0x00 → tokFields w true false false true false = true → (x.rk (wX w)).full = false →
        ∃ t : State, exec (.take e w) s = .next t ∧ t.mem = s.mem ∧ s.trapped t e c x.pc tOPERAND_EMPTY 0 w.toNat) ∧
      (wOp w = 0x40 → wFn6 w = 0x07 → tokFields w false false false false false = true → x.atomic = false →
        x.bound = true →
        ∃ t : State, exec (.commit e w) s = .next t ∧ t.mem = s.mem ∧ s.trapped t e c x.pc tFLOW_RULE 0 w.toNat) ∧
      (wOp w = 0x40 → wFn6 w = 0x08 → tokFields w false false false false false = true → x.atomic = true →
        ∃ t : State, exec (.yield e w) s = .next t ∧ t.mem = s.mem ∧ s.trapped t e c x.pc tATOMIC 0 w.toNat)) ∧
    (s.running e = some c → x.atomic = true →
      ∃ t : State, ∃ v : Nat, exec (.atomicLimit e) s = .next t ∧ t.mem = s.mem ∧ s.trapped t e c x.pc tATOMIC 0 v) ∧
    (∀ (d : Deferred) (ds : List Deferred), s.running e = some c → x.deferred = d :: ds →
      ∃ t : State, ∃ st age : Nat, exec (.memoryRefusal e) s = .next t ∧ t.mem = s.mem ∧ t.ctx e c = { x with
        deferred := ds
        handler := true, atomic := false, left := 0, trapPc := d.pc, trapCause := d.code * 256 + tACCESS
        trapValue := d.addr, pc := s.f (ENG_TRAP_VEC_VEC e) * 4, st := st, age := age }) ∧
    (∀ isl : Nat, s.running e = some c → x.bound = false →
      ∃ t : State, exec (.eccUncorrectable e isl) s = .next t ∧ t.mem = s.mem ∧ t.qsent = s.qsent ∧
        t.trapPend = s.trapPend ++ [isl] ∧ t.ctx e c = Ctx.empty)

/-- R119, R120, R121: a write of ENG_DVFS to an engine that serves takes a lower or equal point at once and starts a step to
a higher one, during which the engine runs at the old point; the end of the step makes the new point current. -/
def Obligations.ClockPoints : Prop :=
  ∀ (s : State) (req e v : Nat), e < 16 → v < 6 → s.serves (iENG e) = true → s.f (ENG_DVFS_SWITCHING e) = 0 →
    (s.on (ISL_LOCK_LOCKED (iENG e)) = false → (s.engSt e).cap = none → v ≤ s.f (ENG_DVFS_CUR e) →
      ∃ t : State, exec (.dvfsRequest req e v) s = .next t ∧ t.answer = cOK ∧ t.f (ENG_DVFS_REQ e) = v ∧
        t.f (ENG_DVFS_CUR e) = v ∧ t.f (ENG_DVFS_SWITCHING e) = 0 ∧ t.f (ENG_DVFS_CAPPED e) = 0 ∧ t.mem = s.mem ∧
        t.eng = s.eng) ∧
    (s.on (ISL_LOCK_LOCKED (iENG e)) = false → (s.engSt e).cap = none → s.f (ENG_DVFS_CUR e) < v →
      ∃ t : State, exec (.dvfsRequest req e v) s = .next t ∧ t.answer = cOK ∧ t.f (ENG_DVFS_REQ e) = v ∧
        t.f (ENG_DVFS_CUR e) = s.f (ENG_DVFS_CUR e) ∧ t.f (ENG_DVFS_SWITCHING e) = 1 ∧
        (t.engSt e).dvfsTarget = v ∧ t.mem = s.mem ∧
        ((t.engSt e).dvfsNext = none →
          ∃ u : State, exec (.dvfsStepDone e) t = .next u ∧ u.f (ENG_DVFS_CUR e) = v ∧ u.f (ENG_DVFS_SWITCHING e) = 0 ∧
            u.mem = s.mem ∧ u.eng = t.eng))

/-! ### The Dugout and the word queues (chapter 03) -/

/-- R135, R138, R139, R141, R143, R145, R157, R158: a checked operand token joins its instance on die, and a COLLECTING
instance with a complete set becomes READY; a model token counts the instance down; a token that fails its check is answered
with the refusal and changes no instance. A flow-intake token is offered to the journal, or refused where no instance is
bound. The flow's next item goes into ITEM_SLOT. A dispatch moves the instance to the lowest-numbered EMPTY context of the
chosen engine, which starts at its entry outside handler mode. -/
def Obligations.Matching : Prop :=
  ∀ (s : State) (tk : Token) (i : Nat), s.serves iDUG = true →
    (epIsl tk.dest = iDUG → tk.stamp = none → tk.task = none →
      (bits tk.tag 15 0 = i → s.operandCheck tk.tag = cOK → s.dug.spill = [] → s.onDie < 16384 →
        (bit tk.tag 26 = false → (s.inst i).latest = 0 →
          ∃ t : State, exec (.operandToken tk) s = .next t ∧ t.answer = cOK ∧ t.mem = s.mem ∧
            (t.inst i).toks = (s.inst i).toks ++ [⟨bits tk.tag 22 20, tk.data, tk.tag, tk.src⟩] ∧
            ((s.inst i).st = 2 → (t.inst i).st = if (t.inst i).complete then 3 else 2) ∧
            ((s.inst i).st ≠ 2 → (t.inst i).st = (s.inst i).st) ∧ ∀ j : Nat, j ≠ i → t.inst j = s.inst j) ∧
        (bit tk.tag 26 = true → (s.inst i).count ≠ 0 →
          ∃ t : State, exec (.operandToken tk) s = .next t ∧ t.answer = cOK ∧ t.mem = s.mem ∧
            (t.inst i).count = (s.inst i).count - 1 ∧ (t.inst i).toks = (s.inst i).toks ∧
            ∀ j : Nat, j ≠ i → t.inst j = s.inst j)) ∧
      (s.operandCheck tk.tag ≠ cOK →
        ∃ t : State, exec (.operandToken tk) s = .next t ∧ t.answer = s.operandCheck tk.tag ∧ t.dug = s.dug ∧
          s.keeps t [ISL_PSTATE_STATE iDUG, DUG_STAT_REFUSED_COUNT]) ∧
      (bits tk.tag 31 26 = 0 → bits tk.tag 22 12 = 0 → (s.flow (bits tk.tag 11 0)).bound = none →
        ∃ t : State, exec (.flowIntake tk) s = .next t ∧ t.answer = cNOT_FOUND ∧ t.memc = s.memc ∧ t.dug = s.dug ∧
          t.mem = s.mem) ∧
      (bits tk.tag 31 26 = 0 → bits tk.tag 22 12 = 0 → (s.flow (bits tk.tag 11 0)).bound ≠ none → s.accepting = true →
        s.memc.room 64 = true →
        ∃ t : State, ∃ ref : Nat, exec (.flowIntake tk) s = .next t ∧ t.answer = cOK ∧ t.mem = s.mem ∧
          t.memc.itemWrites = s.memc.itemWrites ++
            [⟨.task tk.src none, 5, bits tk.tag 11 0, 0, bits tk.tag 25 23, ref, leBytes 8 tk.data⟩])) ∧
    (∀ (fl : Nat) (r : JRec), s.nextItem fl = some (i, r) →
      ∃ t : State, exec (.flowItemDelivery fl) s = .next t ∧ t.mem = s.mem ∧ t.regs = s.regs ∧ (t.flow fl).delivered = true ∧
        (t.inst i).item = some r.seq ∧ (t.inst i).attempt = (s.flow fl).again ∧
        ∃ tag : Nat, (t.inst i).toks = (s.inst i).toks ++ [⟨(s.inst i).itemSlot, s.itemData r, tag, ep iDUG 1⟩]) ∧
    (∀ e c : Nat, s.chooseDispatch = some (i, e) → firstIdx 8 (fun c => (s.ctx e c).st == 0) = some c →
      ∃ t : State, exec .dispatch s = .next t ∧ t.mem = s.mem ∧ (t.inst i).st = 4 ∧ (t.inst i).eng = e ∧ (t.inst i).ctx = c ∧
        ((t.ctx e c).st = 1 ∨ (t.ctx e c).st = 2) ∧ (t.ctx e c).inst = i ∧ (t.ctx e c).gen = (s.inst i).gen ∧
        (t.ctx e c).pc = (s.inst i).entry ∧ (t.ctx e c).winmask = (s.inst i).winmask ∧
        (t.ctx e c).cls = (s.inst i).actClass ∧ (t.ctx e c).bound = (s.inst i).flowBound ∧ (t.ctx e c).handler = false ∧
        (t.ctx e c).atomic = false ∧ (t.ctx e c).outbox = [] ∧
          ∀ k ∈ (s.inst i).set, (t.ctx e c).rk k.slot = ⟨k.data, k.tag, true⟩)

/-- R132, R133, R135: the descriptor commands act on the selected entry and answer in STATUS: a WRITE whose check passes fills
a FREE or DONE instance from the staging words, with a new generation where it was FREE, or a template, and otherwise
changes nothing; READ copies the eight words of the entry to the staging words; DELETE frees a DONE instance; CANCEL ends an
instance of the right generation that waits for operands; REARM makes a DONE one collect again. -/
def Obligations.Descriptors : Prop :=
  ∀ (s : State) (req i : Nat), s.serves iDUG = true → s.on (ISL_LOCK_LOCKED iDUG) = false → s.on DUG_DESC_CMD_BUSY = false →
    s.selIndex = i →
    (s.selTempl = false →
      (s.descCheck false i s.staged = cOK → ((s.inst i).st = 0 ∨ (s.inst i).st = 6) →
        (s.staged.flowBound && s.descMirrored) = false →
        ∃ t : State, exec (.descWrite req) s = .next t ∧ t.answer = cOK ∧ t.f DUG_DESC_CMD_STATUS = cOK ∧ t.mem = s.mem ∧
          t.eng = s.eng ∧ ((t.inst i).st = 2 ∨ (t.inst i).st = 3) ∧
          (t.inst i).gen = (if (s.inst i).st = 0 then ((s.inst i).gen + 1) % 16 else (s.inst i).gen) ∧
          (t.inst i).w0 = s.staged.w0 ∧ (t.inst i).w1 = s.staged.w1 ∧ (t.inst i).w2 = s.staged.w2 ∧
          (t.inst i).w3 = s.staged.w3 ∧ (t.inst i).w4 = s.staged.w4 ∧ (t.inst i).w7 = s.staged.w7 ∧
          (t.inst i).count = s.staged.countInit ∧ (t.inst i).toks = [] ∧ ∀ j : Nat, j ≠ i → t.inst j = s.inst j) ∧
      (s.descCheck false i s.staged ≠ cOK →
        ∃ t : State, exec (.descWrite req) s = .next t ∧ t.answer = cOK ∧
          t.f DUG_DESC_CMD_STATUS = s.descCheck false i s.staged % 2 ^ 8 ∧ t.dug = s.dug ∧
          s.keeps t [DUG_DESC_CMD_OP, DUG_DESC_CMD_STATUS, ISL_PSTATE_STATE iDUG]) ∧
      (∃ t : State, exec (.descRead req) s = .next t ∧ t.answer = cOK ∧ t.f DUG_DESC_CMD_STATUS = cOK ∧ t.mem = s.mem ∧
        t.dug = s.dug ∧ ∀ k < 8, t.f (DUG_DESC_Wi_WORD k) = ((s.inst i).words (s.spilledFor i)).getD k 0 % 2 ^ 64) ∧
      ((s.inst i).st = 6 → (s.inst i).flowBound = false →
        ∃ t : State, exec (.descDelete req) s = .next t ∧ t.f DUG_DESC_CMD_STATUS = cOK ∧ t.mem = s.mem ∧
          t.inst i = { Desc.free with gen := (s.inst i).gen } ∧ ∀ j : Nat, j ≠ i → t.inst j = s.inst j) ∧
      ((s.inst i).st ≠ 6 → (s.inst i).st ≠ 2 →
        ∃ t : State, exec (.descDelete req) s = .next t ∧ t.f DUG_DESC_CMD_STATUS = cBUSY ∧ t.dug = s.dug ∧ t.mem = s.mem) ∧
      (((s.inst i).st = 2 ∨ (s.inst i).st = 3) → (s.inst i).kind = 1 → (s.inst i).flowBound = false →
        bits (s.f (DUG_DESC_Wi_WORD 5)) 19 16 = (s.inst i).gen →
        ∃ t : State, exec (.descCancel req) s = .next t ∧ t.f DUG_DESC_CMD_STATUS = cOK ∧ t.mem = s.mem ∧ (t.inst i).st = 6 ∧
          (t.inst i).toks = [] ∧ ∀ j : Nat, j ≠ i → t.inst j = s.inst j) ∧
      ((s.inst i).gen ≠ bits (s.f (DUG_DESC_Wi_WORD 5)) 19 16 →
        ∃ t : State, exec (.descCancel req) s = .next t ∧ t.f DUG_DESC_CMD_STATUS = cNOT_FOUND ∧ t.dug = s.dug ∧
          t.mem = s.mem) ∧
      ((s.inst i).st = 6 →
        ∃ t : State, exec (.descRearm req) s = .next t ∧ t.f DUG_DESC_CMD_STATUS = cOK ∧ t.mem = s.mem ∧
          ((t.inst i).st = 2 ∨ (t.inst i).st = 3) ∧ (t.inst i).count = (s.inst i).countInit ∧
          (t.inst i).gen = (s.inst i).gen ∧ ∀ j : Nat, j ≠ i → t.inst j = s.inst j)) ∧
    (s.selTempl = true → s.descCheck true i s.staged = cOK →
      ∃ t : State, exec (.descWrite req) s = .next t ∧ t.answer = cOK ∧ t.f DUG_DESC_CMD_STATUS = cOK ∧ t.templ i = s.staged ∧
        (∀ j : Nat, t.inst j = s.inst j) ∧ t.mem = s.mem)

/-- R151, R152, R154: a refill batch takes up to 32 tokens, oldest first, out of the spill ring when 512 entries are free,
and does nothing before; a stall of the store is noticed, counted and starts its timer anew, and is no event while the
store does not stall. -/
def Obligations.SpillAndStall : Prop :=
  ∀ s : State,
    (s.dug.spill ≠ [] → s.onDie + 512 ≤ 16384 →
      ∃ t : State, exec .spillRefillBatch s = .next t ∧ t.mem = s.mem ∧ t.dug.spill = s.dug.spill.drop 32 ∧
        t.dug.spillRd = s.dug.spillRd + min 32 s.dug.spill.length ∧ t.eng = s.eng) ∧
    (16384 < s.onDie + 512 → exec .spillRefillBatch s = .next s) ∧
    (s.stalled = true →
      ∃ t : State, exec .dugoutStall s = .next t ∧ t.dug.lastDispatch = s.now ∧ t.dug.spill = s.dug.spill ∧ t.mem = s.mem ∧
        t.f DUG_STAT_STALLS_COUNT = satInc 32 (s.f DUG_STAT_STALLS_COUNT) ∧
        t.sent = s.sent ++ (if s.on DUG_NOTICE_EN then [⟨s.f DUG_NOTICE_EP, noticeTag (s.f DUG_NOTICE_TAG) false,
          s.dug.spill.length * 2 ^ 32 + 1, ep iDUG 0, none, none⟩] else [])) ∧
    (s.stalled = false → exec .dugoutStall s = .next s)

/-- R162, R163, R164, R169, R170: a word, from an engine, an island or a write of PUSH, joins an enabled queue that has room and
on which nothing waits; a full queue set to REFUSE answers BUSY and counts the drop, a queue that is not enabled NO_ROUTE.
CFG enables a queue whose depth the pool holds; a depth out of range is refused. STALE starts its timer. A stale tail is
noticed and counted when it is due, and nothing happens before. -/
def Obligations.WordQueues : Prop :=
  ∀ (s : State) (n : Nat), n < 64 → s.serves iQUE = true →
    (∀ w : QWord, w.queue = n → w.stamp = none → w.task = none →
      (s.on (QUE_Qn_CFG_ENABLE n) = true → (s.q n).waits = [] → (s.q n).total < s.f (QUE_Qn_CFG_DEPTH n) →
        ∃ t : State, exec (.queueWord w) s = .next t ∧ t.answer = cOK ∧ t.mem = s.mem ∧ t.eng = s.eng ∧
          (t.q n).words = insertWord ⟨w.prio, w.data, (s.q n).order⟩ (s.q n).words ∧ (t.q n).held = (s.q n).held ∧
          ∀ m : Nat, m ≠ n → t.q m = s.q m) ∧
      (s.on (QUE_Qn_CFG_ENABLE n) = false → epIsl w.src ≠ iGBB → epIsl w.src ≠ iGOB →
        ∃ t : State, exec (.queueWord w) s = .next t ∧ t.answer = cNO_ROUTE ∧ t.que = s.que ∧ s.keeps t []) ∧
      (s.on (QUE_Qn_CFG_ENABLE n) = true → (s.q n).waits = [] → s.f (QUE_Qn_CFG_DEPTH n) ≤ (s.q n).total →
        s.f (QUE_Qn_CFG_FULL n) = 0 → epIsl w.src ≠ iGBB → epIsl w.src ≠ iGOB →
        ∃ t : State, exec (.queueWord w) s = .next t ∧ t.answer = cBUSY ∧ t.que = s.que ∧
          s.keeps t [QUE_Qn_DROPS_REFUSED n])) ∧
    (∀ req v : Nat, s.on (QUE_Qn_CFG_ENABLE n) = true → (s.q n).waits = [] → (s.q n).total < s.f (QUE_Qn_CFG_DEPTH n) →
      ∃ t : State, exec (.queuePush req n v) s = .next t ∧ t.answer = cOK ∧ t.mem = s.mem ∧ t.eng = s.eng ∧
        (t.q n).words = insertWord ⟨s.f (QUE_Qn_CFG_PUSH_PRIO n), v, (s.q n).order⟩ (s.q n).words ∧
        ∀ m : Nat, m ≠ n → t.q m = s.q m) ∧
    (∀ req v : Nat, v < 2 ^ 32 → s.on (QUE_Qn_CFG_ENABLE n) = false → bit v 31 = true →
      bits v 28 27 < 2 → 16 ≤ bits v 12 0 → bits v 12 0 ≤ 4096 → s.poolUsed + bits v 12 0 ≤ 65536 →
      ∃ t : State, exec (.queueConfig req n v) s = .next t ∧ t.answer = cOK ∧ t.on (QUE_Qn_CFG_ENABLE n) = true ∧
        t.f (QUE_Qn_CFG_DEPTH n) = bits v 12 0 ∧ t.f (QUE_Qn_CFG_FULL n) = bits v 28 27 ∧ t.que = s.que ∧ t.mem = s.mem) ∧
    (∀ req v : Nat, (bits v 12 0 < 16 ∨ 4096 < bits v 12 0) →
      ∃ t : State, exec (.queueConfig req n v) s = .next t ∧ t.answer = cRANGE ∧ t.que = s.que ∧
        s.keeps t (ISL_PSTATE_STATE iQUE :: refuseRegs iQUE)) ∧
    (∀ req v : Nat, v < 2 ^ 32 → s.on (QUE_Qn_STALE_EN n) = false → bit v 31 = true →
      0 < bits v 24 0 → bits v 24 0 ≤ 16777216 →
      ∃ t : State, exec (.staleConfig req n v) s = .next t ∧ t.answer = cOK ∧ t.f (QUE_Qn_STALE_TICKS n) = bits v 24 0 ∧
        t.on (QUE_Qn_STALE_EN n) = true ∧ (t.q n).staleStart = s.now ∧ (t.q n).words = (s.q n).words) ∧
    (s.staleDue n = true →
      ∃ t : State, exec (.staleTail n) s = .next t ∧ (t.q n).staleStart = s.now ∧ (t.q n).words = (s.q n).words ∧
        t.sent = s.sent ++ [⟨s.f (QUE_Qn_NOTICE_EP n), noticeTag (s.f (QUE_Qn_NOTICE_TAG n)) false,
          s.now % 2 ^ 32 * 2 ^ 32 + (s.q n).words.length * 2 ^ 16 + n * 2 ^ 8 + 1, ep iQUE 0, none, none⟩] ∧
        s.keeps t [QUE_Qn_NOTICES_COUNT n]) ∧
    (s.staleDue n = false → exec (.staleTail n) s = .next s)

/-! ### GNSS: sample ports, channels, searchers, Snaps (chapters 04 and 05) -/

/-- R176, R178, R179, R180, R182, R292: a stream is configured and enabled within its rates, refused with RANGE outside them,
and not switched off while it is used; the blanking input is the level it takes; an overrun sets its flag and reports the
port's fault; a transaction waits in the FIFO of 16, BUSY beyond, and its end takes the oldest away, counts it and sends the
notice it asks for. A millisecond mark latches device time and counts; between marks none happens. -/
def Obligations.SamplePorts : Prop :=
  ∀ (s : State) (p g : Nat), p < 4 → g < 3 →
    (s.serves (iSMP p) = true →
      (∀ req v : Nat, v < 2 ^ 32 → s.on (SMPn_Sg_CFG_ENABLE p g) = false → bit v 31 = true → 5000 ≤ bits v 16 0 →
        bits v 16 0 ≤ 100000 →
        ∃ t : State, exec (.streamConfig req p g v) s = .next t ∧ t.answer = cOK ∧ t.on (SMPn_Sg_CFG_ENABLE p g) = true ∧
          t.f (SMPn_Sg_CFG_RATE_KHZ p g) = bits v 16 0 ∧ t.f (SMPn_Sg_CFG_CODING p g) = bits v 30 30 ∧
          t.f (SMPn_Sg_CFG_INVERT p g) = bits v 29 29 ∧ t.mem = s.mem ∧ t.smp = s.smp) ∧
      (∀ req v : Nat, s.on (SMPn_Sg_CFG_ENABLE p g) = false → bit v 31 = true → (bits v 16 0 < 5000 ∨ 100000 < bits v 16 0) →
        ∃ t : State, exec (.streamConfig req p g v) s = .next t ∧ t.answer = cRANGE ∧
          s.keeps t (ISL_PSTATE_STATE (iSMP p) :: refuseRegs (iSMP p))) ∧
      (∀ req v : Nat, s.on (SMPn_Sg_CFG_ENABLE p g) = true → bit v 31 = false → s.streamUsed (4 * p + g) = true →
        ∃ t : State, exec (.streamConfig req p g v) s = .next t ∧ t.answer = cBUSY ∧
          s.keeps t (ISL_PSTATE_STATE (iSMP p) :: refuseRegs (iSMP p))) ∧
      (∀ tk : Token, tk.dest = ep (iSMP p) 0 → tk.stamp = none → tk.task = none → spiCheck tk.data = cOK →
        ((s.port p).fifo.length < 16 →
          ∃ t : State, exec (.spiTransaction tk) s = .next t ∧ t.answer = cOK ∧ (t.port p).fifo = (s.port p).fifo ++ [tk.data] ∧
            t.f (SMPn_SPI_STAT_PENDING p) = (s.port p).fifo.length + 1 ∧ t.mem = s.mem) ∧
        (16 ≤ (s.port p).fifo.length →
          ∃ t : State, exec (.spiTransaction tk) s = .next t ∧ t.answer = cBUSY ∧ t.smp = s.smp ∧
            s.keeps t [ISL_PSTATE_STATE (iSMP p)]))) ∧
    (∀ level : Bool, ∃ t : State, exec (.blankInput p level) s = .next t ∧ t.port p = { s.port p with level := level } ∧
      (∀ q : Nat, q ≠ p → t.port q = s.port q) ∧ s.keeps t []) ∧
    (∃ t : State, exec (.sampleOverrun p g) s = .next t ∧ t.on (SMPn_Sg_STAT_OVERRUN p g) = true ∧
      t.trapPend = s.trapPend ++ [iSMP p] ∧ s.keeps t [SMPn_Sg_STAT_OVERRUN p g]) ∧
    (∀ (w : Nat) (rest : List Nat) (miso : Nat), (s.port p).fifo = w :: rest → rest.length < 16 →
      ∃ t : State, exec (.spiTransactionDone p miso) s = .next t ∧ (t.port p).fifo = rest ∧
        t.f (SMPn_SPI_STAT_PENDING p) = rest.length ∧ s.keeps t [SMPn_SPI_STAT_PENDING p, SMPn_SPI_STAT_DONE p] ∧
        t.sent = s.sent ++ (if bit w 63 then [⟨s.f (SMPn_SPI_NOTICE_EP p), noticeTag (s.f (SMPn_SPI_NOTICE_TAG p)) false,
          bits w 47 32 * 2 ^ 32 + miso % 2 ^ (bits w 53 48), ep (iSMP p) 0, none, none⟩] else [])) ∧
    (s.tim.edges ≠ 0 → s.tim.edges % 100000 = 0 → s.tim.edges ≠ s.tim.markAt →
      ∃ t : State, exec (.millisecondMark []) s = .next t ∧ t.f TIM_MARK_TICKS = s.now ∧
        t.f TIM_MARK_COUNT_COUNT = wrapInc 32 (s.f TIM_MARK_COUNT_COUNT) ∧ t.tim.markAt = s.tim.edges) ∧
    (∀ ms : List MarkIn, s.tim.edges % 100000 ≠ 0 → exec (.millisecondMark ms) s = .next s)

/-- R187, R188, R189, R190, R191, R194, R207: a channel command takes effect at once in OFF and IDLE and at the next boundary
elsewhere: ENABLE makes an OFF channel IDLE, DISABLE an IDLE one OFF, START with settings that pass its checks an IDLE one
PULLIN, and STOP, VECTOR_ON and VECTOR_OFF wait for the boundary, which runs STOP; a write of the loop settings is checked
as START is. The time limits of PULLIN, SYNC, COAST and VECTOR end those states when they are reached. -/
def Obligations.Channels : Prop :=
  ∀ (s : State) (req c : Nat), c < 512 →
    (s.serves iGBB = true → s.f (GBB_CH_CMD_BUSY c) = 0 →
      (s.chSt c = 0 →
        ∃ t : State, exec (.channelEnable req c) s = .next t ∧ t.answer = cOK ∧ t.chSt c = 1 ∧ t.f (GBB_CH_CMD_STATUS c) = cOK ∧
          t.mem = s.mem ∧ ∀ d : Nat, d ≠ c → t.ch d = s.ch d) ∧
      (s.chSt c = 1 →
        (∃ t : State, exec (.channelEnable req c) s = .next t ∧ t.chSt c = 1 ∧ t.f (GBB_CH_CMD_STATUS c) = cBUSY) ∧
        (∃ t : State, exec (.channelDisable req c) s = .next t ∧ t.answer = cOK ∧ t.chSt c = 0 ∧
          t.f (GBB_CH_CMD_STATUS c) = cOK ∧ t.mem = s.mem ∧ ∀ d : Nat, d ≠ c → t.ch d = s.ch d) ∧
        (s.startCheck c = cOK →
          ∃ t : State, exec (.channelStart req c) s = .next t ∧ t.answer = cOK ∧ t.chSt c = 2 ∧
            t.f (GBB_CH_CMD_STATUS c) = cOK ∧ t.mem = s.mem ∧ ∀ d : Nat, d ≠ c → t.ch d = s.ch d) ∧
        (s.startCheck c ≠ cOK →
          ∃ t : State, exec (.channelStart req c) s = .next t ∧ t.chSt c = 1 ∧
            t.f (GBB_CH_CMD_STATUS c) = s.startCheck c % 2 ^ 8 ∧ t.mem = s.mem)) ∧
      (2 ≤ s.chSt c →
        (∃ t : State, exec (.channelStop req c) s = .next t ∧ t.answer = cOK ∧ t.f (GBB_CH_CMD_BUSY c) = 1 ∧ (t.ch c).op = 4 ∧
          t.chSt c = s.chSt c) ∧
        (∃ t : State, exec (.vectorOn req c) s = .next t ∧ t.answer = cOK ∧ t.f (GBB_CH_CMD_BUSY c) = 1 ∧ (t.ch c).op = 5 ∧
          t.chSt c = s.chSt c) ∧
        ∃ t : State, exec (.vectorOff req c) s = .next t ∧ t.answer = cOK ∧ t.f (GBB_CH_CMD_BUSY c) = 1 ∧ (t.ch c).op = 6 ∧
          t.chSt c = s.chSt c) ∧
      (∀ v : Nat, v < 2 ^ 64 → s.chSt c ≤ 1 →
        ∃ t : State, exec (.channelLoopWrite req c v) s = .next t ∧ t.answer = cOK ∧ t.f (GBB_CH_LOOP_PLL_BW c) = bits v 11 0 ∧
          t.f (GBB_CH_LOOP_FLL_BW c) = bits v 19 12 ∧ t.f (GBB_CH_LOOP_DLL_BW c) = bits v 28 20 ∧ t.gbb = s.gbb ∧
          t.mem = s.mem) ∧
      (∀ v : Nat, 2 ≤ s.chSt c → (s.regW iGBB req (aCh c 8) v).2.startCheck c ≠ cOK →
        ∃ t : State, exec (.channelLoopWrite req c v) s = .next t ∧ t.answer = (s.regW iGBB req (aCh c 8) v).2.startCheck c ∧
          s.keeps t (ISL_PSTATE_STATE iGBB :: refuseRegs iGBB))) ∧
    (∀ (b : BoundIn) (g : Sig), 2 ≤ s.chSt c → s.chSig c = some g →
      (∃ t : State, exec (.integrationBoundary c b) s = .next t ∧ (t.ch c).seq = wrapInc 32 (s.ch c).seq) ∧
      ((s.ch c).op = 4 →
        ∃ t : State, exec (.integrationBoundary c b) s = .next t ∧ t.chSt c = 1 ∧ t.f (GBB_CH_CMD_BUSY c) = 0 ∧
          (t.ch c).op = 0)) ∧
    (s.chSt c = 2 → s.elapsedMs (s.ch c).since 2000 = true →
      ∃ t : State, exec (.pullinFail c) s = .next t ∧ t.chSt c = 1 ∧ t.mem = s.mem ∧ ∀ d : Nat, d ≠ c → t.ch d = s.ch d) ∧
    (s.chSt c = 3 → s.elapsedMs (s.ch c).since 6000 = true →
      ∃ t : State, exec (.syncFail c) s = .next t ∧ t.chSt c = 1 ∧ t.mem = s.mem ∧ ∀ d : Nat, d ≠ c → t.ch d = s.ch d) ∧
    (s.chSt c = 6 → s.on (GBB_CH_STATUS_REACQ c) = false →
      s.elapsedMs (s.ch c).since (s.f (GBB_CH_RECOVER_COAST_MS c)) = true →
      (s.on (GBB_CH_CFG_AUTO_REACQ c) = false →
        ∃ t : State, exec (.coastExpiry c) s = .next t ∧ t.chSt c = 1 ∧ t.mem = s.mem ∧ ∀ d : Nat, d ≠ c → t.ch d = s.ch d) ∧
      (s.on (GBB_CH_CFG_AUTO_REACQ c) = true →
        ∃ t : State, exec (.coastExpiry c) s = .next t ∧ t.chSt c = 6 ∧ t.on (GBB_CH_STATUS_REACQ c) = true ∧ t.mem = s.mem)) ∧
    (s.chSt c = 5 → s.elapsedMs (s.ch c).lastVec (s.f (GBB_CH_RECOVER_VEC_TIMEOUT_MS c)) = true → s.gbb.vecs = [] →
      ∃ t : State, exec (.fallback c) s = .next t ∧ t.chSt c = 4 ∧ (t.ch c).accV = (s.ch c).dopp ∧ (t.ch c).accA = 0 ∧
        t.mem = s.mem ∧ ∀ d : Nat, d ≠ c → t.ch d = s.ch d) ∧
    (s.chSt c = 0 → exec (.pullinFail c) s = .next s ∧ exec (.syncFail c) s = .next s ∧
      exec (.coastExpiry c) s = .next s ∧ exec (.fallback c) s = .next s)

/-- R203, R204, R205, R208, R210, R211, R214, R216: a search command joins the queue of its searcher, eight at most; a free
searcher takes the next one and captures for it, or completes it with the status of its check; the end of the search frees
the searcher and sends the notice; a cancel withdraws a queued command, and finds none where none is. A vector update is
kept until its time, a record without a SEQ is refused and counted; the oldest one takes effect once device time has
reached it. -/
def Obligations.Searchers : Prop :=
  ∀ s : State,
    (∀ tk : Token, s.serves iGBB = true → tk.stamp = none → tk.task = none → gbbTokenBad tk = false →
      (tk.dest = ep iGBB 0x010 → (s.sr 0).queue.length < 8 →
        ∃ t : State, exec (.searchCommand tk) s = .next t ∧ t.answer = cOK ∧ t.mem = s.mem ∧
          (t.sr 0).queue = (s.sr 0).queue ++ [⟨tk.data, bits tk.tag 25 23, s.gbb.order, none⟩] ∧ t.sr 1 = s.sr 1) ∧
      (tk.dest = ep iGBB 0x010 → 8 ≤ (s.sr 0).queue.length →
        ∃ t : State, exec (.searchCommand tk) s = .next t ∧ t.answer = cBUSY ∧ t.gbb = s.gbb ∧
          s.keeps t [ISL_PSTATE_STATE iGBB]) ∧
      (epIsl tk.dest = iGBB → s.gbb.srch = [] →
        ∃ t : State, exec (.searchCancel tk) s = .next t ∧ t.answer = cNOT_FOUND ∧ t.gbb = s.gbb ∧
          s.keeps t [ISL_PSTATE_STATE iGBB]) ∧
      (∀ c : SrchCmd, epIsl tk.dest = iGBB → (s.sr 0).queue = [c] → c.chan = none → c.addr = tk.data →
        ∃ t : State, exec (.searchCancel tk) s = .next t ∧ t.answer = cOK ∧ (t.sr 0).queue = [] ∧
          t.sr 1 = s.sr 1)) ∧
    (∀ (k : Nat) (c : SrchCmd), k < 2 → (s.sr k).active = none → nextCmd (s.sr k).queue = some c → c.chan = none →
      (s.searchCheck (s.rdBytes c.addr 64) = cOK →
        ∃ t : State, ∃ a : SrchAct, exec (.searchCaptureStart k) s = .next t ∧ (t.sr k).queue = (s.sr k).queue.erase c ∧
          (t.sr k).active = some a ∧ a.cmd = c ∧ a.blk = s.rdBytes c.addr 64 ∧ t.mem = s.mem) ∧
      (s.searchCheck (s.rdBytes c.addr 64) ≠ cOK →
        ∃ t : State, ∃ n : Token, exec (.searchCaptureStart k) s = .next t ∧ (t.sr k).queue = (s.sr k).queue.erase c ∧
          (t.sr k).active = none ∧ t.mem = s.mem ∧ t.sent = s.sent ++ [n] ∧
          n.data = s.searchCheck (s.rdBytes c.addr 64) * 2 ^ 56 + c.addr)) ∧
    (∀ (k : Nat) (a : SrchAct) (ms : List SearchIn), k < 2 → (s.sr k).active = some a → a.cmd.chan = none →
      ∃ t : State, ∃ (l : List Token) (n : Token), exec (.searchDone k ms) s = .next t ∧ (t.sr k).active = none ∧
        t.sent = s.sent ++ l ++ [n] ∧
        n.data % 2 ^ 48 = a.cmd.addr % 2 ^ 48) ∧
    (∀ (k : Nat) (ms : List SearchIn), (s.sr k).active = none → exec (.searchDone k ms) s = .next s) ∧
    (∀ tk : Token, s.serves iGBB = true → epIsl tk.dest = iGBB → tk.stamp = none → tk.task = none → tk.tag % 2 ^ 23 = 0 →
      bits tk.tag 31 26 = 0 → tk.data % 32 = 0 → blockIn tk.data 32 false = true → s.gbb.vecs.length < 4 →
      32 + 16 * s.rd (tk.data + 4) 2 ≤ s.rd (tk.data + 16) 4 →
      (s.rd tk.data 4 = 0 →
        ∃ t : State, exec (.vectorUpdate tk) s = .next t ∧ t.answer = cOK ∧ t.gbb = s.gbb ∧ t.mem = s.mem ∧
          t.f GBB_STAT_VEC_REFUSED_COUNT = satInc 32 (s.f GBB_STAT_VEC_REFUSED_COUNT)) ∧
      (s.rd tk.data 4 ≠ 0 → s.rd (tk.data + 4) 2 = 0 → s.rd (tk.data + 6) 2 = 0 → s.rd (tk.data + 20) 8 = 0 →
        s.rd (tk.data + 28) 4 = 0 → s.gbb.lastApply = none → s.now < s.rd (tk.data + 8) 8 →
        ∃ t : State, exec (.vectorUpdate tk) s = .next t ∧ t.answer = cOK ∧ t.mem = s.mem ∧
          t.gbb.vecs = s.gbb.vecs ++ [⟨s.rd tk.data 4, s.rd (tk.data + 8) 8, []⟩])) ∧
    (∀ (u : VecUpd) (rest : List VecUpd), s.gbb.vecs = u :: rest →
      (s.now < u.apply → exec .vectorApply s = .next s) ∧
      (u.apply ≤ s.now → u.entries.length ≤ 512 →
        ∃ t : State, ∃ n : Token, exec .vectorApply s = .next t ∧ t.gbb.vecs = rest ∧ t.mem = s.mem ∧ t.sent = s.sent ++ [n] ∧
          n.data / 2 ^ 32 = u.seq) ∧
      (∀ (en : VecEnt) (g : Sig), u.apply ≤ s.now → u.entries = [en] → en.chan < 512 → s.chSt en.chan = 5 →
        s.chSig en.chan = some g →
        bit en.flags 0 = true →
        ∃ t : State, exec .vectorApply s = .next t ∧ (t.ch en.chan).dopp = dRat (signed 32 en.dopp) 1000 ∧
          (t.ch en.chan).vecSeq = u.seq ∧ (t.ch en.chan).lastVec = s.tim.edges ∧ ∀ d : Nat, d ≠ en.chan → t.ch d = s.ch d))

/-- R226, R228, R229, R230: a software request takes GOB's slot and answers OK, BUSY while it is taken, TOO_LATE for a time that
lies less than 16 ticks ahead; a stack-wide one needs the Captain and names its edge to the stack; the period and the phase
change only while the periodic trigger is off, and enabling it arms the next time that is congruent to the phase; a target
that device time reaches falls due, and the next one lies after now. -/
def Obligations.SnapTriggers : Prop :=
  ∀ (s : State) (req v : Nat), s.serves iGOB = true →
    (bit v 0 = true →
      (s.gob.soft = none → s.now + 16 ≤ s.f GOB_SOFT_TIME_TIME → s.snapConflict (s.edgeAt (s.f GOB_SOFT_TIME_TIME)) = false →
        ∃ t : State, exec (.snapSoftRequest req v) s = .next t ∧ t.answer = cOK ∧ t.f GOB_SOFT_STATUS = cOK ∧
          t.f GOB_SOFT_PENDING = 1 ∧ t.gob = { s.gob with soft := some ⟨s.f GOB_SOFT_TIME_TIME, true, false⟩ } ∧
          s.keeps t [GOB_SOFT_STATUS, GOB_SOFT_PENDING, ISL_PSTATE_STATE iGOB]) ∧
      (s.gob.soft ≠ none →
        ∃ t : State, exec (.snapSoftRequest req v) s = .next t ∧ t.answer = cOK ∧ t.f GOB_SOFT_STATUS = cBUSY ∧ t.gob = s.gob ∧
          s.keeps t [GOB_SOFT_STATUS, GOB_SOFT_PENDING, ISL_PSTATE_STATE iGOB]) ∧
      (s.gob.soft = none → 0 < s.f GOB_SOFT_TIME_TIME → s.f GOB_SOFT_TIME_TIME < s.now + 16 →
        ∃ t : State, exec (.snapSoftRequest req v) s = .next t ∧ t.f GOB_SOFT_STATUS = cTOO_LATE ∧ t.gob = s.gob) ∧
      (s.on BXL_STATUS_CAPTAIN = true → s.gob.soft = none → s.now + s.f GOB_STACK_LEAD_TICKS ≤ s.f GOB_SOFT_TIME_TIME →
        s.gob.stack = [] →
        ∃ t : State, ∃ j : Nat, exec (.snapStackRequest req v) s = .next t ∧ t.answer = cOK ∧ t.f GOB_SOFT_STATUS = cOK ∧
          t.gob.stack = [⟨s.f GOB_SOFT_TIME_TIME, s.gob.nextStack, j⟩] ∧ t.gob.nextStack = wrapInc 32 s.gob.nextStack ∧
          t.gob.soft = some ⟨s.f GOB_SOFT_TIME_TIME, true, false⟩ ∧ t.mem = s.mem)) ∧
    (s.on BXL_STATUS_CAPTAIN = false →
      ∃ t : State, exec (.snapStackRequest req v) s = .next t ∧ t.answer = cNOT_OWNER ∧ t.gob = s.gob ∧
        s.keeps t (ISL_PSTATE_STATE iGOB :: refuseRegs iGOB)) ∧
    (s.on GOB_CTRL_PERIOD_EN = false →
      (0 < v → v ≤ 10000 →
        ∃ t : State, exec (.snapPeriodConfig req 0x0200210024 v) s = .next t ∧ t.answer = cOK ∧ t.f GOB_PERIOD_MS = v ∧
          t.gob = s.gob ∧ s.keeps t [GOB_PERIOD_MS, ISL_PSTATE_STATE iGOB]) ∧
      (s.f GOB_PERIOD_MS ≠ 0 → s.gob.soft = none →
        ∃ t : State, ∃ T : Nat, exec (.snapPeriodConfig req 0x0200210020 1) s = .next t ∧ t.answer = cOK ∧
          t.on GOB_CTRL_PERIOD_EN = true ∧
          t.gob.target = some T ∧ s.now < T ∧ T ≤ s.now + s.snapP ∧
          (Int.ofNat T - Int.ofNat (s.f GOB_PHASE_TICKS)) % Int.ofNat s.snapP = 0 ∧ t.mem = s.mem)) ∧
    (s.on GOB_CTRL_PERIOD_EN = true →
      ∃ t : State, exec (.snapPeriodConfig req 0x0200210024 v) s = .next t ∧ t.answer = cBUSY ∧ t.gob = s.gob ∧
        s.keeps t (ISL_PSTATE_STATE iGOB :: refuseRegs iGOB)) ∧
    (∀ T : Nat, s.gob.target = some T → s.on GOB_CTRL_PERIOD_EN = true → s.on GOB_CTRL_STACK_PERIOD = false → s.snapP ≠ 0 →
      T ≤ s.now →
      ∃ t : State, ∃ T' : Nat, exec .snapPeriodic s = .next t ∧ bit t.gob.due 0 = true ∧ t.gob.target = some T' ∧ s.now < T' ∧
        T' ≤ s.now + s.snapP ∧ (T' - T) % s.snapP = 0 ∧ s.keeps t []) ∧
    (∀ T : Nat, s.gob.target = some T → s.now < T → exec .snapPeriodic s = .next s)

/-- R222, R233, R234, R237, R245, R249, R253: at the edge of a trigger that is due GOB takes one Snap into a bank, with the next
number, and no byte outside the bank changes; without a trigger there is none. The end of the fill makes it the last Snap.
A bank that is being filled cannot be held. A wanted navigation unit goes into the next place of its channel's ring. A
broadcast offset that no unit has renewed for 7,200 s is dropped. -/
def Obligations.SnapsAndNavigation : Prop :=
  ∀ s : State,
    (s.contributes iGOB = true → s.gob.due ≠ 0 → s.gob.target = none → s.gob.fill = none →
      s.f GOB_LAST_BANK_BANK < 2 →
      ∃ t : State, ∃ b info : Nat, exec .snapEdge s = .next t ∧ b < 2 ∧ t.gob.num = wrapInc 32 s.gob.num ∧
        t.gob.fill = some ⟨b, wrapInc 32 s.gob.num, info⟩ ∧ t.gob.due = 0 ∧ t.gob.lastEdge = some s.tim.edges ∧
        ∀ a : Nat, (a < 0x0301000000 + b * 0x100000 ∨ 0x0301000000 + b * 0x100000 + 0xB000 ≤ a) → t.rdB a = s.rdB a) ∧
    (s.gob.due = 0 → s.gob.target = none → s.gob.soft = none → s.gob.floating = none → s.gob.stack = [] →
      exec .snapEdge s = .next s) ∧
    (∀ f : Fill, s.gob.fill = some f → f.bank < 2 → f.num < 2 ^ 32 →
      ∃ t : State, exec .snapFillDone s = .next t ∧ t.gob = { s.gob with fill := none } ∧ t.f GOB_LAST_SNAP_NUM = f.num ∧
        t.f GOB_LAST_BANK_BANK = f.bank ∧ t.rd (0x0301000000 + f.bank * 0x100000 + 0xAFFC) 4 = f.num ∧
        t.rd (0x0301000000 + f.bank * 0x100000 + 4) 1 = 2 ∧
        s.eng = t.eng ∧ (∀ a : Nat, (a < 0x0301000000 + f.bank * 0x100000 ∨ 0x0301000000 + f.bank * 0x100000 + 0xB000 ≤ a) →
          t.rdB a = s.rdB a)) ∧
    (s.gob.fill = none → exec .snapFillDone s = .next s) ∧
    (∀ req v : Nat, s.serves iGOB = true → v < 3 →
      (s.gob.fill = none →
        ∃ t : State, exec (.bankHold req v) s = .next t ∧ t.answer = cOK ∧ t.f GOB_HOLD_BANK = v ∧ t.gob = s.gob ∧
          s.keeps t [GOB_HOLD_BANK, ISL_PSTATE_STATE iGOB]) ∧
      (∀ f : Fill, s.gob.fill = some f → v = f.bank + 1 →
        ∃ t : State, exec (.bankHold req v) s = .next t ∧ t.answer = cBUSY ∧ t.gob = s.gob ∧
          s.keeps t (ISL_PSTATE_STATE iGOB :: refuseRegs iGOB))) ∧
    (∀ (c : Nat) (u : NavIn) (g : Sig), c < 512 → 3 ≤ s.chSt c → s.chSt c < 6 → s.chSig c = some g → u.polarity = none →
      u.tow = none → u.isb = none →
      u.kind = 0x80 → s.f (GOB_NAV_PTR_c_WR c) < 32 →
      (bit (s.f (GOB_NAV_CFG_c_MODE c)) 1 = true →
        ∃ t : State, exec (.navUnitDecoded c u) s = .next t ∧ t.f (GOB_NAV_PTR_c_WR c) = (s.f (GOB_NAV_PTR_c_WR c) + 1) % 32 ∧
          t.gbb = s.gbb ∧ t.eng = s.eng ∧
          t.rd (0x0301200000 + c * 0x1000 + s.f (GOB_NAV_PTR_c_WR c) * 128) 4 =
            Tab.get (fun _ => 0) s.gob.navSeq c % 2 ^ 32 ∧
          ∀ a : Nat, (a < 0x0301200000 + c * 0x1000 + s.f (GOB_NAV_PTR_c_WR c) * 128 ∨
            0x0301200000 + c * 0x1000 + s.f (GOB_NAV_PTR_c_WR c) * 128 + 128 ≤ a) → t.rdB a = s.rdB a) ∧
      (bit (s.f (GOB_NAV_CFG_c_MODE c)) 1 = false → exec (.navUnitDecoded c u) s = .next s)) ∧
    (∀ (y : Nat) (b : Bcast), Tab.get (fun _ => none) s.gob.bcast y = some b →
      (b.seen + 720000000000 ≤ s.tim.edges →
        ∃ t : State, exec (.bcastExpiry y) s = .next t ∧ Tab.get (fun _ => none) t.gob.bcast y = none ∧
          (∀ z : Nat, z ≠ y → Tab.get (fun _ => none) t.gob.bcast z = Tab.get (fun _ => none) s.gob.bcast z) ∧ s.keeps t []) ∧
      (s.tim.edges < b.seen + 720000000000 → exec (.bcastExpiry y) s = .next s))

/-! ### The ambiguity engine and the positioning library (chapter 05) -/

/-- R256, R258, R261, R263, R264: a command joins the queue of POS, 16 at most; a free unit takes the one of the highest class,
oldest first, and searches it, or answers the status of its check in a notice and stays free. The end of a search or its
deadline frees the unit, counts, writes the result, of which a byte outside its 64 bytes and its candidates is never
touched, and sends one notice; a failed decomposition writes the header alone. A cancel withdraws a queued or an active
command with the notice CANCELLED, and answers NOT_FOUND where no command has that address. -/
def Obligations.AmbiguityEngine : Prop :=
  ∀ s : State,
    (∀ tk : Token, s.serves iPOS = true → tk.stamp = none → tk.task = none →
      (tk.dest = ep iPOS 0 → posTokenBad tk = false → s.pos.queue.length < 16 →
        ∃ t : State, exec (.posCommand tk) s = .next t ∧ t.answer = cOK ∧
          t.pos = { s.pos with
            queue := s.pos.queue ++ [⟨tk.data, bits tk.tag 25 23, s.pos.order⟩], order := s.pos.order + 1 } ∧
          t.f POS_QUEUE_QUEUED = s.pos.queue.length + 1 ∧ s.keeps t [POS_QUEUE_QUEUED, ISL_PSTATE_STATE iPOS]) ∧
      (tk.dest = ep iPOS 0 → posTokenBad tk = true ∨ 16 ≤ s.pos.queue.length →
        ∃ t : State, exec (.posCommand tk) s = .next t ∧ t.answer = (if posTokenBad tk then cRANGE else cBUSY) ∧ t.pos = s.pos ∧
          t.f POS_STAT_REFUSED_COUNT = satInc 32 (s.f POS_STAT_REFUSED_COUNT) ∧
          s.keeps t [POS_STAT_REFUSED_COUNT, ISL_PSTATE_STATE iPOS]) ∧
      (∀ c : PosCmd, epIsl tk.dest = iPOS → posTokenBad tk = false → s.pos.queue.find? (fun c => c.addr == tk.data) = some c →
        ∃ t : State, ∃ n : Token, exec (.posCancel tk) s = .next t ∧ t.answer = cOK ∧
          t.pos = { s.pos with queue := s.pos.queue.erase c } ∧
          t.f POS_STAT_CANCELLED_COUNT = satInc 32 (s.f POS_STAT_CANCELLED_COUNT) ∧ t.sent = s.sent.erase tk ++ [n] ∧
          n.data = cCANCELLED * 2 ^ 56 + tk.data ∧
          ∀ a : Nat, (a < s.rd (tk.data + 32) 8 ∨ s.rd (tk.data + 32) 8 + 64 ≤ a) → t.rdB a = s.rdB a) ∧
      (epIsl tk.dest = iPOS → posTokenBad tk = false → s.pos.queue = [] → s.posUnit 0 = none → s.posUnit 1 = none →
        ∃ t : State, exec (.posCancel tk) s = .next t ∧ t.answer = cNOT_FOUND ∧ t.pos = s.pos ∧ t.sent = s.sent.erase tk ∧
          s.keeps t [ISL_PSTATE_STATE iPOS])) ∧
    (∀ (u : Nat) (c : PosCmd), u < 2 → s.on (if u = 0 then POS_CTRL_U0_EN else POS_CTRL_U1_EN) = true → s.posUnit u = none →
      nextPos s.pos.queue = some c →
      (s.posCheck (s.posBlock c.addr) = cOK →
        ∃ t : State, exec (.posCommandStart u) s = .next t ∧ t.posUnit u = some ⟨c, s.posBlock c.addr, s.now⟩ ∧
          t.posUnit (1 - u) = s.posUnit (1 - u) ∧ t.pos.queue = s.pos.queue.erase c ∧ t.f (POS_UNIT_u_ACTIVE u) = 1 ∧
          t.sent = s.sent ∧ t.mem = s.mem) ∧
      (s.posCheck (s.posBlock c.addr) ≠ cOK →
        ∃ t : State, ∃ n : Token, exec (.posCommandStart u) s = .next t ∧ t.pos = { s.pos with queue := s.pos.queue.erase c } ∧
          t.sent = s.sent ++ [n] ∧ n.data = s.posCheck (s.posBlock c.addr) * 2 ^ 56 + c.addr ∧
          s.keeps t [POS_QUEUE_QUEUED, POS_STAT_REFUSED_COUNT])) ∧
    (∀ u : Nat, s.pos.queue = [] → exec (.posCommandStart u) s = .next s) ∧
    (∀ (u : Nat) (x : PosAct), u < 2 → s.posUnit u = some x →
      (∃ t : State, ∃ n : Token, exec (.posSearchDone u) s = .next t ∧ t.posUnit u = none ∧
        t.posUnit (1 - u) = s.posUnit (1 - u) ∧
        t.pos.queue = s.pos.queue ∧ t.f POS_STAT_DONE_COUNT = satInc 32 (s.f POS_STAT_DONE_COUNT) ∧
        t.sent = s.sent ++ [n] ∧
        ∀ a : Nat, (a < blk x.blk 32 8 ∨ blk x.blk 32 8 + 64 + blk x.blk 3 1 * candSize (posSelect x.blk).1.length ≤ a) →
          t.rdB a = s.rdB a) ∧
      (∀ v : Nat, (ldl (posSelect x.blk).2 [] []).2.2 = some v → s.memCheck (ep iPOS 0) (blk x.blk 32 8) 64 true = cOK →
        ∃ t : State, ∃ n : Token, exec (.posSearchDone u) s = .next t ∧ t.sent = s.sent ++ [n] ∧
          n.data = cRANGE * 2 ^ 56 + x.cmd.addr ∧ t.rd (blk x.blk 32 8) 1 = cRANGE ∧ t.rd (blk x.blk 32 8 + 6) 1 = v % 256 ∧
          ∀ a : Nat, (a < blk x.blk 32 8 ∨ blk x.blk 32 8 + 64 ≤ a) → t.rdB a = s.rdB a) ∧
      (blk x.blk 8 8 ≠ 0 → blk x.blk 8 8 ≤ s.now →
        ∃ t : State, ∃ n : Token, exec (.posDeadline u) s = .next t ∧ t.posUnit u = none ∧
          t.posUnit (1 - u) = s.posUnit (1 - u) ∧
          t.pos.queue = s.pos.queue ∧ t.f POS_STAT_DONE_COUNT = satInc 32 (s.f POS_STAT_DONE_COUNT) ∧
          t.sent = s.sent ++ [n] ∧
          ∀ a : Nat, (a < blk x.blk 32 8 ∨ blk x.blk 32 8 + 64 + blk x.blk 3 1 * candSize (posSelect x.blk).1.length ≤ a) →
            t.rdB a = s.rdB a) ∧
      (blk x.blk 8 8 = 0 ∨ s.now < blk x.blk 8 8 → exec (.posDeadline u) s = .next s)) ∧
    (∀ u : Nat, s.posUnit u = none → exec (.posSearchDone u) s = .next s ∧ exec (.posDeadline u) s = .next s)

/-- R269, R270, R275, R276, R279, R284, R285, R287: a configuration record with admitted values starts the library, any other
leaves it stopped. A base epoch writes its frames to the buffer, which changes at no other byte, and sends the token that
names them. A good correction frame replaces the one of its number, a bad one is counted. A solution off the grid is
skipped and counted, one on it goes into the next of 16 report places, of at most type 1 where no correction is held. A
part that does not complete its epoch waits; one that does is answered with a position return block and its item is
committed with one output, and so is an epoch whose limit has passed. -/
def Obligations.PositioningLibrary : Prop :=
  ∀ (s : State) (e : Nat),
    (∀ (a ring : Nat) (x y z : Int) (b : List Byte), s.memCheck (ep (iENG e) 0) a 64 false = cOK →
      b = s.rdBytes a (64 + 8 * s.rd (a + 45) 1) →
      s.memCheck (ep (iENG e) 0) a (64 + 8 * s.rd (a + 45) 1) false = cOK →
      (libCfgOk b (s.f GOB_PERIOD_MS) x y z = true →
        exec (.libraryStart e a ring x y z) s =
          .next { s with lib := { LibSt.reset with cfg := b, modes := fld b 0 1, reports := ring } }) ∧
      (libCfgOk b (s.f GOB_PERIOD_MS) x y z = false → s.ist iSCB ≠ 5 → s.ist iSCB ≠ 0 → s.on SCB_STATUS_LOGFAIL = false →
        s.scb.writing = none → s.scb.first = [] → s.boot.restored = true →
        ∃ t : State, ∃ r : ScbRec, exec (.libraryStart e a ring x y z) s = .next t ∧ t.lib = LibSt.reset ∧
          t.scb.writing = some r ∧
          r.status = cRANGE ∧ r.software = true ∧ s.keeps t [])) ∧
    (∀ (buf : Nat) (msgs : List (Nat × List Byte)), s.lib.mode 0 = true → s.lib.frames msgs ≠ [] →
      (s.lib.frames msgs).flatten.length ≤ 4096 →
      s.memCheck (ep (iENG e) 0) buf (s.lib.frames msgs).flatten.length true = cOK →
      ∃ t : State, exec (.baseEpoch e buf msgs) s = .next t ∧ t.lib = s.lib ∧ t.regs = s.regs ∧ t.eng = s.eng ∧
        t.rdBytes buf (s.lib.frames msgs).flatten.length = (s.lib.frames msgs).flatten ∧
        t.sent = s.sent ++ [⟨bits (s.lib.fld 48 8) 15 0, bits (s.lib.fld 48 8) 47 16,
          buf % 2 ^ 40 + (s.lib.frames msgs).flatten.length * 2 ^ 40, ep (iENG e) 0, none, none⟩] ∧
        ∀ a : Nat, (a < buf ∨ buf + (s.lib.frames msgs).flatten.length ≤ a) → t.rdB a = s.rdB a) ∧
    (∀ (buf : Nat) (msgs : List (Nat × List Byte)), s.lib.mode 0 = false → exec (.baseEpoch e buf msgs) s = .next s) ∧
    (∀ fr : List Byte,
      (s.lib.mode 1 = true → rtcmOk fr = true → corrAccepted (beValue ((fr.drop 3).take 2) / 16) = true →
        exec (.correctionFrame fr) s = .next { s with lib := { s.lib with
          corr := s.lib.corr.filter (fun c => c.1 != beValue ((fr.drop 3).take 2) / 16) ++
            [(beValue ((fr.drop 3).take 2) / 16, s.now, fr)] } }) ∧
      (s.lib.mode 1 = true → rtcmOk fr = false →
        exec (.correctionFrame fr) s = .next { s with lib := { s.lib with discarded := s.lib.discarded + 1 } }) ∧
      (s.lib.mode 1 = false → exec (.correctionFrame fr) s = .next s)) ∧
    (∀ (x : RtkIn) b, s.lib.mode 1 = true → s.bankOf x.num = some b →
      (1000 < s.gridError b →
        exec (.rtkSolution e x) s = .next { s with lib := { s.lib with skipped := s.lib.skipped + 1 } }) ∧
      (∀ p : Nat, s.gridError b ≤ 1000 → p = s.lib.reports + 64 * (s.lib.nextReport % 16) →
        s.memCheck (ep (iENG e) 0) p 64 true = cOK →
        ∃ t : State, exec (.rtkSolution e x) s = .next t ∧ t.lib = { s.lib with nextReport := s.lib.nextReport + 1 } ∧
          t.regs = s.regs ∧ t.eng = s.eng ∧ t.rd p 4 = x.num % 2 ^ 32 ∧
          (s.lib.corr.any (fun c => corrMsm c.1) = false → t.rd (p + 4) 1 = min x.best 1) ∧
          t.sent = s.sent ++ [⟨bits (s.lib.fld 56 8) 15 0, bits (s.lib.fld 56 8) 47 16, p, ep (iENG e) 0, none, none⟩] ∧
          ∀ a : Nat, (a < p ∨ p + 64 ≤ a) → t.rdB a = s.rdB a)) ∧
    (∀ c r blk (x : CofIn),
      (s.cofItem e c r blk = none → exec (.cofPart e c r blk x) s = .next s ∧ exec (.cofEpochLimit e c r blk x) s = .next s) ∧
      (∀ q : JRec, s.cofItem e c r blk = some q →
        ((s.robot r).waits ≠ some q.seq → s.cofCheck (s.robot r) q.payload = cOK →
          (bits (fld q.payload 1 1) 7 4 > ((s.robot r).before q.payload).length + 1 →
            (∀ z ∈ s.recs, z.flow = q.flow → z.seq ≠ wrapInc 32 q.seq) →
            exec (.cofPart e c r blk x) s = .next (s.setRobot r { s.robot r with
              epoch := some (cofEpoch q.payload), count := bits (fld q.payload 1 1) 7 4, waits := some q.seq,
              parts := (s.robot r).before q.payload ++ [(bits (fld q.payload 1 1) 3 0, q.payload)] })) ∧
          (bits (fld q.payload 1 1) 7 4 ≤ ((s.robot r).before q.payload).length + 1 →
            ∃ t : State, ∃ j : CommitJob, exec (.cofPart e c r blk x) s = .next t ∧ (t.robot r).epoch = none ∧
              (t.robot r).solved = some (cofEpoch q.payload) ∧ (t.robot r).parts = [] ∧
              (∀ d : Nat, d ≠ r → t.robot d = s.robot d) ∧ t.rd blk 4 = (cofEpoch q.payload).2 % 2 ^ 32 ∧
              t.memc.commitJobs = s.memc.commitJobs ++ [j] ∧ j.flow = q.flow ∧ j.seq = q.seq ∧ j.outs.length = 1 ∧
              ∀ a : Nat, (a < blk ∨ blk + 32 ≤ a) → t.rdB a = s.rdB a)) ∧
        (∀ ep' : Nat × Nat, (s.robot r).epoch = some ep' → (s.robot r).waits = some q.seq →
          (epochMs ep' + 60) * 1000000 ≤ s.gpsWeekNs →
          ∃ t : State, ∃ j : CommitJob, exec (.cofEpochLimit e c r blk x) s = .next t ∧ (t.robot r).epoch = none ∧
            (t.robot r).solved = some ep' ∧ (t.robot r).parts = [] ∧ t.rd blk 4 = ep'.2 % 2 ^ 32 ∧
            t.memc.commitJobs = s.memc.commitJobs ++ [j] ∧ j.flow = q.flow ∧ j.seq = q.seq ∧ j.outs.length = 1 ∧
            ∀ a : Nat, (a < blk ∨ blk + 32 ≤ a) → t.rdB a = s.rdB a)))

/-! ### Device time, captures, pins and Ethernet (chapter 06) -/

/-- R293, R295, R297, R299, R298, R300, R301, R302: TIM_LATCH copies device time and the views, and is refused with BUSY before
its copy is complete; the offset can be written in UNSET and FREERUN alone, and its first write leaves UNSET; a leap second
due moves CUR to NEXT; a change of the source in LOCKING or LOCKED enters HOLDOVER; a MAX that keeps |FREQ| + MAX within
1,000 ppm sets the slew rate. A correction is taken whole, by slew up to the threshold and by step beyond, or refused whole
with its status. No part of a step carries device time onto a pending leading edge. Without a correction for TIMEOUT, and
with REFIN lost, the state changes, and comes back when REFIN does. -/
def Obligations.TimeKeeping : Prop :=
  ∀ (s : State) (req v : Nat),
    (s.serves iTIM = true →
      (bit v 0 = true → s.on TIM_LATCH_DONE = true →
        ∃ t : State, exec (.timeLatch req v) s = .next t ∧ t.answer = cOK ∧ t.f TIM_LT_TIME_TICKS = s.now ∧
          t.f TIM_LT_FRAC_FRAC = s.tim.time48 / 2 ^ 16 % 2 ^ 32 ∧ t.tim = s.tim ∧ s.within t iTIM ∧
          ∀ w < 8, t.f (TIM_LT_VIEW_v_SEC_SEC w) = unsigned 64 (s.viewSec w (s.gpsNs / 1000000000)) ∧
            t.f (TIM_LT_VIEW_v_NS_NS w) = (s.gpsNs % 1000000000).toNat) ∧
      (bit v 0 = true → s.on TIM_LATCH_DONE = false →
        ∃ t : State, exec (.timeLatch req v) s = .next t ∧ t.answer = cBUSY ∧ t.tim = s.tim ∧
          s.keeps t (ISL_PSTATE_STATE iTIM :: refuseRegs iTIM)) ∧
      (v < 2 ^ 64 → s.follower req = false → s.tim.qst < 2 →
        ∃ t : State, exec (.gpsOffsetWrite req v) s = .next t ∧ t.answer = cOK ∧ t.f TIM_GPS_OFFSET_TICKS = v ∧ t.tim.qst = 1 ∧
          t.tim.time48 = s.tim.time48 ∧ (s.tim.qst = 0 → bit (t.f TIM_EVENTS_EVENT) 6 = true) ∧ s.within t iTIM) ∧
      (s.follower req = true ∨ (2 ≤ s.tim.qst ∧ epIsl req ≠ iBXL) →
        ∃ t : State, exec (.gpsOffsetWrite req v) s = .next t ∧
          t.answer = (if s.follower req then cNOT_OWNER else cBUSY) ∧ t.tim = s.tim ∧
          s.keeps t (ISL_PSTATE_STATE iTIM :: refuseRegs iTIM)) ∧
      (v < 2 ^ 32 → 0 < bits v 31 16 → bits v 2 0 < 6 → s.follower req = false →
        ((s.tim.qst = 2 ∨ s.tim.qst = 3) → bits v 2 0 ≠ s.f TIM_SRC_SEL →
          ∃ t : State, exec (.sourceSelect req v) s = .next t ∧ t.answer = cOK ∧ t.f TIM_SRC_SEL = bits v 2 0 ∧ t.tim.qst = 4 ∧
            t.f TIM_STATUS_HOLD_S = 0 ∧ bit (t.f TIM_EVENTS_EVENT) 2 = true ∧ t.tim.time48 = s.tim.time48 ∧
            s.within t iTIM) ∧
        (s.tim.qst ≠ 2 → s.tim.qst ≠ 3 →
          ∃ t : State, exec (.sourceSelect req v) s = .next t ∧ t.answer = cOK ∧ t.f TIM_SRC_SEL = bits v 2 0 ∧
            t.f TIM_SRC_TIMEOUT = bits v 31 16 ∧ t.tim = s.tim ∧ s.within t iTIM)) ∧
      (v < 2 ^ 19 → 0 < v → v ≤ 500000 →
        ((signed 64 (s.f TIM_FREQ_FREQ)).natAbs * 10 ^ 9 + v * 2 ^ 48 ≤ 10 ^ 6 * 2 ^ 48 →
          ∃ t : State, exec (.slewMaxWrite req v) s = .next t ∧ t.answer = cOK ∧ t.f TIM_SLEW_MAX = v ∧
            t.tim = { s.tim with mag := v * 2 ^ 48 / 10 ^ 9 } ∧ s.keeps t [TIM_SLEW_MAX, ISL_PSTATE_STATE iTIM]) ∧
        (10 ^ 6 * 2 ^ 48 < (signed 64 (s.f TIM_FREQ_FREQ)).natAbs * 10 ^ 9 + v * 2 ^ 48 →
          ∃ t : State, exec (.slewMaxWrite req v) s = .next t ∧ t.answer = cRANGE ∧ t.tim = s.tim ∧
            s.keeps t (ISL_PSTATE_STATE iTIM :: refuseRegs iTIM))) ∧
      (bit v 0 = true → s.on TIM_ADJ_CMD_BUSY = false →
        (s.adjCheck v (epIsl req == iBXL) = cOK →
          ∃ t : State, exec (.timeCorrection req v) s = .next t ∧ t.answer = cOK ∧ t.f TIM_ADJ_CMD_STATUS = cOK ∧
            t.tim.qst = (if bit v 3 then 3 else 2) ∧ t.tim.lastCorr = s.tim.edges ∧ t.tim.time48 = s.tim.time48 ∧
            t.f TIM_FREQ_FREQ = (if bit v 1 then s.f TIM_ADJ_FREQ_FREQ % 2 ^ 64 else s.f TIM_FREQ_FREQ) ∧
            (t.tim.slew48, t.tim.stepLeft) =
              (if bit v 2 = false then (s.tim.slew48, s.tim.stepLeft)
                else if (signed 64 (s.f TIM_ADJ_PHASE_PHASE)).natAbs ≤ s.f TIM_STEP_THR_TICKS * 2 ^ 32
                then (signed 64 (s.f TIM_ADJ_PHASE_PHASE) * 2 ^ 16, s.tim.stepLeft)
                else (0, signed 64 (s.f TIM_ADJ_PHASE_PHASE))) ∧ s.within t iTIM) ∧
        (s.adjCheck v (epIsl req == iBXL) ≠ cOK →
          ∃ t : State, exec (.timeCorrection req v) s = .next t ∧ t.answer = cOK ∧
            t.f TIM_ADJ_CMD_STATUS = s.adjCheck v (epIsl req == iBXL) % 2 ^ 8 ∧ t.tim = s.tim ∧
            t.f TIM_FREQ_FREQ = s.f TIM_FREQ_FREQ ∧ s.within t iTIM))) ∧
    (s.on TIM_LEAP_PENDING = true → Int.ofNat (s.f TIM_LEAP_AT_SECONDS) ≤ s.gpsNs / 1000000000 →
      ∃ t : State, exec .leapSecond s = .next t ∧ t.f TIM_LEAP_CUR = s.f TIM_LEAP_NEXT % 2 ^ 8 ∧ t.on TIM_LEAP_PENDING = false ∧
        bit (t.f TIM_EVENTS_EVENT) 5 = true ∧ t.tim.time48 = s.tim.time48 ∧
        s.keeps t [TIM_LEAP_CUR, TIM_LEAP_PENDING, TIM_EVENTS_EVENT]) ∧
    (s.on TIM_LEAP_PENDING = false → exec .leapSecond s = .next s) ∧
    (s.tim.stepLeft = 0 ∨ s.pinActive = true → exec .stepPart s = .next s) ∧
    (s.tim.stepLeft < 0 → s.pinActive = false →
      ∃ t : State, exec .stepPart s = .next t ∧ t.tim.time48 = wrapTime (Int.ofNat s.tim.time48 + s.tim.stepLeft * 2 ^ 16) ∧
        t.tim.stepLeft = 0 ∧ bit (t.f TIM_EVENTS_EVENT) 1 = true ∧ t.mem = s.mem) ∧
    (0 < s.tim.stepLeft → s.pinActive = false →
      (∃ t : State, exec .stepPart s = .next t ∧ t.mem = s.mem ∧
        ∀ T ∈ s.pinTargets, T < 2 ^ 64 → s.tim.time48 < T * 2 ^ 48 → t.tim.time48 < T * 2 ^ 48) ∧
      (s.pinTargets = [] →
        ∃ t : State, exec .stepPart s = .next t ∧ t.tim.time48 = wrapTime (Int.ofNat s.tim.time48 + s.tim.stepLeft * 2 ^ 16) ∧
          t.tim.stepLeft = 0)) ∧
    ((s.tim.qst = 2 ∨ s.tim.qst = 3) →
      (s.tim.lastCorr + s.f TIM_SRC_TIMEOUT * 1000000 ≤ s.tim.edges →
        ∃ t : State, exec .holdover s = .next t ∧ t.tim.qst = 4 ∧ t.f TIM_STATUS_HOLD_S = 0 ∧
          bit (t.f TIM_EVENTS_EVENT) 2 = true ∧
          t.f TIM_FREQ_FREQ = s.f TIM_FREQ_FREQ ∧ t.tim.slew48 = s.tim.slew48 ∧ s.within t iTIM) ∧
      (s.tim.edges < s.tim.lastCorr + s.f TIM_SRC_TIMEOUT * 1000000 → exec .holdover s = .next s)) ∧
    (s.tim.qst ≠ 5 →
      (∃ t : State, exec .refinLost s = .next t ∧ t.tim.qst = 5 ∧ t.tim.before = s.tim.qst ∧
        bit (t.f TIM_EVENTS_EVENT) 4 = true ∧ s.within t iTIM) ∧
      exec .refinReturn s = .next s) ∧
    (s.tim.qst = 5 → exec .refinLost s = .next s ∧
      ∃ t : State, exec .refinReturn s = .next t ∧ s.within t iTIM ∧
        t.tim.qst = (if s.tim.before = 2 ∨ s.tim.before = 3 then 4 else s.tim.before))

/-- R304, R305, R306, R307, R308, R309: an enabled edge of a capture input puts its stamp into a FIFO of four, is counted when
it comes within 20 ns of the last, and overflows a full FIFO; a read of the stamp takes the oldest. A pin is enabled once
its settings pass their checks and nothing binds or holds it, and TOO_LATE leaves it off; disabling it lets a pulse end. A
leading edge that falls due makes the pin active, counts, and puts the trailing edge one width later; the trailing edge
makes it inactive and, at the last pulse, done. -/
def Obligations.CapturesAndPins : Prop :=
  ∀ s : State,
    (∀ (n : Nat) (rising : Bool) (sub : Nat), n < 16 →
      (s.on (TIM_TCn_CFG_ENABLE n) = false →
        ∃ t : State, exec (.captureInputEdge n rising sub) s = .next t ∧ t.f (TIM_TCn_STAT_LEVEL n) = b2n rising ∧
          t.tim = s.tim ∧
          s.keeps t [TIM_TCn_STAT_LEVEL n]) ∧
      (s.on (TIM_TCn_CFG_ENABLE n) = true →
        (s.f (TIM_TCn_CFG_EDGE n) = 2 ∨ s.f (TIM_TCn_CFG_EDGE n) = if rising then 0 else 1) →
        ((∀ l : Nat, (s.cap n).last = some l → l + 20 ≤ s.tim.edges * 10 + sub % 10) →
          ((s.cap n).fifo.length < 4 →
            ∃ t : State, exec (.captureInputEdge n rising sub) s = .next t ∧
              (t.cap n).fifo = (s.cap n).fifo ++ [s.stampWord sub] ∧
              t.f (TIM_TCn_STAT_COUNT n) = (s.cap n).fifo.length + 1 ∧
              (t.cap n).last = some (s.tim.edges * 10 + sub % 10) ∧ t.mem = s.mem ∧ t.tim.time48 = s.tim.time48) ∧
          (4 ≤ (s.cap n).fifo.length →
            ∃ t : State, exec (.captureInputEdge n rising sub) s = .next t ∧ (t.cap n).fifo = (s.cap n).fifo ∧
              t.on (TIM_TCn_STAT_OVERFLOW n) = true ∧ t.mem = s.mem)) ∧
        (∀ l : Nat, (s.cap n).last = some l → s.tim.edges * 10 + sub % 10 < l + 20 →
          ∃ t : State, exec (.captureInputEdge n rising sub) s = .next t ∧ t.tim = s.tim ∧
            t.f (TIM_TCn_STAT_CLOSE n) = satInc 16 (s.f (TIM_TCn_STAT_CLOSE n)) ∧
            s.keeps t [TIM_TCn_STAT_LEVEL n, TIM_TCn_STAT_CLOSE n]))) ∧
    (∀ req n : Nat, n < 16 → s.serves iTIM = true →
      ∃ t : State, exec (.captureStampRead req n) s = .next t ∧ t.answer = cOK ∧ t.data = (s.cap n).fifo.headD 0 ∧
        (t.cap n).fifo = (s.cap n).fifo.drop 1 ∧ s.keeps t [TIM_TCn_STAT_COUNT n, ISL_PSTATE_STATE iTIM]) ∧
    (∀ req p v : Nat, p < 32 → s.serves iTIM = true →
      ((s.pin p).bound = none → s.pinHeld p = false → bits v 30 28 < 5 → s.pinCheck p (bits v 30 28) = cOK →
        (bits v 30 28 = 0 →
          ∃ t : State, exec (.pinEnable req p v) s = .next t ∧ t.answer = cOK ∧ t.on (TIM_TPp_CFG_ENABLE p) = true ∧
            t.f (TIM_TPp_CFG_MODE p) = 0 ∧ t.f (TIM_TPp_STAT_STATUS p) = cOK ∧ t.on (TIM_TPp_STAT_DONE p) = false ∧
            t.pin p = { PinSt.fresh with lead := some (s.f (TIM_TPp_START_TICKS p)) } ∧
            (∀ k : Nat, k ≠ p → t.pin k = s.pin k) ∧ s.within t iTIM) ∧
        (bits v 30 28 = 4 →
          ∃ t : State, exec (.pinEnable req p v) s = .next t ∧ t.answer = cOK ∧ t.on (TIM_TPp_CFG_ENABLE p) = true ∧
            t.on (TIM_TPp_STAT_HIGH p) = true ∧
            t.f (TIM_TPp_PULSES_COUNT p) = satInc 32 (s.f (TIM_TPp_PULSES_COUNT p)) ∧ s.within t iTIM)) ∧
      ((s.pin p).bound = none → s.pinHeld p = false → bits v 30 28 = 0 → s.f (TIM_TPp_WIDTH_TICKS p) ≠ 0 →
        s.f (TIM_TPp_START_TICKS p) < s.now + 2 →
        ∃ t : State, exec (.pinEnable req p v) s = .next t ∧ t.f (TIM_TPp_STAT_STATUS p) = cTOO_LATE ∧
          t.on (TIM_TPp_CFG_ENABLE p) = false ∧ t.tim = s.tim ∧ s.within t iTIM) ∧
      ((s.pin p).bound ≠ none ∨ s.pinHeld p = true →
        ∃ t : State, exec (.pinEnable req p v) s = .next t ∧
          t.answer = (if (s.pin p).bound.isSome then cNOT_OWNER else cBUSY) ∧ t.tim = s.tim ∧
          s.keeps t (ISL_PSTATE_STATE iTIM :: refuseRegs iTIM)) ∧
      (s.on (TIM_TPp_CFG_ENABLE p) = true → s.f (TIM_TPp_CFG_MODE p) < 3 →
        (s.on (TIM_TPp_STAT_HIGH p) = true →
          ∃ t : State, exec (.pinDisable req p v) s = .next t ∧ t.answer = cOK ∧ t.on (TIM_TPp_CFG_ENABLE p) = false ∧
            t.pin p = { s.pin p with stopping := true, lead := none } ∧
            s.keeps t [TIM_TPp_CFG_ENABLE p, ISL_PSTATE_STATE iTIM]) ∧
        (s.on (TIM_TPp_STAT_HIGH p) = false → (∀ w : Nat, (s.pin p).lead = some w → s.now < w) →
          (∀ w : Nat, (s.pin p).due = some w → s.tim.edges < w) →
          ∃ t : State, exec (.pinDisable req p v) s = .next t ∧ t.answer = cOK ∧ t.on (TIM_TPp_CFG_ENABLE p) = false ∧
            t.pin p = PinSt.fresh ∧ s.keeps t [TIM_TPp_CFG_ENABLE p, ISL_PSTATE_STATE iTIM])) ∧
      (s.on (TIM_TPp_CFG_ENABLE p) = true → (s.f (TIM_TPp_CFG_MODE p) = 3 ∨ s.f (TIM_TPp_CFG_MODE p) = 4) →
        ∃ t : State, exec (.pinDisable req p v) s = .next t ∧ t.answer = cOK ∧ t.on (TIM_TPp_CFG_ENABLE p) = false ∧
          t.on (TIM_TPp_STAT_HIGH p) = false ∧ t.tim = s.tim ∧ s.within t iTIM)) ∧
    (∀ p w : Nat, p < 32 → s.on (TIM_TPp_STAT_HIGH p) = false → (s.pin p).bound = none → (s.pin p).lead = some w →
      (w ≤ s.now →
        ∃ t : State, exec (.pinLeadingEdge p) s = .next t ∧ t.on (TIM_TPp_STAT_HIGH p) = true ∧
          t.f (TIM_TPp_PULSES_COUNT p) = satInc 32 (s.f (TIM_TPp_PULSES_COUNT p)) ∧
          (t.pin p).trail = some (w + s.f (TIM_TPp_WIDTH_TICKS p)) ∧ (t.pin p).k = (s.pin p).k + 1 ∧
          (s.f (TIM_TPp_CFG_MODE p) = 0 → (t.pin p).lead = none) ∧
          (s.f (TIM_TPp_CFG_MODE p) ≠ 0 → s.on (TIM_TPp_CFG_FOREVER p) = true → (s.pin p).stopping = false →
            (t.pin p).lead = some (w + s.f (TIM_TPp_PERIOD_TICKS p))) ∧
          s.keeps t [TIM_TPp_STAT_HIGH p, TIM_TPp_PULSES_COUNT p]) ∧
      (s.now < w → exec (.pinLeadingEdge p) s = .next s)) ∧
    (∀ p : Nat, s.on (TIM_TPp_STAT_HIGH p) = true → exec (.pinLeadingEdge p) s = .next s) ∧
    (∀ p w : Nat, p < 32 → s.on (TIM_TPp_STAT_HIGH p) = true → (s.pin p).trail = some w →
      (w ≤ s.now →
        ∃ t : State, exec (.pinTrailingEdge p) s = .next t ∧ t.on (TIM_TPp_STAT_HIGH p) = false ∧ (t.pin p).trail = none ∧
          ((s.pin p).lead = none → (s.pin p).stopping = false → t.on (TIM_TPp_STAT_DONE p) = true) ∧
          s.keeps t [TIM_TPp_STAT_HIGH p, TIM_TPp_STAT_DONE p]) ∧
      (s.now < w → exec (.pinTrailingEdge p) s = .next s)) ∧
    (∀ p : Nat, s.on (TIM_TPp_STAT_HIGH p) = false → exec (.pinTrailingEdge p) s = .next s)

/-- R313, R315, R317, R318, R319, R320: a transmit block that passes its checks takes one of the 32 buffers of its port, BUSY
beyond, NO_ROUTE without a link; the next buffered frame in class order leaves with its FCS, and with the stamp it asks
for, unless a PAUSE holds the port. A frame with a bad FCS is counted, one the filter does not admit is dropped, one it
admits goes with its length, its number and its bytes to the next place of the receive ring, or is counted where the ring
is full. A read of a transmit stamp takes the oldest. A link change shows in the port's register. -/
def Obligations.EthernetPorts : Prop :=
  ∀ (s : State) (p : Nat), p < 2 →
    (∀ tk : Token, s.serves iETH = true → tk.dest = ep iETH (0x010 + p) → tk.stamp = none → tk.task = none →
      tk.tag % 2 ^ 23 = 0 → bits tk.tag 31 26 = 0 → tk.data % 32 = 0 → blockIn tk.data 16 true = true →
      blockIn tk.data (16 + min (bits (s.rd tk.data 8) 13 0) 1526) true = true → bits (s.rd tk.data 8) 63 51 = 0 →
      bits (s.rd tk.data 8) 31 14 = 0 → s.rd (tk.data + 12) 4 = 0 → bit (s.rd tk.data 8) 49 = false →
      60 ≤ bits (s.rd tk.data 8) 13 0 →
      (1526 < bits (s.rd tk.data 8) 13 0 →
        ∃ t : State, exec (.ethTransmit tk) s = .next t ∧ t.answer = cLENGTH ∧ t.eth = s.eth ∧
          s.keeps t [ISL_PSTATE_STATE iETH]) ∧
      (bits (s.rd tk.data 8) 13 0 ≤ 1526 → s.on (ETH_Pp_LINK_UP p) = false →
        ∃ t : State, exec (.ethTransmit tk) s = .next t ∧ t.answer = cNO_ROUTE ∧ t.eth = s.eth ∧
          s.keeps t [ISL_PSTATE_STATE iETH]) ∧
      (bits (s.rd tk.data 8) 13 0 ≤ 1526 → s.on (ETH_Pp_MACCFG_ENABLE p) = true → s.on (ETH_Pp_LINK_UP p) = true →
        ((s.ethPort p).bufs.length < 32 →
          ∃ t : State, exec (.ethTransmit tk) s = .next t ∧ t.answer = cOK ∧ s.within t iETH ∧
            t.f (ETH_Pp_TXSTAT_OCCUPIED p) = (s.ethPort p).bufs.length + 1 ∧
            (t.ethPort p).bufs = (s.ethPort p).bufs ++ [⟨bits tk.tag 25 23, (s.ethPort p).order, s.rd (tk.data + 8) 4,
              bit (s.rd tk.data 8) 50, false, bit (s.rd tk.data 8) 48, bits (s.rd tk.data 8) 47 32,
              s.rdBytes (tk.data + 16) (bits (s.rd tk.data 8) 13 0), none⟩] ∧ t.eth.out = s.eth.out) ∧
        (32 ≤ (s.ethPort p).bufs.length →
          ∃ t : State, exec (.ethTransmit tk) s = .next t ∧ t.answer = cBUSY ∧ t.eth = s.eth ∧
            s.keeps t [ISL_PSTATE_STATE iETH]))) ∧
    (∀ (b : TxBuf) (sub : Nat), (s.ethPort p).paused ≤ s.tim.edges → s.on (ETH_Pp_LINK_UP p) = true →
      nextBuf (s.ethPort p).bufs = some b →
      b.oneStep = false → b.stamp = none →
      ∃ t : State, exec (.ethFrameSent p sub) s = .next t ∧
        t.eth.out = s.eth.out ++ [(p, b.frame ++ leBytes 4 (fcs32 b.frame))] ∧
        (t.ethPort p).bufs = (s.ethPort p).bufs.erase b ∧ s.within t iETH ∧
        (t.ethPort p).stamps = (s.ethPort p).stamps ++
          (if b.tsReq = true ∧ s.on (ETH_PTPp_CFG_STAMP_EN p) = true ∧ (s.ethPort p).stamps.length < 16
            then [(b.tsId, s.stampNs (sub % 10 + s.f (ETH_PTPp_LAT_TX_LAT p)) 0)] else [])) ∧
    (∀ sub : Nat, (s.tim.edges < (s.ethPort p).paused ∨ (s.ethPort p).bufs = []) → exec (.ethFrameSent p sub) s = .next s) ∧
    (∀ (fr' : List Byte) ok sub, s.on (ETH_Pp_MACCFG_ENABLE p) = true → s.on (ETH_Pp_LINK_UP p) = true →
      ((ok = false ∨ fr'.length < 60 ∨ 1526 < fr'.length) →
        ∃ t : State, exec (.ethFrameReceived p fr' ok sub) s = .next t ∧ t.eth = s.eth ∧
          t.f (ETH_Pp_STAT_RX_BAD p) = satInc 16 (s.f (ETH_Pp_STAT_RX_BAD p)) ∧ s.keeps t [ETH_Pp_STAT_RX_BAD p]) ∧
      (60 ≤ fr'.length → fr'.length ≤ 1526 → s.on (ETH_Pp_MACCFG_PAUSE_EN p) = false →
        (s.ethFilter p fr' = false → exec (.ethFrameReceived p fr' true sub) s = .next s) ∧
        (∀ a : Nat, s.ethFilter p fr' = true → s.hstClaim p fr' = none →
          a = s.f (ETH_Pp_RX_BASE_BASE p) * 2048 + s.f (ETH_Pp_RX_WR_INDEX p) * 2048 →
          ((s.f (ETH_Pp_RX_WR_INDEX p) + 1) % s.f (ETH_Pp_RX_SIZE_ENTRIES p) ≠ s.f (ETH_Pp_RX_RD_INDEX p) →
            s.f (ETH_Pp_RX_SIZE_ENTRIES p) ≠ 0 → s.f (ETH_Pp_RX_SIZE_ENTRIES p) ≤ 4096 →
            s.memCheck (ep iETH 0) a (16 + fr'.length) true = cOK →
            ∃ t : State, exec (.ethFrameReceived p fr' true sub) s = .next t ∧ t.rd a 2 = fr'.length ∧
              t.rd (a + 4) 4 = (s.ethPort p).seq % 2 ^ 32 ∧ t.rdBytes (a + 16) fr'.length = fr' ∧
              (t.ethPort p).seq = wrapInc 32 (s.ethPort p).seq ∧
              t.f (ETH_Pp_RX_WR_INDEX p) = (s.f (ETH_Pp_RX_WR_INDEX p) + 1) % s.f (ETH_Pp_RX_SIZE_ENTRIES p) ∧
              t.eng = s.eng ∧ ∀ b : Nat, (b < a ∨ a + 16 + fr'.length ≤ b) → t.rdB b = s.rdB b) ∧
          ((s.f (ETH_Pp_RX_WR_INDEX p) + 1) % s.f (ETH_Pp_RX_SIZE_ENTRIES p) = s.f (ETH_Pp_RX_RD_INDEX p) →
            ∃ t : State, exec (.ethFrameReceived p fr' true sub) s = .next t ∧ s.within t iETH ∧
              t.f (ETH_Pp_STAT_RX_DROPS p) = satInc 16 (s.f (ETH_Pp_STAT_RX_DROPS p)))))) ∧
    (∀ (up : Bool) (speed partner : Nat),
      ∃ t : State, exec (.ethLinkChange p up speed partner) s = .next t ∧
        t.f (ETH_Pp_LINK_UP p) = b2n (up && s.on (ETH_Pp_MACCFG_ENABLE p) && s.ist (iENG (12 + p)) != 5) ∧
        t.f (ETH_Pp_LINK_SPEED p) = speed % 4 ∧ t.f (ETH_Pp_LINK_PARTNER p) = partner % 2 ^ 16 ∧
        s.keeps t [ETH_Pp_LINK_UP p, ETH_Pp_LINK_SPEED p, ETH_Pp_LINK_PARTNER p]) ∧
    ((s.ethPort p).paused ≤ s.tim.edges →
      ∃ t : State, exec (.pauseExpiry p) s = .next t ∧ t.ethPort p = { s.ethPort p with paused := 0 } ∧ t.eth.out = s.eth.out ∧
        s.within t iETH) ∧
    (s.tim.edges < (s.ethPort p).paused → exec (.pauseExpiry p) s = .next s) ∧
    (∀ req : Nat, s.serves iETH = true →
      ∃ t : State, exec (.txStampRead req p) s = .next t ∧ t.answer = cOK ∧ t.data = ((s.ethPort p).stamps.headD (0, 0)).2 ∧
        (t.ethPort p).stamps = (s.ethPort p).stamps.drop 1 ∧ (t.ethPort p).bufs = (s.ethPort p).bufs ∧ s.within t iETH)

/-! ### The radio (chapter 08) -/

/-- R327, R337, R338, R347, R351, R352, R361: a port is enabled when its sub-bands lie inside its band, RANGE otherwise, keeps
its configuration while it is on,
  and is not switched off while it is used. ARM and ARM_FRESH make an association WAITING when its
checks pass; an update is put in its CTRL queue with its INSTANT; RELEASE closes a CONNECTED association and switches a
WAITING, JOINING or LOST one off; OFF switches any off and empties its queue; a command that does not apply is answered BUSY
in STATUS. A record of class order joins the queue of its association or group, 16 at most. -/
def Obligations.RadioCommands : Prop :=
  ∀ (s : State) (req : Nat), s.serves iRAD = true →
    (∀ n v : Nat, n < 4 → bits v 30 29 < 3 → 2 ≤ bits v 24 20 → bits v 24 20 ≤ 16 →
      bits v 28 27 ≤ (if bits v 30 29 = 0 then 1 else 2) → bits v 26 25 ≤ (if bits v 30 29 = 0 then 1 else 2) →
      (s.on (RADn_CFG_ENABLE n) = false → s.bandOk n (bits v 30 29) = true →
        ∃ t : State, exec (.radioPortEnable req n v) s = .next t ∧ t.answer = cOK ∧ t.on (RADn_CFG_ENABLE n) = true ∧
          t.f (RADn_CFG_BAND n) = bits v 30 29 ∧ t.f (RADn_CFG_POWER n) = bits v 19 12 ∧
          t.rp n = { s.rp n with origin := s.radClk, burst := 0, burstAt := s.radClk } ∧
          (∀ k : Nat, k ≠ n → t.rp k = s.rp k) ∧ s.within t iRAD) ∧
      (s.on (RADn_CFG_ENABLE n) = false → s.bandOk n (bits v 30 29) = false →
        ∃ t : State, exec (.radioPortEnable req n v) s = .next t ∧ t.answer = cRANGE ∧ t.rad = s.rad ∧
          s.keeps t (ISL_PSTATE_STATE iRAD :: refuseRegs iRAD)) ∧
      (s.on (RADn_CFG_ENABLE n) = true → portCfgBits v = s.portCfg n →
        (s.portUsed n = false →
          ∃ t : State, exec (.radioPortDisable req n v) s = .next t ∧ t.answer = cOK ∧ t.on (RADn_CFG_ENABLE n) = false ∧
            t.rp n = { s.rp n with plan := [], tx := none, listen := none, rx := none, busy := 0 } ∧
            (∀ k : Nat, k ≠ n → t.rp k = s.rp k) ∧ s.within t iRAD) ∧
        (s.portUsed n = true →
          ∃ t : State, exec (.radioPortDisable req n v) s = .next t ∧ t.answer = cBUSY ∧ t.rad = s.rad ∧
            s.keeps t (ISL_PSTATE_STATE iRAD :: refuseRegs iRAD))) ∧
      (s.on (RADn_CFG_ENABLE n) = true → portCfgBits v ≠ s.portCfg n →
        ∃ t : State, exec (.radioPortEnable req n v) s = .next t ∧ t.answer = cBUSY ∧ t.rad = s.rad ∧
          s.keeps t (ISL_PSTATE_STATE iRAD :: refuseRegs iRAD))) ∧
    (∀ a : Nat, a < 64 →
      (s.armCheck a = cOK →
        ((s.raSt a = 0 ∨ s.raSt a = 4) →
          ∃ t : State, exec (.arm req a) s = .next t ∧ t.answer = cOK ∧ t.f (RAD_Aa_CMD_STATUS a) = cOK ∧ t.raSt a = 1 ∧
            (s.radKept a = none → t.f (RAD_Aa_STATUS_FRESH a) = 1 ∧ t.rad = s.rad) ∧
            (∀ h : Nat, s.radKept a = some h → t.f (RAD_Aa_STATUS_FRESH a) = 0 ∧ (t.ra a).high = h) ∧ s.within t iRAD) ∧
        (s.raSt a = 0 →
          ∃ t : State, exec (.armFresh req a) s = .next t ∧ t.answer = cOK ∧ t.f (RAD_Aa_CMD_STATUS a) = cOK ∧ t.raSt a = 1 ∧
            t.f (RAD_Aa_STATUS_FRESH a) = 1 ∧ t.rad = s.rad ∧ s.within t iRAD)) ∧
      (s.raSt a = 0 → s.armCheck a ≠ cOK →
        (∃ t : State, exec (.arm req a) s = .next t ∧ t.f (RAD_Aa_CMD_STATUS a) = s.armCheck a % 2 ^ 8 ∧ t.raSt a = 0 ∧
          t.rad = s.rad) ∧
        ∃ t : State, exec (.armFresh req a) s = .next t ∧ t.f (RAD_Aa_CMD_STATUS a) = s.armCheck a % 2 ^ 8 ∧ t.raSt a = 0 ∧
          t.rad = s.rad) ∧
      (s.raSt a = 3 →
        ((s.ra a).update = none →
          (mapOk (s.radN (s.f (RAD_Aa_CFG_PORT a))) (bits (s.nextMap a) 39 0) (bits (s.nextMap a) 51 46)
              (bits (s.nextMap a) 57 52) = true →
            ∃ t : State, exec (.updateMap req a) s = .next t ∧ t.answer = cOK ∧ t.f (RAD_Aa_CMD_STATUS a) = cOK ∧
              (∃ i : Nat, i = ((s.ra a).event + 2 * (s.f (RAD_Aa_TIMING_SLEEP a) + 1) + 6) % 65536 ∧
                t.ra a = { s.ra a with
                  update := some (true, i, s.nextMap a), ctrl := (s.ra a).ctrl ++ [.map i (s.nextMap a)] }) ∧
              s.within t iRAD) ∧
          (timingOk (bits (s.nextTiming a) 35 24) (bits (s.nextTiming a) 11 0) (bits (s.nextTiming a) 23 15)
              (bits (s.nextTiming a) 63 48) = true →
            ∃ t : State, exec (.updateTiming req a) s = .next t ∧ t.answer = cOK ∧ t.f (RAD_Aa_CMD_STATUS a) = cOK ∧
              (∃ i : Nat, i = ((s.ra a).event + 2 * (s.f (RAD_Aa_TIMING_SLEEP a) + 1) + 6) % 65536 ∧
                t.ra a = { s.ra a with
                  update := some (false, i, s.nextTiming a), ctrl := (s.ra a).ctrl ++ [.timing i (s.nextTiming a)] }) ∧
              s.within t iRAD)) ∧
        (∃ t : State, exec (.updateGroups req a) s = .next t ∧ t.answer = cOK ∧ t.f (RAD_Aa_CMD_STATUS a) = cOK ∧
          t.ra a = { s.ra a with ctrl := (s.ra a).ctrl ++ s.radGroups a } ∧ s.within t iRAD) ∧
        ∃ t : State, exec (.release req a) s = .next t ∧ t.answer = cOK ∧ t.f (RAD_Aa_CMD_STATUS a) = cOK ∧ t.raSt a = 5 ∧
          t.ra a = { s.ra a with ctrl := .terminate :: (s.ra a).ctrl, closeAt := s.radClk, update := none } ∧
          s.within t iRAD) ∧
      ((s.raSt a = 1 ∨ s.raSt a = 2 ∨ s.raSt a = 4) →
        ∃ t : State, exec (.release req a) s = .next t ∧ t.answer = cOK ∧ t.f (RAD_Aa_CMD_STATUS a) = cOK ∧ t.raSt a = 0 ∧
          (t.ra a).recs = [] ∧ ((s.ra a).recs = [] → (s.ra a).frame = none → s.within t iRAD)) ∧
      ((s.raSt a = 0 ∨ s.raSt a = 5) →
        ∃ t : State, exec (.release req a) s = .next t ∧ t.f (RAD_Aa_CMD_STATUS a) = cBUSY ∧ t.raSt a = s.raSt a ∧
          t.rad = s.rad) ∧
      ∃ t : State, exec (.associationOff req a) s = .next t ∧ t.answer = cOK ∧ t.f (RAD_Aa_CMD_STATUS a) = cOK ∧ t.raSt a = 0 ∧
        (t.ra a).recs = [] ∧ ((s.ra a).recs = [] → (s.ra a).frame = none → s.within t iRAD)) ∧
    (∀ (tk : Token) k, tk.stamp = none → tk.task = none → 2 ≤ bits tk.tag 11 8 → bits tk.tag 11 8 ≤ 4 →
      tk.tag = k + bits tk.tag 11 8 * 2 ^ 8 + tagPrio tk.tag * 2 ^ 23 →
      (tk.dest = ep iRAD 0x010 → k < 64 → s.raSt k ≠ 0 → s.raSt k ≠ 5 →
        (radPending (s.ra k).recs (s.ra k).frame < 16 →
          ∃ t : State, exec (.radioRecordAssociation tk) s = .next t ∧ t.answer = cOK ∧
            t.ra k = { s.ra k with recs := insertRec ⟨bits tk.tag 11 8, tagPrio tk.tag, s.rad.order, leBytes 8 tk.data,
              tk.src, tk.dest, none, none⟩ (s.ra k).recs } ∧ (∀ b : Nat, b ≠ k → t.ra b = s.ra b) ∧
            s.keeps t [ISL_PSTATE_STATE iRAD]) ∧
        (16 ≤ radPending (s.ra k).recs (s.ra k).frame →
          ∃ t : State, exec (.radioRecordAssociation tk) s = .next t ∧ t.answer = cBUSY ∧ t.rad = s.rad ∧
            s.keeps t [ISL_PSTATE_STATE iRAD])) ∧
      (tk.dest = ep iRAD 0x012 → k < 16 →
        (s.on (RAD_Gg_CFG_EN k) = true → radPending (s.rg k).recs (s.rg k).frame < 16 →
          ∃ t : State, exec (.radioRecordGroup tk) s = .next t ∧ t.answer = cOK ∧
            t.rg k = { s.rg k with recs := insertRec ⟨bits tk.tag 11 8, tagPrio tk.tag, s.rad.order, leBytes 8 tk.data,
              tk.src, tk.dest, none, none⟩ (s.rg k).recs } ∧ (∀ b : Nat, b ≠ k → t.rg b = s.rg b) ∧
            s.keeps t [ISL_PSTATE_STATE iRAD]) ∧
        (s.on (RAD_Gg_CFG_EN k) = false →
          ∃ t : State, exec (.radioRecordGroup tk) s = .next t ∧ t.answer = cNO_ROUTE ∧ t.rad = s.rad ∧
            s.keeps t [ISL_PSTATE_STATE iRAD])))

/-- R339, R341, R342, R346, R347, R353, R354, R355, R356: on a port with nothing under way a beacon that is due, and whose slot is
free and whose sub-bands have no budget, is sent on the next of its channels and counted; an SFD inside the open window begins a
reception, one outside every window is counted as bad. At every anchor the event counter advances, and a held event sends;
at every group event too, which sends nothing with nothing queued. Supervision, JOIN_FAIL and closing end at TIMEOUT. An
update takes effect at its INSTANT. While the stop is latched a burst follows each 10 ms for the first 100, then each
100 ms. At a budget second the buckets older than 3,600 seconds leave. -/
def Obligations.RadioEvents : Prop :=
  ∀ s : State,
    (∀ n : Nat, s.portBusy n = false → s.tim.edges % 100000000 ≠ 0 →
      (s.beaconDue n = true → s.slotFree n (s.f (RADn_BEACON_CLASS n), 0, 0) = true →
        (∀ b < 4, s.on (RADn_SBs_BUDGET_EN n b) = false) →
        ∃ t : State, ∃ x : RadTx, exec (.beacon n) s = .next t ∧ (t.rp n).tx = some x ∧ x.what = .beacon (s.rp n).beacons ∧
          x.start = s.radT n ∧ x.chan = s.beaconChan n (s.rp n).beacons ∧ x.frame.length = 40 ∧
          (t.rp n).beacons = (s.rp n).beacons + 1 ∧ (∀ k : Nat, k ≠ n → t.rp k = s.rp k) ∧ s.within t iRAD) ∧
      (s.beaconDue n = true → s.slotFree n (s.f (RADn_BEACON_CLASS n), 0, 0) = false →
        ∃ t : State, exec (.beacon n) s = .next t ∧ (t.rp n).tx = none ∧ (t.rp n).beacons = (s.rp n).beacons + 1 ∧
          (t.rp n).skipped = satInc 32 (s.rp n).skipped ∧ s.keeps t []) ∧
      (s.beaconDue n = false → exec (.beacon n) s = .next s)) ∧
    (∀ (n : Nat) (f : List Byte) (rssi : Nat) (w : RadListen), s.portOn n = true → (s.rp n).tx = none →
      (s.rp n).rx = none → (s.rp n).plan = [] →
      (s.rp n).listen = some w →
      (w.lo ≤ s.radClk → s.radClk ≤ w.hi →
        (∃ t : State, ∃ x : RadRx, exec (.joinReq n f rssi) s = .next t ∧ (t.rp n).rx = some x ∧ x.win = w ∧ x.frame = f ∧
          (t.rp n).listen = none ∧ s.keeps t []) ∧
        ∃ t : State, ∃ x : RadRx, exec (.robotFrame n f rssi) s = .next t ∧ (t.rp n).rx = some x ∧ x.win = w ∧ x.frame = f ∧
          (t.rp n).listen = none ∧ (s.robotOk w f = true → (t.ra w.assoc).timer = s.radClk) ∧ s.keeps t []) ∧
      (s.radClk < w.lo →
        (∃ t : State, exec (.joinReq n f rssi) s = .next t ∧ s.keeps t [] ∧
          ((s.radClk ≤ w.hi → t.rp n = { s.rp n with rxBad := satInc 32 (s.rp n).rxBad }))) ∧
        ∃ t : State, exec (.robotFrame n f rssi) s = .next t ∧ s.keeps t [] ∧
          (s.radClk ≤ w.hi → t.rp n = { s.rp n with rxBad := satInc 32 (s.rp n).rxBad }))) ∧
    (∀ a n : Nat, a < 64 → n = s.f (RAD_Aa_CFG_PORT a) → s.portBusy n = false → s.tim.edges % 100000000 ≠ 0 →
      s.portOn n = true →
      s.raRuns a = true → (s.ra a).update = none →
      ((s.ra a).next ≤ s.radT n →
        (∃ t : State, exec (.connectionEvent a) s = .next t ∧ (t.ra a).anchor = (s.ra a).next ∧
          (t.ra a).next = (s.ra a).next + s.f (RAD_Aa_TIMING_INTERVAL a) * radUnit ∧
          (t.ra a).event = wrapInc 16 (s.ra a).event ∧ t.f (RAD_Aa_STATUS_EVENT a) = (s.ra a).event % 2 ^ 16 ∧
          (∀ b : Nat, b ≠ a → t.ra b = s.ra b) ∧ s.within t iRAD) ∧
        ((s.ra a).next = s.radT n → s.slotFree n (s.f (RAD_Aa_CFG_CLASS a), 2, a) = true → (s.ra a).frame = none →
          (s.ra a).recs = [] → (s.ra a).ctrl = [] → (∀ b < 4, s.on (RADn_SBs_BUDGET_EN n b) = false) →
          ∃ t : State, ∃ x : RadTx, exec (.connectionEvent a) s = .next t ∧ (t.rp n).tx = some x ∧ x.what = .exchange a true ∧
            x.start = (s.ra a).next ∧ x.frame.length = 20 ∧ fld x.frame 1 1 = a % 256)) ∧
      (s.radT n < (s.ra a).next → exec (.connectionEvent a) s = .next s)) ∧
    (∀ (a : Nat) (back : List RadRec), a < 64 →
      back = (match (s.ra a).frame with | some f => f.recs | none => []) ++ (s.ra a).recs →
      (s.raSt a = 3 → s.radTimeout a (s.ra a).timer = true →
        ∃ t : State, exec (.supervisionTimeout a) s = .next t ∧ (t.ra a).recs = back ∧ (t.ra a).frame = none ∧
          t.raSt a = (if s.on (RAD_Aa_CFG_AUTO_REJOIN a) then 1 else 4) ∧ t.mem = s.mem ∧ t.eng = s.eng) ∧
      (s.raSt a = 2 → s.radTimeout a (s.ra a).timer = true →
        ∃ t : State, exec (.joinFail a) s = .next t ∧ (t.ra a).recs = back ∧ (t.ra a).frame = none ∧ t.raSt a = 1 ∧
          s.keeps t [RAD_Aa_STATUS_STATE a]) ∧
      (s.raSt a = 5 → s.radTimeout a (s.ra a).closeAt = true →
        ∃ t : State, exec (.closeTimeout a) s = .next t ∧ (t.ra a).recs = [] ∧ t.raSt a = 0 ∧
          (back = [] → s.keeps t [RAD_Aa_STATUS_STATE a])) ∧
      (s.raSt a ≠ 3 → exec (.supervisionTimeout a) s = .next s) ∧
      (s.raSt a ≠ 2 → exec (.joinFail a) s = .next s) ∧
      (s.raSt a ≠ 5 → exec (.closeTimeout a) s = .next s)) ∧
    (∀ (a : Nat) (isMap : Bool) (inst v : Nat), a < 64 → (s.ra a).update = some (isMap, inst, v) → s.raRuns a = true →
      ((s.ra a).event = inst → (s.ra a).next ≤ s.radT (s.f (RAD_Aa_CFG_PORT a)) →
        ∃ t : State, exec (.updateInstant a) s = .next t ∧ t.ra a = { s.ra a with update := none } ∧ s.within t iRAD ∧
          (isMap = true → t.f (RAD_Aa_CHMAP_MAP a) = bits v 39 0 ∧ t.f (RAD_Aa_CHMAP_SEED a) = bits v 51 46 ∧
            t.f (RAD_Aa_CHMAP_INC a) = bits v 57 52 ∧ t.f (RAD_Aa_TIMING_INTERVAL a) = s.f (RAD_Aa_TIMING_INTERVAL a)) ∧
          (isMap = false → t.f (RAD_Aa_TIMING_INTERVAL a) = bits v 35 24 ∧ t.f (RAD_Aa_TIMING_SLEEP a) = bits v 23 15 ∧
            t.f (RAD_Aa_TIMING_TIMEOUT a) = bits v 11 0 ∧ t.f (RAD_Aa_TIMING_EVENT_MAX_US a) = bits v 63 48 ∧
            t.f (RAD_Aa_TIMING_ANCHOR a) = s.f (RAD_Aa_TIMING_ANCHOR a) ∧
            t.f (RAD_Aa_CHMAP_MAP a) = s.f (RAD_Aa_CHMAP_MAP a))) ∧
      ((s.ra a).event ≠ inst → exec (.updateInstant a) s = .next s)) ∧
    (∀ g n : Nat, g < 16 → n = s.f (RAD_Gg_CFG_PORT g) → s.portBusy n = false → s.tim.edges % 100000000 ≠ 0 →
      s.portOn n = true → s.on (RAD_Gg_CFG_EN g) = true →
      ((s.rg g).next ≤ s.radT n →
        (∃ t : State, exec (.groupEvent g) s = .next t ∧
          (t.rg g).next = (s.rg g).next + s.f (RAD_Gg_CFG_PERIOD g) * radUnit ∧
          (t.rg g).event = wrapInc 16 (s.rg g).event ∧ t.f (RAD_Gg_STAT_EVENT g) = (s.rg g).event % 2 ^ 16 ∧
          (∀ k : Nat, k ≠ g → t.rg k = s.rg k) ∧ ((s.rg g).recs = [] → (s.rg g).frame = none → t.rad.ports = s.rad.ports) ∧
          t.mem = s.mem)) ∧
      (s.radT n < (s.rg g).next → exec (.groupEvent g) s = .next s)) ∧
    (∀ n : Nat, s.portBusy n = false → s.tim.edges % 100000000 ≠ 0 →
      (s.rad.bursting = true → s.portOn n = true → s.f (RADn_STOP_COUNT n) ≠ 0 → (s.rp n).burstAt ≤ s.radClk →
        ∃ t : State, exec (.stopBurst n) s = .next t ∧ (t.rp n).burst = (s.rp n).burst + 1 ∧
          (t.rp n).burstAt = (s.rp n).burstAt + (if (s.rp n).burst < 100 then 1000000 else 10000000) ∧ t.mem = s.mem ∧
          ((∀ b < 4, s.on (RADn_SBs_BUDGET_EN n b) = false) →
            ∃ x : RadTx, (t.rp n).tx = some x ∧ x.what = .stop (s.rp n).burst 0 ∧ x.chan = s.f (RADn_STOP_CH0 n) ∧
              x.frame.length = 36 ∧ s.within t iRAD)) ∧
      (s.rad.bursting = false ∨ s.f (RADn_STOP_COUNT n) = 0 → exec (.stopBurst n) s = .next s)) ∧
    (s.tim.edges % 100000000 = 0 → s.tim.edges ≠ s.rad.secondAt →
      ∃ t : State, exec .budgetSecond s = .next t ∧ t.rad.second = s.rad.second + 1 ∧ t.rad.secondAt = s.tim.edges ∧
        (∀ k : Nat, Tab.get (fun _ => []) t.rad.buckets k =
          (Tab.get (fun _ => []) s.rad.buckets k).filter (fun b => decide (s.rad.second + 1 < b.second + 3600))) ∧
        t.mem = s.mem) ∧
    (s.tim.edges % 100000000 ≠ 0 → exec .budgetSecond s = .next s)

/-! ### Zone table (chapter 09) -/

/-- R364, R365, R368, R371, R373, R374, R376, R377, R379: the table is switched on with two copies in channels of different
anchors, and off when it holds nothing. A command that passes its staging checks joins the queue of 32. Service takes the
next one: RESERVE inserts every entry and an ACTIVE track, or nothing and reports the first conflict; CHECK inserts nothing;
RELEASE frees a live track of its owner; RELEASE_OWNER every one of an owner in a frame. A write-back writes the result and
sends the notice. A cancel removes a queued command. A track whose last slot has ended expires. A new copy is made of the
other one. -/
def Obligations.ZoneCommands : Prop :=
  ∀ s : State,
    (∀ req v : Nat, s.serves iZON = true →
      (s.on ZON_CTRL_ENABLE = false → bit v 31 = true →
        (copiesOk (s.f ZON_TABLE_A_BASE) (s.f ZON_TABLE_B_BASE) (s.f ZON_TABLE_CFG_LOG2_ENTRIES) = true →
          ∃ t : State, exec (.zonEnable req v) s = .next t ∧ t.answer = cOK ∧ t.on ZON_CTRL_ENABLE = true ∧
            t.zon = { s.zon with copyA := true, copyB := true } ∧ s.within t iZON) ∧
        (copiesOk (s.f ZON_TABLE_A_BASE) (s.f ZON_TABLE_B_BASE) (s.f ZON_TABLE_CFG_LOG2_ENTRIES) = false →
          ∃ t : State, exec (.zonEnable req v) s = .next t ∧ t.answer = cRANGE ∧ t.zon = s.zon ∧
            s.keeps t (ISL_PSTATE_STATE iZON :: refuseRegs iZON))) ∧
      (s.on ZON_CTRL_ENABLE = true → bit v 31 = false →
        (s.liveEnts = [] → s.zon.queue = [] →
          ∃ t : State, exec (.zonEnable req v) s = .next t ∧ t.answer = cOK ∧ t.on ZON_CTRL_ENABLE = false ∧ t.zon = s.zon ∧
            s.within t iZON) ∧
        (s.liveEnts ≠ [] →
          ∃ t : State, exec (.zonEnable req v) s = .next t ∧ t.answer = cBUSY ∧ t.zon = s.zon ∧
            s.keeps t (ISL_PSTATE_STATE iZON :: refuseRegs iZON)))) ∧
    (∀ tk : Token, s.serves iZON = true → tk.stamp = none → tk.task = none → tk.tag = tagPrio tk.tag * 2 ^ 23 →
      tk.data < 2 ^ 40 → tk.data % 64 = 0 →
      (tk.dest = ep iZON 1 → blockIn tk.data 64 true = true →
        (s.on ZON_CTRL_ENABLE = false →
          ∃ t : State, exec (.zonCommand tk) s = .next t ∧ t.answer = cNO_ROUTE ∧ t.zon = s.zon ∧
            s.keeps t [ZON_STAT_REFUSED_COUNT, ISL_PSTATE_STATE iZON]) ∧
        (s.on ZON_CTRL_ENABLE = true → s.memCheck (ep iZON 0) tk.data 64 false = cOK →
          (32 ≤ s.zon.queue.length →
            ∃ t : State, exec (.zonCommand tk) s = .next t ∧ t.answer = cBUSY ∧ t.zon = s.zon ∧
              s.keeps t [ZON_STAT_REFUSED_COUNT, ISL_PSTATE_STATE iZON]) ∧
          (∀ (n : Nat) (b : List Byte), s.zon.queue.length < 32 → n = s.rd (tk.data + 6) 2 → n ≤ 1024 →
            64 + 8 * n ≤ s.rd (tk.data + 20) 4 →
            blockIn tk.data (64 + 8 * n) true = true → s.memCheck (ep iZON 0) tk.data (64 + 8 * n) false = cOK →
            b = s.rdBytes tk.data (64 + 8 * n) →
            (s.zonStage b = cOK →
              ∃ t : State, exec (.zonCommand tk) s = .next t ∧ t.answer = cOK ∧
                t.zon = { s.zon with
                  queue := s.zon.queue ++ [⟨tk.data, tagPrio tk.tag, s.zon.order, b, none⟩], order := s.zon.order + 1 } ∧
                s.keeps t [ISL_PSTATE_STATE iZON]) ∧
            (s.zonStage b ≠ cOK →
              ∃ t : State, ∃ x : Token, exec (.zonCommand tk) s = .next t ∧ t.answer = cOK ∧ t.zon = s.zon ∧
                t.sent = s.sent.erase tk ++ [x] ∧ x.data = s.zonStage b % 256 * 2 ^ 56 + tk.data ∧
                t.f ZON_STAT_REFUSED_COUNT = satInc 32 (s.f ZON_STAT_REFUSED_COUNT) ∧
                ∀ a : Nat, (a < zResult b ∨ zResult b + 64 ≤ a) → t.rdB a = s.rdB a)))) ∧
      (tk.dest = ep iZON 2 →
        (∀ c : ZonCmd, s.zon.queue.find? (fun c => c.addr == tk.data) = some c → c.stamp = none →
          ∃ t : State, ∃ x : Token, exec (.zonCancel tk) s = .next t ∧ t.answer = cOK ∧
            t.zon = { s.zon with queue := s.zon.queue.erase c } ∧
            t.sent = s.sent.erase tk ++ [x] ∧ x.data = cCANCELLED * 2 ^ 56 + tk.data ∧
            ∀ a : Nat, (a < zResult c.blk ∨ zResult c.blk + 64 ≤ a) → t.rdB a = s.rdB a) ∧
        (s.zon.queue = [] → s.zon.done = [] → s.zon.forwarded = none →
          ∃ t : State, exec (.zonCancel tk) s = .next t ∧ t.answer = cNOT_FOUND ∧ t.zon = s.zon ∧
            s.keeps t [ZON_STAT_REFUSED_COUNT, ISL_PSTATE_STATE iZON]))) ∧
    (∀ (c : ZonCmd) (b : List Byte) (now : Nat) (cells : List ZonCell), s.zonNext = some c → b = c.blk →
      now = s.slotOf (zFrame b) → cells = expand b now →
      s.inStack = false →
      (zOp b = 1 → s.zonEarly b now = cOK → s.zon.merging = [] → s.zon.copyA = true → s.zon.copyB = true →
        s.zonFull (zFrame b) cells = false → s.zon.tracks.length < 65536 → cells ≠ [] →
        (∀ i : Nat, s.firstConflict (zFrame b) (zOwner b) ((List.range cells.length).zip cells) = none →
          s.trackIndex = some i →
          ∃ t : State, ∃ d : ZonDone, exec .reserve s = .next t ∧ t.zon.queue = s.zon.queue.erase c ∧
            t.zon.entries = s.liveEnts ++ zonEnts (zFrame b) (zOwner b) (s.trackId i) none cells ∧
            t.zon.tracks = s.zon.tracks ++ [zonTrackOf b (s.trackId i) (lastSlot cells) []] ∧
            t.zon.done = s.zon.done ++ [d] ∧ d.addr = c.addr ∧ d.blk = b ∧ fld d.result 0 1 = cOK ∧
            fld d.result 4 4 = s.trackId i % 2 ^ 32 ∧
            t.f ZON_STAT_RESERVED_COUNT = satInc 32 (s.f ZON_STAT_RESERVED_COUNT) ∧
            s.keeps t [ZON_STAT_RESERVED_COUNT, ZON_STAT_CELLS_COUNT]) ∧
        (∀ x : Nat × ZonCell × ZonEnt, s.firstConflict (zFrame b) (zOwner b) ((List.range cells.length).zip cells) = some x →
          ∃ t : State, ∃ d : ZonDone, exec .reserve s = .next t ∧ t.zon = { s.zon with
              queue := s.zon.queue.erase c, done := s.zon.done ++ [d] } ∧ d.addr = c.addr ∧ d.blk = b ∧
            fld d.result 0 1 = cCONFLICT ∧ (d.result.drop 32).take 32 = conflictBytes x.1 x.2.1 x.2.2 ∧
            t.f ZON_STAT_CONFLICTS_COUNT = satInc 32 (s.f ZON_STAT_CONFLICTS_COUNT) ∧
            s.keeps t [ZON_STAT_CONFLICTS_COUNT, ZON_STAT_CELLS_COUNT])) ∧
      (zOp b = 2 → s.zonEarly b now = cOK →
        s.firstConflict (zFrame b) (zOwner b) ((List.range cells.length).zip cells) = none →
        ∃ t : State, ∃ d : ZonDone, exec .check s = .next t ∧ t.zon = { s.zon with
            queue := s.zon.queue.erase c, done := s.zon.done ++ [d] } ∧ d.addr = c.addr ∧ d.blk = b ∧
          fld d.result 0 1 = cOK ∧ fld d.result 12 4 = cells.length % 2 ^ 32 ∧ s.keeps t [ZON_STAT_CELLS_COUNT]) ∧
      (zOp b = 3 →
        (∀ x : ZonTrack, s.zon.tracks.find? (fun x => x.id == zTrack b) = some x → s.trackLive x = true → x.owner = zOwner b →
          s.zon.merging = [] →
          ∃ t : State, ∃ d : ZonDone, exec .zonRelease s = .next t ∧ t.zon.queue = s.zon.queue.erase c ∧
            t.zon.tracks = s.zon.tracks.filter (fun y => y.id != x.id) ∧
            t.zon.entries = s.zon.entries.filter (fun e => !(e.track == x.id && e.txn == none)) ∧
            t.zon.done = s.zon.done ++ [d] ∧ d.addr = c.addr ∧ fld d.result 0 1 = cOK ∧ s.keeps t []) ∧
        (s.zon.tracks.find? (fun x => x.id == zTrack b) = none →
          ∃ t : State, ∃ d : ZonDone, exec .zonRelease s = .next t ∧ t.zon = { s.zon with
              queue := s.zon.queue.erase c, done := s.zon.done ++ [d] } ∧ fld d.result 0 1 = cNOT_FOUND ∧ s.keeps t []) ∧
        (∀ x : ZonTrack, s.zon.tracks.find? (fun x => x.id == zTrack b) = some x → s.trackLive x = true → x.owner ≠ zOwner b →
          ∃ t : State, ∃ d : ZonDone, exec .zonRelease s = .next t ∧ t.zon = { s.zon with
              queue := s.zon.queue.erase c, done := s.zon.done ++ [d] } ∧ fld d.result 0 1 = cNOT_OWNER ∧ s.keeps t [])) ∧
      (zOp b = 4 →
        ∃ t : State, ∃ d : ZonDone, exec .releaseOwner s = .next t ∧ t.zon.queue = s.zon.queue.erase c ∧
          t.zon.done = s.zon.done ++ [d] ∧
          d.addr = c.addr ∧ fld d.result 0 1 = cOK ∧
          (∀ x ∈ t.zon.tracks, x ∈ s.zon.tracks ∧ ¬(x.owner = zOwner b ∧ x.frame = zFrame b)) ∧
          (∀ e ∈ t.zon.entries, e ∈ s.zon.entries) ∧ s.keeps t [])) ∧
    (s.zonNext = none → exec .reserve s = .next s ∧ exec .check s = .next s ∧ exec .zonRelease s = .next s ∧
      exec .releaseOwner s = .next s) ∧
    (∀ (d : ZonDone) (ds : List ZonDone), s.zonMirrored = true → s.zon.done = d :: ds → d.stamp = none → 64 ≤ zResultLen d.blk →
      s.memCheck (ep iZON 0) (zResult d.blk) d.result.length true = cOK →
      ∃ t : State, ∃ x : Token, exec .zonWritebackDone s = .next t ∧ t.zon = { s.zon with done := ds } ∧
        t.sent = s.sent ++ [x] ∧
        x.data = fld d.result 0 1 * 2 ^ 56 + fld d.result 2 1 * 2 ^ 48 + d.addr ∧ t.regs = s.regs ∧ t.eng = s.eng ∧
        t.rdBytes (zResult d.blk) d.result.length = d.result ∧
        ∀ a : Nat, (a < zResult d.blk ∨ zResult d.blk + d.result.length ≤ a) → t.rdB a = s.rdB a) ∧
    (s.zon.done = [] → exec .zonWritebackDone s = .next s) ∧
    (∀ (id : Nat) (x : ZonTrack), s.zon.tracks.find? (fun x => x.id == id) = some x →
      (x.last < s.slotOf x.frame →
        ∃ t : State, exec (.trackExpiry id) s = .next t ∧ t.zon.tracks = s.zon.tracks.filter (fun y => y.id != id) ∧
          t.f ZON_STAT_EXPIRED_COUNT = satInc 32 (s.f ZON_STAT_EXPIRED_COUNT) ∧
          t.sent = s.sent ++ (if x.notice then [⟨x.ep, noticeTag x.tag false, id * 2 ^ 32 + 0x010000 + x.owner, ep iZON 0,
            none, none⟩] else []) ∧ s.keeps t [ZON_STAT_EXPIRED_COUNT]) ∧
      (s.slotOf x.frame ≤ x.last → exec (.trackExpiry id) s = .next s)) ∧
    (∀ req v : Nat, s.serves iZON = true → s.on (ISL_LOCK_LOCKED iZON) = false → s.on ZON_CTRL_ENABLE = true →
      s.on ZON_CTRL_REBUILD = true → s.zon.rebuilding = false →
      (s.zon.copyA = true → copiesOk (s.f ZON_TABLE_A_BASE) (bits v 39 16) (s.f ZON_TABLE_CFG_LOG2_ENTRIES) = true →
        ∃ t : State, exec (.zonRebuild req 1 v) s = .next t ∧ t.answer = cOK ∧ t.f ZON_TABLE_B_BASE = bits v 39 16 ∧
          t.zon = { s.zon with copyB := false, rebuilding := true } ∧
          s.keeps t [ZON_TABLE_B_BASE, ISL_PSTATE_STATE iZON]) ∧
      (s.zon.copyB = true → copiesOk (bits v 39 16) (s.f ZON_TABLE_B_BASE) (s.f ZON_TABLE_CFG_LOG2_ENTRIES) = true →
        ∃ t : State, exec (.zonRebuild req 0 v) s = .next t ∧ t.answer = cOK ∧ t.f ZON_TABLE_A_BASE = bits v 39 16 ∧
          t.zon = { s.zon with copyA := false, rebuilding := true } ∧
          s.keeps t [ZON_TABLE_A_BASE, ISL_PSTATE_STATE iZON])) ∧
    (s.zon.rebuilding = true →
      exec .zonRebuildDone s = .next { s with zon := { s.zon with copyA := true, copyB := true, rebuilding := false } }) ∧
    (s.zon.rebuilding = false → exec .zonRebuildDone s = .next s)

/-- R381, R382, R383, R491, R493: the Captain queues a forwarded command; a member that is asked to prepare votes, and holds
what it voted OK on as PENDING until the decision, which makes it ACTIVE or removes it; a vote is counted and the last one
is decided upon and recorded; the last DONE ends the transaction; a result goes through the origin's write-back; a member
asks again when its hold time has passed, and is told the recorded decision, or ABORT, recorded then. CONFIG sets the frame
registers and the map. A finished merge leaves the tiles to their own service. -/
def Obligations.ZoneTransactions : Prop :=
  ∀ s : State,
    (∀ m : BxlMsg, s.hears m → fld m.body 2 1 + 1 = fld m.body 3 1 → s.zon.parts = [] →
      (s.captain = true → s.zon.txn ≠ none → s.keptResult (stampOf (fld (m.body.drop 16) 0 8)) = none →
        ∃ t : State, exec (.forward m) s = .next t ∧ t.answer = cOK ∧ (t.pair m.src).accepted = m.num ∧ s.keeps t [] ∧
          t.zon = { s.zon with
            fwdQ := s.zon.fwdQ ++ [⟨m.src, 0, (m.body.drop 16).drop 8, stampOf (fld (m.body.drop 16) 0 8)⟩] }) ∧
      (∀ (f owner : Nat) (mine : List (Nat × ZonCell)), f = fld m.body 10 1 → owner = fld m.body 8 2 → fld m.body 11 1 = 0 →
        mine = prepCells 4096 (m.body.drop 16) →
        (s.firstConflict f owner mine = none → s.zonFull f (mine.map Prod.snd) = false → s.zon.copyA = true →
          s.zon.copyB = true → s.zon.merging = [] →
          ∃ t : State, exec (.prepare m) s = .next t ∧ t.answer = cOK ∧ s.keeps t [] ∧
            t.zon = { s.zon with
              entries := s.liveEnts ++ zonEnts f owner (fld m.body 12 4) (some (fld m.body 4 4)) (mine.map Prod.snd)
              held := s.zon.held ++ [⟨fld m.body 4 4, s.tim.edges, 0, f, owner, fld m.body 12 4⟩] }) ∧
        (s.firstConflict f owner mine ≠ none →
          ∃ t : State, exec (.prepare m) s = .next t ∧ t.answer = cOK ∧ t.zon = s.zon ∧ s.keeps t [])) ∧
      (∀ x : ZonTxn, s.zon.txn = some x → x.num = fld m.body 4 4 → x.decided = none → m.src ∈ x.waiting →
        fld m.body 1 1 = cOK → x.status = cOK →
        (x.waiting.filter (· != m.src) ≠ [] →
          ∃ t : State, exec (.vote m) s = .next t ∧ t.answer = cOK ∧ s.keeps t [] ∧
            t.zon = { s.zon with txn := some { x with waiting := x.waiting.filter (· != m.src) } }) ∧
        (x.waiting.filter (· != m.src) = [] → s.zon.fwdQ = [] →
          ∃ t : State, exec (.vote m) s = .next t ∧ t.answer = cOK ∧ t.zon.decisions = s.zon.decisions ++ [(x.num, true)] ∧
            t.mem = s.mem)) ∧
      (∀ h : ZonHeld, s.zon.held.find? (fun h => h.txn == fld m.body 4 4) = some h →
        (fld m.body 1 1 = cOK → h.kind = 0 →
          ∃ t : State, exec (.decide m) s = .next t ∧ t.answer = cOK ∧ s.keeps t [] ∧
            t.zon.held = s.zon.held.filter (fun h => h.txn != fld m.body 4 4) ∧ t.zon.tracks = s.zon.tracks ∧
            t.zon.entries = s.zon.entries.map (fun e : ZonEnt =>
              if e.txn = some (fld m.body 4 4) then { e with txn := none } else e)) ∧
        (fld m.body 1 1 ≠ cOK →
          ∃ t : State, exec (.decide m) s = .next t ∧ t.answer = cOK ∧ s.keeps t [] ∧
            t.zon.held = s.zon.held.filter (fun h => h.txn != fld m.body 4 4) ∧ t.zon.tracks = s.zon.tracks ∧
            t.zon.entries = s.zon.entries.filter (fun e : ZonEnt => e.txn != some (fld m.body 4 4))) ∧
        (fld m.body 1 1 = cOK → h.kind = 1 →
          ∃ t : State, exec (.decide m) s = .next t ∧ t.answer = cOK ∧ s.keeps t [] ∧
            ∀ e ∈ t.zon.entries, ¬(e.track = h.track ∧ e.txn = none))) ∧
      (∀ x : ZonTxn, s.zon.txn = some x → x.num = fld m.body 4 4 → x.decided ≠ none →
        (x.waiting.filter (· != m.src) ≠ [] →
          ∃ t : State, exec (.zonDone m) s = .next t ∧ t.answer = cOK ∧ s.keeps t [] ∧
            t.zon = { s.zon with txn := some { x with waiting := x.waiting.filter (· != m.src) } }) ∧
        (x.waiting.filter (· != m.src) = [] → s.zon.fwdQ = [] →
          ∃ t : State, exec (.zonDone m) s = .next t ∧ t.answer = cOK ∧ t.zon.txn = none ∧ s.keeps t [])) ∧
      (∀ c : ZonCmd, s.zon.forwarded = some c →
        ∃ t : State, exec (.zonResult m) s = .next t ∧ t.answer = cOK ∧ s.keeps t [] ∧
          t.zon = { s.zon with
            forwarded := none, done := s.zon.done ++ [⟨c.addr, c.blk, m.body.drop 16, c.stamp⟩] }) ∧
      (∀ d : Nat × Bool, s.zon.decisions.find? (fun d => d.1 == fld m.body 4 4) = some d →
        ∃ t : State, exec (.zonAsk m) s = .next t ∧ t.answer = cOK ∧ t.zon = s.zon ∧ s.keeps t []) ∧
      (s.zon.decisions.find? (fun d => d.1 == fld m.body 4 4) = none → s.zon.txn = none →
        ∃ t : State, exec (.zonAsk m) s = .next t ∧ t.answer = cOK ∧ s.keeps t [] ∧
          t.zon = { s.zon with decisions := s.zon.decisions ++ [(fld m.body 4 4, false)] }) ∧
      ∃ t : State, exec (.zonConfig m) s = .next t ∧ t.answer = cOK ∧ t.zon = s.zon ∧ s.keeps t zonCfgFields ∧
        ∀ r ∈ zonCfgFields, t.f r = leValue (m.body.drop 16) / 2 ^ (8 * (r.addr - 0x0200240100) + r.lo) % 2 ^ r.len) ∧
    (∀ (n : Nat) (h : ZonHeld), s.zon.held.find? (fun h => h.txn == n) = some h →
      (h.since + s.f ZON_2PC_HOLD_MS * 100000 ≤ s.tim.edges →
        ∃ t : State, exec (.zon2pcHoldTimeout n) s = .next t ∧ s.keeps t [] ∧
          t.zon = { s.zon with held := s.zon.held.map (fun x => if x.txn = n then { x with since := s.tim.edges } else x) }) ∧
      (s.tim.edges < h.since + s.f ZON_2PC_HOLD_MS * 100000 → exec (.zon2pcHoldTimeout n) s = .next s)) ∧
    (∀ n : Nat, n ∈ s.zon.merging →
      ∃ t : State, exec (.zonMergeDone n) s = .next t ∧ s.keeps t [] ∧
        t.zon = { s.zon with merging := s.zon.merging.filter (· != n) }) ∧
    (∀ n : Nat, n ∉ s.zon.merging → exec (.zonMergeDone n) s = .next s)

/-! ### The Whistle (chapter 09) -/

/-- R386, R387, R388, R390, R393, R394, R396, R397: a low level or a low pulse of 2 ns or more on an input, a write of
REF_STOP_RAISE, a read-back mismatch and a watchdog latch the stop with their source and reason; another raise is counted.
An input that stays as it was, or a pulse of no width, changes no latch. An enable is refused with STOPPED while the latch
is set, and taken otherwise. The two inputs may differ for DISAGREE_MS. -/
def Obligations.StopRaised : Prop :=
  ∀ s : State,
    (s.latched = false → s.levelSources = [] →
      (∀ w : Nat, (∃ t : State, exec (.stopInput 0 false w) s = .next t ∧ s.newStop t 1 1 s.pos' ∧
        t.on REF_STOP_STATUS_PIN_A = false) ∧
        (∃ t : State, exec (.stopInput 1 false w) s = .next t ∧ s.newStop t 2 2 s.pos' ∧ t.on REF_STOP_STATUS_PIN_B = false) ∧
        (20 ≤ w → (∃ t : State, exec (.stopInput 0 true w) s = .next t ∧ s.newStop t 1 1 s.pos' ∧
            t.on REF_STOP_STATUS_PIN_A = true) ∧
          ∃ t : State, exec (.stopInput 1 true w) s = .next t ∧ s.newStop t 2 2 s.pos' ∧ t.on REF_STOP_STATUS_PIN_B = true)) ∧
      (∀ req v : Nat, s.serves iREF = true →
        ∃ t : State, exec (.stopRaise req v) s = .next t ∧ t.answer = cOK ∧ s.newStop t 64 (max (v % 256) 16) s.pos') ∧
      (∀ o : Nat, o < 20 → ∃ t : State, exec (.readbackMismatch o true) s = .next t ∧ s.newStop t 8 6 s.pos' ∧
        o ∈ t.stop.mismatch) ∧
      ∃ t : State, exec .watchdog s = .next t ∧ s.newStop t 8 5 s.pos') ∧
    (s.latched = true → s.stop.latchedAt ≠ some s.tim.edges →
      (∀ req v : Nat, s.serves iREF = true → ∃ t : State, exec (.stopRaise req v) s = .next t ∧ t.answer = cOK ∧
        s.raiseMore t) ∧
      (∃ t : State, exec .watchdog s = .next t ∧ s.raiseMore t) ∧
      (∀ o : Nat, o < 20 → ∃ t : State, exec (.readbackMismatch o true) s = .next t ∧ s.raiseMore t)) ∧
    (∀ o : Nat, ∃ t : State, exec (.readbackMismatch o false) s = .next t ∧ s.keeps t [] ∧
      t.stop.mismatch = if o < 20 then s.stop.mismatch.filter (· != o) else s.stop.mismatch) ∧
    (∀ (p : Nat) (l : Bool) (w : Nat), p < 2 →
      (s.on (if p = 0 then REF_STOP_STATUS_PIN_A else REF_STOP_STATUS_PIN_B) = false ∨ (l = true ∧ w = 0)) →
      ∃ t : State, exec (.stopInput p l w) s = .next t ∧ t.latched = s.latched ∧
        t.f (if p = 0 then REF_STOP_STATUS_PIN_A else REF_STOP_STATUS_PIN_B) = b2n l ∧
        s.keeps t [if p = 0 then REF_STOP_STATUS_PIN_A else REF_STOP_STATUS_PIN_B]) ∧
    (∀ req v : Nat, s.serves iREF = true →
      (s.latched = true → ∀ b : Bool, ∃ t : State, exec (.outputEnableWrite req b v) s = .next t ∧ t.answer = cSTOPPED ∧
        s.keeps t (ISL_PSTATE_STATE iREF :: refuseRegs iREF)) ∧
      (s.latched = false →
        (v < 2 ^ 16 → ∃ t : State, exec (.outputEnableWrite req false v) s = .next t ∧ t.answer = cOK ∧
          t.f REF_FENCE_EN_EN = v ∧
          s.keeps t [REF_FENCE_EN_EN, ISL_PSTATE_STATE iREF]) ∧
        (v < 2 ^ 4 → ∃ t : State, exec (.outputEnableWrite req true v) s = .next t ∧ t.answer = cOK ∧ t.f REF_PWEN_EN_EN = v ∧
          s.keeps t [REF_PWEN_EN_EN, ISL_PSTATE_STATE iREF]))) ∧
    (∀ d : Nat, s.stop.disagree = some d →
      (d + s.f REF_STOP_CFG_DISAGREE_MS * 100000 < s.tim.edges →
        ∃ t : State, exec .disagree s = .next t ∧ t.on REF_STOP_STATUS_DISAGREE = true ∧ t.stop.disagree = none ∧
          s.keeps t [REF_STOP_STATUS_DISAGREE, SCB_DROPPED_COUNT]) ∧
      (s.tim.edges ≤ d + s.f REF_STOP_CFG_DISAGREE_MS * 100000 → exec .disagree s = .next s)) ∧
    (s.stop.disagree = none → exec .disagree s = .next s)

/-- R394, R395: ARM and RELEASE at a standalone module. ARM ends OK with ARMED set when the module is ready, STOPPED when it
is not, BUSY with no stop latched; a follower's is refused with NOT_OWNER. RELEASE within the window clears the latch and
leaves every enable as it is; after it it ends TIMEOUT, and BUSY without an arm. The window's end clears ARMED. -/
def Obligations.StopReleased : Prop :=
  ∀ (s : State) (req : Nat),
    (s.serves iREF = true → s.captain = false →
      (∃ t : State, exec (.stopArm req) s = .next t ∧ t.answer = cNOT_OWNER ∧ t.stop = s.stop ∧
        s.keeps t (ISL_PSTATE_STATE iREF :: refuseRegs iREF)) ∧
      ∃ t : State, exec (.stopRelease req) s = .next t ∧ t.answer = cNOT_OWNER ∧ t.stop = s.stop ∧
        s.keeps t (ISL_PSTATE_STATE iREF :: refuseRegs iREF)) ∧
    (s.serves iREF = true → s.inStack = false → s.on REF_STOP_CMD_BUSY = false →
      (s.latched = true → s.stopReady = true →
        ∃ t : State, exec (.stopArm req) s = .next t ∧ t.answer = cOK ∧ t.on REF_STOP_STATUS_ARMED = true ∧
          t.f REF_STOP_CMD_STATUS = cOK ∧ t.on REF_STOP_CMD_BUSY = false ∧ t.latched = true ∧ t.stop.arm = 1 ∧
          t.stop.armedAt = s.tim.edges ∧
          s.keeps t [REF_STOP_STATUS_ARMED, REF_STOP_CMD_STATUS, REF_STOP_CMD_BUSY, REF_STOP_CMD_OP, ISL_PSTATE_STATE iREF]) ∧
      (s.latched = true → s.stopReady = false →
        ∃ t : State, exec (.stopArm req) s = .next t ∧ t.answer = cOK ∧ t.f REF_STOP_CMD_STATUS = cSTOPPED ∧ t.stop = s.stop ∧
          s.keeps t [REF_STOP_CMD_STATUS, REF_STOP_CMD_BUSY, REF_STOP_CMD_OP, ISL_PSTATE_STATE iREF]) ∧
      (s.latched = false →
        ∃ t : State, exec (.stopArm req) s = .next t ∧ t.answer = cOK ∧ t.f REF_STOP_CMD_STATUS = cBUSY ∧ t.stop = s.stop ∧
          s.keeps t [REF_STOP_CMD_STATUS, REF_STOP_CMD_BUSY, REF_STOP_CMD_OP, ISL_PSTATE_STATE iREF]) ∧
      (s.stop.arm = 1 → s.latched = true → s.stopReady = true → s.stop.raisedAt ≠ some s.tim.edges →
        s.tim.edges ≤ s.stop.armedAt + 100000000 →
        ∃ t : State, exec (.stopRelease req) s = .next t ∧ t.answer = cOK ∧ t.latched = false ∧
          t.on REF_STOP_STATUS_ARMED = false ∧
          t.f REF_STOP_CMD_STATUS = cOK ∧ t.stop.arm = 0 ∧ t.rad.bursting = false ∧ t.zon = s.zon ∧
          s.keeps t [REF_STOP_STATUS_LATCHED, REF_STOP_STATUS_ARMED, REF_STOP_CMD_STATUS, REF_STOP_CMD_BUSY,
            REF_STOP_CMD_OP, ISL_PSTATE_STATE iREF]) ∧
      ((s.stop.arm = 1 ∨ s.stop.arm = 2) → s.stop.armedAt + 100000000 < s.tim.edges →
        ∃ t : State, exec (.stopRelease req) s = .next t ∧ t.answer = cOK ∧ t.f REF_STOP_CMD_STATUS = cTIMEOUT ∧
          t.latched = s.latched ∧ t.on REF_STOP_STATUS_ARMED = false ∧
          s.keeps t [REF_STOP_STATUS_ARMED, REF_STOP_CMD_STATUS, REF_STOP_CMD_BUSY, REF_STOP_CMD_OP,
            ISL_PSTATE_STATE iREF]) ∧
      (s.stop.arm = 0 →
        ∃ t : State, exec (.stopRelease req) s = .next t ∧ t.answer = cOK ∧ t.f REF_STOP_CMD_STATUS = cBUSY ∧ t.stop = s.stop ∧
          s.keeps t [REF_STOP_CMD_STATUS, REF_STOP_CMD_BUSY, REF_STOP_CMD_OP, ISL_PSTATE_STATE iREF])) ∧
    (s.stop.arm = 1 → s.stop.armedAt + 100000000 ≤ s.tim.edges →
      ∃ t : State, exec .stopArmExpiry s = .next t ∧ t.on REF_STOP_STATUS_ARMED = false ∧ t.stop = { s.stop with arm := 2 } ∧
        s.keeps t [REF_STOP_STATUS_ARMED]) ∧
    ((s.stop.arm ≠ 1 ∨ s.tim.edges < s.stop.armedAt + 100000000) → exec .stopArmExpiry s = .next s) ∧
    (∀ m : BxlMsg, s.hears m →
      (∃ t : State, ∃ (x : BxlPend) (y : BxlMsg), exec (.controlStopArm m) s = .next t ∧ t.answer = cOK ∧
        (t.pair m.src).accepted = m.num ∧
        (t.pair m.src).unacked = (s.pair m.src).unacked ++ [x] ∧ x.msg = y ∧ y.kind = 0x0B ∧
        y.body = [4, BitVec.ofNat 8 s.pos', if s.stopReady then 0 else 0x12, 0] ∧ s.keeps t []) ∧
      ((s.on REF_STOP_CMD_BUSY = false ∨ s.stop.asked.contains m.src = false) →
        ∃ t : State, exec (.stopReady m) s = .next t ∧ t.answer = cOK ∧ t.stop = s.stop ∧ s.keeps t []) ∧
      (s.on REF_STOP_CMD_BUSY = true → s.stop.releasing = false → s.stop.asked = [m.src] → s.stop.notReady = false →
        (fld m.body 2 1 = cOK → s.stopReady = true →
          ∃ t : State, exec (.stopReady m) s = .next t ∧ t.answer = cOK ∧ t.on REF_STOP_STATUS_ARMED = true ∧ t.stop.arm = 1 ∧
            t.f REF_STOP_CMD_STATUS = cOK ∧ s.keeps t [REF_STOP_STATUS_ARMED, REF_STOP_CMD_STATUS, REF_STOP_CMD_BUSY]) ∧
        (fld m.body 2 1 ≠ cOK →
          ∃ t : State, exec (.stopReady m) s = .next t ∧ t.answer = cOK ∧ t.f REF_STOP_CMD_STATUS = cSTOPPED ∧
            t.stop.arm = s.stop.arm ∧ s.keeps t [REF_STOP_CMD_STATUS, REF_STOP_CMD_BUSY])) ∧
      (s.latched = true → s.stopReady = true → s.stop.raisedAt ≠ some s.tim.edges →
        ∃ t : State, exec (.controlStopRelease m) s = .next t ∧ t.answer = cOK ∧ t.latched = false ∧ t.rad.bursting = false ∧
          s.keeps t [REF_STOP_STATUS_LATCHED, REF_STOP_STATUS_ARMED]) ∧
      (s.latched = true → s.stopReady = false → s.inStack = false →
        ∃ t : State, exec (.controlStopRelease m) s = .next t ∧ t.answer = cSTOPPED ∧ t.latched = true ∧
          t.f REF_STOP_ID_STOP_ID = wrapInc 32 (s.f REF_STOP_ID_STOP_ID) % 2 ^ 32 ∧ t.eng = s.eng) ∧
      (s.latched = true → s.f REF_STOP_STATUS_ORIGIN = fld m.body 5 1 % 16 →
        ∃ t : State, exec (.stopinfo m) s = .next t ∧ t.answer = cOK ∧ t.f REF_STOP_TIME_STAMP = fld m.body 8 8 % 2 ^ 64 ∧
          s.keeps t [REF_STOP_TIME_STAMP]) ∧
      (s.latched = false →
        ∃ t : State, exec (.stopinfo m) s = .next t ∧ t.answer = cOK ∧ s.keeps t []))

/-! ### Machine functions and direct I/O (chapter 10) -/

/-- R400, R401, R402, R403, R411, R412, R413, R414: ENABLE, RUN, DISABLE and CLEAR_FAULT of a function slot take effect or leave
the slot as it is, with their status in CMD.STATUS. Targets, setpoints and measured values are taken by token and by
register write, and refused at a slot that is OFF, that does not take them or out of range. Soft interlock bits are set and
cleared, and no others. -/
def Obligations.SlotCommands : Prop :=
  ∀ (s : State) (req k : Nat), s.serves iMCH = true → k < 48 →
    (s.slotCheck k = cOK →
      ∃ t : State, exec (.slotEnable req k) s = .next t ∧ t.answer = cOK ∧ t.f (MCH_MFs_CMD_STATUS k) = cOK ∧
        t.slotState k = 1 ∧
        t.f (MCH_MFs_TARGET_TARGET k) = s.f (MCH_MFs_NEUTRAL_NEUTRAL k) % 2 ^ 32 ∧
        t.f (MCH_MFs_VALUES_OUTPUT k) = s.f (MCH_MFs_NEUTRAL_NEUTRAL k) % 2 ^ 32 ∧
        t.f (MCH_MFs_ACT_VALUE k) = unsigned 32 (s.actOf k (s.sg (MCH_MFs_NEUTRAL_NEUTRAL k))) ∧ t.slotFaulty k = false ∧
        (t.slot k).tick = (s.tim.edges / 100000 + 1) * 100000 + s.f (MCH_MFs_TIMING_PHASE k) * 1000 ∧
        (s.f (MCH_MFs_BIND_KIND k) < 2 → s.within t iMCH)) ∧
    (s.slotCheck k ≠ cOK →
      ∃ t : State, exec (.slotEnable req k) s = .next t ∧ t.answer = cOK ∧ t.f (MCH_MFs_CMD_STATUS k) = s.slotCheck k ∧
        t.mch = s.mch ∧ s.keeps t [MCH_MFs_CMD_STATUS k, MCH_MFs_CMD_OP k, ISL_PSTATE_STATE iMCH]) ∧
    (∃ t : State, exec (.slotRun req k) s = .next t ∧ t.answer = cOK ∧ t.f (MCH_MFs_CMD_STATUS k) = s.runCheck k ∧
      t.slotState k = (if s.runCheck k = cOK then 2 else s.slotState k) ∧
      s.keeps t [MCH_MFs_STATUS_STATE k, MCH_MFs_CMD_STATUS k, MCH_MFs_CMD_OP k, ISL_PSTATE_STATE iMCH]) ∧
    (s.stopped = true → s.runCheck k = cSTOPPED) ∧
    (∃ t : State, exec (.slotDisable req k) s = .next t ∧ t.answer = cOK ∧ t.f (MCH_MFs_CMD_STATUS k) = cOK ∧
      t.slotState k = 0 ∧
      (s.f (MCH_MFs_BIND_KIND k) ≠ 1 → s.f (MCH_MFs_BIND_KIND k) ≠ 3 →
        s.keeps t [MCH_MFs_STATUS_STATE k, MCH_MFs_CMD_STATUS k, MCH_MFs_CMD_OP k, ISL_PSTATE_STATE iMCH]) ∧
      (s.slotState k ≠ 0 → s.f (MCH_MFs_BIND_KIND k) = 1 → s.f (MCH_MFs_BIND_INDEX k) < 24 →
        t.f (MCH_PWn_DUTY_DUTY (s.f (MCH_MFs_BIND_INDEX k))) =
          unsigned 16 (s.actOf k (s.sg (MCH_MFs_NEUTRAL_NEUTRAL k))) ∧ s.within t iMCH)) ∧
    (∃ t : State, exec (.clearFault req k) s = .next t ∧ t.answer = cOK ∧ t.on (MCH_MFs_STATUS_LAW_LATE k) = false ∧
      t.f (MCH_MFs_STATUS_LATE_RUN k) = 0 ∧ t.slotState k = s.slotState k ∧
      (t.f (MCH_MFs_CMD_STATUS k), t.f (MCH_MFs_STATUS_STALE k)) =
        (if s.on (MCH_MFs_STATUS_STALE k) = false then (cOK, s.f (MCH_MFs_STATUS_STALE k))
          else if s.tim.edges < (s.slot k).seenAt + s.f (MCH_MFs_MEAS_SRC_AGE_MS k) * 100000 then (cOK, 0) else (cBUSY, 1)) ∧
      s.keeps t [MCH_MFs_STATUS_LAW_LATE k, MCH_MFs_STATUS_LATE_RUN k, MCH_MFs_STATUS_STALE k, MCH_MFs_CMD_STATUS k,
        MCH_MFs_CMD_OP k, ISL_PSTATE_STATE iMCH]) ∧
    (∀ (tk : Token) v, v < 2 ^ 32 → tk.stamp = none → tk.task = none → tk.data = v → tk.tag = k + tagPrio tk.tag * 2 ^ 23 →
      (tk.dest = ep iMCH 0 →
        (s.slotState k ≠ 0 → s.on (MCH_MFs_CFG_MODE k) = true → ∀ i : SlotIn, (i = .token tk ∨ i = .write req k v) →
          ∃ t : State, exec (.slotTarget i) s = .next t ∧ t.answer = cOK ∧ t.f (MCH_MFs_TARGET_TARGET k) = v ∧
            (t.slot k).waiting = false ∧ s.keeps t [MCH_MFs_TARGET_TARGET k, ISL_PSTATE_STATE iMCH]) ∧
        (s.slotState k = 0 ∨ s.on (MCH_MFs_CFG_MODE k) = false → ∀ i : SlotIn, (i = .token tk ∨ i = .write req k v) →
          ∃ t : State, exec (.slotTarget i) s = .next t ∧ t.answer = (if s.slotState k = 0 then cNOT_FOUND else cRANGE) ∧
            t.mch = s.mch ∧ s.keeps t (ISL_PSTATE_STATE iMCH :: refuseRegs iMCH))) ∧
      (tk.dest = ep iMCH 1 →
        (s.slotState k ≠ 0 → s.sg (MCH_MFs_SP_LIM_SP_MIN k) ≤ signed 32 v → signed 32 v ≤ s.sg (MCH_MFs_SP_LIM_SP_MAX k) →
          ∀ i : SlotIn, (i = .token tk ∨ i = .write req k v) →
          ∃ t : State, exec (.slotSetpoint i) s = .next t ∧ t.answer = cOK ∧ t.f (MCH_MFs_SETPOINT_SETPOINT k) = v ∧
            s.keeps t [MCH_MFs_SETPOINT_SETPOINT k, ISL_PSTATE_STATE iMCH]) ∧
        (s.slotState k ≠ 0 → s.sg (MCH_MFs_SP_LIM_SP_MAX k) < signed 32 v → ∀ i : SlotIn, (i = .token tk ∨ i = .write req k v) →
          ∃ t : State, exec (.slotSetpoint i) s = .next t ∧ t.answer = cRANGE ∧
            s.keeps t (ISL_PSTATE_STATE iMCH :: refuseRegs iMCH))) ∧
      (tk.dest = ep iMCH 2 →
        (s.slotState k ≠ 0 → s.f (MCH_MFs_MEAS_SRC_KIND k) = 6 → ∀ i : SlotIn, (i = .token tk ∨ i = .write req k v) →
          ∃ t : State, exec (.measuredWrite i) s = .next t ∧ t.answer = cOK ∧ (t.slot k).seenAt = s.tim.edges ∧
            t.f (MCH_MFs_VALUES_MEASURED k) = unsigned 32 (sat32 (s.sg (MCH_MFs_MEAS_SCALE_M_OFFSET k) +
              signed 32 v * s.sg (MCH_MFs_MEAS_SCALE_M_GAIN k) / 65536)) ∧
            s.keeps t [MCH_MFs_VALUES_MEASURED k, ISL_PSTATE_STATE iMCH]) ∧
        (s.slotState k ≠ 0 → s.f (MCH_MFs_MEAS_SRC_KIND k) ≠ 6 → ∀ i : SlotIn, (i = .token tk ∨ i = .write req k v) →
          ∃ t : State, exec (.measuredWrite i) s = .next t ∧ t.answer = cRANGE ∧ t.mch = s.mch ∧
            s.keeps t (ISL_PSTATE_STATE iMCH :: refuseRegs iMCH)))) ∧
    (∀ v : Nat, v < 2 ^ 32 →
      (∃ t : State, exec (.ilSoftSet req v) s = .next t ∧ t.answer = cOK ∧
        t.f MCH_IL_SOFT_SET_SOFT = (s.f MCH_IL_SOFT_SET_SOFT ||| v) % 2 ^ 32 ∧
        s.keeps t [MCH_IL_SOFT_SET_SOFT, ISL_PSTATE_STATE iMCH]) ∧
      ∃ t : State, exec (.ilSoftClr req v) s = .next t ∧ t.answer = cOK ∧
        (∀ i < 32, bit (t.f MCH_IL_SOFT_SET_SOFT) i = (bit (s.f MCH_IL_SOFT_SET_SOFT) i && !bit v i)) ∧
        s.keeps t [MCH_IL_SOFT_SET_SOFT, ISL_PSTATE_STATE iMCH])

/-- R403, R404, R405, R410, R411, R413, R415, R418, R419, R420, R421, R422, R423: with no slot bound to a frame or a time pin,
the output step takes each slot in RUN a rate step towards its clamped value, and one that meets an interlock or a fault to
its stop behaviour. A law tick sends its token and the next falls one period later. A source without a refresh for AGE_MS
is stale. A group samples its enabled channels. The impact window moves on by a bucket. An edge of a pulse input is
filtered by MIN_WIDTH and counted. A PWM period begins where the last one ended. -/
def Obligations.SlotsAndDirectIO : Prop :=
  ∀ s : State, s.serves iMCH = true →
    ((∀ j < 48, s.f (MCH_MFs_BIND_KIND j) < 2) → s.tim.edges % 1000 = 0 → s.tim.edges ≠ s.mch.stepAt →
      ∃ t : State, exec .outputStep s = .next t ∧ t.f MCH_IL_STATE_ACTIVE = s.ilWord ∧ t.mch.stepAt = s.tim.edges ∧
        s.within t iMCH ∧
        ∀ (k : Nat) (want lim out : Int) (step : Nat), k < 48 →
          want = (if s.on (MCH_MFs_CFG_MODE k) then s.sg (MCH_MFs_TARGET_TARGET k) else s.sg (MCH_MFs_SETPOINT_SETPOINT k)) →
          lim = clampI (s.sg (MCH_MFs_OUT_LIM_OUT_MIN k)) (s.sg (MCH_MFs_OUT_LIM_OUT_MAX k)) want →
          out = s.sg (MCH_MFs_VALUES_OUTPUT k) → step = s.f (MCH_MFs_RATE_RATE_STEP k) →
          (s.slotState k = 2 → s.ilWord &&& s.f (MCH_MFs_IL_MASK_MASK k) = 0 → s.slotFaulty k = false →
            t.slotState k = 2 ∧ t.f (MCH_MFs_STATUS_CLAMPED k) = b2n (decide (lim ≠ want)) ∧
            (s.on (MCH_MFs_CFG_RATE_EN k) = false ∨ (lim - out).natAbs ≤ step →
              t.f (MCH_MFs_VALUES_OUTPUT k) = unsigned 32 lim ∧ t.f (MCH_MFs_STATUS_RATE_LIMITED k) = 0) ∧
            (s.on (MCH_MFs_CFG_RATE_EN k) = true → step < (lim - out).natAbs →
              t.f (MCH_MFs_VALUES_OUTPUT k) = unsigned 32 (if out < lim then out + step else out - step) ∧
              t.f (MCH_MFs_STATUS_RATE_LIMITED k) = 1)) ∧
          (s.slotState k = 2 → s.ilWord &&& s.f (MCH_MFs_IL_MASK_MASK k) ≠ 0 ∨ s.slotFaulty k = true →
            t.slotState k = 4 ∧
            (s.f (MCH_MFs_CFG_STOP_MODE k) = 0 → t.f (MCH_MFs_VALUES_OUTPUT k) = s.f (MCH_MFs_VALUES_OUTPUT k)) ∧
            (s.f (MCH_MFs_CFG_STOP_MODE k) = 1 →
              t.f (MCH_MFs_VALUES_OUTPUT k) = s.f (MCH_MFs_NEUTRAL_NEUTRAL k) % 2 ^ 32)) ∧
          (s.slotState k < 2 → t.slotState k = s.slotState k ∧ t.f (MCH_MFs_VALUES_OUTPUT k) = s.f (MCH_MFs_VALUES_OUTPUT k))) ∧
    (s.tim.edges % 1000 ≠ 0 → exec .outputStep s = .next s) ∧
    (∀ k : Nat, k < 48 →
      (s.slotState k ≠ 0 → (s.slot k).tick ≤ s.tim.edges → s.f (MCH_MFs_BIND_KIND k) < 2 →
        (s.slotState k = 2 → s.on (MCH_MFs_CFG_MODE k) = true → (s.slot k).waiting = false →
          ∃ t : State, ∃ x : Token, exec (.lawTick k) s = .next t ∧ t.sent = s.sent ++ [x] ∧ x.dest = s.f (MCH_MFs_LAW_EP k) ∧
            x.data = s.f (MCH_MFs_SETPOINT_SETPOINT k) * 2 ^ 32 + s.f (MCH_MFs_VALUES_MEASURED k) ∧
            (t.slot k).tick = (s.slot k).tick + s.f (MCH_MFs_TIMING_PERIOD k) * 50000 ∧ (t.slot k).waiting = true ∧
            t.f (MCH_MFs_STAT_TICKS k) = wrapInc 32 (s.f (MCH_MFs_STAT_TICKS k)) % 2 ^ 32 ∧
            s.keeps t [MCH_MFs_STATUS_LATE_RUN k, MCH_MFs_STAT_TICKS k]) ∧
        (s.slotState k = 2 → s.on (MCH_MFs_CFG_MODE k) = true → (s.slot k).waiting = true →
          s.f (MCH_MFs_CFG_LATE_LIMIT k) ≤ satInc 8 (s.f (MCH_MFs_STATUS_LATE_RUN k)) % 2 ^ 8 →
          ∃ t : State, exec (.lawTick k) s = .next t ∧ t.on (MCH_MFs_STATUS_LAW_LATE k) = true ∧ t.slotState k = 4 ∧
            t.f (MCH_MFs_STAT_LATE k) = satInc 16 (s.f (MCH_MFs_STAT_LATE k)) % 2 ^ 16) ∧
        (s.on (MCH_MFs_CFG_MODE k) = false →
          ∃ t : State, exec (.lawTick k) s = .next t ∧
            t.slot k = { s.slot k with tick := (s.slot k).tick + s.f (MCH_MFs_TIMING_PERIOD k) * 50000 } ∧
            t.sent = s.sent ∧ s.keeps t [])) ∧
      (s.slotState k = 0 ∨ s.tim.edges < (s.slot k).tick → exec (.lawTick k) s = .next s) ∧
      (s.slotState k ≠ 0 → s.slotState k ≠ 2 → s.on (MCH_MFs_CFG_STALE_EN k) = true → s.on (MCH_MFs_STATUS_STALE k) = false →
        (s.slot k).seenAt + s.f (MCH_MFs_MEAS_SRC_AGE_MS k) * 100000 ≤ s.tim.edges →
        ∃ t : State, exec (.stale k) s = .next t ∧ t.on (MCH_MFs_STATUS_STALE k) = true ∧ t.mch = s.mch ∧
          s.keeps t [MCH_MFs_STATUS_STALE k]) ∧
      (s.slotState k = 0 ∨ s.on (MCH_MFs_CFG_STALE_EN k) = false → exec (.stale k) s = .next s)) ∧
    (∀ (g : Nat) (codes : List Nat), g < 4 → s.on (MCH_ANG_g_ENABLE g) = true →
      Tab.get (fun _ => 0) s.mch.groups g ≤ s.tim.edges →
      (∀ i < 16, s.on (TAL_TQi_CFG_ENABLE i) = false) →
      ∃ t : State, exec (.analogSample g codes) s = .next t ∧ s.within t iMCH ∧
        Tab.get (fun _ => 0) t.mch.groups g = Tab.get (fun _ => 0) s.mch.groups g + 400 * s.f (MCH_ANG_g_DIV g) ∧
        (∀ c : Nat, c / 8 = g → s.on (MCH_ANc_CFG_ENABLE c) = true →
          t.f (MCH_ANc_VALUE_RAW c) = codes.getD (c % 8) 0 % 65536 ∧
          (t.an c).samples = ((codes.getD (c % 8) 0 % 65536) :: (s.an c).samples).take 256 ∧
          (s.f (MCH_ANc_CFG_AVG_SHIFT c) = 0 → t.f (MCH_ANc_VALUE_FILT c) = codes.getD (c % 8) 0 % 65536)) ∧
        (∀ c : Nat, s.on (MCH_ANc_CFG_ENABLE c) = false → t.an c = s.an c)) ∧
    (∀ (g : Nat) (codes : List Nat), s.on (MCH_ANG_g_ENABLE g) = false → exec (.analogSample g codes) s = .next s) ∧
    (s.tim.edges % 1000000 = 0 → s.tim.edges ≠ s.mch.bucketAt →
      ∃ t : State, exec .impactRateBucket s = .next t ∧ s.within t iMCH ∧ t.mch.bucketAt = s.tim.edges ∧
        ∀ c < 24, s.on (MCH_ANc_CFG_IMPACT c) = true →
          t.f (MCH_ANc_RATE_HITS_1S c) = (((s.an c).bucket :: (s.an c).buckets).take 100).sum % 2 ^ 32 ∧
          t.an c = { s.an c with bucket := 0, buckets := ((s.an c).bucket :: (s.an c).buckets).take 100 }) ∧
    (s.tim.edges % 1000000 ≠ 0 → exec .impactRateBucket s = .next s) ∧
    (∀ (n : Nat) (level : Bool) (held half : Nat), n < 16 → s.on (MCH_PIn_CFG_ENABLE n) = true →
      s.on (MCH_PIn_CFG_QUAD n) = false →
      (n % 2 = 1 → s.on (MCH_PIn_CFG_QUAD (n - 1)) = false) →
      (held < s.f (MCH_PIn_CFG_MIN_WIDTH n) →
        ∃ t : State, exec (.pulseEdge n level held half) s = .next t ∧ t.mch = s.mch ∧
          t.f (MCH_PIn_STAT_GLITCHES n) = satInc 16 (s.f (MCH_PIn_STAT_GLITCHES n)) % 2 ^ 16 ∧
          s.keeps t [MCH_PIn_STAT_GLITCHES n]) ∧
      (s.f (MCH_PIn_CFG_MIN_WIDTH n) ≤ held →
        (s.f (MCH_PIn_CFG_EDGE n) = 2 ∨ s.f (MCH_PIn_CFG_EDGE n) = (if level then 0 else 1) →
          ∃ t : State, exec (.pulseEdge n level held half) s = .next t ∧ t.f (MCH_PIn_STAT_LEVEL n) = b2n level ∧
            t.f (MCH_PIn_COUNT_COUNT n) = (s.f (MCH_PIn_COUNT_COUNT n) + 1) % 2 ^ 32 ∧
            (t.pulse n).lastEdge = some (s.tim.edges * 2 + half % 2) ∧ (∀ m : Nat, m ≠ n → t.pulse m = s.pulse m) ∧
            s.within t iMCH) ∧
        (s.f (MCH_PIn_CFG_EDGE n) = (if level then 1 else 0) →
          ∃ t : State, exec (.pulseEdge n level held half) s = .next t ∧ t.f (MCH_PIn_STAT_LEVEL n) = b2n level ∧
            t.mch = s.mch ∧
            s.keeps t [MCH_PIn_STAT_LEVEL n]))) ∧
    (∀ n e : Nat, (s.pulse n).lastEdge = some e → s.f (MCH_PIn_ZERO_ZERO_MS n) * 200000 ≤ s.tim.edges * 2 - e →
      ∃ t : State, exec (.pulseZero n) s = .next t ∧ t.f (MCH_PIn_PERIOD_PERIOD n) = 0 ∧ s.keeps t [MCH_PIn_PERIOD_PERIOD n]) ∧
    (∀ n : Nat, (s.pulse n).lastEdge = none → exec (.pulseZero n) s = .next s) ∧
    (∀ n next : Nat, n < 24 → next = (s.pwm n).start + s.pwmPeriod n → s.on (MCH_PWn_CFG_ENABLE n) = true →
      (next ≤ s.tim.edges * 2 →
        ∃ t : State, exec (.pwmPeriodStart n) s = .next t ∧ t.pwm n = ⟨next, (s.pwm n).periods + 1⟩ ∧
          t.f (MCH_PWn_STAT_DUTY_EFF n) = s.pwmDuty n (s.pwm n).periods % 2 ^ 16 ∧ s.keeps t [MCH_PWn_STAT_DUTY_EFF n]) ∧
      (s.tim.edges * 2 < next → exec (.pwmPeriodStart n) s = .next s))

/-! ### Tally (chapter 11) -/

/-- R426, R427, R428, R429, R431, R432, R434, R436, R437, R438, R439, R441, R442, R443: ENABLE starts an accumulator with settings that
pass its checks and ends with RANGE otherwise; clearing it saves. An increment within its limit adds its quantity to FWD or
REV, once for a stamp; others are refused. A latch that is due copies the totals and saves; a checkpoint saves the stamps; a
save that ends writes both copies; under PWRFAIL every enabled accumulator saves. CLEAR latches first and clears at the
next edge. A written temperature clears TEMP_STALE, and 10 s without one sets it. D moves 1 ms at a time towards its
target. A pulse output starts a pulse when it has one to give and its gap has ended, and the pulse ends after WIDTH. -/
def Obligations.Tallies : Prop :=
  ∀ s : State, s.serves iTAL = true →
    (∀ (req i v : Nat) (r : State), i < 16 → s.regW iTAL req (aTal i 0) v = (cOK, r) →
      (s.on (TAL_TQi_CFG_ENABLE i) = false → bit v 31 = true →
        (r.talBad i = false →
          ∃ t : State, exec (.tallyEnable req i v) s = .next t ∧ t.answer = cOK ∧ t.on (TAL_TQi_CFG_ENABLE i) = true ∧
            t.f (TAL_TQi_QMAX_QMAX i) = r.talQmax i % 2 ^ 64 ∧ (t.acc i).cycles = 0 ∧ (t.acc i).latch = none ∧
            t.f (TAL_TQi_CORR_D_MS i) = t.lagTarget i % 2 ^ 15 ∧ t.f (TAL_TQi_FWD_FWD i) = s.f (TAL_TQi_FWD_FWD i) ∧
            t.f (TAL_TQi_REV_REV i) = s.f (TAL_TQi_REV_REV i) ∧ (∀ j : Nat, j ≠ i → t.acc j = s.acc j) ∧ s.within t iTAL) ∧
        (r.talBad i = true →
          ∃ t : State, exec (.tallyEnable req i v) s = .next t ∧ t.answer = cRANGE ∧ t.tal = s.tal ∧
            s.keeps t (ISL_PSTATE_STATE iTAL :: refuseRegs iTAL))) ∧
      (s.on (TAL_TQi_CFG_ENABLE i) = true → bit v 31 = false → (s.acc i).latch = none →
        bits v 29 27 = s.f (TAL_TQi_CFG_SRC_KIND i) → bits v 26 21 = s.f (TAL_TQi_CFG_SRC_INDEX i) →
        bits v 20 19 = s.f (TAL_TQi_CFG_DIR_KIND i) → bits v 18 14 = s.f (TAL_TQi_CFG_DIR_INDEX i) →
        bits v 13 12 = s.f (TAL_TQi_CFG_TEMP_KIND i) → bits v 11 7 = s.f (TAL_TQi_CFG_TEMP_INDEX i) →
        ∃ t : State, ∃ x : TalSave, exec (.tallyDisable req i v) s = .next t ∧ t.answer = cOK ∧
          t.on (TAL_TQi_CFG_ENABLE i) = false ∧
          t.tal.saves = s.tal.saves ++ [x] ∧ x.acc = i ∧
          t.f (TAL_TQi_SAVE_SAVE_SEQ i) = wrapInc 32 (s.f (TAL_TQi_SAVE_SAVE_SEQ i)) % 2 ^ 32 ∧
          t.f (TAL_TQi_FWD_FWD i) = s.f (TAL_TQi_FWD_FWD i) ∧ t.f (TAL_TQi_REV_REV i) = s.f (TAL_TQi_REV_REV i) ∧
          s.within t iTAL)) ∧
    (∀ (tk : Token) (req i : Nat) (q : Int), i < 16 → tk.dest = ep iTAL 0 → tk.data < 2 ^ 32 → tk.task = none →
      tk.tag = i + tagPrio tk.tag * 2 ^ 23 → q = (s.talQ i (signed 32 tk.data)).1 →
      (s.f (TAL_TQi_CFG_SRC_KIND i) = 3 → (signed 32 tk.data).natAbs ≤ s.f (TAL_TQi_INC_LIMIT_LIMIT i) →
        s.on (TAL_TQi_CFG_ENABLE i) = true → s.tal.pwrfail = false → (s.acc i).latch = none → ∀ fr rr : Nat,
        (fr, rr) = talAdd (s.f (TAL_TQi_FWD_FWD i)) (s.f (TAL_TQi_REV_REV i)) (if s.talReverse i then -q else q) →
        (tk.stamp = none →
          (∃ t : State, exec (.tallyIncrement tk) s = .next t ∧ t.answer = cOK ∧ t.f (TAL_TQi_FWD_FWD i) = fr % 2 ^ 64 ∧
            t.f (TAL_TQi_REV_REV i) = rr % 2 ^ 64 ∧ t.f (TAL_TQi_NET_NET i) = unsigned 64 (Int.ofNat fr - Int.ofNat rr) ∧
            (t.acc i).rho = (s.talQ i (signed 32 tk.data)).2 ∧ (∀ j : Nat, j ≠ i → t.acc j = s.acc j) ∧ s.within t iTAL) ∧
          ∃ t : State, exec (.tallyIncWrite req i tk.data) s = .next t ∧ t.answer = cOK ∧
            t.f (TAL_TQi_FWD_FWD i) = fr % 2 ^ 64 ∧
            t.f (TAL_TQi_REV_REV i) = rr % 2 ^ 64 ∧ s.within t iTAL) ∧
        (∀ (st : Stamp) (k : Nat), tk.stamp = some st → st ∉ Tab.get (fun _ => []) s.stamps iTAL →
          s.talSlot i st.flow = some k →
          (Tab.get (fun _ => TalPair.none) (s.acc i).pairs k = TalPair.none →
            ∃ t : State, exec (.tallyIncrement tk) s = .next t ∧ t.answer = cOK ∧ t.f (TAL_TQi_FWD_FWD i) = fr % 2 ^ 64 ∧
              t.f (TAL_TQi_REV_REV i) = rr % 2 ^ 64 ∧
              Tab.get (fun _ => TalPair.none) (t.acc i).pairs k = ⟨st.flow, st.seq, st.index⟩ ∧
              (t.acc i).stamps = (s.acc i).stamps ++ [st] ∧ (t.acc i).owed.isSome = true ∧ s.within t iTAL) ∧
          (Tab.get (fun _ => TalPair.none) (s.acc i).pairs k ≠ TalPair.none →
            (Tab.get (fun _ => TalPair.none) (s.acc i).pairs k).flow = st.flow →
            newerPair (Tab.get (fun _ => TalPair.none) (s.acc i).pairs k) st = false →
            ∃ t : State, exec (.tallyIncrement tk) s = .next t ∧ t.answer = cDUPLICATE ∧ t.tal = s.tal ∧
              s.keeps t [ISL_PSTATE_STATE iTAL])) ∧
        (∀ st : Stamp, tk.stamp = some st → st ∈ Tab.get (fun _ => []) s.stamps iTAL →
          ∃ t : State, exec (.tallyIncrement tk) s = .next t ∧ t.answer = cDUPLICATE ∧ t.tal = s.tal ∧
            s.keeps t [ISL_PSTATE_STATE iTAL])) ∧
      (s.f (TAL_TQi_CFG_SRC_KIND i) ≠ 3 ∨ s.f (TAL_TQi_INC_LIMIT_LIMIT i) < (signed 32 tk.data).natAbs → tk.stamp = none →
        (∃ t : State, exec (.tallyIncrement tk) s = .next t ∧ t.answer = cRANGE ∧ t.tal = s.tal ∧
          s.keeps t [ISL_PSTATE_STATE iTAL]) ∧
        ∃ t : State, exec (.tallyIncWrite req i tk.data) s = .next t ∧ t.answer = cRANGE ∧ t.tal = s.tal ∧
          s.keeps t (ISL_PSTATE_STATE iTAL :: refuseRegs iTAL))) ∧
    (∀ i due time : Nat, i < 16 → (s.acc i).latch = some (due, time) →
      (due ≤ s.tim.edges →
        ∃ t : State, ∃ x : TalSave, exec (.tallyLatch i) s = .next t ∧
          t.f (TAL_TQi_LFWD_LFWD i) = s.f (TAL_TQi_FWD_FWD i) % 2 ^ 64 ∧
          t.f (TAL_TQi_LREV_LREV i) = s.f (TAL_TQi_REV_REV i) % 2 ^ 64 ∧ t.f (TAL_TQi_LATCH_TIME_TICKS i) = time % 2 ^ 64 ∧
          t.f (TAL_TQi_LATCH_SEQ i) = wrapInc 32 (s.f (TAL_TQi_LATCH_SEQ i)) % 2 ^ 32 ∧ (t.acc i).latch = none ∧
          t.tal.saves = s.tal.saves ++ [x] ∧ x.acc = i ∧
          s.keeps t [TAL_TQi_LFWD_LFWD i, TAL_TQi_LREV_LREV i, TAL_TQi_LATCH_TIME_TICKS i, TAL_TQi_LATCH_SEQ i,
            TAL_TQi_SAVE_SAVE_SEQ i]) ∧
      (s.tim.edges < due → exec (.tallyLatch i) s = .next s)) ∧
    (∀ i : Nat, (s.acc i).latch = none → exec (.tallyLatch i) s = .next s) ∧
    (∀ i e : Nat, i < 16 → (s.acc i).owed = some e → s.tim.edges % 100000 = 0 → e < s.tim.edges →
      ∃ t : State, ∃ x : TalSave, exec (.tallyCheckpoint i) s = .next t ∧ (t.acc i).owed = none ∧ (t.acc i).stamps = [] ∧
        t.tal.saves = s.tal.saves ++ [x] ∧ x.acc = i ∧ x.stamps = (s.acc i).stamps ∧
        t.f (TAL_TQi_SAVE_SAVE_SEQ i) = wrapInc 32 (s.f (TAL_TQi_SAVE_SAVE_SEQ i)) % 2 ^ 32 ∧
        s.keeps t [TAL_TQi_SAVE_SAVE_SEQ i]) ∧
    (∀ i : Nat, (s.acc i).owed = none → exec (.tallyCheckpoint i) s = .next s) ∧
    (∀ (x : TalSave) (xs : List TalSave), s.tal.saves = x :: xs → x.acc < 16 → x.slot < 2 → x.bytes.length = 64 →
      x.stamps = [] →
      s.memc.failA = false → s.memc.failB = false →
      ∃ t : State, ∃ o : Nat, exec .tallySaveDone s = .next t ∧ o = x.acc * 0x80 + x.slot * 0x40 ∧
        t.tal = { s.tal with saves := xs } ∧
        t.rdBytes (0x0400600000 + o) 64 = x.bytes ∧ t.rdBytes (0x0400A40000 + o) 64 = x.bytes ∧
        t.f TAL_STATUS_SAVES = satInc 16 (s.f TAL_STATUS_SAVES) % 2 ^ 16 ∧
        (∀ q : RF, q.key ≠ TAL_STATUS_SAVES.key → t.f q = s.f q) ∧
        ∀ a : Nat, (a < 0x0400600000 + o ∨ 0x0400600040 + o ≤ a) → (a < 0x0400A40000 + o ∨ 0x0400A40040 + o ≤ a) →
          t.rdB a = s.rdB a) ∧
    (s.tal.saves = [] → exec .tallySaveDone s = .next s) ∧
    (s.tal.pwrfail = true → s.tal.partialAt ≤ s.tim.edges →
      ∃ t : State, exec .tallyPartialSave s = .next t ∧ t.tal.partialAt = s.tim.edges + 10000 ∧ s.within t iTAL ∧
        ∀ i < 16, s.on (TAL_TQi_CFG_ENABLE i) = true →
          t.f (TAL_TQi_SAVE_SAVE_SEQ i) = wrapInc 32 (s.f (TAL_TQi_SAVE_SAVE_SEQ i)) % 2 ^ 32 ∧
          t.f (TAL_TQi_FWD_FWD i) = s.f (TAL_TQi_FWD_FWD i) ∧ t.f (TAL_TQi_REV_REV i) = s.f (TAL_TQi_REV_REV i)) ∧
    (s.tal.pwrfail = false → exec .tallyPartialSave s = .next s) ∧
    (∀ req i : Nat, i < 16 →
      ((s.acc i).clear = false → s.on (ISL_LOCK_LOCKED iTAL) = false → (s.acc i).latch = none →
        ∃ t : State, exec (.tallyClear req i) s = .next t ∧ t.answer = cOK ∧ t.f (TAL_TQi_CMD_STATUS i) = cOK ∧
          t.on (TAL_TQi_CMD_BUSY i) = true ∧ (t.acc i).clear = true ∧
          t.f (TAL_TQi_LFWD_LFWD i) = s.f (TAL_TQi_FWD_FWD i) % 2 ^ 64 ∧
          t.f (TAL_TQi_LREV_LREV i) = s.f (TAL_TQi_REV_REV i) % 2 ^ 64 ∧
          t.f (TAL_TQi_FWD_FWD i) = s.f (TAL_TQi_FWD_FWD i) ∧ t.f (TAL_TQi_REV_REV i) = s.f (TAL_TQi_REV_REV i) ∧
          s.within t iTAL) ∧
      ((s.acc i).clear = false → s.on (ISL_LOCK_LOCKED iTAL) = true →
        ∃ t : State, exec (.tallyClear req i) s = .next t ∧ t.answer = cOK ∧ t.f (TAL_TQi_CMD_STATUS i) = cNOT_OWNER ∧
          t.tal = s.tal ∧ s.keeps t [TAL_TQi_CMD_STATUS i, TAL_TQi_CMD_OP i, ISL_PSTATE_STATE iTAL]) ∧
      ((s.acc i).clear = true →
        ∃ t : State, exec (.tallyClear req i) s = .next t ∧ t.answer = cBUSY ∧ t.tal = s.tal ∧
          s.keeps t (ISL_PSTATE_STATE iTAL :: refuseRegs iTAL))) ∧
    (∀ req i v : Nat, i < 16 → v < 2 ^ 16 →
      ∃ t : State, exec (.tempWrite req i v) s = .next t ∧ t.answer = cOK ∧ t.on (TAL_TQi_CORR_TEMP_STALE i) = false ∧
        t.acc i = { s.acc i with temp := v, tempAt := s.tim.edges } ∧
        s.keeps t [TAL_TQi_CORR_TEMP_STALE i, ISL_PSTATE_STATE iTAL]) ∧
    (∀ i : Nat, i < 16 → s.on (TAL_TQi_CFG_ENABLE i) = true → s.f (TAL_TQi_CFG_TEMP_KIND i) = 2 →
      s.on (TAL_TQi_CORR_TEMP_STALE i) = false →
      ((s.acc i).tempAt + 1000000000 ≤ s.tim.edges →
        ∃ t : State, exec (.tempStale i) s = .next t ∧ t.on (TAL_TQi_CORR_TEMP_STALE i) = true ∧ t.tal = s.tal ∧
          s.keeps t [TAL_TQi_CORR_TEMP_STALE i]) ∧
      (s.tim.edges < (s.acc i).tempAt + 1000000000 → exec (.tempStale i) s = .next s)) ∧
    (s.tim.edges % 1000000 = 0 → s.tim.edges ≠ s.tal.lagAt →
      ∃ t : State, exec .lagStep s = .next t ∧ t.tal = { s.tal with lagAt := s.tim.edges } ∧ s.within t iTAL ∧
        ∀ i < 16, s.on (TAL_TQi_CFG_ENABLE i) = true → s.f (TAL_TQi_CORR_D_MS i) < 2 ^ 15 →
          (s.f (TAL_TQi_CORR_D_MS i) < s.lagTarget i → t.f (TAL_TQi_CORR_D_MS i) = s.f (TAL_TQi_CORR_D_MS i) + 1) ∧
          (s.lagTarget i < s.f (TAL_TQi_CORR_D_MS i) → t.f (TAL_TQi_CORR_D_MS i) + 1 = s.f (TAL_TQi_CORR_D_MS i)) ∧
          (s.lagTarget i = s.f (TAL_TQi_CORR_D_MS i) → t.f (TAL_TQi_CORR_D_MS i) = s.f (TAL_TQi_CORR_D_MS i))) ∧
    (s.tim.edges % 1000000 ≠ 0 → exec .lagStep s = .next s) ∧
    (∀ (req n v : Nat) (r : State), n < 8 → s.regW iTAL req (aPo n 0) v = (cOK, r) → bit v 31 = true →
      s.on (TAL_POn_CFG_ENABLE n) = false →
      (s.on SYS_STRAPS_BANK = true →
        ∃ t : State, exec (.pulseOutputEnable req n v) s = .next t ∧ t.answer = cOK ∧ t.on (TAL_POn_CFG_ENABLE n) = true ∧
          t.po n = { s.po n with net0 := signed 64 (s.f (TAL_TQi_NET_NET (bits v 3 0))), emitted := 0 } ∧
          t.f (TAL_POn_EMITTED_COUNT n) = 0 ∧ s.within t iTAL) ∧
      (s.on SYS_STRAPS_BANK = false →
        ∃ t : State, exec (.pulseOutputEnable req n v) s = .next t ∧ t.answer = cRANGE ∧ t.tal = s.tal ∧
          s.keeps t (ISL_PSTATE_STATE iTAL :: refuseRegs iTAL))) ∧
    (∀ (n : Nat) (d : Int), n < 8 → s.on (TAL_POn_CFG_ENABLE n) = true → (s.po n).upto = none → (s.po n).gap ≤ s.tim.edges →
      d = s.poTarget n - (s.po n).emitted →
      (0 < d → (s.po n).rev = false →
        ∃ t : State, exec (.pulseOutputStart n) s = .next t ∧ t.po n = { s.po n with
          emitted := (s.po n).emitted + 1, upto := some (s.tim.edges + s.f (TAL_POn_TIMING_WIDTH n)) } ∧
          t.f (TAL_POn_EMITTED_COUNT n) = unsigned 32 ((s.po n).emitted + 1) ∧ s.keeps t [TAL_POn_EMITTED_COUNT n]) ∧
      (0 < d → (s.po n).rev = true →
        ∃ t : State, exec (.pulseOutputStart n) s = .next t ∧ t.po n = { s.po n with
          rev := false, gap := s.tim.edges + s.f (TAL_POn_TIMING_GAP n) } ∧ s.keeps t []) ∧
      (d = 0 → exec (.pulseOutputStart n) s = .next s)) ∧
    (∀ n e : Nat, (s.po n).upto = some e →
      (e ≤ s.tim.edges →
        ∃ t : State, exec (.pulseOutputEnd n) s = .next t ∧ t.po n = { s.po n with
          upto := none, gap := e + s.f (TAL_POn_TIMING_GAP n) } ∧ s.keeps t []) ∧
      (s.tim.edges < e → exec (.pulseOutputEnd n) s = .next s))

/-! ### CAN (chapter 12) -/

/-- R447, R448, R449, R450, R451, R452, R455, R457, R459, R460, R461, R462: ENABLE starts a controller in ACTIVE with its counters at 0
if its timing passes, and clearing it cancels the buffers. Errors count, and 256 is bus-off; RECOVER and its end lead back
to ACTIVE. A frame received goes to the object that matches it, NEW, or is counted. A request takes one of 32 buffers. The
buffer chosen is of the most urgent class. An attempt that succeeds completes its frame; one that fails returns to its
buffer, or completes if it is one-shot; a third clash completes with ID_CLASH. A cancel removes a frame before its
arbitration is won. -/
def Obligations.CanControllers : Prop :=
  ∀ (s : State) (n : Nat), n < 6 →
    (∀ (req v : Nat) (r : State), s.serves iCAN = true → s.regW iCAN req (aCan n 0) v = (cOK, r) →
      (bit v 31 = true → s.on (CAN_CTLn_CFG_ENABLE n) = false → (s.canCtl n).closing = false →
        (s.canTimingBad n (bit v 30) = false →
          ∃ t : State, exec (.canEnable req n v) s = .next t ∧ t.answer = cOK ∧ t.on (CAN_CTLn_CFG_ENABLE n) = true ∧
            t.canState n = 1 ∧ t.canCtl n = { s.canCtl n with tec := 0, rcv := 0 } ∧ s.within t iCAN) ∧
        (s.canTimingBad n (bit v 30) = true →
          ∃ t : State, exec (.canEnable req n v) s = .next t ∧ t.answer = cRANGE ∧ t.can = s.can ∧
            s.keeps t (ISL_PSTATE_STATE iCAN :: refuseRegs iCAN))) ∧
      (bit v 31 = false → s.on (CAN_CTLn_CFG_ENABLE n) = true →
        ((s.canCtl n).run = none →
          ∃ t : State, exec (.canDisable req n v) s = .next t ∧ t.answer = cOK ∧ t.on (CAN_CTLn_CFG_ENABLE n) = false ∧
            (t.canCtl n).bufs = [] ∧ t.canState n = 0 ∧
            ((∀ b ∈ (s.canCtl n).bufs, b.stamp = none) → s.within t iCAN)) ∧
        ((s.canCtl n).run ≠ none →
          ∃ t : State, exec (.canDisable req n v) s = .next t ∧ t.answer = cOK ∧ t.on (CAN_CTLn_CFG_ENABLE n) = false ∧
            t.canCtl n = { s.canCtl n with closing := true } ∧ s.within t iCAN))) ∧
    (∀ req : Nat, s.serves iCAN = true →
      (s.canState n = 3 →
        ∃ t : State, exec (.recover req n) s = .next t ∧ t.answer = cOK ∧ t.f (CAN_CTLn_CMD_STATUS n) = cOK ∧ t.canState n = 4 ∧
          t.can = s.can ∧ s.keeps t [CAN_CTLn_STATUS_STATE n, CAN_CTLn_CMD_STATUS n, CAN_CTLn_CMD_OP n,
            ISL_PSTATE_STATE iCAN]) ∧
      (s.canState n ≠ 3 →
        ∃ t : State, exec (.recover req n) s = .next t ∧ t.answer = cOK ∧ t.f (CAN_CTLn_CMD_STATUS n) = cBUSY ∧ t.can = s.can ∧
          s.keeps t [CAN_CTLn_CMD_STATUS n, CAN_CTLn_CMD_OP n, ISL_PSTATE_STATE iCAN])) ∧
    (s.canState n = 4 →
      ∃ t : State, exec (.canRecoveryDone n) s = .next t ∧ t.canState n = 1 ∧
        t.canCtl n = { s.canCtl n with tec := 0, rcv := 0 } ∧
        s.within t iCAN) ∧
    (s.canState n ≠ 4 → exec (.canRecoveryDone n) s = .next s) ∧
    (s.canOn n = false → ∀ e : CanErr, exec (.canError n e) s = .next s) ∧
    (s.canOn n = true → s.on (CAN_CTLn_CFG_RESTRICTED n) = false →
      ((s.canCtl n).tec < 248 → (s.canCtl n).rcv < 120 →
        (∃ t : State, exec (.canError n .tx) s = .next t ∧ (t.canCtl n).tec = (s.canCtl n).tec + 8 ∧
          (t.canCtl n).rcv = (s.canCtl n).rcv ∧ t.canState n = (if (s.canCtl n).tec + 8 < 128 then 1 else 2) ∧
          s.within t iCAN) ∧
        ∃ t : State, exec (.canError n .rx) s = .next t ∧ (t.canCtl n).rcv = (s.canCtl n).rcv + 1 ∧
          (t.canCtl n).tec = (s.canCtl n).tec ∧ t.canState n = (if (s.canCtl n).tec < 128 then 1 else 2) ∧ s.within t iCAN) ∧
      (248 ≤ (s.canCtl n).tec → (s.canCtl n).run = none → (s.canCtl n).closing = false →
        (∀ b ∈ (s.canCtl n).bufs, b.oneShot = false) →
        ∃ t : State, exec (.canError n .flagTx) s = .next t ∧ (t.canCtl n).busOffs = satInc 16 (s.canCtl n).busOffs ∧
          (t.canCtl n).bufs = (s.canCtl n).bufs ∧
          t.canState n = (if s.on (CAN_CTLn_CFG_AUTO_RECOVER n) then 4 else 3) ∧ s.within t iCAN)) ∧
    (∀ (f : CanFrame) (ago : Nat), s.canOn n = false → exec (.canFrameReceived n f ago) s = .next s) ∧
    (∀ (f : CanFrame) (ago : Nat), s.canOn n = true → f.fdf = false ∨ s.on (CAN_CTLn_CFG_FD_EN n) = true →
      (s.canCtl n).rcv ≤ 127 →
      (∀ o : Nat, s.objFor n f.ide f.id = some o → s.on (CAN_OBJo_CFG_Q_EN o) = false →
        s.memCheck (ep iCAN 0) (s.objAddr o) 128 true = cOK →
        ∃ t : State, ∃ seq : Nat, exec (.canFrameReceived n f ago) s = .next t ∧ seq = wrapInc 32 (s.f (CAN_OBJo_SEQ_SEQ o)) ∧
          t.f (CAN_OBJo_SEQ_SEQ o) = seq ∧ (t.canObj o).isNew = true ∧ (t.canObj o).lost = (s.canObj o).isNew ∧
          (t.canObj o).bytes.take 4 = leBytes 4 (f.id + b2n f.ide * 2 ^ 29 + b2n f.rtr * 2 ^ 30) ∧
          t.rdBytes (s.objAddr o) 4 = leBytes 4 seq ∧ t.rdBytes (s.objAddr o + 124) 4 = leBytes 4 seq ∧
          (t.canCtl n).rxOk = satInc 32 (s.canCtl n).rxOk ∧ t.eng = s.eng ∧
          ∀ a : Nat, (a < s.objAddr o ∨ s.objAddr o + 128 ≤ a) → t.rdB a = s.rdB a) ∧
      (s.objFor n f.ide f.id = none → s.on (CAN_CTLn_CFG_DEFAULT_EN n) = false →
        ∃ t : State, exec (.canFrameReceived n f ago) s = .next t ∧ (t.canCtl n).rxOk = satInc 32 (s.canCtl n).rxOk ∧
          (t.canCtl n).rxDropped = satInc 32 (s.canCtl n).rxDropped ∧ (∀ o : Nat, t.canObj o = s.canObj o) ∧ s.within t iCAN)) ∧
    (∀ (req o v : Nat) (r : State), s.serves iCAN = true → o < 2048 → s.regW iCAN req (aObj o 0) v = (cOK, r) →
      s.on (CAN_OBJo_CFG_EN o) = false → bit v 31 = true → bits v 18 16 = n →
      s.f (CAN_OBJo_ID_ID o) < 2 ^ 11 → s.f (CAN_OBJo_MASK_MASK o) < 2 ^ 11 →
      ((∀ k < 2048, k ≠ o → s.on (CAN_OBJo_CFG_EN k) = true → s.f (CAN_OBJo_CFG_CTRL k) = n →
          s.on (CAN_OBJo_CFG_IDE k) = bit v 8 → canOverlap (bit v 8) (s.f (CAN_OBJo_ID_ID o)) (s.f (CAN_OBJo_MASK_MASK o))
            (s.f (CAN_OBJo_ID_ID k)) (s.f (CAN_OBJo_MASK_MASK k)) = false) →
        ∃ t : State, exec (.canObjectEnable req o v) s = .next t ∧ t.answer = cOK ∧ t.on (CAN_OBJo_CFG_EN o) = true ∧
          t.f (CAN_OBJo_SEQ_SEQ o) = 0 ∧ t.canObj o = CanObj.fresh ∧ s.within t iCAN) ∧
      (∀ k < 2048, k ≠ o → s.on (CAN_OBJo_CFG_EN k) = true → s.f (CAN_OBJo_CFG_CTRL k) = n →
        s.on (CAN_OBJo_CFG_IDE k) = bit v 8 → canOverlap (bit v 8) (s.f (CAN_OBJo_ID_ID o)) (s.f (CAN_OBJo_MASK_MASK o))
          (s.f (CAN_OBJo_ID_ID k)) (s.f (CAN_OBJo_MASK_MASK k)) = true →
        ∃ t : State, exec (.canObjectEnable req o v) s = .next t ∧ t.answer = cCONFLICT ∧ t.can = s.can ∧
          s.keeps t (ISL_PSTATE_STATE iCAN :: refuseRegs iCAN))) ∧
    (∀ req v o : Nat, s.serves iCAN = true → o = bits v 10 0 →
      ((s.canObj o).isNew = true → s.f (CAN_OBJo_SEQ_SEQ o) = bits v 63 32 →
        s.memCheck (ep iCAN 0) (s.objAddr o + 10) 1 true = cOK →
        ∃ t : State, exec (.canObjAck req v) s = .next t ∧ t.answer = cOK ∧
          t.canObj o = { s.canObj o with isNew := false, lost := false } ∧ t.rdB (s.objAddr o + 10) = 0#8 ∧
          ∀ a : Nat, a ≠ s.objAddr o + 10 → t.rdB a = s.rdB a) ∧
      ((s.canObj o).isNew = false ∨ s.f (CAN_OBJo_SEQ_SEQ o) ≠ bits v 63 32 →
        ∃ t : State, exec (.canObjAck req v) s = .next t ∧ t.answer = cOK ∧ t.can = s.can ∧
          s.keeps t [ISL_PSTATE_STATE iCAN])) ∧
    (∀ req q v : Nat, s.serves iCAN = true → q < 8 → v < 512 →
      (s.on (CAN_RQq_CFG_MODE q) = false → (v + 512 - s.f (CAN_RQq_RD_RD q)) % 512 ≤ s.rqOwned q →
        ∃ t : State, exec (.canQueueRd req q v) s = .next t ∧ t.answer = cOK ∧ t.f (CAN_RQq_RD_RD q) = v ∧
          s.keeps t [CAN_RQq_RD_RD q, ISL_PSTATE_STATE iCAN]) ∧
      (s.on (CAN_RQq_CFG_MODE q) = true →
        ∃ t : State, exec (.canQueueRd req q v) s = .next t ∧ t.answer = cNOT_OWNER ∧
          s.keeps t (ISL_PSTATE_STATE iCAN :: refuseRegs iCAN))) ∧
    (∀ (tk : Token) b, s.serves iCAN = true → tk.dest = ep iCAN (0x10 + n) → tk.stamp = none → tk.task = none →
      tk.tag = tagPrio tk.tag * 2 ^ 23 → tk.data % 32 = 0 → blockIn tk.data 16 true = true → b = s.canBlock n tk.data →
      b.1 = cOK → blockIn tk.data (16 + b.2.1.data.length) true = true →
      (s.canOn n = true → s.on (CAN_CTLn_CFG_ENABLE n) = true → s.on (CAN_CTLn_CFG_LISTEN n) = false →
        s.on (CAN_CTLn_CFG_RESTRICTED n) = false → (s.canCtl n).bufs.length < 32 →
        ∃ t : State, ∃ x : CanBuf, exec (.canTxRequest tk) s = .next t ∧ t.answer = cOK ∧
          t.canCtl n = { s.canCtl n with bufs := (s.canCtl n).bufs ++ [x], order := (s.canCtl n).order + 1 } ∧
          x.frame = b.2.1 ∧ x.prio = tagPrio tk.tag ∧ x.block = some tk.data ∧ x.oneShot = b.2.2.1 ∧ s.within t iCAN) ∧
      (s.canState n = 0 ∨ s.on (CAN_CTLn_CFG_ENABLE n) = false ∨ 32 ≤ (s.canCtl n).bufs.length →
        ∃ t : State, exec (.canTxRequest tk) s = .next t ∧ t.answer = cBUSY ∧ t.can = s.can ∧
          s.keeps t [ISL_PSTATE_STATE iCAN])) ∧
    (s.canOn n = true → s.on (CAN_CTLn_CFG_ENABLE n) = true → (s.canCtl n).run = none → (s.canCtl n).bufs ≠ [] → ∀ wait : Nat,
      ∃ t : State, ∃ (b : CanBuf) (r : CanRun), exec (.canTxSelect n wait) s = .next t ∧ b ∈ (s.canCtl n).bufs ∧
        (∀ y ∈ (s.canCtl n).bufs, b.prio ≤ y.prio) ∧ (t.canCtl n).run = some r ∧ r.order = b.order ∧ s.within t iCAN) ∧
    (∀ wait : Nat, (s.canCtl n).run ≠ none → exec (.canTxSelect n wait) s = .next s) ∧
    (∀ b : CanBuf, (s.canCtl n).running = some b → b.stamp = none → s.canState n = 1 → (s.canCtl n).closing = false →
      (b.late = false →
        ∃ t : State, exec (.canTxComplete n .sent) s = .next t ∧ t.can.out = s.can.out ++ [(n, b.frame)] ∧
          (t.canCtl n).txOk = satInc 32 (s.canCtl n).txOk ∧ (t.canCtl n).tec = (s.canCtl n).tec - 1 ∧
          (t.canCtl n).run = none ∧ (t.canCtl n).bufs = (s.canCtl n).bufs.filter (fun y => y.order != b.order) ∧
          s.within t iCAN) ∧
      (b.oneShot = false → b.late = false → ∀ i : Instr, (i = .canTxComplete n .lost ∨ i = .arbitrationLost n) →
        ∃ t : State, exec i s = .next t ∧ (t.canCtl n).arbLost = satInc 32 (s.canCtl n).arbLost ∧ (t.canCtl n).run = none ∧
          (t.canCtl n).bufs.map CanBuf.order = (s.canCtl n).bufs.map CanBuf.order ∧ s.within t iCAN) ∧
      (b.oneShot = true → ∀ i : Instr, (i = .canTxComplete n .lost ∨ i = .arbitrationLost n) →
        ∃ t : State, exec i s = .next t ∧ (t.canCtl n).arbLost = satInc 32 (s.canCtl n).arbLost ∧ (t.canCtl n).run = none ∧
          (t.canCtl n).bufs = (s.canCtl n).bufs.filter (fun y => y.order != b.order)) ∧
      (2 ≤ b.clashes →
        ∃ t : State, exec (.canTxComplete n .clash) s = .next t ∧ (t.canCtl n).run = none ∧
          t.f (CAN_CTLn_CLASH_ID n) = b.frame.id % 2 ^ 29 ∧ t.f (CAN_CTLn_CLASH_IDE n) = b2n b.frame.ide ∧
          (t.canCtl n).clashes = satInc 16 (s.canCtl n).clashes ∧
          (t.canCtl n).bufs = (s.canCtl n).bufs.filter (fun y => y.order != b.order))) ∧
    ((s.canCtl n).run = none → ∀ e : CanEnd, exec (.canTxComplete n e) s = .next s) ∧
    (∀ (tk : Token), s.serves iCAN = true → tk.dest = ep iCAN (0x20 + n) → tk.stamp = none → tk.task = none →
      (∀ b : CanBuf, (s.canCtl n).bufs.find? (fun b => b.block == some tk.data) = some b → b.stamp = none →
        (s.canCtl n).run = none →
        ∃ t : State, exec (.canCancel tk) s = .next t ∧ t.answer = cOK ∧
          (t.canCtl n).bufs = (s.canCtl n).bufs.filter (fun y => y.order != b.order) ∧ s.within t iCAN) ∧
      (∀ (b : CanBuf) (r : CanRun), (s.canCtl n).bufs.find? (fun b => b.block == some tk.data) = some b →
        (s.canCtl n).run = some r →
        r.order = b.order → r.point < s.tim.edges * 2 →
        ∃ t : State, exec (.canCancel tk) s = .next t ∧ t.answer = cTOO_LATE ∧ (t.canCtl n).run = some r ∧
          (t.canCtl n).bufs.length = (s.canCtl n).bufs.length ∧ s.within t iCAN) ∧
      ((s.canCtl n).bufs.find? (fun b => b.block == some tk.data) = none →
        ∃ t : State, exec (.canCancel tk) s = .next t ∧ t.answer = cNOT_FOUND ∧ t.can = s.can ∧
          s.keeps t [ISL_PSTATE_STATE iCAN]))

/-! ### Bexlink (chapter 13) -/

/-- R471, R472, R473, R475, R487, R488, R490, R492, R496, R497: a port that trains within the limits of skew and delay is UP and
sends its toss record, one over them FAILED, one with no neighbour DOWN; a link may be marked DOWN and tries again after
100 ms. A toss record that does not fit takes the link down; others are kept and passed on. A looped port, or 10 ms alone,
makes a stack of one. Heartbeats go out on both ports, and one that comes in is noted and passed on. A STOP block latches
the stop. A silent member is FAILED; one to whom all are silent is ISOLATED and stops. TIME_T and TIME_R make the offset. A
command to retrain, or to leave, is taken when none is under way. -/
def Obligations.BexlinkLinks : Prop :=
  ∀ s : State, s.portsOn = true → s.bxl.finish = [] →
    (∀ (p : Nat) (detected : Bool) (preset skew delay : Nat), p < 2 →
      ((3 ≤ s.f SYS_BOOT_PHASE → s.f (BXL_Pp_STATUS_LINK p) = 1 →
        ∃ t : State, exec (.kickoff p detected preset skew delay) s = .next t ∧ s.within t iBXL ∧
          t.f (BXL_Pp_STATUS_LINK p) = (if detected = false then 0
            else if skew ≤ 32 ∧ delay ≤ 10000 ∧ s.ist (iENG (14 + p)) ≠ 5 then 2 else 3) ∧
          t.f (BXL_Pp_STATUS_PRESET p) = preset % 16 ∧ t.f (BXL_Pp_STATUS_SKEW p) = min skew 63 ∧
          t.f (BXL_Pp_STATUS_DELAY p) = min delay 16383 ∧
          (t.linkUp p = true → t.bxl.tossOut = s.bxl.tossOut ++ [(p, s.tossRecord)] ∧ t.bxl.toss0.isSome = true)) ∧
      ((s.f (BXL_Pp_STATUS_LINK p) = 0 ∨ s.f (BXL_Pp_STATUS_LINK p) = 3) →
        (Tab.get (fun _ => 0) s.bxl.trained p + 10000000 ≤ s.tim.edges →
          ∃ t : State, exec (.linkRetrain p detected preset skew delay) s = .next t ∧ s.within t iBXL ∧
            (t.linkUp p = true ↔ detected = true ∧ skew ≤ 32 ∧ delay ≤ 10000 ∧ s.ist (iENG (14 + p)) ≠ 5) ∧
            t.f (BXL_Pp_STAT_RETRAINS p) = satInc 16 (s.f (BXL_Pp_STAT_RETRAINS p)) % 2 ^ 16) ∧
        (s.tim.edges < Tab.get (fun _ => 0) s.bxl.trained p + 10000000 →
          exec (.linkRetrain p detected preset skew delay) s = .next s)))) ∧
    (∀ p : Nat, p < 2 →
      (s.linkUp p = true →
        (∃ t : State, exec (.linkDown p) s = .next t ∧ t.f (BXL_Pp_STATUS_LINK p) = 0 ∧
          Tab.get (fun _ => 0) t.bxl.trained p = s.tim.edges ∧ s.keeps t [BXL_Pp_STATUS_LINK p, BXL_TIME_UPSTREAM]) ∧
        (∀ r : List Byte, s.bxl.tosses.any (fun t => t.port == p) = false → s.tossFits r = false →
          ∃ t : State, exec (.toss p r) s = .next t ∧ t.f (BXL_Pp_STATUS_LINK p) = 0 ∧ t.bxl.tosses = s.bxl.tosses ∧
            s.keeps t [BXL_Pp_STATUS_LINK p, SCB_DROPPED_COUNT]) ∧
        (∀ r : List Byte, s.bxl.tosses.any (fun t => t.port == p) = true ∨ s.tossFits r = true →
          ∃ t : State, ∃ x : TossRec, exec (.toss p r) s = .next t ∧ t.bxl.tosses = s.bxl.tosses ++ [x] ∧ x.port = p ∧
            x.record = r ∧
            t.bxl.tossOut = s.bxl.tossOut ++
              (if fld r 8 16 ≠ s.unitId ∧ s.linkUp (1 - p) = true then [(1 - p, r)] else []) ∧ s.keeps t [])) ∧
      (s.linkUp p = false → exec (.linkDown p) s = .next s ∧ ∀ r : List Byte, exec (.toss p r) s = .next s)) ∧
    (s.discoveryOver = false → exec .ringDiscoveryEnd s = .next s) ∧
    (s.discoveryOver = true → s.formed = true →
      ∃ t : State, exec .ringDiscoveryEnd s = .next t ∧ t.bxl = { s.bxl with tosses := [], toss0 := none } ∧ s.keeps t []) ∧
    (s.f BXL_STATUS_STATE = 1 → s.f BXL_STATUS_EPOCH = 0 →
      (∀ i : Instr, (i = .ringDiscoveryEnd ∧ s.discoveryOver = true ∧ s.looped = true) ∨
          (i = .stackOfOne ∧ 1000000 ≤ s.tim.edges ∧ s.bxl.tosses = []) →
        ∃ t : State, exec i s = .next t ∧ t.f BXL_STATUS_EPOCH = 1 ∧ t.on BXL_STATUS_CAPTAIN = true ∧
          t.f BXL_STATUS_POSITION = 0 ∧
          t.f BXL_STATUS_STATE = 2 ∧ t.ros 0 = ⟨s.unitId, 1, 0, 0xFF, 0⟩ ∧ (∀ p : Nat, p ≠ 0 → t.ros p = RosterEnt.none) ∧
          s.within t iBXL) ∧
      (s.tim.edges < 1000000 → exec .stackOfOne s = .next s)) ∧
    (s.formed = true → s.pos' < 16 → s.linkUp 0 = true → s.linkUp 1 = true →
      (s.bxl.beatAt + 100 ≤ s.tim.edges →
        ∃ t : State, ∃ c : Nat, exec .heartbeatSend s = .next t ∧ t.bxl = { s.bxl with
            beatAt := s.tim.edges, ctl := s.bxl.ctl ++ [(0, 1, c), (1, 1, c)] } ∧ c % 16 = s.pos' ∧ bit c 4 = s.stopped ∧
          s.keeps t []) ∧
      (s.tim.edges < s.bxl.beatAt + 100 → exec .heartbeatSend s = .next s)) ∧
    (∀ p c : Nat, p < 2 → s.formed = true →
      (c % 16 ≠ s.pos' → bit c 4 = false →
        ∃ t : State, exec (.heartbeat p c) s = .next t ∧ Tab.get (fun _ => 0) t.bxl.beats (c % 16) = s.tim.edges ∧
          (c / 2 ^ 36 % 16 = 0 → t.f (BXL_Pp_STATUS_NEIGHBOUR p) = c % 16) ∧
          t.bxl.ctl = s.bxl.ctl ++ (if c / 2 ^ 36 % 16 + 1 ≤ s.rosterCount - 1 ∧ s.linkUp (1 - p) = true
            then [(1 - p, 1, (c + 2 ^ 36) % 2 ^ 48)] else []) ∧ s.keeps t [BXL_Pp_STATUS_NEIGHBOUR p]) ∧
      (c % 16 ≠ s.pos' → bit c 4 = true → s.latched = false → c / 2 ^ 24 % 256 = s.stop.releaseSeq →
        ∃ t : State, exec (.heartbeat p c) s = .next t ∧ t.latched = true ∧ t.f REF_STOP_STATUS_ORIGIN = c % 16) ∧
      (c % 16 = s.pos' → exec (.heartbeat p c) s = .next s)) ∧
    (∀ p c : Nat, p < 2 → c < 2 ^ 48 →
      (s.stop.seen.contains (c / 2 ^ 40 % 16, c % 2 ^ 32) = false → c / 2 ^ 40 % 16 ≠ s.pos' → s.latched = false →
        s.levelSources = [] →
        ∃ t : State, exec (.bexlinkStop p c) s = .next t ∧ s.newStop t 128 (c / 2 ^ 32 % 256) (c / 2 ^ 40 % 16) ∧
          t.stop.seen.contains (c / 2 ^ 40 % 16, c % 2 ^ 32) = true) ∧
      (s.stop.seen.contains (c / 2 ^ 40 % 16, c % 2 ^ 32) = true ∨ c / 2 ^ 40 % 16 = s.pos' →
        exec (.bexlinkStop p c) s = .next s)) ∧
    (∀ m : Nat, m < 16 →
      (s.liveAt m = true → m ≠ s.pos' → s.silent m = true → s.cutOff = false → s.on BXL_STATUS_CAPTAIN = false →
        (s.ros m).buddy < 16 → (s.ros m).buddy ≠ s.pos' → s.on BXL_GUEST_HAS_BUDDY = false →
        s.stop.asked.contains m = false → s.zon.txn = none → s.zon.forwarded = none →
        ∃ t : State, exec (.memberFail m) s = .next t ∧ t.ros m = { s.ros m with st := 4, served := (s.ros m).buddy } ∧
          (∀ p : Nat, p ≠ m → t.ros p = s.ros p) ∧ bit (t.f BXL_MEMBERS_FAILED) m = true ∧
            bit (t.f BXL_MEMBERS_MEMBER) m = false ∧
          s.keeps t [BXL_MEMBERS_FAILED, BXL_MEMBERS_MEMBER]) ∧
      (s.liveAt m = true → m ≠ s.pos' → s.silent m = true → s.cutOff = false → s.on BXL_STATUS_CAPTAIN = true →
        s.on BXL_GUEST_HAS_BUDDY = false → s.bxl.waiting = [] →
        ∃ t : State, exec (.memberFail m) s = .next t ∧ (t.ros m).st = 4 ∧
          t.f BXL_STATUS_EPOCH = wrapInc 16 (s.f BXL_STATUS_EPOCH)) ∧
      (s.liveAt m = false ∨ m = s.pos' ∨ s.silent m = false ∨ s.cutOff = true → exec (.memberFail m) s = .next s)) ∧
    (s.cutOff = true → s.f BXL_STATUS_STATE ≠ 3 → s.f UPD_STATUS_STATE ≠ 7 → s.latched = false → s.levelSources = [] →
      ∃ t : State, exec .isolated s = .next t ∧ t.f BXL_STATUS_STATE = 3 ∧ t.latched = true ∧ t.f REF_STOP_STATUS_REASON = 4 ∧
        t.f REF_STOP_STATUS_SOURCES = 8 ∧ t.outLevels = 0 ∧ t.eng = s.eng) ∧
    (s.cutOff = false → exec .isolated s = .next s) ∧
    (∀ p sub : Nat, s.linkUp p = true →
      ((s.link p).sentAt + 1000 ≤ s.tim.edges →
        ∃ t : State, exec (.timeTSend p sub) s = .next t ∧ (t.link p).t1 = some (s.ctlStamp sub) ∧ (t.link p).t2 = none ∧
          t.bxl.ctl = s.bxl.ctl ++ [(p, 3, s.ctlStamp sub)] ∧ s.keeps t []) ∧
      (s.tim.edges < (s.link p).sentAt + 1000 → exec (.timeTSend p sub) s = .next s) ∧
      (∀ c : Nat, (s.link p).t2 = none →
        ∃ t : State, exec (.timeExchange p false c sub) s = .next t ∧ (t.link p).t34 = some (c, s.ctlStamp sub) ∧
          t.bxl.ctl = s.bxl.ctl ++ [(p, 4, s.ctlStamp sub)] ∧ s.keeps t []) ∧
      (∀ (c t1 t3 t4 : Nat) (d delay : Int), (s.link p).t1 = some t1 → (s.link p).t34 = some (t3, t4) →
        d = signed 48 (c + 2 ^ 48 - t1) → delay = (d + signed 48 (t4 + 2 ^ 48 - t3)) / 2 →
        s.inStack = true → s.on BXL_STATUS_CAPTAIN = false → s.f BXL_TIME_UPSTREAM = p →
        ∃ t : State, exec (.timeExchange p true c sub) s = .next t ∧
          t.f BXL_TIME_OFFSET = unsigned 32 ((d - delay) * 10000 / 256) ∧ (t.link p).t1 = none ∧
          t.bxl.good = (if (d - delay).natAbs ≤ 6 then s.bxl.good + 1 else 0) ∧ t.mem = s.mem ∧ t.eng = s.eng)) ∧
    (∀ req : Nat, s.serves iBXL = true →
      (s.on BXL_CMD_BUSY = false →
        (∃ t : State, exec (.retrainWest req) s = .next t ∧ t.answer = cOK ∧ t.f (BXL_Pp_STATUS_LINK 0) = 1 ∧
          t.on BXL_CMD_BUSY = true ∧ t.f BXL_CMD_OP = 2 ∧ s.keeps t [BXL_CMD_OP, BXL_CMD_BUSY, BXL_Pp_STATUS_LINK 0,
            BXL_Pp_STAT_RETRAINS 0, BXL_TIME_UPSTREAM, ISL_PSTATE_STATE iBXL]) ∧
        (∃ t : State, exec (.retrainEast req) s = .next t ∧ t.answer = cOK ∧ t.f (BXL_Pp_STATUS_LINK 1) = 1 ∧
          t.on BXL_CMD_BUSY = true ∧ t.f BXL_CMD_OP = 3 ∧ s.keeps t [BXL_CMD_OP, BXL_CMD_BUSY, BXL_Pp_STATUS_LINK 1,
            BXL_Pp_STAT_RETRAINS 1, BXL_TIME_UPSTREAM, ISL_PSTATE_STATE iBXL]) ∧
        (s.inStack = true → s.f BXL_STATUS_STATE = 2 → s.memc.pendingItems ≠ [] →
          ∃ t : State, exec (.leave req) s = .next t ∧ t.answer = cOK ∧ t.on BXL_CMD_BUSY = true ∧ t.f BXL_STATUS_STATE = 4 ∧
            s.keeps t [BXL_CMD_OP, BXL_CMD_BUSY, BXL_STATUS_STATE, ISL_PSTATE_STATE iBXL]) ∧
        (s.inStack = false →
          ∃ t : State, exec (.leave req) s = .next t ∧ t.answer = cOK ∧ t.f BXL_CMD_STATUS = cBUSY ∧
            s.keeps t [BXL_CMD_OP, BXL_CMD_STATUS, ISL_PSTATE_STATE iBXL])) ∧
      (s.on BXL_CMD_BUSY = true → ∀ i : Instr, (i = .retrainWest req ∨ i = .retrainEast req ∨ i = .leave req) →
        ∃ t : State, exec i s = .next t ∧ t.answer = cBUSY ∧ t.bxl = s.bxl ∧
          s.keeps t (ISL_PSTATE_STATE iBXL :: refuseRegs iBXL)))

/-- R477, R480, R482, R483, R484, R486, R488, R489, R490: a send block that passes its checks becomes a message of its pair, and
BUSY with 16 that wait. An ACK confirms; a message without one for ACK_US leaves again. A token message is served at its
endpoint, an item goes to the journal unless its stamp is kept or its flow has no task, a mirrored removal leaves the guest
copy. A newer Roster is applied, an older one not. A snap trigger that comes too late is counted. A follower takes the
Captain's offset. A newcomer gets a free position; a member that asks leaves; a handover gives a Buddy. Every one but the
newcomer's request is acknowledged. -/
def Obligations.BexlinkMessages : Prop :=
  ∀ s : State, s.bxl.finish = [] →
    (∀ (tk : Token) h, s.serves iBXL = true → tk.dest = ep iBXL 0 → tk.stamp = none → tk.task = none →
      tk.tag = tagPrio tk.tag * 2 ^ 23 → tk.data < 2 ^ 40 → tk.data % 32 = 0 → blockIn tk.data 24 true = true →
      h = s.rdBytes tk.data 24 → fld h 0 1 = 2 → fld h 1 1 < 16 → fld h 2 2 = 0 → fld h 6 1 < 2 → fld h 7 1 = 0 →
      fld h 1 1 ≠ s.pos' → ((s.ros (fld h 1 1)).st = 1 ∨ (s.ros (fld h 1 1)).st = 4) →
      ((s.pair (fld h 1 1)).unacked.length < 16 →
        ∃ t : State, ∃ x : BxlMsg, exec (.bexlinkSend tk) s = .next t ∧ t.answer = cOK ∧ t.bxl.out = s.bxl.out ++ [x] ∧
          x.kind = 2 ∧
          x.dst = fld h 1 1 ∧ x.prio = tagPrio tk.tag ∧ x.num = (s.pair (fld h 1 1)).nextNum ∧
          (t.pair (fld h 1 1)).nextNum = wrapInc 32 (s.pair (fld h 1 1)).nextNum ∧
          (t.pair (fld h 1 1)).unacked.length = (s.pair (fld h 1 1)).unacked.length + 1 ∧
          s.keeps t [ISL_PSTATE_STATE iBXL]) ∧
      (16 ≤ (s.pair (fld h 1 1)).unacked.length →
        ∃ t : State, exec (.bexlinkSend tk) s = .next t ∧ t.answer = cBUSY ∧ t.bxl = s.bxl ∧
          s.keeps t [ISL_PSTATE_STATE iBXL])) ∧
    (∀ (m : BxlMsg) (u : BxlPend), s.bxlUp = true → m.dst = s.pos' → (s.pair m.src).unacked = [u] → u.msg.num = fld m.body 0 4 →
      fld m.body 4 1 = cOK → u.stamp = none → u.report = none → u.act = none → u.msg.kind = 2 → s.bxl.handover = none →
      ∃ t : State, exec (.ack m) s = .next t ∧ (t.pair m.src).unacked = [] ∧ t.bxl.out = s.bxl.out ∧ s.keeps t []) ∧
    (∀ (d : Nat) (u : BxlPend), s.portsOn = true → s.bxlUp = true → (s.pair d).unacked = [u] →
      (u.at' + s.f BXL_CFG_ACK_US * 100 < s.tim.edges →
        ∃ t : State, exec (.ackTimeout d) s = .next t ∧ t.bxl.out = s.bxl.out ++ [u.msg] ∧
          (t.pair d).unacked = [{ u with at' := s.tim.edges }] ∧ s.keeps t [BXL_Pp_STAT_RESENDS (s.portTo d)]) ∧
      (s.tim.edges ≤ u.at' + s.f BXL_CFG_ACK_US * 100 → exec (.ackTimeout d) s = .next s)) ∧
    (∀ m : BxlMsg, s.hears m →
      (∀ k v : Nat, k < 48 → v < 2 ^ 32 → s.serves iMCH = true → fld m.body 4 2 = ep iMCH 1 → fld m.body 8 4 = k →
        fld m.body 16 8 = v → s.slotState k ≠ 0 → s.sg (MCH_MFs_SP_LIM_SP_MIN k) ≤ signed 32 v →
        signed 32 v ≤ s.sg (MCH_MFs_SP_LIM_SP_MAX k) →
        ∃ t : State, exec (.tokenMessage m) s = .next t ∧ s.acked t m cOK ∧ t.f (MCH_MFs_SETPOINT_SETPOINT k) = v ∧
          s.keeps t [MCH_MFs_SETPOINT_SETPOINT k, ISL_PSTATE_STATE iMCH]) ∧
      (isIsland (epIsl (fld m.body 4 2)) = true → s.ist (epIsl (fld m.body 4 2)) = 5 →
        ∃ t : State, exec (.tokenMessage m) s = .next t ∧ s.acked t m cFENCED ∧ s.keeps t []) ∧
      (s.stampKept m.src (fld m.body 16 8) = true →
        ∃ t : State, exec (.itemMessage m) s = .next t ∧ s.acked t m cDUPLICATE ∧ t.memc = s.memc ∧ s.keeps t []) ∧
      (s.stampKept m.src (fld m.body 16 8) = false → (s.flow (fld m.body 4 2 % 4096)).bound = none →
        ∃ t : State, exec (.itemMessage m) s = .next t ∧ s.acked t m cNOT_FOUND ∧ t.memc = s.memc ∧ s.keeps t []) ∧
      (s.stampKept m.src (fld m.body 16 8) = false → (s.flow (fld m.body 4 2 % 4096)).bound ≠ none →
        m.body.length ≤ 1000 → s.accepting = true → s.memc.room (itemLen (16 + (m.body.length - 24))) = true →
        ∃ t : State, ∃ x : JWrite, exec (.itemMessage m) s = .next t ∧ (t.pair m.src).accepted = m.num ∧
          t.memc = { s.memc with itemWrites := s.memc.itemWrites ++ [x] } ∧ x.flow = fld m.body 4 2 % 4096 ∧
          x.payload = leBytes 8 (fld m.body 16 8) ++ leBytes 1 m.src ++ leBytes 7 0 ++ m.body.drop 24 ∧ t.bxl.out = s.bxl.out ∧
          s.keeps t []) ∧
      (∀ id : Nat, s.bxl.partner = some m.src → fld m.body 0 1 = 3 → 2 ≤ fld m.body 4 4 → id = fld (m.body.drop 8) 0 4 →
        ∃ t : State, exec (.mirror m) s = .next t ∧ s.acked t m cOK ∧
          t.bxl.guestEnts = s.bxl.guestEnts.filter (fun e => e.2.track != id) ∧
          t.bxl.guestTracks = s.bxl.guestTracks.filter (fun x => x.2.id != id) ∧ s.keeps t []) ∧
      (s.formed = true →
        (2 ^ 15 ≤ (fld m.body 0 2 + 2 ^ 16 - s.f BXL_STATUS_EPOCH) % 2 ^ 16 ∨
            (fld m.body 0 2 + 2 ^ 16 - s.f BXL_STATUS_EPOCH) % 2 ^ 16 = 0 →
          ∃ t : State, exec (.roster m) s = .next t ∧ s.acked t m cOK ∧ t.bxl.roster = s.bxl.roster ∧ s.keeps t []) ∧
        (0 < (fld m.body 0 2 + 2 ^ 16 - s.f BXL_STATUS_EPOCH) % 2 ^ 16 →
          (fld m.body 0 2 + 2 ^ 16 - s.f BXL_STATUS_EPOCH) % 2 ^ 16 < 2 ^ 15 → s.on BXL_GUEST_HAS_BUDDY = false →
          s.bxl.waiting = [] →
          ∃ t : State, exec (.roster m) s = .next t ∧ t.answer = cOK ∧ t.f BXL_STATUS_EPOCH = fld m.body 0 2 ∧
            t.bxl.roster = rosterOf m.body)) ∧
      (s.serves iGOB = true →
        (fld m.body 0 8 < s.now + 16 →
          ∃ t : State, exec (.snapMessage m) s = .next t ∧ s.acked t m cTOO_LATE ∧ t.gob = s.gob ∧
            t.f GOB_STAT_MISSED_COUNT = satInc 32 (s.f GOB_STAT_MISSED_COUNT) % 2 ^ 32) ∧
        (s.now + 16 ≤ fld m.body 0 8 →
          ∃ t : State, ∃ x : StackReq, exec (.snapMessage m) s = .next t ∧ s.acked t m cOK ∧ t.gob.stack = s.gob.stack ++ [x] ∧
            s.within t iGOB)) ∧
      (s.on BXL_STATUS_CAPTAIN = true → ∃ t : State, exec (.timecfg m) s = .next t ∧ s.acked t m cOK ∧ s.keeps t []) ∧
      (s.on BXL_STATUS_CAPTAIN = false →
        ∃ t : State, exec (.timecfg m) s = .next t ∧ s.acked t m cOK ∧ t.f TIM_GPS_OFFSET_TICKS = fld m.body 0 8 ∧
          t.f TIM_LEAP_CUR = fld m.body 8 1 ∧ t.f TIM_LEAP_AT_SECONDS = fld m.body 12 8 ∧ s.within t iTIM) ∧
      (s.on BXL_STATUS_CAPTAIN = false ∨ s.liveAt m.src = false →
        ∃ t : State, exec (.leaveReq m) s = .next t ∧ s.acked t m cOK ∧ t.bxl.roster = s.bxl.roster ∧ s.keeps t []) ∧
      (s.on BXL_STATUS_CAPTAIN = true → s.liveAt m.src = true → m.src < 16 → m.src ≠ s.pos' → s.eastOf m.src ≠ s.westOf m.src →
        (s.eastOf m.src).isSome = true → (s.westOf m.src).isSome = true → s.on BXL_GUEST_HAS_BUDDY = false →
        s.bxl.waiting = [] →
        ∃ t : State, exec (.leaveReq m) s = .next t ∧ t.answer = cOK ∧ (t.ros m.src).st = 3 ∧ m.src ∈ t.bxl.leaving ∧
          t.f BXL_STATUS_EPOCH = wrapInc 16 (s.f BXL_STATUS_EPOCH)) ∧
      (s.on BXL_STATUS_CAPTAIN = false →
        ∃ t : State, exec (.handoverDone m) s = .next t ∧ s.acked t m cOK ∧ t.bxl.roster = s.bxl.roster ∧ s.keeps t []) ∧
      (s.on BXL_STATUS_CAPTAIN = true → s.liveAt m.src = true → m.src < 16 → s.bxl.newcomer = none → s.bxl.leaving = [] →
        s.on BXL_GUEST_HAS_BUDDY = false → s.bxl.waiting = [] →
        ∃ t : State, exec (.handoverDone m) s = .next t ∧ t.answer = cOK ∧ (t.ros m.src).buddy = fld m.body 1 1 ∧
          t.f BXL_STATUS_EPOCH = wrapInc 16 (s.f BXL_STATUS_EPOCH))) ∧
    (∀ m : BxlMsg, s.bxlUp = true → m.dst = s.pos' →
      (s.on BXL_STATUS_CAPTAIN = false ∨ s.bxl.newcomer.isSome = true →
        exec (.controlJoinReq m) s = .next s) ∧
      (s.on BXL_STATUS_CAPTAIN = true → s.bxl.newcomer = none → fld (m.body.drop 4) 32 4 ≠ s.f UPD_VERSION_ENGINE →
        ∃ t : State, exec (.controlJoinReq m) s = .next t ∧ t.bxl = s.bxl ∧ s.keeps t []) ∧
      (∀ p : Nat, s.on BXL_STATUS_CAPTAIN = true → s.bxl.newcomer = none → fld (m.body.drop 4) 32 4 = s.f UPD_VERSION_ENGINE →
        s.tossFits (m.body.drop 4) = true → firstIdx 16 s.positionFree = some p → s.on BXL_GUEST_HAS_BUDDY = false →
        s.bxl.waiting = [] →
        ∃ t : State, exec (.controlJoinReq m) s = .next t ∧ (t.ros p).st = 2 ∧
          (t.ros p).unit = fld (m.body.drop 4) 8 16 ∧ t.bxl.newcomer.map Prod.fst = some p ∧
          t.f BXL_STATUS_EPOCH = wrapInc 16 (s.f BXL_STATUS_EPOCH)))

/-! ### Playbook update (chapter 14) -/

/-- R502, R510, R511, R512, R513, R514, R516, R517, R518, R519, R520: each command of a module that is alone is taken in the states that allow
it and ends with BUSY in the others. BEGIN opens a download, WRITE_BLOCK takes the next block and its end stores it, VERIFY
ends READY or IDLE with the status of the check that failed, ACTIVATE begins the swap, whose phases copy a sector each to
its end in SWAPPED, RESTART resets the module, CONFIRM and REJECT settle the trial, as its timeout does. Confirming makes the
shadow settings active and programs OTP; reverting ends in IDLE. Only the sector written and the journal change. -/
def Obligations.PlaybookUpdate : Prop :=
  ∀ (s : State) (req : Nat) (cmd : List RF), cmd = [UPD_CMD_OP, UPD_CMD_REASON, UPD_CMD_BUSY, UPD_CMD_STATUS,
    ISL_PSTATE_STATE iUPD] →
    (s.serves iUPD = true → s.on UPD_CMD_BUSY = true → ∀ i : Instr, (i = .begin req ∨ i = .abandon req ∨ i = .confirm req) →
      ∃ t : State, exec i s = .next t ∧ t.answer = cBUSY ∧ t.upd = s.upd ∧
        s.keeps t (ISL_PSTATE_STATE iUPD :: refuseRegs iUPD)) ∧
    (s.serves iUPD = true → s.on UPD_CMD_BUSY = false → s.inStack = false →
      (s.updSt ∈ [0, 1, 2, 4] →
        ∃ t : State, exec (.begin req) s = .next t ∧ t.answer = cOK ∧ t.f UPD_CMD_STATUS = cOK ∧ t.updSt = 1 ∧
          t.f UPD_STATUS_DL_NEXT = 0 ∧ t.upd.pieces = [] ∧ s.outside t updArea ∧
          s.alters t (UPD_STATUS_STATE :: UPD_STATUS_DL_NEXT :: cmd)) ∧
      (s.updSt ∈ [1, 2, 4] →
        ∃ t : State, exec (.abandon req) s = .next t ∧ t.answer = cOK ∧ t.f UPD_CMD_STATUS = cOK ∧ t.updSt = 0 ∧
          t.f UPD_STATUS_DL_NEXT = 0 ∧ s.outside t updArea ∧ s.alters t (UPD_STATUS_STATE :: UPD_STATUS_DL_NEXT :: cmd)) ∧
      (s.updSt = 1 → s.upd.writing = none → blockIn (s.f UPD_BLOCK_SRC_ADDR * 64) 65536 false = true →
        ∀ i src : Nat, i = s.f UPD_BLOCK_IDX_INDEX → src = s.f UPD_BLOCK_SRC_ADDR * 64 →
        (s.blockCheck i (s.rdBytes src 16) = cOK →
          ∃ t : State, exec (.writeBlock req) s = .next t ∧ t.answer = cOK ∧ t.on UPD_CMD_BUSY = true ∧
            t.upd = { s.upd with writing := some (i, s.rdBytes src 65536, true) } ∧ s.keeps t cmd) ∧
        (s.blockCheck i (s.rdBytes src 16) ≠ cOK →
          ∃ t : State, exec (.writeBlock req) s = .next t ∧ t.answer = cOK ∧ t.upd = s.upd ∧
            t.f UPD_CMD_STATUS = s.blockCheck i (s.rdBytes src 16) ∧ s.keeps t cmd)) ∧
      (s.updSt = 2 →
        ∃ t : State, exec (.verify req) s = .next t ∧ t.answer = cOK ∧ t.on UPD_CMD_BUSY = true ∧ t.updSt = 3 ∧
          s.outside t updArea ∧ s.alters t (UPD_STATUS_STATE :: cmd)) ∧
      (s.updSt = 4 →
        ∃ t : State, exec (.activate req) s = .next t ∧ t.answer = cOK ∧ t.f UPD_CMD_STATUS = cOK ∧ t.updSt = 6 ∧
          t.f UPD_PROGRESS_SECTOR = 0 ∧ t.f UPD_PROGRESS_PHASE = 0 ∧
          t.f UPD_PROGRESS_SWAP_COUNT = max s.upd.newBlocks (s.blocksAt aImage) % 2 ^ 11 ∧ s.outside t updArea ∧
          s.alters t ([UPD_STATUS_STATE, UPD_TXN_TXN, UPD_PROGRESS_SECTOR, UPD_PROGRESS_PHASE, UPD_PROGRESS_SWAP_COUNT] ++
            cmd)) ∧
      (s.updSt = 7 → ∃ t : State, exec (.restart req) s = .next t ∧ s.wasReset t 5) ∧
      (s.updSt = 8 →
        (∃ t : State, exec (.confirm req) s = .next t ∧ t.answer = cOK ∧ t.f UPD_CMD_STATUS = cOK ∧ t.updSt = 9 ∧
          s.outside t updArea ∧ s.alters t ([UPD_STATUS_STATE, UPD_PROGRESS_SECTOR] ++ cmd)) ∧
        ∀ r : Nat, (r < 256 → 0 < r →
            ∃ t : State, exec (.reject req r) s = .next t ∧ t.answer = cOK ∧ t.f UPD_CMD_STATUS = cOK ∧ t.updSt = 10 ∧
              t.f UPD_STATUS_LAST_STATUS = r ∧ s.outside t updArea) ∧
          (r = 0 → ∃ t : State, exec (.reject req r) s = .next t ∧ t.f UPD_CMD_STATUS = cRANGE ∧ t.upd = s.upd ∧
            s.keeps t cmd)) ∧
      ∀ i : Instr, ((i = .begin req ∨ i = .abandon req) ∧ s.updSt ∈ [3, 5, 6, 7, 8, 9, 10]) ∨ (i = .writeBlock req ∧
        s.updSt ≠ 1) ∨
          (i = .verify req ∧ s.updSt ≠ 2) ∨ (i = .activate req ∧ s.updSt ≠ 4) ∨ (i = .restart req ∧ s.updSt ≠ 7) ∨
          (i = .confirm req ∧ s.updSt ≠ 8) ∨ i = .distribute req →
        ∃ t : State, exec i s = .next t ∧ t.answer = cOK ∧ t.f UPD_CMD_STATUS = cBUSY ∧ t.upd = s.upd ∧ s.keeps t cmd) ∧
    (s.serves iUPD = true → s.on UPD_CMD_BUSY = false → s.inStack = true → s.on BXL_STATUS_CAPTAIN = true →
      (s.updSt = 2 ∨ s.updSt = 4) → (∃ p < 16, (s.ros p).st = 1 ∧ p ≠ s.pos') →
      ∃ t : State, exec (.distribute req) s = .next t ∧ t.answer = cOK ∧ t.on UPD_CMD_BUSY = true ∧ s.keeps t cmd ∧
        ∀ p < 16, (s.ros p).st = 1 → p ≠ s.pos' →
          (t.pair p).unacked.length = (s.pair p).unacked.length + 66 * s.upd.newBlocks) ∧
    (∀ (i : Nat) (bs : List Byte), s.upd.writing = some (i, bs, true) → bs.length = 65536 → 0 < i → i < 2047 →
      (∀ k : Nat, k < 4 →
        ∃ t : State, exec (.writeBlockDone k) s = .next t ∧ t.rdBytes (aStaging + i * 65536) 65536 = bs ∧ t.upd.writing = none ∧
          t.f UPD_STATUS_DL_NEXT = i + 1 ∧ t.f UPD_CMD_STATUS = cOK ∧ t.on UPD_CMD_BUSY = false ∧
          t.updSt = (if i + 1 = s.upd.newBlocks then 2 else s.updSt) ∧
          s.outside t ((aStaging + i * 65536, 65536) :: updArea) ∧
          s.alters t [UPD_STATUS_STATE, UPD_STATUS_DL_NEXT, UPD_CMD_BUSY, UPD_CMD_STATUS]) ∧
      (∀ k : Nat, 4 ≤ k →
        ∃ t : State, exec (.writeBlockDone k) s = .next t ∧ t.f UPD_CMD_STATUS = cINTEGRITY ∧ t.upd.writing = none ∧
          t.f UPD_STATUS_DL_NEXT = s.f UPD_STATUS_DL_NEXT ∧
          s.alters t [UPD_CMD_BUSY, UPD_CMD_STATUS, SCB_DROPPED_COUNT])) ∧
    (s.upd.writing = none → ∀ k : Nat, exec (.writeBlockDone k) s = .next s) ∧
    (s.updSt = 3 → s.on UPD_CMD_BUSY = true → s.f UPD_CMD_OP = 3 → ∀ c : Nat, c = s.verifyCheck aStaging s.pos' →
      ∃ t : State, exec .verifyDone s = .next t ∧ t.f UPD_CMD_STATUS = c ∧ t.on UPD_CMD_BUSY = false ∧
        t.updSt = (if c = cOK then 4 else 0) ∧ (c ≠ cOK → t.f UPD_STATUS_LAST_STATUS = c) ∧ s.outside t updArea ∧
        s.alters t [UPD_STATUS_STATE, UPD_STATUS_DL_NEXT, UPD_STATUS_LAST_STATUS, UPD_CMD_BUSY, UPD_CMD_STATUS]) ∧
    (s.updSt ≠ 3 → exec .verifyDone s = .next s) ∧
    (∀ i n : Nat, i = s.f UPD_PROGRESS_SECTOR → n = s.f UPD_PROGRESS_SWAP_COUNT → i < n → n < 2 ^ 11 → s.upd.halted = false →
      s.updSt = 6 ∨ s.updSt = 10 → s.updFlag 0 = false → ∀ ph src dst : Nat, ph = s.f UPD_PROGRESS_PHASE →
      (ph, src, dst) ∈ [(0, aImage + i * 65536, aScratch + i % 64 * 65536), (1, aStaging + i * 65536, aImage + i * 65536),
        (2, aScratch + i % 64 * 65536, aStaging + i * 65536)] →
      (∀ k : Nat, k < 4 →
        ∃ t : State, exec (.swapPhaseDone k) s = .next t ∧ t.rdBytes dst 65536 = s.rdBytes src 65536 ∧
          t.f UPD_PROGRESS_PHASE = (ph + 1) % 3 ∧ t.f UPD_PROGRESS_SECTOR = (if ph = 2 then i + 1 else i) ∧
          t.updSt = (if s.updSt = 6 ∧ ph = 2 ∧ i + 1 = n then 7 else s.updSt) ∧ s.outside t ((dst, 65536) :: updArea) ∧
          s.alters t [UPD_STATUS_STATE, UPD_PROGRESS_PHASE, UPD_PROGRESS_SECTOR]) ∧
      (∀ k : Nat, 4 ≤ k →
        ∃ t : State, exec (.swapPhaseDone k) s = .next t ∧ t.f UPD_STATUS_LAST_STATUS = cINTEGRITY ∧ t.upd.halted = true ∧
          s.alters t [UPD_STATUS_LAST_STATUS, SCB_DROPPED_COUNT])) ∧
    (s.upd.halted = true → ∀ k : Nat, exec (.swapPhaseDone k) s = .next s) ∧
    (s.updSt = 8 → s.f UPD_TRIAL_TRIAL_S ≤ s.upd.elapsed → s.inStack = false →
      ∃ t : State, exec .trialTimeout s = .next t ∧ t.updSt = 10 ∧ t.f UPD_STATUS_LAST_STATUS = cTIMEOUT ∧ t.upd.trial = false ∧
        s.outside t updArea) ∧
    (s.updSt ≠ 8 ∨ s.upd.elapsed < s.f UPD_TRIAL_TRIAL_S → exec .trialTimeout s = .next s) ∧
    (s.updSt = 9 → s.memc.failA = false → s.memc.failB = false →
      ∃ t : State, exec .confirming s = .next t ∧ t.updSt = 2 ∧
        t.rdBytes 0x0400620000 0x80000 = s.rdBytes 0x0400A60000 0x80000 ∧
        t.f UPD_OTP_ROLLBACK = max (s.f UPD_OTP_ROLLBACK) (s.rd (aImage + 32) 1) % 2 ^ 7 ∧
        t.f UPD_OTP_REVOKED = (s.f UPD_OTP_REVOKED ||| s.rd (aImage + 34) 1 % 16) % 2 ^ 4 ∧
        t.f UPD_STATUS_DL_NEXT = s.upd.oldBlocks % 2 ^ 11 ∧ t.f UPD_STATUS_LAST_STATUS = cOK ∧
        s.outside t ((0x0400620000, 0x80000) :: updArea)) ∧
    (s.updSt ≠ 9 → exec .confirming s = .next s) ∧
    (s.updSt = 10 → s.upd.halted = false → s.f UPD_PROGRESS_SWAP_COUNT ≤ s.f UPD_PROGRESS_SECTOR →
      (s.f SYS_BOOT_PHASE = 2 →
        ∃ t : State, exec .reverting s = .next t ∧ t.updSt = 0 ∧ s.outside t updArea ∧
          s.alters t [UPD_STATUS_STATE, UPD_STATUS_DL_NEXT]) ∧
      (s.f SYS_BOOT_PHASE ≠ 2 → ∃ t : State, exec .reverting s = .next t ∧ t.boot.held = true ∧
        t.f SYS_RESET_CAUSE_CAUSE = 2 ^ 5 ∧
        t.latched = true ∧ t.pending = s.pending)) ∧
    (s.updSt ≠ 10 → exec .reverting s = .next s)

/-- R520, R521, R522, R523, R524: pieces of a block are gathered in order, a block that is held answers DUPLICATE, and the last
piece BUSY until it is written. PREPARE makes a member vote, and OK leaves it in PREPARED until DECIDE, for which it asks
after 100 ms. The Captain gathers votes,
  swaps and healthy members and answers ASK with the decision it knows. RESTART names the time at which every member
resets. VERDICT settles the trial. RECORD is kept. -/
def Obligations.StackUpdate : Prop :=
  ∀ s : State,
    (∀ m : BxlMsg, s.hears m → ∀ txn : Nat, txn = fld m.body 4 4 →
      (s.updSt ∈ [0, 1, 2, 4] → fld m.body 2 2 = 0 → fld m.body 8 1 = 0 → s.upd.writing = none →
        ∃ t : State, exec (.updateBlock m) s = .next t ∧ s.acked t m cOK ∧ t.updSt = 1 ∧ t.f UPD_STATUS_DL_NEXT = 0 ∧
          t.upd.pieces = m.body.drop 16 ∧ s.outside t updArea ∧ s.alters t [UPD_STATUS_STATE, UPD_STATUS_DL_NEXT]) ∧
      (s.updSt = 1 → fld m.body 2 2 < s.f UPD_STATUS_DL_NEXT → 0 < fld m.body 2 2 →
        ∃ t : State, exec (.updateBlock m) s = .next t ∧ s.acked t m cDUPLICATE ∧ t.upd = s.upd ∧ s.keeps t []) ∧
      (s.updSt = 1 → s.f UPD_STATUS_DL_NEXT ≤ fld m.body 2 2 → s.upd.writing = none → 0 < fld m.body 8 1 →
        (s.upd.pieces.length ≠ fld m.body 8 1 * 1008 →
          ∃ t : State, exec (.updateBlock m) s = .next t ∧ s.acked t m cINTEGRITY ∧ t.upd = s.upd ∧ s.keeps t []) ∧
        (s.upd.pieces.length = fld m.body 8 1 * 1008 → fld m.body 8 1 < 65 →
          ∃ t : State, exec (.updateBlock m) s = .next t ∧ s.acked t m cOK ∧
            t.upd = { s.upd with pieces := s.upd.pieces ++ m.body.drop 16 } ∧ s.keeps t []) ∧
        (s.upd.pieces.length = fld m.body 8 1 * 1008 → fld m.body 8 1 = 65 → fld m.body 2 2 = s.f UPD_STATUS_DL_NEXT →
          0 < fld m.body 2 2 → fld m.body 2 2 < s.upd.newBlocks →
          ∃ t : State, exec (.updateBlock m) s = .next t ∧ t.answer = cBUSY ∧
            (t.pair m.src).accepted = (s.pair m.src).accepted ∧
            t.upd = { s.upd with writing := some (fld m.body 2 2, (s.upd.pieces ++ m.body.drop 16).take 65536, false) } ∧
            s.keeps t [])) ∧
      (s.updSt = 4 → (m.body.drop 16).take 48 = s.upd.digest → partsFor (s.rdBytes aStaging 4096) s.pos' = true →
        ∃ t : State, ∃ x : BxlPend, exec (.updatePrepare m) s = .next t ∧ t.answer = cOK ∧ t.updSt = 5 ∧ t.f UPD_TXN_TXN = txn ∧
          (t.pair m.src).unacked = (s.pair m.src).unacked ++ [x] ∧ x.msg.kind = 9 ∧ fld x.msg.body 0 1 = 3 ∧
          fld x.msg.body 1 1 = cOK ∧ s.outside t updArea ∧ s.alters t [UPD_STATUS_STATE, UPD_TXN_TXN]) ∧
      (s.updSt ≠ 4 →
        ∃ t : State, ∃ x : BxlPend, exec (.updatePrepare m) s = .next t ∧ t.answer = cOK ∧ t.upd = s.upd ∧
          (t.pair m.src).unacked = (s.pair m.src).unacked ++ [x] ∧ fld x.msg.body 0 1 = 3 ∧ fld x.msg.body 1 1 = cBUSY ∧
          s.keeps t []) ∧
      (txn = s.f UPD_TXN_TXN → s.upd.waiting.contains m.src = true → s.upd.waiting.filter (· != m.src) ≠ [] →
        ∃ t : State, exec (.updateVote m) s = .next t ∧ s.acked t m cOK ∧ t.upd = { s.upd with
          waiting := s.upd.waiting.filter (· != m.src)
          vote := if s.upd.vote = cOK then fld m.body 1 1 else s.upd.vote } ∧ s.keeps t []) ∧
      (txn ≠ s.f UPD_TXN_TXN →
        ∀ i : Instr, (i = .updateVote m ∨ i = .updateDecide m ∨ i = .updateSwapped m ∨ i = .updateRestart m ∨
          i = .healthy m ∨ i = .unhealthy m ∨ i = .verdict m) →
        ∃ t : State, exec i s = .next t ∧ s.acked t m cOK ∧ t.upd = s.upd ∧ s.keeps t []) ∧
      (txn = s.f UPD_TXN_TXN → s.updSt = 5 →
        ∃ t : State, exec (.updateDecide m) s = .next t ∧ s.acked t m cOK ∧ t.updSt = (if fld m.body 1 1 = cOK then 6 else 4) ∧
          s.outside t updArea ∧ s.alters t [UPD_STATUS_STATE, UPD_PROGRESS_SECTOR, UPD_PROGRESS_PHASE,
            UPD_PROGRESS_SWAP_COUNT]) ∧
      (txn = s.f UPD_TXN_TXN →
        (∃ t : State, exec (.updateSwapped m) s = .next t ∧ s.acked t m cOK ∧
          t.upd = { s.upd with swapped := m.src :: s.upd.swapped.filter (· != m.src) } ∧ s.keeps t []) ∧
        (s.updSt = 7 → ∃ t : State, exec (.updateRestart m) s = .next t ∧ s.acked t m cOK ∧
          t.upd = { s.upd with restartAt := some (fld m.body 16 8) } ∧ s.keeps t []) ∧
        (s.on BXL_STATUS_CAPTAIN = false → ∃ t : State, exec (.healthy m) s = .next t ∧ s.acked t m cOK ∧
          t.upd = { s.upd with healthy := m.src :: s.upd.healthy.filter (· != m.src) } ∧ s.keeps t []) ∧
        (s.on BXL_STATUS_CAPTAIN = true → s.updSt = 8 → s.upd.recording = none → s.inStack = true →
          s.on BXL_GUEST_HAS_BUDDY = false →
          ∃ t : State, exec (.unhealthy m) s = .next t ∧ s.acked t m cOK ∧
            t.upd = { s.upd with vote := fld m.body 1 1, recording := some (txn, 9, cCANCELLED) } ∧ s.keeps t []) ∧
        (s.updSt = 8 → ∃ t : State, exec (.verdict m) s = .next t ∧ s.acked t m cOK ∧ t.upd.trial = false ∧
          t.updSt = (if fld m.body 1 1 = cOK then 9 else 10) ∧
          (fld m.body 1 1 ≠ cOK → t.f UPD_STATUS_LAST_STATUS = cCANCELLED) ∧ s.outside t updArea)) ∧
      (s.on BXL_STATUS_CAPTAIN = true → fld m.body 16 1 = 5 → ∀ st : Nat, s.updKnown txn 4 = some st →
        ∃ t : State, ∃ x : BxlPend, exec (.updateAsk m) s = .next t ∧ t.answer = cOK ∧ t.upd = s.upd ∧
          (t.pair m.src).unacked = (s.pair m.src).unacked ++ [x] ∧ fld x.msg.body 0 1 = 4 ∧
          fld x.msg.body 1 1 = st % 256 ∧ fld x.msg.body 4 4 = txn ∧ s.keeps t []) ∧
      (s.on BXL_STATUS_CAPTAIN = true → fld m.body 16 1 = 5 → s.updKnown txn 4 = none → txn ≠ s.f UPD_TXN_TXN →
        ∃ t : State, ∃ x : BxlPend, exec (.updateAsk m) s = .next t ∧ t.answer = cOK ∧ t.updKnown txn 4 = some cCANCELLED ∧
          (t.pair m.src).unacked = (s.pair m.src).unacked ++ [x] ∧ fld x.msg.body 1 1 = cCANCELLED ∧ s.keeps t []) ∧
      (s.on BXL_STATUS_CAPTAIN = false → ∃ t : State, exec (.updateAsk m) s = .next t ∧ s.acked t m cOK ∧ t.upd = s.upd ∧
        s.keeps t []) ∧
      ∃ t : State, exec (.updateRecord m) s = .next t ∧ s.acked t m cOK ∧
        t.updKnown txn (fld m.body 16 1) = some (fld m.body 17 1) ∧
        s.keeps t []) ∧
    (∀ T : Nat, s.upd.restartAt = some T →
      (T ≤ s.now → ∃ t : State, exec .updateRestartTime s = .next t ∧ s.wasReset t 5) ∧
      (s.now < T → exec .updateRestartTime s = .next s)) ∧
    (s.upd.restartAt = none → exec .updateRestartTime s = .next s) ∧
    (s.updSt = 5 → s.upd.since + 10000000 ≤ s.tim.edges → s.inStack = true →
      ∃ t : State, ∃ x : BxlPend, exec .decideTimeout s = .next t ∧ t.upd = { s.upd with since := s.tim.edges } ∧
        (t.pair (s.f BXL_STATUS_CAPTAIN_POS)).unacked = (s.pair (s.f BXL_STATUS_CAPTAIN_POS)).unacked ++ [x] ∧
        fld x.msg.body 0 1 = 0x0A ∧ s.keeps t []) ∧
    (s.updSt ≠ 5 ∨ s.tim.edges < s.upd.since + 10000000 → exec .decideTimeout s = .next s)

/-! ### The Scorebook, self-test (chapter 15) -/

/-- R545, R546, R547, R549, R550, R551, R552, R553: a software record whose image is right is staged with its body and the time it came, and
refused with LENGTH, RANGE or BUSY otherwise. A record that is read back as written stands at WR with its MARK, and WR, its
SEQ and the next staged event go on; one that is not moves SCB to the reserve, where LOG_FAULT goes first, and a second
failure sets LOGFAIL and loses what waits. OPEN, CLOSE and ADVANCE move one bookmark; CLEAR leaves every record behind and
writes CLEARED; SEND copies a record as an item; MAIN goes on in the main ring. LOGFAIL refuses the last three. -/
def Obligations.Scorebook : Prop :=
  ∀ (s : State) (reg : Nat), reg = s.f SCB_STATUS_REGION →
    (∀ tk : Token, s.serves iSCB = true → tk.dest = ep iSCB 1 → tk.stamp = none → tk.task = none → bits tk.tag 31 26 = 0 →
      bits tk.tag 22 0 = 0 → tk.data < 2 ^ 40 → tk.data % 8 = 0 → blockIn tk.data 24 true = true →
      ∀ n typ : Nat, n = s.rd tk.data 2 → typ = s.rd (tk.data + 2) 2 →
      (n ≤ 1024 → 24 ≤ n → n % 8 = 0 → 0x8000 ≤ typ → blockIn tk.data n true = true → s.on SCB_STATUS_LOGFAIL = false →
        (s.scb.writing = none → s.scb.first = [] → s.boot.restored = true →
          ∃ t : State, exec (.scbSoftwareRecord tk) s = .next t ∧ t.answer = cOK ∧ s.keeps t [ISL_PSTATE_STATE iSCB] ∧
            t.scb = { s.scb with writing := t.scb.writing } ∧ t.scb.writing =
              some ⟨typ, s.now, s.rd (tk.data + 16) 1, true, s.rdBytes (tk.data + 24) (n - 24)⟩) ∧
        (s.scb.writing.isSome = true → 64 ≤ s.scb.staged.length →
          ∃ t : State, exec (.scbSoftwareRecord tk) s = .next t ∧ t.answer = cBUSY ∧ t.scb.staged = s.scb.staged ∧
            t.scb.dropCount = s.scb.dropCount + 1 ∧ t.scb.dropLast = s.now ∧
            t.f SCB_DROPPED_COUNT = satInc 32 (s.f SCB_DROPPED_COUNT) % 2 ^ 32 ∧
            s.keeps t [ISL_PSTATE_STATE iSCB, SCB_DROPPED_COUNT])) ∧
      (1024 < n ∨ n < 24 ∨ n % 8 ≠ 0 ∨ typ < 0x8000 →
        ∃ t : State, exec (.scbSoftwareRecord tk) s = .next t ∧ t.answer = (if 1024 < n then cLENGTH else cRANGE) ∧
          t.scb = s.scb ∧
          s.keeps t [ISL_PSTATE_STATE iSCB])) ∧
    (∀ (r : ScbRec) (n off : Nat), s.scb.writing = some r → s.scb.main = false → s.scb.wait = none → n = 24 + r.body.length →
      off = s.f SCB_WR_OFFSET → 0x100 ≤ off → off + n ≤ scbSize reg → s.scbFailed reg = false →
      s.on SCB_STATUS_LOGFAIL = false → s.scb.dropCount = 0 → s.scb.first = [] →
      (∀ e ∈ s.scb.live, e.off + e.len ≤ off ∨ off + n ≤ e.off) →
      ∃ t : State, exec (.scbRecordWritten false) s = .next t ∧
        t.rdBytes (scbBase reg + off) n = scbBytes r (s.f SCB_WR_SEQ) (s.f BXL_STATUS_POSITION) ∧
        t.f SCB_WR_SEQ = wrapInc 32 (s.f SCB_WR_SEQ) ∧
        t.f SCB_WR_OFFSET = (if off + n = scbSize reg then 0x100 else off + n) ∧
        t.scb.live = s.scb.live ++ [⟨s.f SCB_WR_SEQ, off, n⟩] ∧ t.scb.writing = s.scb.staged.head? ∧
        t.scb.staged = s.scb.staged.tail ∧ s.outside t [(scbBase reg, 0x100), (scbBase reg + off, n)] ∧
        s.alters t ([SCB_WR_SEQ, SCB_WR_OFFSET, SCB_OLDEST_SEQ, SCB_OLDEST_OFFSET] ++
          (List.range 8).flatMap (fun k => [SCB_BMk_POS_SEQ k, SCB_BMk_POS_OFFSET k]))) ∧
    (∀ r : ScbRec, s.scb.writing = some r → s.scb.main = false →
      (reg = 0 →
        ∃ t : State, exec (.scbRecordWritten true) s = .next t ∧ t.f SCB_STATUS_REGION = 1 ∧ t.scb.staged = s.scb.staged ∧
          t.scb.first = r :: s.scb.first ∧ t.mem = s.mem ∧ t.eng = s.eng ∧
          t.scb.writing = some ⟨0x0402, s.now, cLOGFAIL, false, leBytes 8 0 ++ leBytes 8 (s.f SCB_WR_OFFSET)⟩ ∧
          ∀ k < 8, s.on (SCB_BMk_POS_OPEN k) = true → t.on (SCB_BMk_STAT_OVERRUN k) = true) ∧
      (reg ≠ 0 → s.scb.wait = none → s.scb.send = none →
        ∃ t : State, exec (.scbRecordWritten true) s = .next t ∧ t.on SCB_STATUS_LOGFAIL = true ∧ t.scb.writing = none ∧
          t.scb.first = [] ∧ t.scb.staged = [] ∧ t.cell.valid = true ∧ t.cell.kind = 2 ∧ t.cell.isl = iSCB ∧
          t.cell.status = cLOGFAIL ∧ t.cell.dropped = min (1 + s.scb.first.length + s.scb.staged.length) (2 ^ 32 - 1) ∧
          s.keeps t [SCB_STATUS_LOGFAIL])) ∧
    (s.scb.writing = none → ∀ d : Bool, exec (.scbRecordWritten d) s = .next s) ∧
    (∀ (i : ScbIn) (req v k c : Nat), (i = .write req v ∨ ∃ tk : Token, i = .token tk ∧ tk.src = req ∧ tk.data = v ∧
        tk.dest = ep iSCB 0 ∧ tk.tag = 0 ∧ tk.stamp = none ∧ tk.task = none) → s.serves iSCB = true → k < 8 → c < 256 →
      ∀ l : List RF, l = [ISL_PSTATE_STATE iSCB, SCB_CMD_STATUS_BUSY, SCB_CMD_STATUS_STATUS] →
      (s.on SCB_CMD_STATUS_BUSY = true →
        ∀ x : Instr, (x = .openBookmark i ∨ x = .closeBookmark i ∨ x = .advanceBookmark i ∨ x = .clearRecords i ∨
          x = .sendRecords i ∨ x = .mainRing i) →
        ∃ t : State, exec x s = .next t ∧ t.answer = cBUSY ∧ t.scb = s.scb ∧
          s.keeps t (ISL_PSTATE_STATE iSCB :: refuseRegs iSCB)) ∧
      (s.on SCB_CMD_STATUS_BUSY = false →
        (∀ new : Nat, new < 2 → v = k * 16 + new * 128 → s.on (SCB_BMk_POS_OPEN k) = false →
          ∃ t : State, exec (.openBookmark i) s = .next t ∧ t.f SCB_CMD_STATUS_STATUS = cOK ∧ t.answer = cOK ∧
            t.on (SCB_BMk_POS_OPEN k) = true ∧
            t.f (SCB_BMk_POS_SEQ k) = (if new = 1 then s.f SCB_WR_SEQ else s.f SCB_OLDEST_SEQ) % 2 ^ 32 ∧
            t.f (SCB_BMk_POS_OFFSET k) = (if new = 1 then s.f SCB_WR_OFFSET else s.f SCB_OLDEST_OFFSET) % 2 ^ 24 ∧
            t.f (SCB_BMk_STAT_OVERRUN k) = 0 ∧ t.f (SCB_BMk_STAT_LOST k) = 0 ∧ t.scb = s.scb ∧
            s.outside t [(scbBase reg + 0x80, 128)] ∧
            s.alters t ([SCB_BMk_POS_OPEN k, SCB_BMk_POS_SEQ k, SCB_BMk_POS_OFFSET k, SCB_BMk_STAT_OVERRUN k,
              SCB_BMk_STAT_LOST k] ++ l)) ∧
        (v = k * 16 → s.on (SCB_BMk_POS_OPEN k) = true →
          (∃ t : State, exec (.openBookmark i) s = .next t ∧ t.f SCB_CMD_STATUS_STATUS = cBUSY ∧ t.scb = s.scb ∧ s.keeps t l) ∧
          ∃ t : State, exec (.closeBookmark i) s = .next t ∧ t.f SCB_CMD_STATUS_STATUS = cOK ∧ t.answer = cOK ∧
            t.on (SCB_BMk_POS_OPEN k) = false ∧ t.scb = s.scb ∧ s.outside t [(scbBase reg + 0x80, 128)] ∧
            s.alters t (SCB_BMk_POS_OPEN k :: l)) ∧
        (v = k * 16 + c * 256 → s.on (SCB_BMk_POS_OPEN k) = true → s.on (SCB_BMk_STAT_OVERRUN k) = false →
          (c ≤ (s.f SCB_WR_SEQ + 2 ^ 32 - s.f (SCB_BMk_POS_SEQ k)) % 2 ^ 32 →
            ∃ t : State, exec (.advanceBookmark i) s = .next t ∧ t.f SCB_CMD_STATUS_STATUS = cOK ∧ t.answer = cOK ∧
              t.f (SCB_BMk_POS_SEQ k) = (s.f (SCB_BMk_POS_SEQ k) + c) % 2 ^ 32 ∧ t.scb = s.scb ∧
              s.outside t [(scbBase reg + 0x80, 128)] ∧ s.alters t (SCB_BMk_POS_SEQ k :: SCB_BMk_POS_OFFSET k :: l)) ∧
          ((s.f SCB_WR_SEQ + 2 ^ 32 - s.f (SCB_BMk_POS_SEQ k)) % 2 ^ 32 < c →
            ∃ t : State, exec (.advanceBookmark i) s = .next t ∧ t.f SCB_CMD_STATUS_STATUS = cRANGE ∧ t.scb = s.scb ∧
              s.keeps t l)) ∧
        (v = k * 16 + c * 256 → s.on (SCB_BMk_POS_OPEN k) = true → s.on (SCB_BMk_STAT_OVERRUN k) = true →
          s.on SCB_STATUS_LOGFAIL = false → s.pos' ≠ 0 → ∀ x : Instr, (x = .advanceBookmark i ∨ x = .sendRecords i) →
          ∃ t : State, exec x s = .next t ∧ t.f SCB_CMD_STATUS_STATUS = cOVERRUN ∧ t.scb = s.scb ∧ s.keeps t l) ∧
        (v = k * 16 + c * 256 → s.on (SCB_BMk_POS_OPEN k) = false → s.on SCB_STATUS_LOGFAIL = false → s.pos' ≠ 0 →
          ∀ x : Instr, (x = .closeBookmark i ∨ x = .advanceBookmark i ∨ x = .sendRecords i) →
          ∃ t : State, exec x s = .next t ∧ t.f SCB_CMD_STATUS_STATUS = cNOT_FOUND ∧ t.scb = s.scb ∧ s.keeps t l) ∧
        (v = k * 16 + c * 256 → s.on SCB_STATUS_LOGFAIL = true →
          ∀ x : Instr, (x = .clearRecords i ∨ x = .sendRecords i ∨ x = .mainRing i) →
          ∃ t : State, exec x s = .next t ∧ t.f SCB_CMD_STATUS_STATUS = cLOGFAIL ∧ t.scb = s.scb ∧ s.keeps t l) ∧
        (v = 0 → s.on SCB_STATUS_LOGFAIL = false →
          (s.scb.writing = none →
            ∃ t : State, exec (.clearRecords i) s = .next t ∧ t.answer = cOK ∧ t.on SCB_CMD_STATUS_BUSY = true ∧
              t.scb.live = [] ∧
              t.scb.writing = some ⟨0x0403, s.now, cOK, false, leBytes 8 s.scb.live.length ++ leBytes 8 req⟩ ∧
              t.f SCB_OLDEST_SEQ = s.f SCB_WR_SEQ % 2 ^ 32 ∧ t.scb.staged = s.scb.staged ∧
              s.keeps t (l ++ [SCB_OLDEST_SEQ, SCB_OLDEST_OFFSET] ++
                (List.range 8).flatMap (fun k => [SCB_BMk_POS_SEQ k, SCB_BMk_POS_OFFSET k]))) ∧
          (s.scb.writing.isSome = true →
            ∃ t : State, exec (.clearRecords i) s = .next t ∧ t.answer = cOK ∧ t.on SCB_CMD_STATUS_BUSY = true ∧
              t.scb.live = s.scb.live ∧ t.scb.writing = s.scb.writing ∧ s.keeps t l) ∧
          (reg = 0 → ∃ t : State, exec (.mainRing i) s = .next t ∧ t.f SCB_CMD_STATUS_STATUS = cOK ∧ t.answer = cOK ∧
            t.scb = s.scb ∧ s.keeps t l) ∧
          (reg ≠ 0 → ∃ t : State, exec (.mainRing i) s = .next t ∧ t.answer = cOK ∧ t.on SCB_CMD_STATUS_BUSY = true ∧
            t.scb.main = true ∧ t.scb.live = s.scb.live ∧ s.keeps t l)) ∧
        (∀ (fl m : Nat) (e : ScbEnt), fl < 4096 → m < 16 → v = k * 16 + c * 256 + fl * 2 ^ 16 + m * 2 ^ 28 →
          s.on SCB_STATUS_LOGFAIL = false →
          (m = s.pos' → ∃ t : State, exec (.sendRecords i) s = .next t ∧ t.f SCB_CMD_STATUS_STATUS = cRANGE ∧ t.scb = s.scb ∧
            s.keeps t l) ∧
          (m ≠ s.pos' → 0 < c → s.on (SCB_BMk_POS_OPEN k) = true → s.on (SCB_BMk_STAT_OVERRUN k) = false →
            s.scb.live.find? (fun e => e.seq == s.f (SCB_BMk_POS_SEQ k)) = some e → e.len ≤ 968 →
            (s.ros m).st ≠ 0 → (s.ros m).st ≠ 5 →
            ∃ t : State, ∃ x : BxlPend, exec (.sendRecords i) s = .next t ∧ t.answer = cOK ∧ t.on SCB_CMD_STATUS_BUSY = true ∧
              (t.pair m).unacked = (s.pair m).unacked ++ [x] ∧ x.msg.kind = 3 ∧
              x.msg.body.drop 24 = leBytes 4 (s.f (SCB_BMk_POS_SEQ k)) ++ leBytes 1 16 ++ leBytes 1 s.pos' ++ leBytes 2 0 ++
                s.rdBytes (scbBase reg + e.off) e.len ∧
              t.scb.send.isSome = true ∧ t.scb.live = s.scb.live ∧ s.keeps t l)))) ∧
    ∀ (i : ScbIn) (req : Nat), i = .write req 0 → s.ist iSCB = 0 →
      ∃ t : State, exec (.openBookmark i) s = .next t ∧ t.answer = cNO_ROUTE ∧ t.scb = s.scb ∧ s.keeps t (refuseRegs iSCB)

/-- R530, R531, R532, R533, R535, R536, R537: a missed heartbeat of an island in SELFTEST counts for nothing, and one that
stays there for 13 µs is fenced for HANG (cause 4 of R544). A slice that is due begins: its island goes to SELFTEST and BST_CUR names it. One of an engine in
an atomic section is tried again 100 µs later. A slice that ends well puts the island back into the state it left, is
counted, and what the island held is served; one that fails fences the island; a request of class P0 aborts it; an island
that stays in SELFTEST is fenced. A round that is over is counted, an island untested in three rounds is starved. -/
def Obligations.SelfTestSlices : Prop :=
  ∀ s : State,
    (∀ isl : Nat, s.ist isl = 4 → exec (.heartbeatMissed isl) s = .next s) ∧
    (s.bstReady = true → ∀ isl sl : Nat, isl < 48 → sl < 128 →
      (s.sliceSkips isl sl = false → s.sliceWaits isl = false → ∀ i : Instr,
        (i = .sliceStart ∧ s.bst.next < sliceTotal ∧ s.sliceAt s.bst.next ≤ s.tim.edges ∧
            slicePlace islandList s.bst.next = some (isl, sl) ∨
          i = .sliceRetry ∧ ∃ (at' : Nat) (l : List (Nat × Nat × Nat)), s.bst.again = (isl, sl, at') :: l ∧ at' ≤ s.tim.edges) →
        ∃ t : State, exec i s = .next t ∧ t.ist isl = 4 ∧ t.on BST_CUR_ACTIVE = true ∧ t.f BST_CUR_ISLAND = isl ∧
          t.f BST_CUR_SLICE = sl ∧ t.bst.run = some (isl, sl, s.ist isl) ∧ t.bst.began = s.tim.edges ∧
          s.keeps t [ISL_PSTATE_STATE isl, ISL_PSTATE_WAKE_COUNT isl, BST_CUR_ACTIVE, BST_CUR_ISLAND, BST_CUR_SLICE]) ∧
      (s.sliceSkips isl sl = false → s.sliceWaits isl = true → s.bst.next < sliceTotal →
        s.sliceAt s.bst.next ≤ s.tim.edges → slicePlace islandList s.bst.next = some (isl, sl) →
        exec .sliceStart s = .next { s with bst := { s.bst with
          next := s.bst.next + 1, again := s.bst.again ++ [(isl, sl, s.tim.edges + 10000)] } })) ∧
    (s.bstReady = false ∨ s.bst.next < sliceTotal ∧ s.tim.edges < s.sliceAt s.bst.next → exec .sliceStart s = .next s) ∧
    (s.bstReady = false → exec .sliceRetry s = .next s ∧ exec .roundEnd s = .next s) ∧
    (s.bst.run = none → (∀ b : Option Nat, exec (.sliceEnd b) s = .next s) ∧ exec .sliceAbort s = .next s ∧
      ∀ isl : Nat, exec (.hang isl) s = .next s) ∧
    (∀ isl sl was : Nat, s.bst.run = some (isl, sl, was) → isIsland isl = true → was < 6 →
      (isl ≠ iMCH →
        (∃ u : State, exec (.sliceEnd none) s = .next (u.serveHeld isl) ∧ u.ist isl = was ∧ u.on BST_CUR_ACTIVE = false ∧
          u.bst.run = none ∧ u.f BST_SLICES_COUNT = satInc 32 (s.f BST_SLICES_COUNT) % 2 ^ 32 ∧ u.held = s.held ∧
          s.keeps u [ISL_PSTATE_STATE isl, BST_CUR_ACTIVE, BST_SLICES_COUNT]) ∧
        (s.held.any (fun h => heldIsl h == isl && s.heldClass h == 0) = true →
          ∃ u : State, exec .sliceAbort s = .next (u.serveHeld isl) ∧ u.ist isl = was ∧ u.on BST_CUR_ACTIVE = false ∧
            u.bst.run = none ∧ u.f BST_ABORTS_COUNT = satInc 32 (s.f BST_ABORTS_COUNT) % 2 ^ 32 ∧ u.held = s.held ∧
            (if (Tab.get (fun _ => 0) s.bst.aborts (isl * 256 + sl) + 1) % 3 = 0
              then u.bst.last = s.bst.last ++ [(isl, sl)]
              else u.bst.again = s.bst.again ++ [(isl, sl, s.tim.edges + 10000)]) ∧
            s.keeps u [ISL_PSTATE_STATE isl, BST_CUR_ACTIVE, BST_ABORTS_COUNT])) ∧
      (s.held.any (fun h => heldIsl h == isl && s.heldClass h == 0) = false → exec .sliceAbort s = .next s) ∧
      (s.tim.edges < s.bst.began + 1300 → exec (.hang isl) s = .next s) ∧
      (s.bst.began + 1300 ≤ s.tim.edges → exec (.hang isl) s =
        .next ((State.setF { s with bst := { s.bst with run := none } } BST_CUR_ACTIVE 0).fence isl 4)) ∧
      (s.ist isl = 4 → s.boot.held = false → ∀ (sig : Nat) (i : Instr),
        (i = .sliceEnd (some sig) ∨ i = .hang isl ∧ s.bst.began + 1300 ≤ s.tim.edges) →
        (neverFenced isl = false → isl ≠ iBXL →
          ∃ t : State, exec i s = .next t ∧ t.ist isl = 5 ∧ bit (t.f REF_FENCED_FENCED) isl = true ∧
            t.on BST_CUR_ACTIVE = false ∧
            t.bst.run = none) ∧
        (neverFenced isl = true → ∃ t : State, exec i s = .next t ∧ s.wasReset t 3))) ∧
    (s.bstReady = true → s.bst.roundAt + s.f BST_CTRL_ROUND_MS * 100000 ≤ s.tim.edges →
      ∃ t : State, exec .roundEnd s = .next t ∧ t.f BST_ROUNDS_COUNT = satInc 32 (s.f BST_ROUNDS_COUNT) % 2 ^ 32 ∧
        t.bst.next = 0 ∧ t.bst.roundAt = s.tim.edges ∧ t.bst.again = [] ∧ t.bst.last = [] ∧ t.bst.done = [] ∧
        s.keeps t [BST_ROUNDS_COUNT, BST_STARVED_STARVED, SCB_DROPPED_COUNT] ∧
        ∀ isl : Nat, isIsland isl = true → s.ist isl ≠ 0 → s.ist isl ≠ 5 → slicesOf isl ≠ 0 →
          Tab.get (fun _ => 0) s.bst.done isl < slicesOf isl → Tab.get (fun _ => 0) s.bst.missed isl = 2 →
          bit (t.f BST_STARVED_STARVED) isl = true)

/-- R62, R538, R539, R540, R541: a fault trap or a third missed heartbeat fences an island: it is FENCED and REF shows it; of
the motor and actuator island that raises the stop. A fault of an island that is never fenced writes the last-breath cell and
resets the module. FENCE fences an island, is refused with RANGE for one that is never fenced and for BST, and changes
nothing of one that is FENCED. RELEASE of a fenced island goes on until its test ends: then the island is ON with every
register at its reset value, or stays FENCED with INTEGRITY; of another it ends with BUSY. REF_LB_CLEAR makes the
last-breath cell invalid. -/
def Obligations.Fences : Prop :=
  (∀ (s : State) (isl : Nat), isIsland isl = true → s.boot.held = false →
    (neverFenced isl = false → (s.ist isl = 2 ∨ s.ist isl = 3) → isl ≠ iBXL →
      (∃ t : State, exec (.islandFaultTrap isl) s = .next t ∧ t.ist isl = 5 ∧ bit (t.f REF_FENCED_FENCED) isl = true ∧
        (isl = iMCH → t.latched = true)) ∧
      ∃ t : State, exec (.heartbeatMissed isl) s = .next t ∧ t.ist isl = 5 ∧ bit (t.f REF_FENCED_FENCED) isl = true ∧
        (isl = iMCH → t.latched = true)) ∧
    (∀ cause : Nat, neverFenced isl = true →
      ∃ t : State, exec (.faultReset cause isl) s = .next t ∧ t.boot.held = true ∧ t.f SYS_RESET_CAUSE_CAUSE = 8 ∧
        t.cell.valid = true ∧ t.cell.kind = 1 ∧ t.cell.isl = isl ∧ t.cell.cause = cause ∧ t.cell.time = s.now ∧
        t.pending = s.pending)) ∧
  ∀ (s : State) (req isl : Nat),
    (s.serves iREF = true → isIsland isl = true → s.on REF_ISLAND_CMD_BUSY = false →
      ∀ cmd : List RF, cmd = [ISL_PSTATE_STATE iREF, REF_ISLAND_CMD_OP, REF_ISLAND_CMD_ISLAND, REF_ISLAND_CMD_STATUS,
        REF_ISLAND_CMD_BUSY] →
      (neverFenced isl = true ∨ isl = iBST →
        ∃ t : State, exec (.fence req isl) s = .next t ∧ t.answer = cRANGE ∧
          s.keeps t (ISL_PSTATE_STATE iREF :: refuseRegs iREF)) ∧
      (neverFenced isl = false → isl ≠ iBST →
        (s.ist isl ≠ 5 → isl ≠ iBXL →
          ∃ t : State, exec (.fence req isl) s = .next t ∧ t.answer = cOK ∧ t.ist isl = 5 ∧
            bit (t.f REF_FENCED_FENCED) isl = true ∧ t.f REF_ISLAND_CMD_STATUS = cOK ∧ (isl = iMCH → t.latched = true)) ∧
        (s.ist isl = 5 →
          ∃ t : State, exec (.fence req isl) s = .next t ∧ t.answer = cOK ∧ t.f REF_ISLAND_CMD_STATUS = cOK ∧ t.scb = s.scb ∧
            t.ist isl = 5 ∧ s.keeps t cmd)) ∧
      (isl ≠ iREF → s.ist isl = 5 →
        ∃ t : State, exec (.islandRelease req isl) s = .next t ∧ t.answer = cOK ∧ t.on REF_ISLAND_CMD_BUSY = true ∧
          t.f REF_ISLAND_CMD_OP = 2 ∧ t.f REF_ISLAND_CMD_ISLAND = isl ∧ t.ist isl = 5 ∧ s.keeps t cmd) ∧
      (s.ist isl ≠ 5 →
        ∃ t : State, exec (.islandRelease req isl) s = .next t ∧ t.answer = cOK ∧ t.on REF_ISLAND_CMD_BUSY = false ∧
          t.f REF_ISLAND_CMD_STATUS = cBUSY ∧ s.keeps t cmd)) ∧
    (s.on REF_ISLAND_CMD_BUSY = true → s.f REF_ISLAND_CMD_OP = 2 → s.f REF_ISLAND_CMD_ISLAND = isl → isIsland isl = true →
      s.ist isl = 5 → neverFenced isl = false →
      (isl ≠ iTAL → isl ≠ iUPD → isl ≠ iSCB → isl ≠ iBXL → s.boot.cap = none → s.boot.thermal = none →
        (∀ e < 16, (s.engSt e).cap = none) →
        ∃ t : State, exec (.islandReleaseDone true) s = .next t ∧ t.ist isl = 3 ∧ bit (t.f REF_FENCED_FENCED) isl = false ∧
          t.on REF_ISLAND_CMD_BUSY = false ∧ t.f REF_ISLAND_CMD_STATUS = cOK ∧ t.mem = s.mem ∧ t.eng = s.eng ∧
          ∀ q : RF, (∀ r ∈ keptRegs, q.key ≠ r.key) →
            (q.key / 64 / 0x10000 = 0x20000 + isl → q.key ≠ (ISL_PSTATE_STATE isl).key → t.f q = regReset q.key) ∧
            (q.key / 64 / 0x10000 ≠ 0x20000 + isl → q.key / 64 / 0x20000 ≠ 0x18000 → q.key ≠ REF_FENCED_FENCED.key →
              q.key ≠ REF_ISLAND_CMD_BUSY.key → q.key ≠ REF_ISLAND_CMD_STATUS.key → t.f q = s.f q)) ∧
      ∃ t : State, exec (.islandReleaseDone false) s = .next t ∧ t.ist isl = 5 ∧ t.on REF_ISLAND_CMD_BUSY = false ∧
        t.f REF_ISLAND_CMD_STATUS = cINTEGRITY ∧
        s.keeps t [REF_ISLAND_CMD_BUSY, REF_ISLAND_CMD_STATUS, SCB_DROPPED_COUNT]) ∧
    (s.on REF_ISLAND_CMD_BUSY = false → ∀ p : Bool, exec (.islandReleaseDone p) s = .next s) ∧
    (s.serves iREF = true → ∀ v : Nat, v % 2 = 1 →
      ∃ t : State, exec (.lastBreathClear req v) s = .next t ∧ t.answer = cOK ∧ t.cell = { s.cell with valid := false } ∧
        s.keeps t [ISL_PSTATE_STATE iREF])

/-! ### Power, reset and start-up (chapter 16) -/

/-- R566, R568, R569, R571, R573, R574, R579: POWER_ON, BROWN_OUT, RESET_N and SYS_RESET with its key each reset the module with their own cause;
MRAM and NOR keep their content, and through the last two LPDDR5 and the last-breath cell do too. SYS_RESET without the key
is refused with RANGE, without GO it does nothing, and while SYS is locked it is refused with NOT_OWNER.
When PWRFAIL asserts every engine is capped at point 0, nothing is accepted any more and the Whistle latches
where it is set to; when it deasserts the cap is lifted and PWRFAIL_SEEN stays. A reading at or above CAP_C caps the engines
at CAP_CODE, one below CAP_C - HYST_C lifts that cap, one between changes nothing of it. EJECT_REQ_N ends acceptance, of a
stack member by leaving; going high it resumes that of a standalone module. -/
def Obligations.PowerAndResets : Prop :=
  (∀ s : State,
    (∃ t : State, exec .powerOn s = .next t ∧ s.wasReset t 0 ∧ t.boot.converters = false ∧ t.cell.valid = false) ∧
    (∃ t : State, exec .brownOut s = .next t ∧ s.wasReset t 1 ∧ t.boot.converters = false ∧ t.cell.valid = false) ∧
    exec .converterStart s = .next { s with boot := { s.boot with converters := true } } ∧
    (s.boot.held = false →
      ∃ t : State, exec .pinReset s = .next t ∧ s.wasReset t 2 ∧ t.cell = s.cell ∧ t.boot.converters = true ∧
        ∀ a : Nat, 0x1000000000 ≤ a → t.rdB a = s.rdB a) ∧
    (s.boot.held = true → exec .pinReset s = .next s) ∧
    ∀ req v : Nat, s.serves iSYS = true →
      (bits v 15 8 = 0x5A → v % 2 = 1 → s.on (ISL_LOCK_LOCKED iSYS) = false →
        ∃ t : State, exec (.softwareReset req v) s = .next t ∧ s.wasReset t 4 ∧ t.answer = cOK ∧ t.cell = s.cell ∧
          ∀ a : Nat, 0x1000000000 ≤ a → t.rdB a = s.rdB a) ∧
      (bits v 15 8 = 0x5A → v % 2 = 1 → s.on (ISL_LOCK_LOCKED iSYS) = true →
        ∃ t : State, exec (.softwareReset req v) s = .next t ∧ t.answer = cNOT_OWNER ∧ t.boot = s.boot ∧
          s.keeps t (ISL_PSTATE_STATE iSYS :: refuseRegs iSYS)) ∧
      (bits v 15 8 = 0x5A → v % 2 = 0 →
        ∃ t : State, exec (.softwareReset req v) s = .next t ∧ t.answer = cOK ∧ t.boot = s.boot ∧
          s.keeps t [ISL_PSTATE_STATE iSYS]) ∧
      (bits v 15 8 ≠ 0x5A →
        ∃ t : State, exec (.softwareReset req v) s = .next t ∧ t.answer = cRANGE ∧ t.boot = s.boot ∧
          s.keeps t (ISL_PSTATE_STATE iSYS :: refuseRegs iSYS))) ∧
  ∀ s : State,
    (s.on PWR_STATUS_PWRFAIL = false → s.boot.held = false →
      ∃ t : State, exec .pwrfailAssert s = .next t ∧ t.on PWR_STATUS_PWRFAIL = true ∧ t.on PWR_STATUS_PWRFAIL_SEEN = true ∧
        t.f PWR_STATUS_PWRFAIL_COUNT = satInc 16 (s.f PWR_STATUS_PWRFAIL_COUNT) % 2 ^ 16 ∧ t.boot.cap = some 0 ∧
        (∀ e < 16, (t.engSt e).cap = some 0) ∧ t.accepting = false ∧
        (s.on REF_STOP_CFG_PWRFAIL_STOP = true → t.latched = true)) ∧
    (s.on PWR_STATUS_PWRFAIL = true ∨ s.boot.held = true → exec .pwrfailAssert s = .next s) ∧
    (s.on PWR_STATUS_PWRFAIL = true →
      ∃ t : State, exec .pwrfailDeassert s = .next t ∧ t.on PWR_STATUS_PWRFAIL = false ∧
        t.f PWR_STATUS_PWRFAIL_SEEN = s.f PWR_STATUS_PWRFAIL_SEEN ∧ t.boot = { s.boot with cap := none } ∧ t.mem = s.mem ∧
        (∀ e < 16, (t.engSt e).cap = s.boot.thermal) ∧
        ∀ q : RF, q.key ≠ PWR_STATUS_PWRFAIL.key → q.key / 64 / 0x10000 < 0x20010 ∨ 0x20020 ≤ q.key / 64 / 0x10000 →
          t.f q = s.f q) ∧
    (s.on PWR_STATUS_PWRFAIL = false → exec .pwrfailDeassert s = .next s) ∧
    (∀ (temp : Int) (vin power : Nat),
      ∃ t : State, exec (.thermalSample temp vin power) s = .next t ∧ t.f PWR_CASE_TEMP = unsigned 16 temp ∧
        t.f PWR_VIN_MV = vin % 2 ^ 16 ∧ t.f PWR_INPUT_MW = power % 2 ^ 16 ∧ t.mem = s.mem ∧ t.boot.cap = s.boot.cap ∧
        (s.on PWR_THERM_CAP_EN = true →
          (Int.ofNat (s.f PWR_THERM_CAP_C) * 100 ≤ temp →
            t.boot.thermal = some (s.f PWR_THERM_CAP_CODE) ∧ t.on PWR_STATUS_THERM_CAP = true ∧
              (s.boot.cap = none → ∀ e < 16, (t.engSt e).cap = some (s.f PWR_THERM_CAP_CODE)) ∧
              ∀ k : Nat, s.boot.cap = some k → ∀ e < 16, (t.engSt e).cap = some (min k (s.f PWR_THERM_CAP_CODE))) ∧
          (temp < Int.ofNat (s.f PWR_THERM_CAP_C) * 100 →
            temp < Int.ofNat (s.f PWR_THERM_CAP_C) * 100 - Int.ofNat (s.f PWR_THERM_HYST_C) * 100 →
            t.boot.thermal = none ∧ t.on PWR_STATUS_THERM_CAP = false ∧ ∀ e < 16, (t.engSt e).cap = s.boot.cap) ∧
          (temp < Int.ofNat (s.f PWR_THERM_CAP_C) * 100 →
            Int.ofNat (s.f PWR_THERM_CAP_C) * 100 - Int.ofNat (s.f PWR_THERM_HYST_C) * 100 ≤ temp →
            t.boot.thermal.isSome = s.boot.thermal.isSome)) ∧
        (s.on PWR_THERM_CAP_EN = false → t.boot.thermal = none) ∧
        ∀ q : RF, (∀ r ∈ [PWR_CASE_TEMP, PWR_VIN_MV, PWR_INPUT_MW, PWR_STATUS_THERM_CAP], q.key ≠ r.key) →
          q.key / 64 / 0x10000 < 0x20010 ∨ 0x20020 ≤ q.key / 64 / 0x10000 → t.f q = s.f q) ∧
    (s.boot.held = false → s.inStack = false →
      ∃ t : State, exec .ejectRequest s = .next t ∧ t = { s with ejecting := true } ∧ t.accepting = false) ∧
    (s.boot.held = false → s.inStack = true → s.f BXL_STATUS_STATE = 2 → s.on BXL_STATUS_CAPTAIN = false →
      ∃ t : State, exec .ejectRequest s = .next t ∧ t.ejecting = true ∧ t.f BXL_STATUS_STATE = 4 ∧ t.accepting = false ∧
        s.keeps t [BXL_STATUS_STATE]) ∧
    (s.boot.held = true → exec .ejectRequest s = .next s) ∧
    (s.boot.safe = false → s.ejectStack = false →
      exec .ejectReqHigh s = .next { s with ejecting := false, boot := { s.boot with checkpoint := false } }) ∧
    (s.boot.safe = true ∨ s.ejectStack = true → exec .ejectReqHigh s = .next s)

/-- R25, R527, R528, R555, R562, R563, R575, R576, R577: at reset release the straps are latched, every island enters
SELFTEST and STOP_ID is taken from MRAM. The end of the power-up test reports what failed, fences it, and hands over to the
boot ROM on the lowest engine that passed, or the module holds with the last-breath cell written. The loader's check goes on
to the loader or holds. The loader stays when the image fails its checks, lies in a fenced island's memory, or STRAP_HOLD is
set; otherwise the parts are where they belong and RESTORE follows, in which BOOT is the first record, with the last-breath
cell, which is then cleared. RUN starts the engine image on the boot engine. Each has no effect outside its phase. -/
def Obligations.StartUp : Prop :=
  ∀ s : State,
    (∀ (straps : Nat) (fa fb : Bool), s.boot.held = true → s.boot.converters = true →
      ∃ t : State, exec (.resetRelease straps fa fb) s = .next t ∧ t.boot = { s.boot with held := false } ∧
        t.memc.failA = fa ∧ t.memc.failB = fb ∧ t.f SYS_STRAPS_REFSEL = straps % 2 ∧ t.f SYS_STRAPS_PCIE = straps / 2 % 2 ∧
        t.f SYS_STRAPS_BANK = straps / 4 % 2 ∧ t.f SYS_STRAPS_HOLD = straps / 8 % 2 ∧
        (∀ isl : Nat, isIsland isl = true → t.ist isl = 4) ∧ t.f REF_STOP_ID_STOP_ID = t.stopIdRecord.getD 0 % 2 ^ 32 ∧
        s.keeps t ([SYS_STRAPS_REFSEL, SYS_STRAPS_PCIE, SYS_STRAPS_BANK, SYS_STRAPS_HOLD, REF_STOP_ID_STOP_ID,
          SCB_DROPPED_COUNT] ++ islandList.map ISL_PSTATE_STATE)) ∧
    (s.boot.held = false ∨ s.boot.converters = false →
      ∀ (straps : Nat) (fa fb : Bool), exec (.resetRelease straps fa fb) s = .next s) ∧
    (∀ fail ticks : Nat, s.boot.held = false → s.boot.holding = none → s.f SYS_BOOT_PHASE = 0 →
      ((∀ isl : Nat, isIsland isl = true → bistCritical isl = true → bit fail isl = false) →
        (∀ e : Nat, e < 12 → bit fail (0x10 + e) = false → (∀ j < e, bit fail (0x10 + j) = true) →
          ∃ t : State, exec (.powerupBistDone fail true ticks) s = .next t ∧ t.f SYS_BOOT_PHASE = 1 ∧ t.f SYS_BOOT_ENGINE = e ∧
            t.f BST_PU_TIME_TICKS = ticks % 2 ^ 32 ∧ t.bst.roundAt = s.tim.edges ∧
            (∀ isl : Nat, isIsland isl = true → bit (t.f BST_PU_FAIL_FAIL) isl = bit fail isl ∧
              (bit fail isl = true → t.ist isl = 5 ∧ bit (t.f REF_FENCED_FENCED) isl = true) ∧
              (bit fail isl = false → t.ist isl = if 0x2E ≤ isl ∧ s.on SYS_STRAPS_BANK = true then 0 else 3)) ∧
            s.keeps t ([BST_PU_FAIL_FAIL, BST_PU_TIME_TICKS, REF_FENCED_FENCED, SYS_BOOT_ENGINE, SYS_BOOT_PHASE] ++
              islandList.map ISL_PSTATE_STATE)) ∧
        ((∀ j < 12, bit fail (0x10 + j) = true) → ∀ p : Bool,
          ∃ t : State, exec (.powerupBistDone fail p ticks) s = .next t ∧ t.boot.holding = some cINTEGRITY ∧
            t.cell.valid = true ∧
            t.cell.kind = 3 ∧ t.cell.status = cINTEGRITY ∧ t.f SYS_BOOT_PHASE = 0) ∧
        ((∃ j < 12, bit fail (0x10 + j) = false) →
          ∃ t : State, exec (.powerupBistDone fail false ticks) s = .next t ∧ t.boot.holding = some cINTEGRITY ∧
            t.cell.valid = true ∧ t.cell.kind = 3 ∧ t.cell.isl = iREF ∧ t.f SYS_BOOT_PHASE = 0)) ∧
      ((∃ isl : Nat, isIsland isl = true ∧ bistCritical isl = true ∧ bit fail isl = true) → ∀ p : Bool,
        ∃ t : State, exec (.powerupBistDone fail p ticks) s = .next t ∧ t.boot.holding = some cINTEGRITY ∧ t.cell.valid = true ∧
          t.cell.kind = 3 ∧ t.cell.cause = 5 ∧ bistCritical t.cell.isl = true ∧ bit fail t.cell.isl = true ∧
          t.cell.failMap = t.f BST_PU_FAIL_FAIL ∧ t.f SYS_BOOT_PHASE = 0)) ∧
    (s.boot.held = true ∨ s.boot.holding.isSome = true ∨ s.f SYS_BOOT_PHASE ≠ 0 →
      ∀ (fail : Nat) (p : Bool) (ticks : Nat), exec (.powerupBistDone fail p ticks) s = .next s) ∧
    (s.f SYS_BOOT_PHASE = 1 → s.boot.holding = none →
      (∃ t : State, exec (.loaderCheckDone true) s = .next t ∧ t.f SYS_BOOT_PHASE = 2 ∧ t.mem = s.mem ∧ t.eng = s.eng ∧
        t.boot = s.boot ∧
        ∀ q : RF, q.key ≠ SYS_BOOT_PHASE.key → q.key / 64 / 0x10000 ≠ 0x20000 + iUPD → t.f q = s.f q) ∧
      ∃ t : State, exec (.loaderCheckDone false) s = .next t ∧ t.boot.holding = some cINTEGRITY ∧ t.cell.valid = true ∧
        t.cell.kind = 3 ∧ t.cell.isl = iUPD ∧ t.cell.failMap = 2 ^ iUPD ∧ s.keeps t []) ∧
    (s.f SYS_BOOT_PHASE ≠ 1 ∨ s.boot.holding.isSome = true → ∀ b : Bool, exec (.loaderCheckDone b) s = .next s) ∧
    (∀ c : Nat, c = s.verifyCheck aImage s.pos' → s.f SYS_BOOT_PHASE = 2 → s.boot.stay = false → s.boot.holding = none →
      s.updSt < 6 → s.updSt ≠ 3 → ∀ segs : List (Nat × Nat × Nat × Nat),
      (c ≠ cOK →
        ∃ t : State, exec (.loaderDone segs) s = .next t ∧ t.boot = { s.boot with stay := true } ∧
          t.f UPD_STATUS_LAST_STATUS = c % 2 ^ 8 ∧ s.keeps t [UPD_STATUS_LAST_STATUS]) ∧
      (c = cOK → (∃ g ∈ segs, s.ist (ownerOf g.2.2.2) = 5) →
        ∃ t : State, exec (.loaderDone segs) s = .next t ∧ t.boot = { s.boot with stay := true } ∧
          t.f UPD_STATUS_LAST_STATUS = cFENCED ∧ s.keeps t [UPD_STATUS_LAST_STATUS]) ∧
      (c = cOK → s.on SYS_STRAPS_HOLD = true → segs = [] →
        ∃ t : State, exec (.loaderDone segs) s = .next t ∧ t.boot = { s.boot with stay := true } ∧ s.keeps t []) ∧
      (c = cOK → s.on SYS_STRAPS_HOLD = false → segs = [] →
        ∃ t : State, exec (.loaderDone segs) s = .next t ∧ t.f SYS_BOOT_PHASE = 3 ∧ t.boot = s.boot ∧
          s.keeps t [SYS_BOOT_PHASE, UPD_VERSION_ENGINE]) ∧
      (∀ (j o n a : Nat) (e : List Byte), segs = [(j, o, n, a)] → c = cOK → s.on SYS_STRAPS_HOLD = false →
        s.ist (ownerOf a) ≠ 5 →
        e = partOf (s.rdBytes aImage 4096) j → j < s.rd (aImage + 6) 1 → bit (fld e 2 2) s.pos' = true →
        o + n ≤ fld e 12 4 → n ≤ 100663296 → blockIn a n false = true →
        ∃ t : State, exec (.loaderDone segs) s = .next t ∧ t.f SYS_BOOT_PHASE = 3 ∧
          t.rdBytes a n = s.rdBytes (aImage + fld e 8 4 + o) n ∧ s.outside t [(a, n)] ∧
          s.alters t [SYS_BOOT_PHASE, UPD_VERSION_ENGINE])) ∧
    (s.f SYS_BOOT_PHASE ≠ 2 ∨ s.boot.stay = true → ∀ segs : List (Nat × Nat × Nat × Nat), exec (.loaderDone segs) s = .next s) ∧
    (s.f SYS_BOOT_PHASE = 3 → s.boot.restored = false →
      (∃ t : State, exec .restore s = .next t ∧ t.boot.restored = true) ∧
      (s.ringPointer = none → s.ist iSCB ≠ 0 → s.ist iSCB ≠ 5 → s.on SCB_STATUS_LOGFAIL = false →
        ∃ t : State, ∃ r : ScbRec, exec .restore s = .next t ∧ t.boot.restored = true ∧ t.memc.live = [] ∧
          t.memc.head = 0 ∧ t.memc.tail = 0 ∧
          t.scb.writing = some r ∧ r.typ = 0x0404 ∧
          r.body = leBytes 8 (s.f BST_PU_FAIL_FAIL) ++ (if s.cell.valid then s.cell.bytes else List.replicate 64 0) ∧
          t.cell.valid = false ∧ t.eng = s.eng ∧ t.f SYS_BOOT_PHASE = 3)) ∧
    (s.f SYS_BOOT_PHASE ≠ 3 ∨ s.boot.restored = true → exec .restore s = .next s) ∧
    (∀ entry e : Nat, e = s.f SYS_BOOT_ENGINE → s.f SYS_BOOT_PHASE = 3 → s.boot.restored = true →
      ∃ t : State, ∃ st age : Nat, exec (.runStart entry) s = .next t ∧ t.f SYS_BOOT_PHASE = 4 ∧ t.mem = s.mem ∧
        t.ctx e 0 = { Ctx.empty with inst := 0xFFFF, handler := true, pc := entry % 2 ^ 40 / 4 * 4, st := st, age := age } ∧
        (∀ d : Nat, d ≠ e → t.engSt d = s.engSt d) ∧ (s.updSt = 8 → t.upd.trial = true) ∧
        ∀ q : RF, q.key ≠ SYS_BOOT_PHASE.key → q.key ≠ (ISL_PSTATE_STATE (iENG e)).key →
          q.key ≠ (ENG_PREEMPT_COUNT e).key → t.f q = s.f q) ∧
    (s.f SYS_BOOT_PHASE ≠ 3 ∨ s.boot.restored = false → ∀ entry : Nat, exec (.runStart entry) s = .next s)

/-! ### The host (chapter 16) -/

/-- R581, R582, R583, R585: a command frame on the idle service UART is answered with one completion. PING answers who the
module is; READ the bytes of memory, and WRITE changes them, where MEM_EN is set and a window grants it, and NOT_OWNER
elsewhere; TOKEN answers what the destination answers; SUBMIT offers its payload; CLOSE frees the session. A frame that
breaks a rule of its layout is answered RANGE, one of the wrong length LENGTH, one with a wrong CHECK is dropped; a repeat is
answered as before. Until the image runs the loader answers TOKEN, SUBMIT and CLOSE with BUSY. -/
def Obligations.HostCommands : Prop :=
  ∀ (s : State) (f : List Byte), s.hearsUart f →
    ∀ l : List RF, l = [ISL_PSTATE_STATE iHST, HST_Ix_STAT_COMMANDS 1] →
    (s.hstKept 1 f = none →
      (cmdOp f = 6 → frameBad f = false →
        ∃ t : State, exec (.ping 1 f) s = .next t ∧ s.hostAnswered t f cOK 0 0 s.pingBytes ∧ s.keeps t l) ∧
      (frameBad f = true → s.f SYS_BOOT_PHASE = 4 → ∀ i : Instr,
        (i = .hostRead 1 f ∧ cmdOp f = 1 ∨ i = .hostWrite 1 f ∧ cmdOp f = 2 ∨ i = .hostToken 1 f ∧ cmdOp f = 3 ∨
          i = .submit 1 f ∧ cmdOp f = 4 ∨ i = .hostClose 1 f ∧ cmdOp f = 5 ∨ i = .ping 1 f ∧ (cmdOp f = 0 ∨ 6 ≤ cmdOp f)) →
        ∃ t : State, exec i s = .next t ∧ s.hostAnswered t f cRANGE 0 0 [] ∧ s.keeps t l) ∧
      (s.f SYS_BOOT_PHASE < 4 → ∀ i : Instr,
        (i = .hostToken 1 f ∧ cmdOp f = 3 ∨ i = .submit 1 f ∧ cmdOp f = 4 ∨ i = .hostClose 1 f ∧ cmdOp f = 5) →
        ∃ t : State, exec i s = .next t ∧ s.hostAnswered t f cBUSY 0 0 [] ∧ s.keeps t l) ∧
      (frameBad f = false → cmdOp f = 1 → cmdArg1 f = 8 → cmdArg0 f % 8 = 0 → regIsland (cmdArg0 f) = none →
        s.memCheck (ep iHST 0) (cmdArg0 f) 8 false = cOK →
        (s.f SYS_BOOT_PHASE < 4 ∨ s.on (HST_Ix_CFG_MEM_EN 1) = true ∧ s.hstGrant 1 (cmdArg0 f) 8 0 = true →
          ∃ t : State, exec (.hostRead 1 f) s = .next t ∧ s.hostAnswered t f cOK 0 0 (s.rdBytes (cmdArg0 f) 8) ∧ s.keeps t l) ∧
        (4 ≤ s.f SYS_BOOT_PHASE → s.on (HST_Ix_CFG_MEM_EN 1) = false ∨ s.hstGrant 1 (cmdArg0 f) 8 0 = false →
          ∃ t : State, exec (.hostRead 1 f) s = .next t ∧ s.hostAnswered t f cNOT_OWNER 0 0 [] ∧ s.keeps t l)) ∧
      (frameBad f = false → cmdOp f = 2 → cmdLen f = 8 → cmdArg0 f % 8 = 0 → regIsland (cmdArg0 f) = none →
        s.memCheck (ep iHST 0) (cmdArg0 f) 8 true = cOK →
        (s.f SYS_BOOT_PHASE < 4 ∨ s.on (HST_Ix_CFG_MEM_EN 1) = true ∧ s.hstGrant 1 (cmdArg0 f) 8 1 = true →
          ∃ t : State, exec (.hostWrite 1 f) s = .next t ∧ s.hostAnswered t f cOK 0 0 [] ∧
            t.rdBytes (cmdArg0 f) 8 = cmdPayload f ∧
            s.outside t [(cmdArg0 f, 8)] ∧ s.alters t l) ∧
        (4 ≤ s.f SYS_BOOT_PHASE → s.on (HST_Ix_CFG_MEM_EN 1) = false ∨ s.hstGrant 1 (cmdArg0 f) 8 1 = false →
          ∃ t : State, exec (.hostWrite 1 f) s = .next t ∧ s.hostAnswered t f cNOT_OWNER 0 0 [] ∧ s.keeps t l)) ∧
      (frameBad f = false → cmdOp f = 3 → 4 ≤ s.f SYS_BOOT_PHASE →
        (s.on (HST_Ix_CFG_TOKEN_EN 1) = false →
          ∃ t : State, exec (.hostToken 1 f) s = .next t ∧ s.hostAnswered t f cNOT_OWNER 0 0 [] ∧ s.keeps t l) ∧
        (∀ isl : Nat, isl = epIsl (cmdArg0 f % 2 ^ 16) → s.on (HST_Ix_CFG_TOKEN_EN 1) = true →
          (isIsland isl = false ∨ s.ist isl = 0 →
            ∃ t : State, exec (.hostToken 1 f) s = .next t ∧ s.hostAnswered t f cNO_ROUTE 0 0 [] ∧ s.keeps t l) ∧
          (isIsland isl = true → s.ist isl = 5 →
            ∃ t : State, exec (.hostToken 1 f) s = .next t ∧ s.hostAnswered t f cFENCED 0 0 [] ∧ s.keeps t l)) ∧
        (∀ k < 8, s.on (HST_Ix_CFG_TOKEN_EN 1) = true → cmdArg0 f = ep iSCB 0 → cmdArg1 f = 2 + k * 16 →
          s.serves iSCB = true → s.on SCB_CMD_STATUS_BUSY = false →
          ∃ t : State, exec (.hostToken 1 f) s = .next t ∧
            s.hostAnswered t f (if s.on (SCB_BMk_POS_OPEN k) = true then cOK else cNOT_FOUND) 0 0 [] ∧
            t.on (SCB_BMk_POS_OPEN k) = false ∧ s.outside t [(scbBase (s.f SCB_STATUS_REGION) + 0x80, 128)] ∧
            s.alters t ([SCB_BMk_POS_OPEN k, SCB_CMD_STATUS_BUSY, SCB_CMD_STATUS_STATUS, ISL_PSTATE_STATE iSCB] ++ l))) ∧
      (frameBad f = false → cmdOp f = 4 → 4 ≤ s.f SYS_BOOT_PHASE →
        ∀ k fl : Nat, k = cmdSession f → fl = cmdFlow f →
        (k = 0 → ∃ t : State, exec (.submit 1 f) s = .next t ∧ s.hostAnswered t f cRANGE 0 0 [] ∧ s.keeps t l) ∧
        (k ≠ 0 → s.on (HST_Ix_CFG_SUBMIT_EN 1) = false ∨ (s.hstFlows 1).contains fl = false →
          ∃ t : State, exec (.submit 1 f) s = .next t ∧ s.hostAnswered t f cNOT_OWNER 0 0 [] ∧ s.keeps t l) ∧
        (k ≠ 0 → s.on (HST_Ix_CFG_SUBMIT_EN 1) = true → (s.hstFlows 1).contains fl = true → s.hostPend = [] →
          (∀ j : Nat, s.sessionSlot k = some j → s.f (HST_SESSION_FLOW_s_FLOW j) ≠ fl →
            ∃ t : State, exec (.submit 1 f) s = .next t ∧ s.hostAnswered t f cRANGE 0 0 [] ∧ s.keeps t l) ∧
          (∀ j : Nat, s.sessionSlot k = some j → s.f (HST_SESSION_FLOW_s_FLOW j) = fl → cmdTag f = s.f (HST_SESSION_s_H j) →
            ∃ t : State, exec (.submit 1 f) s = .next t ∧ s.hostAnswered t f cDUPLICATE 0 0 [] ∧ s.keeps t l) ∧
          (s.sessionSlot k = none → (s.flow fl).bound = none → cmdLen f ≤ 992 → s.sessionFree.isSome = true →
            ∃ t : State, exec (.submit 1 f) s = .next t ∧ s.hostAnswered t f cNOT_FOUND 0 0 [] ∧ s.keeps t l) ∧
          (∀ j : Nat, s.sessionSlot k = none → s.sessionFree = some j → (s.flow fl).bound.isSome = true → cmdLen f ≤ 992 →
            (s.offer ⟨.host 1 (cmdTag f) k j, 3, fl, j, fld f 1 1 % 8, cmdTag f, cmdPayload f⟩).1 = cOK →
            ∃ t : State, exec (.submit 1 f) s = .next t ∧ (t.hif 1).busy = true ∧ (t.hif 1).queue = [⟨f, none⟩] ∧
              t.hst.uart = s.hst.uart ∧ t.memc.itemWrites = s.memc.itemWrites ++
                [⟨.host 1 (cmdTag f) k j, 3, fl, j, fld f 1 1 % 8, cmdTag f, cmdPayload f⟩] ∧
              s.keeps t [ISL_PSTATE_STATE iHST]))) ∧
      (frameBad f = false → cmdOp f = 5 → 4 ≤ s.f SYS_BOOT_PHASE →
        (s.sessionSlot (cmdSession f) = none →
          ∃ t : State, exec (.hostClose 1 f) s = .next t ∧ s.hostAnswered t f cNOT_FOUND 0 0 [] ∧ s.keeps t l) ∧
        (∀ j : Nat, s.sessionSlot (cmdSession f) = some j →
          ∃ t : State, exec (.hostClose 1 f) s = .next t ∧ s.hostAnswered t f cOK 0 0 [] ∧
            t.on (HST_SESSION_FLOW_s_VALID j) = false ∧
            s.outside t [(0x04001F8400 + j * 16, 16), (0x04009F8400 + j * 16, 16)] ∧
            s.alters t ([HST_SESSION_s_SESSION j, HST_SESSION_s_H j, HST_SESSION_FLOW_s_VALID j, HST_SESSION_FLOW_s_FLOW j] ++
              l)))) ∧
    (∀ d : HstDone, s.hstKept 1 f = some d → d.op = 6 → cmdOp f = 6 →
      ∃ t : State, exec (.ping 1 f) s = .next t ∧ s.hostAnswered t f d.status d.seq 1 d.payload ∧
        t.f (HST_Ix_STAT_REPEATS 1) = satInc 16 (s.f (HST_Ix_STAT_REPEATS 1)) % 2 ^ 16 ∧
        s.keeps t (HST_Ix_STAT_REPEATS 1 :: l)) ∧
    ∀ g : List Byte, cmdOp g = 6 →
      (g.length ≤ 1060 → g.length = 36 + cmdLen g → cmdLen g ≤ 1024 → crc32c (g.take (32 + cmdLen g)) ≠ cmdCheck g →
        ∃ t : State, exec (.ping 1 g) s = .next t ∧ t.hst.uart = s.hst.uart ∧ (t.hif 1).queue = [] ∧
          t.f (HST_Ix_STAT_BAD 1) = satInc 16 (s.f (HST_Ix_STAT_BAD 1)) % 2 ^ 16 ∧
          s.keeps t [ISL_PSTATE_STATE iHST, HST_Ix_STAT_BAD 1]) ∧
      (g.length ≤ 1060 → g.length ≠ 36 + cmdLen g →
        ∃ t : State, exec (.ping 1 g) s = .next t ∧ s.hostAnswered t g cLENGTH 0 0 [] ∧ s.keeps t l)

/-- R562, R580, R584, R585, R587: a doorbell with an index that names an entry puts the new commands in the ring, and the
first is fetched while the completion ring has room; a command that was fetched is answered in the completion ring with an
interrupt. A token to a notice port is written to the notice ring with its interrupt, or refused. BAR2 reads and writes what
a window grants. PCIE_PERST_N resets the PCIe part alone; the link's state is shown. A module that holds reports once a
second. -/
def Obligations.HostPcie : Prop :=
  ∀ (s : State) (req v : Nat),
    (s.serves iHST = true →
      (s.f HST_Q_SIZE_ENTRIES ≤ v % 256 →
        (∀ fs : List (List Byte), ∃ t : State, exec (.sqDoorbell req v fs) s = .next t ∧ t.answer = cRANGE ∧ t.hst = s.hst ∧
          s.keeps t (ISL_PSTATE_STATE iHST :: refuseRegs iHST)) ∧
        ∃ t : State, exec (.cqRdWrite req v) s = .next t ∧ t.answer = cRANGE ∧ t.hst = s.hst ∧
          s.keeps t (ISL_PSTATE_STATE iHST :: refuseRegs iHST)) ∧
      (v < s.f HST_Q_SIZE_ENTRIES → v < 256 → s.hst.ring = [] →
        (∀ fr : List Byte, s.pcieOn = true → s.hst.master = true → (s.hif 0).queue = [] →
          (s.f HST_SQ_TAIL_INDEX + 1) % s.f HST_Q_SIZE_ENTRIES = v → s.f HST_SQ_TAIL_INDEX < s.f HST_Q_SIZE_ENTRIES →
          1 < s.f HST_Q_SIZE_ENTRIES → (s.f HST_CQ_WR_INDEX + 1) % s.f HST_Q_SIZE_ENTRIES ≠ s.f HST_CQ_RD_INDEX →
          ∃ t : State, exec (.sqDoorbell req v [fr]) s = .next t ∧ t.answer = cOK ∧ t.f HST_SQ_TAIL_INDEX = v ∧
            (t.hif 0).queue = [⟨fr, none⟩] ∧ t.hst.ring = [] ∧ s.keeps t [ISL_PSTATE_STATE iHST, HST_SQ_TAIL_INDEX]) ∧
        ∃ t : State, exec (.cqRdWrite req v) s = .next t ∧ t.answer = cOK ∧ t.f HST_CQ_RD_INDEX = v ∧ t.hst = s.hst ∧
          s.keeps t [ISL_PSTATE_STATE iHST, HST_CQ_RD_INDEX]) ∧
      (∀ fr : List Byte, s.hstServes = true → (s.hif 0).queue = [⟨fr, none⟩] → (s.hif 0).busy = false → s.hst.ring = [] →
        cmdOp fr = 6 → cmdLen fr ≤ 1024 → crc32c (fr.take (32 + cmdLen fr)) = cmdCheck fr → s.hstKept 0 fr = none →
        frameBad fr = false →
        ∃ t : State, exec (.ping 0 fr) s = .next t ∧ (t.hif 0).queue = [] ∧
          t.hst.out = s.hst.out ++ [(s.f HST_CQ_BASE_ADDR * 4096 + s.f HST_CQ_WR_INDEX * 2048,
            completionFrame 6 cOK (cmdTag fr) (cmdSession fr) 0 0 s.pingBytes)] ∧
          t.f HST_CQ_WR_INDEX = (s.f HST_CQ_WR_INDEX + 1) % s.f HST_Q_SIZE_ENTRIES % 2 ^ 8 ∧
          t.f HST_SQ_HEAD_INDEX = (s.f HST_SQ_HEAD_INDEX + 1) % s.f HST_Q_SIZE_ENTRIES % 2 ^ 8 ∧
          t.hst.msix = s.hst.msix ++ (if s.on HST_PCI_CFG_CQ_IRQ then [0] else []) ∧
          s.keeps t [ISL_PSTATE_STATE iHST, HST_CQ_WR_INDEX, HST_SQ_HEAD_INDEX, HST_Ix_STAT_COMMANDS 0]) ∧
      (∀ (tk : Token) n, tk.dest = ep iHST n → n < 0x400 → tk.stamp = none → tk.task = none →
        (0x100 < n → n < 0x120 → s.pcieOn = true → s.hst.master = true →
          (s.f HST_NR_WR_INDEX + 1) % s.f HST_NR_SIZE_ENTRIES ≠ s.f HST_NR_RD_INDEX →
          ∃ t : State, exec (.hostNotice tk) s = .next t ∧ t.answer = cOK ∧
            t.hst.out = s.hst.out ++ [(s.f HST_NR_BASE_ADDR * 4096 + s.f HST_NR_WR_INDEX * 16,
              leBytes 8 tk.data ++ leBytes 4 tk.tag ++ leBytes 1 (n - 0x100) ++ leBytes 3 s.hst.notices)] ∧
            t.hst.msix = s.hst.msix ++ [n - 0x100] ∧ t.hst.notices = s.hst.notices + 1 ∧
            t.f HST_NR_WR_INDEX = (s.f HST_NR_WR_INDEX + 1) % s.f HST_NR_SIZE_ENTRIES % 2 ^ 12 ∧
            s.keeps t [ISL_PSTATE_STATE iHST, HST_NR_WR_INDEX]) ∧
        (0x100 < n → n < 0x120 → (s.pcieOn = false ∨ s.hst.master = false ∨
            (s.f HST_NR_WR_INDEX + 1) % s.f HST_NR_SIZE_ENTRIES = s.f HST_NR_RD_INDEX) →
          ∃ t : State, exec (.hostNotice tk) s = .next t ∧ t.answer = cBUSY ∧ t.hst = s.hst ∧
            s.keeps t [ISL_PSTATE_STATE iHST]) ∧
        (n ≤ 0x100 ∨ 0x120 ≤ n →
          ∃ t : State, exec (.hostNotice tk) s = .next t ∧ t.answer = cNO_ROUTE ∧ t.hst = s.hst ∧
            s.keeps t [ISL_PSTATE_STATE iHST])) ∧
      (∀ (a : Nat) (data : List Byte), a % 8 = 0 → data.length = 8 → a + 8 ≤ 2 ^ 40 → s.pcieOn = true → regIsland a = none →
        (s.hstGrantOne 0 a 8 0 = true → s.memCheck (ep iHST 0) a 8 false = cOK →
          ∃ t : State, exec (.bar2Access false a data) s = .next t ∧ t.answer = cOK ∧ t.data = leValue (s.rdBytes a 8) ∧
            s.keeps t [ISL_PSTATE_STATE iHST]) ∧
        (s.hstGrantOne 0 a 8 0 = false →
          ∃ t : State, exec (.bar2Access false a data) s = .next t ∧ t.answer = cNOT_OWNER ∧
            s.keeps t [ISL_PSTATE_STATE iHST]) ∧
        (s.hstGrantOne 0 a 8 1 = true → s.memCheck (ep iHST 0) a 8 true = cOK →
          ∃ t : State, exec (.bar2Access true a data) s = .next t ∧ t.answer = cOK ∧ t.rdBytes a 8 = data ∧
            s.outside t [(a, 8)] ∧ s.alters t [ISL_PSTATE_STATE iHST]) ∧
        (s.hstGrantOne 0 a 8 1 = false →
          ∃ t : State, exec (.bar2Access true a data) s = .next t ∧ t.answer = cNOT_OWNER ∧
            s.keeps t (ISL_PSTATE_STATE iHST :: refuseRegs (ownerOf a))))) ∧
    (∃ t : State, exec (.pciePerst true) s = .next t ∧ t.pcieOn = false ∧ (t.hif 0).queue = [] ∧ t.hst.ring = [] ∧
      t.hst.master = false ∧ t.hst.notices = 0 ∧ t.mem = s.mem ∧ t.eng = s.eng ∧
      ∀ q : RF, t.f q = if 0x02002A0024 ≤ q.key / 64 ∧ q.key / 64 < 0x02002A0068 then regReset q.key else s.f q) ∧
    exec (.pciePerst false) s = .next { s with hst := { s.hst with perst := false } } ∧
    (∀ (up : Bool) (w sp : Nat) (m : Bool), (s.pcieOn = true → s.hst.ring = [] → w < 16 → sp < 16 →
        ∃ t : State, exec (.pcieLinkChange up w sp m) s = .next t ∧ t.on HST_PCI_CFG_LINK_UP = up ∧
          t.f HST_PCI_CFG_WIDTH = (if up then w else 0) ∧ t.f HST_PCI_CFG_SPEED = (if up then sp else 0) ∧
          t.hst = { s.hst with master := up && m } ∧
          s.keeps t [HST_PCI_CFG_LINK_UP, HST_PCI_CFG_WIDTH, HST_PCI_CFG_SPEED]) ∧
      (s.pcieOn = false → exec (.pcieLinkChange up w sp m) s = .next s)) ∧
    (∀ st : Nat, s.boot.holding = some st → s.ist iHST = 3 → s.on HST_UART_EN = true →
      (s.boot.reportAt + 100000000 ≤ s.tim.edges →
        ∃ t : State, exec .report s = .next t ∧ t.boot = { s.boot with reportAt := s.tim.edges } ∧
          t.hst.uart = s.hst.uart ++ [uartFrame (completionFrame 0x7F st 0 0 0 0 (leBytes 8 (s.f BST_PU_FAIL_FAIL) ++
            s.cell.bytes ++ leBytes 4 (s.f SYS_BOOT_ENGINE * 2 ^ 8 + s.f SYS_BOOT_PHASE)))] ∧ s.keeps t []) ∧
      (s.tim.edges < s.boot.reportAt + 100000000 → exec .report s = .next s)) ∧
    (s.boot.holding = none → exec .report s = .next s)

end
end

