-- ==== Sys2Proof/Laws/State.lean ====
section
/-! SUPPORT. What the named updates of the state leave alone: one lemma per field per update. -/

namespace Sys2Proof.Machine

variable (s : State)

@[simp] theorem State.setF_pending (r : RF) (v : Nat) : (s.setF r v).pending = s.pending := rfl
@[simp] theorem State.setF_fresh (r : RF) (v : Nat) : (s.setF r v).fresh = s.fresh := rfl
@[simp] theorem State.setF_answer (r : RF) (v : Nat) : (s.setF r v).answer = s.answer := rfl
@[simp] theorem State.setF_data (r : RF) (v : Nat) : (s.setF r v).data = s.data := rfl
@[simp] theorem State.setF_mem (r : RF) (v : Nat) : (s.setF r v).mem = s.mem := rfl
@[simp] theorem State.setF_holdLow (r : RF) (v : Nat) : (s.setF r v).holdLow = s.holdLow := rfl
@[simp] theorem State.setF_holdHigh (r : RF) (v : Nat) : (s.setF r v).holdHigh = s.holdHigh := rfl
@[simp] theorem State.setF_held (r : RF) (v : Nat) : (s.setF r v).held = s.held := rfl
@[simp] theorem State.setF_idleSince (r : RF) (v : Nat) : (s.setF r v).idleSince = s.idleSince := rfl
@[simp] theorem State.setF_sent (r : RF) (v : Nat) : (s.setF r v).sent = s.sent := rfl
@[simp] theorem State.setF_qsent (r : RF) (v : Nat) : (s.setF r v).qsent = s.qsent := rfl
@[simp] theorem State.setF_stamps (r : RF) (v : Nat) : (s.setF r v).stamps = s.stamps := rfl
@[simp] theorem State.setF_memc (r : RF) (v : Nat) : (s.setF r v).memc = s.memc := rfl
@[simp] theorem State.setF_eng (r : RF) (v : Nat) : (s.setF r v).eng = s.eng := rfl
@[simp] theorem State.setF_dug (r : RF) (v : Nat) : (s.setF r v).dug = s.dug := rfl
@[simp] theorem State.setF_que (r : RF) (v : Nat) : (s.setF r v).que = s.que := rfl
@[simp] theorem State.setF_tim (r : RF) (v : Nat) : (s.setF r v).tim = s.tim := rfl
@[simp] theorem State.setF_scb (r : RF) (v : Nat) : (s.setF r v).scb = s.scb := rfl
@[simp] theorem State.setF_bxl (r : RF) (v : Nat) : (s.setF r v).bxl = s.bxl := rfl
@[simp] theorem State.setF_smp (r : RF) (v : Nat) : (s.setF r v).smp = s.smp := rfl
@[simp] theorem State.setF_gbb (r : RF) (v : Nat) : (s.setF r v).gbb = s.gbb := rfl
@[simp] theorem State.setF_gob (r : RF) (v : Nat) : (s.setF r v).gob = s.gob := rfl
@[simp] theorem State.setF_pos (r : RF) (v : Nat) : (s.setF r v).pos = s.pos := rfl
@[simp] theorem State.setF_eth (r : RF) (v : Nat) : (s.setF r v).eth = s.eth := rfl
@[simp] theorem State.setF_rad (r : RF) (v : Nat) : (s.setF r v).rad = s.rad := rfl
@[simp] theorem State.setF_zon (r : RF) (v : Nat) : (s.setF r v).zon = s.zon := rfl
@[simp] theorem State.setF_mch (r : RF) (v : Nat) : (s.setF r v).mch = s.mch := rfl
@[simp] theorem State.setF_tal (r : RF) (v : Nat) : (s.setF r v).tal = s.tal := rfl
@[simp] theorem State.setF_can (r : RF) (v : Nat) : (s.setF r v).can = s.can := rfl
@[simp] theorem State.setF_stop (r : RF) (v : Nat) : (s.setF r v).stop = s.stop := rfl
@[simp] theorem State.setF_upd (r : RF) (v : Nat) : (s.setF r v).upd = s.upd := rfl
@[simp] theorem State.setF_bst (r : RF) (v : Nat) : (s.setF r v).bst = s.bst := rfl
@[simp] theorem State.setF_cell (r : RF) (v : Nat) : (s.setF r v).cell = s.cell := rfl
@[simp] theorem State.setF_boot (r : RF) (v : Nat) : (s.setF r v).boot = s.boot := rfl
@[simp] theorem State.setF_hst (r : RF) (v : Nat) : (s.setF r v).hst = s.hst := rfl
@[simp] theorem State.setF_lib (r : RF) (v : Nat) : (s.setF r v).lib = s.lib := rfl
@[simp] theorem State.setF_ejecting (r : RF) (v : Nat) : (s.setF r v).ejecting = s.ejecting := rfl
@[simp] theorem State.setF_trapPend (r : RF) (v : Nat) : (s.setF r v).trapPend = s.trapPend := rfl
@[simp] theorem State.wrB_pending (a : Nat) (b : Byte) : (s.wrB a b).pending = s.pending := rfl
@[simp] theorem State.wrB_fresh (a : Nat) (b : Byte) : (s.wrB a b).fresh = s.fresh := rfl
@[simp] theorem State.wrB_answer (a : Nat) (b : Byte) : (s.wrB a b).answer = s.answer := rfl
@[simp] theorem State.wrB_data (a : Nat) (b : Byte) : (s.wrB a b).data = s.data := rfl
@[simp] theorem State.wrB_regs (a : Nat) (b : Byte) : (s.wrB a b).regs = s.regs := rfl
@[simp] theorem State.wrB_holdLow (a : Nat) (b : Byte) : (s.wrB a b).holdLow = s.holdLow := rfl
@[simp] theorem State.wrB_holdHigh (a : Nat) (b : Byte) : (s.wrB a b).holdHigh = s.holdHigh := rfl
@[simp] theorem State.wrB_held (a : Nat) (b : Byte) : (s.wrB a b).held = s.held := rfl
@[simp] theorem State.wrB_idleSince (a : Nat) (b : Byte) : (s.wrB a b).idleSince = s.idleSince := rfl
@[simp] theorem State.wrB_sent (a : Nat) (b : Byte) : (s.wrB a b).sent = s.sent := rfl
@[simp] theorem State.wrB_qsent (a : Nat) (b : Byte) : (s.wrB a b).qsent = s.qsent := rfl
@[simp] theorem State.wrB_stamps (a : Nat) (b : Byte) : (s.wrB a b).stamps = s.stamps := rfl
@[simp] theorem State.wrB_memc (a : Nat) (b : Byte) : (s.wrB a b).memc = s.memc := rfl
@[simp] theorem State.wrB_eng (a : Nat) (b : Byte) : (s.wrB a b).eng = s.eng := rfl
@[simp] theorem State.wrB_dug (a : Nat) (b : Byte) : (s.wrB a b).dug = s.dug := rfl
@[simp] theorem State.wrB_que (a : Nat) (b : Byte) : (s.wrB a b).que = s.que := rfl
@[simp] theorem State.wrB_tim (a : Nat) (b : Byte) : (s.wrB a b).tim = s.tim := rfl
@[simp] theorem State.wrB_scb (a : Nat) (b : Byte) : (s.wrB a b).scb = s.scb := rfl
@[simp] theorem State.wrB_bxl (a : Nat) (b : Byte) : (s.wrB a b).bxl = s.bxl := rfl
@[simp] theorem State.wrB_smp (a : Nat) (b : Byte) : (s.wrB a b).smp = s.smp := rfl
@[simp] theorem State.wrB_gbb (a : Nat) (b : Byte) : (s.wrB a b).gbb = s.gbb := rfl
@[simp] theorem State.wrB_gob (a : Nat) (b : Byte) : (s.wrB a b).gob = s.gob := rfl
@[simp] theorem State.wrB_pos (a : Nat) (b : Byte) : (s.wrB a b).pos = s.pos := rfl
@[simp] theorem State.wrB_eth (a : Nat) (b : Byte) : (s.wrB a b).eth = s.eth := rfl
@[simp] theorem State.wrB_rad (a : Nat) (b : Byte) : (s.wrB a b).rad = s.rad := rfl
@[simp] theorem State.wrB_zon (a : Nat) (b : Byte) : (s.wrB a b).zon = s.zon := rfl
@[simp] theorem State.wrB_mch (a : Nat) (b : Byte) : (s.wrB a b).mch = s.mch := rfl
@[simp] theorem State.wrB_tal (a : Nat) (b : Byte) : (s.wrB a b).tal = s.tal := rfl
@[simp] theorem State.wrB_can (a : Nat) (b : Byte) : (s.wrB a b).can = s.can := rfl
@[simp] theorem State.wrB_stop (a : Nat) (b : Byte) : (s.wrB a b).stop = s.stop := rfl
@[simp] theorem State.wrB_upd (a : Nat) (b : Byte) : (s.wrB a b).upd = s.upd := rfl
@[simp] theorem State.wrB_bst (a : Nat) (b : Byte) : (s.wrB a b).bst = s.bst := rfl
@[simp] theorem State.wrB_cell (a : Nat) (b : Byte) : (s.wrB a b).cell = s.cell := rfl
@[simp] theorem State.wrB_boot (a : Nat) (b : Byte) : (s.wrB a b).boot = s.boot := rfl
@[simp] theorem State.wrB_hst (a : Nat) (b : Byte) : (s.wrB a b).hst = s.hst := rfl
@[simp] theorem State.wrB_lib (a : Nat) (b : Byte) : (s.wrB a b).lib = s.lib := rfl
@[simp] theorem State.wrB_ejecting (a : Nat) (b : Byte) : (s.wrB a b).ejecting = s.ejecting := rfl
@[simp] theorem State.wrB_trapPend (a : Nat) (b : Byte) : (s.wrB a b).trapPend = s.trapPend := rfl
@[simp] theorem State.ans_pending (c : Nat) : (s.ans c).pending = s.pending := rfl
@[simp] theorem State.ans_fresh (c : Nat) : (s.ans c).fresh = s.fresh := rfl
@[simp] theorem State.ans_data (c : Nat) : (s.ans c).data = s.data := rfl
@[simp] theorem State.ans_regs (c : Nat) : (s.ans c).regs = s.regs := rfl
@[simp] theorem State.ans_mem (c : Nat) : (s.ans c).mem = s.mem := rfl
@[simp] theorem State.ans_holdLow (c : Nat) : (s.ans c).holdLow = s.holdLow := rfl
@[simp] theorem State.ans_holdHigh (c : Nat) : (s.ans c).holdHigh = s.holdHigh := rfl
@[simp] theorem State.ans_held (c : Nat) : (s.ans c).held = s.held := rfl
@[simp] theorem State.ans_idleSince (c : Nat) : (s.ans c).idleSince = s.idleSince := rfl
@[simp] theorem State.ans_sent (c : Nat) : (s.ans c).sent = s.sent := rfl
@[simp] theorem State.ans_qsent (c : Nat) : (s.ans c).qsent = s.qsent := rfl
@[simp] theorem State.ans_stamps (c : Nat) : (s.ans c).stamps = s.stamps := rfl
@[simp] theorem State.ans_memc (c : Nat) : (s.ans c).memc = s.memc := rfl
@[simp] theorem State.ans_eng (c : Nat) : (s.ans c).eng = s.eng := rfl
@[simp] theorem State.ans_dug (c : Nat) : (s.ans c).dug = s.dug := rfl
@[simp] theorem State.ans_que (c : Nat) : (s.ans c).que = s.que := rfl
@[simp] theorem State.ans_tim (c : Nat) : (s.ans c).tim = s.tim := rfl
@[simp] theorem State.ans_scb (c : Nat) : (s.ans c).scb = s.scb := rfl
@[simp] theorem State.ans_bxl (c : Nat) : (s.ans c).bxl = s.bxl := rfl
@[simp] theorem State.ans_smp (c : Nat) : (s.ans c).smp = s.smp := rfl
@[simp] theorem State.ans_gbb (c : Nat) : (s.ans c).gbb = s.gbb := rfl
@[simp] theorem State.ans_gob (c : Nat) : (s.ans c).gob = s.gob := rfl
@[simp] theorem State.ans_pos (c : Nat) : (s.ans c).pos = s.pos := rfl
@[simp] theorem State.ans_eth (c : Nat) : (s.ans c).eth = s.eth := rfl
@[simp] theorem State.ans_rad (c : Nat) : (s.ans c).rad = s.rad := rfl
@[simp] theorem State.ans_zon (c : Nat) : (s.ans c).zon = s.zon := rfl
@[simp] theorem State.ans_mch (c : Nat) : (s.ans c).mch = s.mch := rfl
@[simp] theorem State.ans_tal (c : Nat) : (s.ans c).tal = s.tal := rfl
@[simp] theorem State.ans_can (c : Nat) : (s.ans c).can = s.can := rfl
@[simp] theorem State.ans_stop (c : Nat) : (s.ans c).stop = s.stop := rfl
@[simp] theorem State.ans_upd (c : Nat) : (s.ans c).upd = s.upd := rfl
@[simp] theorem State.ans_bst (c : Nat) : (s.ans c).bst = s.bst := rfl
@[simp] theorem State.ans_cell (c : Nat) : (s.ans c).cell = s.cell := rfl
@[simp] theorem State.ans_boot (c : Nat) : (s.ans c).boot = s.boot := rfl
@[simp] theorem State.ans_hst (c : Nat) : (s.ans c).hst = s.hst := rfl
@[simp] theorem State.ans_lib (c : Nat) : (s.ans c).lib = s.lib := rfl
@[simp] theorem State.ans_ejecting (c : Nat) : (s.ans c).ejecting = s.ejecting := rfl
@[simp] theorem State.ans_trapPend (c : Nat) : (s.ans c).trapPend = s.trapPend := rfl
@[simp] theorem State.reply_pending (c v : Nat) : (s.reply c v).pending = s.pending := rfl
@[simp] theorem State.reply_fresh (c v : Nat) : (s.reply c v).fresh = s.fresh := rfl
@[simp] theorem State.reply_regs (c v : Nat) : (s.reply c v).regs = s.regs := rfl
@[simp] theorem State.reply_mem (c v : Nat) : (s.reply c v).mem = s.mem := rfl
@[simp] theorem State.reply_holdLow (c v : Nat) : (s.reply c v).holdLow = s.holdLow := rfl
@[simp] theorem State.reply_holdHigh (c v : Nat) : (s.reply c v).holdHigh = s.holdHigh := rfl
@[simp] theorem State.reply_held (c v : Nat) : (s.reply c v).held = s.held := rfl
@[simp] theorem State.reply_idleSince (c v : Nat) : (s.reply c v).idleSince = s.idleSince := rfl
@[simp] theorem State.reply_sent (c v : Nat) : (s.reply c v).sent = s.sent := rfl
@[simp] theorem State.reply_qsent (c v : Nat) : (s.reply c v).qsent = s.qsent := rfl
@[simp] theorem State.reply_stamps (c v : Nat) : (s.reply c v).stamps = s.stamps := rfl
@[simp] theorem State.reply_memc (c v : Nat) : (s.reply c v).memc = s.memc := rfl
@[simp] theorem State.reply_eng (c v : Nat) : (s.reply c v).eng = s.eng := rfl
@[simp] theorem State.reply_dug (c v : Nat) : (s.reply c v).dug = s.dug := rfl
@[simp] theorem State.reply_que (c v : Nat) : (s.reply c v).que = s.que := rfl
@[simp] theorem State.reply_tim (c v : Nat) : (s.reply c v).tim = s.tim := rfl
@[simp] theorem State.reply_scb (c v : Nat) : (s.reply c v).scb = s.scb := rfl
@[simp] theorem State.reply_bxl (c v : Nat) : (s.reply c v).bxl = s.bxl := rfl
@[simp] theorem State.reply_smp (c v : Nat) : (s.reply c v).smp = s.smp := rfl
@[simp] theorem State.reply_gbb (c v : Nat) : (s.reply c v).gbb = s.gbb := rfl
@[simp] theorem State.reply_gob (c v : Nat) : (s.reply c v).gob = s.gob := rfl
@[simp] theorem State.reply_pos (c v : Nat) : (s.reply c v).pos = s.pos := rfl
@[simp] theorem State.reply_eth (c v : Nat) : (s.reply c v).eth = s.eth := rfl
@[simp] theorem State.reply_rad (c v : Nat) : (s.reply c v).rad = s.rad := rfl
@[simp] theorem State.reply_zon (c v : Nat) : (s.reply c v).zon = s.zon := rfl
@[simp] theorem State.reply_mch (c v : Nat) : (s.reply c v).mch = s.mch := rfl
@[simp] theorem State.reply_tal (c v : Nat) : (s.reply c v).tal = s.tal := rfl
@[simp] theorem State.reply_can (c v : Nat) : (s.reply c v).can = s.can := rfl
@[simp] theorem State.reply_stop (c v : Nat) : (s.reply c v).stop = s.stop := rfl
@[simp] theorem State.reply_upd (c v : Nat) : (s.reply c v).upd = s.upd := rfl
@[simp] theorem State.reply_bst (c v : Nat) : (s.reply c v).bst = s.bst := rfl
@[simp] theorem State.reply_cell (c v : Nat) : (s.reply c v).cell = s.cell := rfl
@[simp] theorem State.reply_boot (c v : Nat) : (s.reply c v).boot = s.boot := rfl
@[simp] theorem State.reply_hst (c v : Nat) : (s.reply c v).hst = s.hst := rfl
@[simp] theorem State.reply_lib (c v : Nat) : (s.reply c v).lib = s.lib := rfl
@[simp] theorem State.reply_ejecting (c v : Nat) : (s.reply c v).ejecting = s.ejecting := rfl
@[simp] theorem State.reply_trapPend (c v : Nat) : (s.reply c v).trapPend = s.trapPend := rfl
@[simp] theorem State.send_pending (t : Token) : (s.send t).pending = s.pending := rfl
@[simp] theorem State.send_fresh (t : Token) : (s.send t).fresh = s.fresh := rfl
@[simp] theorem State.send_answer (t : Token) : (s.send t).answer = s.answer := rfl
@[simp] theorem State.send_data (t : Token) : (s.send t).data = s.data := rfl
@[simp] theorem State.send_regs (t : Token) : (s.send t).regs = s.regs := rfl
@[simp] theorem State.send_mem (t : Token) : (s.send t).mem = s.mem := rfl
@[simp] theorem State.send_holdLow (t : Token) : (s.send t).holdLow = s.holdLow := rfl
@[simp] theorem State.send_holdHigh (t : Token) : (s.send t).holdHigh = s.holdHigh := rfl
@[simp] theorem State.send_held (t : Token) : (s.send t).held = s.held := rfl
@[simp] theorem State.send_idleSince (t : Token) : (s.send t).idleSince = s.idleSince := rfl
@[simp] theorem State.send_qsent (t : Token) : (s.send t).qsent = s.qsent := rfl
@[simp] theorem State.send_stamps (t : Token) : (s.send t).stamps = s.stamps := rfl
@[simp] theorem State.send_memc (t : Token) : (s.send t).memc = s.memc := rfl
@[simp] theorem State.send_eng (t : Token) : (s.send t).eng = s.eng := rfl
@[simp] theorem State.send_dug (t : Token) : (s.send t).dug = s.dug := rfl
@[simp] theorem State.send_que (t : Token) : (s.send t).que = s.que := rfl
@[simp] theorem State.send_tim (t : Token) : (s.send t).tim = s.tim := rfl
@[simp] theorem State.send_scb (t : Token) : (s.send t).scb = s.scb := rfl
@[simp] theorem State.send_bxl (t : Token) : (s.send t).bxl = s.bxl := rfl
@[simp] theorem State.send_smp (t : Token) : (s.send t).smp = s.smp := rfl
@[simp] theorem State.send_gbb (t : Token) : (s.send t).gbb = s.gbb := rfl
@[simp] theorem State.send_gob (t : Token) : (s.send t).gob = s.gob := rfl
@[simp] theorem State.send_pos (t : Token) : (s.send t).pos = s.pos := rfl
@[simp] theorem State.send_eth (t : Token) : (s.send t).eth = s.eth := rfl
@[simp] theorem State.send_rad (t : Token) : (s.send t).rad = s.rad := rfl
@[simp] theorem State.send_zon (t : Token) : (s.send t).zon = s.zon := rfl
@[simp] theorem State.send_mch (t : Token) : (s.send t).mch = s.mch := rfl
@[simp] theorem State.send_tal (t : Token) : (s.send t).tal = s.tal := rfl
@[simp] theorem State.send_can (t : Token) : (s.send t).can = s.can := rfl
@[simp] theorem State.send_stop (t : Token) : (s.send t).stop = s.stop := rfl
@[simp] theorem State.send_upd (t : Token) : (s.send t).upd = s.upd := rfl
@[simp] theorem State.send_bst (t : Token) : (s.send t).bst = s.bst := rfl
@[simp] theorem State.send_cell (t : Token) : (s.send t).cell = s.cell := rfl
@[simp] theorem State.send_boot (t : Token) : (s.send t).boot = s.boot := rfl
@[simp] theorem State.send_hst (t : Token) : (s.send t).hst = s.hst := rfl
@[simp] theorem State.send_lib (t : Token) : (s.send t).lib = s.lib := rfl
@[simp] theorem State.send_ejecting (t : Token) : (s.send t).ejecting = s.ejecting := rfl
@[simp] theorem State.send_trapPend (t : Token) : (s.send t).trapPend = s.trapPend := rfl
@[simp] theorem State.sendQ_pending (w : QWord) : (s.sendQ w).pending = s.pending := rfl
@[simp] theorem State.sendQ_fresh (w : QWord) : (s.sendQ w).fresh = s.fresh := rfl
@[simp] theorem State.sendQ_answer (w : QWord) : (s.sendQ w).answer = s.answer := rfl
@[simp] theorem State.sendQ_data (w : QWord) : (s.sendQ w).data = s.data := rfl
@[simp] theorem State.sendQ_regs (w : QWord) : (s.sendQ w).regs = s.regs := rfl
@[simp] theorem State.sendQ_mem (w : QWord) : (s.sendQ w).mem = s.mem := rfl
@[simp] theorem State.sendQ_holdLow (w : QWord) : (s.sendQ w).holdLow = s.holdLow := rfl
@[simp] theorem State.sendQ_holdHigh (w : QWord) : (s.sendQ w).holdHigh = s.holdHigh := rfl
@[simp] theorem State.sendQ_held (w : QWord) : (s.sendQ w).held = s.held := rfl
@[simp] theorem State.sendQ_idleSince (w : QWord) : (s.sendQ w).idleSince = s.idleSince := rfl
@[simp] theorem State.sendQ_sent (w : QWord) : (s.sendQ w).sent = s.sent := rfl
@[simp] theorem State.sendQ_stamps (w : QWord) : (s.sendQ w).stamps = s.stamps := rfl
@[simp] theorem State.sendQ_memc (w : QWord) : (s.sendQ w).memc = s.memc := rfl
@[simp] theorem State.sendQ_eng (w : QWord) : (s.sendQ w).eng = s.eng := rfl
@[simp] theorem State.sendQ_dug (w : QWord) : (s.sendQ w).dug = s.dug := rfl
@[simp] theorem State.sendQ_que (w : QWord) : (s.sendQ w).que = s.que := rfl
@[simp] theorem State.sendQ_tim (w : QWord) : (s.sendQ w).tim = s.tim := rfl
@[simp] theorem State.sendQ_scb (w : QWord) : (s.sendQ w).scb = s.scb := rfl
@[simp] theorem State.sendQ_bxl (w : QWord) : (s.sendQ w).bxl = s.bxl := rfl
@[simp] theorem State.sendQ_smp (w : QWord) : (s.sendQ w).smp = s.smp := rfl
@[simp] theorem State.sendQ_gbb (w : QWord) : (s.sendQ w).gbb = s.gbb := rfl
@[simp] theorem State.sendQ_gob (w : QWord) : (s.sendQ w).gob = s.gob := rfl
@[simp] theorem State.sendQ_pos (w : QWord) : (s.sendQ w).pos = s.pos := rfl
@[simp] theorem State.sendQ_eth (w : QWord) : (s.sendQ w).eth = s.eth := rfl
@[simp] theorem State.sendQ_rad (w : QWord) : (s.sendQ w).rad = s.rad := rfl
@[simp] theorem State.sendQ_zon (w : QWord) : (s.sendQ w).zon = s.zon := rfl
@[simp] theorem State.sendQ_mch (w : QWord) : (s.sendQ w).mch = s.mch := rfl
@[simp] theorem State.sendQ_tal (w : QWord) : (s.sendQ w).tal = s.tal := rfl
@[simp] theorem State.sendQ_can (w : QWord) : (s.sendQ w).can = s.can := rfl
@[simp] theorem State.sendQ_stop (w : QWord) : (s.sendQ w).stop = s.stop := rfl
@[simp] theorem State.sendQ_upd (w : QWord) : (s.sendQ w).upd = s.upd := rfl
@[simp] theorem State.sendQ_bst (w : QWord) : (s.sendQ w).bst = s.bst := rfl
@[simp] theorem State.sendQ_cell (w : QWord) : (s.sendQ w).cell = s.cell := rfl
@[simp] theorem State.sendQ_boot (w : QWord) : (s.sendQ w).boot = s.boot := rfl
@[simp] theorem State.sendQ_hst (w : QWord) : (s.sendQ w).hst = s.hst := rfl
@[simp] theorem State.sendQ_lib (w : QWord) : (s.sendQ w).lib = s.lib := rfl
@[simp] theorem State.sendQ_ejecting (w : QWord) : (s.sendQ w).ejecting = s.ejecting := rfl
@[simp] theorem State.sendQ_trapPend (w : QWord) : (s.sendQ w).trapPend = s.trapPend := rfl
@[simp] theorem State.setEng_pending (e : Nat) (x : EngSt) : (s.setEng e x).pending = s.pending := rfl
@[simp] theorem State.setEng_fresh (e : Nat) (x : EngSt) : (s.setEng e x).fresh = s.fresh := rfl
@[simp] theorem State.setEng_answer (e : Nat) (x : EngSt) : (s.setEng e x).answer = s.answer := rfl
@[simp] theorem State.setEng_data (e : Nat) (x : EngSt) : (s.setEng e x).data = s.data := rfl
@[simp] theorem State.setEng_regs (e : Nat) (x : EngSt) : (s.setEng e x).regs = s.regs := rfl
@[simp] theorem State.setEng_mem (e : Nat) (x : EngSt) : (s.setEng e x).mem = s.mem := rfl
@[simp] theorem State.setEng_holdLow (e : Nat) (x : EngSt) : (s.setEng e x).holdLow = s.holdLow := rfl
@[simp] theorem State.setEng_holdHigh (e : Nat) (x : EngSt) : (s.setEng e x).holdHigh = s.holdHigh := rfl
@[simp] theorem State.setEng_held (e : Nat) (x : EngSt) : (s.setEng e x).held = s.held := rfl
@[simp] theorem State.setEng_idleSince (e : Nat) (x : EngSt) : (s.setEng e x).idleSince = s.idleSince := rfl
@[simp] theorem State.setEng_sent (e : Nat) (x : EngSt) : (s.setEng e x).sent = s.sent := rfl
@[simp] theorem State.setEng_qsent (e : Nat) (x : EngSt) : (s.setEng e x).qsent = s.qsent := rfl
@[simp] theorem State.setEng_stamps (e : Nat) (x : EngSt) : (s.setEng e x).stamps = s.stamps := rfl
@[simp] theorem State.setEng_memc (e : Nat) (x : EngSt) : (s.setEng e x).memc = s.memc := rfl
@[simp] theorem State.setEng_dug (e : Nat) (x : EngSt) : (s.setEng e x).dug = s.dug := rfl
@[simp] theorem State.setEng_que (e : Nat) (x : EngSt) : (s.setEng e x).que = s.que := rfl
@[simp] theorem State.setEng_tim (e : Nat) (x : EngSt) : (s.setEng e x).tim = s.tim := rfl
@[simp] theorem State.setEng_scb (e : Nat) (x : EngSt) : (s.setEng e x).scb = s.scb := rfl
@[simp] theorem State.setEng_bxl (e : Nat) (x : EngSt) : (s.setEng e x).bxl = s.bxl := rfl
@[simp] theorem State.setEng_smp (e : Nat) (x : EngSt) : (s.setEng e x).smp = s.smp := rfl
@[simp] theorem State.setEng_gbb (e : Nat) (x : EngSt) : (s.setEng e x).gbb = s.gbb := rfl
@[simp] theorem State.setEng_gob (e : Nat) (x : EngSt) : (s.setEng e x).gob = s.gob := rfl
@[simp] theorem State.setEng_pos (e : Nat) (x : EngSt) : (s.setEng e x).pos = s.pos := rfl
@[simp] theorem State.setEng_eth (e : Nat) (x : EngSt) : (s.setEng e x).eth = s.eth := rfl
@[simp] theorem State.setEng_rad (e : Nat) (x : EngSt) : (s.setEng e x).rad = s.rad := rfl
@[simp] theorem State.setEng_zon (e : Nat) (x : EngSt) : (s.setEng e x).zon = s.zon := rfl
@[simp] theorem State.setEng_mch (e : Nat) (x : EngSt) : (s.setEng e x).mch = s.mch := rfl
@[simp] theorem State.setEng_tal (e : Nat) (x : EngSt) : (s.setEng e x).tal = s.tal := rfl
@[simp] theorem State.setEng_can (e : Nat) (x : EngSt) : (s.setEng e x).can = s.can := rfl
@[simp] theorem State.setEng_stop (e : Nat) (x : EngSt) : (s.setEng e x).stop = s.stop := rfl
@[simp] theorem State.setEng_upd (e : Nat) (x : EngSt) : (s.setEng e x).upd = s.upd := rfl
@[simp] theorem State.setEng_bst (e : Nat) (x : EngSt) : (s.setEng e x).bst = s.bst := rfl
@[simp] theorem State.setEng_cell (e : Nat) (x : EngSt) : (s.setEng e x).cell = s.cell := rfl
@[simp] theorem State.setEng_boot (e : Nat) (x : EngSt) : (s.setEng e x).boot = s.boot := rfl
@[simp] theorem State.setEng_hst (e : Nat) (x : EngSt) : (s.setEng e x).hst = s.hst := rfl
@[simp] theorem State.setEng_lib (e : Nat) (x : EngSt) : (s.setEng e x).lib = s.lib := rfl
@[simp] theorem State.setEng_ejecting (e : Nat) (x : EngSt) : (s.setEng e x).ejecting = s.ejecting := rfl
@[simp] theorem State.setEng_trapPend (e : Nat) (x : EngSt) : (s.setEng e x).trapPend = s.trapPend := rfl
@[simp] theorem State.setCtx_pending (e c : Nat) (x : Ctx) : (s.setCtx e c x).pending = s.pending := rfl
@[simp] theorem State.setCtx_fresh (e c : Nat) (x : Ctx) : (s.setCtx e c x).fresh = s.fresh := rfl
@[simp] theorem State.setCtx_answer (e c : Nat) (x : Ctx) : (s.setCtx e c x).answer = s.answer := rfl
@[simp] theorem State.setCtx_data (e c : Nat) (x : Ctx) : (s.setCtx e c x).data = s.data := rfl
@[simp] theorem State.setCtx_regs (e c : Nat) (x : Ctx) : (s.setCtx e c x).regs = s.regs := rfl
@[simp] theorem State.setCtx_mem (e c : Nat) (x : Ctx) : (s.setCtx e c x).mem = s.mem := rfl
@[simp] theorem State.setCtx_holdLow (e c : Nat) (x : Ctx) : (s.setCtx e c x).holdLow = s.holdLow := rfl
@[simp] theorem State.setCtx_holdHigh (e c : Nat) (x : Ctx) : (s.setCtx e c x).holdHigh = s.holdHigh := rfl
@[simp] theorem State.setCtx_held (e c : Nat) (x : Ctx) : (s.setCtx e c x).held = s.held := rfl
@[simp] theorem State.setCtx_idleSince (e c : Nat) (x : Ctx) : (s.setCtx e c x).idleSince = s.idleSince := rfl
@[simp] theorem State.setCtx_sent (e c : Nat) (x : Ctx) : (s.setCtx e c x).sent = s.sent := rfl
@[simp] theorem State.setCtx_qsent (e c : Nat) (x : Ctx) : (s.setCtx e c x).qsent = s.qsent := rfl
@[simp] theorem State.setCtx_stamps (e c : Nat) (x : Ctx) : (s.setCtx e c x).stamps = s.stamps := rfl
@[simp] theorem State.setCtx_memc (e c : Nat) (x : Ctx) : (s.setCtx e c x).memc = s.memc := rfl
@[simp] theorem State.setCtx_dug (e c : Nat) (x : Ctx) : (s.setCtx e c x).dug = s.dug := rfl
@[simp] theorem State.setCtx_que (e c : Nat) (x : Ctx) : (s.setCtx e c x).que = s.que := rfl
@[simp] theorem State.setCtx_tim (e c : Nat) (x : Ctx) : (s.setCtx e c x).tim = s.tim := rfl
@[simp] theorem State.setCtx_scb (e c : Nat) (x : Ctx) : (s.setCtx e c x).scb = s.scb := rfl
@[simp] theorem State.setCtx_bxl (e c : Nat) (x : Ctx) : (s.setCtx e c x).bxl = s.bxl := rfl
@[simp] theorem State.setCtx_smp (e c : Nat) (x : Ctx) : (s.setCtx e c x).smp = s.smp := rfl
@[simp] theorem State.setCtx_gbb (e c : Nat) (x : Ctx) : (s.setCtx e c x).gbb = s.gbb := rfl
@[simp] theorem State.setCtx_gob (e c : Nat) (x : Ctx) : (s.setCtx e c x).gob = s.gob := rfl
@[simp] theorem State.setCtx_pos (e c : Nat) (x : Ctx) : (s.setCtx e c x).pos = s.pos := rfl
@[simp] theorem State.setCtx_eth (e c : Nat) (x : Ctx) : (s.setCtx e c x).eth = s.eth := rfl
@[simp] theorem State.setCtx_rad (e c : Nat) (x : Ctx) : (s.setCtx e c x).rad = s.rad := rfl
@[simp] theorem State.setCtx_zon (e c : Nat) (x : Ctx) : (s.setCtx e c x).zon = s.zon := rfl
@[simp] theorem State.setCtx_mch (e c : Nat) (x : Ctx) : (s.setCtx e c x).mch = s.mch := rfl
@[simp] theorem State.setCtx_tal (e c : Nat) (x : Ctx) : (s.setCtx e c x).tal = s.tal := rfl
@[simp] theorem State.setCtx_can (e c : Nat) (x : Ctx) : (s.setCtx e c x).can = s.can := rfl
@[simp] theorem State.setCtx_stop (e c : Nat) (x : Ctx) : (s.setCtx e c x).stop = s.stop := rfl
@[simp] theorem State.setCtx_upd (e c : Nat) (x : Ctx) : (s.setCtx e c x).upd = s.upd := rfl
@[simp] theorem State.setCtx_bst (e c : Nat) (x : Ctx) : (s.setCtx e c x).bst = s.bst := rfl
@[simp] theorem State.setCtx_cell (e c : Nat) (x : Ctx) : (s.setCtx e c x).cell = s.cell := rfl
@[simp] theorem State.setCtx_boot (e c : Nat) (x : Ctx) : (s.setCtx e c x).boot = s.boot := rfl
@[simp] theorem State.setCtx_hst (e c : Nat) (x : Ctx) : (s.setCtx e c x).hst = s.hst := rfl
@[simp] theorem State.setCtx_lib (e c : Nat) (x : Ctx) : (s.setCtx e c x).lib = s.lib := rfl
@[simp] theorem State.setCtx_ejecting (e c : Nat) (x : Ctx) : (s.setCtx e c x).ejecting = s.ejecting := rfl
@[simp] theorem State.setCtx_trapPend (e c : Nat) (x : Ctx) : (s.setCtx e c x).trapPend = s.trapPend := rfl
@[simp] theorem State.setInst_pending (i : Nat) (d : Desc) : (s.setInst i d).pending = s.pending := rfl
@[simp] theorem State.setInst_fresh (i : Nat) (d : Desc) : (s.setInst i d).fresh = s.fresh := rfl
@[simp] theorem State.setInst_answer (i : Nat) (d : Desc) : (s.setInst i d).answer = s.answer := rfl
@[simp] theorem State.setInst_data (i : Nat) (d : Desc) : (s.setInst i d).data = s.data := rfl
@[simp] theorem State.setInst_regs (i : Nat) (d : Desc) : (s.setInst i d).regs = s.regs := rfl
@[simp] theorem State.setInst_mem (i : Nat) (d : Desc) : (s.setInst i d).mem = s.mem := rfl
@[simp] theorem State.setInst_holdLow (i : Nat) (d : Desc) : (s.setInst i d).holdLow = s.holdLow := rfl
@[simp] theorem State.setInst_holdHigh (i : Nat) (d : Desc) : (s.setInst i d).holdHigh = s.holdHigh := rfl
@[simp] theorem State.setInst_held (i : Nat) (d : Desc) : (s.setInst i d).held = s.held := rfl
@[simp] theorem State.setInst_idleSince (i : Nat) (d : Desc) : (s.setInst i d).idleSince = s.idleSince := rfl
@[simp] theorem State.setInst_sent (i : Nat) (d : Desc) : (s.setInst i d).sent = s.sent := rfl
@[simp] theorem State.setInst_qsent (i : Nat) (d : Desc) : (s.setInst i d).qsent = s.qsent := rfl
@[simp] theorem State.setInst_stamps (i : Nat) (d : Desc) : (s.setInst i d).stamps = s.stamps := rfl
@[simp] theorem State.setInst_memc (i : Nat) (d : Desc) : (s.setInst i d).memc = s.memc := rfl
@[simp] theorem State.setInst_eng (i : Nat) (d : Desc) : (s.setInst i d).eng = s.eng := rfl
@[simp] theorem State.setInst_que (i : Nat) (d : Desc) : (s.setInst i d).que = s.que := rfl
@[simp] theorem State.setInst_tim (i : Nat) (d : Desc) : (s.setInst i d).tim = s.tim := rfl
@[simp] theorem State.setInst_scb (i : Nat) (d : Desc) : (s.setInst i d).scb = s.scb := rfl
@[simp] theorem State.setInst_bxl (i : Nat) (d : Desc) : (s.setInst i d).bxl = s.bxl := rfl
@[simp] theorem State.setInst_smp (i : Nat) (d : Desc) : (s.setInst i d).smp = s.smp := rfl
@[simp] theorem State.setInst_gbb (i : Nat) (d : Desc) : (s.setInst i d).gbb = s.gbb := rfl
@[simp] theorem State.setInst_gob (i : Nat) (d : Desc) : (s.setInst i d).gob = s.gob := rfl
@[simp] theorem State.setInst_pos (i : Nat) (d : Desc) : (s.setInst i d).pos = s.pos := rfl
@[simp] theorem State.setInst_eth (i : Nat) (d : Desc) : (s.setInst i d).eth = s.eth := rfl
@[simp] theorem State.setInst_rad (i : Nat) (d : Desc) : (s.setInst i d).rad = s.rad := rfl
@[simp] theorem State.setInst_zon (i : Nat) (d : Desc) : (s.setInst i d).zon = s.zon := rfl
@[simp] theorem State.setInst_mch (i : Nat) (d : Desc) : (s.setInst i d).mch = s.mch := rfl
@[simp] theorem State.setInst_tal (i : Nat) (d : Desc) : (s.setInst i d).tal = s.tal := rfl
@[simp] theorem State.setInst_can (i : Nat) (d : Desc) : (s.setInst i d).can = s.can := rfl
@[simp] theorem State.setInst_stop (i : Nat) (d : Desc) : (s.setInst i d).stop = s.stop := rfl
@[simp] theorem State.setInst_upd (i : Nat) (d : Desc) : (s.setInst i d).upd = s.upd := rfl
@[simp] theorem State.setInst_bst (i : Nat) (d : Desc) : (s.setInst i d).bst = s.bst := rfl
@[simp] theorem State.setInst_cell (i : Nat) (d : Desc) : (s.setInst i d).cell = s.cell := rfl
@[simp] theorem State.setInst_boot (i : Nat) (d : Desc) : (s.setInst i d).boot = s.boot := rfl
@[simp] theorem State.setInst_hst (i : Nat) (d : Desc) : (s.setInst i d).hst = s.hst := rfl
@[simp] theorem State.setInst_lib (i : Nat) (d : Desc) : (s.setInst i d).lib = s.lib := rfl
@[simp] theorem State.setInst_ejecting (i : Nat) (d : Desc) : (s.setInst i d).ejecting = s.ejecting := rfl
@[simp] theorem State.setInst_trapPend (i : Nat) (d : Desc) : (s.setInst i d).trapPend = s.trapPend := rfl
@[simp] theorem State.setTempl_pending (i : Nat) (d : Desc) : (s.setTempl i d).pending = s.pending := rfl
@[simp] theorem State.setTempl_fresh (i : Nat) (d : Desc) : (s.setTempl i d).fresh = s.fresh := rfl
@[simp] theorem State.setTempl_answer (i : Nat) (d : Desc) : (s.setTempl i d).answer = s.answer := rfl
@[simp] theorem State.setTempl_data (i : Nat) (d : Desc) : (s.setTempl i d).data = s.data := rfl
@[simp] theorem State.setTempl_regs (i : Nat) (d : Desc) : (s.setTempl i d).regs = s.regs := rfl
@[simp] theorem State.setTempl_mem (i : Nat) (d : Desc) : (s.setTempl i d).mem = s.mem := rfl
@[simp] theorem State.setTempl_holdLow (i : Nat) (d : Desc) : (s.setTempl i d).holdLow = s.holdLow := rfl
@[simp] theorem State.setTempl_holdHigh (i : Nat) (d : Desc) : (s.setTempl i d).holdHigh = s.holdHigh := rfl
@[simp] theorem State.setTempl_held (i : Nat) (d : Desc) : (s.setTempl i d).held = s.held := rfl
@[simp] theorem State.setTempl_idleSince (i : Nat) (d : Desc) : (s.setTempl i d).idleSince = s.idleSince := rfl
@[simp] theorem State.setTempl_sent (i : Nat) (d : Desc) : (s.setTempl i d).sent = s.sent := rfl
@[simp] theorem State.setTempl_qsent (i : Nat) (d : Desc) : (s.setTempl i d).qsent = s.qsent := rfl
@[simp] theorem State.setTempl_stamps (i : Nat) (d : Desc) : (s.setTempl i d).stamps = s.stamps := rfl
@[simp] theorem State.setTempl_memc (i : Nat) (d : Desc) : (s.setTempl i d).memc = s.memc := rfl
@[simp] theorem State.setTempl_eng (i : Nat) (d : Desc) : (s.setTempl i d).eng = s.eng := rfl
@[simp] theorem State.setTempl_que (i : Nat) (d : Desc) : (s.setTempl i d).que = s.que := rfl
@[simp] theorem State.setTempl_tim (i : Nat) (d : Desc) : (s.setTempl i d).tim = s.tim := rfl
@[simp] theorem State.setTempl_scb (i : Nat) (d : Desc) : (s.setTempl i d).scb = s.scb := rfl
@[simp] theorem State.setTempl_bxl (i : Nat) (d : Desc) : (s.setTempl i d).bxl = s.bxl := rfl
@[simp] theorem State.setTempl_smp (i : Nat) (d : Desc) : (s.setTempl i d).smp = s.smp := rfl
@[simp] theorem State.setTempl_gbb (i : Nat) (d : Desc) : (s.setTempl i d).gbb = s.gbb := rfl
@[simp] theorem State.setTempl_gob (i : Nat) (d : Desc) : (s.setTempl i d).gob = s.gob := rfl
@[simp] theorem State.setTempl_pos (i : Nat) (d : Desc) : (s.setTempl i d).pos = s.pos := rfl
@[simp] theorem State.setTempl_eth (i : Nat) (d : Desc) : (s.setTempl i d).eth = s.eth := rfl
@[simp] theorem State.setTempl_rad (i : Nat) (d : Desc) : (s.setTempl i d).rad = s.rad := rfl
@[simp] theorem State.setTempl_zon (i : Nat) (d : Desc) : (s.setTempl i d).zon = s.zon := rfl
@[simp] theorem State.setTempl_mch (i : Nat) (d : Desc) : (s.setTempl i d).mch = s.mch := rfl
@[simp] theorem State.setTempl_tal (i : Nat) (d : Desc) : (s.setTempl i d).tal = s.tal := rfl
@[simp] theorem State.setTempl_can (i : Nat) (d : Desc) : (s.setTempl i d).can = s.can := rfl
@[simp] theorem State.setTempl_stop (i : Nat) (d : Desc) : (s.setTempl i d).stop = s.stop := rfl
@[simp] theorem State.setTempl_upd (i : Nat) (d : Desc) : (s.setTempl i d).upd = s.upd := rfl
@[simp] theorem State.setTempl_bst (i : Nat) (d : Desc) : (s.setTempl i d).bst = s.bst := rfl
@[simp] theorem State.setTempl_cell (i : Nat) (d : Desc) : (s.setTempl i d).cell = s.cell := rfl
@[simp] theorem State.setTempl_boot (i : Nat) (d : Desc) : (s.setTempl i d).boot = s.boot := rfl
@[simp] theorem State.setTempl_hst (i : Nat) (d : Desc) : (s.setTempl i d).hst = s.hst := rfl
@[simp] theorem State.setTempl_lib (i : Nat) (d : Desc) : (s.setTempl i d).lib = s.lib := rfl
@[simp] theorem State.setTempl_ejecting (i : Nat) (d : Desc) : (s.setTempl i d).ejecting = s.ejecting := rfl
@[simp] theorem State.setTempl_trapPend (i : Nat) (d : Desc) : (s.setTempl i d).trapPend = s.trapPend := rfl
@[simp] theorem State.setFlow_pending (i : Nat) (x : Flow) : (s.setFlow i x).pending = s.pending := rfl
@[simp] theorem State.setFlow_fresh (i : Nat) (x : Flow) : (s.setFlow i x).fresh = s.fresh := rfl
@[simp] theorem State.setFlow_answer (i : Nat) (x : Flow) : (s.setFlow i x).answer = s.answer := rfl
@[simp] theorem State.setFlow_data (i : Nat) (x : Flow) : (s.setFlow i x).data = s.data := rfl
@[simp] theorem State.setFlow_regs (i : Nat) (x : Flow) : (s.setFlow i x).regs = s.regs := rfl
@[simp] theorem State.setFlow_mem (i : Nat) (x : Flow) : (s.setFlow i x).mem = s.mem := rfl
@[simp] theorem State.setFlow_holdLow (i : Nat) (x : Flow) : (s.setFlow i x).holdLow = s.holdLow := rfl
@[simp] theorem State.setFlow_holdHigh (i : Nat) (x : Flow) : (s.setFlow i x).holdHigh = s.holdHigh := rfl
@[simp] theorem State.setFlow_held (i : Nat) (x : Flow) : (s.setFlow i x).held = s.held := rfl
@[simp] theorem State.setFlow_idleSince (i : Nat) (x : Flow) : (s.setFlow i x).idleSince = s.idleSince := rfl
@[simp] theorem State.setFlow_sent (i : Nat) (x : Flow) : (s.setFlow i x).sent = s.sent := rfl
@[simp] theorem State.setFlow_qsent (i : Nat) (x : Flow) : (s.setFlow i x).qsent = s.qsent := rfl
@[simp] theorem State.setFlow_stamps (i : Nat) (x : Flow) : (s.setFlow i x).stamps = s.stamps := rfl
@[simp] theorem State.setFlow_memc (i : Nat) (x : Flow) : (s.setFlow i x).memc = s.memc := rfl
@[simp] theorem State.setFlow_eng (i : Nat) (x : Flow) : (s.setFlow i x).eng = s.eng := rfl
@[simp] theorem State.setFlow_que (i : Nat) (x : Flow) : (s.setFlow i x).que = s.que := rfl
@[simp] theorem State.setFlow_tim (i : Nat) (x : Flow) : (s.setFlow i x).tim = s.tim := rfl
@[simp] theorem State.setFlow_scb (i : Nat) (x : Flow) : (s.setFlow i x).scb = s.scb := rfl
@[simp] theorem State.setFlow_bxl (i : Nat) (x : Flow) : (s.setFlow i x).bxl = s.bxl := rfl
@[simp] theorem State.setFlow_smp (i : Nat) (x : Flow) : (s.setFlow i x).smp = s.smp := rfl
@[simp] theorem State.setFlow_gbb (i : Nat) (x : Flow) : (s.setFlow i x).gbb = s.gbb := rfl
@[simp] theorem State.setFlow_gob (i : Nat) (x : Flow) : (s.setFlow i x).gob = s.gob := rfl
@[simp] theorem State.setFlow_pos (i : Nat) (x : Flow) : (s.setFlow i x).pos = s.pos := rfl
@[simp] theorem State.setFlow_eth (i : Nat) (x : Flow) : (s.setFlow i x).eth = s.eth := rfl
@[simp] theorem State.setFlow_rad (i : Nat) (x : Flow) : (s.setFlow i x).rad = s.rad := rfl
@[simp] theorem State.setFlow_zon (i : Nat) (x : Flow) : (s.setFlow i x).zon = s.zon := rfl
@[simp] theorem State.setFlow_mch (i : Nat) (x : Flow) : (s.setFlow i x).mch = s.mch := rfl
@[simp] theorem State.setFlow_tal (i : Nat) (x : Flow) : (s.setFlow i x).tal = s.tal := rfl
@[simp] theorem State.setFlow_can (i : Nat) (x : Flow) : (s.setFlow i x).can = s.can := rfl
@[simp] theorem State.setFlow_stop (i : Nat) (x : Flow) : (s.setFlow i x).stop = s.stop := rfl
@[simp] theorem State.setFlow_upd (i : Nat) (x : Flow) : (s.setFlow i x).upd = s.upd := rfl
@[simp] theorem State.setFlow_bst (i : Nat) (x : Flow) : (s.setFlow i x).bst = s.bst := rfl
@[simp] theorem State.setFlow_cell (i : Nat) (x : Flow) : (s.setFlow i x).cell = s.cell := rfl
@[simp] theorem State.setFlow_boot (i : Nat) (x : Flow) : (s.setFlow i x).boot = s.boot := rfl
@[simp] theorem State.setFlow_hst (i : Nat) (x : Flow) : (s.setFlow i x).hst = s.hst := rfl
@[simp] theorem State.setFlow_lib (i : Nat) (x : Flow) : (s.setFlow i x).lib = s.lib := rfl
@[simp] theorem State.setFlow_ejecting (i : Nat) (x : Flow) : (s.setFlow i x).ejecting = s.ejecting := rfl
@[simp] theorem State.setFlow_trapPend (i : Nat) (x : Flow) : (s.setFlow i x).trapPend = s.trapPend := rfl
@[simp] theorem State.setQ_pending (n : Nat) (x : Queue) : (s.setQ n x).pending = s.pending := rfl
@[simp] theorem State.setQ_fresh (n : Nat) (x : Queue) : (s.setQ n x).fresh = s.fresh := rfl
@[simp] theorem State.setQ_answer (n : Nat) (x : Queue) : (s.setQ n x).answer = s.answer := rfl
@[simp] theorem State.setQ_data (n : Nat) (x : Queue) : (s.setQ n x).data = s.data := rfl
@[simp] theorem State.setQ_regs (n : Nat) (x : Queue) : (s.setQ n x).regs = s.regs := rfl
@[simp] theorem State.setQ_mem (n : Nat) (x : Queue) : (s.setQ n x).mem = s.mem := rfl
@[simp] theorem State.setQ_holdLow (n : Nat) (x : Queue) : (s.setQ n x).holdLow = s.holdLow := rfl
@[simp] theorem State.setQ_holdHigh (n : Nat) (x : Queue) : (s.setQ n x).holdHigh = s.holdHigh := rfl
@[simp] theorem State.setQ_held (n : Nat) (x : Queue) : (s.setQ n x).held = s.held := rfl
@[simp] theorem State.setQ_idleSince (n : Nat) (x : Queue) : (s.setQ n x).idleSince = s.idleSince := rfl
@[simp] theorem State.setQ_sent (n : Nat) (x : Queue) : (s.setQ n x).sent = s.sent := rfl
@[simp] theorem State.setQ_qsent (n : Nat) (x : Queue) : (s.setQ n x).qsent = s.qsent := rfl
@[simp] theorem State.setQ_stamps (n : Nat) (x : Queue) : (s.setQ n x).stamps = s.stamps := rfl
@[simp] theorem State.setQ_memc (n : Nat) (x : Queue) : (s.setQ n x).memc = s.memc := rfl
@[simp] theorem State.setQ_eng (n : Nat) (x : Queue) : (s.setQ n x).eng = s.eng := rfl
@[simp] theorem State.setQ_dug (n : Nat) (x : Queue) : (s.setQ n x).dug = s.dug := rfl
@[simp] theorem State.setQ_tim (n : Nat) (x : Queue) : (s.setQ n x).tim = s.tim := rfl
@[simp] theorem State.setQ_scb (n : Nat) (x : Queue) : (s.setQ n x).scb = s.scb := rfl
@[simp] theorem State.setQ_bxl (n : Nat) (x : Queue) : (s.setQ n x).bxl = s.bxl := rfl
@[simp] theorem State.setQ_smp (n : Nat) (x : Queue) : (s.setQ n x).smp = s.smp := rfl
@[simp] theorem State.setQ_gbb (n : Nat) (x : Queue) : (s.setQ n x).gbb = s.gbb := rfl
@[simp] theorem State.setQ_gob (n : Nat) (x : Queue) : (s.setQ n x).gob = s.gob := rfl
@[simp] theorem State.setQ_pos (n : Nat) (x : Queue) : (s.setQ n x).pos = s.pos := rfl
@[simp] theorem State.setQ_eth (n : Nat) (x : Queue) : (s.setQ n x).eth = s.eth := rfl
@[simp] theorem State.setQ_rad (n : Nat) (x : Queue) : (s.setQ n x).rad = s.rad := rfl
@[simp] theorem State.setQ_zon (n : Nat) (x : Queue) : (s.setQ n x).zon = s.zon := rfl
@[simp] theorem State.setQ_mch (n : Nat) (x : Queue) : (s.setQ n x).mch = s.mch := rfl
@[simp] theorem State.setQ_tal (n : Nat) (x : Queue) : (s.setQ n x).tal = s.tal := rfl
@[simp] theorem State.setQ_can (n : Nat) (x : Queue) : (s.setQ n x).can = s.can := rfl
@[simp] theorem State.setQ_stop (n : Nat) (x : Queue) : (s.setQ n x).stop = s.stop := rfl
@[simp] theorem State.setQ_upd (n : Nat) (x : Queue) : (s.setQ n x).upd = s.upd := rfl
@[simp] theorem State.setQ_bst (n : Nat) (x : Queue) : (s.setQ n x).bst = s.bst := rfl
@[simp] theorem State.setQ_cell (n : Nat) (x : Queue) : (s.setQ n x).cell = s.cell := rfl
@[simp] theorem State.setQ_boot (n : Nat) (x : Queue) : (s.setQ n x).boot = s.boot := rfl
@[simp] theorem State.setQ_hst (n : Nat) (x : Queue) : (s.setQ n x).hst = s.hst := rfl
@[simp] theorem State.setQ_lib (n : Nat) (x : Queue) : (s.setQ n x).lib = s.lib := rfl
@[simp] theorem State.setQ_ejecting (n : Nat) (x : Queue) : (s.setQ n x).ejecting = s.ejecting := rfl
@[simp] theorem State.setQ_trapPend (n : Nat) (x : Queue) : (s.setQ n x).trapPend = s.trapPend := rfl
@[simp] theorem State.setTim_pending (f : TimSt → TimSt) : (s.setTim f).pending = s.pending := rfl
@[simp] theorem State.setTim_fresh (f : TimSt → TimSt) : (s.setTim f).fresh = s.fresh := rfl
@[simp] theorem State.setTim_answer (f : TimSt → TimSt) : (s.setTim f).answer = s.answer := rfl
@[simp] theorem State.setTim_data (f : TimSt → TimSt) : (s.setTim f).data = s.data := rfl
@[simp] theorem State.setTim_regs (f : TimSt → TimSt) : (s.setTim f).regs = s.regs := rfl
@[simp] theorem State.setTim_mem (f : TimSt → TimSt) : (s.setTim f).mem = s.mem := rfl
@[simp] theorem State.setTim_holdLow (f : TimSt → TimSt) : (s.setTim f).holdLow = s.holdLow := rfl
@[simp] theorem State.setTim_holdHigh (f : TimSt → TimSt) : (s.setTim f).holdHigh = s.holdHigh := rfl
@[simp] theorem State.setTim_held (f : TimSt → TimSt) : (s.setTim f).held = s.held := rfl
@[simp] theorem State.setTim_idleSince (f : TimSt → TimSt) : (s.setTim f).idleSince = s.idleSince := rfl
@[simp] theorem State.setTim_sent (f : TimSt → TimSt) : (s.setTim f).sent = s.sent := rfl
@[simp] theorem State.setTim_qsent (f : TimSt → TimSt) : (s.setTim f).qsent = s.qsent := rfl
@[simp] theorem State.setTim_stamps (f : TimSt → TimSt) : (s.setTim f).stamps = s.stamps := rfl
@[simp] theorem State.setTim_memc (f : TimSt → TimSt) : (s.setTim f).memc = s.memc := rfl
@[simp] theorem State.setTim_eng (f : TimSt → TimSt) : (s.setTim f).eng = s.eng := rfl
@[simp] theorem State.setTim_dug (f : TimSt → TimSt) : (s.setTim f).dug = s.dug := rfl
@[simp] theorem State.setTim_que (f : TimSt → TimSt) : (s.setTim f).que = s.que := rfl
@[simp] theorem State.setTim_scb (f : TimSt → TimSt) : (s.setTim f).scb = s.scb := rfl
@[simp] theorem State.setTim_bxl (f : TimSt → TimSt) : (s.setTim f).bxl = s.bxl := rfl
@[simp] theorem State.setTim_smp (f : TimSt → TimSt) : (s.setTim f).smp = s.smp := rfl
@[simp] theorem State.setTim_gbb (f : TimSt → TimSt) : (s.setTim f).gbb = s.gbb := rfl
@[simp] theorem State.setTim_gob (f : TimSt → TimSt) : (s.setTim f).gob = s.gob := rfl
@[simp] theorem State.setTim_pos (f : TimSt → TimSt) : (s.setTim f).pos = s.pos := rfl
@[simp] theorem State.setTim_eth (f : TimSt → TimSt) : (s.setTim f).eth = s.eth := rfl
@[simp] theorem State.setTim_rad (f : TimSt → TimSt) : (s.setTim f).rad = s.rad := rfl
@[simp] theorem State.setTim_zon (f : TimSt → TimSt) : (s.setTim f).zon = s.zon := rfl
@[simp] theorem State.setTim_mch (f : TimSt → TimSt) : (s.setTim f).mch = s.mch := rfl
@[simp] theorem State.setTim_tal (f : TimSt → TimSt) : (s.setTim f).tal = s.tal := rfl
@[simp] theorem State.setTim_can (f : TimSt → TimSt) : (s.setTim f).can = s.can := rfl
@[simp] theorem State.setTim_stop (f : TimSt → TimSt) : (s.setTim f).stop = s.stop := rfl
@[simp] theorem State.setTim_upd (f : TimSt → TimSt) : (s.setTim f).upd = s.upd := rfl
@[simp] theorem State.setTim_bst (f : TimSt → TimSt) : (s.setTim f).bst = s.bst := rfl
@[simp] theorem State.setTim_cell (f : TimSt → TimSt) : (s.setTim f).cell = s.cell := rfl
@[simp] theorem State.setTim_boot (f : TimSt → TimSt) : (s.setTim f).boot = s.boot := rfl
@[simp] theorem State.setTim_hst (f : TimSt → TimSt) : (s.setTim f).hst = s.hst := rfl
@[simp] theorem State.setTim_lib (f : TimSt → TimSt) : (s.setTim f).lib = s.lib := rfl
@[simp] theorem State.setTim_ejecting (f : TimSt → TimSt) : (s.setTim f).ejecting = s.ejecting := rfl
@[simp] theorem State.setTim_trapPend (f : TimSt → TimSt) : (s.setTim f).trapPend = s.trapPend := rfl
@[simp] theorem State.setPin_pending (p : Nat) (x : PinSt) : (s.setPin p x).pending = s.pending := rfl
@[simp] theorem State.setPin_fresh (p : Nat) (x : PinSt) : (s.setPin p x).fresh = s.fresh := rfl
@[simp] theorem State.setPin_answer (p : Nat) (x : PinSt) : (s.setPin p x).answer = s.answer := rfl
@[simp] theorem State.setPin_data (p : Nat) (x : PinSt) : (s.setPin p x).data = s.data := rfl
@[simp] theorem State.setPin_regs (p : Nat) (x : PinSt) : (s.setPin p x).regs = s.regs := rfl
@[simp] theorem State.setPin_mem (p : Nat) (x : PinSt) : (s.setPin p x).mem = s.mem := rfl
@[simp] theorem State.setPin_holdLow (p : Nat) (x : PinSt) : (s.setPin p x).holdLow = s.holdLow := rfl
@[simp] theorem State.setPin_holdHigh (p : Nat) (x : PinSt) : (s.setPin p x).holdHigh = s.holdHigh := rfl
@[simp] theorem State.setPin_held (p : Nat) (x : PinSt) : (s.setPin p x).held = s.held := rfl
@[simp] theorem State.setPin_idleSince (p : Nat) (x : PinSt) : (s.setPin p x).idleSince = s.idleSince := rfl
@[simp] theorem State.setPin_sent (p : Nat) (x : PinSt) : (s.setPin p x).sent = s.sent := rfl
@[simp] theorem State.setPin_qsent (p : Nat) (x : PinSt) : (s.setPin p x).qsent = s.qsent := rfl
@[simp] theorem State.setPin_stamps (p : Nat) (x : PinSt) : (s.setPin p x).stamps = s.stamps := rfl
@[simp] theorem State.setPin_memc (p : Nat) (x : PinSt) : (s.setPin p x).memc = s.memc := rfl
@[simp] theorem State.setPin_eng (p : Nat) (x : PinSt) : (s.setPin p x).eng = s.eng := rfl
@[simp] theorem State.setPin_dug (p : Nat) (x : PinSt) : (s.setPin p x).dug = s.dug := rfl
@[simp] theorem State.setPin_que (p : Nat) (x : PinSt) : (s.setPin p x).que = s.que := rfl
@[simp] theorem State.setPin_scb (p : Nat) (x : PinSt) : (s.setPin p x).scb = s.scb := rfl
@[simp] theorem State.setPin_bxl (p : Nat) (x : PinSt) : (s.setPin p x).bxl = s.bxl := rfl
@[simp] theorem State.setPin_smp (p : Nat) (x : PinSt) : (s.setPin p x).smp = s.smp := rfl
@[simp] theorem State.setPin_gbb (p : Nat) (x : PinSt) : (s.setPin p x).gbb = s.gbb := rfl
@[simp] theorem State.setPin_gob (p : Nat) (x : PinSt) : (s.setPin p x).gob = s.gob := rfl
@[simp] theorem State.setPin_pos (p : Nat) (x : PinSt) : (s.setPin p x).pos = s.pos := rfl
@[simp] theorem State.setPin_eth (p : Nat) (x : PinSt) : (s.setPin p x).eth = s.eth := rfl
@[simp] theorem State.setPin_rad (p : Nat) (x : PinSt) : (s.setPin p x).rad = s.rad := rfl
@[simp] theorem State.setPin_zon (p : Nat) (x : PinSt) : (s.setPin p x).zon = s.zon := rfl
@[simp] theorem State.setPin_mch (p : Nat) (x : PinSt) : (s.setPin p x).mch = s.mch := rfl
@[simp] theorem State.setPin_tal (p : Nat) (x : PinSt) : (s.setPin p x).tal = s.tal := rfl
@[simp] theorem State.setPin_can (p : Nat) (x : PinSt) : (s.setPin p x).can = s.can := rfl
@[simp] theorem State.setPin_stop (p : Nat) (x : PinSt) : (s.setPin p x).stop = s.stop := rfl
@[simp] theorem State.setPin_upd (p : Nat) (x : PinSt) : (s.setPin p x).upd = s.upd := rfl
@[simp] theorem State.setPin_bst (p : Nat) (x : PinSt) : (s.setPin p x).bst = s.bst := rfl
@[simp] theorem State.setPin_cell (p : Nat) (x : PinSt) : (s.setPin p x).cell = s.cell := rfl
@[simp] theorem State.setPin_boot (p : Nat) (x : PinSt) : (s.setPin p x).boot = s.boot := rfl
@[simp] theorem State.setPin_hst (p : Nat) (x : PinSt) : (s.setPin p x).hst = s.hst := rfl
@[simp] theorem State.setPin_lib (p : Nat) (x : PinSt) : (s.setPin p x).lib = s.lib := rfl
@[simp] theorem State.setPin_ejecting (p : Nat) (x : PinSt) : (s.setPin p x).ejecting = s.ejecting := rfl
@[simp] theorem State.setPin_trapPend (p : Nat) (x : PinSt) : (s.setPin p x).trapPend = s.trapPend := rfl
@[simp] theorem State.setScb_pending (f : ScbSt → ScbSt) : (s.setScb f).pending = s.pending := rfl
@[simp] theorem State.setScb_fresh (f : ScbSt → ScbSt) : (s.setScb f).fresh = s.fresh := rfl
@[simp] theorem State.setScb_answer (f : ScbSt → ScbSt) : (s.setScb f).answer = s.answer := rfl
@[simp] theorem State.setScb_data (f : ScbSt → ScbSt) : (s.setScb f).data = s.data := rfl
@[simp] theorem State.setScb_regs (f : ScbSt → ScbSt) : (s.setScb f).regs = s.regs := rfl
@[simp] theorem State.setScb_mem (f : ScbSt → ScbSt) : (s.setScb f).mem = s.mem := rfl
@[simp] theorem State.setScb_holdLow (f : ScbSt → ScbSt) : (s.setScb f).holdLow = s.holdLow := rfl
@[simp] theorem State.setScb_holdHigh (f : ScbSt → ScbSt) : (s.setScb f).holdHigh = s.holdHigh := rfl
@[simp] theorem State.setScb_held (f : ScbSt → ScbSt) : (s.setScb f).held = s.held := rfl
@[simp] theorem State.setScb_idleSince (f : ScbSt → ScbSt) : (s.setScb f).idleSince = s.idleSince := rfl
@[simp] theorem State.setScb_sent (f : ScbSt → ScbSt) : (s.setScb f).sent = s.sent := rfl
@[simp] theorem State.setScb_qsent (f : ScbSt → ScbSt) : (s.setScb f).qsent = s.qsent := rfl
@[simp] theorem State.setScb_stamps (f : ScbSt → ScbSt) : (s.setScb f).stamps = s.stamps := rfl
@[simp] theorem State.setScb_memc (f : ScbSt → ScbSt) : (s.setScb f).memc = s.memc := rfl
@[simp] theorem State.setScb_eng (f : ScbSt → ScbSt) : (s.setScb f).eng = s.eng := rfl
@[simp] theorem State.setScb_dug (f : ScbSt → ScbSt) : (s.setScb f).dug = s.dug := rfl
@[simp] theorem State.setScb_que (f : ScbSt → ScbSt) : (s.setScb f).que = s.que := rfl
@[simp] theorem State.setScb_tim (f : ScbSt → ScbSt) : (s.setScb f).tim = s.tim := rfl
@[simp] theorem State.setScb_bxl (f : ScbSt → ScbSt) : (s.setScb f).bxl = s.bxl := rfl
@[simp] theorem State.setScb_smp (f : ScbSt → ScbSt) : (s.setScb f).smp = s.smp := rfl
@[simp] theorem State.setScb_gbb (f : ScbSt → ScbSt) : (s.setScb f).gbb = s.gbb := rfl
@[simp] theorem State.setScb_gob (f : ScbSt → ScbSt) : (s.setScb f).gob = s.gob := rfl
@[simp] theorem State.setScb_pos (f : ScbSt → ScbSt) : (s.setScb f).pos = s.pos := rfl
@[simp] theorem State.setScb_eth (f : ScbSt → ScbSt) : (s.setScb f).eth = s.eth := rfl
@[simp] theorem State.setScb_rad (f : ScbSt → ScbSt) : (s.setScb f).rad = s.rad := rfl
@[simp] theorem State.setScb_zon (f : ScbSt → ScbSt) : (s.setScb f).zon = s.zon := rfl
@[simp] theorem State.setScb_mch (f : ScbSt → ScbSt) : (s.setScb f).mch = s.mch := rfl
@[simp] theorem State.setScb_tal (f : ScbSt → ScbSt) : (s.setScb f).tal = s.tal := rfl
@[simp] theorem State.setScb_can (f : ScbSt → ScbSt) : (s.setScb f).can = s.can := rfl
@[simp] theorem State.setScb_stop (f : ScbSt → ScbSt) : (s.setScb f).stop = s.stop := rfl
@[simp] theorem State.setScb_upd (f : ScbSt → ScbSt) : (s.setScb f).upd = s.upd := rfl
@[simp] theorem State.setScb_bst (f : ScbSt → ScbSt) : (s.setScb f).bst = s.bst := rfl
@[simp] theorem State.setScb_cell (f : ScbSt → ScbSt) : (s.setScb f).cell = s.cell := rfl
@[simp] theorem State.setScb_boot (f : ScbSt → ScbSt) : (s.setScb f).boot = s.boot := rfl
@[simp] theorem State.setScb_hst (f : ScbSt → ScbSt) : (s.setScb f).hst = s.hst := rfl
@[simp] theorem State.setScb_lib (f : ScbSt → ScbSt) : (s.setScb f).lib = s.lib := rfl
@[simp] theorem State.setScb_ejecting (f : ScbSt → ScbSt) : (s.setScb f).ejecting = s.ejecting := rfl
@[simp] theorem State.setScb_trapPend (f : ScbSt → ScbSt) : (s.setScb f).trapPend = s.trapPend := rfl
@[simp] theorem State.setBxl_pending (f : BxlSt → BxlSt) : (s.setBxl f).pending = s.pending := rfl
@[simp] theorem State.setBxl_fresh (f : BxlSt → BxlSt) : (s.setBxl f).fresh = s.fresh := rfl
@[simp] theorem State.setBxl_answer (f : BxlSt → BxlSt) : (s.setBxl f).answer = s.answer := rfl
@[simp] theorem State.setBxl_data (f : BxlSt → BxlSt) : (s.setBxl f).data = s.data := rfl
@[simp] theorem State.setBxl_regs (f : BxlSt → BxlSt) : (s.setBxl f).regs = s.regs := rfl
@[simp] theorem State.setBxl_mem (f : BxlSt → BxlSt) : (s.setBxl f).mem = s.mem := rfl
@[simp] theorem State.setBxl_holdLow (f : BxlSt → BxlSt) : (s.setBxl f).holdLow = s.holdLow := rfl
@[simp] theorem State.setBxl_holdHigh (f : BxlSt → BxlSt) : (s.setBxl f).holdHigh = s.holdHigh := rfl
@[simp] theorem State.setBxl_held (f : BxlSt → BxlSt) : (s.setBxl f).held = s.held := rfl
@[simp] theorem State.setBxl_idleSince (f : BxlSt → BxlSt) : (s.setBxl f).idleSince = s.idleSince := rfl
@[simp] theorem State.setBxl_sent (f : BxlSt → BxlSt) : (s.setBxl f).sent = s.sent := rfl
@[simp] theorem State.setBxl_qsent (f : BxlSt → BxlSt) : (s.setBxl f).qsent = s.qsent := rfl
@[simp] theorem State.setBxl_stamps (f : BxlSt → BxlSt) : (s.setBxl f).stamps = s.stamps := rfl
@[simp] theorem State.setBxl_memc (f : BxlSt → BxlSt) : (s.setBxl f).memc = s.memc := rfl
@[simp] theorem State.setBxl_eng (f : BxlSt → BxlSt) : (s.setBxl f).eng = s.eng := rfl
@[simp] theorem State.setBxl_dug (f : BxlSt → BxlSt) : (s.setBxl f).dug = s.dug := rfl
@[simp] theorem State.setBxl_que (f : BxlSt → BxlSt) : (s.setBxl f).que = s.que := rfl
@[simp] theorem State.setBxl_tim (f : BxlSt → BxlSt) : (s.setBxl f).tim = s.tim := rfl
@[simp] theorem State.setBxl_scb (f : BxlSt → BxlSt) : (s.setBxl f).scb = s.scb := rfl
@[simp] theorem State.setBxl_smp (f : BxlSt → BxlSt) : (s.setBxl f).smp = s.smp := rfl
@[simp] theorem State.setBxl_gbb (f : BxlSt → BxlSt) : (s.setBxl f).gbb = s.gbb := rfl
@[simp] theorem State.setBxl_gob (f : BxlSt → BxlSt) : (s.setBxl f).gob = s.gob := rfl
@[simp] theorem State.setBxl_pos (f : BxlSt → BxlSt) : (s.setBxl f).pos = s.pos := rfl
@[simp] theorem State.setBxl_eth (f : BxlSt → BxlSt) : (s.setBxl f).eth = s.eth := rfl
@[simp] theorem State.setBxl_rad (f : BxlSt → BxlSt) : (s.setBxl f).rad = s.rad := rfl
@[simp] theorem State.setBxl_zon (f : BxlSt → BxlSt) : (s.setBxl f).zon = s.zon := rfl
@[simp] theorem State.setBxl_mch (f : BxlSt → BxlSt) : (s.setBxl f).mch = s.mch := rfl
@[simp] theorem State.setBxl_tal (f : BxlSt → BxlSt) : (s.setBxl f).tal = s.tal := rfl
@[simp] theorem State.setBxl_can (f : BxlSt → BxlSt) : (s.setBxl f).can = s.can := rfl
@[simp] theorem State.setBxl_stop (f : BxlSt → BxlSt) : (s.setBxl f).stop = s.stop := rfl
@[simp] theorem State.setBxl_upd (f : BxlSt → BxlSt) : (s.setBxl f).upd = s.upd := rfl
@[simp] theorem State.setBxl_bst (f : BxlSt → BxlSt) : (s.setBxl f).bst = s.bst := rfl
@[simp] theorem State.setBxl_cell (f : BxlSt → BxlSt) : (s.setBxl f).cell = s.cell := rfl
@[simp] theorem State.setBxl_boot (f : BxlSt → BxlSt) : (s.setBxl f).boot = s.boot := rfl
@[simp] theorem State.setBxl_hst (f : BxlSt → BxlSt) : (s.setBxl f).hst = s.hst := rfl
@[simp] theorem State.setBxl_lib (f : BxlSt → BxlSt) : (s.setBxl f).lib = s.lib := rfl
@[simp] theorem State.setBxl_ejecting (f : BxlSt → BxlSt) : (s.setBxl f).ejecting = s.ejecting := rfl
@[simp] theorem State.setBxl_trapPend (f : BxlSt → BxlSt) : (s.setBxl f).trapPend = s.trapPend := rfl
@[simp] theorem State.setPair_pending (p : Nat) (x : BxlPair) : (s.setPair p x).pending = s.pending := rfl
@[simp] theorem State.setPair_fresh (p : Nat) (x : BxlPair) : (s.setPair p x).fresh = s.fresh := rfl
@[simp] theorem State.setPair_answer (p : Nat) (x : BxlPair) : (s.setPair p x).answer = s.answer := rfl
@[simp] theorem State.setPair_data (p : Nat) (x : BxlPair) : (s.setPair p x).data = s.data := rfl
@[simp] theorem State.setPair_regs (p : Nat) (x : BxlPair) : (s.setPair p x).regs = s.regs := rfl
@[simp] theorem State.setPair_mem (p : Nat) (x : BxlPair) : (s.setPair p x).mem = s.mem := rfl
@[simp] theorem State.setPair_holdLow (p : Nat) (x : BxlPair) : (s.setPair p x).holdLow = s.holdLow := rfl
@[simp] theorem State.setPair_holdHigh (p : Nat) (x : BxlPair) : (s.setPair p x).holdHigh = s.holdHigh := rfl
@[simp] theorem State.setPair_held (p : Nat) (x : BxlPair) : (s.setPair p x).held = s.held := rfl
@[simp] theorem State.setPair_idleSince (p : Nat) (x : BxlPair) : (s.setPair p x).idleSince = s.idleSince := rfl
@[simp] theorem State.setPair_sent (p : Nat) (x : BxlPair) : (s.setPair p x).sent = s.sent := rfl
@[simp] theorem State.setPair_qsent (p : Nat) (x : BxlPair) : (s.setPair p x).qsent = s.qsent := rfl
@[simp] theorem State.setPair_stamps (p : Nat) (x : BxlPair) : (s.setPair p x).stamps = s.stamps := rfl
@[simp] theorem State.setPair_memc (p : Nat) (x : BxlPair) : (s.setPair p x).memc = s.memc := rfl
@[simp] theorem State.setPair_eng (p : Nat) (x : BxlPair) : (s.setPair p x).eng = s.eng := rfl
@[simp] theorem State.setPair_dug (p : Nat) (x : BxlPair) : (s.setPair p x).dug = s.dug := rfl
@[simp] theorem State.setPair_que (p : Nat) (x : BxlPair) : (s.setPair p x).que = s.que := rfl
@[simp] theorem State.setPair_tim (p : Nat) (x : BxlPair) : (s.setPair p x).tim = s.tim := rfl
@[simp] theorem State.setPair_scb (p : Nat) (x : BxlPair) : (s.setPair p x).scb = s.scb := rfl
@[simp] theorem State.setPair_smp (p : Nat) (x : BxlPair) : (s.setPair p x).smp = s.smp := rfl
@[simp] theorem State.setPair_gbb (p : Nat) (x : BxlPair) : (s.setPair p x).gbb = s.gbb := rfl
@[simp] theorem State.setPair_gob (p : Nat) (x : BxlPair) : (s.setPair p x).gob = s.gob := rfl
@[simp] theorem State.setPair_pos (p : Nat) (x : BxlPair) : (s.setPair p x).pos = s.pos := rfl
@[simp] theorem State.setPair_eth (p : Nat) (x : BxlPair) : (s.setPair p x).eth = s.eth := rfl
@[simp] theorem State.setPair_rad (p : Nat) (x : BxlPair) : (s.setPair p x).rad = s.rad := rfl
@[simp] theorem State.setPair_zon (p : Nat) (x : BxlPair) : (s.setPair p x).zon = s.zon := rfl
@[simp] theorem State.setPair_mch (p : Nat) (x : BxlPair) : (s.setPair p x).mch = s.mch := rfl
@[simp] theorem State.setPair_tal (p : Nat) (x : BxlPair) : (s.setPair p x).tal = s.tal := rfl
@[simp] theorem State.setPair_can (p : Nat) (x : BxlPair) : (s.setPair p x).can = s.can := rfl
@[simp] theorem State.setPair_stop (p : Nat) (x : BxlPair) : (s.setPair p x).stop = s.stop := rfl
@[simp] theorem State.setPair_upd (p : Nat) (x : BxlPair) : (s.setPair p x).upd = s.upd := rfl
@[simp] theorem State.setPair_bst (p : Nat) (x : BxlPair) : (s.setPair p x).bst = s.bst := rfl
@[simp] theorem State.setPair_cell (p : Nat) (x : BxlPair) : (s.setPair p x).cell = s.cell := rfl
@[simp] theorem State.setPair_boot (p : Nat) (x : BxlPair) : (s.setPair p x).boot = s.boot := rfl
@[simp] theorem State.setPair_hst (p : Nat) (x : BxlPair) : (s.setPair p x).hst = s.hst := rfl
@[simp] theorem State.setPair_lib (p : Nat) (x : BxlPair) : (s.setPair p x).lib = s.lib := rfl
@[simp] theorem State.setPair_ejecting (p : Nat) (x : BxlPair) : (s.setPair p x).ejecting = s.ejecting := rfl
@[simp] theorem State.setPair_trapPend (p : Nat) (x : BxlPair) : (s.setPair p x).trapPend = s.trapPend := rfl
@[simp] theorem State.setPort_pending (p : Nat) (x : SmpPort) : (s.setPort p x).pending = s.pending := rfl
@[simp] theorem State.setPort_fresh (p : Nat) (x : SmpPort) : (s.setPort p x).fresh = s.fresh := rfl
@[simp] theorem State.setPort_answer (p : Nat) (x : SmpPort) : (s.setPort p x).answer = s.answer := rfl
@[simp] theorem State.setPort_data (p : Nat) (x : SmpPort) : (s.setPort p x).data = s.data := rfl
@[simp] theorem State.setPort_regs (p : Nat) (x : SmpPort) : (s.setPort p x).regs = s.regs := rfl
@[simp] theorem State.setPort_mem (p : Nat) (x : SmpPort) : (s.setPort p x).mem = s.mem := rfl
@[simp] theorem State.setPort_holdLow (p : Nat) (x : SmpPort) : (s.setPort p x).holdLow = s.holdLow := rfl
@[simp] theorem State.setPort_holdHigh (p : Nat) (x : SmpPort) : (s.setPort p x).holdHigh = s.holdHigh := rfl
@[simp] theorem State.setPort_held (p : Nat) (x : SmpPort) : (s.setPort p x).held = s.held := rfl
@[simp] theorem State.setPort_idleSince (p : Nat) (x : SmpPort) : (s.setPort p x).idleSince = s.idleSince := rfl
@[simp] theorem State.setPort_sent (p : Nat) (x : SmpPort) : (s.setPort p x).sent = s.sent := rfl
@[simp] theorem State.setPort_qsent (p : Nat) (x : SmpPort) : (s.setPort p x).qsent = s.qsent := rfl
@[simp] theorem State.setPort_stamps (p : Nat) (x : SmpPort) : (s.setPort p x).stamps = s.stamps := rfl
@[simp] theorem State.setPort_memc (p : Nat) (x : SmpPort) : (s.setPort p x).memc = s.memc := rfl
@[simp] theorem State.setPort_eng (p : Nat) (x : SmpPort) : (s.setPort p x).eng = s.eng := rfl
@[simp] theorem State.setPort_dug (p : Nat) (x : SmpPort) : (s.setPort p x).dug = s.dug := rfl
@[simp] theorem State.setPort_que (p : Nat) (x : SmpPort) : (s.setPort p x).que = s.que := rfl
@[simp] theorem State.setPort_tim (p : Nat) (x : SmpPort) : (s.setPort p x).tim = s.tim := rfl
@[simp] theorem State.setPort_scb (p : Nat) (x : SmpPort) : (s.setPort p x).scb = s.scb := rfl
@[simp] theorem State.setPort_bxl (p : Nat) (x : SmpPort) : (s.setPort p x).bxl = s.bxl := rfl
@[simp] theorem State.setPort_gbb (p : Nat) (x : SmpPort) : (s.setPort p x).gbb = s.gbb := rfl
@[simp] theorem State.setPort_gob (p : Nat) (x : SmpPort) : (s.setPort p x).gob = s.gob := rfl
@[simp] theorem State.setPort_pos (p : Nat) (x : SmpPort) : (s.setPort p x).pos = s.pos := rfl
@[simp] theorem State.setPort_eth (p : Nat) (x : SmpPort) : (s.setPort p x).eth = s.eth := rfl
@[simp] theorem State.setPort_rad (p : Nat) (x : SmpPort) : (s.setPort p x).rad = s.rad := rfl
@[simp] theorem State.setPort_zon (p : Nat) (x : SmpPort) : (s.setPort p x).zon = s.zon := rfl
@[simp] theorem State.setPort_mch (p : Nat) (x : SmpPort) : (s.setPort p x).mch = s.mch := rfl
@[simp] theorem State.setPort_tal (p : Nat) (x : SmpPort) : (s.setPort p x).tal = s.tal := rfl
@[simp] theorem State.setPort_can (p : Nat) (x : SmpPort) : (s.setPort p x).can = s.can := rfl
@[simp] theorem State.setPort_stop (p : Nat) (x : SmpPort) : (s.setPort p x).stop = s.stop := rfl
@[simp] theorem State.setPort_upd (p : Nat) (x : SmpPort) : (s.setPort p x).upd = s.upd := rfl
@[simp] theorem State.setPort_bst (p : Nat) (x : SmpPort) : (s.setPort p x).bst = s.bst := rfl
@[simp] theorem State.setPort_cell (p : Nat) (x : SmpPort) : (s.setPort p x).cell = s.cell := rfl
@[simp] theorem State.setPort_boot (p : Nat) (x : SmpPort) : (s.setPort p x).boot = s.boot := rfl
@[simp] theorem State.setPort_hst (p : Nat) (x : SmpPort) : (s.setPort p x).hst = s.hst := rfl
@[simp] theorem State.setPort_lib (p : Nat) (x : SmpPort) : (s.setPort p x).lib = s.lib := rfl
@[simp] theorem State.setPort_ejecting (p : Nat) (x : SmpPort) : (s.setPort p x).ejecting = s.ejecting := rfl
@[simp] theorem State.setPort_trapPend (p : Nat) (x : SmpPort) : (s.setPort p x).trapPend = s.trapPend := rfl
@[simp] theorem State.setCh_pending (c : Nat) (x : Chan) : (s.setCh c x).pending = s.pending := rfl
@[simp] theorem State.setCh_fresh (c : Nat) (x : Chan) : (s.setCh c x).fresh = s.fresh := rfl
@[simp] theorem State.setCh_answer (c : Nat) (x : Chan) : (s.setCh c x).answer = s.answer := rfl
@[simp] theorem State.setCh_data (c : Nat) (x : Chan) : (s.setCh c x).data = s.data := rfl
@[simp] theorem State.setCh_regs (c : Nat) (x : Chan) : (s.setCh c x).regs = s.regs := rfl
@[simp] theorem State.setCh_mem (c : Nat) (x : Chan) : (s.setCh c x).mem = s.mem := rfl
@[simp] theorem State.setCh_holdLow (c : Nat) (x : Chan) : (s.setCh c x).holdLow = s.holdLow := rfl
@[simp] theorem State.setCh_holdHigh (c : Nat) (x : Chan) : (s.setCh c x).holdHigh = s.holdHigh := rfl
@[simp] theorem State.setCh_held (c : Nat) (x : Chan) : (s.setCh c x).held = s.held := rfl
@[simp] theorem State.setCh_idleSince (c : Nat) (x : Chan) : (s.setCh c x).idleSince = s.idleSince := rfl
@[simp] theorem State.setCh_sent (c : Nat) (x : Chan) : (s.setCh c x).sent = s.sent := rfl
@[simp] theorem State.setCh_qsent (c : Nat) (x : Chan) : (s.setCh c x).qsent = s.qsent := rfl
@[simp] theorem State.setCh_stamps (c : Nat) (x : Chan) : (s.setCh c x).stamps = s.stamps := rfl
@[simp] theorem State.setCh_memc (c : Nat) (x : Chan) : (s.setCh c x).memc = s.memc := rfl
@[simp] theorem State.setCh_eng (c : Nat) (x : Chan) : (s.setCh c x).eng = s.eng := rfl
@[simp] theorem State.setCh_dug (c : Nat) (x : Chan) : (s.setCh c x).dug = s.dug := rfl
@[simp] theorem State.setCh_que (c : Nat) (x : Chan) : (s.setCh c x).que = s.que := rfl
@[simp] theorem State.setCh_tim (c : Nat) (x : Chan) : (s.setCh c x).tim = s.tim := rfl
@[simp] theorem State.setCh_scb (c : Nat) (x : Chan) : (s.setCh c x).scb = s.scb := rfl
@[simp] theorem State.setCh_bxl (c : Nat) (x : Chan) : (s.setCh c x).bxl = s.bxl := rfl
@[simp] theorem State.setCh_smp (c : Nat) (x : Chan) : (s.setCh c x).smp = s.smp := rfl
@[simp] theorem State.setCh_gob (c : Nat) (x : Chan) : (s.setCh c x).gob = s.gob := rfl
@[simp] theorem State.setCh_pos (c : Nat) (x : Chan) : (s.setCh c x).pos = s.pos := rfl
@[simp] theorem State.setCh_eth (c : Nat) (x : Chan) : (s.setCh c x).eth = s.eth := rfl
@[simp] theorem State.setCh_rad (c : Nat) (x : Chan) : (s.setCh c x).rad = s.rad := rfl
@[simp] theorem State.setCh_zon (c : Nat) (x : Chan) : (s.setCh c x).zon = s.zon := rfl
@[simp] theorem State.setCh_mch (c : Nat) (x : Chan) : (s.setCh c x).mch = s.mch := rfl
@[simp] theorem State.setCh_tal (c : Nat) (x : Chan) : (s.setCh c x).tal = s.tal := rfl
@[simp] theorem State.setCh_can (c : Nat) (x : Chan) : (s.setCh c x).can = s.can := rfl
@[simp] theorem State.setCh_stop (c : Nat) (x : Chan) : (s.setCh c x).stop = s.stop := rfl
@[simp] theorem State.setCh_upd (c : Nat) (x : Chan) : (s.setCh c x).upd = s.upd := rfl
@[simp] theorem State.setCh_bst (c : Nat) (x : Chan) : (s.setCh c x).bst = s.bst := rfl
@[simp] theorem State.setCh_cell (c : Nat) (x : Chan) : (s.setCh c x).cell = s.cell := rfl
@[simp] theorem State.setCh_boot (c : Nat) (x : Chan) : (s.setCh c x).boot = s.boot := rfl
@[simp] theorem State.setCh_hst (c : Nat) (x : Chan) : (s.setCh c x).hst = s.hst := rfl
@[simp] theorem State.setCh_lib (c : Nat) (x : Chan) : (s.setCh c x).lib = s.lib := rfl
@[simp] theorem State.setCh_ejecting (c : Nat) (x : Chan) : (s.setCh c x).ejecting = s.ejecting := rfl
@[simp] theorem State.setCh_trapPend (c : Nat) (x : Chan) : (s.setCh c x).trapPend = s.trapPend := rfl
@[simp] theorem State.setGob_pending (f : GobSt → GobSt) : (s.setGob f).pending = s.pending := rfl
@[simp] theorem State.setGob_fresh (f : GobSt → GobSt) : (s.setGob f).fresh = s.fresh := rfl
@[simp] theorem State.setGob_answer (f : GobSt → GobSt) : (s.setGob f).answer = s.answer := rfl
@[simp] theorem State.setGob_data (f : GobSt → GobSt) : (s.setGob f).data = s.data := rfl
@[simp] theorem State.setGob_regs (f : GobSt → GobSt) : (s.setGob f).regs = s.regs := rfl
@[simp] theorem State.setGob_mem (f : GobSt → GobSt) : (s.setGob f).mem = s.mem := rfl
@[simp] theorem State.setGob_holdLow (f : GobSt → GobSt) : (s.setGob f).holdLow = s.holdLow := rfl
@[simp] theorem State.setGob_holdHigh (f : GobSt → GobSt) : (s.setGob f).holdHigh = s.holdHigh := rfl
@[simp] theorem State.setGob_held (f : GobSt → GobSt) : (s.setGob f).held = s.held := rfl
@[simp] theorem State.setGob_idleSince (f : GobSt → GobSt) : (s.setGob f).idleSince = s.idleSince := rfl
@[simp] theorem State.setGob_sent (f : GobSt → GobSt) : (s.setGob f).sent = s.sent := rfl
@[simp] theorem State.setGob_qsent (f : GobSt → GobSt) : (s.setGob f).qsent = s.qsent := rfl
@[simp] theorem State.setGob_stamps (f : GobSt → GobSt) : (s.setGob f).stamps = s.stamps := rfl
@[simp] theorem State.setGob_memc (f : GobSt → GobSt) : (s.setGob f).memc = s.memc := rfl
@[simp] theorem State.setGob_eng (f : GobSt → GobSt) : (s.setGob f).eng = s.eng := rfl
@[simp] theorem State.setGob_dug (f : GobSt → GobSt) : (s.setGob f).dug = s.dug := rfl
@[simp] theorem State.setGob_que (f : GobSt → GobSt) : (s.setGob f).que = s.que := rfl
@[simp] theorem State.setGob_tim (f : GobSt → GobSt) : (s.setGob f).tim = s.tim := rfl
@[simp] theorem State.setGob_scb (f : GobSt → GobSt) : (s.setGob f).scb = s.scb := rfl
@[simp] theorem State.setGob_bxl (f : GobSt → GobSt) : (s.setGob f).bxl = s.bxl := rfl
@[simp] theorem State.setGob_smp (f : GobSt → GobSt) : (s.setGob f).smp = s.smp := rfl
@[simp] theorem State.setGob_gbb (f : GobSt → GobSt) : (s.setGob f).gbb = s.gbb := rfl
@[simp] theorem State.setGob_pos (f : GobSt → GobSt) : (s.setGob f).pos = s.pos := rfl
@[simp] theorem State.setGob_eth (f : GobSt → GobSt) : (s.setGob f).eth = s.eth := rfl
@[simp] theorem State.setGob_rad (f : GobSt → GobSt) : (s.setGob f).rad = s.rad := rfl
@[simp] theorem State.setGob_zon (f : GobSt → GobSt) : (s.setGob f).zon = s.zon := rfl
@[simp] theorem State.setGob_mch (f : GobSt → GobSt) : (s.setGob f).mch = s.mch := rfl
@[simp] theorem State.setGob_tal (f : GobSt → GobSt) : (s.setGob f).tal = s.tal := rfl
@[simp] theorem State.setGob_can (f : GobSt → GobSt) : (s.setGob f).can = s.can := rfl
@[simp] theorem State.setGob_stop (f : GobSt → GobSt) : (s.setGob f).stop = s.stop := rfl
@[simp] theorem State.setGob_upd (f : GobSt → GobSt) : (s.setGob f).upd = s.upd := rfl
@[simp] theorem State.setGob_bst (f : GobSt → GobSt) : (s.setGob f).bst = s.bst := rfl
@[simp] theorem State.setGob_cell (f : GobSt → GobSt) : (s.setGob f).cell = s.cell := rfl
@[simp] theorem State.setGob_boot (f : GobSt → GobSt) : (s.setGob f).boot = s.boot := rfl
@[simp] theorem State.setGob_hst (f : GobSt → GobSt) : (s.setGob f).hst = s.hst := rfl
@[simp] theorem State.setGob_lib (f : GobSt → GobSt) : (s.setGob f).lib = s.lib := rfl
@[simp] theorem State.setGob_ejecting (f : GobSt → GobSt) : (s.setGob f).ejecting = s.ejecting := rfl
@[simp] theorem State.setGob_trapPend (f : GobSt → GobSt) : (s.setGob f).trapPend = s.trapPend := rfl
@[simp] theorem State.setRad_pending (f : RadSt → RadSt) : (s.setRad f).pending = s.pending := rfl
@[simp] theorem State.setRad_fresh (f : RadSt → RadSt) : (s.setRad f).fresh = s.fresh := rfl
@[simp] theorem State.setRad_answer (f : RadSt → RadSt) : (s.setRad f).answer = s.answer := rfl
@[simp] theorem State.setRad_data (f : RadSt → RadSt) : (s.setRad f).data = s.data := rfl
@[simp] theorem State.setRad_regs (f : RadSt → RadSt) : (s.setRad f).regs = s.regs := rfl
@[simp] theorem State.setRad_mem (f : RadSt → RadSt) : (s.setRad f).mem = s.mem := rfl
@[simp] theorem State.setRad_holdLow (f : RadSt → RadSt) : (s.setRad f).holdLow = s.holdLow := rfl
@[simp] theorem State.setRad_holdHigh (f : RadSt → RadSt) : (s.setRad f).holdHigh = s.holdHigh := rfl
@[simp] theorem State.setRad_held (f : RadSt → RadSt) : (s.setRad f).held = s.held := rfl
@[simp] theorem State.setRad_idleSince (f : RadSt → RadSt) : (s.setRad f).idleSince = s.idleSince := rfl
@[simp] theorem State.setRad_sent (f : RadSt → RadSt) : (s.setRad f).sent = s.sent := rfl
@[simp] theorem State.setRad_qsent (f : RadSt → RadSt) : (s.setRad f).qsent = s.qsent := rfl
@[simp] theorem State.setRad_stamps (f : RadSt → RadSt) : (s.setRad f).stamps = s.stamps := rfl
@[simp] theorem State.setRad_memc (f : RadSt → RadSt) : (s.setRad f).memc = s.memc := rfl
@[simp] theorem State.setRad_eng (f : RadSt → RadSt) : (s.setRad f).eng = s.eng := rfl
@[simp] theorem State.setRad_dug (f : RadSt → RadSt) : (s.setRad f).dug = s.dug := rfl
@[simp] theorem State.setRad_que (f : RadSt → RadSt) : (s.setRad f).que = s.que := rfl
@[simp] theorem State.setRad_tim (f : RadSt → RadSt) : (s.setRad f).tim = s.tim := rfl
@[simp] theorem State.setRad_scb (f : RadSt → RadSt) : (s.setRad f).scb = s.scb := rfl
@[simp] theorem State.setRad_bxl (f : RadSt → RadSt) : (s.setRad f).bxl = s.bxl := rfl
@[simp] theorem State.setRad_smp (f : RadSt → RadSt) : (s.setRad f).smp = s.smp := rfl
@[simp] theorem State.setRad_gbb (f : RadSt → RadSt) : (s.setRad f).gbb = s.gbb := rfl
@[simp] theorem State.setRad_gob (f : RadSt → RadSt) : (s.setRad f).gob = s.gob := rfl
@[simp] theorem State.setRad_pos (f : RadSt → RadSt) : (s.setRad f).pos = s.pos := rfl
@[simp] theorem State.setRad_eth (f : RadSt → RadSt) : (s.setRad f).eth = s.eth := rfl
@[simp] theorem State.setRad_zon (f : RadSt → RadSt) : (s.setRad f).zon = s.zon := rfl
@[simp] theorem State.setRad_mch (f : RadSt → RadSt) : (s.setRad f).mch = s.mch := rfl
@[simp] theorem State.setRad_tal (f : RadSt → RadSt) : (s.setRad f).tal = s.tal := rfl
@[simp] theorem State.setRad_can (f : RadSt → RadSt) : (s.setRad f).can = s.can := rfl
@[simp] theorem State.setRad_stop (f : RadSt → RadSt) : (s.setRad f).stop = s.stop := rfl
@[simp] theorem State.setRad_upd (f : RadSt → RadSt) : (s.setRad f).upd = s.upd := rfl
@[simp] theorem State.setRad_bst (f : RadSt → RadSt) : (s.setRad f).bst = s.bst := rfl
@[simp] theorem State.setRad_cell (f : RadSt → RadSt) : (s.setRad f).cell = s.cell := rfl
@[simp] theorem State.setRad_boot (f : RadSt → RadSt) : (s.setRad f).boot = s.boot := rfl
@[simp] theorem State.setRad_hst (f : RadSt → RadSt) : (s.setRad f).hst = s.hst := rfl
@[simp] theorem State.setRad_lib (f : RadSt → RadSt) : (s.setRad f).lib = s.lib := rfl
@[simp] theorem State.setRad_ejecting (f : RadSt → RadSt) : (s.setRad f).ejecting = s.ejecting := rfl
@[simp] theorem State.setRad_trapPend (f : RadSt → RadSt) : (s.setRad f).trapPend = s.trapPend := rfl
@[simp] theorem State.setRp_pending (n : Nat) (x : RadPort) : (s.setRp n x).pending = s.pending := rfl
@[simp] theorem State.setRp_fresh (n : Nat) (x : RadPort) : (s.setRp n x).fresh = s.fresh := rfl
@[simp] theorem State.setRp_answer (n : Nat) (x : RadPort) : (s.setRp n x).answer = s.answer := rfl
@[simp] theorem State.setRp_data (n : Nat) (x : RadPort) : (s.setRp n x).data = s.data := rfl
@[simp] theorem State.setRp_regs (n : Nat) (x : RadPort) : (s.setRp n x).regs = s.regs := rfl
@[simp] theorem State.setRp_mem (n : Nat) (x : RadPort) : (s.setRp n x).mem = s.mem := rfl
@[simp] theorem State.setRp_holdLow (n : Nat) (x : RadPort) : (s.setRp n x).holdLow = s.holdLow := rfl
@[simp] theorem State.setRp_holdHigh (n : Nat) (x : RadPort) : (s.setRp n x).holdHigh = s.holdHigh := rfl
@[simp] theorem State.setRp_held (n : Nat) (x : RadPort) : (s.setRp n x).held = s.held := rfl
@[simp] theorem State.setRp_idleSince (n : Nat) (x : RadPort) : (s.setRp n x).idleSince = s.idleSince := rfl
@[simp] theorem State.setRp_sent (n : Nat) (x : RadPort) : (s.setRp n x).sent = s.sent := rfl
@[simp] theorem State.setRp_qsent (n : Nat) (x : RadPort) : (s.setRp n x).qsent = s.qsent := rfl
@[simp] theorem State.setRp_stamps (n : Nat) (x : RadPort) : (s.setRp n x).stamps = s.stamps := rfl
@[simp] theorem State.setRp_memc (n : Nat) (x : RadPort) : (s.setRp n x).memc = s.memc := rfl
@[simp] theorem State.setRp_eng (n : Nat) (x : RadPort) : (s.setRp n x).eng = s.eng := rfl
@[simp] theorem State.setRp_dug (n : Nat) (x : RadPort) : (s.setRp n x).dug = s.dug := rfl
@[simp] theorem State.setRp_que (n : Nat) (x : RadPort) : (s.setRp n x).que = s.que := rfl
@[simp] theorem State.setRp_tim (n : Nat) (x : RadPort) : (s.setRp n x).tim = s.tim := rfl
@[simp] theorem State.setRp_scb (n : Nat) (x : RadPort) : (s.setRp n x).scb = s.scb := rfl
@[simp] theorem State.setRp_bxl (n : Nat) (x : RadPort) : (s.setRp n x).bxl = s.bxl := rfl
@[simp] theorem State.setRp_smp (n : Nat) (x : RadPort) : (s.setRp n x).smp = s.smp := rfl
@[simp] theorem State.setRp_gbb (n : Nat) (x : RadPort) : (s.setRp n x).gbb = s.gbb := rfl
@[simp] theorem State.setRp_gob (n : Nat) (x : RadPort) : (s.setRp n x).gob = s.gob := rfl
@[simp] theorem State.setRp_pos (n : Nat) (x : RadPort) : (s.setRp n x).pos = s.pos := rfl
@[simp] theorem State.setRp_eth (n : Nat) (x : RadPort) : (s.setRp n x).eth = s.eth := rfl
@[simp] theorem State.setRp_zon (n : Nat) (x : RadPort) : (s.setRp n x).zon = s.zon := rfl
@[simp] theorem State.setRp_mch (n : Nat) (x : RadPort) : (s.setRp n x).mch = s.mch := rfl
@[simp] theorem State.setRp_tal (n : Nat) (x : RadPort) : (s.setRp n x).tal = s.tal := rfl
@[simp] theorem State.setRp_can (n : Nat) (x : RadPort) : (s.setRp n x).can = s.can := rfl
@[simp] theorem State.setRp_stop (n : Nat) (x : RadPort) : (s.setRp n x).stop = s.stop := rfl
@[simp] theorem State.setRp_upd (n : Nat) (x : RadPort) : (s.setRp n x).upd = s.upd := rfl
@[simp] theorem State.setRp_bst (n : Nat) (x : RadPort) : (s.setRp n x).bst = s.bst := rfl
@[simp] theorem State.setRp_cell (n : Nat) (x : RadPort) : (s.setRp n x).cell = s.cell := rfl
@[simp] theorem State.setRp_boot (n : Nat) (x : RadPort) : (s.setRp n x).boot = s.boot := rfl
@[simp] theorem State.setRp_hst (n : Nat) (x : RadPort) : (s.setRp n x).hst = s.hst := rfl
@[simp] theorem State.setRp_lib (n : Nat) (x : RadPort) : (s.setRp n x).lib = s.lib := rfl
@[simp] theorem State.setRp_ejecting (n : Nat) (x : RadPort) : (s.setRp n x).ejecting = s.ejecting := rfl
@[simp] theorem State.setRp_trapPend (n : Nat) (x : RadPort) : (s.setRp n x).trapPend = s.trapPend := rfl
@[simp] theorem State.setRa_pending (a : Nat) (x : RadAssoc) : (s.setRa a x).pending = s.pending := rfl
@[simp] theorem State.setRa_fresh (a : Nat) (x : RadAssoc) : (s.setRa a x).fresh = s.fresh := rfl
@[simp] theorem State.setRa_answer (a : Nat) (x : RadAssoc) : (s.setRa a x).answer = s.answer := rfl
@[simp] theorem State.setRa_data (a : Nat) (x : RadAssoc) : (s.setRa a x).data = s.data := rfl
@[simp] theorem State.setRa_regs (a : Nat) (x : RadAssoc) : (s.setRa a x).regs = s.regs := rfl
@[simp] theorem State.setRa_mem (a : Nat) (x : RadAssoc) : (s.setRa a x).mem = s.mem := rfl
@[simp] theorem State.setRa_holdLow (a : Nat) (x : RadAssoc) : (s.setRa a x).holdLow = s.holdLow := rfl
@[simp] theorem State.setRa_holdHigh (a : Nat) (x : RadAssoc) : (s.setRa a x).holdHigh = s.holdHigh := rfl
@[simp] theorem State.setRa_held (a : Nat) (x : RadAssoc) : (s.setRa a x).held = s.held := rfl
@[simp] theorem State.setRa_idleSince (a : Nat) (x : RadAssoc) : (s.setRa a x).idleSince = s.idleSince := rfl
@[simp] theorem State.setRa_sent (a : Nat) (x : RadAssoc) : (s.setRa a x).sent = s.sent := rfl
@[simp] theorem State.setRa_qsent (a : Nat) (x : RadAssoc) : (s.setRa a x).qsent = s.qsent := rfl
@[simp] theorem State.setRa_stamps (a : Nat) (x : RadAssoc) : (s.setRa a x).stamps = s.stamps := rfl
@[simp] theorem State.setRa_memc (a : Nat) (x : RadAssoc) : (s.setRa a x).memc = s.memc := rfl
@[simp] theorem State.setRa_eng (a : Nat) (x : RadAssoc) : (s.setRa a x).eng = s.eng := rfl
@[simp] theorem State.setRa_dug (a : Nat) (x : RadAssoc) : (s.setRa a x).dug = s.dug := rfl
@[simp] theorem State.setRa_que (a : Nat) (x : RadAssoc) : (s.setRa a x).que = s.que := rfl
@[simp] theorem State.setRa_tim (a : Nat) (x : RadAssoc) : (s.setRa a x).tim = s.tim := rfl
@[simp] theorem State.setRa_scb (a : Nat) (x : RadAssoc) : (s.setRa a x).scb = s.scb := rfl
@[simp] theorem State.setRa_bxl (a : Nat) (x : RadAssoc) : (s.setRa a x).bxl = s.bxl := rfl
@[simp] theorem State.setRa_smp (a : Nat) (x : RadAssoc) : (s.setRa a x).smp = s.smp := rfl
@[simp] theorem State.setRa_gbb (a : Nat) (x : RadAssoc) : (s.setRa a x).gbb = s.gbb := rfl
@[simp] theorem State.setRa_gob (a : Nat) (x : RadAssoc) : (s.setRa a x).gob = s.gob := rfl
@[simp] theorem State.setRa_pos (a : Nat) (x : RadAssoc) : (s.setRa a x).pos = s.pos := rfl
@[simp] theorem State.setRa_eth (a : Nat) (x : RadAssoc) : (s.setRa a x).eth = s.eth := rfl
@[simp] theorem State.setRa_zon (a : Nat) (x : RadAssoc) : (s.setRa a x).zon = s.zon := rfl
@[simp] theorem State.setRa_mch (a : Nat) (x : RadAssoc) : (s.setRa a x).mch = s.mch := rfl
@[simp] theorem State.setRa_tal (a : Nat) (x : RadAssoc) : (s.setRa a x).tal = s.tal := rfl
@[simp] theorem State.setRa_can (a : Nat) (x : RadAssoc) : (s.setRa a x).can = s.can := rfl
@[simp] theorem State.setRa_stop (a : Nat) (x : RadAssoc) : (s.setRa a x).stop = s.stop := rfl
@[simp] theorem State.setRa_upd (a : Nat) (x : RadAssoc) : (s.setRa a x).upd = s.upd := rfl
@[simp] theorem State.setRa_bst (a : Nat) (x : RadAssoc) : (s.setRa a x).bst = s.bst := rfl
@[simp] theorem State.setRa_cell (a : Nat) (x : RadAssoc) : (s.setRa a x).cell = s.cell := rfl
@[simp] theorem State.setRa_boot (a : Nat) (x : RadAssoc) : (s.setRa a x).boot = s.boot := rfl
@[simp] theorem State.setRa_hst (a : Nat) (x : RadAssoc) : (s.setRa a x).hst = s.hst := rfl
@[simp] theorem State.setRa_lib (a : Nat) (x : RadAssoc) : (s.setRa a x).lib = s.lib := rfl
@[simp] theorem State.setRa_ejecting (a : Nat) (x : RadAssoc) : (s.setRa a x).ejecting = s.ejecting := rfl
@[simp] theorem State.setRa_trapPend (a : Nat) (x : RadAssoc) : (s.setRa a x).trapPend = s.trapPend := rfl
@[simp] theorem State.setRg_pending (g : Nat) (x : RadGroup) : (s.setRg g x).pending = s.pending := rfl
@[simp] theorem State.setRg_fresh (g : Nat) (x : RadGroup) : (s.setRg g x).fresh = s.fresh := rfl
@[simp] theorem State.setRg_answer (g : Nat) (x : RadGroup) : (s.setRg g x).answer = s.answer := rfl
@[simp] theorem State.setRg_data (g : Nat) (x : RadGroup) : (s.setRg g x).data = s.data := rfl
@[simp] theorem State.setRg_regs (g : Nat) (x : RadGroup) : (s.setRg g x).regs = s.regs := rfl
@[simp] theorem State.setRg_mem (g : Nat) (x : RadGroup) : (s.setRg g x).mem = s.mem := rfl
@[simp] theorem State.setRg_holdLow (g : Nat) (x : RadGroup) : (s.setRg g x).holdLow = s.holdLow := rfl
@[simp] theorem State.setRg_holdHigh (g : Nat) (x : RadGroup) : (s.setRg g x).holdHigh = s.holdHigh := rfl
@[simp] theorem State.setRg_held (g : Nat) (x : RadGroup) : (s.setRg g x).held = s.held := rfl
@[simp] theorem State.setRg_idleSince (g : Nat) (x : RadGroup) : (s.setRg g x).idleSince = s.idleSince := rfl
@[simp] theorem State.setRg_sent (g : Nat) (x : RadGroup) : (s.setRg g x).sent = s.sent := rfl
@[simp] theorem State.setRg_qsent (g : Nat) (x : RadGroup) : (s.setRg g x).qsent = s.qsent := rfl
@[simp] theorem State.setRg_stamps (g : Nat) (x : RadGroup) : (s.setRg g x).stamps = s.stamps := rfl
@[simp] theorem State.setRg_memc (g : Nat) (x : RadGroup) : (s.setRg g x).memc = s.memc := rfl
@[simp] theorem State.setRg_eng (g : Nat) (x : RadGroup) : (s.setRg g x).eng = s.eng := rfl
@[simp] theorem State.setRg_dug (g : Nat) (x : RadGroup) : (s.setRg g x).dug = s.dug := rfl
@[simp] theorem State.setRg_que (g : Nat) (x : RadGroup) : (s.setRg g x).que = s.que := rfl
@[simp] theorem State.setRg_tim (g : Nat) (x : RadGroup) : (s.setRg g x).tim = s.tim := rfl
@[simp] theorem State.setRg_scb (g : Nat) (x : RadGroup) : (s.setRg g x).scb = s.scb := rfl
@[simp] theorem State.setRg_bxl (g : Nat) (x : RadGroup) : (s.setRg g x).bxl = s.bxl := rfl
@[simp] theorem State.setRg_smp (g : Nat) (x : RadGroup) : (s.setRg g x).smp = s.smp := rfl
@[simp] theorem State.setRg_gbb (g : Nat) (x : RadGroup) : (s.setRg g x).gbb = s.gbb := rfl
@[simp] theorem State.setRg_gob (g : Nat) (x : RadGroup) : (s.setRg g x).gob = s.gob := rfl
@[simp] theorem State.setRg_pos (g : Nat) (x : RadGroup) : (s.setRg g x).pos = s.pos := rfl
@[simp] theorem State.setRg_eth (g : Nat) (x : RadGroup) : (s.setRg g x).eth = s.eth := rfl
@[simp] theorem State.setRg_zon (g : Nat) (x : RadGroup) : (s.setRg g x).zon = s.zon := rfl
@[simp] theorem State.setRg_mch (g : Nat) (x : RadGroup) : (s.setRg g x).mch = s.mch := rfl
@[simp] theorem State.setRg_tal (g : Nat) (x : RadGroup) : (s.setRg g x).tal = s.tal := rfl
@[simp] theorem State.setRg_can (g : Nat) (x : RadGroup) : (s.setRg g x).can = s.can := rfl
@[simp] theorem State.setRg_stop (g : Nat) (x : RadGroup) : (s.setRg g x).stop = s.stop := rfl
@[simp] theorem State.setRg_upd (g : Nat) (x : RadGroup) : (s.setRg g x).upd = s.upd := rfl
@[simp] theorem State.setRg_bst (g : Nat) (x : RadGroup) : (s.setRg g x).bst = s.bst := rfl
@[simp] theorem State.setRg_cell (g : Nat) (x : RadGroup) : (s.setRg g x).cell = s.cell := rfl
@[simp] theorem State.setRg_boot (g : Nat) (x : RadGroup) : (s.setRg g x).boot = s.boot := rfl
@[simp] theorem State.setRg_hst (g : Nat) (x : RadGroup) : (s.setRg g x).hst = s.hst := rfl
@[simp] theorem State.setRg_lib (g : Nat) (x : RadGroup) : (s.setRg g x).lib = s.lib := rfl
@[simp] theorem State.setRg_ejecting (g : Nat) (x : RadGroup) : (s.setRg g x).ejecting = s.ejecting := rfl
@[simp] theorem State.setRg_trapPend (g : Nat) (x : RadGroup) : (s.setRg g x).trapPend = s.trapPend := rfl
@[simp] theorem State.setZon_pending (f : ZonSt → ZonSt) : (s.setZon f).pending = s.pending := rfl
@[simp] theorem State.setZon_fresh (f : ZonSt → ZonSt) : (s.setZon f).fresh = s.fresh := rfl
@[simp] theorem State.setZon_answer (f : ZonSt → ZonSt) : (s.setZon f).answer = s.answer := rfl
@[simp] theorem State.setZon_data (f : ZonSt → ZonSt) : (s.setZon f).data = s.data := rfl
@[simp] theorem State.setZon_regs (f : ZonSt → ZonSt) : (s.setZon f).regs = s.regs := rfl
@[simp] theorem State.setZon_mem (f : ZonSt → ZonSt) : (s.setZon f).mem = s.mem := rfl
@[simp] theorem State.setZon_holdLow (f : ZonSt → ZonSt) : (s.setZon f).holdLow = s.holdLow := rfl
@[simp] theorem State.setZon_holdHigh (f : ZonSt → ZonSt) : (s.setZon f).holdHigh = s.holdHigh := rfl
@[simp] theorem State.setZon_held (f : ZonSt → ZonSt) : (s.setZon f).held = s.held := rfl
@[simp] theorem State.setZon_idleSince (f : ZonSt → ZonSt) : (s.setZon f).idleSince = s.idleSince := rfl
@[simp] theorem State.setZon_sent (f : ZonSt → ZonSt) : (s.setZon f).sent = s.sent := rfl
@[simp] theorem State.setZon_qsent (f : ZonSt → ZonSt) : (s.setZon f).qsent = s.qsent := rfl
@[simp] theorem State.setZon_stamps (f : ZonSt → ZonSt) : (s.setZon f).stamps = s.stamps := rfl
@[simp] theorem State.setZon_memc (f : ZonSt → ZonSt) : (s.setZon f).memc = s.memc := rfl
@[simp] theorem State.setZon_eng (f : ZonSt → ZonSt) : (s.setZon f).eng = s.eng := rfl
@[simp] theorem State.setZon_dug (f : ZonSt → ZonSt) : (s.setZon f).dug = s.dug := rfl
@[simp] theorem State.setZon_que (f : ZonSt → ZonSt) : (s.setZon f).que = s.que := rfl
@[simp] theorem State.setZon_tim (f : ZonSt → ZonSt) : (s.setZon f).tim = s.tim := rfl
@[simp] theorem State.setZon_scb (f : ZonSt → ZonSt) : (s.setZon f).scb = s.scb := rfl
@[simp] theorem State.setZon_bxl (f : ZonSt → ZonSt) : (s.setZon f).bxl = s.bxl := rfl
@[simp] theorem State.setZon_smp (f : ZonSt → ZonSt) : (s.setZon f).smp = s.smp := rfl
@[simp] theorem State.setZon_gbb (f : ZonSt → ZonSt) : (s.setZon f).gbb = s.gbb := rfl
@[simp] theorem State.setZon_gob (f : ZonSt → ZonSt) : (s.setZon f).gob = s.gob := rfl
@[simp] theorem State.setZon_pos (f : ZonSt → ZonSt) : (s.setZon f).pos = s.pos := rfl
@[simp] theorem State.setZon_eth (f : ZonSt → ZonSt) : (s.setZon f).eth = s.eth := rfl
@[simp] theorem State.setZon_rad (f : ZonSt → ZonSt) : (s.setZon f).rad = s.rad := rfl
@[simp] theorem State.setZon_mch (f : ZonSt → ZonSt) : (s.setZon f).mch = s.mch := rfl
@[simp] theorem State.setZon_tal (f : ZonSt → ZonSt) : (s.setZon f).tal = s.tal := rfl
@[simp] theorem State.setZon_can (f : ZonSt → ZonSt) : (s.setZon f).can = s.can := rfl
@[simp] theorem State.setZon_stop (f : ZonSt → ZonSt) : (s.setZon f).stop = s.stop := rfl
@[simp] theorem State.setZon_upd (f : ZonSt → ZonSt) : (s.setZon f).upd = s.upd := rfl
@[simp] theorem State.setZon_bst (f : ZonSt → ZonSt) : (s.setZon f).bst = s.bst := rfl
@[simp] theorem State.setZon_cell (f : ZonSt → ZonSt) : (s.setZon f).cell = s.cell := rfl
@[simp] theorem State.setZon_boot (f : ZonSt → ZonSt) : (s.setZon f).boot = s.boot := rfl
@[simp] theorem State.setZon_hst (f : ZonSt → ZonSt) : (s.setZon f).hst = s.hst := rfl
@[simp] theorem State.setZon_lib (f : ZonSt → ZonSt) : (s.setZon f).lib = s.lib := rfl
@[simp] theorem State.setZon_ejecting (f : ZonSt → ZonSt) : (s.setZon f).ejecting = s.ejecting := rfl
@[simp] theorem State.setZon_trapPend (f : ZonSt → ZonSt) : (s.setZon f).trapPend = s.trapPend := rfl
@[simp] theorem State.setSlot_pending (k : Nat) (x : MchSlot) : (s.setSlot k x).pending = s.pending := rfl
@[simp] theorem State.setSlot_fresh (k : Nat) (x : MchSlot) : (s.setSlot k x).fresh = s.fresh := rfl
@[simp] theorem State.setSlot_answer (k : Nat) (x : MchSlot) : (s.setSlot k x).answer = s.answer := rfl
@[simp] theorem State.setSlot_data (k : Nat) (x : MchSlot) : (s.setSlot k x).data = s.data := rfl
@[simp] theorem State.setSlot_regs (k : Nat) (x : MchSlot) : (s.setSlot k x).regs = s.regs := rfl
@[simp] theorem State.setSlot_mem (k : Nat) (x : MchSlot) : (s.setSlot k x).mem = s.mem := rfl
@[simp] theorem State.setSlot_holdLow (k : Nat) (x : MchSlot) : (s.setSlot k x).holdLow = s.holdLow := rfl
@[simp] theorem State.setSlot_holdHigh (k : Nat) (x : MchSlot) : (s.setSlot k x).holdHigh = s.holdHigh := rfl
@[simp] theorem State.setSlot_held (k : Nat) (x : MchSlot) : (s.setSlot k x).held = s.held := rfl
@[simp] theorem State.setSlot_idleSince (k : Nat) (x : MchSlot) : (s.setSlot k x).idleSince = s.idleSince := rfl
@[simp] theorem State.setSlot_sent (k : Nat) (x : MchSlot) : (s.setSlot k x).sent = s.sent := rfl
@[simp] theorem State.setSlot_qsent (k : Nat) (x : MchSlot) : (s.setSlot k x).qsent = s.qsent := rfl
@[simp] theorem State.setSlot_stamps (k : Nat) (x : MchSlot) : (s.setSlot k x).stamps = s.stamps := rfl
@[simp] theorem State.setSlot_memc (k : Nat) (x : MchSlot) : (s.setSlot k x).memc = s.memc := rfl
@[simp] theorem State.setSlot_eng (k : Nat) (x : MchSlot) : (s.setSlot k x).eng = s.eng := rfl
@[simp] theorem State.setSlot_dug (k : Nat) (x : MchSlot) : (s.setSlot k x).dug = s.dug := rfl
@[simp] theorem State.setSlot_que (k : Nat) (x : MchSlot) : (s.setSlot k x).que = s.que := rfl
@[simp] theorem State.setSlot_tim (k : Nat) (x : MchSlot) : (s.setSlot k x).tim = s.tim := rfl
@[simp] theorem State.setSlot_scb (k : Nat) (x : MchSlot) : (s.setSlot k x).scb = s.scb := rfl
@[simp] theorem State.setSlot_bxl (k : Nat) (x : MchSlot) : (s.setSlot k x).bxl = s.bxl := rfl
@[simp] theorem State.setSlot_smp (k : Nat) (x : MchSlot) : (s.setSlot k x).smp = s.smp := rfl
@[simp] theorem State.setSlot_gbb (k : Nat) (x : MchSlot) : (s.setSlot k x).gbb = s.gbb := rfl
@[simp] theorem State.setSlot_gob (k : Nat) (x : MchSlot) : (s.setSlot k x).gob = s.gob := rfl
@[simp] theorem State.setSlot_pos (k : Nat) (x : MchSlot) : (s.setSlot k x).pos = s.pos := rfl
@[simp] theorem State.setSlot_eth (k : Nat) (x : MchSlot) : (s.setSlot k x).eth = s.eth := rfl
@[simp] theorem State.setSlot_rad (k : Nat) (x : MchSlot) : (s.setSlot k x).rad = s.rad := rfl
@[simp] theorem State.setSlot_zon (k : Nat) (x : MchSlot) : (s.setSlot k x).zon = s.zon := rfl
@[simp] theorem State.setSlot_tal (k : Nat) (x : MchSlot) : (s.setSlot k x).tal = s.tal := rfl
@[simp] theorem State.setSlot_can (k : Nat) (x : MchSlot) : (s.setSlot k x).can = s.can := rfl
@[simp] theorem State.setSlot_stop (k : Nat) (x : MchSlot) : (s.setSlot k x).stop = s.stop := rfl
@[simp] theorem State.setSlot_upd (k : Nat) (x : MchSlot) : (s.setSlot k x).upd = s.upd := rfl
@[simp] theorem State.setSlot_bst (k : Nat) (x : MchSlot) : (s.setSlot k x).bst = s.bst := rfl
@[simp] theorem State.setSlot_cell (k : Nat) (x : MchSlot) : (s.setSlot k x).cell = s.cell := rfl
@[simp] theorem State.setSlot_boot (k : Nat) (x : MchSlot) : (s.setSlot k x).boot = s.boot := rfl
@[simp] theorem State.setSlot_hst (k : Nat) (x : MchSlot) : (s.setSlot k x).hst = s.hst := rfl
@[simp] theorem State.setSlot_lib (k : Nat) (x : MchSlot) : (s.setSlot k x).lib = s.lib := rfl
@[simp] theorem State.setSlot_ejecting (k : Nat) (x : MchSlot) : (s.setSlot k x).ejecting = s.ejecting := rfl
@[simp] theorem State.setSlot_trapPend (k : Nat) (x : MchSlot) : (s.setSlot k x).trapPend = s.trapPend := rfl
@[simp] theorem State.setAn_pending (c : Nat) (x : MchAn) : (s.setAn c x).pending = s.pending := rfl
@[simp] theorem State.setAn_fresh (c : Nat) (x : MchAn) : (s.setAn c x).fresh = s.fresh := rfl
@[simp] theorem State.setAn_answer (c : Nat) (x : MchAn) : (s.setAn c x).answer = s.answer := rfl
@[simp] theorem State.setAn_data (c : Nat) (x : MchAn) : (s.setAn c x).data = s.data := rfl
@[simp] theorem State.setAn_regs (c : Nat) (x : MchAn) : (s.setAn c x).regs = s.regs := rfl
@[simp] theorem State.setAn_mem (c : Nat) (x : MchAn) : (s.setAn c x).mem = s.mem := rfl
@[simp] theorem State.setAn_holdLow (c : Nat) (x : MchAn) : (s.setAn c x).holdLow = s.holdLow := rfl
@[simp] theorem State.setAn_holdHigh (c : Nat) (x : MchAn) : (s.setAn c x).holdHigh = s.holdHigh := rfl
@[simp] theorem State.setAn_held (c : Nat) (x : MchAn) : (s.setAn c x).held = s.held := rfl
@[simp] theorem State.setAn_idleSince (c : Nat) (x : MchAn) : (s.setAn c x).idleSince = s.idleSince := rfl
@[simp] theorem State.setAn_sent (c : Nat) (x : MchAn) : (s.setAn c x).sent = s.sent := rfl
@[simp] theorem State.setAn_qsent (c : Nat) (x : MchAn) : (s.setAn c x).qsent = s.qsent := rfl
@[simp] theorem State.setAn_stamps (c : Nat) (x : MchAn) : (s.setAn c x).stamps = s.stamps := rfl
@[simp] theorem State.setAn_memc (c : Nat) (x : MchAn) : (s.setAn c x).memc = s.memc := rfl
@[simp] theorem State.setAn_eng (c : Nat) (x : MchAn) : (s.setAn c x).eng = s.eng := rfl
@[simp] theorem State.setAn_dug (c : Nat) (x : MchAn) : (s.setAn c x).dug = s.dug := rfl
@[simp] theorem State.setAn_que (c : Nat) (x : MchAn) : (s.setAn c x).que = s.que := rfl
@[simp] theorem State.setAn_tim (c : Nat) (x : MchAn) : (s.setAn c x).tim = s.tim := rfl
@[simp] theorem State.setAn_scb (c : Nat) (x : MchAn) : (s.setAn c x).scb = s.scb := rfl
@[simp] theorem State.setAn_bxl (c : Nat) (x : MchAn) : (s.setAn c x).bxl = s.bxl := rfl
@[simp] theorem State.setAn_smp (c : Nat) (x : MchAn) : (s.setAn c x).smp = s.smp := rfl
@[simp] theorem State.setAn_gbb (c : Nat) (x : MchAn) : (s.setAn c x).gbb = s.gbb := rfl
@[simp] theorem State.setAn_gob (c : Nat) (x : MchAn) : (s.setAn c x).gob = s.gob := rfl
@[simp] theorem State.setAn_pos (c : Nat) (x : MchAn) : (s.setAn c x).pos = s.pos := rfl
@[simp] theorem State.setAn_eth (c : Nat) (x : MchAn) : (s.setAn c x).eth = s.eth := rfl
@[simp] theorem State.setAn_rad (c : Nat) (x : MchAn) : (s.setAn c x).rad = s.rad := rfl
@[simp] theorem State.setAn_zon (c : Nat) (x : MchAn) : (s.setAn c x).zon = s.zon := rfl
@[simp] theorem State.setAn_tal (c : Nat) (x : MchAn) : (s.setAn c x).tal = s.tal := rfl
@[simp] theorem State.setAn_can (c : Nat) (x : MchAn) : (s.setAn c x).can = s.can := rfl
@[simp] theorem State.setAn_stop (c : Nat) (x : MchAn) : (s.setAn c x).stop = s.stop := rfl
@[simp] theorem State.setAn_upd (c : Nat) (x : MchAn) : (s.setAn c x).upd = s.upd := rfl
@[simp] theorem State.setAn_bst (c : Nat) (x : MchAn) : (s.setAn c x).bst = s.bst := rfl
@[simp] theorem State.setAn_cell (c : Nat) (x : MchAn) : (s.setAn c x).cell = s.cell := rfl
@[simp] theorem State.setAn_boot (c : Nat) (x : MchAn) : (s.setAn c x).boot = s.boot := rfl
@[simp] theorem State.setAn_hst (c : Nat) (x : MchAn) : (s.setAn c x).hst = s.hst := rfl
@[simp] theorem State.setAn_lib (c : Nat) (x : MchAn) : (s.setAn c x).lib = s.lib := rfl
@[simp] theorem State.setAn_ejecting (c : Nat) (x : MchAn) : (s.setAn c x).ejecting = s.ejecting := rfl
@[simp] theorem State.setAn_trapPend (c : Nat) (x : MchAn) : (s.setAn c x).trapPend = s.trapPend := rfl
@[simp] theorem State.setPulse_pending (n : Nat) (x : MchPi) : (s.setPulse n x).pending = s.pending := rfl
@[simp] theorem State.setPulse_fresh (n : Nat) (x : MchPi) : (s.setPulse n x).fresh = s.fresh := rfl
@[simp] theorem State.setPulse_answer (n : Nat) (x : MchPi) : (s.setPulse n x).answer = s.answer := rfl
@[simp] theorem State.setPulse_data (n : Nat) (x : MchPi) : (s.setPulse n x).data = s.data := rfl
@[simp] theorem State.setPulse_regs (n : Nat) (x : MchPi) : (s.setPulse n x).regs = s.regs := rfl
@[simp] theorem State.setPulse_mem (n : Nat) (x : MchPi) : (s.setPulse n x).mem = s.mem := rfl
@[simp] theorem State.setPulse_holdLow (n : Nat) (x : MchPi) : (s.setPulse n x).holdLow = s.holdLow := rfl
@[simp] theorem State.setPulse_holdHigh (n : Nat) (x : MchPi) : (s.setPulse n x).holdHigh = s.holdHigh := rfl
@[simp] theorem State.setPulse_held (n : Nat) (x : MchPi) : (s.setPulse n x).held = s.held := rfl
@[simp] theorem State.setPulse_idleSince (n : Nat) (x : MchPi) : (s.setPulse n x).idleSince = s.idleSince := rfl
@[simp] theorem State.setPulse_sent (n : Nat) (x : MchPi) : (s.setPulse n x).sent = s.sent := rfl
@[simp] theorem State.setPulse_qsent (n : Nat) (x : MchPi) : (s.setPulse n x).qsent = s.qsent := rfl
@[simp] theorem State.setPulse_stamps (n : Nat) (x : MchPi) : (s.setPulse n x).stamps = s.stamps := rfl
@[simp] theorem State.setPulse_memc (n : Nat) (x : MchPi) : (s.setPulse n x).memc = s.memc := rfl
@[simp] theorem State.setPulse_eng (n : Nat) (x : MchPi) : (s.setPulse n x).eng = s.eng := rfl
@[simp] theorem State.setPulse_dug (n : Nat) (x : MchPi) : (s.setPulse n x).dug = s.dug := rfl
@[simp] theorem State.setPulse_que (n : Nat) (x : MchPi) : (s.setPulse n x).que = s.que := rfl
@[simp] theorem State.setPulse_tim (n : Nat) (x : MchPi) : (s.setPulse n x).tim = s.tim := rfl
@[simp] theorem State.setPulse_scb (n : Nat) (x : MchPi) : (s.setPulse n x).scb = s.scb := rfl
@[simp] theorem State.setPulse_bxl (n : Nat) (x : MchPi) : (s.setPulse n x).bxl = s.bxl := rfl
@[simp] theorem State.setPulse_smp (n : Nat) (x : MchPi) : (s.setPulse n x).smp = s.smp := rfl
@[simp] theorem State.setPulse_gbb (n : Nat) (x : MchPi) : (s.setPulse n x).gbb = s.gbb := rfl
@[simp] theorem State.setPulse_gob (n : Nat) (x : MchPi) : (s.setPulse n x).gob = s.gob := rfl
@[simp] theorem State.setPulse_pos (n : Nat) (x : MchPi) : (s.setPulse n x).pos = s.pos := rfl
@[simp] theorem State.setPulse_eth (n : Nat) (x : MchPi) : (s.setPulse n x).eth = s.eth := rfl
@[simp] theorem State.setPulse_rad (n : Nat) (x : MchPi) : (s.setPulse n x).rad = s.rad := rfl
@[simp] theorem State.setPulse_zon (n : Nat) (x : MchPi) : (s.setPulse n x).zon = s.zon := rfl
@[simp] theorem State.setPulse_tal (n : Nat) (x : MchPi) : (s.setPulse n x).tal = s.tal := rfl
@[simp] theorem State.setPulse_can (n : Nat) (x : MchPi) : (s.setPulse n x).can = s.can := rfl
@[simp] theorem State.setPulse_stop (n : Nat) (x : MchPi) : (s.setPulse n x).stop = s.stop := rfl
@[simp] theorem State.setPulse_upd (n : Nat) (x : MchPi) : (s.setPulse n x).upd = s.upd := rfl
@[simp] theorem State.setPulse_bst (n : Nat) (x : MchPi) : (s.setPulse n x).bst = s.bst := rfl
@[simp] theorem State.setPulse_cell (n : Nat) (x : MchPi) : (s.setPulse n x).cell = s.cell := rfl
@[simp] theorem State.setPulse_boot (n : Nat) (x : MchPi) : (s.setPulse n x).boot = s.boot := rfl
@[simp] theorem State.setPulse_hst (n : Nat) (x : MchPi) : (s.setPulse n x).hst = s.hst := rfl
@[simp] theorem State.setPulse_lib (n : Nat) (x : MchPi) : (s.setPulse n x).lib = s.lib := rfl
@[simp] theorem State.setPulse_ejecting (n : Nat) (x : MchPi) : (s.setPulse n x).ejecting = s.ejecting := rfl
@[simp] theorem State.setPulse_trapPend (n : Nat) (x : MchPi) : (s.setPulse n x).trapPend = s.trapPend := rfl
@[simp] theorem State.setPwm_pending (n : Nat) (x : MchPw) : (s.setPwm n x).pending = s.pending := rfl
@[simp] theorem State.setPwm_fresh (n : Nat) (x : MchPw) : (s.setPwm n x).fresh = s.fresh := rfl
@[simp] theorem State.setPwm_answer (n : Nat) (x : MchPw) : (s.setPwm n x).answer = s.answer := rfl
@[simp] theorem State.setPwm_data (n : Nat) (x : MchPw) : (s.setPwm n x).data = s.data := rfl
@[simp] theorem State.setPwm_regs (n : Nat) (x : MchPw) : (s.setPwm n x).regs = s.regs := rfl
@[simp] theorem State.setPwm_mem (n : Nat) (x : MchPw) : (s.setPwm n x).mem = s.mem := rfl
@[simp] theorem State.setPwm_holdLow (n : Nat) (x : MchPw) : (s.setPwm n x).holdLow = s.holdLow := rfl
@[simp] theorem State.setPwm_holdHigh (n : Nat) (x : MchPw) : (s.setPwm n x).holdHigh = s.holdHigh := rfl
@[simp] theorem State.setPwm_held (n : Nat) (x : MchPw) : (s.setPwm n x).held = s.held := rfl
@[simp] theorem State.setPwm_idleSince (n : Nat) (x : MchPw) : (s.setPwm n x).idleSince = s.idleSince := rfl
@[simp] theorem State.setPwm_sent (n : Nat) (x : MchPw) : (s.setPwm n x).sent = s.sent := rfl
@[simp] theorem State.setPwm_qsent (n : Nat) (x : MchPw) : (s.setPwm n x).qsent = s.qsent := rfl
@[simp] theorem State.setPwm_stamps (n : Nat) (x : MchPw) : (s.setPwm n x).stamps = s.stamps := rfl
@[simp] theorem State.setPwm_memc (n : Nat) (x : MchPw) : (s.setPwm n x).memc = s.memc := rfl
@[simp] theorem State.setPwm_eng (n : Nat) (x : MchPw) : (s.setPwm n x).eng = s.eng := rfl
@[simp] theorem State.setPwm_dug (n : Nat) (x : MchPw) : (s.setPwm n x).dug = s.dug := rfl
@[simp] theorem State.setPwm_que (n : Nat) (x : MchPw) : (s.setPwm n x).que = s.que := rfl
@[simp] theorem State.setPwm_tim (n : Nat) (x : MchPw) : (s.setPwm n x).tim = s.tim := rfl
@[simp] theorem State.setPwm_scb (n : Nat) (x : MchPw) : (s.setPwm n x).scb = s.scb := rfl
@[simp] theorem State.setPwm_bxl (n : Nat) (x : MchPw) : (s.setPwm n x).bxl = s.bxl := rfl
@[simp] theorem State.setPwm_smp (n : Nat) (x : MchPw) : (s.setPwm n x).smp = s.smp := rfl
@[simp] theorem State.setPwm_gbb (n : Nat) (x : MchPw) : (s.setPwm n x).gbb = s.gbb := rfl
@[simp] theorem State.setPwm_gob (n : Nat) (x : MchPw) : (s.setPwm n x).gob = s.gob := rfl
@[simp] theorem State.setPwm_pos (n : Nat) (x : MchPw) : (s.setPwm n x).pos = s.pos := rfl
@[simp] theorem State.setPwm_eth (n : Nat) (x : MchPw) : (s.setPwm n x).eth = s.eth := rfl
@[simp] theorem State.setPwm_rad (n : Nat) (x : MchPw) : (s.setPwm n x).rad = s.rad := rfl
@[simp] theorem State.setPwm_zon (n : Nat) (x : MchPw) : (s.setPwm n x).zon = s.zon := rfl
@[simp] theorem State.setPwm_tal (n : Nat) (x : MchPw) : (s.setPwm n x).tal = s.tal := rfl
@[simp] theorem State.setPwm_can (n : Nat) (x : MchPw) : (s.setPwm n x).can = s.can := rfl
@[simp] theorem State.setPwm_stop (n : Nat) (x : MchPw) : (s.setPwm n x).stop = s.stop := rfl
@[simp] theorem State.setPwm_upd (n : Nat) (x : MchPw) : (s.setPwm n x).upd = s.upd := rfl
@[simp] theorem State.setPwm_bst (n : Nat) (x : MchPw) : (s.setPwm n x).bst = s.bst := rfl
@[simp] theorem State.setPwm_cell (n : Nat) (x : MchPw) : (s.setPwm n x).cell = s.cell := rfl
@[simp] theorem State.setPwm_boot (n : Nat) (x : MchPw) : (s.setPwm n x).boot = s.boot := rfl
@[simp] theorem State.setPwm_hst (n : Nat) (x : MchPw) : (s.setPwm n x).hst = s.hst := rfl
@[simp] theorem State.setPwm_lib (n : Nat) (x : MchPw) : (s.setPwm n x).lib = s.lib := rfl
@[simp] theorem State.setPwm_ejecting (n : Nat) (x : MchPw) : (s.setPwm n x).ejecting = s.ejecting := rfl
@[simp] theorem State.setPwm_trapPend (n : Nat) (x : MchPw) : (s.setPwm n x).trapPend = s.trapPend := rfl
@[simp] theorem State.setAcc_pending (i : Nat) (x : TalAcc) : (s.setAcc i x).pending = s.pending := rfl
@[simp] theorem State.setAcc_fresh (i : Nat) (x : TalAcc) : (s.setAcc i x).fresh = s.fresh := rfl
@[simp] theorem State.setAcc_answer (i : Nat) (x : TalAcc) : (s.setAcc i x).answer = s.answer := rfl
@[simp] theorem State.setAcc_data (i : Nat) (x : TalAcc) : (s.setAcc i x).data = s.data := rfl
@[simp] theorem State.setAcc_regs (i : Nat) (x : TalAcc) : (s.setAcc i x).regs = s.regs := rfl
@[simp] theorem State.setAcc_mem (i : Nat) (x : TalAcc) : (s.setAcc i x).mem = s.mem := rfl
@[simp] theorem State.setAcc_holdLow (i : Nat) (x : TalAcc) : (s.setAcc i x).holdLow = s.holdLow := rfl
@[simp] theorem State.setAcc_holdHigh (i : Nat) (x : TalAcc) : (s.setAcc i x).holdHigh = s.holdHigh := rfl
@[simp] theorem State.setAcc_held (i : Nat) (x : TalAcc) : (s.setAcc i x).held = s.held := rfl
@[simp] theorem State.setAcc_idleSince (i : Nat) (x : TalAcc) : (s.setAcc i x).idleSince = s.idleSince := rfl
@[simp] theorem State.setAcc_sent (i : Nat) (x : TalAcc) : (s.setAcc i x).sent = s.sent := rfl
@[simp] theorem State.setAcc_qsent (i : Nat) (x : TalAcc) : (s.setAcc i x).qsent = s.qsent := rfl
@[simp] theorem State.setAcc_stamps (i : Nat) (x : TalAcc) : (s.setAcc i x).stamps = s.stamps := rfl
@[simp] theorem State.setAcc_memc (i : Nat) (x : TalAcc) : (s.setAcc i x).memc = s.memc := rfl
@[simp] theorem State.setAcc_eng (i : Nat) (x : TalAcc) : (s.setAcc i x).eng = s.eng := rfl
@[simp] theorem State.setAcc_dug (i : Nat) (x : TalAcc) : (s.setAcc i x).dug = s.dug := rfl
@[simp] theorem State.setAcc_que (i : Nat) (x : TalAcc) : (s.setAcc i x).que = s.que := rfl
@[simp] theorem State.setAcc_tim (i : Nat) (x : TalAcc) : (s.setAcc i x).tim = s.tim := rfl
@[simp] theorem State.setAcc_scb (i : Nat) (x : TalAcc) : (s.setAcc i x).scb = s.scb := rfl
@[simp] theorem State.setAcc_bxl (i : Nat) (x : TalAcc) : (s.setAcc i x).bxl = s.bxl := rfl
@[simp] theorem State.setAcc_smp (i : Nat) (x : TalAcc) : (s.setAcc i x).smp = s.smp := rfl
@[simp] theorem State.setAcc_gbb (i : Nat) (x : TalAcc) : (s.setAcc i x).gbb = s.gbb := rfl
@[simp] theorem State.setAcc_gob (i : Nat) (x : TalAcc) : (s.setAcc i x).gob = s.gob := rfl
@[simp] theorem State.setAcc_pos (i : Nat) (x : TalAcc) : (s.setAcc i x).pos = s.pos := rfl
@[simp] theorem State.setAcc_eth (i : Nat) (x : TalAcc) : (s.setAcc i x).eth = s.eth := rfl
@[simp] theorem State.setAcc_rad (i : Nat) (x : TalAcc) : (s.setAcc i x).rad = s.rad := rfl
@[simp] theorem State.setAcc_zon (i : Nat) (x : TalAcc) : (s.setAcc i x).zon = s.zon := rfl
@[simp] theorem State.setAcc_mch (i : Nat) (x : TalAcc) : (s.setAcc i x).mch = s.mch := rfl
@[simp] theorem State.setAcc_can (i : Nat) (x : TalAcc) : (s.setAcc i x).can = s.can := rfl
@[simp] theorem State.setAcc_stop (i : Nat) (x : TalAcc) : (s.setAcc i x).stop = s.stop := rfl
@[simp] theorem State.setAcc_upd (i : Nat) (x : TalAcc) : (s.setAcc i x).upd = s.upd := rfl
@[simp] theorem State.setAcc_bst (i : Nat) (x : TalAcc) : (s.setAcc i x).bst = s.bst := rfl
@[simp] theorem State.setAcc_cell (i : Nat) (x : TalAcc) : (s.setAcc i x).cell = s.cell := rfl
@[simp] theorem State.setAcc_boot (i : Nat) (x : TalAcc) : (s.setAcc i x).boot = s.boot := rfl
@[simp] theorem State.setAcc_hst (i : Nat) (x : TalAcc) : (s.setAcc i x).hst = s.hst := rfl
@[simp] theorem State.setAcc_lib (i : Nat) (x : TalAcc) : (s.setAcc i x).lib = s.lib := rfl
@[simp] theorem State.setAcc_ejecting (i : Nat) (x : TalAcc) : (s.setAcc i x).ejecting = s.ejecting := rfl
@[simp] theorem State.setAcc_trapPend (i : Nat) (x : TalAcc) : (s.setAcc i x).trapPend = s.trapPend := rfl
@[simp] theorem State.setPo_pending (n : Nat) (x : TalPo) : (s.setPo n x).pending = s.pending := rfl
@[simp] theorem State.setPo_fresh (n : Nat) (x : TalPo) : (s.setPo n x).fresh = s.fresh := rfl
@[simp] theorem State.setPo_answer (n : Nat) (x : TalPo) : (s.setPo n x).answer = s.answer := rfl
@[simp] theorem State.setPo_data (n : Nat) (x : TalPo) : (s.setPo n x).data = s.data := rfl
@[simp] theorem State.setPo_regs (n : Nat) (x : TalPo) : (s.setPo n x).regs = s.regs := rfl
@[simp] theorem State.setPo_mem (n : Nat) (x : TalPo) : (s.setPo n x).mem = s.mem := rfl
@[simp] theorem State.setPo_holdLow (n : Nat) (x : TalPo) : (s.setPo n x).holdLow = s.holdLow := rfl
@[simp] theorem State.setPo_holdHigh (n : Nat) (x : TalPo) : (s.setPo n x).holdHigh = s.holdHigh := rfl
@[simp] theorem State.setPo_held (n : Nat) (x : TalPo) : (s.setPo n x).held = s.held := rfl
@[simp] theorem State.setPo_idleSince (n : Nat) (x : TalPo) : (s.setPo n x).idleSince = s.idleSince := rfl
@[simp] theorem State.setPo_sent (n : Nat) (x : TalPo) : (s.setPo n x).sent = s.sent := rfl
@[simp] theorem State.setPo_qsent (n : Nat) (x : TalPo) : (s.setPo n x).qsent = s.qsent := rfl
@[simp] theorem State.setPo_stamps (n : Nat) (x : TalPo) : (s.setPo n x).stamps = s.stamps := rfl
@[simp] theorem State.setPo_memc (n : Nat) (x : TalPo) : (s.setPo n x).memc = s.memc := rfl
@[simp] theorem State.setPo_eng (n : Nat) (x : TalPo) : (s.setPo n x).eng = s.eng := rfl
@[simp] theorem State.setPo_dug (n : Nat) (x : TalPo) : (s.setPo n x).dug = s.dug := rfl
@[simp] theorem State.setPo_que (n : Nat) (x : TalPo) : (s.setPo n x).que = s.que := rfl
@[simp] theorem State.setPo_tim (n : Nat) (x : TalPo) : (s.setPo n x).tim = s.tim := rfl
@[simp] theorem State.setPo_scb (n : Nat) (x : TalPo) : (s.setPo n x).scb = s.scb := rfl
@[simp] theorem State.setPo_bxl (n : Nat) (x : TalPo) : (s.setPo n x).bxl = s.bxl := rfl
@[simp] theorem State.setPo_smp (n : Nat) (x : TalPo) : (s.setPo n x).smp = s.smp := rfl
@[simp] theorem State.setPo_gbb (n : Nat) (x : TalPo) : (s.setPo n x).gbb = s.gbb := rfl
@[simp] theorem State.setPo_gob (n : Nat) (x : TalPo) : (s.setPo n x).gob = s.gob := rfl
@[simp] theorem State.setPo_pos (n : Nat) (x : TalPo) : (s.setPo n x).pos = s.pos := rfl
@[simp] theorem State.setPo_eth (n : Nat) (x : TalPo) : (s.setPo n x).eth = s.eth := rfl
@[simp] theorem State.setPo_rad (n : Nat) (x : TalPo) : (s.setPo n x).rad = s.rad := rfl
@[simp] theorem State.setPo_zon (n : Nat) (x : TalPo) : (s.setPo n x).zon = s.zon := rfl
@[simp] theorem State.setPo_mch (n : Nat) (x : TalPo) : (s.setPo n x).mch = s.mch := rfl
@[simp] theorem State.setPo_can (n : Nat) (x : TalPo) : (s.setPo n x).can = s.can := rfl
@[simp] theorem State.setPo_stop (n : Nat) (x : TalPo) : (s.setPo n x).stop = s.stop := rfl
@[simp] theorem State.setPo_upd (n : Nat) (x : TalPo) : (s.setPo n x).upd = s.upd := rfl
@[simp] theorem State.setPo_bst (n : Nat) (x : TalPo) : (s.setPo n x).bst = s.bst := rfl
@[simp] theorem State.setPo_cell (n : Nat) (x : TalPo) : (s.setPo n x).cell = s.cell := rfl
@[simp] theorem State.setPo_boot (n : Nat) (x : TalPo) : (s.setPo n x).boot = s.boot := rfl
@[simp] theorem State.setPo_hst (n : Nat) (x : TalPo) : (s.setPo n x).hst = s.hst := rfl
@[simp] theorem State.setPo_lib (n : Nat) (x : TalPo) : (s.setPo n x).lib = s.lib := rfl
@[simp] theorem State.setPo_ejecting (n : Nat) (x : TalPo) : (s.setPo n x).ejecting = s.ejecting := rfl
@[simp] theorem State.setPo_trapPend (n : Nat) (x : TalPo) : (s.setPo n x).trapPend = s.trapPend := rfl
@[simp] theorem State.setCanObj_pending (o : Nat) (x : CanObj) : (s.setCanObj o x).pending = s.pending := rfl
@[simp] theorem State.setCanObj_fresh (o : Nat) (x : CanObj) : (s.setCanObj o x).fresh = s.fresh := rfl
@[simp] theorem State.setCanObj_answer (o : Nat) (x : CanObj) : (s.setCanObj o x).answer = s.answer := rfl
@[simp] theorem State.setCanObj_data (o : Nat) (x : CanObj) : (s.setCanObj o x).data = s.data := rfl
@[simp] theorem State.setCanObj_regs (o : Nat) (x : CanObj) : (s.setCanObj o x).regs = s.regs := rfl
@[simp] theorem State.setCanObj_mem (o : Nat) (x : CanObj) : (s.setCanObj o x).mem = s.mem := rfl
@[simp] theorem State.setCanObj_holdLow (o : Nat) (x : CanObj) : (s.setCanObj o x).holdLow = s.holdLow := rfl
@[simp] theorem State.setCanObj_holdHigh (o : Nat) (x : CanObj) : (s.setCanObj o x).holdHigh = s.holdHigh := rfl
@[simp] theorem State.setCanObj_held (o : Nat) (x : CanObj) : (s.setCanObj o x).held = s.held := rfl
@[simp] theorem State.setCanObj_idleSince (o : Nat) (x : CanObj) : (s.setCanObj o x).idleSince = s.idleSince := rfl
@[simp] theorem State.setCanObj_sent (o : Nat) (x : CanObj) : (s.setCanObj o x).sent = s.sent := rfl
@[simp] theorem State.setCanObj_qsent (o : Nat) (x : CanObj) : (s.setCanObj o x).qsent = s.qsent := rfl
@[simp] theorem State.setCanObj_stamps (o : Nat) (x : CanObj) : (s.setCanObj o x).stamps = s.stamps := rfl
@[simp] theorem State.setCanObj_memc (o : Nat) (x : CanObj) : (s.setCanObj o x).memc = s.memc := rfl
@[simp] theorem State.setCanObj_eng (o : Nat) (x : CanObj) : (s.setCanObj o x).eng = s.eng := rfl
@[simp] theorem State.setCanObj_dug (o : Nat) (x : CanObj) : (s.setCanObj o x).dug = s.dug := rfl
@[simp] theorem State.setCanObj_que (o : Nat) (x : CanObj) : (s.setCanObj o x).que = s.que := rfl
@[simp] theorem State.setCanObj_tim (o : Nat) (x : CanObj) : (s.setCanObj o x).tim = s.tim := rfl
@[simp] theorem State.setCanObj_scb (o : Nat) (x : CanObj) : (s.setCanObj o x).scb = s.scb := rfl
@[simp] theorem State.setCanObj_bxl (o : Nat) (x : CanObj) : (s.setCanObj o x).bxl = s.bxl := rfl
@[simp] theorem State.setCanObj_smp (o : Nat) (x : CanObj) : (s.setCanObj o x).smp = s.smp := rfl
@[simp] theorem State.setCanObj_gbb (o : Nat) (x : CanObj) : (s.setCanObj o x).gbb = s.gbb := rfl
@[simp] theorem State.setCanObj_gob (o : Nat) (x : CanObj) : (s.setCanObj o x).gob = s.gob := rfl
@[simp] theorem State.setCanObj_pos (o : Nat) (x : CanObj) : (s.setCanObj o x).pos = s.pos := rfl
@[simp] theorem State.setCanObj_eth (o : Nat) (x : CanObj) : (s.setCanObj o x).eth = s.eth := rfl
@[simp] theorem State.setCanObj_rad (o : Nat) (x : CanObj) : (s.setCanObj o x).rad = s.rad := rfl
@[simp] theorem State.setCanObj_zon (o : Nat) (x : CanObj) : (s.setCanObj o x).zon = s.zon := rfl
@[simp] theorem State.setCanObj_mch (o : Nat) (x : CanObj) : (s.setCanObj o x).mch = s.mch := rfl
@[simp] theorem State.setCanObj_tal (o : Nat) (x : CanObj) : (s.setCanObj o x).tal = s.tal := rfl
@[simp] theorem State.setCanObj_stop (o : Nat) (x : CanObj) : (s.setCanObj o x).stop = s.stop := rfl
@[simp] theorem State.setCanObj_upd (o : Nat) (x : CanObj) : (s.setCanObj o x).upd = s.upd := rfl
@[simp] theorem State.setCanObj_bst (o : Nat) (x : CanObj) : (s.setCanObj o x).bst = s.bst := rfl
@[simp] theorem State.setCanObj_cell (o : Nat) (x : CanObj) : (s.setCanObj o x).cell = s.cell := rfl
@[simp] theorem State.setCanObj_boot (o : Nat) (x : CanObj) : (s.setCanObj o x).boot = s.boot := rfl
@[simp] theorem State.setCanObj_hst (o : Nat) (x : CanObj) : (s.setCanObj o x).hst = s.hst := rfl
@[simp] theorem State.setCanObj_lib (o : Nat) (x : CanObj) : (s.setCanObj o x).lib = s.lib := rfl
@[simp] theorem State.setCanObj_ejecting (o : Nat) (x : CanObj) : (s.setCanObj o x).ejecting = s.ejecting := rfl
@[simp] theorem State.setCanObj_trapPend (o : Nat) (x : CanObj) : (s.setCanObj o x).trapPend = s.trapPend := rfl
@[simp] theorem State.setStop_pending (f : StopSt → StopSt) : (s.setStop f).pending = s.pending := rfl
@[simp] theorem State.setStop_fresh (f : StopSt → StopSt) : (s.setStop f).fresh = s.fresh := rfl
@[simp] theorem State.setStop_answer (f : StopSt → StopSt) : (s.setStop f).answer = s.answer := rfl
@[simp] theorem State.setStop_data (f : StopSt → StopSt) : (s.setStop f).data = s.data := rfl
@[simp] theorem State.setStop_regs (f : StopSt → StopSt) : (s.setStop f).regs = s.regs := rfl
@[simp] theorem State.setStop_mem (f : StopSt → StopSt) : (s.setStop f).mem = s.mem := rfl
@[simp] theorem State.setStop_holdLow (f : StopSt → StopSt) : (s.setStop f).holdLow = s.holdLow := rfl
@[simp] theorem State.setStop_holdHigh (f : StopSt → StopSt) : (s.setStop f).holdHigh = s.holdHigh := rfl
@[simp] theorem State.setStop_held (f : StopSt → StopSt) : (s.setStop f).held = s.held := rfl
@[simp] theorem State.setStop_idleSince (f : StopSt → StopSt) : (s.setStop f).idleSince = s.idleSince := rfl
@[simp] theorem State.setStop_sent (f : StopSt → StopSt) : (s.setStop f).sent = s.sent := rfl
@[simp] theorem State.setStop_qsent (f : StopSt → StopSt) : (s.setStop f).qsent = s.qsent := rfl
@[simp] theorem State.setStop_stamps (f : StopSt → StopSt) : (s.setStop f).stamps = s.stamps := rfl
@[simp] theorem State.setStop_memc (f : StopSt → StopSt) : (s.setStop f).memc = s.memc := rfl
@[simp] theorem State.setStop_eng (f : StopSt → StopSt) : (s.setStop f).eng = s.eng := rfl
@[simp] theorem State.setStop_dug (f : StopSt → StopSt) : (s.setStop f).dug = s.dug := rfl
@[simp] theorem State.setStop_que (f : StopSt → StopSt) : (s.setStop f).que = s.que := rfl
@[simp] theorem State.setStop_tim (f : StopSt → StopSt) : (s.setStop f).tim = s.tim := rfl
@[simp] theorem State.setStop_scb (f : StopSt → StopSt) : (s.setStop f).scb = s.scb := rfl
@[simp] theorem State.setStop_bxl (f : StopSt → StopSt) : (s.setStop f).bxl = s.bxl := rfl
@[simp] theorem State.setStop_smp (f : StopSt → StopSt) : (s.setStop f).smp = s.smp := rfl
@[simp] theorem State.setStop_gbb (f : StopSt → StopSt) : (s.setStop f).gbb = s.gbb := rfl
@[simp] theorem State.setStop_gob (f : StopSt → StopSt) : (s.setStop f).gob = s.gob := rfl
@[simp] theorem State.setStop_pos (f : StopSt → StopSt) : (s.setStop f).pos = s.pos := rfl
@[simp] theorem State.setStop_eth (f : StopSt → StopSt) : (s.setStop f).eth = s.eth := rfl
@[simp] theorem State.setStop_rad (f : StopSt → StopSt) : (s.setStop f).rad = s.rad := rfl
@[simp] theorem State.setStop_zon (f : StopSt → StopSt) : (s.setStop f).zon = s.zon := rfl
@[simp] theorem State.setStop_mch (f : StopSt → StopSt) : (s.setStop f).mch = s.mch := rfl
@[simp] theorem State.setStop_tal (f : StopSt → StopSt) : (s.setStop f).tal = s.tal := rfl
@[simp] theorem State.setStop_can (f : StopSt → StopSt) : (s.setStop f).can = s.can := rfl
@[simp] theorem State.setStop_upd (f : StopSt → StopSt) : (s.setStop f).upd = s.upd := rfl
@[simp] theorem State.setStop_bst (f : StopSt → StopSt) : (s.setStop f).bst = s.bst := rfl
@[simp] theorem State.setStop_cell (f : StopSt → StopSt) : (s.setStop f).cell = s.cell := rfl
@[simp] theorem State.setStop_boot (f : StopSt → StopSt) : (s.setStop f).boot = s.boot := rfl
@[simp] theorem State.setStop_hst (f : StopSt → StopSt) : (s.setStop f).hst = s.hst := rfl
@[simp] theorem State.setStop_lib (f : StopSt → StopSt) : (s.setStop f).lib = s.lib := rfl
@[simp] theorem State.setStop_ejecting (f : StopSt → StopSt) : (s.setStop f).ejecting = s.ejecting := rfl
@[simp] theorem State.setStop_trapPend (f : StopSt → StopSt) : (s.setStop f).trapPend = s.trapPend := rfl
@[simp] theorem State.setUpd_pending (f : UpdSt → UpdSt) : (s.setUpd f).pending = s.pending := rfl
@[simp] theorem State.setUpd_fresh (f : UpdSt → UpdSt) : (s.setUpd f).fresh = s.fresh := rfl
@[simp] theorem State.setUpd_answer (f : UpdSt → UpdSt) : (s.setUpd f).answer = s.answer := rfl
@[simp] theorem State.setUpd_data (f : UpdSt → UpdSt) : (s.setUpd f).data = s.data := rfl
@[simp] theorem State.setUpd_regs (f : UpdSt → UpdSt) : (s.setUpd f).regs = s.regs := rfl
@[simp] theorem State.setUpd_mem (f : UpdSt → UpdSt) : (s.setUpd f).mem = s.mem := rfl
@[simp] theorem State.setUpd_holdLow (f : UpdSt → UpdSt) : (s.setUpd f).holdLow = s.holdLow := rfl
@[simp] theorem State.setUpd_holdHigh (f : UpdSt → UpdSt) : (s.setUpd f).holdHigh = s.holdHigh := rfl
@[simp] theorem State.setUpd_held (f : UpdSt → UpdSt) : (s.setUpd f).held = s.held := rfl
@[simp] theorem State.setUpd_idleSince (f : UpdSt → UpdSt) : (s.setUpd f).idleSince = s.idleSince := rfl
@[simp] theorem State.setUpd_sent (f : UpdSt → UpdSt) : (s.setUpd f).sent = s.sent := rfl
@[simp] theorem State.setUpd_qsent (f : UpdSt → UpdSt) : (s.setUpd f).qsent = s.qsent := rfl
@[simp] theorem State.setUpd_stamps (f : UpdSt → UpdSt) : (s.setUpd f).stamps = s.stamps := rfl
@[simp] theorem State.setUpd_memc (f : UpdSt → UpdSt) : (s.setUpd f).memc = s.memc := rfl
@[simp] theorem State.setUpd_eng (f : UpdSt → UpdSt) : (s.setUpd f).eng = s.eng := rfl
@[simp] theorem State.setUpd_dug (f : UpdSt → UpdSt) : (s.setUpd f).dug = s.dug := rfl
@[simp] theorem State.setUpd_que (f : UpdSt → UpdSt) : (s.setUpd f).que = s.que := rfl
@[simp] theorem State.setUpd_tim (f : UpdSt → UpdSt) : (s.setUpd f).tim = s.tim := rfl
@[simp] theorem State.setUpd_scb (f : UpdSt → UpdSt) : (s.setUpd f).scb = s.scb := rfl
@[simp] theorem State.setUpd_bxl (f : UpdSt → UpdSt) : (s.setUpd f).bxl = s.bxl := rfl
@[simp] theorem State.setUpd_smp (f : UpdSt → UpdSt) : (s.setUpd f).smp = s.smp := rfl
@[simp] theorem State.setUpd_gbb (f : UpdSt → UpdSt) : (s.setUpd f).gbb = s.gbb := rfl
@[simp] theorem State.setUpd_gob (f : UpdSt → UpdSt) : (s.setUpd f).gob = s.gob := rfl
@[simp] theorem State.setUpd_pos (f : UpdSt → UpdSt) : (s.setUpd f).pos = s.pos := rfl
@[simp] theorem State.setUpd_eth (f : UpdSt → UpdSt) : (s.setUpd f).eth = s.eth := rfl
@[simp] theorem State.setUpd_rad (f : UpdSt → UpdSt) : (s.setUpd f).rad = s.rad := rfl
@[simp] theorem State.setUpd_zon (f : UpdSt → UpdSt) : (s.setUpd f).zon = s.zon := rfl
@[simp] theorem State.setUpd_mch (f : UpdSt → UpdSt) : (s.setUpd f).mch = s.mch := rfl
@[simp] theorem State.setUpd_tal (f : UpdSt → UpdSt) : (s.setUpd f).tal = s.tal := rfl
@[simp] theorem State.setUpd_can (f : UpdSt → UpdSt) : (s.setUpd f).can = s.can := rfl
@[simp] theorem State.setUpd_stop (f : UpdSt → UpdSt) : (s.setUpd f).stop = s.stop := rfl
@[simp] theorem State.setUpd_bst (f : UpdSt → UpdSt) : (s.setUpd f).bst = s.bst := rfl
@[simp] theorem State.setUpd_cell (f : UpdSt → UpdSt) : (s.setUpd f).cell = s.cell := rfl
@[simp] theorem State.setUpd_boot (f : UpdSt → UpdSt) : (s.setUpd f).boot = s.boot := rfl
@[simp] theorem State.setUpd_hst (f : UpdSt → UpdSt) : (s.setUpd f).hst = s.hst := rfl
@[simp] theorem State.setUpd_lib (f : UpdSt → UpdSt) : (s.setUpd f).lib = s.lib := rfl
@[simp] theorem State.setUpd_ejecting (f : UpdSt → UpdSt) : (s.setUpd f).ejecting = s.ejecting := rfl
@[simp] theorem State.setUpd_trapPend (f : UpdSt → UpdSt) : (s.setUpd f).trapPend = s.trapPend := rfl
@[simp] theorem State.setBst_pending (f : BstSt → BstSt) : (s.setBst f).pending = s.pending := rfl
@[simp] theorem State.setBst_fresh (f : BstSt → BstSt) : (s.setBst f).fresh = s.fresh := rfl
@[simp] theorem State.setBst_answer (f : BstSt → BstSt) : (s.setBst f).answer = s.answer := rfl
@[simp] theorem State.setBst_data (f : BstSt → BstSt) : (s.setBst f).data = s.data := rfl
@[simp] theorem State.setBst_regs (f : BstSt → BstSt) : (s.setBst f).regs = s.regs := rfl
@[simp] theorem State.setBst_mem (f : BstSt → BstSt) : (s.setBst f).mem = s.mem := rfl
@[simp] theorem State.setBst_holdLow (f : BstSt → BstSt) : (s.setBst f).holdLow = s.holdLow := rfl
@[simp] theorem State.setBst_holdHigh (f : BstSt → BstSt) : (s.setBst f).holdHigh = s.holdHigh := rfl
@[simp] theorem State.setBst_held (f : BstSt → BstSt) : (s.setBst f).held = s.held := rfl
@[simp] theorem State.setBst_idleSince (f : BstSt → BstSt) : (s.setBst f).idleSince = s.idleSince := rfl
@[simp] theorem State.setBst_sent (f : BstSt → BstSt) : (s.setBst f).sent = s.sent := rfl
@[simp] theorem State.setBst_qsent (f : BstSt → BstSt) : (s.setBst f).qsent = s.qsent := rfl
@[simp] theorem State.setBst_stamps (f : BstSt → BstSt) : (s.setBst f).stamps = s.stamps := rfl
@[simp] theorem State.setBst_memc (f : BstSt → BstSt) : (s.setBst f).memc = s.memc := rfl
@[simp] theorem State.setBst_eng (f : BstSt → BstSt) : (s.setBst f).eng = s.eng := rfl
@[simp] theorem State.setBst_dug (f : BstSt → BstSt) : (s.setBst f).dug = s.dug := rfl
@[simp] theorem State.setBst_que (f : BstSt → BstSt) : (s.setBst f).que = s.que := rfl
@[simp] theorem State.setBst_tim (f : BstSt → BstSt) : (s.setBst f).tim = s.tim := rfl
@[simp] theorem State.setBst_scb (f : BstSt → BstSt) : (s.setBst f).scb = s.scb := rfl
@[simp] theorem State.setBst_bxl (f : BstSt → BstSt) : (s.setBst f).bxl = s.bxl := rfl
@[simp] theorem State.setBst_smp (f : BstSt → BstSt) : (s.setBst f).smp = s.smp := rfl
@[simp] theorem State.setBst_gbb (f : BstSt → BstSt) : (s.setBst f).gbb = s.gbb := rfl
@[simp] theorem State.setBst_gob (f : BstSt → BstSt) : (s.setBst f).gob = s.gob := rfl
@[simp] theorem State.setBst_pos (f : BstSt → BstSt) : (s.setBst f).pos = s.pos := rfl
@[simp] theorem State.setBst_eth (f : BstSt → BstSt) : (s.setBst f).eth = s.eth := rfl
@[simp] theorem State.setBst_rad (f : BstSt → BstSt) : (s.setBst f).rad = s.rad := rfl
@[simp] theorem State.setBst_zon (f : BstSt → BstSt) : (s.setBst f).zon = s.zon := rfl
@[simp] theorem State.setBst_mch (f : BstSt → BstSt) : (s.setBst f).mch = s.mch := rfl
@[simp] theorem State.setBst_tal (f : BstSt → BstSt) : (s.setBst f).tal = s.tal := rfl
@[simp] theorem State.setBst_can (f : BstSt → BstSt) : (s.setBst f).can = s.can := rfl
@[simp] theorem State.setBst_stop (f : BstSt → BstSt) : (s.setBst f).stop = s.stop := rfl
@[simp] theorem State.setBst_upd (f : BstSt → BstSt) : (s.setBst f).upd = s.upd := rfl
@[simp] theorem State.setBst_cell (f : BstSt → BstSt) : (s.setBst f).cell = s.cell := rfl
@[simp] theorem State.setBst_boot (f : BstSt → BstSt) : (s.setBst f).boot = s.boot := rfl
@[simp] theorem State.setBst_hst (f : BstSt → BstSt) : (s.setBst f).hst = s.hst := rfl
@[simp] theorem State.setBst_lib (f : BstSt → BstSt) : (s.setBst f).lib = s.lib := rfl
@[simp] theorem State.setBst_ejecting (f : BstSt → BstSt) : (s.setBst f).ejecting = s.ejecting := rfl
@[simp] theorem State.setBst_trapPend (f : BstSt → BstSt) : (s.setBst f).trapPend = s.trapPend := rfl
@[simp] theorem State.setBoot_pending (f : BootSt → BootSt) : (s.setBoot f).pending = s.pending := rfl
@[simp] theorem State.setBoot_fresh (f : BootSt → BootSt) : (s.setBoot f).fresh = s.fresh := rfl
@[simp] theorem State.setBoot_answer (f : BootSt → BootSt) : (s.setBoot f).answer = s.answer := rfl
@[simp] theorem State.setBoot_data (f : BootSt → BootSt) : (s.setBoot f).data = s.data := rfl
@[simp] theorem State.setBoot_regs (f : BootSt → BootSt) : (s.setBoot f).regs = s.regs := rfl
@[simp] theorem State.setBoot_mem (f : BootSt → BootSt) : (s.setBoot f).mem = s.mem := rfl
@[simp] theorem State.setBoot_holdLow (f : BootSt → BootSt) : (s.setBoot f).holdLow = s.holdLow := rfl
@[simp] theorem State.setBoot_holdHigh (f : BootSt → BootSt) : (s.setBoot f).holdHigh = s.holdHigh := rfl
@[simp] theorem State.setBoot_held (f : BootSt → BootSt) : (s.setBoot f).held = s.held := rfl
@[simp] theorem State.setBoot_idleSince (f : BootSt → BootSt) : (s.setBoot f).idleSince = s.idleSince := rfl
@[simp] theorem State.setBoot_sent (f : BootSt → BootSt) : (s.setBoot f).sent = s.sent := rfl
@[simp] theorem State.setBoot_qsent (f : BootSt → BootSt) : (s.setBoot f).qsent = s.qsent := rfl
@[simp] theorem State.setBoot_stamps (f : BootSt → BootSt) : (s.setBoot f).stamps = s.stamps := rfl
@[simp] theorem State.setBoot_memc (f : BootSt → BootSt) : (s.setBoot f).memc = s.memc := rfl
@[simp] theorem State.setBoot_eng (f : BootSt → BootSt) : (s.setBoot f).eng = s.eng := rfl
@[simp] theorem State.setBoot_dug (f : BootSt → BootSt) : (s.setBoot f).dug = s.dug := rfl
@[simp] theorem State.setBoot_que (f : BootSt → BootSt) : (s.setBoot f).que = s.que := rfl
@[simp] theorem State.setBoot_tim (f : BootSt → BootSt) : (s.setBoot f).tim = s.tim := rfl
@[simp] theorem State.setBoot_scb (f : BootSt → BootSt) : (s.setBoot f).scb = s.scb := rfl
@[simp] theorem State.setBoot_bxl (f : BootSt → BootSt) : (s.setBoot f).bxl = s.bxl := rfl
@[simp] theorem State.setBoot_smp (f : BootSt → BootSt) : (s.setBoot f).smp = s.smp := rfl
@[simp] theorem State.setBoot_gbb (f : BootSt → BootSt) : (s.setBoot f).gbb = s.gbb := rfl
@[simp] theorem State.setBoot_gob (f : BootSt → BootSt) : (s.setBoot f).gob = s.gob := rfl
@[simp] theorem State.setBoot_pos (f : BootSt → BootSt) : (s.setBoot f).pos = s.pos := rfl
@[simp] theorem State.setBoot_eth (f : BootSt → BootSt) : (s.setBoot f).eth = s.eth := rfl
@[simp] theorem State.setBoot_rad (f : BootSt → BootSt) : (s.setBoot f).rad = s.rad := rfl
@[simp] theorem State.setBoot_zon (f : BootSt → BootSt) : (s.setBoot f).zon = s.zon := rfl
@[simp] theorem State.setBoot_mch (f : BootSt → BootSt) : (s.setBoot f).mch = s.mch := rfl
@[simp] theorem State.setBoot_tal (f : BootSt → BootSt) : (s.setBoot f).tal = s.tal := rfl
@[simp] theorem State.setBoot_can (f : BootSt → BootSt) : (s.setBoot f).can = s.can := rfl
@[simp] theorem State.setBoot_stop (f : BootSt → BootSt) : (s.setBoot f).stop = s.stop := rfl
@[simp] theorem State.setBoot_upd (f : BootSt → BootSt) : (s.setBoot f).upd = s.upd := rfl
@[simp] theorem State.setBoot_bst (f : BootSt → BootSt) : (s.setBoot f).bst = s.bst := rfl
@[simp] theorem State.setBoot_cell (f : BootSt → BootSt) : (s.setBoot f).cell = s.cell := rfl
@[simp] theorem State.setBoot_hst (f : BootSt → BootSt) : (s.setBoot f).hst = s.hst := rfl
@[simp] theorem State.setBoot_lib (f : BootSt → BootSt) : (s.setBoot f).lib = s.lib := rfl
@[simp] theorem State.setBoot_ejecting (f : BootSt → BootSt) : (s.setBoot f).ejecting = s.ejecting := rfl
@[simp] theorem State.setBoot_trapPend (f : BootSt → BootSt) : (s.setBoot f).trapPend = s.trapPend := rfl
@[simp] theorem State.setHst_pending (f : HstSt → HstSt) : (s.setHst f).pending = s.pending := rfl
@[simp] theorem State.setHst_fresh (f : HstSt → HstSt) : (s.setHst f).fresh = s.fresh := rfl
@[simp] theorem State.setHst_answer (f : HstSt → HstSt) : (s.setHst f).answer = s.answer := rfl
@[simp] theorem State.setHst_data (f : HstSt → HstSt) : (s.setHst f).data = s.data := rfl
@[simp] theorem State.setHst_regs (f : HstSt → HstSt) : (s.setHst f).regs = s.regs := rfl
@[simp] theorem State.setHst_mem (f : HstSt → HstSt) : (s.setHst f).mem = s.mem := rfl
@[simp] theorem State.setHst_holdLow (f : HstSt → HstSt) : (s.setHst f).holdLow = s.holdLow := rfl
@[simp] theorem State.setHst_holdHigh (f : HstSt → HstSt) : (s.setHst f).holdHigh = s.holdHigh := rfl
@[simp] theorem State.setHst_held (f : HstSt → HstSt) : (s.setHst f).held = s.held := rfl
@[simp] theorem State.setHst_idleSince (f : HstSt → HstSt) : (s.setHst f).idleSince = s.idleSince := rfl
@[simp] theorem State.setHst_sent (f : HstSt → HstSt) : (s.setHst f).sent = s.sent := rfl
@[simp] theorem State.setHst_qsent (f : HstSt → HstSt) : (s.setHst f).qsent = s.qsent := rfl
@[simp] theorem State.setHst_stamps (f : HstSt → HstSt) : (s.setHst f).stamps = s.stamps := rfl
@[simp] theorem State.setHst_memc (f : HstSt → HstSt) : (s.setHst f).memc = s.memc := rfl
@[simp] theorem State.setHst_eng (f : HstSt → HstSt) : (s.setHst f).eng = s.eng := rfl
@[simp] theorem State.setHst_dug (f : HstSt → HstSt) : (s.setHst f).dug = s.dug := rfl
@[simp] theorem State.setHst_que (f : HstSt → HstSt) : (s.setHst f).que = s.que := rfl
@[simp] theorem State.setHst_tim (f : HstSt → HstSt) : (s.setHst f).tim = s.tim := rfl
@[simp] theorem State.setHst_scb (f : HstSt → HstSt) : (s.setHst f).scb = s.scb := rfl
@[simp] theorem State.setHst_bxl (f : HstSt → HstSt) : (s.setHst f).bxl = s.bxl := rfl
@[simp] theorem State.setHst_smp (f : HstSt → HstSt) : (s.setHst f).smp = s.smp := rfl
@[simp] theorem State.setHst_gbb (f : HstSt → HstSt) : (s.setHst f).gbb = s.gbb := rfl
@[simp] theorem State.setHst_gob (f : HstSt → HstSt) : (s.setHst f).gob = s.gob := rfl
@[simp] theorem State.setHst_pos (f : HstSt → HstSt) : (s.setHst f).pos = s.pos := rfl
@[simp] theorem State.setHst_eth (f : HstSt → HstSt) : (s.setHst f).eth = s.eth := rfl
@[simp] theorem State.setHst_rad (f : HstSt → HstSt) : (s.setHst f).rad = s.rad := rfl
@[simp] theorem State.setHst_zon (f : HstSt → HstSt) : (s.setHst f).zon = s.zon := rfl
@[simp] theorem State.setHst_mch (f : HstSt → HstSt) : (s.setHst f).mch = s.mch := rfl
@[simp] theorem State.setHst_tal (f : HstSt → HstSt) : (s.setHst f).tal = s.tal := rfl
@[simp] theorem State.setHst_can (f : HstSt → HstSt) : (s.setHst f).can = s.can := rfl
@[simp] theorem State.setHst_stop (f : HstSt → HstSt) : (s.setHst f).stop = s.stop := rfl
@[simp] theorem State.setHst_upd (f : HstSt → HstSt) : (s.setHst f).upd = s.upd := rfl
@[simp] theorem State.setHst_bst (f : HstSt → HstSt) : (s.setHst f).bst = s.bst := rfl
@[simp] theorem State.setHst_cell (f : HstSt → HstSt) : (s.setHst f).cell = s.cell := rfl
@[simp] theorem State.setHst_boot (f : HstSt → HstSt) : (s.setHst f).boot = s.boot := rfl
@[simp] theorem State.setHst_lib (f : HstSt → HstSt) : (s.setHst f).lib = s.lib := rfl
@[simp] theorem State.setHst_ejecting (f : HstSt → HstSt) : (s.setHst f).ejecting = s.ejecting := rfl
@[simp] theorem State.setHst_trapPend (f : HstSt → HstSt) : (s.setHst f).trapPend = s.trapPend := rfl
@[simp] theorem State.setHif_pending (x : Nat) (v : HstIf) : (s.setHif x v).pending = s.pending := rfl
@[simp] theorem State.setHif_fresh (x : Nat) (v : HstIf) : (s.setHif x v).fresh = s.fresh := rfl
@[simp] theorem State.setHif_answer (x : Nat) (v : HstIf) : (s.setHif x v).answer = s.answer := rfl
@[simp] theorem State.setHif_data (x : Nat) (v : HstIf) : (s.setHif x v).data = s.data := rfl
@[simp] theorem State.setHif_regs (x : Nat) (v : HstIf) : (s.setHif x v).regs = s.regs := rfl
@[simp] theorem State.setHif_mem (x : Nat) (v : HstIf) : (s.setHif x v).mem = s.mem := rfl
@[simp] theorem State.setHif_holdLow (x : Nat) (v : HstIf) : (s.setHif x v).holdLow = s.holdLow := rfl
@[simp] theorem State.setHif_holdHigh (x : Nat) (v : HstIf) : (s.setHif x v).holdHigh = s.holdHigh := rfl
@[simp] theorem State.setHif_held (x : Nat) (v : HstIf) : (s.setHif x v).held = s.held := rfl
@[simp] theorem State.setHif_idleSince (x : Nat) (v : HstIf) : (s.setHif x v).idleSince = s.idleSince := rfl
@[simp] theorem State.setHif_sent (x : Nat) (v : HstIf) : (s.setHif x v).sent = s.sent := rfl
@[simp] theorem State.setHif_qsent (x : Nat) (v : HstIf) : (s.setHif x v).qsent = s.qsent := rfl
@[simp] theorem State.setHif_stamps (x : Nat) (v : HstIf) : (s.setHif x v).stamps = s.stamps := rfl
@[simp] theorem State.setHif_memc (x : Nat) (v : HstIf) : (s.setHif x v).memc = s.memc := rfl
@[simp] theorem State.setHif_eng (x : Nat) (v : HstIf) : (s.setHif x v).eng = s.eng := rfl
@[simp] theorem State.setHif_dug (x : Nat) (v : HstIf) : (s.setHif x v).dug = s.dug := rfl
@[simp] theorem State.setHif_que (x : Nat) (v : HstIf) : (s.setHif x v).que = s.que := rfl
@[simp] theorem State.setHif_tim (x : Nat) (v : HstIf) : (s.setHif x v).tim = s.tim := rfl
@[simp] theorem State.setHif_scb (x : Nat) (v : HstIf) : (s.setHif x v).scb = s.scb := rfl
@[simp] theorem State.setHif_bxl (x : Nat) (v : HstIf) : (s.setHif x v).bxl = s.bxl := rfl
@[simp] theorem State.setHif_smp (x : Nat) (v : HstIf) : (s.setHif x v).smp = s.smp := rfl
@[simp] theorem State.setHif_gbb (x : Nat) (v : HstIf) : (s.setHif x v).gbb = s.gbb := rfl
@[simp] theorem State.setHif_gob (x : Nat) (v : HstIf) : (s.setHif x v).gob = s.gob := rfl
@[simp] theorem State.setHif_pos (x : Nat) (v : HstIf) : (s.setHif x v).pos = s.pos := rfl
@[simp] theorem State.setHif_eth (x : Nat) (v : HstIf) : (s.setHif x v).eth = s.eth := rfl
@[simp] theorem State.setHif_rad (x : Nat) (v : HstIf) : (s.setHif x v).rad = s.rad := rfl
@[simp] theorem State.setHif_zon (x : Nat) (v : HstIf) : (s.setHif x v).zon = s.zon := rfl
@[simp] theorem State.setHif_mch (x : Nat) (v : HstIf) : (s.setHif x v).mch = s.mch := rfl
@[simp] theorem State.setHif_tal (x : Nat) (v : HstIf) : (s.setHif x v).tal = s.tal := rfl
@[simp] theorem State.setHif_can (x : Nat) (v : HstIf) : (s.setHif x v).can = s.can := rfl
@[simp] theorem State.setHif_stop (x : Nat) (v : HstIf) : (s.setHif x v).stop = s.stop := rfl
@[simp] theorem State.setHif_upd (x : Nat) (v : HstIf) : (s.setHif x v).upd = s.upd := rfl
@[simp] theorem State.setHif_bst (x : Nat) (v : HstIf) : (s.setHif x v).bst = s.bst := rfl
@[simp] theorem State.setHif_cell (x : Nat) (v : HstIf) : (s.setHif x v).cell = s.cell := rfl
@[simp] theorem State.setHif_boot (x : Nat) (v : HstIf) : (s.setHif x v).boot = s.boot := rfl
@[simp] theorem State.setHif_lib (x : Nat) (v : HstIf) : (s.setHif x v).lib = s.lib := rfl
@[simp] theorem State.setHif_ejecting (x : Nat) (v : HstIf) : (s.setHif x v).ejecting = s.ejecting := rfl
@[simp] theorem State.setHif_trapPend (x : Nat) (v : HstIf) : (s.setHif x v).trapPend = s.trapPend := rfl
@[simp] theorem State.setLib_pending (f : LibSt → LibSt) : (s.setLib f).pending = s.pending := rfl
@[simp] theorem State.setLib_fresh (f : LibSt → LibSt) : (s.setLib f).fresh = s.fresh := rfl
@[simp] theorem State.setLib_answer (f : LibSt → LibSt) : (s.setLib f).answer = s.answer := rfl
@[simp] theorem State.setLib_data (f : LibSt → LibSt) : (s.setLib f).data = s.data := rfl
@[simp] theorem State.setLib_regs (f : LibSt → LibSt) : (s.setLib f).regs = s.regs := rfl
@[simp] theorem State.setLib_mem (f : LibSt → LibSt) : (s.setLib f).mem = s.mem := rfl
@[simp] theorem State.setLib_holdLow (f : LibSt → LibSt) : (s.setLib f).holdLow = s.holdLow := rfl
@[simp] theorem State.setLib_holdHigh (f : LibSt → LibSt) : (s.setLib f).holdHigh = s.holdHigh := rfl
@[simp] theorem State.setLib_held (f : LibSt → LibSt) : (s.setLib f).held = s.held := rfl
@[simp] theorem State.setLib_idleSince (f : LibSt → LibSt) : (s.setLib f).idleSince = s.idleSince := rfl
@[simp] theorem State.setLib_sent (f : LibSt → LibSt) : (s.setLib f).sent = s.sent := rfl
@[simp] theorem State.setLib_qsent (f : LibSt → LibSt) : (s.setLib f).qsent = s.qsent := rfl
@[simp] theorem State.setLib_stamps (f : LibSt → LibSt) : (s.setLib f).stamps = s.stamps := rfl
@[simp] theorem State.setLib_memc (f : LibSt → LibSt) : (s.setLib f).memc = s.memc := rfl
@[simp] theorem State.setLib_eng (f : LibSt → LibSt) : (s.setLib f).eng = s.eng := rfl
@[simp] theorem State.setLib_dug (f : LibSt → LibSt) : (s.setLib f).dug = s.dug := rfl
@[simp] theorem State.setLib_que (f : LibSt → LibSt) : (s.setLib f).que = s.que := rfl
@[simp] theorem State.setLib_tim (f : LibSt → LibSt) : (s.setLib f).tim = s.tim := rfl
@[simp] theorem State.setLib_scb (f : LibSt → LibSt) : (s.setLib f).scb = s.scb := rfl
@[simp] theorem State.setLib_bxl (f : LibSt → LibSt) : (s.setLib f).bxl = s.bxl := rfl
@[simp] theorem State.setLib_smp (f : LibSt → LibSt) : (s.setLib f).smp = s.smp := rfl
@[simp] theorem State.setLib_gbb (f : LibSt → LibSt) : (s.setLib f).gbb = s.gbb := rfl
@[simp] theorem State.setLib_gob (f : LibSt → LibSt) : (s.setLib f).gob = s.gob := rfl
@[simp] theorem State.setLib_pos (f : LibSt → LibSt) : (s.setLib f).pos = s.pos := rfl
@[simp] theorem State.setLib_eth (f : LibSt → LibSt) : (s.setLib f).eth = s.eth := rfl
@[simp] theorem State.setLib_rad (f : LibSt → LibSt) : (s.setLib f).rad = s.rad := rfl
@[simp] theorem State.setLib_zon (f : LibSt → LibSt) : (s.setLib f).zon = s.zon := rfl
@[simp] theorem State.setLib_mch (f : LibSt → LibSt) : (s.setLib f).mch = s.mch := rfl
@[simp] theorem State.setLib_tal (f : LibSt → LibSt) : (s.setLib f).tal = s.tal := rfl
@[simp] theorem State.setLib_can (f : LibSt → LibSt) : (s.setLib f).can = s.can := rfl
@[simp] theorem State.setLib_stop (f : LibSt → LibSt) : (s.setLib f).stop = s.stop := rfl
@[simp] theorem State.setLib_upd (f : LibSt → LibSt) : (s.setLib f).upd = s.upd := rfl
@[simp] theorem State.setLib_bst (f : LibSt → LibSt) : (s.setLib f).bst = s.bst := rfl
@[simp] theorem State.setLib_cell (f : LibSt → LibSt) : (s.setLib f).cell = s.cell := rfl
@[simp] theorem State.setLib_boot (f : LibSt → LibSt) : (s.setLib f).boot = s.boot := rfl
@[simp] theorem State.setLib_hst (f : LibSt → LibSt) : (s.setLib f).hst = s.hst := rfl
@[simp] theorem State.setLib_ejecting (f : LibSt → LibSt) : (s.setLib f).ejecting = s.ejecting := rfl
@[simp] theorem State.setLib_trapPend (f : LibSt → LibSt) : (s.setLib f).trapPend = s.trapPend := rfl

end Sys2Proof.Machine
end

