-- ==== Sys2Proof/Laws/Tab.lean ====
section
/-! SUPPORT. The laws of sparse tables: a read after a write, and that every operation keeps the canonical form. -/

namespace Sys2Proof

variable {α : Type}

/-- Where a table reads its default, it lists nothing below or at its first key. -/
theorem Tab.get_lt [DecidableEq α] (d : Nat → α) :
    ∀ (t : Tab α) (k : Nat), (∀ e ∈ t, k < e.1) → Tab.get d t k = d k
  | [], _, _ => rfl
  | (j, v) :: t, k, h => by
    have hj : k < j := h (j, v) (by simp)
    have : Tab.get d ((j, v) :: t) k = Tab.get d t k := by simp [Tab.get, Nat.ne_of_gt hj]
    rw [this]
    exact Tab.get_lt d t k (fun e he => h e (by simp [he]))

theorem Tab.get_put_same (d : Nat → α) : ∀ (t : Tab α) (k : Nat) (v : α), Tab.get d (Tab.put t k v) k = v
  | [], k, v => by simp [Tab.put, Tab.get]
  | (j, w) :: t, k, v => by
    unfold Tab.put
    split
    · simp [Tab.get]
    · split
      · simp [Tab.get]
      · rename_i h1 h2
        simp only [Tab.get, if_neg (fun h : j = k => h2 h.symm)]
        exact Tab.get_put_same d t k v

theorem Tab.get_put_ne (d : Nat → α) : ∀ (t : Tab α) (k i : Nat) (v : α), i ≠ k → Tab.get d (Tab.put t k v) i = Tab.get d t i
  | [], k, i, v, h => by simp [Tab.put, Tab.get, Ne.symm h]
  | (j, w) :: t, k, i, v, h => by
    unfold Tab.put
    split
    · simp [Tab.get, Ne.symm h]
    · split
      · rename_i _ h2
        subst h2
        simp [Tab.get, Ne.symm h]
      · simp only [Tab.get]
        split
        · rfl
        · exact Tab.get_put_ne d t k i v h

theorem Tab.get_del_same (d : Nat → α) : ∀ (t : Tab α) (k : Nat), Tab.get d (Tab.del t k) k = d k
  | [], _ => rfl
  | (j, w) :: t, k => by
    by_cases h : j = k
    · subst h
      simpa [Tab.del] using Tab.get_del_same d t j
    · have := Tab.get_del_same d t k
      simp only [Tab.del] at this ⊢
      simp [List.filter_cons, h, Tab.get, this]

theorem Tab.get_del_ne (d : Nat → α) : ∀ (t : Tab α) (k i : Nat), i ≠ k → Tab.get d (Tab.del t k) i = Tab.get d t i
  | [], _, _, _ => rfl
  | (j, w) :: t, k, i, hi => by
    have ih := Tab.get_del_ne d t k i hi
    simp only [Tab.del] at ih ⊢
    by_cases h : j = k
    · subst h
      simp [Tab.get, Ne.symm hi, ih]
    · simp [List.filter_cons, h, Tab.get, ih]

/-- A read after a write to the same key gives the value written. -/
@[simp] theorem Tab.get_set_same [DecidableEq α] (d : Nat → α) (t : Tab α) (k : Nat) (v : α) :
    Tab.get d (Tab.set d t k v) k = v := by
  unfold Tab.set
  split
  · rename_i h
    rw [Tab.get_del_same, h]
  · exact Tab.get_put_same d t k v

/-- A write leaves every other key alone. -/
theorem Tab.get_set_ne [DecidableEq α] (d : Nat → α) (t : Tab α) (k i : Nat) (v : α) (h : i ≠ k) :
    Tab.get d (Tab.set d t k v) i = Tab.get d t i := by
  unfold Tab.set
  split
  · exact Tab.get_del_ne d t k i h
  · exact Tab.get_put_ne d t k i v h

/-- The canonical form, entry by entry: the first entry differs from the default, lies below every later one, and the rest
is canonical. -/
theorem Tab.wf_cons [DecidableEq α] (d : Nat → α) :
    ∀ (t : Tab α) (j : Nat) (v : α), Tab.wf d ((j, v) :: t) = true ↔ v ≠ d j ∧ (∀ e ∈ t, j < e.1) ∧ Tab.wf d t = true
  | [], j, v => by simp [Tab.wf]
  | (k, w) :: t, j, v => by
    have ih := Tab.wf_cons d t k w
    simp only [Tab.wf, Bool.and_eq_true, decide_eq_true_eq]
    rw [ih]
    constructor
    · rintro ⟨⟨h1, h2⟩, h3, h4, h5⟩
      refine ⟨h1, ?_, h3, h4, h5⟩
      intro e he
      simp only [List.mem_cons] at he
      rcases he with rfl | he
      · exact h2
      · exact Nat.lt_trans h2 (h4 e he)
    · rintro ⟨h1, h2, h3, h4, h5⟩
      exact ⟨⟨h1, h2 (k, w) (by simp)⟩, h3, h4, h5⟩

/-- What a put lists was listed or is the new entry. -/
theorem Tab.mem_put : ∀ (t : Tab α) (k : Nat) (v : α) (e : Nat × α), e ∈ Tab.put t k v → e = (k, v) ∨ e ∈ t
  | [], k, v, e, h => by simpa [Tab.put] using h
  | (j, w) :: t, k, v, e, h => by
    unfold Tab.put at h
    split at h
    · simpa using h
    · split at h
      · simp only [List.mem_cons] at h ⊢
        rcases h with h | h
        · exact Or.inl h
        · exact Or.inr (Or.inr h)
      · simp only [List.mem_cons] at h ⊢
        rcases h with h | h
        · exact Or.inr (Or.inl h)
        · rcases Tab.mem_put t k v e h with h | h
          · exact Or.inl h
          · exact Or.inr (Or.inr h)

theorem Tab.wf_put [DecidableEq α] (d : Nat → α) :
    ∀ (t : Tab α) (k : Nat) (v : α), v ≠ d k → Tab.wf d t = true → Tab.wf d (Tab.put t k v) = true
  | [], k, v, hv, _ => by simp [Tab.put, Tab.wf, hv]
  | (j, w) :: t, k, v, hv, h => by
    have hc := (Tab.wf_cons d t j w).mp h
    unfold Tab.put
    split
    · rename_i hk
      refine (Tab.wf_cons d _ k v).mpr ⟨hv, ?_, h⟩
      intro e he
      simp only [List.mem_cons] at he
      rcases he with rfl | he
      · exact hk
      · exact Nat.lt_trans hk (hc.2.1 e he)
    · split
      · rename_i _ hk
        subst hk
        exact (Tab.wf_cons d t k v).mpr ⟨hv, hc.2.1, hc.2.2⟩
      · rename_i h1 h2
        refine (Tab.wf_cons d _ j w).mpr ⟨hc.1, ?_, Tab.wf_put d t k v hv hc.2.2⟩
        intro e he
        rcases Tab.mem_put t k v e he with rfl | he
        · show j < k
          omega
        · exact hc.2.1 e he

/-- Leaving entries out keeps the canonical form. -/
theorem Tab.wf_filter [DecidableEq α] (d : Nat → α) (p : Nat × α → Bool) :
    ∀ (t : Tab α), Tab.wf d t = true → Tab.wf d (t.filter p) = true
  | [], _ => rfl
  | (j, w) :: t, h => by
    have hc := (Tab.wf_cons d t j w).mp h
    have ih := Tab.wf_filter d p t hc.2.2
    rw [List.filter_cons]
    split
    · exact (Tab.wf_cons d _ j w).mpr ⟨hc.1, fun e he => hc.2.1 e (List.mem_of_mem_filter he), ih⟩
    · exact ih

theorem Tab.wf_del [DecidableEq α] (d : Nat → α) (t : Tab α) (k : Nat) (h : Tab.wf d t = true) :
    Tab.wf d (Tab.del t k) = true :=
  Tab.wf_filter d _ t h

/-- A write keeps the canonical form. -/
theorem Tab.wf_set [DecidableEq α] (d : Nat → α) (t : Tab α) (k : Nat) (v : α) (h : Tab.wf d t = true) :
    Tab.wf d (Tab.set d t k v) = true := by
  unfold Tab.set
  split
  · exact Tab.wf_del d t k h
  · rename_i hv
    exact Tab.wf_put d t k v hv h

end Sys2Proof
end

