-- ==== Sys2Proof/Laws/Regs.lean ====
section
/-! SUPPORT. The laws of the register file and of memory: a read after a write, and what a write leaves alone. -/

namespace Sys2Proof.Machine

open Sys2Proof

/-- A field reads as it was written, cut to its width. -/
@[simp] theorem State.f_setF_same (s : State) (r : RF) (v : Nat) : (s.setF r v).f r = v % 2 ^ r.len := by
  simp [State.f, State.setF]

/-- A write to a field leaves every field at another place alone. -/
theorem State.f_setF_ne (s : State) (r q : RF) (v : Nat) (h : q.key ≠ r.key) : (s.setF r v).f q = s.f q := by
  simp [State.f, State.setF, Tab.get_set_ne, h]

/-- What a field reads after a write to any field. -/
theorem State.f_setF (s : State) (r q : RF) (v : Nat) :
    (s.setF r v).f q = if q.key = r.key then v % 2 ^ r.len else s.f q := by
  split
  · rename_i h
    simp [State.f, State.setF, h]
  · rename_i h
    exact State.f_setF_ne s r q v h

/-- Fields are read from the register file alone. -/
theorem State.f_congr (s t : State) (q : RF) (h : t.regs = s.regs) : t.f q = s.f q := by
  simp [State.f, h]

@[simp] theorem State.f_wrB (s : State) (a : Nat) (b : Byte) (q : RF) : (s.wrB a b).f q = s.f q := rfl
@[simp] theorem State.f_ans (s : State) (c : Nat) (q : RF) : (s.ans c).f q = s.f q := rfl
@[simp] theorem State.f_reply (s : State) (c v : Nat) (q : RF) : (s.reply c v).f q = s.f q := rfl
@[simp] theorem State.f_send (s : State) (t : Token) (q : RF) : (s.send t).f q = s.f q := rfl
@[simp] theorem State.f_sendQ (s : State) (w : QWord) (q : RF) : (s.sendQ w).f q = s.f q := rfl

/-- A byte reads as it was written. -/
@[simp] theorem State.rdB_wrB_same (s : State) (a : Nat) (b : Byte) : (s.wrB a b).rdB a = b := by
  simp [State.rdB, State.wrB]

/-- A write to a byte leaves every other byte alone. -/
theorem State.rdB_wrB_ne (s : State) (a c : Nat) (b : Byte) (h : c ≠ a) : (s.wrB a b).rdB c = s.rdB c := by
  simp [State.rdB, State.wrB, Tab.get_set_ne, h]

/-- A string of bytes stored from a on leaves every byte outside it alone. -/
theorem State.rdB_wrBytes_out (s : State) (a c : Nat) (bs : List Byte) (h : c < a ∨ a + bs.length ≤ c) :
    (s.wrBytes a bs).rdB c = s.rdB c := by
  induction bs generalizing s a with
  | nil => rfl
  | cons b bs ih =>
    simp only [List.length_cons] at h
    rw [State.wrBytes, ih (s.wrB a b) (a + 1) (by omega), State.rdB_wrB_ne s a c b (by omega)]

/-- Memory operations touch no register field. -/
@[simp] theorem State.regs_wrBytes (s : State) (a : Nat) (bs : List Byte) : (s.wrBytes a bs).regs = s.regs := by
  induction bs generalizing s a with
  | nil => rfl
  | cons b bs ih => rw [State.wrBytes, ih]; rfl

/-- Every write of a byte keeps memory in its canonical form. -/
theorem State.wrB_wf (s : State) (a : Nat) (b : Byte) (h : Memory.wf s.mem = true) :
    Memory.wf (s.wrB a b).mem = true :=
  Tab.wf_set memDefault s.mem a b h

/-- Every store of a string of bytes keeps memory in its canonical form. -/
theorem State.wrBytes_wf (s : State) (a : Nat) (bs : List Byte) (h : Memory.wf s.mem = true) :
    Memory.wf (s.wrBytes a bs).mem = true := by
  induction bs generalizing s a with
  | nil => exact h
  | cons b bs ih => exact ih _ _ (State.wrB_wf s a b h)

/-- Every store of a value keeps memory in its canonical form. -/
theorem State.wr_wf (s : State) (a n v : Nat) (h : Memory.wf s.mem = true) : Memory.wf (s.wr a n v).mem = true :=
  State.wrBytes_wf s a _ h

/-- Leaving bytes out, as a reset and a lost memory do, keeps memory in its canonical form. -/
theorem Memory.wf_filter (m : List Host.Cell) (p : Host.Cell → Bool) (h : Memory.wf m = true) :
    Memory.wf (m.filter p) = true :=
  Tab.wf_filter memDefault p m h

/-- The memory of the module after reset is in its canonical form: it lists nothing. -/
theorem State.reset_mem_wf : Memory.wf State.reset.mem = true := rfl

end Sys2Proof.Machine
end

