-- ==== Sys2Proof/Laws/Engine.lean ====
section
/-! SUPPORT. What one instruction can do to its engine: issue, retirement, the preemption point. -/

namespace Sys2Proof.Machine

open Sys2Proof

@[simp] theorem State.engSt_setEng_same (s : State) (e : Nat) (x : EngSt) : (s.setEng e x).engSt e = x := by
  simp [State.engSt, State.setEng]

theorem State.engSt_setEng_ne (s : State) (e d : Nat) (x : EngSt) (h : d ≠ e) :
    (s.setEng e x).engSt d = s.engSt d := by
  simp [State.engSt, State.setEng, Tab.get_set_ne, h]

@[simp] theorem State.ctx_setCtx_same (s : State) (e c : Nat) (x : Ctx) : (s.setCtx e c x).ctx e c = x := by
  simp [State.ctx, State.setCtx]

theorem State.ctx_setCtx_ne (s : State) (e c d : Nat) (x : Ctx) (h : d ≠ c) :
    (s.setCtx e c x).ctx e d = s.ctx e d := by
  simp [State.ctx, State.setCtx, Tab.get_set_ne, h]

/-- Contexts are read from the engines alone. -/
theorem State.ctx_congr (s t : State) (e c : Nat) (h : t.eng = s.eng) : t.ctx e c = s.ctx e c := by
  simp [State.ctx, State.engSt, h]

@[simp] theorem State.ctx_setF (s : State) (r : RF) (v e c : Nat) : (s.setF r v).ctx e c = s.ctx e c := rfl
@[simp] theorem State.ctx_inc (s : State) (r : RF) (e c : Nat) : (s.inc r).ctx e c = s.ctx e c := rfl
@[simp] theorem State.ctx_order (s : State) (e c : Nat) : (s.order.2).ctx e c = s.ctx e c := rfl
@[simp] theorem State.mem_inc (s : State) (r : RF) : (s.inc r).mem = s.mem := rfl
@[simp] theorem State.mem_order (s : State) : (s.order.2).mem = s.mem := rfl

/-- What a fetch can do: nothing, or the engine holds other lines and a free value may have been taken. -/
theorem State.fetchLine_cases (s : State) (e a : Nat) :
    s.fetchLine e a = s ∨
      ∃ l n, s.fetchLine e a = { s with fresh := n }.setEng e { s.engSt e with icache := l } := by
  unfold State.fetchLine
  extract_lets en n line set r out
  by_cases h : en.icache.any (fun l => l.1 == n) = true
  · exact .inl (if_pos h)
  · rw [if_neg h]
    by_cases k : set.length < 4
    · rw [if_pos k]
      exact .inr ⟨_, s.fresh, rfl⟩
    · rw [if_neg k]
      exact .inr ⟨_, s.fresh + 1, rfl⟩

@[simp] theorem State.ctx_fetched (s : State) (e c d : Nat) : (s.fetched e c).ctx e d = s.ctx e d := by
  obtain h | ⟨l, n, h⟩ := s.fetchLine_cases e (s.ctx e c).pc <;> rw [State.fetched, h]
  simp [State.ctx]

@[simp] theorem State.mem_fetched (s : State) (e c : Nat) : (s.fetched e c).mem = s.mem := by
  obtain h | ⟨l, n, h⟩ := s.fetchLine_cases e (s.ctx e c).pc <;> rw [State.fetched, h]
  rfl

@[simp] theorem State.regs_fetched (s : State) (e c : Nat) : (s.fetched e c).regs = s.regs := by
  obtain h | ⟨l, n, h⟩ := s.fetchLine_cases e (s.ctx e c).pc <;> rw [State.fetched, h]
  rfl

@[simp] theorem State.ctx_engTouch (s : State) (e d c : Nat) : (s.engTouch e).ctx d c = s.ctx d c := by
  unfold State.engTouch
  split
  · split
    · split <;> rfl
    · rfl
  · rfl

/-- Nothing has happened. -/
theorem State.quiet_refl (s : State) (e c : Nat) : s.quiet s e c :=
  ⟨rfl, fun _ _ => rfl, fun d _ => ⟨(s.ctx e d).st, (s.ctx e d).age, rfl⟩, fun _ _ _ _ => rfl⟩

/-- Two changes of this kind make one. -/
theorem State.quiet_trans (s t u : State) (e c : Nat) (h : s.quiet t e c) (k : t.quiet u e c) : s.quiet u e c := by
  obtain ⟨h1, h2, h3, h4⟩ := h
  obtain ⟨k1, k2, k3, k4⟩ := k
  refine ⟨?_, fun d hd => (k2 d hd).trans (h2 d hd), fun d hd => ?_, fun q a b f => (k4 q a b f).trans (h4 q a b f)⟩
  · rw [k1]
    rw [h1]
  · obtain ⟨st, age, hk⟩ := k3 d hd
    obtain ⟨st', age', hh⟩ := h3 d hd
    exact ⟨st, age, by rw [hk, hh]⟩

/-- Writing the context itself. -/
theorem State.quiet_setCtx (s : State) (e c : Nat) (x : Ctx) : s.quiet (s.setCtx e c x) e c :=
  ⟨rfl, fun d hd => State.engSt_setEng_ne s e d _ hd,
    fun d hd => ⟨(s.ctx e d).st, (s.ctx e d).age, by rw [State.ctx_setCtx_ne s e c d x hd]⟩, fun _ _ _ _ => rfl⟩

/-- Writing the order of issue of any context of the engine. -/
theorem State.quiet_setSt (s : State) (e c d st age : Nat) :
    s.quiet (s.setCtx e d { s.ctx e d with st := st, age := age }) e c := by
  refine ⟨rfl, fun f hf => State.engSt_setEng_ne s e f _ hf, fun f _ => ?_, fun _ _ _ _ => rfl⟩
  by_cases h : f = d
  · subst h
    exact ⟨st, age, by rw [State.ctx_setCtx_same]⟩
  · exact ⟨(s.ctx e f).st, (s.ctx e f).age, by rw [State.ctx_setCtx_ne s e d f _ h]⟩

/-- Counting on one of the three registers that may move. -/
theorem State.quiet_setF (s : State) (e c v : Nat) (r : RF)
    (h : r = ENG_RETIRED_COUNT e ∨ r = ENG_PREEMPT_COUNT e ∨ r = ISL_PSTATE_STATE (iENG e)) :
    s.quiet (s.setF r v) e c := by
  refine ⟨rfl, fun _ _ => rfl, fun d _ => ⟨(s.ctx e d).st, (s.ctx e d).age, rfl⟩, fun q a b f => ?_⟩
  apply State.f_setF_ne
  rcases h with rfl | rfl | rfl <;> assumption

theorem State.quiet_order (s : State) (e c : Nat) : s.quiet s.order.2 e c :=
  ⟨rfl, fun _ _ => rfl, fun d _ => ⟨(s.ctx e d).st, (s.ctx e d).age, rfl⟩, fun _ _ _ _ => rfl⟩

/-- The line fetched from goes into the cache. -/
theorem State.quiet_fetched (s : State) (e c : Nat) : s.quiet (s.fetched e c) e c := by
  obtain h | ⟨l, n, h⟩ := s.fetchLine_cases e (s.ctx e c).pc <;> rw [State.fetched, h]
  · exact State.quiet_refl s e c
  · exact ⟨rfl, fun d hd => State.engSt_setEng_ne _ e d _ hd,
      fun d _ => ⟨(s.ctx e d).st, (s.ctx e d).age, by simp [State.ctx]⟩, fun _ _ _ _ => rfl⟩

theorem State.quiet_engTouch (s : State) (e c : Nat) : s.quiet (s.engTouch e) e c := by
  unfold State.engTouch
  split
  · split
    · split
      · exact State.quiet_refl s e c
      · exact State.quiet_trans s _ _ e c
          (⟨rfl, fun _ _ => rfl, fun d _ => ⟨(s.ctx e d).st, (s.ctx e d).age, rfl⟩, fun _ _ _ _ => rfl⟩ :
            s.quiet { s with idleSince := Tab.set (fun _ => 0) s.idleSince (iENG e) s.now } e c)
          (State.quiet_setF _ e c _ _ (Or.inr (Or.inr rfl)))
    · exact State.quiet_setF s e c _ _ (Or.inr (Or.inr rfl))
  · exact State.quiet_refl s e c

/-- Selection for issue changes states of contexts and nothing else of any. -/
theorem State.ctx_pickNext (s : State) (e c : Nat) :
    ∃ st age, (s.pickNext e).ctx e c = { s.ctx e c with st := st, age := age } := by
  unfold State.pickNext
  split
  · exact ⟨_, _, rfl⟩
  · split
    · rename_i d _ _
      by_cases h : c = d
      · subst h
        exact ⟨2, (s.ctx e c).age, by simp⟩
      · exact ⟨(s.ctx e c).st, (s.ctx e c).age, by simp [State.ctx_setCtx_ne, h]⟩
    · exact ⟨(s.ctx e c).st, (s.ctx e c).age, by simp⟩

theorem State.quiet_pickNext (s : State) (e c : Nat) : s.quiet (s.pickNext e) e c := by
  unfold State.pickNext
  split
  · exact State.quiet_refl s e c
  · split
    · exact State.quiet_trans s _ _ e c (State.quiet_setSt s e c _ 2 _) (State.quiet_engTouch _ e c)
    · exact State.quiet_engTouch s e c

/-- A preemption point changes states and ages of contexts and nothing else of any. -/
theorem State.ctx_preempt (s : State) (e c : Nat) :
    ∃ st age, (s.preempt e).ctx e c = { s.ctx e c with st := st, age := age } := by
  unfold State.preempt
  split
  · rename_i r d _ _
    split
    · by_cases hd : c = d
      · subst hd
        by_cases hr : c = r
        · subst hr
          exact ⟨2, s.order.1, by simp⟩
        · exact ⟨2, (s.ctx e c).age, by simp [State.ctx_setCtx_ne, hr]⟩
      · by_cases hr : c = r
        · subst hr
          exact ⟨1, s.order.1, by simp [State.ctx_setCtx_ne, hd]⟩
        · exact ⟨(s.ctx e c).st, (s.ctx e c).age, by simp [State.ctx_setCtx_ne, hd, hr]⟩
    · exact ⟨_, _, rfl⟩
  · exact State.ctx_pickNext s e c

theorem State.quiet_preempt (s : State) (e c : Nat) : s.quiet (s.preempt e) e c := by
  unfold State.preempt
  split
  · rename_i r d _ _
    split
    · have h1 := State.quiet_order s e c
      have h2 := State.quiet_setSt s.order.2 e c r 1 s.order.1
      have h3 := State.quiet_setSt (s.order.2.setCtx e r { s.order.2.ctx e r with st := 1, age := s.order.1 }) e c d 2
        ((s.order.2.setCtx e r { s.order.2.ctx e r with st := 1, age := s.order.1 }).ctx e d).age
      exact State.quiet_trans _ _ _ e c (State.quiet_trans _ _ _ e c (State.quiet_trans _ _ _ e c h1 h2) h3)
        (State.quiet_setF _ e c _ _ (Or.inr (Or.inl rfl)))
    · exact State.quiet_refl s e c
  · exact State.quiet_pickNext s e c

/-- The preemption point of a context with no cancel waiting. -/
theorem State.boundary_went (s : State) (e c : Nat) (h : (s.ctx e c).cancelled = false) :
    (∃ st age, (s.boundary e c).ctx e c = { s.ctx e c with st := st, age := age }) ∧ s.quiet (s.boundary e c) e c := by
  have h0 : ((s.ctx e c).cancelled &&
      ((s.ctx e c).st == 1 || (s.ctx e c).st == 2 || (s.ctx e c).st == 3)) = false := by rw [h]; rfl
  have hb : s.boundary e c = if (s.ctx e c).atomic then s else (s.preempt e).engTouch e := by
    unfold State.boundary
    simp only [h0, Bool.false_eq_true, if_false]
  rw [hb]
  split
  · exact ⟨⟨(s.ctx e c).st, (s.ctx e c).age, rfl⟩, State.quiet_refl s e c⟩
  · refine ⟨?_, State.quiet_trans _ _ _ e c (State.quiet_preempt s e c) (State.quiet_engTouch _ e c)⟩
    obtain ⟨st, age, hp⟩ := State.ctx_preempt s e c
    exact ⟨st, age, by rw [State.ctx_engTouch, hp]⟩

/-- The end of an instruction that retires in a context with no cancel waiting: it has gone on, and nothing else has
changed since the body. -/
theorem State.retire_went (s s' : State) (e c pc : Nat) (h : (s'.ctx e c).cancelled = false) :
    s.went ((s'.retire e c pc (s.ctx e c).atomic).boundary e c) e c (s'.ctx e c) pc ∧
      s'.quiet ((s'.retire e c pc (s.ctx e c).atomic).boundary e c) e c := by
  have hr : (s'.retire e c pc (s.ctx e c).atomic).ctx e c = { s'.ctx e c with
      pc := pc
      retired := (s'.ctx e c).retired + 1
      left := if (s'.ctx e c).atomic && (s.ctx e c).atomic then (s'.ctx e c).left - 1 else (s'.ctx e c).left } := by
    simp [State.retire]
  have hb := State.boundary_went (s'.retire e c pc (s.ctx e c).atomic) e c (by rw [hr]; exact h)
  obtain ⟨⟨st, age, h1⟩, h2⟩ := hb
  refine ⟨⟨st, age, by rw [h1, hr]⟩, State.quiet_trans _ _ _ e c ?_ h2⟩
  exact State.quiet_trans _ _ _ e c (State.quiet_setCtx s' e c _) (State.quiet_setF _ e c _ _ (Or.inl rfl))

/-- What an issued instruction of its row does is what its body says. -/
theorem State.engExec_issues (s : State) (e c : Nat) (w : BitVec 32) (mine : Nat → Bool) (body : State → Nat → Ctx → ERes)
    (h : s.issues e c w) (hm : mine (wOp w) = true) :
    s.engExec e w mine body =
      match body (s.fetched e c) c (s.ctx e c) with
      | .go s' pc => (s'.retire e c pc (s.ctx e c).atomic).boundary e c
      | .trap t k v => ((s.fetched e c).takeTrap e c (s.ctx e c).pc t k v false).boundary e c
      | .trapIn s' t k v => (s'.takeTrap e c (s.ctx e c).pc t k v false).boundary e c
      | .left s' => (s'.pickNext e).engTouch e
      | .stall s' => s' := by
  obtain ⟨h1, h2, h3, h4, h5, h6, h7, h8, h10⟩ := h
  have h9 : ¬((s.ctx e c).atomic = true ∧ (s.ctx e c).left = 0) := fun hh => h7 hh.1 hh.2
  unfold State.engExec
  simp only [h1, h2, h3, h5, h6, h8, h10, hm]
  simp only [Bool.false_eq_true, Bool.true_eq_false, ne_eq, not_true_eq_false, or_self, if_false, h9]
  rfl

/-- An issued instruction whose body goes on at pc from a state s2 in which only the engine has changed since s1, the state
in which its effects outside the engine have been made: the context has gone on from what s2 holds, and nothing else has
changed since s1. -/
theorem State.engExec_go (s s1 s2 : State) (e c : Nat) (w : BitVec 32) (mine : Nat → Bool)
    (body : State → Nat → Ctx → ERes) (pc : Nat) (h : s.issues e c w) (hm : mine (wOp w) = true)
    (hb : body (s.fetched e c) c (s.ctx e c) = .go s2 pc) (hq : s1.quiet s2 e c) (hc : (s2.ctx e c).cancelled = false) :
    s1.quiet (s.engExec e w mine body) e c ∧ s.went (s.engExec e w mine body) e c (s2.ctx e c) pc := by
  rw [State.engExec_issues s e c w mine body h hm, hb]
  have hr := State.retire_went s s2 e c pc hc
  exact ⟨State.quiet_trans _ _ _ e c hq hr.2, hr.1⟩

/-- An issued instruction that changes its context alone: y is the context it leaves. -/
theorem State.engExec_ctx (s : State) (e c : Nat) (w : BitVec 32) (mine : Nat → Bool)
    (body : State → Nat → Ctx → ERes) (pc : Nat) (y : Ctx) (h : s.issues e c w) (hm : mine (wOp w) = true)
    (hb : body (s.fetched e c) c (s.ctx e c) = .go ((s.fetched e c).setCtx e c y) pc) (hc : y.cancelled = false) :
    s.quiet (s.engExec e w mine body) e c ∧ s.went (s.engExec e w mine body) e c y pc := by
  have hg := State.engExec_go s s ((s.fetched e c).setCtx e c y) e c w mine body pc h hm hb
    (State.quiet_trans _ _ _ e c (State.quiet_fetched s e c) (State.quiet_setCtx _ e c y)) (by simpa using hc)
  rw [State.ctx_setCtx_same] at hg
  exact hg

/-- An issued instruction that writes context y and goes on at the next word. -/
theorem State.engExec_next (s : State) (e c : Nat) (w : BitVec 32) (mine : Nat → Bool)
    (body : State → Nat → Ctx → ERes) (p : Nat) (y : Ctx) (h : s.issues e c w)
    (hm : mine (wOp w) = true) (hb : body (s.fetched e c) c (s.ctx e c) = (s.fetched e c).goNext e c y) (hp : y.pc = p)
    (hc : y.cancelled = false) :
    s.quiet (s.engExec e w mine body) e c ∧ s.went (s.engExec e w mine body) e c y (p + 4) := by
  subst hp
  exact State.engExec_ctx s e c w mine body (y.pc + 4) y h hm hb hc

/-- A trap outside handler mode, at the preemption point after it. -/
theorem State.takeTrap_trapped (s : State) (e c pc cause status value : Nat) (hh : (s.ctx e c).handler = false)
    (hc : (s.ctx e c).cancelled = false) :
    s.trapped ((s.takeTrap e c pc cause status value false).boundary e c) e c pc cause status value ∧
      ((s.takeTrap e c pc cause status value false).boundary e c).mem = s.mem := by
  have hx : (s.takeTrap e c pc cause status value false).ctx e c = { s.ctx e c with
      handler := true, atomic := false, left := 0, trapPc := pc, trapCause := status * 256 + cause, trapValue := value
      pc := s.f (ENG_TRAP_VEC_VEC e) * 4 } := by
    simp [State.takeTrap, hh, b2n]
  have hm : (s.takeTrap e c pc cause status value false).mem = s.mem := by
    simp [State.takeTrap, hh]
  have hb := State.boundary_went (s.takeTrap e c pc cause status value false) e c (by rw [hx]; exact hc)
  obtain ⟨⟨st, age, h1⟩, h2⟩ := hb
  refine ⟨⟨st, age, by rw [h1, hx]⟩, ?_⟩
  rw [h2.1]
  exact hm

/-- Memory is untouched where nothing but the engine's own state has changed. -/
theorem State.quiet_mem (s t : State) (e c : Nat) (h : s.quiet t e c) : t.mem = s.mem := by
  rw [h.1]

@[simp] theorem Ctx.wg_pc (x : Ctx) (r : Nat) (v : BitVec 64) : (x.wg r v).pc = x.pc := by
  unfold Ctx.wg
  split <;> rfl

@[simp] theorem Ctx.wg_cancelled (x : Ctx) (r : Nat) (v : BitVec 64) : (x.wg r v).cancelled = x.cancelled := by
  unfold Ctx.wg
  split <;> rfl

@[simp] theorem Ctx.wf_cancelled (x : Ctx) (r : Nat) (v : BitVec 64) : (x.wf r v).cancelled = x.cancelled := rfl
@[simp] theorem Ctx.wv_cancelled (x : Ctx) (r : Nat) (v : BitVec 256) : (x.wv r v).cancelled = x.cancelled := rfl
@[simp] theorem Ctx.wo_cancelled (x : Ctx) (r : Nat) (v : BitVec 64) : (x.wo r v).cancelled = x.cancelled := rfl
@[simp] theorem Ctx.wk_cancelled (x : Ctx) (r : Nat) (v : KSlot) : (x.wk r v).cancelled = x.cancelled := rfl

/-- A context's cancel mark does not move while it issues. -/
theorem State.issues_cancelled (s : State) (e c : Nat) (w : BitVec 32) (h : s.issues e c w) :
    (s.ctx e c).cancelled = false := h.2.2.2.1

@[simp] theorem State.eng_wrBytes (s : State) (a : Nat) (bs : List Byte) : (s.wrBytes a bs).eng = s.eng := by
  induction bs generalizing s a with
  | nil => rfl
  | cons b bs ih => rw [State.wrBytes, ih]; rfl

@[simp] theorem State.ctx_wrBytes (s : State) (a : Nat) (bs : List Byte) (e c : Nat) :
    (s.wrBytes a bs).ctx e c = s.ctx e c :=
  State.ctx_congr s _ e c (State.eng_wrBytes s a bs)

theorem leBytes_length : ∀ (n v : Nat), (leBytes n v).length = n
  | 0, _ => rfl
  | n + 1, v => by simp [leBytes, leBytes_length n]

/-- The low n bytes of a value are those of its residue. -/
theorem leBytes_mod : ∀ (n v : Nat), leBytes n (v % 2 ^ (8 * n)) = leBytes n v
  | 0, _ => rfl
  | n + 1, v => by
    have h : v % 2 ^ (8 * (n + 1)) / 256 = v / 256 % 2 ^ (8 * n) := by
      rw [show 8 * (n + 1) = 8 + 8 * n by omega, Nat.pow_add]
      exact Nat.mod_mul_right_div_self v (2 ^ 8) (2 ^ (8 * n))
    have h2 : BitVec.ofNat 8 (v % 2 ^ (8 * (n + 1))) = BitVec.ofNat 8 v := by
      apply BitVec.eq_of_toNat_eq
      simp only [BitVec.toNat_ofNat]
      exact Nat.mod_mod_of_dvd v (Nat.pow_dvd_pow 2 (by omega))
    simp only [leBytes, h, h2, leBytes_mod n]

/-- Only the low bytes of the value are stored. -/
theorem State.wr_mod (s : State) (a n v : Nat) : s.wr a n (v % 2 ^ (8 * n)) = s.wr a n v := by
  simp [State.wr, leBytes_mod]

/-- A store changes memory alone. -/
theorem State.wrBytes_eq (s : State) (a : Nat) (bs : List Byte) : s.wrBytes a bs = { s with mem := (s.wrBytes a bs).mem } := by
  induction bs generalizing s a with
  | nil => rfl
  | cons b bs ih =>
    rw [State.wrBytes]
    exact ih (s.wrB a b) (a + 1)

/-- Stores depend on memory alone. -/
theorem State.wrBytes_mem_congr (s t : State) (a : Nat) (bs : List Byte) (h : s.mem = t.mem) :
    (s.wrBytes a bs).mem = (t.wrBytes a bs).mem := by
  induction bs generalizing s t a with
  | nil => exact h
  | cons b bs ih => exact ih _ _ _ (by simp [State.wrB, h])

/-- Reads depend on memory alone. -/
theorem State.rdBytes_congr (s t : State) (a n : Nat) (h : s.mem = t.mem) : s.rdBytes a n = t.rdBytes a n := by
  induction n generalizing a with
  | zero => rfl
  | succ n ih => simp [State.rdBytes, State.rdB, h, ih]

/-- A store after the fetch and one before it make states that differ in the engine alone. -/
theorem State.quiet_wr_fetched (s : State) (e c a n v : Nat) : (s.wr a n v).quiet ((s.fetched e c).wr a n v) e c := by
  have hm : ((s.fetched e c).wr a n v).mem = (s.wr a n v).mem :=
    State.wrBytes_mem_congr _ _ _ _ (State.mem_fetched s e c)
  have h1 : (s.fetched e c).wr a n v = { s.fetched e c with mem := (s.wr a n v).mem } := by
    rw [← hm]
    exact State.wrBytes_eq _ _ _
  have h2 : s.wr a n v = { s with mem := (s.wr a n v).mem } := State.wrBytes_eq _ _ _
  generalize (s.wr a n v).mem = m at h1 h2
  rw [h1, h2]
  obtain ⟨q1, q2, q3, q4⟩ := State.quiet_fetched s e c
  refine ⟨?_, fun d hd => q2 d hd, fun d hd => q3 d hd, fun q a b f => q4 q a b f⟩
  show { s.fetched e c with mem := m } = _
  rw [q1]

theorem State.rdB_congr (s t : State) (a : Nat) (h : s.mem = t.mem) : s.rdB a = t.rdB a := by
  simp [State.rdB, h]

end Sys2Proof.Machine
end

