-- ==== Sys2Proof/Tests/Slice0.lean ====
section
/-! SUPPORT. Tests of the model's own author: ill-formed commands that the checks refuse, witnesses that the premises of the
statements can be met, and single commands whose results the manual gives. -/

namespace Sys2Proof.Tests

set_option maxRecDepth 20000
set_option Elab.async false

open Sys2Proof Sys2Proof.Machine

/-- The module in phase RUN. -/
def up : State := { State.reset with boot := { State.reset.boot with held := false } }.setF SYS_BOOT_PHASE 4

/-- A context running at the start of local SRAM of engine 0. -/
def cx : Ctx := { Ctx.empty with st := 2, pc := 0x0100000000 }

/-- A state in which engine 0 runs x and its code is the one word w. -/
def on (w : BitVec 32) (x : Ctx) : State :=
  { up with eng := [(0, { EngSt.fresh with ctxs := [(0, x)] })] }.wr 0x0100000000 4 w.toNat

theorem test_witness_StepRunsFront :
    ({ State.reset with pending := [.refinLost] }).pending = [.refinLost] ∧ State.reset.pending = [] ∧ State.reset.boot.held = true := by
  and_intros <;> decide +kernel

/-- A state with register fields set. -/
def sets (s : State) (l : List (RF × Nat)) : State := l.foldl (fun s p => s.setF p.1 p.2) s

/-- Stream 0 runs and channel c is set for GPS L1 C/A number 1, in state st. -/
def chUp (c st : Nat) : State :=
  sets up [(SMPn_Sg_CFG_ENABLE 0 0, 1), (SMPn_Sg_STAT_LOCKED 0 0, 1), (SMPn_Sg_CFG_RATE_KHZ 0 0, 20000),
    (SMPn_Sg_LO_LO 0 0, 1575420000 * 65536), (GBB_CH_CFG_NUMBER c, 1), (GBB_CH_CFG_EL_SPACING c, 64),
    (GBB_CH_CFG_VEVL_SPACING c, 128), (GBB_CH_CFG_T_DATA c, 1), (GBB_CH_CFG_T_PILOT c, 1), (GBB_CH_LOOP_PLL_BW c, 1500),
    (GBB_CH_LOOP_FLL_BW c, 100), (GBB_CH_LOOP_DLL_BW c, 100), (GBB_CH_LOOP_CN0_AVG c, 10), (GBB_CH_LOOP_LOSS_COUNT c, 10),
    (GBB_CH_RECOVER_VEC_TIMEOUT_MS c, 1000), (GBB_CH_STATUS_STATE c, st)]

/-- A state n SREF edges after reset. -/
def edges (s : State) (n : Nat) : State := { s with tim := { s.tim with edges := n } }

/-- An instruction word of the register format (R84). -/
def iw (op rd ra rb fn10 : Nat) : BitVec 32 := BitVec.ofNat 32 (op + rd * 2 ^ 7 + ra * 2 ^ 12 + rb * 2 ^ 17 + fn10 * 2 ^ 22)

/-- An instruction word with a 12-bit immediate (R84). -/
def im (op rd ra fn3 imm : Nat) : BitVec 32 := BitVec.ofNat 32 (op + rd * 2 ^ 7 + ra * 2 ^ 12 + fn3 * 2 ^ 17 + imm * 2 ^ 20)

/-- A token instruction (R97): fn6, M and x. -/
def tw (rd ra rb fn6 m x : Nat) : BitVec 32 := iw 0x40 rd ra rb (fn6 * 16 + m * 8 + x)

/-- The context with g1 = a and g2 = b. -/
def gg (a b : BitVec 64) : Ctx := (cx.wg 1 a).wg 2 b

/-- Queue n enabled for any reader. -/
def queueUp (n : Nat) (q : Queue) : State :=
  ({ up with que := [(n, q)] }.setF (QUE_Qn_CFG_ENABLE n) 1).setF (QUE_Qn_CFG_ANY_READER n) 1

/-- An unstamped token of engine 0. -/
def tk (dest tag data : Nat) : Token := ⟨dest, tag, data, 0x4000, none, none⟩

/-- The module running with one entry of the instance table. -/
def withInst (i : Nat) (d : Desc) : State := { up with dug := { up.dug with inst := [(i, d)] } }

/-- A static instance that collects slot 0 alone. -/
def d2 : Desc := { Desc.free with w0 := 2 ^ 16 + 2 ^ 8 + 1, w4 := 2 ^ 24, st := 2 }

/-- The 15 outputs before the last that an outbox takes (R99). -/
def outs15 : List Out := List.replicate 15 ⟨0x1C00, 1, 0, 5, 6⟩

/-- The module running with island isl locked. -/
def lockedUp (isl : Nat) : State := up.setF (ISL_LOCK_LOCKED isl) 1

/-- The module running with island isl OFF. -/
def offUp (isl : Nat) : State := up.setF (ISL_PSTATE_STATE isl) 0

theorem test_witness_RegisterAccess_registers :
    up.serves iPOS = true ∧ 3 < 4 ∧ up.serves iZON = true ∧
      (lockedUp iDUG).serves iDUG = true ∧ (lockedUp iDUG).on (ISL_LOCK_LOCKED iDUG) = true ∧
      (lockedUp iDUG).f DUG_CTRL_SPILL_EN ≠ 1 - up.f DUG_CTRL_SPILL_EN ∧
      regIsland 0x0200240040 = some iZON ∧ prefixAddr 0x0200240040 = false ∧ (offUp iZON).ist iZON = 0 ∧
      (offUp iZON).on (ISL_REFUSE_INFO_VALID iZON) = false := by
  and_intros <;> decide +kernel

theorem test_witness_RegisterAccess_halves :
    regIsland 0x0200060038 = some iTIM ∧ (regAt 0x0200060038).map (fun p => (p.1.bytes, p.2)) = some (8, 0x0200060038) ∧
      up.serves iTIM = true ∧ regIsland 0x0010000000 = none ∧ up.memCheck 0 0x0010000000 8 true = cOK ∧
      up.memCheck 0 0x00107FFFF8 8 true = cOK := by
  and_intros <;> decide +kernel

theorem test_witness_RegisterAccess_lock :
    isIsland iZON = true ∧ up.holds iZON = false ∧ epIsl (ep iREF 0) = iREF ∧ epIsl (ep (iENG 0) 0) ≠ iREF := by
  and_intros <;> decide +kernel

theorem test_witness_IslandPower :
    isIsland iZON = true ∧ iZON < 0x2E ∧ up.serves iZON = true ∧ bits 0x30 6 4 = 3 ∧ bits 0x20 6 4 = 2 ∧
      up.holds iDUG = false ∧ bits 0 6 4 = 0 ∧ neverGates iDUG = true ∧ neverGates iZON = false ∧
      (up.setF (ISL_PSTATE_STATE iPOS) 2).ist iPOS = 2 ∧ neverGates iPOS = false ∧
      ({ up with tim := { up.tim with time48 := 2 ^ 60 } }.setF (ISL_PSTATE_STATE iPOS) 2).islandActive iPOS = false ∧
      (offUp iPOS).f (ISL_PSTATE_REQ iPOS) ≠ 0 ∧ up.held = [] := by
  and_intros <;> decide +kernel

/-- An item of flow 1 that waits for its journal write, from a task. -/
def jw : JWrite := ⟨.task 0x4000 none, 5, 1, 0, 0, 0, leBytes 8 7⟩

/-- A commit of flow 1 that waits for its record. -/
def cj : CommitJob := ⟨0, 0, 9, 1, 0, [⟨0x1C00, 1, 0, 5, 6⟩], false, 0⟩

def withMem (f : MemSt → MemSt) : State := { up with memc := f up.memc }

theorem test_witness_JournalRecords :
    up.inStack = false ∧ up.f BXL_STATUS_STATE ≠ 3 ∧
      (withMem (fun m => { m with itemWrites := [jw] })).memc.itemWrites = jw :: [] ∧ jw.flow < 4096 ∧
      jw.origin = .task 0x4000 none ∧
      (withMem (fun m => { m with commitJobs := [cj] })).memc.commitJobs = cj :: [] ∧ cj.flow < 4096 ∧
      cj.outs.all (fun o => o.typ == 1 || o.typ == 2) = true ∧
      up.boot.held = false ∧ up.memc.itemWrites = [] ∧ (withMem (fun m => { m with failA := true })).memc.failA = true := by
  and_intros <;> decide +kernel

/-! ### Engines -/

theorem test_witness_IntegerResults :
    (on (iw 0x01 3 1 2 0) (gg 2 3)).issues 0 0 (iw 0x01 3 1 2 0) ∧ wOp (iw 0x01 3 1 2 0) = 0x01 ∧
      intReg (iw 0x01 3 1 2 0) 2 3 = some 5 ∧
      (on (im 0x02 3 1 0 0xFFF) (gg 2 3)).issues 0 0 (im 0x02 3 1 0 0xFFF) ∧
      intImm (im 0x02 3 1 0 0xFFF) 2 = some 1 ∧
      (on (iw 0x03 3 1 0 0) cx).issues 0 0 (iw 0x03 3 1 0 0) ∧ (on (iw 0x04 3 1 0 0) cx).issues 0 0 (iw 0x04 3 1 0 0) := by
  unfold State.issues
  and_intros <;> decide +kernel

theorem test_witness_IntegerResults_division :
    wFn10 (iw 0x01 3 1 2 0x014) = 0x014 ∧ wFn10 (iw 0x01 3 1 2 0x217) = 0x217 ∧
      (0x80000000 : BitVec 64).setWidth 32 = BitVec.intMin 32 ∧ (BitVec.allOnes 64).setWidth 32 = BitVec.allOnes 32 := by
  and_intros <;> decide +kernel

/-- ADDI wraps and a set-less-than compares as signed (R87). -/
theorem test_add_wraps : intReg (iw 0x01 3 1 2 0) (BitVec.allOnes 64) 1 = some 0 := by decide
theorem test_slt_signed : intReg (iw 0x01 3 1 2 8) (BitVec.allOnes 64) 0 = some 1 := by decide

theorem test_witness_Loads :
    (on (im 0x08 3 1 3 0) (gg 0x0100000000 0)).issues 0 0 (im 0x08 3 1 3 0) ∧
      wFn3 (im 0x08 3 1 3 0) = 3 ∧
      (on (im 0x08 3 1 3 0) (gg 0x0100000000 0)).dataCheck 0 (gg 0x0100000000 0) 0x0100000000 8 [0] = none ∧
      regIsland 0x0100000000 = none ∧
      (on (im 0x08 3 1 3 0) (gg 0x0100000000 0)).memCheck (ep (iENG 0) 0) 0x0100000000 8 false = cOK ∧
      (on (im 0x0C 3 1 2 4) (gg 0x0100000000 0)).issues 0 0 (im 0x0C 3 1 2 4) ∧
      (on (im 0x31 3 1 0 32) (gg 0x0100000000 0)).issues 0 0 (im 0x31 3 1 0 32) ∧ vform (im 0x31 3 1 0 32) = some 0 ∧
      (on (im 0x31 3 1 0 32) (gg 0x0100000000 0)).dataCheck 0 (gg 0x0100000000 0) 0x0100000020 32 [0] = none := by
  unfold State.issues
  and_intros <;> decide +kernel

theorem test_witness_Stores :
    (on (im 0x09 2 1 0 0x7FF) (gg 0x0100000000 7)).issues 0 0 (im 0x09 2 1 0 0x7FF) ∧
      ea (gg 0x0100000000 7) (im 0x09 2 1 0 0x7FF) = 0x01000007FF ∧
      up.dataCheck 0 (gg 0x0100000000 7) 0x01000007FF 1 [1] = none ∧
      up.memCheck (ep (iENG 0) 0) 0x010003FFF8 8 true = cOK ∧
      (on (im 0x0D 2 1 3 8) (gg 0x0100000000 7)).issues 0 0 (im 0x0D 2 1 3 8) ∧
      (on (im 0x31 2 1 1 64) (gg 0x0100000000 7)).issues 0 0 (im 0x31 2 1 1 64) ∧ vform (im 0x31 2 1 1 64) = some 1 := by
  unfold State.issues
  and_intros <;> decide +kernel

theorem test_witness_AtomicWords :
    (on (iw 0x0A 3 1 2 4) (gg 0x0100000008 7)).issues 0 0 (iw 0x0A 3 1 2 4) ∧
      up.dataCheck 0 (gg 0x0100000008 7) 0x0100000008 8 [0, 1] = none ∧ regionOf 0x0100000008 8 = .localSram 0 ∧
      up.memCheck (ep (iENG 0) 0) 0x0100000008 8 false = cOK ∧ wFn10 (iw 0x0A 3 1 2 4) = 4 := by
  unfold State.issues
  and_intros <;> decide +kernel

theorem test_witness_Branches :
    (on (im 0x10 1 2 5 0xFFF) (gg 3 3)).issues 0 0 (im 0x10 1 2 5 0xFFF) ∧ wFn3 (im 0x10 1 2 5 0xFFF) = 5 ∧
      (on (iw 0x11 1 0 0 0) cx).issues 0 0 (iw 0x11 1 0 0 0) ∧
      (on (im 0x12 1 1 0 0) (gg 0x0100000040 0)).issues 0 0 (im 0x12 1 1 0 0) ∧
      ea (gg 0x0100000040 0) (im 0x12 1 1 0 0) % 4 = 0 := by
  unfold State.issues
  and_intros <;> decide +kernel

theorem test_witness_FloatingResults :
    (on (iw 0x20 3 1 2 0) cx).issues 0 0 (iw 0x20 3 1 2 0) ∧ (floatOp (iw 0x20 3 1 2 0) cx).isSome = true ∧
      (on (iw 0x21 3 1 2 0) cx).issues 0 0 (iw 0x21 3 1 2 0) ∧ bits (iw 0x21 3 1 2 0).toNat 31 30 = 0 ∧
      (on (iw 0x30 3 1 2 0) cx).issues 0 0 (iw 0x30 3 1 2 0) := by
  unfold State.issues
  and_intros <;> decide +kernel

theorem test_witness_TokenRegisters :
    (on (tw 3 0 0 0 0 7) (cx.wk 7 ⟨5, 6, true⟩)).issues 0 0 (tw 3 0 0 0 0 7) ∧
      tokFields (tw 3 0 0 0 0 7) true false false true false = true ∧ wX (tw 3 0 0 0 0 7) = 7 ∧
      ((cx.wk 7 ⟨5, 6, true⟩).rk 7).full = true ∧ (cx.rk 0).full = false ∧
      (on (tw 3 0 0 1 0 0) cx).issues 0 0 (tw 3 0 0 1 0 0) ∧ wFn6 (tw 3 0 0 1 0 0) = 1 ∧
      (on (tw 0 1 0 0xB 0 7) cx).issues 0 0 (tw 0 1 0 0xB 0 7) ∧
      tokFields (tw 0 1 0 0xB 0 7) false true false true false = true ∧
      (on (tw 3 0 0 0xC 0 0) cx).issues 0 0 (tw 3 0 0 0xC 0 0) ∧
      tokFields (tw 3 0 0 0xC 0 0) true false false true false = true := by
  unfold State.issues
  and_intros <;> decide +kernel

theorem test_witness_Outbox :
    (on (tw 0 1 2 2 0 7) { gg 0xFFFF 0xFFFFFFFF with outbox := outs15 }).issues 0 0 (tw 0 1 2 2 0 7) ∧
      tokFields (tw 0 1 2 2 0 7) false true true true true = true ∧ wM (tw 0 1 2 2 0 7) = false ∧ outs15.length < 16 ∧
      (on (tw 0 1 2 2 1 7) (gg 0xFFFF 0xFFFFFFFF)).issues 0 0 (tw 0 1 2 2 1 7) ∧ wM (tw 0 1 2 2 1 7) = true ∧
      (on (tw 0 1 0 3 0 7) (gg 0x73F 0)).issues 0 0 (tw 0 1 0 3 0 7) ∧ 0x73F < 2 ^ 11 ∧ bits 0x73F 7 6 = 0 ∧
      tokFields (tw 0 1 0 3 0 7) false true false true true = true ∧
      (on (tw 0 1 0 3 1 7) (gg 0x73F 0)).issues 0 0 (tw 0 1 0 3 1 7) ∧ cx.atomic = false ∧ cx.bound = false ∧
      cx.deferred = [] ∧ outs15.all (fun o => o.typ == 1 || o.typ == 2) = true := by
  unfold State.issues
  and_intros <;> decide +kernel

/-- The same with engine 0 running x at the word w. -/
def queueOn (n : Nat) (q : Queue) (w : BitVec 32) (x : Ctx) : State :=
  { queueUp n q with eng := (on w x).eng, mem := (on w x).mem }

theorem test_witness_Receive :
    (queueOn 63 ⟨[⟨0, 5, 0⟩], [], [], 1, 0, 0⟩ (tw 3 1 0 4 0 0) (gg 63 0)).issues 0 0 (tw 3 1 0 4 0 0) ∧
      tokFields (tw 3 1 0 4 0 0) true true false false true = true ∧
      (queueOn 63 ⟨[⟨0, 5, 0⟩], [], [], 1, 0, 0⟩ (tw 3 1 0 4 0 0) (gg 63 0)).serves iQUE = true ∧
      (queueOn 63 ⟨[⟨0, 5, 0⟩], [], [], 1, 0, 0⟩ (tw 3 1 0 4 0 0) (gg 63 0)).on (QUE_Qn_CFG_ENABLE 63) = true ∧
      (queueOn 63 ⟨[⟨0, 5, 0⟩], [], [], 1, 0, 0⟩ (tw 3 1 0 4 0 0) (gg 63 0)).on (QUE_Qn_CFG_ANY_READER 63) = true ∧
      ((queueOn 63 ⟨[⟨0, 5, 0⟩], [], [], 1, 0, 0⟩ (tw 3 1 0 4 0 0) (gg 63 0)).q 63).best = some ⟨0, 5, 0⟩ ∧
      (queueOn 0 ⟨[], [], [], 1, 0, 0⟩ (tw 3 1 0 4 1 0) (gg 0 0)).issues 0 0 (tw 3 1 0 4 1 0) ∧
      ((queueOn 0 ⟨[], [], [], 1, 0, 0⟩ (tw 3 1 0 4 1 0) (gg 0 0)).q 0).best = none ∧ wM (tw 3 1 0 4 1 0) = true := by
  unfold State.issues
  and_intros <;> decide +kernel

theorem test_witness_DugoutAsks :
    (on (tw 3 1 0 5 0 0) (gg 0xFFFF 0)).issues 0 0 (tw 3 1 0 5 0 0) ∧
      tokFields (tw 3 1 0 5 0 0) true true false false false = true ∧
      (on (tw 3 1 0 6 0 0) (gg 0xFFFFF 0)).issues 0 0 (tw 3 1 0 6 0 0) ∧
      (on 0 { cx with ask := some (.spawn 3 4096) }).serves iDUG = true ∧
      (on 0 { cx with ask := some (.spawn 3 4096) }).engOn 0 = true ∧
      (on 0 { cx with ask := some (.spawn 3 4095) }).freeLongest = some 0 ∧
      (on 0 { cx with ask := some (.cancel 3 0 0) }).inst 0 = Desc.free := by
  unfold State.issues
  and_intros <;> decide +kernel

theorem test_witness_DugoutAsks_template :
    ({ up with dug := { up.dug with templ := [(4095, { Desc.free with w0 := 2 * 2 ^ 62 + 1 })] } }.templ 4095).kind ≠ 0 := by
  decide +kernel

theorem test_witness_Commits :
    (on (tw 0 0 0 7 0 0) { cx with outbox := outs15 }).issues 0 0 (tw 0 0 0 7 0 0) ∧
      tokFields (tw 0 0 0 7 0 0) false false false false false = true ∧
      (on (tw 0 0 0 7 1 0) { cx with bound := true, flow := 1 }).issues 0 0 (tw 0 0 0 7 1 0) ∧
      tokFields (tw 0 0 0 7 1 0) false false false false true = true ∧ wM (tw 0 0 0 7 1 0) = true ∧
      (on (tw 0 0 0 8 0 0) { cx with bound := true, flow := 1 }).issues 0 0 (tw 0 0 0 8 0 0) ∧
      (on (tw 0 0 0 7 1 0) cx).issues 0 0 (tw 0 0 0 7 1 0) ∧ (up.inst 0).flowBound = false ∧ (up.inst 0).kind ≠ 2 ∧
      (on (tw 0 0 0 8 0 0) cx).issues 0 0 (tw 0 0 0 8 0 0) ∧
      (on (tw 0 0 0 0xD 0 0) cx).issues 0 0 (tw 0 0 0 0xD 0 0) ∧ wFn6 (tw 0 0 0 0xD 0 0) = 0xD ∧
      { cx with st := 4 }.st = 4 ∧ up.memc.commitJobs = [] ∧ up.acts = [] := by
  unfold State.issues
  and_intros <;> decide +kernel

theorem test_witness_SnapAndStop :
    (on (tw 3 1 0 9 0 0) (gg 16 0)).issues 0 0 (tw 3 1 0 9 0 0) ∧
      tokFields (tw 3 1 0 9 0 0) true true false false false = true ∧ up.serves iGOB = true ∧ up.gob.soft = none ∧
      up.now + 16 ≤ 16 ∧ up.snapConflict (up.edgeAt 16) = false ∧
      { up.gob with soft := some ⟨99, false, false⟩ }.soft ≠ none ∧
      0 < 15 ∧ 15 < up.now + 16 ∧
      (on (tw 0 1 0 0xA 0 0) (gg 5 0)).issues 0 0 (tw 0 1 0 0xA 0 0) ∧
      tokFields (tw 0 1 0 0xA 0 0) false true false false false = true ∧
      (up.setF REF_STOP_STATUS_LATCHED 0).latched = false := by
  unfold State.issues
  and_intros <;> decide +kernel

theorem test_witness_ControlRegisters :
    (on (im 0x48 3 0 0 0x031) cx).issues 0 0 (im 0x48 3 0 0 0x031) ∧ bits (im 0x48 3 0 0 0x031).toNat 31 20 = 0x031 ∧
      (on (im 0x48 3 0 0 0x032) cx).issues 0 0 (im 0x48 3 0 0 0x032) ∧ wRa (im 0x48 3 0 0 0x032) = 0 ∧
      (on (im 0x48 0 1 1 0x010) (gg 4 0)).issues 0 0 (im 0x48 0 1 1 0x010) ∧ wFn3 (im 0x48 0 1 1 0x010) = 1 ∧
      (on (im 0x48 0 1 1 0x020) { gg 4 0 with handler := true }).issues 0 0 (im 0x48 0 1 1 0x020) := by
  unfold State.issues
  and_intros <;> decide +kernel

theorem test_witness_Sections :
    (on (im 0x48 0 0 2 0) cx).issues 0 0 (im 0x48 0 0 2 0) ∧ (on (im 0x48 0 0 2 1) cx).issues 0 0 (im 0x48 0 0 2 1) ∧
      (on (im 0x48 0 0 2 2) cx).issues 0 0 (im 0x48 0 0 2 2) ∧
      (on (im 0x48 0 0 2 3) { cx with atomic := true, left := 1 }).issues 0 0 (im 0x48 0 0 2 3) ∧
      (on (im 0x48 0 0 2 4) { cx with handler := true, trapPc := 8 }).issues 0 0 (im 0x48 0 0 2 4) ∧
      wFn3 (im 0x48 0 0 2 4) = 2 ∧ bits (im 0x48 0 0 2 4).toNat 31 20 = 4 := by
  unfold State.issues
  and_intros <;> decide +kernel

theorem test_witness_Traps :
    (on (im 0x48 0 0 2 5) cx).issues 0 0 (im 0x48 0 0 2 5) ∧ bits (im 0x48 0 0 2 5).toNat 31 20 = 5 ∧
      (on (iw 0x01 1 2 3 0x3FF) cx).issues 0 0 (iw 0x01 1 2 3 0x3FF) ∧ wFn10 (iw 0x01 1 2 3 0x3FF) = 0x3FF ∧
      (on (tw 3 0 0 0 0 7) cx).issues 0 0 (tw 3 0 0 0 0 7) ∧ (cx.rk 7).full = false ∧
      (on (tw 0 0 0 7 0 0) { cx with bound := true }).issues 0 0 (tw 0 0 0 7 0 0) ∧
      (on (tw 0 0 0 8 0 0) { cx with atomic := true, left := 3 }).issues 0 0 (tw 0 0 0 8 0 0) ∧
      (on 0 cx).running 0 = some 0 ∧ cx.cancelled = false ∧ cx.handler = false := by
  unfold State.issues
  and_intros <;> decide +kernel

theorem test_witness_ClockPoints :
    up.serves (iENG 15) = true ∧ up.f (ENG_DVFS_SWITCHING 15) = 0 ∧ up.on (ISL_LOCK_LOCKED (iENG 15)) = false ∧
      (up.engSt 15).cap = none ∧ 0 ≤ up.f (ENG_DVFS_CUR 15) ∧ (up.setF (ENG_DVFS_CUR 15) 0).f (ENG_DVFS_CUR 15) < 5 ∧
      (up.engSt 15).dvfsNext = none := by
  and_intros <;> decide +kernel

/-! ### Dugout, queues -/

/-- The same, READY. -/
def d3 : Desc := { d2 with st := 3, toks := [⟨0, 5, 0, 0⟩] }

theorem test_witness_Matching :
    up.serves iDUG = true ∧ epIsl 0x1C00 = iDUG ∧ up.dug.spill = [] ∧ up.onDie < 16384 ∧
      (withInst 5 d2).operandCheck 5 = cOK ∧ bit 5 26 = false ∧ ((withInst 5 d2).inst 5).latest = 0 ∧
      up.operandCheck 5 ≠ cOK ∧ bits 5 31 26 = 0 ∧ bits 5 22 12 = 0 ∧ (up.flow 5).bound = none ∧
      ({ up with dug := { up.dug with flows := [(5, ⟨some 3, 0, 0, false, 0⟩)] } }.flow 5).bound ≠ none ∧
      up.accepting = true ∧ up.memc.room 64 = true ∧ (withInst 5 d3).chooseDispatch = some (5, 0) ∧
      firstIdx 8 (fun c => ((withInst 5 d3).ctx 0 c).st == 0) = some 0 := by
  and_intros <;> decide +kernel

theorem test_witness_Descriptors :
    up.serves iDUG = true ∧ up.on (ISL_LOCK_LOCKED iDUG) = false ∧ up.on DUG_DESC_CMD_BUSY = false ∧ up.selIndex = 0 ∧
      up.selTempl = false ∧ up.descCheck false 0 up.staged ≠ cOK ∧ (up.inst 0).st = 0 ∧
      ((withInst 0 { d2 with st := 6 }).inst 0).st = 6 ∧ ((withInst 0 { d2 with st := 6 }).inst 0).flowBound = false ∧
      ((withInst 0 d3).inst 0).st ≠ 6 ∧ ((withInst 0 d2).inst 0).kind = 1 ∧
      (up.setF (DUG_DESC_Wi_WORD 0) (2 ^ 16 + 1)).descCheck false 0 (up.setF (DUG_DESC_Wi_WORD 0) (2 ^ 16 + 1)).staged = cOK ∧
      (up.setF DUG_DESC_SEL_TEMPLATE 1).selTempl = true ∧
      ((up.setF DUG_DESC_SEL_TEMPLATE 1).setF (DUG_DESC_Wi_WORD 0) (2 ^ 16 + 1)).descCheck true 0
        ((up.setF DUG_DESC_SEL_TEMPLATE 1).setF (DUG_DESC_Wi_WORD 0) (2 ^ 16 + 1)).staged = cOK ∧
      bits ((withInst 0 d2).f (DUG_DESC_Wi_WORD 5)) 19 16 = ((withInst 0 d2).inst 0).gen ∧
      ((withInst 0 { d2 with gen := 15 }).inst 0).gen ≠ bits ((withInst 0 d2).f (DUG_DESC_Wi_WORD 5)) 19 16 := by
  and_intros <;> decide +kernel

/-- A matching store that is full, with one token in the spill ring and no dispatch for a second. -/
def stallUp : State := State.setF { up with
  dug := { up.dug with inst := [(5, { d2 with toks := List.replicate 16384 ⟨0, 5, 0, 0⟩ })], spill := [tk 0x1C00 5 7] }
  tim := { up.tim with time48 := 2 ^ 48 * 10 ^ 8 } } DUG_STALL_EN 1

theorem test_witness_SpillAndStall :
    { up.dug with spill := [tk 0x1C00 5 7] }.spill ≠ [] ∧ up.onDie + 512 ≤ 16384 ∧ up.stalled = false ∧
      stallUp.stalled = true := by
  and_intros <;> decide +kernel

/-- A queue that holds one word. -/
def q1 : Queue := ⟨[⟨0, 5, 0⟩], [], [], 1, 0, 0⟩

theorem test_witness_WordQueues :
    up.serves iQUE = true ∧ (queueUp 63 q1).on (QUE_Qn_CFG_ENABLE 63) = true ∧ ((queueUp 63 q1).q 63).waits = [] ∧
      (((queueUp 63 q1).setF (QUE_Qn_CFG_DEPTH 63) 2).q 63).total < ((queueUp 63 q1).setF (QUE_Qn_CFG_DEPTH 63) 2).f
        (QUE_Qn_CFG_DEPTH 63) ∧
      up.on (QUE_Qn_CFG_ENABLE 0) = false ∧ epIsl 0x4000 ≠ iGBB ∧ epIsl 0x4000 ≠ iGOB ∧
      ((queueUp 63 q1).setF (QUE_Qn_CFG_DEPTH 63) 1).f (QUE_Qn_CFG_DEPTH 63) ≤ ((queueUp 63 q1).q 63).total ∧
      (queueUp 63 q1).f (QUE_Qn_CFG_FULL 63) = 0 ∧ 2 ^ 31 + 4096 < 2 ^ 32 ∧ bit (2 ^ 31 + 4096) 31 = true ∧
      bits (2 ^ 31 + 4096) 28 27 < 2 ∧ 16 ≤ bits (2 ^ 31 + 16) 12 0 ∧ bits (2 ^ 31 + 4096) 12 0 ≤ 4096 ∧
      up.poolUsed + 4096 ≤ 65536 ∧ bits 15 12 0 < 16 ∧ 4096 < bits 4097 12 0 ∧
      up.on (QUE_Qn_STALE_EN 0) = false ∧ bit (2 ^ 31 + 2 ^ 24) 31 = true ∧ 0 < bits (2 ^ 31 + 2 ^ 24) 24 0 ∧
      bits (2 ^ 31 + 2 ^ 24) 24 0 ≤ 16777216 ∧ up.staleDue 0 = false := by
  and_intros <;> decide +kernel

theorem test_witness_WordQueues_stale :
    ((({ queueUp 63 q1 with tim := { up.tim with time48 := 2 ^ 48 * 10 ^ 6 } }).setF (QUE_Qn_STALE_EN 63) 1).setF
      (QUE_Qn_STALE_TICKS 63) 5).staleDue 63 = true := by
  decide +kernel

/-! ### GNSS -/

/-- A stream configuration at the fastest rate (R176). -/
def scfg : Nat := 2 ^ 31 + 100000

/-- A port whose FIFO holds n transactions. -/
def fifoOf (n : Nat) : State := { up with smp := [(3, ⟨List.replicate n 0x8000000000000000, none, false, []⟩)] }

theorem test_witness_SamplePorts :
    up.serves (iSMP 3) = true ∧ up.on (SMPn_Sg_CFG_ENABLE 3 2) = false ∧ bit scfg 31 = true ∧ bits scfg 16 0 ≤ 100000 ∧
      5000 ≤ bits (2 ^ 31 + 5000) 16 0 ∧ bits (2 ^ 31 + 4999) 16 0 < 5000 ∧ 100000 < bits (scfg + 1) 16 0 ∧
      (up.setF (SMPn_Sg_CFG_ENABLE 3 2) 1).on (SMPn_Sg_CFG_ENABLE 3 2) = true ∧ bit 100000 31 = false ∧
      spiCheck 0x8008000000000000 = cOK ∧ ((fifoOf 15).port 3).fifo.length < 16 ∧ 16 ≤ ((fifoOf 16).port 3).fifo.length ∧
      { up.tim with edges := 100000 }.edges % 100000 = 0 ∧ up.tim.markAt ≠ 100000 ∧ 1 % 100000 ≠ 0 := by
  and_intros <;> decide +kernel

theorem test_witness_Channels :
    511 < 512 ∧ up.serves iGBB = true ∧ up.f (GBB_CH_CMD_BUSY 511) = 0 ∧ up.chSt 511 = 0 ∧ (chUp 511 1).chSt 511 = 1 ∧
      (chUp 511 1).startCheck 511 = cOK ∧ (up.setF (GBB_CH_STATUS_STATE 0) 1).startCheck 0 ≠ cOK ∧
      2 ≤ (chUp 511 2).chSt 511 ∧ ((chUp 511 2).regW iGBB 0 (aCh 511 8) 0).2.startCheck 511 ≠ cOK ∧
      ((chUp 511 2).chSig 511).isSome = true ∧ ({ Chan.fresh with op := 4 } : Chan).op = 4 ∧
      (edges (chUp 0 2) 200000000).chSt 0 = 2 ∧ (edges (chUp 0 2) 200000000).elapsedMs (up.ch 0).since 2000 = true ∧
      (chUp 0 3).chSt 0 = 3 ∧ (edges up 600000000).elapsedMs (up.ch 0).since 6000 = true ∧
      (edges (chUp 0 6) 0).chSt 0 = 6 ∧ (chUp 0 6).on (GBB_CH_STATUS_REACQ 0) = false ∧
      (edges (chUp 0 6) 200000000).elapsedMs (up.ch 0).since ((chUp 0 6).f (GBB_CH_RECOVER_COAST_MS 0)) = true ∧
      ((chUp 0 6).setF (GBB_CH_CFG_AUTO_REACQ 0) 1).on (GBB_CH_CFG_AUTO_REACQ 0) = true ∧
      ((chUp 0 6).setF (GBB_CH_CFG_AUTO_REACQ 0) 0).on (GBB_CH_CFG_AUTO_REACQ 0) = false ∧
      (chUp 0 5).chSt 0 = 5 ∧ (edges (chUp 0 5) 100000000).elapsedMs (up.ch 0).lastVec
        ((chUp 0 5).f (GBB_CH_RECOVER_VEC_TIMEOUT_MS 0)) = true ∧ (chUp 0 5).gbb.vecs = [] := by
  and_intros <;> decide +kernel

/-- A searcher command that waits. -/
def sc : SrchCmd := ⟨0x0010000000, 0, 0, none⟩

/-- Searcher 0 with commands waiting and one in service. -/
def srUp (q : List SrchCmd) (a : Option SrchAct) : State := { up with gbb := { up.gbb with srch := [(0, ⟨q, a⟩)] } }

theorem test_witness_Searchers :
    gbbTokenBad (tk 0x8010 0 0x0010000000) = false ∧ (tk 0x8010 0 0x0010000000).dest = ep iGBB 0x010 ∧
      ((srUp (List.replicate 7 sc) none).sr 0).queue.length < 8 ∧
      8 ≤ ((srUp (List.replicate 8 sc) none).sr 0).queue.length ∧ epIsl 0x8011 = iGBB ∧ up.gbb.srch = [] ∧
      ((srUp [sc] none).sr 0).queue = [sc] ∧ sc.chan = none ∧ sc.addr = (tk 0x8011 0 0x0010000000).data ∧
      ((srUp [sc] none).sr 0).active = none ∧ nextCmd ((srUp [sc] none).sr 0).queue = some sc ∧
      up.searchCheck (up.rdBytes sc.addr 64) ≠ cOK ∧ ((srUp [] (some ⟨sc, [], 0⟩)).sr 0).active = some ⟨sc, [], 0⟩ := by
  and_intros <;> decide +kernel

/-- A vector update record with SEQ n and no entries, APPLY_TIME 100. -/
def vecRec (n : Nat) : State :=
  ((up.wr 0x0010000000 4 n).wr 0x0010000008 8 100).wr 0x0010000010 4 64

theorem test_witness_Searchers_vectors :
    (tk 0x8012 0 0x0010000000).tag % 2 ^ 23 = 0 ∧ blockIn 0x0010000000 32 false = true ∧ up.gbb.vecs.length < 4 ∧
      32 + 16 * (vecRec 0).rd 0x0010000004 2 ≤ (vecRec 0).rd 0x0010000010 4 ∧ (vecRec 0).rd 0x0010000000 4 = 0 ∧
      (vecRec 5).rd 0x0010000000 4 ≠ 0 ∧ (vecRec 5).rd 0x0010000006 2 = 0 ∧ (vecRec 5).rd 0x0010000014 8 = 0 ∧
      (vecRec 5).rd 0x001000001C 4 = 0 ∧ up.gbb.lastApply = none ∧ (vecRec 5).now < (vecRec 5).rd 0x0010000008 8 ∧
      ({ up.gbb with vecs := [⟨5, 0, [⟨0, 1, 7, 0, 0⟩]⟩] } : GbbSt).vecs = ⟨5, 0, [⟨0, 1, 7, 0, 0⟩]⟩ :: [] ∧
      (0 : Nat) ≤ up.now ∧ (chUp 0 5).chSt 0 = 5 ∧ bit 1 0 = true := by
  and_intros <;> decide +kernel

theorem test_witness_SnapTriggers :
    up.serves iGOB = true ∧ bit 1 0 = true ∧ up.gob.soft = none ∧
      (up.setF GOB_SOFT_TIME_TIME 16).f GOB_SOFT_TIME_TIME = 16 ∧ up.snapConflict (up.edgeAt 16) = false ∧
      (up.setF GOB_SOFT_TIME_TIME 15).f GOB_SOFT_TIME_TIME < up.now + 16 ∧
      (up.setF BXL_STATUS_CAPTAIN 1).on BXL_STATUS_CAPTAIN = true ∧
      up.now + up.f GOB_STACK_LEAD_TICKS ≤ (up.setF GOB_SOFT_TIME_TIME (2 ^ 30)).f GOB_SOFT_TIME_TIME ∧ up.gob.stack = [] ∧
      (up.setF BXL_STATUS_CAPTAIN 0).on BXL_STATUS_CAPTAIN = false ∧
      (up.setF GOB_CTRL_PERIOD_EN 0).on GOB_CTRL_PERIOD_EN = false ∧ (up.setF GOB_PERIOD_MS 100).f GOB_PERIOD_MS ≠ 0 ∧
      (up.setF GOB_CTRL_PERIOD_EN 1).on GOB_CTRL_PERIOD_EN = true ∧
      (up.setF GOB_CTRL_STACK_PERIOD 0).on GOB_CTRL_STACK_PERIOD = false ∧ (up.setF GOB_PERIOD_MS 100).snapP ≠ 0 ∧
      { up.gob with target := some 0 }.target = some 0 ∧ 0 ≤ up.now := by
  and_intros <;> decide +kernel

/-- Channel c tracks and its navigation ring takes the units that pass a check (MODE 2). -/
def navUp (c : Nat) : State := (chUp c 3).setF (GOB_NAV_CFG_c_MODE c) 2

theorem test_witness_SnapsAndNavigation :
    up.contributes iGOB = true ∧ { up.gob with due := 1 }.due ≠ 0 ∧ up.gob.target = none ∧ up.gob.fill = none ∧
      up.f GOB_LAST_BANK_BANK < 2 ∧ up.gob.due = 0 ∧ up.gob.floating = none ∧
      { up.gob with fill := some ⟨1, 5, 0⟩ }.fill = some ⟨1, 5, 0⟩ ∧ 2 < 3 ∧ 2 = 1 + 1 ∧
      3 ≤ (navUp 511).chSt 511 ∧ (navUp 511).chSt 511 < 6 ∧ ((navUp 511).chSig 511).isSome = true ∧
      (navUp 511).f (GOB_NAV_PTR_c_WR 511) < 32 ∧ bit ((navUp 511).f (GOB_NAV_CFG_c_MODE 511)) 1 = true ∧
      bit (((navUp 511).setF (GOB_NAV_CFG_c_MODE 511) 0).f (GOB_NAV_CFG_c_MODE 511)) 1 = false ∧
      Tab.get (fun _ => none) ({ up.gob with bcast := [(3, some ⟨1, 0, 0, 0⟩)] } : GobSt).bcast 3 = some ⟨1, 0, 0, 0⟩ ∧
      0 + 720000000000 ≤ (edges up 720000000000).tim.edges ∧ (edges up 719999999999).tim.edges < 0 + 720000000000 := by
  and_intros <;> decide +kernel

/-- A search block of one number of GPS L1 C/A on stream 0 (R209). -/
def schBlk (s : State) : State :=
  ((((s.wr 0x0010000000 1 1).wr 0x0010000004 2 1).wr 0x0010000006 2 1).wr 0x0010000008 8 1).wr 0x0010000030 4 64

theorem test_witness_Searchers_block :
    (schBlk (chUp 0 0)).searchCheck ((schBlk (chUp 0 0)).rdBytes 0x0010000000 64) = cOK := by decide +kernel

/-! ### Ambiguity engine, library -/

/-- A block of one ambiguity with Q = q (R257). -/
def pb (q : Nat) (deadline : Nat) : List Byte :=
  leBytes 1 1 ++ leBytes 1 0 ++ leBytes 1 1 ++ leBytes 1 1 ++ leBytes 4 1000 ++ leBytes 8 deadline ++ leBytes 12 0 ++
    leBytes 4 80 ++ leBytes 8 0x0010001000 ++ leBytes 4 96 ++ leBytes 12 0 ++ leBytes 8 0x4000000000000000 ++
    leBytes 8 0x3FF0000000000000 ++ leBytes 8 q

/-- POS with a queue and the unit 0 in service. -/
def posUp (q : List PosCmd) (a : Option PosAct) : State :=
  { up with pos := { queue := q, active := [(0, a)], order := 9 } }.wrBytes 0x0010000000 (pb 0x3FF0000000000000 0)

def pc1 : PosCmd := ⟨0x0010000000, 0, 0⟩

theorem test_witness_AmbiguityEngine :
    up.serves iPOS = true ∧ (tk 0x8800 0 0x0010000000).dest = ep iPOS 0 ∧ posTokenBad (tk 0x8800 0 0x0010000000) = false ∧
      (posUp (List.replicate 15 pc1) none).pos.queue.length < 16 ∧ posTokenBad (tk 0x8800 0 1) = true ∧
      16 ≤ (posUp (List.replicate 16 pc1) none).pos.queue.length ∧ epIsl 0x8801 = iPOS ∧
      (posUp [pc1] none).pos.queue.find? (fun c => c.addr == 0x0010000000) = some pc1 ∧ up.pos.queue = [] ∧
      up.posUnit 0 = none ∧ up.posUnit 1 = none ∧ ((posUp [pc1] none).setF POS_CTRL_U0_EN 1).on POS_CTRL_U0_EN = true ∧
      (posUp [pc1] none).posUnit 0 = none ∧ nextPos (posUp [pc1] none).pos.queue = some pc1 ∧
      (posUp [pc1] none).posCheck ((posUp [pc1] none).posBlock pc1.addr) = cOK ∧
      up.posCheck (up.posBlock 0x0010002000) ≠ cOK ∧
      (posUp [] (some ⟨pc1, pb 0 1, 0⟩)).posUnit 0 = some ⟨pc1, pb 0 1, 0⟩ ∧
      ((ldl (posSelect (pb 0 1)).2 [] []).2.2).isSome = true ∧ up.memCheck (ep iPOS 0) (blk (pb 0 1) 32 8) 64 true = cOK ∧
      blk (pb 0 1) 8 8 ≠ 0 ∧ blk (pb 0 0) 8 8 = 0 := by
  and_intros <;> decide +kernel

/-- A configuration record (R269) with these modes, for one robot, whose flow is 1. -/
def lc (modes : Nat) : List Byte :=
  leBytes 1 modes ++ leBytes 1 0 ++ leBytes 1 1 ++ leBytes 1 1 ++ leBytes 28 0 ++ leBytes 2 0 ++ leBytes 2 100 ++
    leBytes 2 0 ++ leBytes 2 1000 ++ leBytes 4 0 ++ leBytes 1 10 ++ leBytes 1 1 ++ leBytes 2 100 ++ leBytes 8 0x1C00 ++ leBytes 8 0x1C00 ++
    leBytes 8 (1 * 2 ^ 6)

def libUp (cfg : List Byte) (modes : Nat) : State :=
  State.setF { up with lib := { LibSt.reset with cfg := cfg, modes := modes, reports := 0x0010004000 } } GOB_PERIOD_MS 100

theorem test_witness_PositioningLibrary_start :
    (up.wrBytes 0x0010000000 (lc 7)).memCheck (ep (iENG 0) 0) 0x0010000000 64 false = cOK ∧
      (up.wrBytes 0x0010000000 (lc 7)).rdBytes 0x0010000000 (64 + 8 * (up.wrBytes 0x0010000000 (lc 7)).rd 0x001000002D 1) =
        lc 7 ∧ libCfgOk (lc 7) 100 0 0 0 = true ∧ libCfgOk (lc 16) 100 0 0 0 = false ∧ up.ist iSCB ≠ 5 ∧ up.ist iSCB ≠ 0 ∧
      up.on SCB_STATUS_LOGFAIL = false ∧ up.scb.writing = none ∧ up.scb.first = [] ∧
      { up.boot with restored := true }.restored = true := by
  and_intros <;> decide +kernel

theorem test_witness_PositioningLibrary_frames :
    (libUp (lc 1) 1).lib.mode 0 = true ∧ (libUp (lc 1) 1).lib.frames [(1077, [1, 2])] ≠ [] ∧
      ((libUp (lc 1) 1).lib.frames [(1077, [1, 2])]).flatten.length ≤ 4096 ∧
      (libUp (lc 1) 1).memCheck (ep (iENG 0) 0) 0x0010000000
        ((libUp (lc 1) 1).lib.frames [(1077, [1, 2])]).flatten.length true = cOK ∧
      (libUp (lc 2) 2).lib.mode 0 = false ∧ (libUp (lc 2) 2).lib.mode 1 = true ∧
      rtcmOk (rtcmFrame [0x3E, 0xD0]) = true ∧
      corrAccepted (beValue (((rtcmFrame [0x3E, 0xD0]).drop 3).take 2) / 16) = true ∧ rtcmOk [] = false := by
  and_intros <;> decide +kernel

/-- Bank 0 holds Snap 5, t ns after its epoch. -/
def bankUp (t : Nat) : State := ((libUp (lc 2) 2).wr 0x0301000000 4 5).wr 0x0301000038 8 t

/-- The part of an epoch at 200 ms of week 1 that no satellite is seen in: part n of `count` (R284). -/
def part (n count : Nat) : List Byte :=
  let p := leBytes 1 0x11 ++ leBytes 1 (n + count * 16) ++ leBytes 2 20 ++ leBytes 4 200 ++ leBytes 2 1 ++ leBytes 6 0
  p ++ leBytes 4 (crc32c p)

/-- Engine 0 serves the item of flow 1 whose payload is p. -/
def cofUp (p : List Byte) : State :=
  { libUp (lc 4) 4 with
    eng := [(0, { EngSt.fresh with ctxs := [(0, { cx with bound := true, flow := 1, seq := 3 })] })]
    memc := { up.memc with live := [⟨0, 0, 0, 1, 0, 0, 1, 0, 0, 3, 0, 0, [], 0, [], p, false⟩] } }

theorem test_witness_PositioningLibrary_solutions :
    (bankUp 0).lib.mode 1 = true ∧ (bankUp 2000).gridError 0 = 2000 ∧ (bankUp 1000).gridError 0 ≤ 1000 ∧
      (bankUp 0).memCheck (ep (iENG 0) 0) 0x0010004000 64 true = cOK ∧ (bankUp 0).bankOf 5 = some 0 ∧
      (cofUp (part 0 2)).cofItem 1 0 0 0x0010000000 = none ∧
      ((cofUp (part 0 2)).cofItem 0 0 0 0x0010000000).map (fun q => (q.seq, q.payload)) = some (3, part 0 2) ∧
      ((cofUp (part 0 2)).robot 0).waits ≠ some 3 ∧ (cofUp (part 0 2)).cofCheck ((cofUp (part 0 2)).robot 0) (part 0 2) = cOK ∧
      bits (fld (part 0 2) 1 1) 7 4 > (((cofUp (part 0 2)).robot 0).before (part 0 2)).length + 1 ∧
      bits (fld (part 0 1) 1 1) 7 4 ≤ (((cofUp (part 0 1)).robot 0).before (part 0 1)).length + 1 ∧
      (cofUp (part 0 1)).cofCheck ((cofUp (part 0 1)).robot 0) (part 0 1) = cOK ∧
      (epochMs (0, 0) + 60) * 1000000 ≤ ({ up with tim := { up.tim with time48 := 2 ^ 48 * 10 ^ 9 } }).gpsWeekNs := by
  and_intros <;> decide +kernel

/-! ### Time, pins, Ethernet -/

/-- The module in a quality state. -/
def qst (n : Nat) : State := { up with tim := { up.tim with qst := n } }

/-- A correction of frequency and phase by source 1 (R298), and the module in LOCKING with that source. -/
def adjUp (qs : Nat) : State := sets (qst qs) [(TIM_SRC_SEL, 1), (TIM_ADJ_PHASE_PHASE, 2 ^ 40), (TIM_SRC_TIMEOUT, 5)]

theorem test_witness_TimeKeeping_writes :
    up.serves iTIM = true ∧ bit 1 0 = true ∧ (up.setF TIM_LATCH_DONE 0).on TIM_LATCH_DONE = false ∧ up.on TIM_LATCH_DONE = true ∧
      up.follower 0x4000 = false ∧ (qst 1).tim.qst < 2 ∧ 2 ≤ (qst 2).tim.qst ∧ epIsl 0x4000 ≠ iBXL ∧
      0 < bits (5 * 2 ^ 16 + 5) 31 16 ∧ bits (5 * 2 ^ 16 + 5) 2 0 < 6 ∧ (qst 3).tim.qst = 3 ∧
      bits (5 * 2 ^ 16 + 5) 2 0 ≠ up.f TIM_SRC_SEL ∧
      (signed 64 (up.f TIM_FREQ_FREQ)).natAbs * 10 ^ 9 + 500000 * 2 ^ 48 ≤ 10 ^ 6 * 2 ^ 48 ∧
      10 ^ 6 * 2 ^ 48 < (signed 64 ((up.setF TIM_FREQ_FREQ (2 ^ 38)).f TIM_FREQ_FREQ)).natAbs * 10 ^ 9 + 500000 * 2 ^ 48 ∧
      (adjUp 3).on TIM_ADJ_CMD_BUSY = false ∧ (adjUp 3).adjCheck 0x107 (epIsl 0x4000 == iBXL) = cOK ∧
      (adjUp 0).adjCheck 0x107 (epIsl 0x4000 == iBXL) ≠ cOK := by
  and_intros <;> decide +kernel

/-- A step of k parts of 2^-32 tick is left. -/
def stepUp (k : Int) : State := { up with tim := { up.tim with stepLeft := k } }

theorem test_witness_TimeKeeping_events :
    (up.setF TIM_LEAP_PENDING 1).on TIM_LEAP_PENDING = true ∧
      Int.ofNat ((up.setF TIM_LEAP_PENDING 1).f TIM_LEAP_AT_SECONDS) ≤ (up.setF TIM_LEAP_PENDING 1).gpsNs / 1000000000 ∧
      up.on TIM_LEAP_PENDING = false ∧ up.tim.stepLeft = 0 ∧ (stepUp (-1)).tim.stepLeft < 0 ∧
      (stepUp (-1)).pinActive = false ∧ 0 < (stepUp (2 ^ 33)).tim.stepLeft ∧ (stepUp 1).pinTargets = [] ∧
      ((edges (adjUp 2) 5000000).tim.lastCorr + (edges (adjUp 2) 5000000).f TIM_SRC_TIMEOUT * 1000000 ≤
        (edges (adjUp 2) 5000000).tim.edges) ∧ (adjUp 2).tim.edges < (adjUp 2).tim.lastCorr + (adjUp 2).f TIM_SRC_TIMEOUT * 1000000 ∧
      (qst 2).tim.qst ≠ 5 ∧ (qst 5).tim.qst = 5 := by
  and_intros <;> decide +kernel

/-- A leading edge of pin 31 at tick 10, which a step of 20 ticks does not pass (R300). -/
theorem test_step_spares_pin :
    ({ stepUp (20 * 2 ^ 32) with tim := { (stepUp (20 * 2 ^ 32)).tim with
      pins := [(31, { PinSt.fresh with lead := some 10 })] } }).pinTargets = [10] := by decide +kernel

/-- Capture input 15 on, with n stamps in its FIFO and the last at 0 ns. -/
def capUp (n : Nat) : State :=
  State.setF { up with tim := { up.tim with caps := [(15, ⟨List.replicate n 7, some 0⟩)] } } (TIM_TCn_CFG_ENABLE 15) 1

/-- Pin 31 with settings that pass their checks. -/
def pinUp (x : PinSt) (high : Nat) : State :=
  sets { up with tim := { up.tim with pins := [(31, x)] } } [(TIM_TPp_WIDTH_TICKS 31, 1), (TIM_TPp_PERIOD_TICKS 31, 2),
    (TIM_TPp_START_TICKS 31, 2), (TIM_TPp_CFG_ENABLE 31, 1), (TIM_TPp_STAT_HIGH 31, high)]

theorem test_witness_CapturesAndPins :
    up.on (TIM_TCn_CFG_ENABLE 15) = false ∧ (capUp 3).on (TIM_TCn_CFG_ENABLE 15) = true ∧
      (capUp 3).f (TIM_TCn_CFG_EDGE 15) = 0 ∧ ((capUp 3).cap 15).last = some 0 ∧ 0 + 20 ≤ (edges (capUp 3) 2).tim.edges * 10 + 0 ∧
      (edges (capUp 3) 1).tim.edges * 10 + 9 < 0 + 20 ∧ ((capUp 3).cap 15).fifo.length < 4 ∧ 4 ≤ ((capUp 4).cap 15).fifo.length ∧
      up.serves iTIM = true ∧ (up.pin 31).bound = none ∧ up.pinHeld 31 = false ∧ (pinUp PinSt.fresh 0).pinCheck 31 0 = cOK ∧
      (pinUp PinSt.fresh 0).pinCheck 31 4 = cOK ∧ bits (4 * 2 ^ 28) 30 28 = 4 ∧ (pinUp PinSt.fresh 0).f (TIM_TPp_WIDTH_TICKS 31) ≠ 0 ∧
      up.f (TIM_TPp_START_TICKS 31) < up.now + 2 ∧ ((pinUp { PinSt.fresh with bound := some 3 } 0).pin 31).bound ≠ none ∧
      (pinUp PinSt.fresh 0).pinHeld 31 = true ∧ (pinUp PinSt.fresh 0).on (TIM_TPp_CFG_ENABLE 31) = true ∧
      (pinUp PinSt.fresh 0).f (TIM_TPp_CFG_MODE 31) < 3 ∧ (pinUp PinSt.fresh 1).on (TIM_TPp_STAT_HIGH 31) = true ∧
      ((pinUp PinSt.fresh 0).setF (TIM_TPp_CFG_MODE 31) 4).f (TIM_TPp_CFG_MODE 31) = 4 ∧
      ((pinUp { PinSt.fresh with lead := some 0 } 0).pin 31).lead = some 0 ∧ 0 ≤ up.now ∧ up.now < 1 ∧
      ((pinUp { PinSt.fresh with trail := some 0 } 1).pin 31).trail = some 0 := by
  and_intros <;> decide +kernel

/-- Port 1 linked, its ring 256 places in shared SRAM, with n frames buffered. -/
def ethUp (n : Nat) : State :=
  sets { up with eth := { up.eth with ports := [(1, { EthPort.fresh with bufs := List.replicate n ⟨0, 0, 0, false, false, true, 5, [1, 2], none⟩ })] } }
    [(ETH_Pp_LINK_UP 1, 1), (ETH_Pp_MACCFG_ENABLE 1, 1), (ETH_Pp_MACCFG_PROMISC 1, 1), (ETH_Pp_RX_SIZE_ENTRIES 1, 256),
      (ETH_Pp_RX_BASE_BASE 1, 0x0010000000 / 2048)]

/-- A transmit block of len bytes. -/
def txBlk (s : State) (len : Nat) : State := s.wr 0x0010000000 8 len

theorem test_witness_EthernetPorts :
    up.serves iETH = true ∧ (tk (ep iETH 0x011) 0 0x0010000000).dest = ep iETH (0x010 + 1) ∧ blockIn 0x0010000000 16 true = true ∧
      blockIn 0x0010000000 (16 + 1526) true = true ∧ bits ((txBlk up 1527).rd 0x0010000000 8) 63 51 = 0 ∧
      1526 < bits ((txBlk up 1527).rd 0x0010000000 8) 13 0 ∧ bits ((txBlk up 60).rd 0x0010000000 8) 13 0 = 60 ∧
      bit ((txBlk up 1526).rd 0x0010000000 8) 49 = false ∧ (txBlk up 60).rd 0x001000000C 4 = 0 ∧
      up.on (ETH_Pp_LINK_UP 1) = false ∧ (ethUp 31).on (ETH_Pp_LINK_UP 1) = true ∧ (ethUp 31).on (ETH_Pp_MACCFG_ENABLE 1) = true ∧
      ((ethUp 31).ethPort 1).bufs.length < 32 ∧ 32 ≤ ((ethUp 32).ethPort 1).bufs.length ∧
      ((ethUp 1).ethPort 1).paused ≤ (ethUp 1).tim.edges ∧
      nextBuf ((ethUp 1).ethPort 1).bufs = some ⟨0, 0, 0, false, false, true, 5, [1, 2], none⟩ ∧
      ((ethUp 0).ethPort 1).bufs = [] ∧ (List.replicate 60 (0 : Byte)).length = 60 ∧
      (ethUp 0).on (ETH_Pp_MACCFG_PAUSE_EN 1) = false ∧ (ethUp 0).ethFilter 1 (List.replicate 60 0) = true ∧
      (up.ethFilter 1 (List.replicate 60 1)) = false ∧ ((ethUp 0).hstClaim 1 (List.replicate 60 0)).isNone = true ∧
      ((ethUp 0).f (ETH_Pp_RX_WR_INDEX 1) + 1) % (ethUp 0).f (ETH_Pp_RX_SIZE_ENTRIES 1) ≠ (ethUp 0).f (ETH_Pp_RX_RD_INDEX 1) ∧
      (ethUp 0).f (ETH_Pp_RX_SIZE_ENTRIES 1) ≤ 4096 ∧ (ethUp 0).memCheck (ep iETH 0) 0x0010000000 (16 + 60) true = cOK ∧
      (((ethUp 0).setF (ETH_Pp_RX_WR_INDEX 1) 255).f (ETH_Pp_RX_WR_INDEX 1) + 1) % 256 = (ethUp 0).f (ETH_Pp_RX_RD_INDEX 1) := by
  and_intros <;> decide +kernel

/-! ### Radio -/

/-- Port 3 on, in the 2.4 GHz band, with a beacon due at 1.25 ms. -/
def radUp (n : Nat) : State :=
  sets (edges up n) [(RADn_CFG_ENABLE 3, 1), (RADn_BEACON_EN 3, 1), (RADn_BEACON_COUNT 3, 1), (RADn_BEACON_INTERVAL 3, 1),
    (RADn_LEAD_TX_LEAD_US 3, 0), (RADn_SBs_BUDGET_EN 3 0, 0), (RADn_SBs_BUDGET_EN 3 1, 0), (RADn_SBs_BUDGET_EN 3 2, 0),
    (RADn_SBs_BUDGET_EN 3 3, 0), (RADn_STOP_COUNT 3, 2), (RAD_Gg_CFG_EN 15, 1), (RAD_Gg_CFG_PORT 15, 3),
    (RAD_Aa_CFG_PORT 63, 3), (RAD_Aa_CHMAP_MAP 63, 3), (RAD_Aa_CHMAP_SEED 63, 0), (RAD_Aa_CHMAP_INC 63, 1),
    (RAD_Aa_TIMING_INTERVAL 63, 2), (RAD_Aa_TIMING_TIMEOUT 63, 10), (RAD_Aa_TIMING_SLEEP 63, 0),
    (RAD_Aa_TIMING_EVENT_MAX_US 63, 1000), (RAD_Aa_TIMING_ANCHOR 63, 1), (RAD_Aa_CFG_RX_MAX 63, 20),
    (RAD_Aa_NEXT_MAP_MAP 63, 3), (RAD_Aa_NEXT_MAP_SEED 63, 0), (RAD_Aa_NEXT_MAP_INC 63, 1),
    (RAD_Aa_NEXT_TIMING_INTERVAL 63, 2), (RAD_Aa_NEXT_TIMING_TIMEOUT 63, 10), (RAD_Aa_NEXT_TIMING_EVENT_MAX_US 63, 1000)]

/-- Association 63 in a state with n records queued and an update under way or not. -/
def raUp (st n : Nat) (u : Option (Bool × Nat × Nat)) : State :=
  { (radUp 125000).setF (RAD_Aa_STATUS_STATE 63) st with
    rad := { up.rad with
      assocs := [(63, { RadAssoc.fresh with recs := List.replicate n ⟨2, 0, 0, [], 0, 0, none, none⟩, update := u })] } }

theorem test_witness_RadioCommands_ports :
    up.serves iRAD = true ∧ bits 0x00200000 30 29 < 3 ∧ 2 ≤ bits 0x01000000 24 20 ∧ bits 0x01000000 24 20 ≤ 16 ∧
      up.on (RADn_CFG_ENABLE 3) = false ∧ up.bandOk 3 0 = true ∧
      (sets up [(RADn_SBs_FREQ_SPACING 3 0, 1), (RADn_SBs_FREQ_BASE 3 0, 1)]).bandOk 3 1 = false ∧
      (radUp 0).on (RADn_CFG_ENABLE 3) = true ∧ portCfgBits ((radUp 0).portCfg 3) = (radUp 0).portCfg 3 ∧
      2 ≤ bits ((radUp 0).portCfg 3) 24 20 ∧ bits ((radUp 0).portCfg 3) 24 20 ≤ 16 ∧
      ((radUp 0).setF (RAD_Gg_CFG_EN 15) 0).portUsed 3 = false ∧ (radUp 0).portUsed 3 = true ∧
      portCfgBits ((radUp 0).portCfg 3 + 4096) ≠ (radUp 0).portCfg 3 := by
  and_intros <;> decide +kernel

theorem test_witness_RadioCommands_associations :
    (raUp 0 0 none).armCheck 63 = cOK ∧ (raUp 0 0 none).raSt 63 = 0 ∧ (raUp 4 0 none).raSt 63 = 4 ∧
      ((raUp 0 0 none).radKept 63).isNone = true ∧ up.armCheck 63 ≠ cOK ∧ (raUp 3 0 none).raSt 63 = 3 ∧
      ((raUp 3 0 none).ra 63).update = none ∧
      mapOk ((raUp 3 0 none).radN 3) (bits ((raUp 3 0 none).nextMap 63) 39 0) (bits ((raUp 3 0 none).nextMap 63) 51 46)
        (bits ((raUp 3 0 none).nextMap 63) 57 52) = true ∧
      timingOk (bits ((raUp 3 0 none).nextTiming 63) 35 24) (bits ((raUp 3 0 none).nextTiming 63) 11 0)
        (bits ((raUp 3 0 none).nextTiming 63) 23 15) (bits ((raUp 3 0 none).nextTiming 63) 63 48) = true ∧
      ((raUp 1 0 none).ra 63).recs = [] ∧ ((raUp 1 0 none).ra 63).frame = none ∧
      (tk (ep iRAD 0x010) (63 + 2 * 2 ^ 8 + 3 * 2 ^ 23) 7).tag = 63 + bits (63 + 2 * 2 ^ 8 + 3 * 2 ^ 23) 11 8 * 2 ^ 8 +
        tagPrio (63 + 2 * 2 ^ 8 + 3 * 2 ^ 23) * 2 ^ 23 ∧
      radPending ((raUp 1 15 none).ra 63).recs ((raUp 1 15 none).ra 63).frame < 16 ∧
      16 ≤ radPending ((raUp 1 16 none).ra 63).recs ((raUp 1 16 none).ra 63).frame ∧
      (radUp 0).on (RAD_Gg_CFG_EN 15) = true ∧ up.on (RAD_Gg_CFG_EN 15) = false ∧
      radPending (up.rg 15).recs (up.rg 15).frame < 16 := by
  and_intros <;> decide +kernel

/-- Port 3 with an open window. -/
def listenUp : State :=
  { radUp 200 with rad := { up.rad with ports := [(3, { RadPort.fresh with listen := some ⟨false, 63, 5, 100, 200⟩ })] } }

theorem test_witness_RadioEvents_frames :
    (radUp 125000).portBusy 3 = false ∧ 125000 % 100000000 ≠ 0 ∧ (radUp 125000).beaconDue 3 = true ∧
      (radUp 125000).slotFree 3 ((radUp 125000).f (RADn_BEACON_CLASS 3), 0, 0) = true ∧
      (List.range 4).all (fun b => !(radUp 125000).on (RADn_SBs_BUDGET_EN 3 b)) = true ∧ (radUp 125001).beaconDue 3 = false ∧
      listenUp.portOn 3 = true ∧ (listenUp.rp 3).tx = none ∧ (listenUp.rp 3).listen = some ⟨false, 63, 5, 100, 200⟩ ∧
      100 ≤ listenUp.radClk ∧ listenUp.radClk ≤ 200 ∧ (radUp 99).radClk < 100 := by
  and_intros <;> decide +kernel

/-- A beacon that an association of a higher class keeps from its slot. -/
theorem test_witness_RadioEvents_slot :
    (sets { raUp 3 0 none with rad := { up.rad with assocs := [(63, { RadAssoc.fresh with next := 125000 })] } }
      [(RADn_BEACON_CLASS 3, 7)]).slotFree 3 (7, 0, 0) = false := by decide +kernel

theorem test_witness_RadioEvents_timers :
    (raUp 3 0 none).f (RAD_Aa_CFG_PORT 63) = 3 ∧ (raUp 3 0 none).raRuns 63 = true ∧ ((raUp 3 0 none).ra 63).next ≤ (raUp 3 0 none).radT 3 ∧
      ({ raUp 3 0 none with rad := { up.rad with assocs := [(63, { RadAssoc.fresh with next := 125000 })] } }.slotFree 3
        ((raUp 3 0 none).f (RAD_Aa_CFG_CLASS 63), 2, 63)) = false ∧
      (({ raUp 3 0 none with rad := { up.rad with assocs := [(63, { RadAssoc.fresh with next := 125000 })] } }.setF
        (RADn_BEACON_EN 3) 0).slotFree 3 ((raUp 3 0 none).f (RAD_Aa_CFG_CLASS 63), 2, 63)) = true ∧
      (edges (raUp 3 0 none) 10000000).radTimeout 63 ((raUp 3 0 none).ra 63).timer = true ∧ (raUp 2 0 none).raSt 63 = 2 ∧
      (edges (raUp 5 0 none) 10000000).radTimeout 63 ((raUp 5 0 none).ra 63).closeAt = true ∧
      ((raUp 3 0 (some (true, 0, 5))).ra 63).update = some (true, 0, 5) ∧ ((raUp 3 0 (some (true, 0, 5))).ra 63).event = 0 ∧
      (raUp 3 0 none).f (RAD_Gg_CFG_PORT 15) = 3 ∧ ((raUp 3 0 none).rg 15).next ≤ (raUp 3 0 none).radT 3 ∧
      { up.rad with bursting := true }.bursting = true ∧ (radUp 0).f (RADn_STOP_COUNT 3) ≠ 0 ∧ ((radUp 0).rp 3).burstAt ≤ (radUp 0).radClk ∧
      100000000 % 100000000 = 0 ∧ up.rad.secondAt ≠ 100000000 := by
  and_intros <;> decide +kernel

/-! ### Zone table -/

/-- A command block (R366): one cell, slots 0 to 5, of owner 7, no notice. -/
def zb (op flags track : Nat) : List Byte :=
  leBytes 1 op ++ leBytes 1 0 ++ leBytes 2 flags ++ leBytes 2 7 ++ leBytes 2 1 ++ leBytes 4 0 ++ leBytes 4 track ++
    leBytes 4 0 ++ leBytes 4 72 ++ leBytes 8 0x0010001000 ++ leBytes 4 64 ++ leBytes 28 0 ++ leBytes 2 3 ++ leBytes 2 4 ++
    leBytes 2 0 ++ leBytes 2 5

/-- The table on, with commands waiting. -/
def zonUp (q : List ZonCmd) : State :=
  sets { up with zon := { up.zon with queue := q } }
    [(ZON_CTRL_ENABLE, 1), (ZON_TABLE_CFG_LOG2_ENTRIES, 20), (ZON_TABLE_A_BASE, 0x100000), (ZON_TABLE_B_BASE, 0x110000),
      (ZON_Ff_CFG_VALID 0, 1), (ZON_CTRL_STOP_REFUSE, 0)]

def zc (op track : Nat) : ZonCmd := ⟨0x0010000000, 0, 0, zb op 0 track, none⟩
def zt (last : Nat) : ZonTrack := ⟨5, 0, 7, 0x1C00, 0, false, last, []⟩
def ze : ZonEnt := ⟨0, 3, 4, 0, 5, 9, 5, none⟩

/-- The table on with a track and an entry of another owner in cell (3, 4). -/
def zonHas (q : List ZonCmd) (last : Nat) : State :=
  { zonUp q with zon := { (zonUp q).zon with entries := [ze], tracks := [zt last] } }

theorem test_witness_ZoneCommands_enable :
    up.serves iZON = true ∧ up.on ZON_CTRL_ENABLE = false ∧ bit (2 ^ 31) 31 = true ∧
      copiesOk ((zonUp []).f ZON_TABLE_A_BASE) ((zonUp []).f ZON_TABLE_B_BASE) ((zonUp []).f ZON_TABLE_CFG_LOG2_ENTRIES) = true ∧
      copiesOk 0x100000 0x100000 20 = false ∧ (zonUp []).on ZON_CTRL_ENABLE = true ∧ (zonUp []).liveEnts = [] ∧
      (zonHas [] 9).liveEnts ≠ [] ∧ (zonUp []).on (ISL_LOCK_LOCKED iZON) = false ∧
      ((zonUp []).setF ZON_CTRL_REBUILD 1).on ZON_CTRL_REBUILD = true ∧ (zonUp []).zon.rebuilding = false ∧
      (zonUp []).zon.copyA = true ∧ copiesOk 0x100000 (bits 0x1100000000 39 16) 20 = true ∧
      copiesOk (bits 0x1000000000 39 16) 0x110000 20 = true ∧ { up.zon with rebuilding := true }.rebuilding = true := by
  and_intros <;> decide +kernel

theorem test_witness_ZoneCommands_staging :
    (tk (ep iZON 1) (5 * 2 ^ 23) 0x0010000000).tag = tagPrio (5 * 2 ^ 23) * 2 ^ 23 ∧ 0x0010000000 % 64 = 0 ∧
      blockIn 0x0010000000 64 true = true ∧ (zonUp []).memCheck (ep iZON 0) 0x0010000000 64 false = cOK ∧
      32 ≤ (zonUp (List.replicate 32 (zc 1 0))).zon.queue.length ∧ (zonUp (List.replicate 31 (zc 1 0))).zon.queue.length < 32 ∧
      ((zonUp []).wrBytes 0x0010000000 (zb 1 0 0)).rd 0x0010000006 2 = 1 ∧
      64 + 8 * 1 ≤ ((zonUp []).wrBytes 0x0010000000 (zb 1 0 0)).rd 0x0010000014 4 ∧
      ((zonUp []).wrBytes 0x0010000000 (zb 1 0 0)).rdBytes 0x0010000000 72 = zb 1 0 0 ∧
      (zonUp []).zonStage (zb 1 0 0) = cOK ∧ (zonUp []).zonStage (zb 5 0 0) ≠ cOK ∧
      (zonUp [zc 1 0]).zon.queue.find? (fun c => c.addr == 0x0010000000) = some (zc 1 0) ∧ (zonUp []).zon.done = [] ∧
      (zonUp []).zon.forwarded = none := by
  and_intros <;> decide +kernel

theorem test_witness_ZoneCommands_service :
    (zonUp [zc 1 0]).zonNext = some (zc 1 0) ∧ (zonUp []).inStack = false ∧ zOp (zb 1 0 0) = 1 ∧
      (zonUp []).zonEarly (zb 1 0 0) 0 = cOK ∧ (zonUp []).zon.merging = [] ∧
      (zonUp []).zonFull 0 (expand (zb 1 0 0) 0) = false ∧ (zonUp []).zon.tracks.length < 65536 ∧ expand (zb 1 0 0) 0 ≠ [] ∧
      (zonUp []).firstConflict 0 7 ((List.range 1).zip (expand (zb 1 0 0) 0)) = none ∧ (zonUp []).trackIndex = some 0 ∧
      ((zonHas [] 9).firstConflict 0 7 ((List.range 1).zip (expand (zb 1 0 0) 0))).isSome = true ∧
      zOp (zb 2 0 0) = 2 ∧ (zonUp [zc 2 0]).zonEarly (zb 2 0 0) 0 = cOK ∧
      (zonHas [zc 3 5] 9).zon.tracks.find? (fun x => x.id == zTrack (zb 3 0 5)) = some (zt 9) ∧
      (zonHas [zc 3 5] 9).trackLive (zt 9) = true ∧ (zt 9).owner = zOwner (zb 3 0 5) ∧ (8 : Nat) ≠ zOwner (zb 3 0 5) ∧
      (zonUp [zc 3 5]).zon.tracks.find? (fun x => x.id == zTrack (zb 3 0 5)) = none ∧ zOp (zb 4 0 0) = 4 ∧
      (zonUp []).zonNext = none := by
  and_intros <;> decide +kernel

theorem test_witness_ZoneCommands_writeback :
    (zonUp []).zonMirrored = true ∧ 64 ≤ zResultLen (zb 1 0 0) ∧
      (zonUp []).memCheck (ep iZON 0) (zResult (zb 1 0 0)) 64 true = cOK ∧
      (zt 0).last < (({ zonHas [] 0 with tim := { up.tim with time48 := 2 ^ 48 * 10 ^ 9 } }).slotOf 0) ∧
      (zonHas [] 0).slotOf 0 ≤ (zt 0).last := by
  and_intros <;> decide +kernel

/-- This member (position 0) and member 2 form a stack; Bexlink is up. -/
def stackUp : State :=
  sets { zonUp [] with bxl := { up.bxl with roster := [(0, ⟨1, 1, 0, 0, 0⟩), (2, ⟨2, 1, 1, 0, 0⟩)] } }
    [(BXL_STATUS_STATE, 2), (BXL_STATUS_POSITION, 0), (BXL_STATUS_CAPTAIN, 1)]

/-- A message of member 2, the first of its pair. -/
def zm (op status txn : Nat) (rest : List Byte) : BxlMsg :=
  ⟨5, 0, 2, 0, 0, 1, leBytes 1 op ++ leBytes 1 status ++ leBytes 1 0 ++ leBytes 1 1 ++ leBytes 4 txn ++ leBytes 2 7 ++
    leBytes 1 0 ++ leBytes 1 0 ++ leBytes 4 5 ++ rest⟩

/-- A transaction of the Captain that waits for the members of l. -/
def zx (l : List Nat) (d : Option Bool) : ZonTxn := ⟨9, ⟨2, 0, zb 1 0 0, none⟩, [], [2, 3], l, none, d, cOK, 0, 0, 0⟩

def zonTx (x : ZonTxn) : State := { stackUp with zon := { stackUp.zon with txn := some x } }
def zonHeld (k : Nat) : State := { stackUp with zon := { stackUp.zon with held := [⟨9, 0, k, 0, 7, 5⟩] } }

theorem test_witness_ZoneTransactions :
    stackUp.hears (zm 1 0 9 []) ∧ fld (zm 1 0 9 []).body 2 1 + 1 = fld (zm 1 0 9 []).body 3 1 ∧ stackUp.zon.parts = [] ∧
      stackUp.captain = true ∧ (zonTx (zx [2] none)).zon.txn ≠ none ∧
      stackUp.keptResult (stampOf (fld ((zm 1 0 9 []).body.drop 16) 0 8)) = none ∧ fld (zm 1 0 9 []).body 11 1 = 0 ∧
      stackUp.firstConflict 0 7 (prepCells 4096 (leBytes 2 3 ++ leBytes 2 4 ++ leBytes 12 0)) = none ∧
      ({ stackUp with zon := (zonHas [] 9).zon }).firstConflict 0 7
        (prepCells 4096 (leBytes 2 3 ++ leBytes 2 4 ++ leBytes 12 0)) ≠ none ∧
      stackUp.zonFull 0 [] = false ∧ (zx [2] none).num = fld (zm 1 0 9 []).body 4 4 ∧ 2 ∈ (zx [2, 3] none).waiting ∧
      (zx [2, 3] none).waiting.filter (· != 2) ≠ [] ∧ (zx [2] none).waiting.filter (· != 2) = [] ∧
      (zonHeld 0).zon.held.find? (fun h => h.txn == 9) = some ⟨9, 0, 0, 0, 7, 5⟩ ∧ fld (zm 1 0 9 []).body 1 1 = cOK ∧
      fld (zm 1 3 9 []).body 1 1 ≠ cOK ∧ (zx [2] (some true)).decided ≠ none ∧
      { stackUp.zon with forwarded := some (zc 1 0) }.forwarded = some (zc 1 0) ∧
      [(9, true)].find? (fun d => d.1 == fld (zm 1 0 9 []).body 4 4) = some (9, true) ∧ stackUp.zon.txn = none ∧
      stackUp.zon.decisions = [] ∧ 0 + stackUp.f ZON_2PC_HOLD_MS * 100000 ≤ 10 ^ 12 ∧ 0 < stackUp.f ZON_2PC_HOLD_MS ∧
      2 ∈ { stackUp.zon with merging := [2] }.merging ∧ 2 ∉ stackUp.zon.merging := by
  unfold State.hears
  and_intros <;> decide +kernel

/-! ### The Whistle -/

/-- No stop is latched and both inputs are at run. -/
def free : State :=
  sets up [(REF_STOP_STATUS_LATCHED, 0), (REF_STOP_STATUS_PIN_A, 1), (REF_STOP_STATUS_PIN_B, 1)]

/-- A stop is latched that was set at another edge, and the module is ready to arm. -/
def latchedUp (arm armedAt now : Nat) : State :=
  edges (sets { up with stop := { up.stop with arm := arm, armedAt := armedAt } }
    [(REF_STOP_STATUS_PIN_A, 1), (REF_STOP_STATUS_PIN_B, 1)]) now

theorem test_witness_StopRaised :
    free.latched = false ∧ free.levelSources = [] ∧ 20 ≤ 20 ∧ free.serves iREF = true ∧ 19 < 20 ∧ up.latched = true ∧
      up.stop.latchedAt ≠ some up.tim.edges ∧ up.serves iREF = true ∧
      (free.setF REF_STOP_STATUS_PIN_A 0).on REF_STOP_STATUS_PIN_A = false ∧
      (10 ^ 5 : Nat) * free.f REF_STOP_CFG_DISAGREE_MS < 10 ^ 9 ∧ free.stop.disagree = none ∧
      { free.stop with disagree := some 0 }.disagree = some 0 := by
  and_intros <;> decide +kernel

theorem test_witness_StopReleased :
    (stackUp.setF BXL_STATUS_CAPTAIN 0).captain = false ∧ (stackUp.setF BXL_STATUS_CAPTAIN 0).serves iREF = true ∧
      up.inStack = false ∧ up.on REF_STOP_CMD_BUSY = false ∧ (latchedUp 0 0 0).latched = true ∧
      (latchedUp 0 0 0).stopReady = true ∧ (up.setF REF_STOP_STATUS_PIN_A 0).stopReady = false ∧ free.latched = false ∧
      (latchedUp 1 0 100000000).stop.arm = 1 ∧ (latchedUp 1 0 100000000).stop.raisedAt ≠ some 100000000 ∧
      (latchedUp 1 0 100000000).tim.edges ≤ 0 + 100000000 ∧ (latchedUp 2 0 100000001).stop.arm = 2 ∧
      0 + 100000000 < (latchedUp 2 0 100000001).tim.edges ∧ (latchedUp 0 0 0).stop.arm = 0 ∧
      stackUp.hears (zm 4 0 0 []) ∧ stackUp.on REF_STOP_CMD_BUSY = false ∧
      (stackUp.setF REF_STOP_CMD_BUSY 1).on REF_STOP_CMD_BUSY = true ∧
      { stackUp.stop with asked := [2] }.asked = [(zm 4 0 0 []).src] ∧ stackUp.stop.releasing = false ∧
      stackUp.stop.notReady = false ∧ stackUp.latched = true ∧
      (sets stackUp [(REF_STOP_STATUS_PIN_A, 1), (REF_STOP_STATUS_PIN_B, 1)]).stopReady = true ∧
      stackUp.f REF_STOP_STATUS_ORIGIN = fld (zm 4 0 0 []).body 5 1 % 16 ∧ fld (zm 4 0 0 []).body 2 1 = cOK ∧
      fld (leBytes 2 4 ++ leBytes 1 0x12) 2 1 ≠ cOK := by
  unfold State.hears
  and_intros <;> decide +kernel

/-! ### Machine functions -/

/-- Slot k in a state, with values taken by token, a setpoint range, and a refresh age. -/
def slotUp (k st : Nat) (l : List (RF × Nat)) : State :=
  sets free ([(MCH_MFs_STATUS_STATE k, st), (MCH_MFs_SP_LIM_SP_MAX k, 100), (MCH_MFs_OUT_LIM_OUT_MAX k, 50)] ++ l)

theorem test_witness_SlotCommands :
    up.serves iMCH = true ∧ (slotUp 47 2 []).slotCheck 47 ≠ cOK ∧ up.stopped = true ∧
      (slotUp 47 1 []).slotState 47 ≠ 0 ∧ (slotUp 47 1 [(MCH_MFs_CFG_MODE 47, 1)]).on (MCH_MFs_CFG_MODE 47) = true ∧
      (slotUp 47 0 []).slotState 47 = 0 ∧ (slotUp 47 1 []).on (MCH_MFs_CFG_MODE 47) = false ∧
      (tk (ep iMCH 0) (47 + 7 * 2 ^ 23) 5).tag = 47 + tagPrio (47 + 7 * 2 ^ 23) * 2 ^ 23 ∧
      (slotUp 47 1 []).sg (MCH_MFs_SP_LIM_SP_MIN 47) ≤ signed 32 100 ∧
      signed 32 100 ≤ (slotUp 47 1 []).sg (MCH_MFs_SP_LIM_SP_MAX 47) ∧
      (slotUp 47 1 []).sg (MCH_MFs_SP_LIM_SP_MAX 47) < signed 32 101 ∧
      (slotUp 47 1 [(MCH_MFs_MEAS_SRC_KIND 47, 6)]).f (MCH_MFs_MEAS_SRC_KIND 47) = 6 ∧
      (slotUp 47 1 []).f (MCH_MFs_MEAS_SRC_KIND 47) ≠ 6 ∧ (slotUp 0 1 [(MCH_MFs_BIND_KIND 0, 1)]).f (MCH_MFs_BIND_KIND 0) = 1 := by
  and_intros <;> decide +kernel

theorem test_witness_SlotCommands_enable :
    (slotUp 47 0 [(MCH_MFs_TIMING_PERIOD 47, 2), (MCH_MFs_RATE_RATE_STEP 47, 9)]).slotCheck 47 =
      cOK := by
  decide +kernel

theorem test_witness_SlotsAndDirectIO_steps :
    up.serves iMCH = true ∧ (List.range 48).all (fun j => decide (up.f (MCH_MFs_BIND_KIND j) < 2)) = true ∧
      1000 % 1000 = 0 ∧ up.mch.stepAt ≠ 1000 ∧ (slotUp 47 2 []).slotState 47 = 2 ∧
      (slotUp 47 2 []).ilWord &&& (slotUp 47 2 []).f (MCH_MFs_IL_MASK_MASK 47) = 0 ∧ (slotUp 47 2 []).slotFaulty 47 = false ∧
      (slotUp 47 2 [(MCH_MFs_CFG_RATE_EN 47, 1), (MCH_MFs_RATE_RATE_STEP 47, 49)]).on (MCH_MFs_CFG_RATE_EN 47) = true ∧
      (slotUp 47 2 [(MCH_MFs_STATUS_LAW_LATE 47, 1)]).slotFaulty 47 = true ∧ (slotUp 47 1 []).slotState 47 < 2 ∧
      ((slotUp 47 2 []).slot 47).tick ≤ (slotUp 47 2 []).tim.edges ∧ ((slotUp 47 2 []).slot 47).waiting = false ∧
      (slotUp 47 2 [(MCH_MFs_CFG_LATE_LIMIT 47, 1)]).f (MCH_MFs_CFG_LATE_LIMIT 47) ≤ 1 ∧
      (slotUp 47 1 [(MCH_MFs_CFG_STALE_EN 47, 1)]).on (MCH_MFs_CFG_STALE_EN 47) = true ∧
      (slotUp 47 1 []).on (MCH_MFs_STATUS_STALE 47) = false ∧
      ((slotUp 47 1 []).slot 47).seenAt + (slotUp 47 1 []).f (MCH_MFs_MEAS_SRC_AGE_MS 47) * 100000 ≤ 10 ^ 10 := by
  and_intros <;> decide +kernel

theorem test_witness_SlotsAndDirectIO_inputs :
    (up.setF (MCH_ANG_g_ENABLE 2) 1).on (MCH_ANG_g_ENABLE 2) = true ∧ Tab.get (fun _ => 0) up.mch.groups 2 ≤ up.tim.edges ∧
      (List.range 16).all (fun i => !up.on (TAL_TQi_CFG_ENABLE i)) = true ∧
      (up.setF (MCH_ANc_CFG_ENABLE 23) 1).on (MCH_ANc_CFG_ENABLE 23) = true ∧ 23 / 8 = 2 ∧ up.on (MCH_ANG_g_ENABLE 0) = false ∧
      1000000 % 1000000 = 0 ∧ up.mch.bucketAt ≠ 1000000 ∧ (up.setF (MCH_ANc_CFG_IMPACT 23) 1).on (MCH_ANc_CFG_IMPACT 23) = true ∧
      (up.setF (MCH_PIn_CFG_ENABLE 15) 1).on (MCH_PIn_CFG_ENABLE 15) = true ∧ up.on (MCH_PIn_CFG_QUAD 15) = false ∧
      up.on (MCH_PIn_CFG_QUAD 14) = false ∧ 0 < (up.setF (MCH_PIn_CFG_MIN_WIDTH 15) 1).f (MCH_PIn_CFG_MIN_WIDTH 15) ∧
      (up.f (MCH_PIn_CFG_EDGE 15) = 0) ∧ (up.setF (MCH_PIn_CFG_EDGE 15) 1).f (MCH_PIn_CFG_EDGE 15) = 1 ∧
      (({ up with mch := { up.mch with pi := [(15, ⟨some 0, none⟩)] } }).pulse 15).lastEdge = some 0 ∧
      (up.pulse 15).lastEdge = none ∧ (up.setF (MCH_PWn_CFG_ENABLE 23) 1).on (MCH_PWn_CFG_ENABLE 23) = true ∧
      (up.pwm 23).start + up.pwmPeriod 23 ≤ 10 ^ 9 * 2 := by
  and_intros <;> decide +kernel

/-! ### Tally -/

/-- An accumulator in a state of its own, with settings. -/
def accUp (i : Nat) (x : TalAcc) (l : List (RF × Nat)) : State :=
  let s := sets up ([(TAL_TQi_CFG_ENABLE i, 1), (TAL_TQi_CFG_SRC_KIND i, 3), (TAL_TQi_INC_LIMIT_LIMIT i, 100),
    (TAL_TQi_FLOWS_VALID i, 8), (TAL_TQi_FLOWS_FLOW3 i, 77)] ++ l)
  { s with tal := { s.tal with accs := [(i, x)] } }

/-- A stamp of flow 77. -/
def st77 (seq i : Nat) : Stamp := { flow := 77, seq := seq, index := i }

theorem test_witness_Tallies_enable :
    up.serves iTAL = true ∧ up.on (TAL_TQi_CFG_ENABLE 15) = false ∧
      (sets up [(TAL_TQi_INC_LIMIT_LIMIT 15, 9)]).serves iTAL = true ∧
      ((sets up [(TAL_TQi_INC_LIMIT_LIMIT 15, 9)]).regW iTAL 0 (aTal 15 0) (2 ^ 31 + 3 * 2 ^ 27)).1 = cOK ∧
      ((sets up [(TAL_TQi_INC_LIMIT_LIMIT 15, 9)]).regW iTAL 0 (aTal 15 0) (2 ^ 31 + 3 * 2 ^ 27)).2.talBad 15 = false ∧
      bit (2 ^ 31 + 3 * 2 ^ 27) 31 = true ∧
      (up.regW iTAL 0 (aTal 15 0) (2 ^ 31 + 3 * 2 ^ 27)).1 = cOK ∧
      (up.regW iTAL 0 (aTal 15 0) (2 ^ 31 + 3 * 2 ^ 27)).2.talBad 15 = true := by
  and_intros <;> decide +kernel

theorem test_witness_Tallies_disable :
    (accUp 15 TalAcc.fresh []).serves iTAL = true ∧ ((accUp 15 TalAcc.fresh []).regW iTAL 0 (aTal 15 0) (3 * 2 ^ 27)).1 = cOK ∧
      (accUp 15 TalAcc.fresh []).on (TAL_TQi_CFG_ENABLE 15) = true ∧ bit (3 * 2 ^ 27) 31 = false ∧
      ((accUp 15 TalAcc.fresh []).acc 15).latch = none ∧ bits (3 * 2 ^ 27) 29 27 = (accUp 15 TalAcc.fresh []).f (TAL_TQi_CFG_SRC_KIND 15) ∧
      bits (3 * 2 ^ 27) 26 21 = (accUp 15 TalAcc.fresh []).f (TAL_TQi_CFG_SRC_INDEX 15) ∧
      bits (3 * 2 ^ 27) 20 19 = (accUp 15 TalAcc.fresh []).f (TAL_TQi_CFG_DIR_KIND 15) ∧
      bits (3 * 2 ^ 27) 18 14 = (accUp 15 TalAcc.fresh []).f (TAL_TQi_CFG_DIR_INDEX 15) ∧
      bits (3 * 2 ^ 27) 13 12 = (accUp 15 TalAcc.fresh []).f (TAL_TQi_CFG_TEMP_KIND 15) ∧
      bits (3 * 2 ^ 27) 11 7 = (accUp 15 TalAcc.fresh []).f (TAL_TQi_CFG_TEMP_INDEX 15) := by
  and_intros <;> decide +kernel

theorem test_witness_Tallies_increment :
    (tk (ep iTAL 0) (15 + 7 * 2 ^ 23) 100).tag = 15 + tagPrio (15 + 7 * 2 ^ 23) * 2 ^ 23 ∧ 100 < 2 ^ 32 ∧
      (accUp 15 TalAcc.fresh []).serves iTAL = true ∧ (accUp 15 TalAcc.fresh []).f (TAL_TQi_CFG_SRC_KIND 15) = 3 ∧
      (signed 32 100).natAbs ≤ (accUp 15 TalAcc.fresh []).f (TAL_TQi_INC_LIMIT_LIMIT 15) ∧
      (accUp 15 TalAcc.fresh []).f (TAL_TQi_INC_LIMIT_LIMIT 15) < (signed 32 101).natAbs ∧
      (accUp 15 TalAcc.fresh []).tal.pwrfail = false ∧ ((accUp 15 TalAcc.fresh []).acc 15).latch = none ∧
      st77 4 1 ∉ Tab.get (fun _ => []) (accUp 15 TalAcc.fresh []).stamps iTAL ∧ (accUp 15 TalAcc.fresh []).talSlot 15 77 = some 3 := by
  and_intros <;> decide +kernel

theorem test_witness_Tallies_stamps :
    Tab.get (fun _ => TalPair.none) ((accUp 15 { TalAcc.fresh with pairs := [(3, TalPair.none)] } []).acc 15).pairs 3 = TalPair.none ∧
      Tab.get (fun _ => TalPair.none) ((accUp 15 { TalAcc.fresh with pairs := [(3, ⟨77, 4, 1⟩)] } []).acc 15).pairs 3 ≠ TalPair.none ∧
      (Tab.get (fun _ => TalPair.none) ((accUp 15 { TalAcc.fresh with pairs := [(3, ⟨77, 4, 1⟩)] } []).acc 15).pairs 3).flow = 77 ∧
      newerPair (Tab.get (fun _ => TalPair.none) ((accUp 15 { TalAcc.fresh with pairs := [(3, ⟨77, 4, 1⟩)] } []).acc 15).pairs 3)
        (st77 4 1) = false ∧
      st77 4 1 ∈ Tab.get (fun _ => []) ({ up with stamps := [(iTAL, [st77 4 1])] }).stamps iTAL := by
  and_intros <;> decide +kernel

theorem test_witness_Tallies_latch :
    ((accUp 15 { TalAcc.fresh with latch := some (7, 9) } []).acc 15).latch = some (7, 9) ∧ up.tim.edges < 7 ∧
      7 ≤ (edges up 7).tim.edges ∧ (edges (accUp 15 { TalAcc.fresh with owed := some 4 } []) 100000).serves iTAL = true ∧
      ((edges (accUp 15 { TalAcc.fresh with owed := some 4 } []) 100000).acc 15).owed = some 4 ∧ 100000 % 100000 = 0 ∧
      (up.acc 3).latch = none ∧ (up.acc 3).owed = none ∧ up.tal.saves = [] ∧
      ({ up with tal := { up.tal with saves := [⟨15, List.replicate 64 1, 1, []⟩] } }).tal.saves =
        [⟨15, List.replicate 64 1, 1, []⟩] ∧ up.memc.failA = false ∧ up.memc.failB = false ∧
      ({ up with tal := { up.tal with pwrfail := true } }).tal.partialAt ≤ up.tim.edges ∧ up.tal.pwrfail = false := by
  and_intros <;> decide +kernel

theorem test_witness_Tallies_clear :
    (up.acc 15).clear = false ∧ up.on (ISL_LOCK_LOCKED iTAL) = false ∧
      (up.setF (ISL_LOCK_LOCKED iTAL) 1).on (ISL_LOCK_LOCKED iTAL) = true ∧ (up.setF (ISL_LOCK_LOCKED iTAL) 1).serves iTAL = true ∧
      ((accUp 15 { TalAcc.fresh with clear := true } []).acc 15).clear = true ∧
      (accUp 15 TalAcc.fresh [(TAL_TQi_CFG_TEMP_KIND 15, 2)]).f (TAL_TQi_CFG_TEMP_KIND 15) = 2 ∧
      (accUp 15 TalAcc.fresh []).on (TAL_TQi_CORR_TEMP_STALE 15) = false ∧
      (up.acc 15).tempAt + 1000000000 ≤ (edges up 1000000000).tim.edges ∧
      up.tim.edges < (up.acc 15).tempAt + 1000000000 ∧ (edges up 1000000).tim.edges % 1000000 = 0 ∧
      (edges up 1000000).tim.edges ≠ up.tal.lagAt ∧ (edges up 1).tim.edges % 1000000 ≠ 0 ∧
      (edges up 1000000).serves iTAL = true := by
  and_intros <;> decide +kernel

theorem test_witness_Tallies_lag :
    (accUp 15 TalAcc.fresh [(TAL_TQi_LAG_LAG_MS 15, 2)]).f (TAL_TQi_CORR_D_MS 15) <
        (accUp 15 TalAcc.fresh [(TAL_TQi_LAG_LAG_MS 15, 2)]).lagTarget 15 ∧
      (accUp 15 TalAcc.fresh [(TAL_TQi_CORR_D_MS 15, 2)]).lagTarget 15 <
        (accUp 15 TalAcc.fresh [(TAL_TQi_CORR_D_MS 15, 2)]).f (TAL_TQi_CORR_D_MS 15) ∧
      (accUp 15 TalAcc.fresh [(TAL_TQi_CORR_D_MS 15, 2)]).f (TAL_TQi_CORR_D_MS 15) < 2 ^ 15 ∧
      (accUp 15 TalAcc.fresh []).lagTarget 15 = (accUp 15 TalAcc.fresh []).f (TAL_TQi_CORR_D_MS 15) := by
  and_intros <;> decide +kernel

/-- Pulse output 7 in a state of its own; its accumulator's NET is 5. -/
def poUp (x : TalPo) : State :=
  let s := sets up [(TAL_POn_CFG_ENABLE 7, 1), (TAL_POn_WEIGHT_WEIGHT 7, 5), (TAL_TQi_NET_NET 0, 5)]
  { s with tal := { s.tal with pos := [(7, x)] } }

theorem test_witness_Tallies_outputs :
    (up.regW iTAL 0 (aPo 7 0) (2 ^ 31)).1 = cOK ∧ bit (2 ^ 31) 31 = true ∧ up.on (TAL_POn_CFG_ENABLE 7) = false ∧
      (up.setF SYS_STRAPS_BANK 1).on SYS_STRAPS_BANK = true ∧ up.on SYS_STRAPS_BANK = false ∧
      ((up.setF SYS_STRAPS_BANK 1).regW iTAL 0 (aPo 7 0) (2 ^ 31)).1 = cOK ∧ (up.setF SYS_STRAPS_BANK 1).serves iTAL = true ∧
      (poUp TalPo.fresh).on (TAL_POn_CFG_ENABLE 7) = true ∧ ((poUp TalPo.fresh).po 7).upto = none ∧
      ((poUp TalPo.fresh).po 7).gap ≤ up.tim.edges ∧ 0 < (poUp TalPo.fresh).poTarget 7 - ((poUp TalPo.fresh).po 7).emitted ∧
      ((poUp TalPo.fresh).po 7).rev = false ∧ (poUp { TalPo.fresh with rev := true }).serves iTAL = true ∧
      ((poUp { TalPo.fresh with rev := true }).po 7).rev = true ∧
      (poUp { TalPo.fresh with emitted := 1 }).poTarget 7 - ((poUp { TalPo.fresh with emitted := 1 }).po 7).emitted = 0 ∧
      ((poUp { TalPo.fresh with upto := some 4 }).po 7).upto = some 4 := by
  and_intros <;> decide +kernel

/-! ### CAN -/

/-- Controller 5 in a state of its own, in state st, with register values. -/
def canUp (x : CanCtl) (st : Nat) (l : List (RF × Nat)) : State :=
  let s := sets up ([(CAN_CTLn_STATUS_STATE 5, st), (CAN_CTLn_CFG_ENABLE 5, 1)] ++ l)
  { s with can := { s.can with ctl := [(5, x)] } }

/-- A classical frame without data, and a buffer of it. -/
def cf : CanFrame := ⟨false, false, false, false, false, 0x123, 0, []⟩
def cb (once : Bool) (clashes : Nat) : CanBuf :=
  ⟨7, 3, cf, once, false, 0, some 0x0010001000, none, 1, clashes, false, false⟩

/-- A controller with one buffer, idle or sending it. -/
def cw (b : CanBuf) (r : Option CanRun) : CanCtl := { CanCtl.fresh with bufs := [b], order := 4, run := r }

theorem test_witness_CanControllers_enable :
    up.serves iCAN = true ∧ (canUp CanCtl.fresh 0 [(CAN_CTLn_CFG_ENABLE 5, 0), (CAN_CTLn_NBT_NTSEG1 5, 31),
        (CAN_CTLn_NBT_NTSEG2 5, 8), (CAN_CTLn_NBT_NSJW 5, 8), (CAN_CTLn_NBT_NBRP 5, 2)]).canTimingBad 5 (bit (2 ^ 31) 30) = false ∧
      (up.regW iCAN 0 (aCan 5 0) (2 ^ 31)).1 = cOK ∧ bit (2 ^ 31) 31 = true ∧ up.on (CAN_CTLn_CFG_ENABLE 5) = false ∧
      (up.canCtl 5).closing = false ∧ (up.setF (CAN_CTLn_NBT_NBRP 5) 0).canTimingBad 5 false = true ∧
      ((up.setF (CAN_CTLn_NBT_NBRP 5) 0).regW iCAN 0 (aCan 5 0) (2 ^ 31)).1 = cOK ∧
      (canUp CanCtl.fresh 1 []).on (CAN_CTLn_CFG_ENABLE 5) = true ∧ bit 0 31 = false ∧
      ((canUp CanCtl.fresh 1 []).regW iCAN 0 (aCan 5 0) 0).1 = cOK ∧ ((canUp CanCtl.fresh 1 []).canCtl 5).run = none ∧
      (∀ b ∈ ((canUp (cw (cb false 0) none) 1 []).canCtl 5).bufs, b.stamp = none) ∧
      ((canUp (cw (cb false 0) (some ⟨3, 9⟩)) 1 []).canCtl 5).run ≠ none := by
  and_intros <;> decide +kernel

theorem test_witness_CanControllers_states :
    (canUp CanCtl.fresh 3 []).canState 5 = 3 ∧ (canUp CanCtl.fresh 4 []).canState 5 = 4 ∧ up.canState 5 ≠ 3 ∧
      up.canState 5 ≠ 4 ∧ up.canOn 5 = false ∧ (canUp CanCtl.fresh 1 []).canOn 5 = true ∧
      (canUp CanCtl.fresh 1 []).on (CAN_CTLn_CFG_RESTRICTED 5) = false ∧
      ((canUp { CanCtl.fresh with tec := 247, rcv := 119 } 2 []).canCtl 5).tec < 248 ∧
      ((canUp { CanCtl.fresh with tec := 247, rcv := 119 } 2 []).canCtl 5).rcv < 120 ∧
      248 ≤ ((canUp { CanCtl.fresh with tec := 248 } 2 []).canCtl 5).tec ∧
      ((canUp { CanCtl.fresh with tec := 248 } 2 []).canCtl 5).run = none := by
  and_intros <;> decide +kernel

theorem test_witness_CanControllers_frames :
    cf.fdf = false ∧ (canUp CanCtl.fresh 1 []).canOn 5 = true ∧ ((canUp { CanCtl.fresh with rcv := 127 } 1 []).canCtl 5).rcv ≤ 127 ∧
      (canUp CanCtl.fresh 1 [(CAN_OBJo_CFG_EN 9, 1), (CAN_OBJo_CFG_CTRL 9, 5), (CAN_OBJo_ID_ID 9, 0x123), (CAN_OBJo_CFG_IDE 9, 0),
        (CAN_OBJ_BASE_BASE, 0x0010001000 / 128)]).objFor 5 cf.ide cf.id = some 9 ∧
      up.on (CAN_OBJo_CFG_Q_EN 9) = false ∧
      (sets up [(CAN_OBJ_BASE_BASE, 0x0010001000 / 128)]).memCheck (ep iCAN 0)
        ((sets up [(CAN_OBJ_BASE_BASE, 0x0010001000 / 128)]).objAddr 9) 128 true = cOK ∧
      (canUp CanCtl.fresh 1 []).objFor 5 cf.ide cf.id = none ∧
      (canUp CanCtl.fresh 1 []).on (CAN_CTLn_CFG_DEFAULT_EN 5) = false := by
  and_intros <;> decide +kernel

theorem test_witness_CanControllers_objects :
    (up.regW iCAN 0 (aObj 2047 0) (2 ^ 31 + 5 * 2 ^ 16)).1 = cOK ∧ up.on (CAN_OBJo_CFG_EN 2047) = false ∧
      bit (2 ^ 31 + 5 * 2 ^ 16) 31 = true ∧ bits (2 ^ 31 + 5 * 2 ^ 16) 18 16 = 5 ∧ up.f (CAN_OBJo_ID_ID 2047) < 2 ^ 11 ∧
      (up.setF (CAN_OBJo_MASK_MASK 2047) 0x7FF).f (CAN_OBJo_MASK_MASK 2047) < 2 ^ 11 ∧
      (List.range 2048).all (fun k => !up.on (CAN_OBJo_CFG_EN k)) = true ∧
      (sets up [(CAN_OBJo_CFG_EN 0, 1), (CAN_OBJo_CFG_CTRL 0, 5)]).f (CAN_OBJo_CFG_CTRL 0) = 5 ∧
      (sets up [(CAN_OBJo_CFG_EN 0, 1), (CAN_OBJo_CFG_CTRL 0, 5), (CAN_OBJo_CFG_IDE 0, 0)]).on (CAN_OBJo_CFG_IDE 0) = bit (2 ^ 31 + 5 * 2 ^ 16) 8 ∧
      canOverlap false 0 0 0 0 = true ∧ canOverlap false 1 0x7FF 2 0x7FF = false ∧ bits (7 * 2 ^ 32 + 2047) 10 0 = 2047 ∧
      ((up.setCanObj 2047 ⟨true, true, []⟩).canObj 2047).isNew = true ∧
      (up.setF (CAN_OBJo_SEQ_SEQ 2047) 7).f (CAN_OBJo_SEQ_SEQ 2047) = bits (7 * 2 ^ 32 + 2047) 63 32 ∧
      (sets up [(CAN_OBJ_BASE_BASE, 0x0100000000 / 128)]).memCheck (ep iCAN 0)
        ((sets up [(CAN_OBJ_BASE_BASE, 0x0100000000 / 128)]).objAddr 7 + 10) 1 true = cOK ∧ (up.canObj 2047).isNew = false ∧
      up.on (CAN_RQq_CFG_MODE 7) = false ∧ (511 + 512 - (up.setF (CAN_RQq_RD_RD 7) 511).f (CAN_RQq_RD_RD 7)) % 512 ≤
        (up.setF (CAN_RQq_RD_RD 7) 511).rqOwned 7 ∧ (up.setF (CAN_RQq_CFG_MODE 7) 1).on (CAN_RQq_CFG_MODE 7) = true := by
  and_intros <;> decide +kernel

theorem test_witness_CanControllers_requests :
    (tk (ep iCAN (0x10 + 5)) (7 * 2 ^ 23) 0x0010001000).tag = tagPrio (7 * 2 ^ 23) * 2 ^ 23 ∧ 0x0010001000 % 32 = 0 ∧
      blockIn 0x0010001000 16 true = true ∧ (up.canBlock 5 0x0010001000).1 = cOK ∧
      blockIn 0x0010001000 (16 + (up.canBlock 5 0x0010001000).2.1.data.length) true = true ∧
      (canUp CanCtl.fresh 1 []).canOn 5 = true ∧ (canUp CanCtl.fresh 1 []).on (CAN_CTLn_CFG_ENABLE 5) = true ∧
      (canUp CanCtl.fresh 1 []).on (CAN_CTLn_CFG_LISTEN 5) = false ∧
      ((canUp CanCtl.fresh 1 []).canCtl 5).bufs.length < 32 ∧ up.canState 5 = 0 ∧ up.on (CAN_CTLn_CFG_ENABLE 5) = false ∧
      32 ≤ ((canUp { CanCtl.fresh with bufs := List.replicate 32 (cb false 0) } 1 []).canCtl 5).bufs.length ∧
      ((canUp CanCtl.fresh 1 []).canBlock 5 0x0010001000).1 = cOK := by
  and_intros <;> decide +kernel

theorem test_witness_CanControllers_attempts :
    (canUp (cw (cb false 0) none) 1 []).canOn 5 = true ∧ (canUp (cw (cb false 0) none) 1 []).on (CAN_CTLn_CFG_ENABLE 5) = true ∧
      ((canUp (cw (cb false 0) none) 1 []).canCtl 5).run = none ∧ ((canUp (cw (cb false 0) none) 1 []).canCtl 5).bufs ≠ [] ∧
      ((canUp (cw (cb false 0) (some ⟨3, 9⟩)) 1 []).canCtl 5).running = some (cb false 0) ∧ (cb false 0).stamp = none ∧
      (canUp (cw (cb false 0) (some ⟨3, 9⟩)) 1 []).canState 5 = 1 ∧
      ((canUp (cw (cb false 0) (some ⟨3, 9⟩)) 1 []).canCtl 5).closing = false ∧ (cb false 0).late = false ∧
      (cb false 0).oneShot = false ∧ ((canUp (cw (cb true 0) (some ⟨3, 9⟩)) 1 []).canCtl 5).running = some (cb true 0) ∧
      ((canUp (cw (cb false 2) (some ⟨3, 9⟩)) 1 []).canCtl 5).running = some (cb false 2) ∧ 2 ≤ (cb false 2).clashes := by
  and_intros <;> decide +kernel

theorem test_witness_CanControllers_cancels :
    (tk (ep iCAN (0x20 + 5)) 0 0x0010001000).dest = ep iCAN (0x20 + 5) ∧
      ((canUp (cw (cb false 0) none) 1 []).canCtl 5).bufs.find? (fun b => b.block == some 0x0010001000) = some (cb false 0) ∧
      9 < (edges (canUp (cw (cb false 0) (some ⟨3, 9⟩)) 1 []) 5).tim.edges * 2 ∧
      (edges (canUp (cw (cb false 0) (some ⟨3, 9⟩)) 1 []) 5).serves iCAN = true ∧
      ((edges (canUp (cw (cb false 0) (some ⟨3, 9⟩)) 1 []) 5).canCtl 5).run = some ⟨3, 9⟩ ∧
      (up.canCtl 5).bufs.find? (fun b => b.block == some 0x0010001000) = none := by
  and_intros <;> decide +kernel

/-! ### Bexlink -/

/-- Bexlink is enabled, both links are up, the stack is formed, and no input stops; then values. -/
def bx (l : List (RF × Nat)) : State :=
  sets stackUp ([(BXL_CFG_ENABLE, 1), (BXL_Pp_STATUS_LINK 0, 2), (BXL_Pp_STATUS_LINK 1, 2), (BXL_STATUS_EPOCH, 1),
    (REF_STOP_STATUS_LATCHED, 0), (REF_STOP_STATUS_PIN_A, 1), (REF_STOP_STATUS_PIN_B, 1)] ++ l)

/-- A toss record with a version byte v, of this device's type, stack and image, and one of another stack. -/
def tossV (s : State) (v : Byte) : List Byte :=
  leBytes 4 (s.f UPD_HW_TYPE_TYPE) ++ [0, v] ++ leBytes 2 0 ++ leBytes 16 7 ++ leBytes 8 (s.f BXL_STACK_ID_ID) ++
    leBytes 4 (s.f UPD_VERSION_ENGINE) ++ leBytes 28 0
def tossBad : List Byte := List.replicate 64 0xFF#8

/-- A record that comes back to this module over one link. -/
def tossOwn (s : State) : TossRec := ⟨0, 1, leBytes 8 0 ++ leBytes 16 s.unitId ++ leBytes 40 0⟩

theorem test_witness_BexlinkLinks_ports :
    (bx []).portsOn = true ∧ (bx []).bxl.finish = [] ∧ 3 ≤ (bx []).f SYS_BOOT_PHASE ∧
      (bx [(BXL_Pp_STATUS_LINK 1, 1)]).f (BXL_Pp_STATUS_LINK 1) = 1 ∧ (bx [(BXL_Pp_STATUS_LINK 1, 1)]).portsOn = true ∧
      (bx [(BXL_Pp_STATUS_LINK 1, 3)]).f (BXL_Pp_STATUS_LINK 1) = 3 ∧ (bx [(BXL_Pp_STATUS_LINK 0, 0)]).f (BXL_Pp_STATUS_LINK 0) = 0 ∧
      Tab.get (fun _ => 0) (bx []).bxl.trained 1 + 10000000 ≤ (edges (bx []) 10000000).tim.edges ∧
      (edges (bx []) 9999999).tim.edges < Tab.get (fun _ => 0) (bx []).bxl.trained 1 + 10000000 ∧
      (bx []).linkUp 1 = true ∧ (bx [(BXL_Pp_STATUS_LINK 0, 0)]).linkUp 0 = false ∧
      (bx []).bxl.tosses.any (fun t => t.port == 1) = false ∧ (bx []).tossFits tossBad = false ∧
      [tossOwn up].any (fun t => t.port == 0) = true ∧ (bx []).discoveryOver = false ∧
      { bx [] with bxl := { (bx []).bxl with tosses := [tossOwn up], toss0 := some 0 } }.discoveryOver = true ∧
      (bx []).formed = true := by
  and_intros <;> decide +kernel

/-- The version byte of the protocol makes a record fit, whatever the version is. -/
theorem test_witness_BexlinkMessages_fits :
    (bx []).tossFits (tossV (bx []) (BitVec.ofNat 8 (Config.bxlVersion / 256))) = true := by
  have h : ∀ v : Byte, fld (tossV (bx []) v) 5 1 = v.toNat := fun _ => rfl
  have a : ∀ v : Byte, fld (tossV (bx []) v) 0 4 = fld (tossV (bx []) 0) 0 4 := fun _ => rfl
  have b : ∀ v : Byte, fld (tossV (bx []) v) 24 8 = fld (tossV (bx []) 0) 24 8 := fun _ => rfl
  have c : ∀ v : Byte, fld (tossV (bx []) v) 7 1 = 0 := fun _ => rfl
  have a' : fld (tossV (bx []) 0) 0 4 = (bx []).f UPD_HW_TYPE_TYPE := by decide +kernel
  have b' : fld (tossV (bx []) 0) 24 8 = (bx []).f BXL_STACK_ID_ID := by decide +kernel
  simp [State.tossFits, h, a, b, c, show bit 0 0 = false by decide]
  exact ⟨a', b'⟩

/-- One module alone: no epoch, a link looped, and t edges after reset. -/
def lone (ts : List TossRec) (t : Nat) : State :=
  edges (sets { up with bxl := { up.bxl with tosses := ts, toss0 := some 0 } }
    [(BXL_CFG_ENABLE, 1), (BXL_STATUS_STATE, 1), (BXL_STATUS_EPOCH, 0)]) t

theorem test_witness_BexlinkLinks_alone :
    (lone [tossOwn up] 1).portsOn = true ∧ (lone [tossOwn up] 1).f BXL_STATUS_STATE = 1 ∧
      (lone [tossOwn up] 1).f BXL_STATUS_EPOCH = 0 ∧ (lone [tossOwn up] 1).discoveryOver = true ∧
      (lone [tossOwn up] 1).looped = true ∧ (lone [] 1000000).portsOn = true ∧ 1000000 ≤ (lone [] 1000000).tim.edges ∧
      (lone [] 1000000).bxl.tosses = [] ∧ (lone [] 999999).tim.edges < 1000000 ∧ (lone [] 999999).bxl.finish = [] := by
  and_intros <;> decide +kernel

theorem test_witness_BexlinkLinks_heartbeats :
    (bx []).pos' < 16 ∧ (bx []).linkUp 0 = true ∧ (bx []).bxl.beatAt + 100 ≤ (edges (bx []) 100).tim.edges ∧
      (edges (bx []) 99).tim.edges < (bx []).bxl.beatAt + 100 ∧ (edges (bx []) 100).portsOn = true ∧
      (edges (bx []) 100).formed = true ∧ 2 % 16 ≠ (bx []).pos' ∧ bit 2 4 = false ∧ bit 0x12 4 = true ∧
      (bx []).latched = false ∧ 0x12 / 2 ^ 24 % 256 = (bx []).stop.releaseSeq ∧ 0 % 16 = (bx []).pos' ∧
      (bx []).stop.seen.contains (2 * 2 ^ 40 / 2 ^ 40 % 16, 2 * 2 ^ 40 % 2 ^ 32) = false ∧
      2 * 2 ^ 40 / 2 ^ 40 % 16 ≠ (bx []).pos' ∧ (bx []).levelSources = [] ∧
      { (bx []).stop with seen := [(2, 0)] }.seen.contains (2 * 2 ^ 40 / 2 ^ 40 % 16, 2 * 2 ^ 40 % 2 ^ 32) = true ∧
      0 / 2 ^ 40 % 16 = (bx []).pos' := by
  and_intros <;> decide +kernel

/-- Three members, of whom member 2 has been heard at edge 1000 and member 5 has not. -/
def bx3 (l : List (RF × Nat)) : State :=
  edges { bx l with bxl := { (bx l).bxl with
    roster := [(0, ⟨1, 1, 0, 2, 0⟩), (2, ⟨2, 1, 1, 5, 0⟩), (5, ⟨3, 1, 2, 2, 0⟩)], beats := [(2, 1000)] } } 1000

theorem test_witness_BexlinkLinks_members :
    (bx3 [(BXL_STATUS_CAPTAIN, 0)]).portsOn = true ∧ (bx3 [(BXL_STATUS_CAPTAIN, 0)]).liveAt 5 = true ∧
      5 ≠ (bx3 [(BXL_STATUS_CAPTAIN, 0)]).pos' ∧ (bx3 [(BXL_STATUS_CAPTAIN, 0)]).silent 5 = true ∧
      (bx3 [(BXL_STATUS_CAPTAIN, 0)]).cutOff = false ∧ (bx3 [(BXL_STATUS_CAPTAIN, 0)]).on BXL_STATUS_CAPTAIN = false ∧
      ((bx3 []).ros 5).buddy < 16 ∧ ((bx3 []).ros 5).buddy ≠ (bx3 []).pos' ∧ (bx3 []).on BXL_GUEST_HAS_BUDDY = false ∧
      (bx3 []).stop.asked.contains 5 = false ∧ (bx3 []).zon.txn = none ∧ (bx3 []).zon.forwarded = none ∧
      (bx3 []).on BXL_STATUS_CAPTAIN = true ∧ (bx3 []).bxl.waiting = [] ∧ (bx3 []).liveAt 15 = false ∧
      (bx3 []).silent 2 = false ∧ (edges (bx []) 301).cutOff = true ∧ (edges (bx []) 301).f BXL_STATUS_STATE ≠ 3 ∧
      (edges (bx []) 301).f UPD_STATUS_STATE ≠ 7 ∧ (edges (bx []) 301).latched = false ∧
      (edges (bx []) 301).levelSources = [] ∧ (edges (bx []) 301).portsOn = true := by
  and_intros <;> decide +kernel

theorem test_witness_BexlinkLinks_time :
    ((edges (bx []) 1000).link 1).sentAt + 1000 ≤ (edges (bx []) 1000).tim.edges ∧
      (edges (bx []) 999).tim.edges < ((edges (bx []) 999).link 1).sentAt + 1000 ∧ ((bx []).link 1).t2 = none ∧
      ({ bx [] with bxl := { (bx []).bxl with times := [(1, ⟨some 5, none, some (6, 7), 0⟩)] } }.link 1).t1 = some 5 ∧
      ({ bx [] with bxl := { (bx []).bxl with times := [(1, ⟨some 5, none, some (6, 7), 0⟩)] } }.link 1).t34 = some (6, 7) ∧
      (bx [(BXL_STATUS_CAPTAIN, 0), (BXL_TIME_UPSTREAM, 1)]).inStack = true ∧
      (bx [(BXL_STATUS_CAPTAIN, 0), (BXL_TIME_UPSTREAM, 1)]).on BXL_STATUS_CAPTAIN = false ∧
      (bx [(BXL_STATUS_CAPTAIN, 0), (BXL_TIME_UPSTREAM, 1)]).f BXL_TIME_UPSTREAM = 1 ∧ (bx []).serves iBXL = true ∧
      (bx []).on BXL_CMD_BUSY = false ∧ (bx [(BXL_CMD_BUSY, 1)]).on BXL_CMD_BUSY = true ∧ (bx []).inStack = true ∧
      (bx []).f BXL_STATUS_STATE = 2 ∧ up.inStack = false ∧
      { up.memc with live := [⟨0, 32, 0, 1, 0, 0, 0, 0, 0, 0, 0, 0, [], 0, [], [], false⟩] }.pendingItems ≠ [] := by
  and_intros <;> decide +kernel

/-- The header of a send block: a token message (2) for member 2. -/
def sendUp : State := (bx []).wrBytes 0x0010001000 (leBytes 1 2 ++ leBytes 1 2 ++ leBytes 22 0)

/-- Messages to member 2 that wait. -/
def pend (n : Nat) : List BxlPend := List.replicate n ⟨⟨2, 0, 0, 2, 1, 9, []⟩, 0, none, none, none⟩
def bxPend (n : Nat) : State := { bx [] with bxl := { (bx []).bxl with pairs := [(2, ⟨10, pend n, 0⟩)] } }

theorem test_witness_BexlinkMessages_send :
    sendUp.serves iBXL = true ∧ (tk (ep iBXL 0) (7 * 2 ^ 23) 0x0010001000).tag = tagPrio (7 * 2 ^ 23) * 2 ^ 23 ∧
      0x0010001000 < 2 ^ 40 ∧ 0x0010001000 % 32 = 0 ∧ blockIn 0x0010001000 24 true = true ∧
      fld (sendUp.rdBytes 0x0010001000 24) 0 1 = 2 ∧ fld (sendUp.rdBytes 0x0010001000 24) 1 1 < 16 ∧
      fld (sendUp.rdBytes 0x0010001000 24) 2 2 = 0 ∧ fld (sendUp.rdBytes 0x0010001000 24) 6 1 < 2 ∧
      fld (sendUp.rdBytes 0x0010001000 24) 7 1 = 0 ∧ fld (sendUp.rdBytes 0x0010001000 24) 1 1 ≠ sendUp.pos' ∧
      (sendUp.ros (fld (sendUp.rdBytes 0x0010001000 24) 1 1)).st = 1 ∧ (sendUp.pair 2).unacked.length < 16 ∧
      16 ≤ ((bxPend 16).pair 2).unacked.length := by
  and_intros <;> decide +kernel

/-- An ACK of member 2 for its message 9, and a message of kind k with a body. -/
def ackOf : BxlMsg := ⟨1, 0, 2, 0, 1, 0, leBytes 4 9 ++ leBytes 1 cOK ++ leBytes 3 0⟩
def bm (k : Nat) (b : List Byte) : BxlMsg := ⟨k, 0, 2, 0, 1, 1, b⟩

theorem test_witness_BexlinkMessages_acks :
    (bxPend 1).bxlUp = true ∧ ackOf.dst = (bxPend 1).pos' ∧
      ((bxPend 1).pair ackOf.src).unacked = [⟨⟨2, 0, 0, 2, 1, 9, []⟩, 0, none, none, none⟩] ∧ 9 = fld ackOf.body 0 4 ∧
      fld ackOf.body 4 1 = cOK ∧ (bxPend 1).bxl.handover = none ∧ (bxPend 1).portsOn = true ∧
      0 + (bxPend 1).f BXL_CFG_ACK_US * 100 < (edges (bxPend 1) (10 ^ 8)).tim.edges ∧
      (bxPend 1).tim.edges ≤ 0 + (bxPend 1).f BXL_CFG_ACK_US * 100 ∧ (bx []).hears (bm 2 []) ∧
      (bx []).on BXL_STATUS_CAPTAIN = true ∧ (bx [(BXL_STATUS_CAPTAIN, 0)]).on BXL_STATUS_CAPTAIN = false := by
  unfold State.hears
  and_intros <;> decide +kernel

/-- A setpoint for slot 47 in a token message. -/
def spBody (v : Nat) : List Byte := leBytes 4 0 ++ leBytes 4 (ep iMCH 1) ++ leBytes 4 47 ++ leBytes 4 0 ++ leBytes 8 v

theorem test_witness_BexlinkMessages_tokens :
    (bx []).serves iMCH = true ∧ fld (bm 2 (spBody 100)).body 4 2 = ep iMCH 1 ∧
      fld (bm 2 (spBody 100)).body 8 4 = 47 ∧ fld (bm 2 (spBody 100)).body 16 8 = 100 ∧
      (bx [(MCH_MFs_STATUS_STATE 47, 1)]).slotState 47 ≠ 0 ∧
      (bx [(MCH_MFs_SP_LIM_SP_MAX 47, 100)]).sg (MCH_MFs_SP_LIM_SP_MIN 47) ≤ signed 32 100 ∧
      signed 32 100 ≤ (bx [(MCH_MFs_SP_LIM_SP_MAX 47, 100)]).sg (MCH_MFs_SP_LIM_SP_MAX 47) ∧
      isIsland (epIsl (ep iMCH 1)) = true ∧ (bx [(ISL_PSTATE_STATE iMCH, 5)]).ist (epIsl (ep iMCH 1)) = 5 := by
  and_intros <;> decide +kernel

theorem test_witness_BexlinkMessages_items :
    (bx []).stampKept 2 7 = false ∧ ((bx []).flow 5).bound = none ∧
      ({ bx [] with dug := { (bx []).dug with flows := [(5, { Flow.fresh with bound := some 3 })] } }.flow 5).bound ≠ none ∧
      (bm 3 (List.replicate 1000 0)).body.length ≤ 1000 ∧ (bx [(BXL_GUEST_HAS_BUDDY, 1)]).accepting = true ∧
      (bx []).memc.room (itemLen (16 + (1000 - 24))) = true ∧ (bx [(BXL_GUEST_HAS_BUDDY, 1)]).hears (bm 3 []) ∧
      { (bx []).bxl with partner := some 2 }.partner = some (bm 4 []).src ∧ fld (leBytes 4 3 ++ leBytes 4 2) 0 1 = 3 ∧
      2 ≤ fld (leBytes 4 3 ++ leBytes 4 2) 4 4 := by
  unfold State.hears
  and_intros <;> decide +kernel

/-- The entry of a stamp of member 2 that is kept (R483). -/
def kept7 : State :=
  (bx []).wrBytes ((bx []).jAddr (0x1F8800 + 2 * 64 * 16)) (leBytes 8 7 ++ leBytes 4 0 ++ leBytes 4 (crc32c (leBytes 8 7 ++ leBytes 4 0)))

theorem test_witness_BexlinkMessages_kept : kept7.hears (bm 3 []) ∧ kept7.stampKept 2 7 = true := by
  unfold State.hears
  and_intros <;> decide +kernel

theorem test_witness_BexlinkMessages_rosters :
    (bx []).formed = true ∧ 2 ^ 15 ≤ (0 + 2 ^ 16 - (bx []).f BXL_STATUS_EPOCH) % 2 ^ 16 ∧
      (1 + 2 ^ 16 - (bx []).f BXL_STATUS_EPOCH) % 2 ^ 16 = 0 ∧ 0 < (2 + 2 ^ 16 - (bx []).f BXL_STATUS_EPOCH) % 2 ^ 16 ∧
      (2 + 2 ^ 16 - (bx []).f BXL_STATUS_EPOCH) % 2 ^ 16 < 2 ^ 15 ∧ (bx []).serves iGOB = true ∧
      fld (leBytes 8 15) 0 8 < (bx []).now + 16 ∧ (bx []).now + 16 ≤ fld (leBytes 8 16) 0 8 ∧ (bx3 []).liveAt 2 = true ∧
      (bx3 []).eastOf 2 ≠ (bx3 []).westOf 2 ∧ ((bx3 []).eastOf 2).isSome = true ∧ ((bx3 []).westOf 2).isSome = true ∧
      (bx3 []).hears (bm 0x12 []) ∧ (bx3 []).bxl.newcomer = none ∧ (bx3 []).bxl.leaving = [] ∧
      { (bx []).bxl with newcomer := some (1, 2) }.newcomer.isSome = true ∧
      fld (leBytes 32 0 ++ leBytes 4 1) 32 4 ≠ (bx []).f UPD_VERSION_ENGINE ∧
      fld (tossV (bx []) 0) 32 4 = (bx []).f UPD_VERSION_ENGINE ∧ firstIdx 16 (bx []).positionFree = some 1 := by
  unfold State.hears
  and_intros <;> decide +kernel

/-! ### Playbook update -/

/-- The update block in state st, with a state of its own and register values. -/
def updUp (st : Nat) (f : UpdSt → UpdSt) (l : List (RF × Nat)) : State :=
  let s := sets up ((UPD_STATUS_STATE, st) :: l)
  { s with upd := f s.upd }

/-- Block 0 of a Playbook of 65,536 bytes. -/
def blk0 : List Byte := leBytes 4 0x59424C50 ++ leBytes 2 1 ++ leBytes 6 0 ++ leBytes 4 65536

theorem test_witness_PlaybookUpdate_commands :
    (updUp 0 id [(UPD_CMD_BUSY, 1)]).serves iUPD = true ∧ (updUp 0 id [(UPD_CMD_BUSY, 1)]).on UPD_CMD_BUSY = true ∧
      (updUp 1 id []).serves iUPD = true ∧ (updUp 1 id []).on UPD_CMD_BUSY = false ∧ (updUp 1 id []).inStack = false ∧
      (updUp 0 id []).updSt ∈ [0, 1, 2, 4] ∧ (updUp 4 id []).updSt ∈ [1, 2, 4] ∧ (updUp 1 id []).updSt = 1 ∧
      (updUp 1 id []).upd.writing = none ∧
      blockIn ((updUp 1 id [(UPD_BLOCK_SRC_ADDR, 0x0010000000 / 64)]).f UPD_BLOCK_SRC_ADDR * 64) 65536 false = true ∧
      (updUp 1 id []).blockCheck 0 blk0 = cOK ∧ (updUp 1 id []).blockCheck 0 [] ≠ cOK ∧
      (updUp 1 (fun u => { u with newBlocks := 9 }) [(UPD_STATUS_DL_NEXT, 8)]).blockCheck 8 [] = cOK ∧
      (updUp 2 id []).updSt = 2 ∧ (updUp 7 id []).updSt = 7 ∧ (updUp 8 id []).updSt = 8 ∧ (0 < 255 ∧ 255 < 256) ∧
      (updUp 10 id []).updSt ∈ [3, 5, 6, 7, 8, 9, 10] ∧ (updUp 3 id []).updSt ≠ 1 := by
  and_intros <;> decide +kernel

theorem test_witness_PlaybookUpdate_block :
    (((updUp 1 id [(UPD_BLOCK_SRC_ADDR, 0x0010000000 / 64)]).wrBytes 0x0010000000 blk0).blockCheck 0
      (((updUp 1 id [(UPD_BLOCK_SRC_ADDR, 0x0010000000 / 64)]).wrBytes 0x0010000000 blk0).rdBytes 0x0010000000 16)) = cOK := by
  decide +kernel

theorem test_witness_PlaybookUpdate_stack :
    (sets stackUp [(UPD_STATUS_STATE, 4)]).serves iUPD = true ∧ stackUp.on UPD_CMD_BUSY = false ∧ stackUp.inStack = true ∧
      stackUp.on BXL_STATUS_CAPTAIN = true ∧ (sets stackUp [(UPD_STATUS_STATE, 4)]).updSt = 4 ∧
      (∃ p < 16, (stackUp.ros p).st = 1 ∧ p ≠ stackUp.pos') := by
  and_intros <;> decide +kernel

theorem test_witness_PlaybookUpdate_written :
    (updUp 1 (fun u => { u with writing := some (2046, List.replicate 65536 0, true) }) []).upd.writing =
        some (2046, List.replicate 65536 0, true) ∧ (List.replicate 65536 (0 : Byte)).length = 65536 := by
  exact ⟨rfl, List.length_replicate⟩

theorem test_witness_PlaybookUpdate_swaps :
    (updUp 3 id [(UPD_CMD_BUSY, 1), (UPD_CMD_OP, 3)]).updSt = 3 ∧ (updUp 3 id [(UPD_CMD_BUSY, 1)]).on UPD_CMD_BUSY = true ∧
      (updUp 3 id [(UPD_CMD_OP, 3)]).f UPD_CMD_OP = 3 ∧ up.updSt ≠ 3 ∧
      (updUp 6 id [(UPD_PROGRESS_SECTOR, 2045), (UPD_PROGRESS_SWAP_COUNT, 2047), (UPD_PROGRESS_PHASE, 2)]).f UPD_PROGRESS_SECTOR <
        (updUp 6 id [(UPD_PROGRESS_SECTOR, 2045), (UPD_PROGRESS_SWAP_COUNT, 2047), (UPD_PROGRESS_PHASE, 2)]).f
          UPD_PROGRESS_SWAP_COUNT ∧
      (updUp 6 id [(UPD_PROGRESS_SWAP_COUNT, 2047)]).f UPD_PROGRESS_SWAP_COUNT < 2 ^ 11 ∧ (updUp 6 id []).upd.halted = false ∧
      (updUp 6 id []).updSt = 6 ∧ (updUp 6 id []).updFlag 0 = false ∧
      ((updUp 6 id [(UPD_PROGRESS_PHASE, 2)]).f UPD_PROGRESS_PHASE, aScratch + 5 * 65536, aStaging + 5 * 65536) ∈
        [(0, aImage + 5 * 65536, aScratch + 5 % 64 * 65536), (1, aStaging + 5 * 65536, aImage + 5 * 65536),
          (2, aScratch + 5 % 64 * 65536, aStaging + 5 * 65536)] ∧
      (updUp 6 (fun u => { u with halted := true }) []).upd.halted = true ∧
      (updUp 8 (fun u => { u with elapsed := 5 }) [(UPD_TRIAL_TRIAL_S, 5)]).f UPD_TRIAL_TRIAL_S ≤ 5 ∧
      0 < (updUp 8 id []).f UPD_TRIAL_TRIAL_S ∧ up.memc.failA = false ∧ up.memc.failB = false ∧
      (updUp 10 id []).f UPD_PROGRESS_SWAP_COUNT ≤ (updUp 10 id []).f UPD_PROGRESS_SECTOR ∧
      (updUp 10 id [(SYS_BOOT_PHASE, 2)]).f SYS_BOOT_PHASE = 2 ∧ (updUp 10 id []).f SYS_BOOT_PHASE ≠ 2 := by
  and_intros <;> decide +kernel

/-- An UPDATE message of member 2, the first of its pair: status, sector, transaction, piece, and a rest. -/
def um (status sector txn piece : Nat) (rest : List Byte) : BxlMsg :=
  ⟨9, 0, 2, 0, 1, 1, leBytes 1 0 ++ leBytes 1 status ++ leBytes 2 sector ++ leBytes 4 txn ++ leBytes 1 piece ++ leBytes 7 0 ++ rest⟩

def updStk (st : Nat) (f : UpdSt → UpdSt) (l : List (RF × Nat)) : State :=
  let s := sets stackUp ((UPD_STATUS_STATE, st) :: l)
  { s with upd := f s.upd }

theorem test_witness_StackUpdate_pieces :
    (updStk 1 id []).hears (um 0 0 0 0 []) ∧ (updStk 1 id []).updSt ∈ [0, 1, 2, 4] ∧ fld (um 0 0 0 0 []).body 2 2 = 0 ∧
      fld (um 0 0 0 0 []).body 8 1 = 0 ∧ (updStk 1 id []).upd.writing = none ∧
      fld (um 0 1 0 0 []).body 2 2 < (updStk 1 id [(UPD_STATUS_DL_NEXT, 2)]).f UPD_STATUS_DL_NEXT ∧ 0 < fld (um 0 1 0 0 []).body 2 2 ∧
      (updStk 1 id []).f UPD_STATUS_DL_NEXT ≤ fld (um 0 0 0 1 []).body 2 2 ∧ 0 < fld (um 0 0 0 1 []).body 8 1 ∧
      (updStk 1 id []).upd.pieces.length ≠ fld (um 0 0 0 1 []).body 8 1 * 1008 ∧ fld (um 0 0 0 64 []).body 8 1 < 65 ∧
      fld (um 0 2 0 65 []).body 8 1 = 65 ∧ fld (um 0 2 0 65 []).body 2 2 = (updStk 1 id [(UPD_STATUS_DL_NEXT, 2)]).f UPD_STATUS_DL_NEXT ∧
      fld (um 0 2 0 65 []).body 2 2 < (updStk 1 (fun u => { u with newBlocks := 3 }) []).upd.newBlocks := by
  unfold State.hears
  and_intros <;> decide +kernel

theorem test_witness_StackUpdate_gathered :
    (updStk 1 (fun u => { u with pieces := List.replicate (65 * 1008) 0 }) []).upd.pieces.length = 65 * 1008 :=
  List.length_replicate

/-- A staged Playbook whose manifest names the four parts once each. -/
def staged : State :=
  (List.range 4).foldl (fun s k => s.wrBytes (aStaging + 64 + 64 * k) (leBytes 1 (k + 1) ++ leBytes 1 0 ++ leBytes 2 0xFFFF))
    ((updStk 4 id []).wrBytes (aStaging + 6) [4])

theorem test_witness_StackUpdate_prepare :
    staged.hears (um 0 0 0 0 staged.upd.digest) ∧ staged.updSt = 4 ∧
      ((um 0 0 0 0 staged.upd.digest).body.drop 16).take 48 = staged.upd.digest ∧
      partsFor (staged.rdBytes aStaging 4096) staged.pos' = true ∧ (updStk 1 id []).updSt ≠ 4 := by
  unfold State.hears
  and_intros <;> decide +kernel

theorem test_witness_StackUpdate_votes :
    (7 : Nat) = (updStk 5 id [(UPD_TXN_TXN, 7)]).f UPD_TXN_TXN ∧ fld (um 0 0 7 0 []).body 4 4 = 7 ∧
      (updStk 4 (fun u => { u with waiting := [2, 3] }) []).upd.waiting.contains 2 = true ∧
      (updStk 4 (fun u => { u with waiting := [2, 3] }) []).upd.waiting.filter (· != 2) ≠ [] ∧
      7 ≠ (updStk 5 id []).f UPD_TXN_TXN ∧ (updStk 5 id []).updSt = 5 ∧ fld (um 0 0 7 0 []).body 1 1 = cOK ∧
      fld (um 3 0 7 0 []).body 1 1 ≠ cOK ∧ (updStk 7 id []).updSt = 7 ∧ (updStk 8 id []).updSt = 8 ∧
      (updStk 8 id [(BXL_STATUS_CAPTAIN, 0)]).on BXL_STATUS_CAPTAIN = false ∧ (updStk 8 id []).on BXL_STATUS_CAPTAIN = true ∧
      (updStk 8 id []).upd.recording = none ∧ (updStk 8 id []).inStack = true ∧ (updStk 8 id []).on BXL_GUEST_HAS_BUDDY = false ∧
      (updStk 8 id [(BXL_STATUS_CAPTAIN, 0)]).hears (um 0 0 7 0 []) := by
  unfold State.hears
  and_intros <;> decide +kernel

theorem test_witness_StackUpdate_asks :
    fld (um 0 0 7 0 [5]).body 16 1 = 5 ∧ (updStk 4 (fun u => { u with decisions := [(7, 4, 3)] }) []).updKnown 7 4 = some 3 ∧
      (updStk 4 id []).updKnown 7 4 = none ∧ (updStk 4 id []).hears (um 0 0 7 0 [5]) ∧
      { up.upd with restartAt := some 4 }.restartAt = some 4 ∧ 4 ≤ (({ up with tim := { up.tim with time48 := 5 * 2 ^ 48 } } : State).now) ∧
      up.now < 4 ∧ up.upd.restartAt = none ∧ up.upd.since + 10000000 ≤ (edges up 10000000).tim.edges ∧
      up.tim.edges < up.upd.since + 10000000 := by
  unfold State.hears
  and_intros <;> decide +kernel

/-! ### The Scorebook, self-test, fences -/

def scbUp (f : ScbSt → ScbSt) (l : List (RF × Nat)) : State :=
  let s := sets up l
  { s with scb := f s.scb, boot := { s.boot with restored := true } }

/-- A software record of n bytes and a type at the start of shared SRAM. -/
def softRec (s : State) (n typ : Nat) : State := s.wrBytes 0x0010000000 (leBytes 2 n ++ leBytes 2 typ)

/-- A record under way, of 8 body bytes. -/
def sr : ScbRec := ⟨0x0101, 0, 0, false, leBytes 8 0⟩

theorem test_witness_Scorebook_staging :
    (tk (ep iSCB 1) (7 * 2 ^ 23) 0x0010000000).dest = ep iSCB 1 ∧ bits (7 * 2 ^ 23) 31 26 = 0 ∧ bits (7 * 2 ^ 23) 22 0 = 0 ∧
      (softRec (scbUp id []) 1024 0x8000).serves iSCB = true ∧ blockIn 0x0010000000 24 true = true ∧
      (softRec (scbUp id []) 1024 0x8000).rd 0x0010000000 2 = 1024 ∧ (softRec (scbUp id []) 24 0x8000).rd 0x0010000002 2 = 0x8000 ∧
      blockIn 0x0010000000 1024 true = true ∧ (scbUp id []).on SCB_STATUS_LOGFAIL = false ∧ (scbUp id []).scb.writing = none ∧
      (scbUp id []).scb.first = [] ∧ (scbUp id []).boot.restored = true ∧
      (scbUp (fun b => { b with writing := some sr, staged := List.replicate 64 sr }) []).scb.writing.isSome = true ∧
      64 ≤ (scbUp (fun b => { b with writing := some sr, staged := List.replicate 64 sr }) []).scb.staged.length ∧
      (softRec (scbUp id []) 1025 0x8000).rd 0x0010000000 2 = 1025 ∧ (softRec (scbUp id []) 24 0x7FFF).rd 0x0010000002 2 < 0x8000 := by
  and_intros <;> decide +kernel

theorem test_witness_Scorebook_written :
    (scbUp (fun b => { b with writing := some sr }) []).scb.writing = some sr ∧ (scbUp id []).scb.main = false ∧
      (scbUp id []).scb.wait = none ∧ 0x100 ≤ (up.setF SCB_WR_OFFSET (0x200000 - 32)).f SCB_WR_OFFSET ∧
      (up.setF SCB_WR_OFFSET (0x200000 - 32)).f SCB_WR_OFFSET + (24 + sr.body.length) ≤ scbSize (up.f SCB_STATUS_REGION) ∧
      up.scbFailed (up.f SCB_STATUS_REGION) = false ∧ (scbUp id []).scb.dropCount = 0 ∧
      (∀ e ∈ [(⟨0, 0x100, 32⟩ : ScbEnt)], e.off + e.len ≤ 0x120 ∨ 0x120 + 32 ≤ e.off) ∧
      (scbUp id []).f SCB_STATUS_REGION = 0 ∧ (scbUp id [(SCB_STATUS_REGION, 1)]).f SCB_STATUS_REGION ≠ 0 ∧
      (scbUp id []).scb.send = none := by
  and_intros <;> decide +kernel

theorem test_witness_Scorebook_commands :
    (scbUp id []).serves iSCB = true ∧ (scbUp id []).on SCB_CMD_STATUS_BUSY = false ∧
      (scbUp id [(SCB_CMD_STATUS_BUSY, 1)]).on SCB_CMD_STATUS_BUSY = true ∧ (7 * 16 + 1 * 128 : Nat) = 240 ∧
      (scbUp id []).on (SCB_BMk_POS_OPEN 7) = false ∧ (scbUp id [(SCB_BMk_POS_OPEN 7, 1)]).on (SCB_BMk_POS_OPEN 7) = true ∧
      (scbUp id []).on (SCB_BMk_STAT_OVERRUN 7) = false ∧
      255 ≤ ((scbUp id [(SCB_WR_SEQ, 255)]).f SCB_WR_SEQ + 2 ^ 32 - (scbUp id []).f (SCB_BMk_POS_SEQ 7)) % 2 ^ 32 ∧
      ((scbUp id [(SCB_WR_SEQ, 254)]).f SCB_WR_SEQ + 2 ^ 32 - (scbUp id []).f (SCB_BMk_POS_SEQ 7)) % 2 ^ 32 < 255 ∧
      (scbUp id [(SCB_BMk_STAT_OVERRUN 7, 1)]).on (SCB_BMk_STAT_OVERRUN 7) = true ∧ (sets up [(BXL_STATUS_POSITION, 3)]).pos' ≠ 0 ∧
      (scbUp id [(SCB_STATUS_LOGFAIL, 1)]).on SCB_STATUS_LOGFAIL = true ∧ stackUp.serves iSCB = true ∧ (0 : Nat) = stackUp.pos' ∧
      2 ≠ stackUp.pos' ∧ (stackUp.ros 2).st ≠ 0 ∧ (stackUp.ros 2).st ≠ 5 ∧
      ([⟨0, 0x100, 968⟩] : List ScbEnt).find? (fun e => e.seq == stackUp.f (SCB_BMk_POS_SEQ 7)) = some ⟨0, 0x100, 968⟩ ∧
      (up.setF (ISL_PSTATE_STATE iSCB) 0).ist iSCB = 0 := by
  and_intros <;> decide +kernel

/-- Self-test in round state b. -/
def bstUp (f : BstSt → BstSt) (l : List (RF × Nat)) : State :=
  let s := sets up ([(BST_CTRL_RUN_EN, 1)] ++ l)
  { s with bst := f s.bst }

theorem test_witness_SelfTestSlices :
    (up.setF (ISL_PSTATE_STATE iMCH) 4).ist iMCH = 4 ∧ (bstUp id []).bstReady = true ∧
      (bstUp id []).sliceSkips iSYS 0 = false ∧ (bstUp id []).sliceWaits iSYS = false ∧ (bstUp id []).bst.next < sliceTotal ∧
      (bstUp id []).sliceAt 0 ≤ (bstUp id []).tim.edges ∧ slicePlace islandList 0 = some (iSYS, 0) ∧
      (slicePlace islandList (sliceTotal - 1)).isSome = true ∧
      { up.bst with again := [(0x10, 47, 9)] }.again = (0x10, 47, 9) :: [] ∧
      ({ bstUp id [] with eng := [(0, { EngSt.fresh with ctxs := [(7, { Ctx.empty with atomic := true })] })] }.sliceWaits 0x10) = true ∧
      ({ bstUp id [] with eng := [(0, { EngSt.fresh with ctxs := [(7, { Ctx.empty with atomic := true })] })] }.sliceSkips 0x10 47) = false ∧
      (bstUp (fun b => { b with next := 9 }) []).tim.edges < (bstUp (fun b => { b with next := 9 }) []).sliceAt 9 ∧
      (up.setF BST_CTRL_RUN_EN 0).bstReady = false ∧ (bstUp id []).bst.run = none ∧
      (bstUp (fun b => { b with run := some (0x10, 47, 2) }) []).bst.run = some (0x10, 47, 2) ∧ isIsland 0x10 = true ∧
      0x10 ≠ iMCH ∧ (0 : Nat) + 1300 ≤ (edges (bstUp id []) 1300).tim.edges ∧ (edges (bstUp id []) 1299).tim.edges < 0 + 1300 ∧
      ([.token 0x10 (tk 0 0 0)] : List HeldReq).any (fun h => heldIsl h == 0x10 && up.heldClass h == 0) = true ∧
      up.held.any (fun h => heldIsl h == 0x10 && up.heldClass h == 0) = false ∧
      (up.setF (ISL_PSTATE_STATE 0x10) 4).ist 0x10 = 4 ∧ up.boot.held = false ∧ neverFenced 0x10 = false ∧ 0x10 ≠ iBXL ∧
      neverFenced iREF = true ∧
      (bstUp id []).bst.roundAt + (bstUp id []).f BST_CTRL_ROUND_MS * 100000 ≤ (edges (bstUp id []) (10 ^ 10)).tim.edges ∧
      (edges (bstUp id []) (10 ^ 10)).bstReady = true := by
  and_intros <;> decide +kernel

theorem test_witness_Fences :
    isIsland iMCH = true ∧ up.boot.held = false ∧ neverFenced iMCH = false ∧ up.ist iMCH = 3 ∧ iMCH ≠ iBXL ∧
      neverFenced iSYS = true ∧ up.serves iREF = true ∧ up.on REF_ISLAND_CMD_BUSY = false ∧ iMCH ≠ iBST ∧ up.ist iMCH ≠ 5 ∧
      (up.setF (ISL_PSTATE_STATE iMCH) 5).ist iMCH = 5 ∧ (up.setF (ISL_PSTATE_STATE iMCH) 5).serves iREF = true ∧ iMCH ≠ iREF ∧
      (sets up [(REF_ISLAND_CMD_BUSY, 1), (REF_ISLAND_CMD_OP, 2), (REF_ISLAND_CMD_ISLAND, iMCH), (ISL_PSTATE_STATE iMCH, 5)]).on
        REF_ISLAND_CMD_BUSY = true ∧
      (sets up [(REF_ISLAND_CMD_BUSY, 1), (REF_ISLAND_CMD_OP, 2), (REF_ISLAND_CMD_ISLAND, iMCH), (ISL_PSTATE_STATE iMCH, 5)]).f
        REF_ISLAND_CMD_OP = 2 ∧
      (sets up [(REF_ISLAND_CMD_BUSY, 1), (REF_ISLAND_CMD_OP, 2), (REF_ISLAND_CMD_ISLAND, iMCH), (ISL_PSTATE_STATE iMCH, 5)]).f
        REF_ISLAND_CMD_ISLAND = iMCH ∧
      (sets up [(REF_ISLAND_CMD_BUSY, 1), (REF_ISLAND_CMD_OP, 2), (REF_ISLAND_CMD_ISLAND, iMCH), (ISL_PSTATE_STATE iMCH, 5)]).ist
        iMCH = 5 ∧ iMCH ≠ iTAL ∧ iMCH ≠ iUPD ∧ iMCH ≠ iSCB ∧ up.boot.cap = none ∧ up.boot.thermal = none ∧
      (∀ e < 16, (up.engSt e).cap = none) := by
  and_intros <;> decide +kernel

/-! ### Power, resets, start-up -/

theorem test_witness_PowerAndResets :
    up.boot.held = false ∧ State.reset.boot.held = true ∧ up.serves iSYS = true ∧ bits 0x5A01 15 8 = 0x5A ∧ 0x5A01 % 2 = 1 ∧
      up.on (ISL_LOCK_LOCKED iSYS) = false ∧ (up.setF (ISL_LOCK_LOCKED iSYS) 1).on (ISL_LOCK_LOCKED iSYS) = true ∧
      (up.setF (ISL_LOCK_LOCKED iSYS) 1).serves iSYS = true ∧ 0x5A00 % 2 = 0 ∧ bits 0x5B01 15 8 ≠ 0x5A ∧
      up.on PWR_STATUS_PWRFAIL = false ∧ (up.setF PWR_STATUS_PWRFAIL 1).on PWR_STATUS_PWRFAIL = true ∧
      up.on REF_STOP_CFG_PWRFAIL_STOP = true ∧ (up.setF PWR_THERM_CAP_EN 0).on PWR_THERM_CAP_EN = false ∧
      up.on PWR_THERM_CAP_EN = true ∧ Int.ofNat (up.f PWR_THERM_CAP_C) * 100 ≤ 30000 ∧
      (-30000 : Int) < Int.ofNat (up.f PWR_THERM_CAP_C) * 100 - Int.ofNat (up.f PWR_THERM_HYST_C) * 100 ∧
      0 < up.f PWR_THERM_HYST_C ∧ { up.boot with cap := some 3 }.cap = some 3 ∧ up.boot.cap = none ∧ up.inStack = false ∧
      (stackUp.setF BXL_STATUS_CAPTAIN 0).inStack = true ∧ (stackUp.setF BXL_STATUS_CAPTAIN 0).f BXL_STATUS_STATE = 2 ∧
      (stackUp.setF BXL_STATUS_CAPTAIN 0).on BXL_STATUS_CAPTAIN = false ∧ up.boot.safe = false ∧ up.ejectStack = false ∧
      stackUp.ejectStack = true := by
  and_intros <;> decide +kernel

/-- Start-up in a phase. -/
def bootUp (phase : Nat) (f : BootSt → BootSt) : State :=
  let s := { State.reset with boot := { State.reset.boot with held := false } }.setF SYS_BOOT_PHASE phase
  { s with boot := f s.boot }

theorem test_witness_StartUp_selftest :
    State.reset.boot.held = true ∧ State.reset.boot.converters = true ∧
      { State.reset.boot with converters := false }.converters = false ∧ (bootUp 0 id).boot.held = false ∧ (bootUp 0 id).boot.holding = none ∧
      (bootUp 0 id).f SYS_BOOT_PHASE = 0 ∧
      (∀ isl < 64, isIsland isl = true → bistCritical isl = true → bit (2 ^ 0x10 + 2 ^ 0x2E) isl = false) ∧
      bit (2 ^ 0x10 + 2 ^ 0x2E) (0x10 + 1) = false ∧ (∀ j < 1, bit (2 ^ 0x10 + 2 ^ 0x2E) (0x10 + j) = true) ∧
      (∀ j < 12, bit (0xFFF * 2 ^ 16) (0x10 + j) = true) ∧
      (∀ isl < 64, isIsland isl = true → bistCritical isl = true → bit (0xFFF * 2 ^ 16) isl = false) ∧
      bistCritical iSYS = true ∧ isIsland iSYS = true ∧ bit 1 iSYS = true ∧ (bootUp 4 id).f SYS_BOOT_PHASE ≠ 0 := by
  and_intros <;> decide +kernel

theorem test_witness_StartUp_loader :
    (bootUp 1 id).f SYS_BOOT_PHASE = 1 ∧ (bootUp 2 id).f SYS_BOOT_PHASE = 2 ∧ (bootUp 2 id).boot.stay = false ∧
      (bootUp 2 id).boot.holding = none ∧ (bootUp 2 id).updSt < 6 ∧ (bootUp 2 id).updSt ≠ 3 ∧
      (bootUp 2 id).verifyCheck aImage (bootUp 2 id).pos' ≠ cOK ∧ { (bootUp 2 id).boot with stay := true }.stay = true ∧
      (bootUp 3 id).f SYS_BOOT_PHASE = 3 ∧ (bootUp 3 id).boot.restored = false ∧ (bootUp 3 id).ist iSCB ≠ 0 ∧
      (bootUp 3 id).ist iSCB ≠ 5 ∧ (bootUp 3 id).on SCB_STATUS_LOGFAIL = false ∧
      (bootUp 3 (fun b => { b with restored := true })).boot.restored = true ∧
      (bootUp 3 (fun b => { b with restored := true })).f SYS_BOOT_PHASE = 3 := by
  and_intros <;> decide +kernel

/-- With both copies lost, no ring pointer is found. -/
theorem test_witness_StartUp_noPointer :
    ({ bootUp 3 id with memc := { (bootUp 3 id).memc with failA := true, failB := true } } : State).ringPointer = none := by
  decide +kernel

/-! A Playbook that passes its checks: four parts of one byte each, signed with FIPS 186-5 under the key 5 G. -/

/-- The public key. -/
def key5 : List Byte :=
  4 :: (beBytes 48 0x11de24a2c251c777573cac5ea025e467f208e51dbff98fc54f6661cbe56583b037882f4a1ca297e60abcdbc3836d84bc ++
    beBytes 48 0x8fa696c77440f92d0f5837e90a00e7c5284b447754d5dee88c986533b6901aeb3177686d0ae8fb33184414abe6c1713a)

/-- A part entry of type t: one byte 0, whose SHA-384 stands in it. -/
def part1 (t : Nat) : List Byte :=
  leBytes 1 t ++ leBytes 1 0 ++ leBytes 2 0xFFFF ++ leBytes 4 7 ++ leBytes 4 (t * 65536) ++ leBytes 4 1 ++
    beBytes 48 0xbec021b4f368e3069134e012c2b4307083d3a9bdd206e24e5f0d86e13d6636655933ec2b413465966817a9c208a11717

/-- The manifest up to its signature. -/
def signedPart : List Byte :=
  leBytes 4 0x59424C50 ++ leBytes 2 1 ++ leBytes 6 4 ++ leBytes 4 327680 ++ List.replicate 48 0 ++ part1 1 ++ part1 2 ++
    part1 3 ++ part1 4 ++ List.replicate 768 0 ++ key5 ++ List.replicate 2815 0

def digest : Nat :=
  0xe344f2eec13f950ac31fcd2493af7fd37aa37a81b188b183d6a976374ccc1da00a9eacb7fe1ef689d17896ae175d4123

def signature : List Byte :=
  beBytes 48 0x8d999057ba3d2d969260045c55b97f089025959a6f434d651d207d19fb96e9e4fe0e86ebe0e64f85b96a9c75295df61 ++
    beBytes 48 0x87c2780515b959a4e86ee740b73cbbc313d79ca0fa26dcd9b7e1cea7b5b5a35bcd019b70da3377b1cdb4f3c95a254f04

/-- The cells of a string of bytes from address a on. -/
def cells : Nat → List Byte → List Host.Cell
  | _, [] => []
  | a, b :: l => if b = 0 then cells (a + 1) l else (a, b) :: cells (a + 1) l

theorem cells_below : ∀ (l : List Byte) (a k : Nat), k < a → Tab.get memDefault (cells a l) k = 0
  | [], _, _, _ => rfl
  | b :: l, a, k, h => by
    unfold cells
    split
    · exact cells_below l _ _ (by omega)
    · simp [Tab.get, show a ≠ k by omega, cells_below l (a + 1) k (by omega)]

theorem rdBytes_skip (s t : State) : ∀ (n a : Nat), (∀ k, a ≤ k → s.rdB k = t.rdB k) → s.rdBytes a n = t.rdBytes a n
  | 0, _, _ => rfl
  | n + 1, a, h => by
    simp [State.rdBytes, h a (Nat.le_refl a), rdBytes_skip s t n (a + 1) (fun k hk => h k (by omega))]

theorem rdBytes_cells (s : State) : ∀ (l : List Byte) (a : Nat), { s with mem := cells a l }.rdBytes a l.length = l
  | [], _ => rfl
  | b :: l, a => by
    have h : ∀ k, a + 1 ≤ k → { s with mem := cells a (b :: l) }.rdB k = { s with mem := cells (a + 1) l }.rdB k := by
      intro k hk
      simp only [State.rdB, cells]
      split
      · rfl
      · simp [Tab.get, show a ≠ k by omega]
    have h0 : { s with mem := cells a (b :: l) }.rdB a = b := by
      simp only [State.rdB, cells]
      split
      · simp [*, cells_below l (a + 1) a (by omega)]
      · simp [Tab.get]
    simp [State.rdBytes, h0, rdBytes_skip _ _ l.length (a + 1) h, rdBytes_cells s l (a + 1)]

/-- The device after power-up whose image is that Playbook and whose key slot 0 names the key. -/
def signedUp : State :=
  { bootUp 2 id with
    mem := cells aImage (signedPart ++ signature)
    upd := { (bootUp 2 id).upd with
      keys := [beBytes 48 0xb6ad1a858cfb19ac6545fdbc7e9b490699f38a899118e50026d23d22de46a9810e1b99a888199159e05113f3d9488c1c, [], [], []] } }

theorem signedPart_length : signedPart.length = 4000 := by decide +kernel
theorem signedPart_digest : sha384 signedPart = beBytes 48 digest := by decide +kernel
theorem key5_digest : sha384 key5 = signedUp.upd.keys.getD 0 [] := by decide +kernel

/-- The signature holds under the key (FIPS 186-5). -/
theorem test_signature : ecdsaValid key5 (beBytes 48 digest) signature = true := by decide +kernel

theorem test_sha384 : sha384 [0] = beBytes 48 0xbec021b4f368e3069134e012c2b4307083d3a9bdd206e24e5f0d86e13d6636655933ec2b413465966817a9c208a11717 := by
  decide +kernel

theorem signedUp_manifest : signedUp.rdBytes aImage 4096 = signedPart ++ signature := by
  have h := rdBytes_cells signedUp (signedPart ++ signature) aImage
  rwa [show (signedPart ++ signature).length = 4096 by simp [signedPart_length, signature, show ∀ v, (beBytes 48 v).length = 48 from fun _ => rfl]] at h

theorem test_witness_StartUp_verified : signedUp.verifyCheck aImage signedUp.pos' = cOK := by
  have k : ((signedPart ++ signature).drop 1088).take 97 = key5 := by decide +kernel
  have a : (signedPart ++ signature).take 4000 = signedPart := List.take_left' signedPart_length
  have b : ((signedPart ++ signature).drop 4000).take 96 = signature := by
    rw [List.drop_left' signedPart_length]; rfl
  have m : manifestBad (signedPart ++ signature) signedUp.pos' = false := by decide +kernel
  have n : manifestLong (signedPart ++ signature) = false := by decide +kernel
  have t : fld (signedPart ++ signature) 8 4 = signedUp.f UPD_HW_TYPE_TYPE := by decide +kernel
  have f7 : fld (signedPart ++ signature) 7 1 = 0 := by decide +kernel
  have f33 : fld (signedPart ++ signature) 33 1 = 0 := by decide +kernel
  have f34 : fld (signedPart ++ signature) 34 1 = 0 := by decide +kernel
  have f32 : fld (signedPart ++ signature) 32 1 = 0 := by decide +kernel
  have r : bit (signedUp.f UPD_OTP_REVOKED) 0 = false := by decide +kernel
  have o : signedUp.f UPD_OTP_ROLLBACK = 0 := by decide +kernel
  have p : ((manifestParts (signedPart ++ signature)).all (fun e =>
      sha384 (signedUp.rdBytes (aImage + fld e 8 4) (fld e 12 4)) == (e.drop 16).take 48)) = true := by decide +kernel
  simp [State.verifyCheck, signedUp_manifest, k, a, b, m, n, t, f7, f33, f34, f32, r, o, key5_digest, signedPart_digest,
    test_signature, show bit 0 0 = false by decide]
  rw [List.all_eq_true] at p
  intro x hx h
  exact absurd (by simpa using p x hx) h

theorem test_witness_StartUp_parts :
    signedUp.f SYS_BOOT_PHASE = 2 ∧ signedUp.boot.stay = false ∧ signedUp.boot.holding = none ∧ signedUp.updSt < 6 ∧
      signedUp.on SYS_STRAPS_HOLD = false ∧ (signedUp.setF SYS_STRAPS_HOLD 1).on SYS_STRAPS_HOLD = true ∧
      signedUp.ist (ownerOf 0x0010000000) ≠ 5 ∧ 3 < signedUp.rd (aImage + 6) 1 ∧
      bit (fld (part1 4) 2 2) signedUp.pos' = true ∧ 0 + 1 ≤ fld (part1 4) 12 4 ∧ blockIn 0x0010000000 1 false = true ∧
      partOf (signedPart ++ signature) 3 = part1 4 ∧
      (signedUp.setF (ISL_PSTATE_STATE iMEM) 5).ist (ownerOf 0x0010000000) = 5 := by
  and_intros <;> decide +kernel

/-! ### The host -/

/-- A command frame (R581). -/
def cmdF (op prio session flow a0 a1 : Nat) (payload : List Byte) : List Byte :=
  let b := leBytes 1 op ++ leBytes 1 prio ++ leBytes 2 payload.length ++ leBytes 4 9 ++ leBytes 4 session ++ leBytes 2 flow ++
    leBytes 2 0 ++ leBytes 8 a0 ++ leBytes 8 a1 ++ payload
  b ++ leBytes 4 (crc32c b)

/-- The UART works and PCIe is enabled; then values. -/
def hst (l : List (RF × Nat)) : State := sets up ([(HST_UART_EN, 1), (SYS_STRAPS_PCIE, 1)] ++ l)

/-- A window of interface x over the first 64 KiB of shared SRAM. -/
def grant (x : Nat) : List (RF × Nat) :=
  [(HST_Ix_CFG_MEM_EN x, 1), (HST_Ix_WIN_BASE_j_VALID x 3, 1), (HST_Ix_WIN_BASE_j_BASE x 3, 0x10000),
    (HST_Ix_WIN_LIMIT_j_LIMIT x 3, 0x1000F), (HST_Ix_WIN_LIMIT_j_R x 3, 1), (HST_Ix_WIN_LIMIT_j_W x 3, 1)]

theorem test_witness_HostCommands_frames :
    (hst []).hearsUart (cmdF 6 0 0 0 0 0 []) ∧ (hst []).hstKept 1 (cmdF 6 0 0 0 0 0 []) = none ∧
      frameBad (cmdF 6 0 0 0 0 0 []) = false ∧ cmdOp (cmdF 6 0 0 0 0 0 []) = 6 ∧ frameBad (cmdF 7 0 0 0 0 0 []) = true ∧
      frameBad (cmdF 4 8 0 0 0 0 []) = true ∧ (hst []).hearsUart (cmdF 4 8 0 0 0 0 (List.replicate 1024 1)) ∧
      (hst [(SYS_BOOT_PHASE, 3)]).hearsUart (cmdF 3 0 0 0 0 0 []) ∧ (hst [(SYS_BOOT_PHASE, 3)]).f SYS_BOOT_PHASE < 4 ∧
      (hst []).f SYS_BOOT_PHASE = 4 := by
  unfold State.hearsUart
  and_intros <;> decide +kernel

theorem test_witness_HostCommands_memory :
    frameBad (cmdF 1 0 0 0 0x0010000000 8 []) = false ∧ cmdArg1 (cmdF 1 0 0 0 0x0010000000 8 []) = 8 ∧
      cmdArg0 (cmdF 1 0 0 0 0x0010000000 8 []) % 8 = 0 ∧ regIsland 0x0010000000 = none ∧
      (hst []).memCheck (ep iHST 0) 0x0010000000 8 false = cOK ∧ (hst (grant 1)).on (HST_Ix_CFG_MEM_EN 1) = true ∧
      (hst (grant 1)).hstGrant 1 0x0010000000 8 0 = true ∧ (hst []).hstGrant 1 0x0010000000 8 0 = false ∧
      frameBad (cmdF 2 0 0 0 0x0010000000 0 (leBytes 8 1)) = false ∧ cmdLen (cmdF 2 0 0 0 0x0010000000 0 (leBytes 8 1)) = 8 ∧
      (hst []).memCheck (ep iHST 0) 0x0010000000 8 true = cOK ∧ (hst (grant 1)).hstGrant 1 0x0010000000 8 1 = true ∧
      (hst []).hstGrant 1 0x0010000000 8 1 = false := by
  and_intros <;> decide +kernel

theorem test_witness_HostCommands_tokens :
    frameBad (cmdF 3 0 0 0 (ep iSCB 0) 2 []) = false ∧ cmdOp (cmdF 3 0 0 0 (ep iSCB 0) 2 []) = 3 ∧
      (hst []).on (HST_Ix_CFG_TOKEN_EN 1) = false ∧ (hst [(HST_Ix_CFG_TOKEN_EN 1, 1)]).on (HST_Ix_CFG_TOKEN_EN 1) = true ∧
      isIsland (epIsl 0xFFFF) = false ∧ isIsland (epIsl (ep iSCB 0)) = true ∧
      (hst [(ISL_PSTATE_STATE iSCB, 5)]).ist (epIsl (ep iSCB 0)) = 5 ∧ cmdArg0 (cmdF 3 0 0 0 (ep iSCB 0) (2 + 7 * 16) []) = ep iSCB 0 ∧
      cmdArg1 (cmdF 3 0 0 0 (ep iSCB 0) (2 + 7 * 16) []) = 2 + 7 * 16 ∧ (hst []).serves iSCB = true ∧
      (hst []).on SCB_CMD_STATUS_BUSY = false := by
  and_intros <;> decide +kernel

/-- SUBMIT is enabled for flow 5, which is bound in the second; a session 3 holds slot 15 in the third. -/
def subUp (l : List (RF × Nat)) : State :=
  hst ([(HST_Ix_CFG_SUBMIT_EN 1, 1), (HST_Ix_FLOWS_VALID 1, 8), (HST_Ix_FLOWS_FLOW3 1, 5)] ++ l)
def subBound : State := { subUp [] with dug := { up.dug with flows := [(5, { Flow.fresh with bound := some 3 })] } }
def subOpen : List (RF × Nat) :=
  [(HST_SESSION_FLOW_s_VALID 15, 1), (HST_SESSION_FLOW_s_FLOW 15, 5), (HST_SESSION_s_SESSION 15, 3), (HST_SESSION_s_H 15, 9)]
def subF : List Byte := cmdF 4 7 3 5 0 0 [1, 2, 3]

theorem test_witness_HostCommands_submit :
    (subUp []).hearsUart subF ∧ frameBad subF = false ∧ cmdOp subF = 4 ∧ cmdSession subF ≠ 0 ∧
      cmdSession (cmdF 4 7 0 5 0 0 []) = 0 ∧ (subUp [(HST_Ix_CFG_SUBMIT_EN 1, 0)]).on (HST_Ix_CFG_SUBMIT_EN 1) = false ∧
      ((subUp []).hstFlows 1).contains 4 = false ∧ (subUp []).on (HST_Ix_CFG_SUBMIT_EN 1) = true ∧
      ((subUp []).hstFlows 1).contains (cmdFlow subF) = true ∧ (subUp []).hostPend = [] ∧
      (subUp subOpen).sessionSlot 3 = some 15 ∧ (subUp subOpen).f (HST_SESSION_FLOW_s_FLOW 15) ≠ 4 ∧
      (subUp subOpen).f (HST_SESSION_FLOW_s_FLOW 15) = cmdFlow subF ∧ cmdTag subF = (subUp subOpen).f (HST_SESSION_s_H 15) ∧
      (subUp []).sessionSlot 3 = none ∧ ((subUp []).flow 5).bound = none ∧ cmdLen subF ≤ 992 ∧
      (subUp []).sessionFree = some 0 ∧ (subBound.flow 5).bound.isSome = true ∧
      (subBound.offer ⟨.host 1 (cmdTag subF) 3 0, 3, 5, 0, fld subF 1 1 % 8, cmdTag subF, cmdPayload subF⟩).1 = cOK ∧
      frameBad (cmdF 5 0 3 0 0 0 []) = false ∧ cmdOp (cmdF 5 0 3 0 0 0 []) = 5 := by
  unfold State.hearsUart
  and_intros <;> decide +kernel

theorem test_witness_HostCommands_repeats :
    (({ hst [] with hst := { (hst []).hst with
        ifs := [(1, { HstIf.fresh with kept := [⟨0, 9, 6, cmdCheck (cmdF 6 0 0 0 0 0 []), 0, 0, []⟩] })] } } : State).hstKept 1
      (cmdF 6 0 0 0 0 0 [])) = some ⟨0, 9, 6, cmdCheck (cmdF 6 0 0 0 0 0 []), 0, 0, []⟩ ∧
      cmdOp (cmdF 6 0 0 0 0 0 []) = 6 ∧
      ((cmdF 6 0 0 0 0 0 []).take 35 ++ [0x77]).length = 36 + cmdLen ((cmdF 6 0 0 0 0 0 []).take 35 ++ [0x77]) ∧
      crc32c (((cmdF 6 0 0 0 0 0 []).take 35 ++ [0x77]).take 32) ≠ cmdCheck ((cmdF 6 0 0 0 0 0 []).take 35 ++ [0x77]) ∧
      ([6] : List Byte).length ≠ 36 + cmdLen [6] ∧ cmdOp [6] = 6 := by
  and_intros <;> decide +kernel

/-- PCIe works with rings of 4 entries; then what HST holds. -/
def pcie (f : HstSt → HstSt) : State :=
  let s := hst [(HST_Q_SIZE_ENTRIES, 4), (HST_NR_SIZE_ENTRIES, 4)]
  { s with hst := { f s.hst with master := true } }

theorem test_witness_HostPcie_rings :
    (pcie id).serves iHST = true ∧ (pcie id).f HST_Q_SIZE_ENTRIES ≤ 4 % 256 ∧ 1 < (pcie id).f HST_Q_SIZE_ENTRIES ∧
      (pcie id).hst.ring = [] ∧ (pcie id).pcieOn = true ∧ (pcie id).hst.master = true ∧ ((pcie id).hif 0).queue = [] ∧
      ((pcie id).f HST_SQ_TAIL_INDEX + 1) % (pcie id).f HST_Q_SIZE_ENTRIES = 1 ∧
      (pcie id).f HST_SQ_TAIL_INDEX < (pcie id).f HST_Q_SIZE_ENTRIES ∧
      ((pcie id).f HST_CQ_WR_INDEX + 1) % (pcie id).f HST_Q_SIZE_ENTRIES ≠ (pcie id).f HST_CQ_RD_INDEX ∧
      (pcie id).hstServes = true ∧
      (({ pcie id with hst := { (pcie id).hst with
        ifs := [(0, { HstIf.fresh with queue := [⟨cmdF 6 0 0 0 0 0 [], none⟩] })] } } : State).hif 0).queue =
          [⟨cmdF 6 0 0 0 0 0 [], none⟩] ∧
      cmdLen (cmdF 6 0 0 0 0 0 []) ≤ 1024 ∧ crc32c ((cmdF 6 0 0 0 0 0 []).take 32) = cmdCheck (cmdF 6 0 0 0 0 0 []) := by
  and_intros <;> decide +kernel

theorem test_witness_HostPcie_notices :
    (tk (ep iHST 0x11F) 0 7).dest = ep iHST 0x11F ∧ (0x100 < 0x11F ∧ 0x11F < 0x120) ∧
      ((pcie id).f HST_NR_WR_INDEX + 1) % (pcie id).f HST_NR_SIZE_ENTRIES ≠ (pcie id).f HST_NR_RD_INDEX ∧
      ((pcie id).setF HST_NR_RD_INDEX 1).f HST_NR_RD_INDEX = ((pcie id).f HST_NR_WR_INDEX + 1) % (pcie id).f HST_NR_SIZE_ENTRIES ∧
      (hst []).hst.master = false ∧ up.pcieOn = false ∧ 0x0010000000 % 8 = 0 ∧ (leBytes 8 5).length = 8 ∧
      0x0010000000 + 8 ≤ 2 ^ 40 ∧ regIsland 0x0010000000 = none ∧ (hst (grant 0)).hstGrantOne 0 0x0010000000 8 0 = true ∧
      (hst []).hstGrantOne 0 0x0010000000 8 0 = false ∧ (hst (grant 0)).hstGrantOne 0 0x0010000000 8 1 = true ∧
      (hst (grant 0)).pcieOn = true ∧ (hst (grant 0)).serves iHST = true ∧
      (hst (grant 0)).memCheck (ep iHST 0) 0x0010000000 8 true = cOK := by
  and_intros <;> decide +kernel

theorem test_witness_HostPcie_report :
    { up.boot with holding := some cINTEGRITY }.holding = some cINTEGRITY ∧ (hst []).ist iHST = 3 ∧ (hst []).on HST_UART_EN = true ∧
      up.boot.reportAt + 100000000 ≤ (edges up 100000000).tim.edges ∧ (edges up 99999999).tim.edges < up.boot.reportAt + 100000000 ∧
      up.boot.holding = none := by
  and_intros <;> decide +kernel

/-! ### The whole machine -/

theorem test_witness_QueueKept : ∃ t, exec .refinReturn up = .next t := ⟨_, rfl⟩

theorem test_witness_StepKeepsWf :
    ({ State.reset with pending := [.refinReturn] }).wf = true ∧
      ∃ t, step { State.reset with pending := [.refinReturn] } = .next t :=
  ⟨by decide +kernel, _, rfl⟩

/-! ### Ill-formed commands -/

theorem test_illFormed_operands :
    (Instr.registerWrite 0x10000 0 4 0).wellFormed = false ∧ (Instr.registerWrite (0x09 * 0x400) 0 4 0).wellFormed = false ∧
      (Instr.registerWrite 0 (2 ^ 40) 4 0).wellFormed = false ∧ (Instr.registerWrite 0 0 3 0).wellFormed = false ∧
      (Instr.registerWrite 0 0 4 (2 ^ 64)).wellFormed = false ∧ (Instr.registerWrite 0 0x0200000000 4 1).wellFormed = true ∧
      (Instr.islandGate 0x0F).wellFormed = false ∧ (Instr.islandGate 0x30).wellFormed = false ∧
      (Instr.mramDeviceFail 2 0 0).wellFormed = false ∧ (Instr.outputConfirmed 4096 0 0 0).wellFormed = false ∧
      (Instr.jal 16 0).wellFormed = false ∧ (Instr.jal 15 0).wellFormed = true ∧ (Instr.commitConfirm 0 8).wellFormed = false ∧
      (Instr.queuePush 0 64 0).wellFormed = false ∧ (Instr.streamConfig 0 4 0 0).wellFormed = false ∧
      (Instr.streamConfig 0 0 3 0).wellFormed = false ∧ (Instr.channelStart 0 512).wellFormed = false ∧
      (Instr.searchCaptureStart 2).wellFormed = false ∧ (Instr.bcastExpiry 7).wellFormed = false ∧
      (Instr.pinLeadingEdge 32).wellFormed = false ∧ (Instr.arm 0 64).wellFormed = false ∧ (Instr.groupEvent 16).wellFormed = false ∧
      (Instr.zonRebuild 0 2 0).wellFormed = false ∧ (Instr.readbackMismatch 20 true).wellFormed = false ∧
      (Instr.slotRun 0 48).wellFormed = false ∧ (Instr.pwmPeriodStart 24).wellFormed = false ∧ (Instr.tallyLatch 16).wellFormed = false ∧
      (Instr.pulseOutputEnd 8).wellFormed = false ∧ (Instr.canRecoveryDone 6).wellFormed = false ∧
      (Instr.canObjectEnable 0 2048 0).wellFormed = false ∧ (Instr.canQueueRd 0 8 0).wellFormed = false ∧
      (Instr.memberFail 16).wellFormed = false ∧ (Instr.ping 3 []).wellFormed = false := by
  and_intros <;> decide

theorem test_illFormed_tokens :
    (Instr.operandToken (tk (ep iDUG 1) 0 0)).wellFormed = false ∧ (Instr.operandToken (tk (ep iQUE 0) 0 0)).wellFormed = false ∧
      (Instr.operandToken (tk (ep iDUG 0) 0 0)).wellFormed = true ∧ (Instr.operandToken (tk (ep iDUG 0) (2 ^ 32) 0)).wellFormed = false ∧
      (Instr.operandToken (tk (ep iDUG 0) 0 (2 ^ 64))).wellFormed = false ∧
      (Instr.operandToken { tk (ep iDUG 0) 0 0 with stamp := some (st77 0 16) }).wellFormed = false ∧
      (Instr.spiTransaction (tk (ep iMCH 0) 0 0)).wellFormed = false ∧ (Instr.slotTarget (.token (tk (ep iMCH 1) 0 0))).wellFormed = false ∧
      (Instr.slotTarget (.write 0 48 0)).wellFormed = false ∧ (Instr.slotTarget (.write 0 47 (2 ^ 32))).wellFormed = false ∧
      (Instr.openBookmark (.token (tk (ep iSCB 1) 0 0))).wellFormed = false ∧ (Instr.openBookmark (.write 0 (2 ^ 32))).wellFormed = false ∧
      (QWord.wellFormed ⟨64, 0, 0, 0, none, none⟩) = false ∧ (QWord.wellFormed ⟨0, 8, 0, 0, none, none⟩) = false := by
  and_intros <;> decide

theorem test_illFormed_messages :
    (Instr.ack (bm 2 [])).wellFormed = false ∧ (Instr.ack (bm 1 [])).wellFormed = true ∧
      (Instr.ack (bm 1 (List.replicate 1025 0))).wellFormed = false ∧ (Instr.forward (bm 8 [2])).wellFormed = false ∧
      (Instr.forward (bm 8 [1])).wellFormed = true ∧ (Instr.forward (bm 8 [])).wellFormed = false ∧
      (Instr.canFrameReceived 0 { cf with id := 0x800 } 0).wellFormed = false ∧
      (Instr.canFrameReceived 0 { cf with dlc := 16 } 0).wellFormed = false ∧
      (Instr.canFrameReceived 0 { cf with data := List.replicate 65 0 } 0).wellFormed = false ∧
      (Instr.canFrameReceived 5 cf 0).wellFormed = true := by
  and_intros <;> decide +kernel

/-! ### Results that the manual's worked examples give -/

/-- Chapter 3, descriptor of flow 0x0C4: the tag of its deliveries (P2, slot 0, GEN 0x1). -/
theorem test_delivery_tag : tagPrio 0x01010200 = 2 ∧ bits 0x01010200 19 16 = 1 ∧ bits 0x01010200 15 0 = 0x200 ∧
    ep iDUG 1 = 0x1C01 ∧ ep iZON 1 = 0x9001 ∧ ep iRAD 0x10 = 0x8C10 := by decide

/-- Chapter 2, a flow-bound grant: addi g15, g13, -1008 with g13 = 0x9000. -/
theorem test_addi : intImm (im 0x02 15 13 0 0xC10) 0x9000 = some 0x8C10 := by decide

/-- Chapter 1: the item record of 64 payload bytes has 96 bytes. -/
theorem test_item_record : itemLen 64 = 96 := by decide

/-- Chapter 3, a stale tail on Q12: three words are left at device time 0x0100_0000 + 63,000. -/
def tailUp : State :=
  let s := sets (queueUp 12 ⟨[⟨1, 0, 0⟩, ⟨2, 0, 1⟩, ⟨3, 0, 2⟩], [], [], 3, 0, 0x01000000 + 13000⟩)
    [(QUE_Qn_STALE_EN 12, 1), (QUE_Qn_STALE_TICKS 12, 50000), (QUE_Qn_NOTICE_EP 12, 0x1C00)]
  { s with tim := { s.tim with time48 := (0x01000000 + 63000) * 2 ^ 48 } }
theorem test_stale_tail : tailUp.staleDue 12 = true ∧
    ((tailUp.staleFire 12).sent.map Token.data).getLast? = some 0x0100F61800030C01 := by
  and_intros <;> decide +kernel

/-- Chapter 4, a cold search: 21 bins. -/
theorem test_search_bins : blkBins (leBytes 4 0 ++ leBytes 2 1 ++ leBytes 14 0 ++ leBytes 4 5000 ++ leBytes 40 0) = 21 := by
  decide

/-- Chapter 7, a step through a 1 kHz strobe, with P = 0: the leading edge of TP5 at 50,100,000 leaves room for 49,998. -/
def strobe : State :=
  { up with tim := { up.tim with
      time48 := 50050001 * 2 ^ 48, stepLeft := 135000 * 2 ^ 32, stepFirst := true
      pins := [(5, ⟨0, some 50100000, none, none, none, false, none, none⟩)] } }
theorem test_step_part : strobe.stepPart.now = 50099999 ∧ strobe.stepPart.tim.stepLeft = 85002 * 2 ^ 32 := by
  and_intros <;> decide +kernel

/-- The same example: the quality code of HOLDOVER with LEAP_VALID and source 1. -/
theorem test_quality : ({ sets up [(TIM_LEAP_VALID, 1), (TIM_SRC_SEL, 1)] with tim := { up.tim with qst := 4 } } : State).quality =
    0x4C := by decide +kernel

/-- Chapter 8, R344: 20 and 75 ppm over 300,000 µs widen by 45 µs. -/
theorem test_widening : ((sets up [(RAD_CFG_SCA, 7), (RAD_Aa_STATUS_ROBOT_SCA 9, 4), (RAD_Aa_TIMING_INTERVAL 9, 80),
    (RAD_Aa_TIMING_SLEEP 9, 2)]).radWiden 9).1 = 45 := by decide +kernel

/-- Chapter 10, header height: slot 0 with the settings of the example, running. -/
def header : State :=
  sets up [(MCH_MFs_STATUS_STATE 0, 2), (MCH_MFs_MEAS_SCALE_M_GAIN 0, 16384), (MCH_MFs_MEAS_SCALE_M_OFFSET 0, 2 ^ 32 - 2000),
    (MCH_MFs_OUT_LIM_OUT_MIN 0, 2 ^ 32 - 8192), (MCH_MFs_OUT_LIM_OUT_MAX 0, 8192), (MCH_MFs_ACT_SCALE_A_OFFSET 0, 32768),
    (MCH_MFs_ACT_SCALE_A_GAIN 0, 0x30000), (MCH_MFs_RATE_RATE_STEP 0, 8), (MCH_MFs_CFG_RATE_EN 0, 1), (MCH_MFs_CFG_MODE 0, 1),
    (MCH_MFs_TARGET_TARGET 0, 9600), (MCH_MFs_BIND_KIND 0, 1), (MCH_MFs_BIND_INDEX 0, 2)]
theorem test_header_height : (header.slotRefresh 0 20400).sg (MCH_MFs_VALUES_MEASURED 0) = 3100 ∧
    (header.slotStep 0).sg (MCH_MFs_VALUES_OUTPUT 0) = 8 ∧ (header.slotStep 0).sg (MCH_MFs_ACT_VALUE 0) = 32792 ∧
    (header.slotStep 0).on (MCH_MFs_STATUS_CLAMPED 0) = true ∧ (header.slotStep 0).on (MCH_MFs_STATUS_RATE_LIMITED 0) = true := by
  and_intros <;> decide +kernel

/-- Chapter 11, grain: accumulator 0 with the settings of the example. -/
def grain : State :=
  sets up [(TAL_TQi_SCALE_GAIN 0, 32), (TAL_TQi_SCALE_ZERO 0, 4000), (TAL_TQi_CFG_SRC_KIND 0, 1), (TAL_TQi_CFG_TEMP_KIND 0, 1),
    (TAL_TQi_CFG_TEMP_INDEX 0, 12), (MCH_ANc_VALUE_FILT 12, 13968), (TAL_TQi_TSCALE_T_GAIN 0, 40960),
    (TAL_TQi_TSCALE_T_OFFSET 0, 2 ^ 32 - 5000), (TAL_TQi_LAG_LAG_MS 0, 12000), (TAL_TQi_TPk_G 0 15, 16220),
    (TAL_TQi_TPk_PHASE_MS 0 15, 40), (TAL_TQi_TPk_G 0 16, 16160), (TAL_TQi_TPk_PHASE_MS 0 16, 45), (TAL_TQi_TPk_G 0 20, 16500)]
theorem test_grain : (grain.talTemp 0).sg (TAL_TQi_TEMP_TEMP 0) = 3730 ∧ (grain.talTemp 0).f (TAL_TQi_CORR_G 0) = 16192 ∧
    (grain.talTemp 0).lagTarget 0 = 12042 ∧ grain.talQmax 0 = 1983061 ∧ (grain.talTemp 0).talQ 0 24480 = (647680, 0) := by
  and_intros <;> decide +kernel

/-- Chapter 12, a late cancel: RTR is frame bit 34, and its sample point lies 139.5 µs (27,900 CAN cycles) after SOF. -/
def implement : CanFrame := ⟨true, false, false, false, false, 0x0CCB8526, 8, leBytes 8 0⟩
theorem test_late_cancel : canArbPos implement = 34 ∧
    (sets up [(CAN_CTLn_NBT_NBRP 1, 20), (CAN_CTLn_NBT_NTSEG1 1, 13), (CAN_CTLn_NBT_NTSEG2 1, 2)]).canPoint 1 0 implement =
      27900 := by
  and_intros <;> decide +kernel

/-- Chapter 9, a track for cart-07: the path of 20 cells eastwards with a disc of radius 2 gives 108 entries, of which number 77 is
(125, 63), slots FIRST_SLOT + 60 to FIRST_SLOT + 76, and number 82 is (126, 63). -/
def track07 : List Byte :=
  leBytes 8 (1 + 2 * 2 ^ 16 + 7 * 2 ^ 32 + 20 * 2 ^ 48) ++ leBytes 8 (1 + 1 * 2 ^ 8 + 5 * 2 ^ 16) ++ leBytes 32 0 ++
    leBytes 16 41200010 ++ (List.range 20).flatMap (fun i =>
      leBytes 2 (112 + i) ++ leBytes 2 61 ++ leBytes 2 (5 * i) ++ leBytes 2 (5 * i + 6))
theorem test_track : (track07.drop 64).take 8 = leBytes 8 0x00060000003D0070 ∧
    (match (expand track07 41200000).drop 77 with
      | c :: r => c == ⟨125, 63, 41200070, 41200086⟩ && r.length == 30 && (r[4]?).map (fun c => (c.x, c.y)) == some (126, 63)
      | [] => false) = true := by
  and_intros <;> decide +kernel

/-- Chapter 8: at 200 kbit/s with a preamble of 4 and a ramp of 60 µs, 64 bytes take 3,020 µs on the air. -/
theorem test_air : (sets up [(RADn_CFG_BAND 1, 2), (RADn_CFG_RATE 1, 2), (RADn_CFG_PREAMBLE 1, 4), (RADn_CFG_RAMP_US 1, 60)]).airUs 1 64 false = 3020 := by decide +kernel
end Sys2Proof.Tests
end

section
/-! PROOFS. Every command answers a next state. A command that writes a register may be refused or held before it is served;
once the row that decides this answers a next state, so does every command built on it. -/

namespace Sys2Proof.Machine

/-- A write of an island's register answers a next state: refused, held or served. -/
theorem State.regRow_next (s : State) (isl req addr size value : Nat) (f : State → Nat × State) :
    ∃ t : State, s.regRow isl req addr size value f = .next t := by
  unfold State.regRow
  split_ifs <;> exact ⟨_, rfl⟩

/-- A write of a common register answers a next state, for an island outside the map too. -/
theorem State.prefixRow_next (s : State) (isl req o value : Nat) (f : State → Nat × State) :
    ∃ t : State, s.prefixRow isl req o value f = .next t := by
  unfold State.prefixRow
  extract_lets a
  split_ifs <;> exact ⟨_, rfl⟩

/-- A value for a slot answers a next state, by token and by register. -/
theorem State.slotIn_next (s : State) (o : Nat) (i : SlotIn) (take : State → Nat → Nat → Nat × State) :
    ∃ t : State, s.slotIn o i take = .next t := by
  cases i with
  | token t => exact ⟨_, rfl⟩
  | write req k value =>
    unfold State.slotIn
    exact State.regRow_next ..

/-- A Scorebook command answers a next state, by token and by register. -/
theorem State.scbRow_next (s : State) (op : Nat) (i : ScbIn) : ∃ t : State, s.scbRow op i = .next t := by
  cases i with
  | token t => exact ⟨_, rfl⟩
  | write req value =>
    unfold State.scbRow
    exact State.regRow_next ..

/-- A write of a register with no row of its own answers a next state: held or served. -/
theorem execRegisterWrite_next (req addr size value : Nat) (s : State) :
    ∃ t : State, execRegisterWrite req addr size value s = .next t := by
  unfold execRegisterWrite
  split
  · split_ifs <;> exact ⟨_, rfl⟩
  · exact ⟨_, rfl⟩

/-- Every command answers a next state. The meanings listed are those of the register rows, each settled by the lemma on
its row; every other command's meaning is a next state as it stands. -/
theorem exec_next (c : Instr) (s : State) : ∃ t : State, exec c s = .next t := by
  cases c
  case registerWrite => exact execRegisterWrite_next ..
  all_goals simp only [exec,
    execUnlock, execLocked, execRefuseCaptureClear, execPstateRequest, State.prefixRow_next,
    execSlotTarget, execSlotSetpoint, execMeasuredWrite, State.slotIn_next,
    execOpenBookmark, execCloseBookmark, execAdvanceBookmark, execClearRecords, execSendRecords, execMainRing,
    State.scbRow_next,
    State.descRow, execDescWrite, execDescRead, execDescDelete, execDescCancel, execDescRearm,
    State.updCmdRow, execBegin, execWriteBlock, execVerify, execActivate, execRestart, execConfirm, execReject,
    execDistribute, execAbandon,
    execDvfsRequest, execQueuePush, execQueueConfig, execStaleConfig, execStreamConfig,
    execChannelEnable, execChannelDisable, execChannelStart, execChannelStop, execVectorOn, execVectorOff,
    execChannelLoopWrite, execSnapSoftRequest, execSnapStackRequest, execSnapPeriodConfig, execBankHold,
    execTimeLatch, execGpsOffsetWrite, execSourceSelect, execSlewMaxWrite, execTimeCorrection, execPinEnable,
    execPinDisable, execRadioPortEnable, execRadioPortDisable, execArm, execArmFresh, execUpdateMap,
    execUpdateTiming, execUpdateGroups, execRelease, execAssociationOff, execZonEnable, execZonRebuild,
    execStopRaise, execStopArm, execStopRelease, execOutputEnableWrite, execSlotEnable, execSlotRun,
    execSlotDisable, execClearFault, execIlSoftSet, execIlSoftClr, execTallyEnable, execTallyDisable,
    execTallyIncWrite, execTallyClear, execTempWrite, execPulseOutputEnable, execCanEnable, execCanDisable,
    execRecover, execCanObjectEnable, execCanObjAck, execCanQueueRd, execLeave, execRetrainWest, execRetrainEast,
    execFence, execIslandRelease, execLastBreathClear, execSoftwareReset, execSqDoorbell, execCqRdWrite,
    State.regRow_next]
  all_goals exact ⟨_, rfl⟩

/-- A step answers a next state: with no command waiting an edge of SREF passes, otherwise the front command runs. -/
theorem step_next (s : State) : ∃ t : State, step s = .next t := by
  unfold step
  split
  · exact ⟨_, rfl⟩
  · exact exec_next ..

/-- Settles O2. That an event row whose condition does not hold leaves the state as it was, and so ends in a next state too, is
the model's choice (log entry 60). -/
theorem neverStops : Obligations.NeverStops := ⟨exec_next, step_next⟩

end Sys2Proof.Machine
end

section
/-! PROOFS. What a register write does by the access codes, the lock and the reserved encodings (R13 to R16, R34, R35): the
frame of each part of an access, the ways a whole access can end, then each case. -/

namespace Sys2Proof.Machine

/-! ### Frames -/

theorem State.keeps_refl (s : State) (l : List RF) : s.keeps s l := ⟨rfl, rfl, fun _ _ => rfl⟩

theorem State.keeps.trans {s t u : State} {l : List RF} (h : s.keeps t l) (k : t.keeps u l) : s.keeps u l := by
  obtain ⟨hm, he, hf⟩ := h
  obtain ⟨km, ke, kf⟩ := k
  exact ⟨km.trans hm, ke.trans he, fun q hq => (kf q hq).trans (hf q hq)⟩

/-- With more fields excepted less is promised. -/
theorem State.keeps.mono {s t : State} {l m : List RF} (h : s.keeps t l) (hl : l ⊆ m) : s.keeps t m := by
  obtain ⟨hm, he, hf⟩ := h
  exact ⟨hm, he, fun q hq => hf q fun r hr => hq r (hl hr)⟩

/-- A field outside the list reads as before. -/
theorem State.keeps.f_eq {s t : State} {l : List RF} (h : s.keeps t l) {q : RF} (hq : ∀ r ∈ l, q.key ≠ r.key) :
    t.f q = s.f q := by
  obtain ⟨-, -, hf⟩ := h
  exact hf q hq

theorem State.keeps.setF {s t : State} {l : List RF} (h : s.keeps t l) {r : RF} (hr : r ∈ l) (v : Nat) :
    s.keeps (t.setF r v) l :=
  h.trans ⟨rfl, rfl, fun q hq => State.f_setF_ne t r q v (hq r hr)⟩

theorem State.keeps.ans {s t : State} {l : List RF} (h : s.keeps t l) (c : Nat) : s.keeps (t.ans c) l := h

/-- Serving a request moves PSTATE.STATE alone. -/
theorem State.keeps_touch (s : State) (isl : Nat) : s.keeps (s.touch isl) [ISL_PSTATE_STATE isl] := by
  unfold State.touch
  split
  · have h : s.keeps { s with idleSince := Tab.set (fun _ => 0) s.idleSince isl s.now } [ISL_PSTATE_STATE isl] :=
      s.keeps_refl _
    exact h.setF (by simp) _
  · exact s.keeps_refl _

theorem State.keeps_accessed (s : State) (isl : Nat) : s.keeps (s.accessed isl) [ISL_PSTATE_STATE isl] := by
  unfold State.accessed
  split
  · exact s.keeps_refl _
  · exact s.keeps_touch isl

@[simp] theorem State.lowHalf_accessed (s : State) (isl req a : Nat) :
    (s.accessed isl).lowHalf req a = s.lowHalf req a := by
  unfold State.accessed State.touch
  split_ifs <;> rfl

/-! ### The refused-access record (R34) -/

/-- A refusal after one that stands captured is counted alone. -/
theorem State.refuse_of_valid (s : State) (isl a req : Nat) (w : Bool) (c : Nat)
    (h : s.on (ISL_REFUSE_INFO_VALID isl) = true) :
    s.refuse isl a req w c = s.inc (ISL_REFUSE_COUNT_COUNT isl) := by
  simp [State.refuse, h]

/-- The first refusal is captured and counted. -/
theorem State.refuse_of_not_valid (s : State) (isl a req : Nat) (w : Bool) (c : Nat)
    (h : s.on (ISL_REFUSE_INFO_VALID isl) = false) :
    s.refuse isl a req w c =
      (((((s.setF (ISL_REFUSE_ADDR_ADDR isl) a).setF (ISL_REFUSE_INFO_VALID isl) 1).setF
        (ISL_REFUSE_INFO_WRITE isl) (b2n w)).setF (ISL_REFUSE_INFO_REQUESTER isl) req).setF
        (ISL_REFUSE_INFO_STATUS isl) c).inc (ISL_REFUSE_COUNT_COUNT isl) := by
  simp [State.refuse, h]

/-- A refusal is recorded in the fields of the record and nowhere else. -/
theorem State.keeps_refuse (s : State) (isl a req : Nat) (w : Bool) (c : Nat) :
    s.keeps (s.refuse isl a req w c) (refuseRegs isl) := by
  cases h : s.on (ISL_REFUSE_INFO_VALID isl) with
  | true =>
    rw [s.refuse_of_valid isl a req w c h]
    exact (s.keeps_refl _).setF (by simp [refuseRegs]) _
  | false =>
    rw [s.refuse_of_not_valid isl a req w c h]
    exact ((((((s.keeps_refl _).setF (by simp [refuseRegs]) _).setF (by simp [refuseRegs]) _).setF
      (by simp [refuseRegs]) _).setF (by simp [refuseRegs]) _).setF (by simp [refuseRegs]) _).setF
      (by simp [refuseRegs]) _

/-- A refused access stands captured from then on. -/
theorem State.refuse_valid (s : State) (isl a req : Nat) (w : Bool) (c : Nat) :
    (s.refuse isl a req w c).f (ISL_REFUSE_INFO_VALID isl) = 1 := by
  cases h : s.on (ISL_REFUSE_INFO_VALID isl) with
  | true =>
    have h1 : s.f (ISL_REFUSE_INFO_VALID isl) = 1 := by simpa [State.on] using h
    rw [s.refuse_of_valid isl a req w c h, State.inc, State.f_setF_ne, h1]
    simp only [RF.key, ISL_REFUSE_INFO_VALID, ISL_REFUSE_COUNT_COUNT]
    omega
  | false =>
    rw [s.refuse_of_not_valid isl a req w c h]
    simp (disch := (simp only [RF.key, ISL_REFUSE_INFO_VALID, ISL_REFUSE_INFO_WRITE, ISL_REFUSE_INFO_REQUESTER,
      ISL_REFUSE_INFO_STATUS, ISL_REFUSE_COUNT_COUNT]; omega)) only [State.inc, State.f_setF_ne, State.f_setF_same]
    rfl

/-- What the capture of a refused access shows. -/
theorem State.refuse_captures (s : State) (isl a req : Nat) (w : Bool) (c : Nat)
    (h : s.on (ISL_REFUSE_INFO_VALID isl) = false) :
    (s.refuse isl a req w c).f (ISL_REFUSE_ADDR_ADDR isl) = a % 2 ^ 40 ∧
      (s.refuse isl a req w c).f (ISL_REFUSE_INFO_WRITE isl) = b2n w % 2 ∧
      (s.refuse isl a req w c).f (ISL_REFUSE_INFO_STATUS isl) = c % 2 ^ 8 := by
  rw [s.refuse_of_not_valid isl a req w c h]
  simp (disch := (simp only [RF.key, ISL_REFUSE_ADDR_ADDR, ISL_REFUSE_INFO_VALID, ISL_REFUSE_INFO_WRITE,
    ISL_REFUSE_INFO_REQUESTER, ISL_REFUSE_INFO_STATUS, ISL_REFUSE_COUNT_COUNT]; omega)) only
    [State.inc, State.f_setF_ne, State.f_setF_same]
  exact ⟨rfl, rfl, rfl⟩

/-! ### Ways an access ends -/

theorem exec_registerWrite (req a n v : Nat) (s : State) :
    exec (.registerWrite req a n v) s = execRegisterWrite req a n v s := rfl

theorem exec_unlock (req isl v : Nat) (s : State) : exec (.unlock req isl v) s = execUnlock req isl v s := rfl

theorem exec_locked (req isl v : Nat) (s : State) : exec (.locked req isl v) s = execLocked req isl v s := rfl

theorem exec_refuseCaptureClear (req isl v : Nat) (s : State) :
    exec (.refuseCaptureClear req isl v) s = execRefuseCaptureClear req isl v s := rfl

theorem State.serves_iff (s : State) (isl : Nat) :
    s.serves isl = true ↔ isIsland isl = true ∧ (s.ist isl = 2 ∨ s.ist isl = 3) := by
  simp [State.serves]

/-- A write to a register of an island that serves at once is answered as its register takes it. -/
theorem exec_registerWrite_serves {s u : State} {isl req a n v c : Nat} (ha : regIsland a = some isl)
    (hs : s.serves isl = true)
    (hw : s.sizedWrite isl req a n v (fun s base v => s.regFull req isl base v) = (c, u)) :
    exec (.registerWrite req a n v) s = .next ((u.accessed isl).ans c) := by
  obtain ⟨-, hi⟩ := (s.serves_iff isl).mp hs
  have hh : s.holds isl = false := by rcases hi with h | h <;> simp [State.holds, h]
  have hr : s.islandRefuses isl a = none := by rcases hi with h | h <;> simp [State.islandRefuses, h]
  have hk : s.wakeFor isl = s := by rcases hi with h | h <;> simp [State.wakeFor, h]
  simp [exec_registerWrite, execRegisterWrite, State.devWrite, done, ha, hh, hr, hk, hw]

/-- A write to a register of an island that is OFF, but for its common registers, is refused with NO_ROUTE. -/
theorem exec_registerWrite_off {s : State} {isl req a n v : Nat} (ha : regIsland a = some isl)
    (hp : prefixAddr a = false) (hi : s.ist isl = 0) :
    exec (.registerWrite req a n v) s = .next ((s.refuse isl a req true cNO_ROUTE).ans cNO_ROUTE) := by
  simp [exec_registerWrite, execRegisterWrite, State.devWrite, State.holds, State.islandRefuses, done, ha, hp, hi]

/-- A write to memory that passes its check stores the bytes of the value. -/
theorem exec_registerWrite_mem {s : State} {req a n v : Nat} (ha : regIsland a = none)
    (hc : s.memCheck req a n true = cOK) : exec (.registerWrite req a n v) s = .next ((s.wr a n v).ans cOK) := by
  simp [exec_registerWrite, execRegisterWrite, State.devWrite, State.memWrite, State.wr, done, leBytes_length, ha, hc]

/-- A row of a common register of an island that holds nothing back is served by the register's rule. -/
theorem State.prefixRow_serves {s : State} {isl : Nat} (hi : isIsland isl = true) (hh : s.holds isl = false)
    (req o v : Nat) (f : State → Nat × State) : s.prefixRow isl req o v f = done (f s) := by
  simp [State.prefixRow, hi, hh]

/-- A whole write of a 32-bit register goes to its rule. -/
theorem State.sizedWrite_word {a : Nat} {r : RegD} (hr : regAt a = some (r, a)) (hb : r.bytes = 4) (h4 : a % 4 = 0)
    (s : State) (isl req v : Nat) (full : State → Nat → Nat → Nat × State) :
    s.sizedWrite isl req a 4 v full = full s a (v % 2 ^ 32) := by
  simp [State.sizedWrite, hr, hb, h4]

/-- The low half of a 64-bit register is held for its requester (R13). -/
theorem State.sizedWrite_lowHalf {a : Nat} {r : RegD} (hr : regAt a = some (r, a)) (hb : r.bytes = 8) (h4 : a % 4 = 0)
    (s : State) (isl req v : Nat) (full : State → Nat → Nat → Nat × State) :
    s.sizedWrite isl req a 4 v full = (cOK, s.holdLowHalf req a (v % 2 ^ 32)) := by
  simp [State.sizedWrite, hr, hb, h4]

theorem State.lowHalf_holdLowHalf (s : State) (req a v : Nat) : (s.holdLowHalf req a v).lowHalf req a = some v := by
  have h : (s.holdLow.filter (fun h => h.req != req)).find? (fun h => h.req == req) = none := by
    simp [List.find?_eq_none]
  simp [State.lowHalf, State.holdLowHalf, List.find?_append, h]

/-! ### Access codes (R14, R16, R35) -/

/-- A write of a reserved encoding is refused. -/
theorem State.regW_reserved {a : Nat} {r : RegD} {v : Nat} (hr : regAt a = some (r, a)) (hl : legalWrite r v = false)
    (s : State) (isl req : Nat) : s.regW isl req a v = (cRANGE, s.refuse isl a req true cRANGE) := by
  simp [State.regW, State.regRefuse, hr, hl]

/-- A write that changes a locked RWL field is refused with NOT_OWNER, once the other fields are written. -/
theorem State.regW_locked {a : Nat} {r : RegD} {v : Nat} {s : State} {isl : Nat} (hr : regAt a = some (r, a))
    (hl : legalWrite r v = true) (hk : s.on (ISL_LOCK_LOCKED isl) = true)
    (hh : r.fields.any (fun d => d.acc == .rwl && s.f (d.at a) != d.val v) = true) (req : Nat) :
    s.regW isl req a v = (cNOT_OWNER,
      (r.fields.foldl (fun s d => s.writeField true a v d) s).refuse isl a req true cNOT_OWNER) := by
  simp only [State.regW, State.regRefuse, State.lockHit, hr, hl, hk, hh]
  rfl

/-- A write to a register without RWL fields is taken by the access codes of its fields. -/
theorem State.regW_taken {a : Nat} {r : RegD} {v : Nat} (hr : regAt a = some (r, a)) (hl : legalWrite r v = true)
    (hh : r.fields.all (fun d => d.acc != .rwl) = true) (s : State) (isl req : Nat) :
    s.regW isl req a v = (cOK,
      r.fields.foldl (fun t d => t.writeField (s.on (ISL_LOCK_LOCKED isl)) a v d) s) := by
  have h : s.lockHit isl r a v = false := by
    simp only [State.lockHit, Bool.and_eq_false_iff, List.any_eq_false]
    refine .inr fun d hd => ?_
    have := List.all_eq_true.mp hh d hd
    simp_all
  simp only [State.regW, hr, hl, h]
  rfl

/-- The parts of a served access leave all but PSTATE.STATE and what the register's rule may change. -/
theorem State.keeps.served {s u : State} {l : List RF} {isl : Nat} (h : s.keeps u l)
    (hl : ISL_PSTATE_STATE isl ∈ l) (c : Nat) : s.keeps ((u.accessed isl).ans c) l :=
  (h.trans ((u.keeps_accessed isl).mono (by simpa using hl))).ans c

/-! ### The registers and the lock of the cases -/

/-- The map's entry of POS_CTRL. -/
theorem regAt_POS_CTRL : regAt 0x0200220020 =
    some (⟨0x20, 4, 1, 1, 1, 1, [⟨1, 1, .rw, []⟩, ⟨0, 1, .rw, []⟩]⟩, 0x0200220020) := rfl

/-- The map's entry of DUG_CTRL. -/
theorem regAt_DUG_CTRL : regAt 0x0200070020 =
    some (⟨0x20, 4, 1, 1, 1, 1, [⟨0, 1, .rwl, []⟩]⟩, 0x0200070020) := rfl

/-- The map's entry of ZON_2PC. -/
theorem regAt_ZON_2PC : regAt 0x020024003C =
    some (⟨0x3C, 4, 1, 1, 1, 1, [⟨0, 16, .rw, [(1, 1000)]⟩]⟩, 0x020024003C) := rfl

/-- A write to POS_CTRL sets its two enables. -/
theorem regFull_POS_CTRL (s : State) (req v : Nat) : s.regFull req iPOS 0x0200220020 v =
    (cOK, (s.setF POS_CTRL_U1_EN (v / 2 % 2)).setF POS_CTRL_U0_EN (v % 2)) := by
  have h : s.regFull req iPOS 0x0200220020 v = s.regW iPOS req 0x0200220020 v := rfl
  rw [h, State.regW_taken regAt_POS_CTRL rfl rfl]
  simp [State.writeField, FieldD.at, FieldD.val, POS_CTRL_U0_EN, POS_CTRL_U1_EN]

/-- A write that would change the locked SPILL_EN is refused and writes nothing. -/
theorem regFull_DUG_CTRL_locked {s : State} {v : Nat} (hk : s.on (ISL_LOCK_LOCKED iDUG) = true)
    (hv : s.f DUG_CTRL_SPILL_EN ≠ v % 2) (req : Nat) : s.regFull req iDUG 0x0200070020 v =
    (cNOT_OWNER, s.refuse iDUG 0x0200070020 req true cNOT_OWNER) := by
  have h : s.regFull req iDUG 0x0200070020 v = s.regW iDUG req 0x0200070020 v := rfl
  rw [h, State.regW_locked regAt_DUG_CTRL rfl hk]
  · rfl
  · simpa [FieldD.at, FieldD.val, DUG_CTRL_SPILL_EN] using hv

/-- A HOLD_MS outside 1 to 1000 is a reserved encoding of ZON_2PC. -/
theorem regFull_ZON_2PC_reserved {v : Nat} (hv : v % 2 ^ 16 = 0 ∨ 1000 < v % 2 ^ 16) (s : State) (req : Nat) :
    s.regFull req iZON 0x020024003C v = (cRANGE, s.refuse iZON 0x020024003C req true cRANGE) := by
  have h : s.regFull req iZON 0x020024003C v = s.regW iZON req 0x020024003C v := rfl
  rw [h, State.regW_reserved regAt_ZON_2PC]
  simp [legalWrite, FieldD.val]
  omega

/-- UNLOCK from REF clears the lock, and LOCKED in the same word sets it again (R34). -/
theorem lockWrite_unlock {s : State} {req : Nat} (hr : epIsl req = iREF) (isl v : Nat) :
    ∃ t : State, s.lockWrite req isl (v % 2 + 2) = (cOK, t) ∧ t.f (ISL_LOCK_LOCKED isl) = v % 2 ∧
      s.keeps t [ISL_LOCK_LOCKED isl] := by
  have hk : s.keeps (s.setF (ISL_LOCK_LOCKED isl) 0) [ISL_LOCK_LOCKED isl] := (s.keeps_refl _).setF (by simp) 0
  rcases Nat.mod_two_eq_zero_or_one v with h | h
  · exact ⟨s.setF (ISL_LOCK_LOCKED isl) 0, by simp [State.lockWrite, hr, h, bit], by simp [h], hk⟩
  · exact ⟨(s.setF (ISL_LOCK_LOCKED isl) 0).setF (ISL_LOCK_LOCKED isl) 1, by simp [State.lockWrite, hr, h, bit],
      by simp [h, ISL_LOCK_LOCKED], hk.setF (by simp) 1⟩

/-- UNLOCK from elsewhere is refused (R34). -/
theorem lockWrite_unlock_refused {req : Nat} (hr : epIsl req ≠ iREF) (s : State) (isl v : Nat) :
    s.lockWrite req isl (v % 2 + 2) =
      (cNOT_OWNER, s.refuse isl (0x0200000008 + isl * 0x10000) req true cNOT_OWNER) := by
  have hu : bit (v % 2 + 2) 1 = true := by simp [bit]
  simp [State.lockWrite, State.regRefuse, hr, hu]

/-! ### Memory (R12) -/

/-- Bytes read back as they were stored. -/
theorem State.rdBytes_wrBytes (s : State) (a : Nat) (bs : List Byte) : (s.wrBytes a bs).rdBytes a bs.length = bs := by
  induction bs generalizing s a with
  | nil => rfl
  | cons b bs ih =>
    have h : ((s.wrB a b).wrBytes (a + 1) bs).rdB a = b := by
      rw [State.rdB_wrBytes_out _ _ _ _ (by omega), State.rdB_wrB_same]
    simp [State.rdBytes, State.wrBytes, h, ih]

/-- The bytes of a value give it back, cut to their number. -/
theorem leValue_leBytes (n v : Nat) : leValue (leBytes n v) = v % 2 ^ (8 * n) := by
  induction n generalizing v with
  | zero => simp [leBytes, leValue, Nat.mod_one]
  | succ n ih =>
    simp only [leBytes, leValue, ih, BitVec.toNat_ofNat]
    rw [show 8 * (n + 1) = 8 + 8 * n by omega, Nat.pow_add, Nat.mod_mul]

/-- A value reads back as it was stored, cut to its bytes. -/
theorem State.rd_wr (s : State) (a n v : Nat) : (s.wr a n v).rd a n = v % 2 ^ (8 * n) := by
  have h := s.rdBytes_wrBytes a (leBytes n v)
  rw [leBytes_length] at h
  rw [State.rd, State.wr, h, leValue_leBytes]

theorem State.rd_ans (s : State) (c a n : Nat) : (s.ans c).rd a n = s.rd a n :=
  congrArg leValue (State.rdBytes_congr (s.ans c) s a n rfl)

/-! ### The cases -/

theorem registerWrite_POS_CTRL {s : State} {v : Nat} (hs : s.serves iPOS = true) (hv : v < 4) (req : Nat) :
    ∃ t : State, exec (.registerWrite req 0x0200220020 4 v) s = .next t ∧ t.answer = cOK ∧ t.f POS_CTRL_U0_EN = v % 2 ∧
      t.f POS_CTRL_U1_EN = v / 2 ∧ s.keeps t [POS_CTRL_U0_EN, POS_CTRL_U1_EN, ISL_PSTATE_STATE iPOS] := by
  have hw := (State.sizedWrite_word regAt_POS_CTRL rfl rfl s iPOS req v
    (fun s base v => s.regFull req iPOS base v)).trans (regFull_POS_CTRL s req (v % 2 ^ 32))
  rw [exec_registerWrite_serves rfl hs hw, Nat.mod_eq_of_lt (show v < 2 ^ 32 by omega)]
  have ha := State.keeps_accessed ((s.setF POS_CTRL_U1_EN (v / 2 % 2)).setF POS_CTRL_U0_EN (v % 2)) iPOS
  refine ⟨_, rfl, rfl, ?_, ?_, ?_⟩
  · rw [State.f_ans, ha.f_eq (by decide), State.f_setF_same]
    exact Nat.mod_mod v 2
  · rw [State.f_ans, ha.f_eq (by decide), State.f_setF_ne _ _ _ _ (by decide), State.f_setF_same]
    change v / 2 % 2 % 2 = v / 2
    omega
  · exact (((s.keeps_refl _).setF (by simp) _).setF (by simp) _).served (by simp) _

theorem registerWrite_DUG_CTRL_locked {s : State} {v : Nat} (hs : s.serves iDUG = true)
    (hk : s.on (ISL_LOCK_LOCKED iDUG) = true) (hv : v < 2) (hf : s.f DUG_CTRL_SPILL_EN ≠ v) (req : Nat) :
    ∃ t : State, exec (.registerWrite req 0x0200070020 4 v) s = .next t ∧ t.answer = cNOT_OWNER ∧
      t.f (ISL_REFUSE_INFO_VALID iDUG) = 1 ∧ s.keeps t (ISL_PSTATE_STATE iDUG :: refuseRegs iDUG) := by
  have hm : v % 2 ^ 32 % 2 = v := by omega
  have hw := (State.sizedWrite_word regAt_DUG_CTRL rfl rfl s iDUG req v
    (fun s base v => s.regFull req iDUG base v)).trans (regFull_DUG_CTRL_locked hk (by rwa [hm]) req)
  rw [exec_registerWrite_serves rfl hs hw]
  refine ⟨_, rfl, rfl, ?_, ?_⟩
  · rw [State.f_ans, (State.keeps_accessed _ iDUG).f_eq (by decide), State.refuse_valid]
  · exact ((s.keeps_refuse ..).mono (List.subset_cons_self ..)).served (by simp) _

theorem registerWrite_ZON_2PC_reserved {s : State} {v : Nat} (hs : s.serves iZON = true)
    (hv : v = 0 ∨ 1000 < v ∧ v < 2 ^ 16) (req : Nat) :
    ∃ t : State, exec (.registerWrite req 0x020024003C 4 v) s = .next t ∧ t.answer = cRANGE ∧
      s.keeps t (ISL_PSTATE_STATE iZON :: refuseRegs iZON) := by
  have hw := (State.sizedWrite_word regAt_ZON_2PC rfl rfl s iZON req v
    (fun s base v => s.regFull req iZON base v)).trans (regFull_ZON_2PC_reserved (by omega) s req)
  rw [exec_registerWrite_serves rfl hs hw]
  exact ⟨_, rfl, rfl, ((s.keeps_refuse ..).mono (List.subset_cons_self ..)).served (by simp) _⟩

theorem registerWrite_off {s : State} {isl a : Nat} (ha : regIsland a = some isl) (hp : prefixAddr a = false)
    (hi : s.ist isl = 0) (hn : s.on (ISL_REFUSE_INFO_VALID isl) = false) (hl : a < 2 ^ 40) (req n v : Nat) :
    ∃ t : State, exec (.registerWrite req a n v) s = .next t ∧ t.answer = cNO_ROUTE ∧
      t.f (ISL_REFUSE_ADDR_ADDR isl) = a ∧ t.f (ISL_REFUSE_INFO_VALID isl) = 1 ∧ t.f (ISL_REFUSE_INFO_WRITE isl) = 1 ∧
      t.f (ISL_REFUSE_INFO_STATUS isl) = cNO_ROUTE ∧ s.keeps t (refuseRegs isl) := by
  rw [exec_registerWrite_off ha hp hi]
  obtain ⟨haddr, hwrite, hstatus⟩ := s.refuse_captures isl a req true cNO_ROUTE hn
  exact ⟨_, rfl, rfl, haddr.trans (Nat.mod_eq_of_lt hl), s.refuse_valid .., hwrite, hstatus, s.keeps_refuse ..⟩

theorem registerWrite_lowHalf {s : State} {isl a : Nat} {r : RegD} (ha : regIsland a = some isl)
    (hr : regAt a = some (r, a)) (hb : r.bytes = 8) (h4 : a % 4 = 0) (hs : s.serves isl = true) (req v : Nat) :
    ∃ t : State, exec (.registerWrite req a 4 v) s = .next t ∧ t.answer = cOK ∧ t.lowHalf req a = some (v % 2 ^ 32) ∧
      s.keeps t [ISL_PSTATE_STATE isl] := by
  have hk : s.keeps (s.holdLowHalf req a (v % 2 ^ 32)) [ISL_PSTATE_STATE isl] := s.keeps_refl _
  rw [exec_registerWrite_serves ha hs (State.sizedWrite_lowHalf hr hb h4 s isl req v _)]
  refine ⟨_, rfl, rfl, ?_, hk.served (by simp) _⟩
  exact (State.lowHalf_accessed ..).trans (s.lowHalf_holdLowHalf req a _)

theorem registerWrite_mem {s : State} {req a n : Nat} (ha : regIsland a = none) (hc : s.memCheck req a n true = cOK)
    (v : Nat) : ∃ t : State, exec (.registerWrite req a n v) s = .next t ∧ t.answer = cOK ∧
      t.rd a n = v % 2 ^ (8 * n) ∧ t.regs = s.regs ∧ t.eng = s.eng ∧
      ∀ b : Nat, (b < a ∨ a + n ≤ b) → t.rdB b = s.rdB b := by
  rw [exec_registerWrite_mem ha hc]
  refine ⟨_, rfl, rfl, ?_, State.regs_wrBytes .., State.eng_wrBytes .., fun b hb => ?_⟩
  · rw [State.rd_ans, State.rd_wr]
  · exact s.rdB_wrBytes_out a b (leBytes n v) (by rwa [leBytes_length])

theorem unlock_ref {s : State} {req isl : Nat} (hi : isIsland isl = true) (hh : s.holds isl = false)
    (hr : epIsl req = iREF) (v : Nat) :
    ∃ t : State, exec (.unlock req isl v) s = .next t ∧ t.answer = cOK ∧ t.f (ISL_LOCK_LOCKED isl) = v % 2 ∧
      s.keeps t [ISL_LOCK_LOCKED isl] := by
  obtain ⟨t, ht, hf, hk⟩ := lockWrite_unlock (s := s) hr isl v
  rw [exec_unlock, execUnlock, State.prefixRow_serves hi hh, ht]
  exact ⟨_, rfl, rfl, hf, hk.ans cOK⟩

theorem unlock_elsewhere {s : State} {req isl : Nat} (hi : isIsland isl = true) (hh : s.holds isl = false)
    (hr : epIsl req ≠ iREF) (v : Nat) :
    ∃ t : State, exec (.unlock req isl v) s = .next t ∧ t.answer = cNOT_OWNER ∧ s.keeps t (refuseRegs isl) := by
  rw [exec_unlock, execUnlock, State.prefixRow_serves hi hh, lockWrite_unlock_refused hr]
  exact ⟨_, rfl, rfl, s.keeps_refuse ..⟩

theorem locked_sets {s : State} {isl v : Nat} (hi : isIsland isl = true) (hh : s.holds isl = false)
    (hv : v / 2 % 2 = 0) (req : Nat) :
    ∃ t : State, exec (.locked req isl v) s = .next t ∧ t.answer = cOK ∧ t.f (ISL_LOCK_LOCKED isl) = 1 ∧
      s.keeps t [ISL_LOCK_LOCKED isl] := by
  have h1 : v % 4 / 2 * 2 + 1 = 1 := by omega
  have hw : s.lockWrite req isl 1 = (cOK, s.setF (ISL_LOCK_LOCKED isl) 1) := by simp [State.lockWrite, bit]
  rw [exec_locked, execLocked, State.prefixRow_serves hi hh, h1, hw]
  exact ⟨_, rfl, rfl, State.f_setF_same .., (s.keeps_refl _).setF (by simp) _⟩

theorem refuseCaptureClear_clears {s : State} {isl : Nat} (hi : isIsland isl = true) (hh : s.holds isl = false)
    (req v : Nat) :
    ∃ t : State, exec (.refuseCaptureClear req isl v) s = .next t ∧ t.answer = cOK ∧
      t.f (ISL_REFUSE_INFO_VALID isl) = 0 ∧ t.f (ISL_REFUSE_COUNT_COUNT isl) = 0 ∧
      s.keeps t [ISL_REFUSE_INFO_VALID isl, ISL_REFUSE_COUNT_COUNT isl] := by
  have hb : bit (v % 2 ^ 31 + 2 ^ 31) 31 = true := by
    simp only [bit, beq_iff_eq]
    omega
  have hw : s.refuseInfoWrite isl (v % 2 ^ 31 + 2 ^ 31) =
      (cOK, (s.setF (ISL_REFUSE_INFO_VALID isl) 0).setF (ISL_REFUSE_COUNT_COUNT isl) 0) := by
    simp only [State.refuseInfoWrite, hb, if_true]
  rw [exec_refuseCaptureClear, execRefuseCaptureClear, State.prefixRow_serves hi hh, hw]
  refine ⟨_, rfl, rfl, ?_, State.f_setF_same .., ((s.keeps_refl _).setF (by simp) _).setF (by simp) _⟩
  rw [State.f_ans, State.f_setF_ne, State.f_setF_same, Nat.zero_mod]
  simp only [RF.key, ISL_REFUSE_INFO_VALID, ISL_REFUSE_COUNT_COUNT]
  omega

/-- Settles O7, case by case. That an island that is OFF refuses a register access is log entry 15. -/
theorem registerAccess : Obligations.RegisterAccess := by
  intro s req v
  refine ⟨fun hs hv => registerWrite_POS_CTRL hs hv req,
    fun hs hk hv hf => registerWrite_DUG_CTRL_locked hs hk hv hf req,
    fun hs hv => registerWrite_ZON_2PC_reserved hs hv req,
    fun isl a n ha hp hi hn hl => registerWrite_off ha hp hi hn hl req n v,
    fun isl a r ha hr hb h4 hs => registerWrite_lowHalf ha hr hb h4 hs req v,
    fun a n ha hc => registerWrite_mem ha hc v, fun isl hi hh => ?_⟩
  exact ⟨fun hr => unlock_ref hi hh hr v, fun hr => unlock_elsewhere hi hh hr v, fun hv => locked_sets hi hh hv req,
    refuseCaptureClear_clears hi hh req v⟩

end Sys2Proof.Machine
end

section
/-! PROOFS. Every step keeps memory and the register file in their canonical form (R22, R14). The model writes them in
four ways alone: a field, a byte, leaving entries out, and the reset; the rest of a command carries the state through
branches, folds and answers. One rule for each operation of the model says that it keeps the form, by the rules of the
operations it calls; a rule takes the proof that the state is canonical and is applied to it as the operation is. -/

-- Compiled in order: run at once, the rules of this part wait for one another on more threads than the memory holds.
set_option Elab.async false

namespace Sys2Proof.Machine

/-- Memory and the register file are in their canonical form. -/
structure State.Canon (s : State) : Prop where
  mem : Memory.wf s.mem = true
  regs : Tab.wf regReset s.regs = true

/-- An answer's state is canonical. -/
def CanonOut {α : Type} (p : α × State) : Prop := p.2.Canon

/-- The state of an answer with a value is canonical. -/
def CanonOut₂ {α β : Type} (p : α × β × State) : Prop := CanonOut p.2

/-- The write rule of a family answers a canonical state, where it has one for the register. -/
def CanonOpt (o : Option (Nat × State)) : Prop := ∀ p : Nat × State, o = some p → CanonOut p

/-- What executing an instruction comes to leaves a canonical state; a trap leaves the state it came in. -/
def CanonERes : ERes → Prop
  | .go s _ => s.Canon
  | .trap .. => True
  | .trapIn s .. => s.Canon
  | .left s => s.Canon
  | .stall s => s.Canon

/-- The next state of a command is canonical. -/
def NextCanon (r : Res) : Prop := ∀ t : State, r = .next t → t.Canon

theorem State.canon_iff (s : State) : s.Canon ↔ s.wf = true := by
  rw [State.wf, Bool.and_eq_true]
  exact ⟨fun h => ⟨h.mem, h.regs⟩, fun h => ⟨h.1, h.2⟩⟩

variable {s : State}

/-! ### Ways a canonical state goes into an answer and comes out of one -/

theorem State.Canon.next (h : s.Canon) : NextCanon (.next s) := by
  rintro _ ⟨⟩; exact h

theorem State.Canon.go (h : s.Canon) {pc} : CanonERes (.go s pc) := h

theorem State.Canon.trapIn (h : s.Canon) {cause status value} : CanonERes (.trapIn s cause status value) := h

theorem State.Canon.left (h : s.Canon) : CanonERes (.left s) := h

theorem State.Canon.stall (h : s.Canon) : CanonERes (.stall s) := h

theorem CanonERes.trap {cause status value} : CanonERes (.trap cause status value) := trivial

theorem CanonOpt.none : CanonOpt none := by simp [CanonOpt]

theorem CanonOpt.some {p : Nat × State} (h : CanonOut p) : CanonOpt (some p) := by
  rintro _ ⟨⟩; exact h

section
variable {α β γ : Type} {p : α × State} {q : α × β × State}

theorem State.Canon.pair (h : s.Canon) {a : α} : CanonOut (a, s) := h

theorem CanonOut.pair (h : CanonOut p) {b : β} : CanonOut₂ (b, p) := h

theorem CanonOut.snd (h : CanonOut p) : p.2.Canon := h

theorem CanonOut₂.snd (h : CanonOut₂ q) : CanonOut q.2 := h

theorem CanonOut₂.of_prod (h : CanonOut₂ q) {a b} (e : q = (a, b, s)) : s.Canon := by
  subst e; exact h

/-! ### Branches and folds -/

variable {c : Prop} [Decidable c]

theorem State.Canon.ite {a b : State} (h : a.Canon) (k : b.Canon) : (if c then a else b).Canon :=
  iteInduction (fun _ => h) fun _ => k

theorem CanonOut.ite {a b : α × State} (h : CanonOut a) (k : CanonOut b) : CanonOut (if c then a else b) :=
  iteInduction (fun _ => h) fun _ => k

theorem CanonOut₂.ite {a b : α × β × State} (h : CanonOut₂ a) (k : CanonOut₂ b) : CanonOut₂ (if c then a else b) :=
  iteInduction (fun _ => h) fun _ => k

theorem CanonOpt.ite {a b : Option (Nat × State)} (h : CanonOpt a) (k : CanonOpt b) : CanonOpt (if c then a else b) :=
  iteInduction (fun _ => h) fun _ => k

theorem CanonERes.ite {a b : ERes} (h : CanonERes a) (k : CanonERes b) : CanonERes (if c then a else b) :=
  iteInduction (fun _ => h) fun _ => k

theorem NextCanon.ite {a b : Res} (h : NextCanon a) (k : NextCanon b) : NextCanon (if c then a else b) :=
  iteInduction (fun _ => h) fun _ => k

theorem State.Canon.foldl {l : List α} {f : State → α → State} (h : s.Canon) (hf : ∀ {t a}, t.Canon → (f t a).Canon) :
    (l.foldl f s).Canon :=
  l.foldlRecOn f h fun _ ht _ _ => hf ht

theorem CanonOut.foldl {l : List β} {f : α × State → β → α × State} (h : CanonOut p)
    (hf : ∀ {t a}, CanonOut t → CanonOut (f t a)) : CanonOut (l.foldl f p) :=
  l.foldlRecOn f h fun _ ht _ _ => hf ht

theorem CanonOut₂.foldl {l : List γ} {f : α × β × State → γ → α × β × State} (h : CanonOut₂ q)
    (hf : ∀ {t a}, CanonOut₂ t → CanonOut₂ (f t a)) : CanonOut₂ (l.foldl f q) :=
  l.foldlRecOn f h fun _ ht _ _ => hf ht

end

/-! ### The writes that everything is made of -/

/-- A state with the memory and the registers of a canonical one is canonical, whatever else changed. -/
theorem State.Canon.of_eq {t : State} (h : s.Canon) (hm : t.mem = s.mem := by rfl) (hr : t.regs = s.regs := by rfl) :
    t.Canon :=
  ⟨hm ▸ h.mem, hr ▸ h.regs⟩

theorem State.Canon.withMemc (h : s.Canon) {m} : State.Canon { s with memc := m } := ⟨h.mem, h.regs⟩

theorem State.Canon.withCan (h : s.Canon) {c} : State.Canon { s with can := c } := ⟨h.mem, h.regs⟩

theorem State.Canon.withDug (h : s.Canon) {d} : State.Canon { s with dug := d } := ⟨h.mem, h.regs⟩

theorem State.Canon.filterMem (h : s.Canon) {p : Host.Cell → Bool} : State.Canon { s with mem := s.mem.filter p } :=
  ⟨Memory.wf_filter _ p h.mem, h.regs⟩

theorem State.Canon.filterRegs (h : s.Canon) {p : Nat × Nat → Bool} : State.Canon { s with regs := s.regs.filter p } :=
  ⟨h.mem, Tab.wf_filter _ p _ h.regs⟩

theorem State.Canon.reset : State.reset.Canon := by
  refine ⟨rfl, ?_⟩
  show Tab.wf regReset (Tab.set regReset [] SYS_RESET_CAUSE_CAUSE.key 1) = true
  exact Tab.wf_set _ _ _ _ rfl

theorem State.Canon.setF (h : s.Canon) {r v} : (s.setF r v).Canon := ⟨h.mem, Tab.wf_set _ _ _ _ h.regs⟩

theorem State.Canon.wrB (h : s.Canon) {a b} : (s.wrB a b).Canon := ⟨State.wrB_wf s a b h.mem, h.regs⟩

/-! ### Ops -/

theorem State.Canon.inc (h : s.Canon) {r} : (s.inc r).Canon := h.setF

theorem State.Canon.addF (h : s.Canon) {r k} : (s.addF r k).Canon := h.setF

theorem State.Canon.incW (h : s.Canon) {r} : (s.incW r).Canon := h.setF

theorem State.Canon.resetRegs (h : s.Canon) {i} : (s.resetRegs i).Canon := h.filterRegs

theorem State.Canon.wrBytes : ∀ {s : State} {a : Nat} {bs : List Byte}, s.Canon → (s.wrBytes a bs).Canon
  | _, _, [], h => h
  | _, _, _ :: _, h => h.wrB.wrBytes

theorem State.Canon.wr (h : s.Canon) {a n v} : (s.wr a n v).Canon := h.wrBytes

theorem State.Canon.free (h : s.Canon) {w} : CanonOut (s.free w) := h.of_eq.pair

theorem State.Canon.ans (h : s.Canon) {code} : (s.ans code).Canon := h.of_eq

theorem State.Canon.reply (h : s.Canon) {code v} : (s.reply code v).Canon := h.of_eq

theorem State.Canon.send (h : s.Canon) {t} : (s.send t).Canon := h.of_eq

theorem State.Canon.sendQ (h : s.Canon) {w} : (s.sendQ w).Canon := h.of_eq

theorem State.Canon.notice (h : s.Canon) {src dest tag data status} : (s.notice src dest tag data status).Canon :=
  h.send

theorem State.Canon.refuse (h : s.Canon) {isl addr req write code} : (s.refuse isl addr req write code).Canon :=
  .inc (.ite h h.setF.setF.setF.setF.setF)

theorem State.Canon.touch (h : s.Canon) {isl} : (s.touch isl).Canon := .ite h.of_eq.setF h

theorem State.Canon.cellEvent (h : s.Canon) {r} : (s.cellEvent r).Canon := h.of_eq

theorem State.Canon.stageRec (h : s.Canon) {r} : (s.stageRec r).Canon :=
  .ite h (.ite h.cellEvent (.ite h.of_eq (.ite h.of_eq h.of_eq.inc)))

theorem State.Canon.stageAs (h : s.Canon) {typ status args} : (s.stageAs typ status args).Canon := h.stageRec

theorem State.Canon.stage (h : s.Canon) {typ args} : (s.stage typ args).Canon := h.free.snd.stageAs

theorem State.Canon.bxlSendWith (h : s.Canon) {dst kind prio body stamp report act} :
    (s.bxlSendWith dst kind prio body stamp report act).Canon :=
  h.of_eq

theorem State.Canon.bxlSend (h : s.Canon) {dst kind prio body} : (s.bxlSend dst kind prio body).Canon := h.bxlSendWith

theorem State.Canon.bxlAck (h : s.Canon) {dst num status} : (s.bxlAck dst num status).Canon := h.of_eq

/-! ### Journal -/

theorem State.Canon.copyAB (h : s.Canon) {a b bs} : (s.copyAB a b bs).Canon := by
  unfold State.copyAB
  extract_lets s₁
  have h₁ : s₁.Canon := .ite h h.wrBytes
  exact .ite h₁ h₁.wrBytes

theorem State.Canon.jWrite (h : s.Canon) {off bs} : (s.jWrite off bs).Canon := h.copyAB

theorem State.Canon.append (h : s.Canon) {r} : (s.append r).Canon := .of_eq (.jWrite (.ite h h.jWrite))

theorem State.Canon.tailAdvance (h : s.Canon) : s.tailAdvance.Canon := .ite h h.jWrite.of_eq

theorem State.Canon.mirrorWrite (h : s.Canon) {off bs} : (s.mirrorWrite off bs).Canon := .ite h h.wrBytes

theorem State.Canon.mapRecs (h : s.Canon) {f} : (s.mapRecs f).Canon := h.of_eq

theorem State.Canon.recWrite (h : s.Canon) {r o bs} : (s.recWrite r o bs).Canon := .ite h.mirrorWrite h.jWrite

theorem State.Canon.mirrorRetain (h : s.Canon) {off b} : (s.mirrorRetain off b).Canon := h.mirrorWrite

theorem State.Canon.guestTail (h : s.Canon) : s.guestTail.Canon := .ite h h.mirrorRetain.of_eq

theorem State.Canon.guestPut (h : s.Canon) {r} : (s.guestPut r).Canon := h.mirrorWrite.of_eq

theorem State.Canon.guestAppend (h : s.Canon) {r} : (s.guestAppend r).Canon := .ite h.guestPut h.guestPut.guestPut

theorem State.Canon.retireItem (h : s.Canon) {flow seq} : (s.retireItem flow seq).Canon := h.mapRecs

theorem State.Canon.mirrorRec (h : s.Canon) {r} : (s.mirrorRec r).Canon := .ite h.bxlSend h

theorem State.Canon.writeRec (h : s.Canon) {r} : (s.writeRec r).Canon :=
  .ite h.guestAppend.guestTail (h.append.foldl fun h₁ => h₁.mirrorRec)

theorem State.Canon.mirrorStart (h : s.Canon) {flow act} : CanonOut (s.mirrorStart flow act) := by
  unfold State.mirrorStart
  refine .ite h.tailAdvance.pair ?_
  refine .ite h.of_eq.pair ?_
  split
  · exact h.bxlSendWith.tailAdvance.pair
  · exact h.pair

theorem State.Canon.canGiveUp (h : s.Canon) {it} : (s.canGiveUp it).Canon := .ite h (.ite h.of_eq h.setF)

theorem State.Canon.serveRec (h : s.Canon) {kind flow seq outs time} : (s.serveRec kind flow seq outs time).Canon := by
  unfold State.serveRec
  split
  · exact h
  · exact h.retireItem.writeRec.canGiveUp

theorem State.Canon.offer (h : s.Canon) {w} : CanonOut (s.offer w) :=
  .ite h.pair (.ite h.pair (.ite h.pair h.of_eq.pair))

theorem State.Canon.retain (h : s.Canon) {off b} : (s.retain off b).Canon := h.jWrite

theorem State.Canon.retention (h : s.Canon) {flow x₁} : (s.retention flow x₁).Canon := by
  unfold State.retention
  split
  · exact h.retain
  · exact h.retain
  · exact h.retain
  · exact h
  · exact h

theorem State.Canon.setFlow (h : s.Canon) {i x} : (s.setFlow i x).Canon := h.of_eq

theorem State.Canon.itemValid (h : s.Canon) {w} : (s.itemValid w).Canon := h.writeRec.setFlow.retention

theorem State.Canon.confirm (h : s.Canon) {flow seq index} : (s.confirm flow seq index).Canon := by
  unfold State.confirm
  split
  · exact h
  · exact .guestTail (.tailAdvance (.mapRecs (.ite h h.recWrite)))

/-! ### EngBase -/

theorem State.Canon.setEng (h : s.Canon) {e x} : (s.setEng e x).Canon := h.of_eq

theorem State.Canon.setCtx (h : s.Canon) {e c x} : (s.setCtx e c x).Canon := h.setEng

theorem State.Canon.order (h : s.Canon) : CanonOut s.order := h.of_eq.pair

theorem State.Canon.engTouch (h : s.Canon) {e} : (s.engTouch e).Canon := .ite (.ite (.ite h h.of_eq.setF) h.setF) h

theorem State.Canon.pickNext (h : s.Canon) {e} : (s.pickNext e).Canon := by
  unfold State.pickNext
  refine .ite h ?_
  split
  · exact h.setCtx.engTouch
  · exact h.engTouch

theorem State.Canon.preempt (h : s.Canon) {e} : (s.preempt e).Canon := by
  unfold State.preempt
  split
  · exact .ite h.order.snd.setCtx.setCtx.inc h
  · exact h.pickNext

theorem State.Canon.makeRunnable (h : s.Canon) {e c} : (s.makeRunnable e c).Canon :=
  h.order.snd.setCtx.preempt.engTouch

theorem State.Canon.freeCtx (h : s.Canon) {e c} : (s.freeCtx e c).Canon := h.setCtx.pickNext

/-! ### RegAccess -/

theorem State.Canon.writeField (h : s.Canon) {locked base value d} : (s.writeField locked base value d).Canon := by
  unfold State.writeField
  split
  · exact h.setF
  · exact .ite h h.setF
  · exact h.setF
  · exact h.setF
  · exact h
  · exact h

theorem State.Canon.regRefuse (h : s.Canon) {isl addr req code} : CanonOut (s.regRefuse isl addr req code) :=
  h.refuse.pair

theorem State.Canon.regW (h : s.Canon) {isl req addr value} : CanonOut (s.regW isl req addr value) := by
  unfold State.regW
  split
  · exact h.pair
  · refine .ite h.regRefuse ?_
    extract_lets _ _ s₃
    have h₃ : s₃.Canon := h.foldl fun h₄ => h₄.writeField
    exact .ite h₃.regRefuse h₃.pair

theorem State.Canon.lockWrite (h : s.Canon) {req isl value} : CanonOut (s.lockWrite req isl value) := by
  unfold State.lockWrite
  refine .ite h.regRefuse ?_
  extract_lets s₁
  have h₁ : s₁.Canon := .ite h.setF h
  exact State.Canon.pair (.ite h₁.setF h₁)

theorem State.Canon.refuseInfoWrite (h : s.Canon) {isl value} : CanonOut (s.refuseInfoWrite isl value) :=
  State.Canon.pair (.ite h.setF.setF h)

theorem State.Canon.dropLow (h : s.Canon) {req} : (s.dropLow req).Canon := h.of_eq

theorem State.Canon.holdLowHalf (h : s.Canon) {req base v} : (s.holdLowHalf req base v).Canon := h.of_eq

theorem State.Canon.sizedWrite {full : State → Nat → Nat → Nat × State} (h : s.Canon)
    (hfull : ∀ {t b c}, t.Canon → CanonOut (full t b c)) {isl req addr size value} : CanonOut
    (s.sizedWrite isl req addr size value full) := by
  unfold State.sizedWrite
  refine .ite h.regRefuse ?_
  split
  · exact h.pair
  · refine .ite (.ite (hfull h) h.regRefuse) ?_
    refine .ite (hfull h) ?_
    refine .ite h.holdLowHalf.pair ?_
    split
    · exact hfull h.dropLow
    · exact h.regRefuse

theorem State.Canon.sizedRead {take : State → Nat → State} (h : s.Canon) (htake : ∀ {t b}, t.Canon → (take t b).Canon)
    {isl req addr size live} : CanonOut₂ (s.sizedRead isl req addr size live take) := by
  unfold State.sizedRead
  refine .ite h.refuse.pair.pair ?_
  refine .ite ?_ ?_
  · split <;> exact h.pair.pair
  · split
    · exact h.of_eq.pair.pair
    · extract_lets d₁ s₂
      have h₂ : s₂.Canon := h.of_eq
      refine .ite (.ite (CanonOut.pair (State.Canon.pair (htake h₂))) h.refuse.pair.pair) ?_
      refine .ite (CanonOut.pair (State.Canon.pair (htake h₂))) ?_
      refine .ite (CanonOut.pair (State.Canon.pair (htake h₂.of_eq))) ?_
      clear_value d₁
      split <;> exact h₂.pair.pair

/-! ### Queues -/

theorem State.Canon.setQ (h : s.Canon) {n x} : (s.setQ n x).Canon := h.of_eq

theorem State.Canon.qMark (h : s.Canon) {n} : (s.qMark n).Canon := .ite h.setF h

theorem State.Canon.qNotice (h : s.Canon) {n kind} : (s.qNotice n kind).Canon := h.notice

theorem State.Canon.giveWord (h : s.Canon) {n w x} : (s.giveWord n w x).Canon := h.setQ.setCtx.qMark.makeRunnable

theorem State.Canon.putWord (h : s.Canon) {n x} : (s.putWord n x).Canon := .ite h.setQ.qMark.qNotice h.setQ.qMark

theorem State.Canon.wordArrives (h : s.Canon) {n prio data} : CanonOut (s.wordArrives n prio data) := by
  unfold State.wordArrives
  refine .ite h.pair ?_
  refine .ite h.pair ?_
  extract_lets _ _ s₃
  have h₃ : s₃.Canon := h.setQ
  split
  · exact h₃.giveWord.pair
  · refine .ite h₃.putWord.pair ?_
    refine .ite ?_ h.inc.pair
    split
    · exact .ite h₃.setQ.inc.pair h.inc.pair
    · exact h.inc.pair

theorem State.Canon.returnWord (hs : s.Canon) {n h} : (s.returnWord n h).Canon := by
  unfold State.returnWord
  extract_lets _ s₂
  have h₂ : s₂.Canon := hs.setQ
  split
  · exact h₂.giveWord
  · exact h₂.putWord

theorem State.Canon.returnHeld (h : s.Canon) {e c} : (s.returnHeld e c).Canon :=
  h.foldl fun h₁ => h₁.foldl fun h₂ => h₂.returnWord

theorem State.Canon.dropHeld (h : s.Canon) {e c} : (s.dropHeld e c).Canon := h.foldl fun h₁ => h₁.setQ

theorem State.Canon.unwait (h : s.Canon) {e c} : (s.unwait e c).Canon := h.foldl fun h₁ => h₁.setQ

theorem State.Canon.queCfgWrite (h : s.Canon) {req n value} : CanonOut (s.queCfgWrite req n value) :=
  .ite h.regRefuse (.ite h.regRefuse (.ite h.regRefuse (.ite h.regRefuse h.regW.snd.setF.setF.pair)))

theorem State.Canon.queReaderWrite (h : s.Canon) {req n value} : CanonOut (s.queReaderWrite req n value) :=
  .ite h.regRefuse h.regW

theorem State.Canon.quePush (h : s.Canon) {req n value} : CanonOut (s.quePush req n value) :=
  .ite h.wordArrives h.wordArrives.snd.refuse.pair

theorem State.Canon.staleFire (h : s.Canon) {n} : (s.staleFire n).Canon := h.qNotice.inc.setQ

theorem State.Canon.queStaleWrite (h : s.Canon) {req n value} : CanonOut (s.queStaleWrite req n value) :=
  .ite h.regRefuse (.ite (.ite h.regW.snd.setQ.pair (.ite h.regW.snd.staleFire.pair h.regW.snd.pair)) h.regW.snd.pair)

theorem CanonOut.done {r : Nat × State} (h : CanonOut r) : NextCanon (done r) := h.snd.ans.next

theorem State.Canon.regRow {f : State → Nat × State} (h : s.Canon) (hf : ∀ {t}, t.Canon → CanonOut (f t))
    {isl req addr size value} : NextCanon (s.regRow isl req addr size value f) := by
  unfold State.regRow
  refine .ite h.regRefuse.done ?_
  refine .ite h.regRefuse.done ?_
  refine .ite h.of_eq.next ?_
  extract_lets r₁
  have h₁ : CanonOut r₁ := hf h
  exact CanonOut.done (State.Canon.pair (.ite h₁.snd h₁.snd.touch))

theorem State.Canon.qwordServe (h : s.Canon) {w} : CanonOut (s.qwordServe w) :=
  .ite h.wordArrives (.ite h.wordArrives.snd.inc.pair (.ite h.wordArrives.snd.inc.pair h.wordArrives))

theorem State.Canon.execQueuePush (h : s.Canon) {req n value} : NextCanon (execQueuePush req n value s) :=
  h.regRow (fun h₁ => h₁.quePush)

theorem State.Canon.execQueueConfig (h : s.Canon) {req n value} : NextCanon (execQueueConfig req n value s) :=
  h.regRow (fun h₁ => h₁.queCfgWrite)

theorem State.Canon.execStaleConfig (h : s.Canon) {req n value} : NextCanon (execStaleConfig req n value s) :=
  h.regRow (fun h₁ => h₁.queStaleWrite)

theorem State.Canon.execStaleTail (h : s.Canon) {n} : NextCanon (execStaleTail n s) :=
  State.Canon.next (.ite h.staleFire h)

/-! ### Dugout -/

theorem State.Canon.setInst (h : s.Canon) {i d} : (s.setInst i d).Canon := h.of_eq

theorem State.Canon.setTempl (h : s.Canon) {i d} : (s.setTempl i d).Canon := h.of_eq

theorem State.Canon.nextState (h : s.Canon) {i d} : (s.nextState i d).Canon := .ite h.order.snd.setInst h.setInst

theorem State.Canon.freeInst (h : s.Canon) {i} : (s.freeInst i).Canon := h.of_eq

theorem State.Canon.endInst (h : s.Canon) {i} : (s.endInst i).Canon := .ite h.freeInst (.ite h.nextState h.setInst)

theorem State.Canon.completion (h : s.Canon) {i seq status} : (s.completion i seq status).Canon := .ite h.notice h

theorem State.Canon.judge (h : s.Canon) {i d} : (s.judge i d).Canon := .ite h.nextState h.setInst

theorem State.Canon.operandTake (h : s.Canon) {t} : (s.operandTake t).Canon :=
  .ite (.ite h.inc h.judge) (.ite h.setInst.inc h.judge)

theorem State.Canon.spillPut (h : s.Canon) {t} : (s.spillPut t).Canon := h.wrBytes.of_eq.inc

theorem State.Canon.operandServe (h : s.Canon) {t} : CanonOut (s.operandServe t) :=
  .ite h.inc.pair (.ite (.ite h.inc.pair h.spillPut.pair) h.operandTake.pair)

theorem State.Canon.spillReturn (h : s.Canon) : s.spillReturn.Canon := by
  unfold State.spillReturn
  split
  · exact h
  · exact .ite h.of_eq.operandTake h.of_eq.inc.ans

theorem State.Canon.spillReturnN : ∀ {s : State} {n : Nat}, s.Canon → (s.spillReturnN n).Canon
  | _, 0, h => h
  | _, _ + 1, h => h.spillReturn.spillReturnN

theorem State.Canon.spillLost (h : s.Canon) : s.spillLost.Canon := .ite h h.of_eq.stage

theorem State.Canon.dispatchTo (h : s.Canon) {i e} : (s.dispatchTo i e).Canon := by
  unfold State.dispatchTo
  extract_lets
  split
  · exact h
  · exact h.of_eq.inc.setCtx.makeRunnable

theorem State.Canon.discardSpawns (h : s.Canon) {outs} : (s.discardSpawns outs).Canon :=
  h.foldl fun h₁ => .ite (.ite h₁.of_eq h₁) h₁

theorem State.Canon.releaseSpawn (h : s.Canon) {i} : (s.releaseSpawn i).Canon := .ite h.nextState h

theorem State.Canon.discard (h : s.Canon) {e c} : (s.discard e c).Canon := h.discardSpawns.unwait.returnHeld.freeCtx

theorem State.Canon.finishCancel (h : s.Canon) {i flow seq} : (s.finishCancel i flow seq).Canon :=
  h.completion.setFlow.endInst

theorem State.Canon.endCancelled (h : s.Canon) {i} : (s.endCancelled i).Canon := by
  unfold State.endCancelled
  extract_lets
  split
  · exact h.completion.endInst
  · exact .ite h.serveRec.mirrorStart.snd.setInst h.serveRec.mirrorStart.snd.finishCancel

theorem State.Canon.cancelCtx (h : s.Canon) {e c} : (s.cancelCtx e c).Canon := h.discard.endCancelled

theorem State.Canon.cancelInst (h : s.Canon) {i gen} : CanonOut (s.cancelInst i gen) :=
  .ite h.pair (.ite h.pair (.ite (.ite h.setCtx.pair h.cancelCtx.pair) h.endCancelled.pair))

theorem State.Canon.rebind (h : s.Canon) {e c} : (s.rebind e c).Canon := h.discard.order.snd.setInst

theorem State.Canon.rebindEngine (h : s.Canon) {e} : (s.rebindEngine e).Canon :=
  h.foldl fun h₁ => .ite h₁ (.ite h₁.setCtx h₁.rebind)

theorem State.Canon.release (h : s.Canon) {src stamp task o} : (s.release src stamp task o).Canon :=
  .ite h.send (.ite h.sendQ h.releaseSpawn)

theorem State.Canon.releaseAll {src i gen : Nat} : ∀ {s : State} {k : Nat} {os : List Out}, s.Canon →
    (s.releaseAll src i gen k os).Canon
  | _, _, [], h => h
  | _, _, _ :: _, h => h.release.releaseAll

theorem State.Canon.releaseFrom {flow seq : Nat} : ∀ {s : State} {k : Nat} {os : List Out}, s.Canon →
    (s.releaseFrom flow seq k os).Canon
  | _, _, [], h => h
  | _, _, _ :: _, h => by unfold State.releaseFrom; exact .releaseFrom (.ite h.release.confirm h.release)

theorem State.Canon.endReleased (h : s.Canon) {i seq ends} : (s.endReleased i seq ends).Canon :=
  .ite (.ite h.completion.freeInst h.completion.setInst) h.completion.nextState

theorem State.Canon.refusalReport (h : s.Canon) {d data dest status} : (s.refusalReport d data dest status).Canon :=
  .ite h.stage.notice h.stage

theorem State.Canon.outputConfirmed (h : s.Canon) {flow seq index status} :
    (s.outputConfirmed flow seq index status).Canon := by
  unfold State.outputConfirmed
  split
  · exact h
  · exact .ite h.confirm h.confirm.refusalReport

theorem State.Canon.unbind (h : s.Canon) {i} : (s.unbind i).Canon := .ite h.setFlow h

theorem State.Canon.mirrorDesc (h : s.Canon) {i words} : (s.mirrorDesc i words).Canon := h.setF.bxlSendWith

theorem State.Canon.descPut (h : s.Canon) {i d} : (s.descPut i d).Canon :=
  .nextState (.of_eq (.ite h.unbind.setFlow h.unbind))

theorem State.Canon.descWrite (h : s.Canon) : CanonOut s.descWrite :=
  .ite h.pair (.ite h.setTempl.pair (.ite h.pair (.ite h.mirrorDesc.pair h.descPut.pair)))

theorem State.Canon.descRead (h : s.Canon) : CanonOut s.descRead := State.Canon.pair (h.foldl fun h₁ => h₁.setF)

theorem State.Canon.descDrop (h : s.Canon) {i} : (s.descDrop i).Canon := h.unbind.freeInst

theorem State.Canon.descDelete (h : s.Canon) : CanonOut s.descDelete :=
  .ite h.setTempl.pair (.ite h.pair (.ite h.pair (.ite h.mirrorDesc.pair h.descDrop.pair)))

theorem State.Canon.descCancel (h : s.Canon) : CanonOut s.descCancel := .ite h.pair h.cancelInst

theorem State.Canon.descRearm (h : s.Canon) : CanonOut s.descRearm := .ite h.pair (.ite h.pair h.nextState.pair)

theorem State.Canon.descCmd {run : State → Nat × State} (h : s.Canon) (hrun : ∀ {t}, t.Canon → CanonOut (run t))
    {req op} : CanonOut (s.descCmd req op run) := by
  unfold State.descCmd
  refine .ite h.regRefuse ?_
  refine .ite h.pair ?_
  refine .ite h.regRefuse ?_
  extract_lets r₁
  have h₁ : CanonOut r₁ := hrun h.setF
  exact State.Canon.pair (.ite h₁.snd h₁.snd.setF)

theorem State.Canon.descCmdWrite (h : s.Canon) {req value} : CanonOut (s.descCmdWrite req value) :=
  .ite h.regRefuse (h.descCmd (fun h₁ => .ite h₁.descWrite (.ite h₁.descRead (.ite h₁.descDelete (.ite h₁.descCancel
      (.ite h₁.descRearm h₁.pair))))))

theorem State.Canon.descSelWrite (h : s.Canon) {req value} : CanonOut (s.descSelWrite req value) :=
  .ite h.regRefuse h.regW

theorem State.Canon.spillCfgWrite (h : s.Canon) {req addr value} : CanonOut (s.spillCfgWrite req addr value) :=
  .ite h.regRefuse (.ite h.regRefuse h.regW)

theorem State.Canon.spawnReserve (h : s.Canon) {tpl} : CanonOut₂ (s.spawnReserve tpl) := by
  unfold State.spawnReserve
  extract_lets
  refine .ite h.pair.pair ?_
  split
  · exact h.pair.pair
  · exact h.of_eq.setInst.pair.pair

theorem State.Canon.deliverItem (h : s.Canon) {fl} : (s.deliverItem fl).Canon := by
  unfold State.deliverItem
  split
  · exact h
  · exact h.setFlow.judge

theorem State.Canon.intakeServe (h : s.Canon) {t} : CanonOut (s.intakeServe t) := .ite h.pair (.ite h.pair h.offer)

theorem State.Canon.execFlowItemDelivery (h : s.Canon) {flow} : NextCanon (execFlowItemDelivery flow s) :=
  State.Canon.next (.ite h h.deliverItem)

theorem State.Canon.execDispatch (h : s.Canon) : NextCanon (execDispatch s) := by
  unfold Machine.execDispatch
  refine State.Canon.next ?_
  split
  · exact h.dispatchTo
  · exact h

theorem State.Canon.descRow {f : State → Nat × State} (h : s.Canon) (hf : ∀ {t}, t.Canon → CanonOut (f t)) {req op} :
    NextCanon (s.descRow req op f) :=
  h.regRow (fun h₁ => h₁.descCmd (fun h₂ => hf h₂))

theorem State.Canon.execDescWrite (h : s.Canon) {req} : NextCanon (execDescWrite req s) :=
  h.descRow (fun h₁ => h₁.descWrite)

theorem State.Canon.execDescRead (h : s.Canon) {req} : NextCanon (execDescRead req s) :=
  h.descRow (fun h₁ => h₁.descRead)

theorem State.Canon.execDescDelete (h : s.Canon) {req} : NextCanon (execDescDelete req s) :=
  h.descRow (fun h₁ => h₁.descDelete)

theorem State.Canon.execDescCancel (h : s.Canon) {req} : NextCanon (execDescCancel req s) :=
  h.descRow (fun h₁ => h₁.descCancel)

theorem State.Canon.execDescRearm (h : s.Canon) {req} : NextCanon (execDescRearm req s) :=
  h.descRow (fun h₁ => h₁.descRearm)

theorem State.Canon.execSpillRefillBatch (h : s.Canon) : NextCanon (execSpillRefillBatch s) :=
  State.Canon.next (.ite h.spillReturnN h)

theorem State.Canon.execDugoutStall (h : s.Canon) : NextCanon (execDugoutStall s) :=
  State.Canon.next (.ite (.withDug (.inc (.stage (.ite h.notice h)))) h)

theorem State.Canon.execCommitConfirm (h : s.Canon) {e c} : NextCanon (execCommitConfirm e c s) :=
  State.Canon.next (.ite h.freeCtx h)

theorem State.Canon.finishCommit (h : s.Canon) {j} : (s.finishCommit j).Canon :=
  h.dropHeld.setFlow.releaseFrom.endReleased

theorem State.Canon.execCommitRecordValid (h : s.Canon) : NextCanon (execCommitRecordValid s) := by
  unfold Machine.execCommitRecordValid
  refine State.Canon.next ?_
  split
  · exact h
  · exact .ite h (.ite h.of_eq.serveRec.mirrorStart.snd h.of_eq.serveRec.mirrorStart.snd.finishCommit)

theorem State.Canon.execOutputConfirmed (h : s.Canon) {flow seq index status} : NextCanon
    (execOutputConfirmed flow seq index status s) :=
  h.outputConfirmed.next

/-! ### EngRegs -/

theorem State.Canon.dvfsApply (h : s.Canon) {e} : (s.dvfsApply e).Canon :=
  .ite h.setF.setEng (.ite h.setF.setF h.setF.setEng.setF)

theorem State.Canon.dvfsWrite (h : s.Canon) {req e value} : CanonOut (s.dvfsWrite req e value) :=
  .ite h.regW.snd.dvfsApply.pair h.regW

theorem State.Canon.dvfsDone (h : s.Canon) {e} : (s.dvfsDone e).Canon := by
  unfold State.dvfsDone
  refine .ite ?_ h
  extract_lets _ s₂
  have h₂ : s₂.Canon := h.setF.setF
  split
  · exact h₂.setEng.dvfsApply
  · exact h₂

theorem State.Canon.dvfsCap (h : s.Canon) {e cap} : (s.dvfsCap e cap).Canon := h.setEng.dvfsApply

theorem State.Canon.coreRegWrite (h : s.Canon) {req isl base value} : CanonOpt (s.coreRegWrite req isl base value) :=
  .ite (.ite (.some h.descCmdWrite) (.ite (.some h.descSelWrite) (.ite (.some h.spillCfgWrite) .none))) (.ite (.ite
      (.ite (.some h.queCfgWrite) (.ite (.some h.queReaderWrite) (.ite (.some h.queStaleWrite) (.ite (.some h.quePush)
      .none)))) .none) (.ite (.some h.dvfsWrite) .none))

theorem State.Canon.execDvfsRequest (h : s.Canon) {req e value} : NextCanon (execDvfsRequest req e value s) :=
  h.regRow (fun h₁ => h₁.dvfsWrite)

theorem State.Canon.execDvfsStepDone (h : s.Canon) {e} : NextCanon (execDvfsStepDone e s) := h.dvfsDone.next

/-! ### Arrive -/

theorem State.Canon.answerTo (h : s.Canon) {code src dest task} : (s.answerTo code src dest task).Canon := by
  unfold State.answerTo
  split
  · exact .ite h.ans h.refusalReport.ans
  · exact h.ans

theorem State.Canon.arrive {serve : State → Nat × State} (h : s.Canon) (hserve : ∀ {t}, t.Canon → CanonOut (serve t))
    {t} : (s.arrive t serve).Canon := by
  unfold State.arrive
  extract_lets _ s₂ _ r₄
  have h₂ : s₂.Canon := h.of_eq
  have h₄ : CanonOut r₄ := hserve h₂
  refine .ite h₂.answerTo ?_
  refine .ite h₂.answerTo ?_
  refine .ite h₂.of_eq ?_
  split
  · exact h₄.snd.touch.answerTo
  · exact .ite h₂.touch.ans (.ans (.touch (.ite h₄.snd.of_eq h₄.snd)))

theorem State.Canon.arriveWord (h : s.Canon) {w} : (s.arriveWord w).Canon := by
  unfold State.arriveWord
  extract_lets s₁ _ r₃
  have h₁ : s₁.Canon := h.of_eq
  have h₃ : CanonOut r₃ := h₁.qwordServe
  refine .ite h₁.of_eq ?_
  split
  · exact h₃.snd.answerTo
  · exact .ite h₁.ans (.ans (.ite h₃.snd.of_eq h₃.snd))

theorem State.Canon.execQueueWord (h : s.Canon) {q} : NextCanon (execQueueWord q s) := h.arriveWord.next

theorem State.Canon.execOperandToken (h : s.Canon) {t} : NextCanon (execOperandToken t s) :=
  State.Canon.next (h.arrive (fun h₁ => h₁.operandServe))

theorem State.Canon.execFlowIntake (h : s.Canon) {t} : NextCanon (execFlowIntake t s) :=
  State.Canon.next (h.arrive (fun h₁ => h₁.intakeServe))

/-! ### Access -/

theorem State.Canon.wakeFor (h : s.Canon) {isl} : (s.wakeFor isl).Canon := .ite h.inc.setF.of_eq h

theorem State.Canon.memRead (h : s.Canon) {req a n} : CanonOut₂ (s.memRead req a n) :=
  .ite h.pair.pair h.refuse.pair.pair

theorem State.Canon.memWrite (h : s.Canon) {req a bs} : CanonOut (s.memWrite req a bs) :=
  .ite h.wrBytes.pair h.refuse.pair

/-! ### BxlBase -/

theorem State.Canon.setPair (h : s.Canon) {p x} : (s.setPair p x).Canon := h.of_eq

theorem State.Canon.bxlAckIn (h : s.Canon) {dst num status} : (s.bxlAckIn dst num status).Canon :=
  .ite h.of_eq h.bxlAck

theorem State.Canon.bxlAckFor (h : s.Canon) {m status} : (s.bxlAckFor m status).Canon := h.of_eq

theorem State.Canon.bxlIn {serve : State → Option Nat × State} (h : s.Canon)
    (hserve : ∀ {t}, t.Canon → CanonOut (serve t)) {m} : (s.bxlIn m serve).Canon := by
  unfold State.bxlIn
  refine .ite h ?_
  refine .ite (.ite h.bxlAckFor h.of_eq) ?_
  extract_lets _ _ _ r₄
  have h₄ : CanonOut r₄ := hserve h.setPair
  refine .ite ?_ (.ite h.bxlAckIn.ans h)
  split
  · exact h₄.snd
  · exact .ans (.bxlAckIn (.ite h₄.snd.setPair h₄.snd))

theorem State.Canon.zonSend (h : s.Canon) {dst prio op status txn info more content} :
    (s.zonSend dst prio op status txn info more content).Canon :=
  h.foldl fun h₁ => h₁.bxlSend

/-! ### Smp -/

theorem State.Canon.setPort (h : s.Canon) {p x} : (s.setPort p x).Canon := h.of_eq

theorem State.Canon.portNotice (h : s.Canon) {p g kind} : (s.portNotice p g kind).Canon := h.notice

theorem State.Canon.streamCfg (h : s.Canon) {req p g value} : CanonOut (s.streamCfg req p g value) :=
  .ite h.regRefuse (.ite h.regRefuse (.ite h.regRefuse (State.Canon.regW (.ite h.setF.setPort h))))

theorem State.Canon.spiServe (h : s.Canon) {p w} : CanonOut (s.spiServe p w) :=
  .ite h.pair (.ite h.pair h.setPort.setF.pair)

theorem State.Canon.smpRegWrite (h : s.Canon) {req isl base value} : CanonOpt (s.smpRegWrite req isl base value) :=
  .ite (.ite (.some h.streamCfg) (.ite (.some (.ite h.regRefuse h.regW)) (.ite (.some (.ite h.spiServe h.regRefuse))
      .none))) .none

theorem State.Canon.smpToken (h : s.Canon) {t} : CanonOut (s.smpToken t) := .ite h.spiServe h.pair

theorem State.Canon.execStreamConfig (h : s.Canon) {req p g value} : NextCanon (execStreamConfig req p g value s) :=
  h.regRow (fun h₁ => .ite h₁.streamCfg h₁.pair)

theorem State.Canon.execBlankInput (h : s.Canon) {p level} : NextCanon (execBlankInput p level s) := h.setPort.next

theorem State.Canon.execSampleOverrun (h : s.Canon) {p g} : NextCanon (execSampleOverrun p g s) := h.setF.of_eq.next

theorem State.Canon.execSpiTransaction (h : s.Canon) {t} : NextCanon (execSpiTransaction t s) :=
  State.Canon.next (h.arrive (fun h₁ => h₁.smpToken))

theorem State.Canon.execSpiTransactionDone (h : s.Canon) {p miso} : NextCanon (execSpiTransactionDone p miso s) := by
  unfold Machine.execSpiTransactionDone
  refine State.Canon.next ?_
  split
  · exact h
  · exact .ite h.setPort.setF.inc.notice h.setPort.setF.inc

theorem State.Canon.streamMark (h : s.Canon) {m} : (s.streamMark m).Canon := by
  unfold State.streamMark
  extract_lets _ _ _ _ s₅ _ _ s₈ s₉ s₁₀
  have h₅ : s₅.Canon := .ite h.setF.portNotice h
  have h₈ : s₈.Canon := h₅.setF.setPort
  have h₉ : s₉.Canon := h₈.setF
  have h₁₀ : s₁₀.Canon := .ite h₉.addF h₉
  refine .ite h ?_
  split
  · exact h₁₀
  · exact .ite h₁₀.setF.setF.portNotice (.ite h₁₀.setF h₁₀)

/-! ### Gbb -/

theorem State.Canon.setCh (h : s.Canon) {c x} : (s.setCh c x).Canon := h.of_eq

theorem State.Canon.chEvent (h : s.Canon) {c k} : (s.chEvent c k).Canon := h.setCh

theorem State.Canon.chFlush (h : s.Canon) {c} : (s.chFlush c).Canon := h.setCh.setF.foldl fun h₁ => .ite h₁.notice h₁

theorem State.Canon.chNco (h : s.Canon) {c} : (s.chNco c).Canon := h.setF.setF

theorem State.Canon.slip (h : s.Canon) {c} : (s.slip c).Canon := h.setCh

theorem State.Canon.clusterOf (h : s.Canon) {c} : (s.clusterOf c).Canon := h.setF

theorem State.Canon.dropReacq (h : s.Canon) {c} : (s.dropReacq c).Canon := h.of_eq

theorem State.Canon.chEnter (h : s.Canon) {c st} : (s.chEnter c st).Canon := by
  unfold State.chEnter
  extract_lets _ _ s₃ _ s₅ s₆ s₇ s₈ s₉ _ _ s₁₂ s₁₃ s₁₄ _ s₁₆
  have h₃ : s₃.Canon := h.setF
  have h₅ : s₅.Canon := h₃.setCh
  have h₆ : s₆.Canon := .ite h₅ h₅.chEvent
  have h₇ : s₇.Canon := .ite h₆.setF.dropReacq h₆
  have h₈ : s₈.Canon := h₇.setF.setF.setF
  have h₉ : s₉.Canon := h₈.setF
  have h₁₂ : s₁₂.Canon := h₇.setCh
  have h₁₃ : s₁₃.Canon := .ite h₁₂.setF h₁₂
  have h₁₄ : s₁₄.Canon := .ite h₇ h₇.setF
  have h₁₆ : s₁₆.Canon := .ite h₉.setCh (.ite h₁₃.slip (.ite h₁₄.setCh (.ite (.ite h₇.setF h₇) (.ite h₇.slip h₇))))
  exact h₁₆.clusterOf

theorem State.Canon.placeReacq (h : s.Canon) {c} : (s.placeReacq c).Canon := .ite h.setCh h.setCh.setF.of_eq

theorem State.Canon.coastExit (h : s.Canon) {c} : (s.coastExit c).Canon := .ite h.setF.placeReacq h.chEnter

theorem State.Canon.vectorEnd (h : s.Canon) {c} : (s.vectorEnd c).Canon := h.setCh.chEnter

theorem State.Canon.startGo (h : s.Canon) {c} : (s.startGo c).Canon := by
  unfold State.startGo
  split
  · exact h
  · exact h.setCh.chEnter.chNco

theorem State.Canon.chOp (h : s.Canon) {c op} : CanonOut (s.chOp c op) := by
  unfold State.chOp
  extract_lets
  split
  · exact .ite h.chEnter.pair h.pair
  · exact h.chEnter.pair
  · exact .ite h.pair (.ite h.startGo.pair h.pair)
  · exact .ite h.pair h.chEnter.pair
  · exact .ite h.setCh.chEnter.pair h.pair
  · exact .ite h.vectorEnd.pair h.pair

theorem State.Canon.chOpDone (h : s.Canon) {c op} : (s.chOpDone c op).Canon := h.chOp.snd.setF.setF.setCh

theorem State.Canon.chCmdWrite (h : s.Canon) {req c op} : CanonOut (s.chCmdWrite req c op) := by
  unfold State.chCmdWrite
  refine .ite h.regRefuse ?_
  refine .ite h.regRefuse ?_
  extract_lets s₁ _ s₃
  have h₁ : s₁.Canon := h.setF
  have h₃ : s₃.Canon := .ite h₁.setCh h₁
  exact .ite h₃.chOpDone.chFlush.pair h₃.setF.setCh.pair

theorem State.Canon.chLoopWrite (h : s.Canon) {req c value} : CanonOut (s.chLoopWrite req c value) :=
  .ite h.regW (.ite h.regW h.regRefuse)

theorem State.Canon.gbbRegWrite (h : s.Canon) {req isl base value} : CanonOpt (s.gbbRegWrite req isl base value) :=
  .ite .none (.ite (.ite (.ite (.some h.regRefuse) .none) (.ite (.some h.chLoopWrite) (.ite (.some h.chCmdWrite)
      .none))) (.ite (.ite (.some h.regRefuse) .none) .none))

theorem State.Canon.execChannelEnable (h : s.Canon) {req c} : NextCanon (execChannelEnable req c s) :=
  h.regRow (fun h₁ => h₁.chCmdWrite)

theorem State.Canon.execChannelDisable (h : s.Canon) {req c} : NextCanon (execChannelDisable req c s) :=
  h.regRow (fun h₁ => h₁.chCmdWrite)

theorem State.Canon.execChannelStart (h : s.Canon) {req c} : NextCanon (execChannelStart req c s) :=
  h.regRow (fun h₁ => h₁.chCmdWrite)

theorem State.Canon.execChannelStop (h : s.Canon) {req c} : NextCanon (execChannelStop req c s) :=
  h.regRow (fun h₁ => h₁.chCmdWrite)

theorem State.Canon.execVectorOn (h : s.Canon) {req c} : NextCanon (execVectorOn req c s) :=
  h.regRow (fun h₁ => h₁.chCmdWrite)

theorem State.Canon.execVectorOff (h : s.Canon) {req c} : NextCanon (execVectorOff req c s) :=
  h.regRow (fun h₁ => h₁.chCmdWrite)

theorem State.Canon.execChannelLoopWrite (h : s.Canon) {req c value} : NextCanon (execChannelLoopWrite req c value s) :=
  h.regRow (fun h₁ => h₁.chLoopWrite)

theorem State.Canon.execPullinFail (h : s.Canon) {c} : NextCanon (execPullinFail c s) :=
  State.Canon.next (.ite h.chEnter.chEvent.chFlush h)

theorem State.Canon.execSyncFail (h : s.Canon) {c} : NextCanon (execSyncFail c s) :=
  State.Canon.next (.ite h.chEnter.chEvent.chFlush h)

theorem State.Canon.execCoastExpiry (h : s.Canon) {c} : NextCanon (execCoastExpiry c s) :=
  State.Canon.next (.ite h.coastExit.chFlush h)

theorem State.Canon.execFallback (h : s.Canon) {c} : NextCanon (execFallback c s) :=
  State.Canon.next (.ite h.vectorEnd.chEvent.inc.chFlush h)

/-! ### Gob -/

theorem State.Canon.setGob (h : s.Canon) {f} : (s.setGob f).Canon := h.of_eq

theorem State.Canon.softStatus (h : s.Canon) {code} : (s.softStatus code).Canon := h.setF.setF

theorem State.Canon.setSoft (h : s.Canon) {r} : (s.setSoft r).Canon := h.setGob.setF

theorem State.Canon.floatArm (h : s.Canon) {trig own ownTime capT capS capIn} :
    (s.floatArm trig own ownTime capT capS capIn).Canon := by
  unfold State.floatArm
  split
  · exact h.setGob
  · exact .ite (.ite h.setGob h.setGob.inc) (.ite h.setGob.inc h.setGob)

theorem State.Canon.gobCapture (h : s.Canon) {input rising ticks sub} : (s.gobCapture input rising ticks sub).Canon :=
  .ite h.floatArm h

theorem State.Canon.softRequest (h : s.Canon) {t register} : CanonOut (s.softRequest t register) :=
  .ite h.pair (.ite h.setSoft.floatArm.pair (.ite h.pair (.ite h.inc.pair h.setSoft.pair)))

theorem State.Canon.stackEdge (h : s.Canon) {e num} : (s.stackEdge e num).Canon := by
  unfold State.stackEdge
  extract_lets _ _ _ _ _ s₆ s₇ s₈
  have h₆ : s₆.Canon := .ite h.setGob h
  have h₇ : s₇.Canon := .ite (.setSoft (.ite h₆.setF h₆)) h₆
  have h₈ : s₈.Canon := by
    unfold s₈
    split
    · exact .ite h₇.setGob.inc h₇
    · exact h₇
  exact h₈.setGob

theorem State.Canon.stackSend (h : s.Canon) {e} : (s.stackSend e).Canon :=
  .stackEdge (h.setGob.foldl fun h₁ => h₁.bxlSend)

theorem State.Canon.stackPeriod (h : s.Canon) : s.stackPeriod.Canon := by
  unfold State.stackPeriod
  refine .ite ?_ h
  split
  · exact .ite h h.setGob.stackSend
  · exact h

theorem State.Canon.snapMessage (h : s.Canon) {e num} : CanonOut (s.snapMessage e num) :=
  .ite h.inc.stage.pair h.stackEdge.pair

theorem State.Canon.gobNotCaptain (h : s.Canon) : s.gobNotCaptain.Canon := h.setF

theorem State.Canon.periodArm (h : s.Canon) : s.periodArm.Canon := by
  unfold State.periodArm
  extract_lets _ _ _ _ s₅ s₆
  have h₅ : s₅.Canon := h.setGob
  have h₆ : s₆.Canon := by
    unfold s₆
    split
    · exact .ite (.setSoft (.ite h₅.setF h₅)) h₅
    · exact h₅
  exact h₆.stackPeriod

theorem State.Canon.periodWrite (h : s.Canon) {req addr value} : CanonOut (s.periodWrite req addr value) :=
  .ite (.ite h.regRefuse (.ite h.regW (.ite h.regW.snd.periodArm.pair (.ite h.regW.snd.setGob.pair
      h.regW.snd.stackPeriod.pair)))) (.ite h.regRefuse (.ite h.regRefuse h.regW))

theorem State.Canon.softWrite (h : s.Canon) {value} : CanonOut (s.softWrite value) :=
  .ite h.softRequest.snd.softStatus.pair h.pair

theorem State.Canon.softStackWrite (h : s.Canon) {req value} : CanonOut (s.softStackWrite req value) :=
  .ite h.regRefuse (.ite h.pair (.ite h.softStatus.pair (.ite h.softStatus.pair (.ite h.inc.softStatus.pair
      h.stackSend.setSoft.softStatus.pair))))

theorem State.Canon.holdWrite (h : s.Canon) {req value} : CanonOut (s.holdWrite req value) := .ite h.regRefuse h.regW

theorem State.Canon.gobRegWrite (h : s.Canon) {req isl base value} : CanonOpt (s.gobRegWrite req isl base value) :=
  .ite .none (.ite (.some h.periodWrite) (.ite (.some (.ite h.softStackWrite h.softWrite)) (.ite (.some h.holdWrite)
      (.ite (.some h.setGob.regW) .none))))

theorem State.Canon.gobStep (h : s.Canon) {old} : (s.gobStep old).Canon := by
  unfold State.gobStep
  split
  · exact .ite h.setGob h
  · exact h

theorem State.Canon.snapPeriodic (h : s.Canon) : s.snapPeriodic.Canon := by
  unfold State.snapPeriodic
  split
  · exact .ite h.setGob.stackPeriod h
  · exact h

theorem State.Canon.navEntry (h : s.Canon) {c u} : (s.navEntry c u).Canon := by
  unfold State.navEntry
  extract_lets _ _ s₃ _ s₅ s₆ s₇
  have h₃ : s₃.Canon := .ite h.setF.inc h
  have h₅ : s₅.Canon := h₃.wrBytes
  have h₆ : s₆.Canon := h₅.setF
  have h₇ : s₇.Canon := h₆.setGob
  exact .ite h₇.sendQ h₇

theorem State.Canon.navPolarity (h : s.Canon) {c inv} : (s.navPolarity c inv).Canon := by
  unfold State.navPolarity
  extract_lets
  split
  · exact h.setCh.setF
  · exact .ite h h.setCh.slip

theorem State.Canon.navUnit (h : s.Canon) {c g u} : (s.navUnit c g u).Canon := by
  unfold State.navUnit
  extract_lets s₁ _ _ _ s₅ s₆
  have h₁ : s₁.Canon := by
    unfold s₁
    split
    · exact .ite h h.navPolarity
    · exact h
  have h₅ : s₅.Canon := by
    unfold s₅
    split
    · exact .ite h₁.setCh h₁
    · exact h₁
  have h₆ : s₆.Canon := by
    unfold s₆
    split
    · exact .ite h₅.setGob h₅
    · exact h₅
  exact .ite h₆.navEntry h₆

theorem State.Canon.execSnapSoftRequest (h : s.Canon) {req value} : NextCanon (execSnapSoftRequest req value s) :=
  h.regRow (fun h₁ => h₁.softWrite)

theorem State.Canon.execSnapStackRequest (h : s.Canon) {req value} : NextCanon (execSnapStackRequest req value s) :=
  h.regRow (fun h₁ => h₁.softStackWrite)

theorem State.Canon.execSnapPeriodConfig (h : s.Canon) {req addr value} : NextCanon
    (execSnapPeriodConfig req addr value s) :=
  h.regRow (fun h₁ => h₁.periodWrite)

theorem State.Canon.execSnapPeriodic (h : s.Canon) : NextCanon (execSnapPeriodic s) := h.snapPeriodic.next

theorem State.Canon.execBankHold (h : s.Canon) {req value} : NextCanon (execBankHold req value s) :=
  h.regRow (fun h₁ => h₁.holdWrite)

theorem State.Canon.execNavUnitDecoded (h : s.Canon) {c u} : NextCanon (execNavUnitDecoded c u s) := by
  unfold Machine.execNavUnitDecoded
  refine State.Canon.next ?_
  refine .ite h ?_
  split
  · exact h.navUnit
  · exact h

theorem State.Canon.execBcastExpiry (h : s.Canon) {y} : NextCanon (execBcastExpiry y s) := by
  unfold Machine.execBcastExpiry
  refine State.Canon.next ?_
  split
  · exact .ite h.setGob h
  · exact h

/-! ### Tim -/

theorem State.Canon.setTim (h : s.Canon) {f} : (s.setTim f).Canon := h.of_eq

theorem State.Canon.timEvents (h : s.Canon) {m} : (s.timEvents m).Canon := h.setF.foldl fun h₁ => .ite h₁.notice h₁

theorem State.Canon.setPin (h : s.Canon) {p x} : (s.setPin p x).Canon := h.setTim

theorem State.Canon.pinRise (h : s.Canon) {p} : (s.pinRise p).Canon := .ite h.setF.inc.notice h.setF.inc

theorem State.Canon.pinFall (h : s.Canon) {p} : (s.pinFall p).Canon := h.setF

theorem State.Canon.pinQuality (h : s.Canon) : s.pinQuality.Canon :=
  h.foldl fun h₁ => .ite (.ite h₁.pinRise (.ite h₁.pinFall h₁)) h₁

theorem State.Canon.timState (h : s.Canon) {new ev} : (s.timState new ev).Canon := by
  unfold State.timState
  extract_lets _ s₂ s₃ s₄
  have h₂ : s₂.Canon := .ite h.setF h
  have h₃ : s₃.Canon := .ite h₂.setTim.setF h₂
  have h₄ : s₄.Canon := h₃.setTim
  exact h₄.timEvents.pinQuality

theorem State.Canon.timTick (h : s.Canon) : s.timTick.Canon := by
  unfold State.timTick
  exact h.setTim

theorem State.Canon.timLatch (h : s.Canon) : s.timLatch.Canon :=
  h.setF.setF.setF.foldl fun h₁ => h₁.setF.setF.setF.setF

theorem State.Canon.latchWrite (h : s.Canon) {req value} : CanonOut (s.latchWrite req value) :=
  .ite h.pair (.ite h.regRefuse h.timLatch.pair)

theorem State.Canon.offsetWrite (h : s.Canon) {req value} : CanonOut (s.offsetWrite req value) :=
  .ite h.regRefuse (.ite h.regRefuse (State.Canon.pair (.ite h.regW.snd.timState h.regW.snd)))

theorem State.Canon.leapWrite (h : s.Canon) {req base value} : CanonOut (s.leapWrite req base value) :=
  .ite h.regRefuse h.regW

theorem State.Canon.srcWrite (h : s.Canon) {req value} : CanonOut (s.srcWrite req value) := by
  unfold State.srcWrite
  extract_lets _ r₂
  have h₂ : CanonOut r₂ := .ite h.regRefuse h.regW
  exact .ite h₂.snd.timState.pair h₂

theorem State.Canon.slewWrite (h : s.Canon) {req value} : CanonOut (s.slewWrite req value) :=
  .ite h.regRefuse (.ite h.regW.snd.setTim.pair h.regW)

theorem State.Canon.adjApply (h : s.Canon) {value} : (s.adjApply value).Canon := by
  unfold State.adjApply
  extract_lets s₁ _ _ s₄ s₅
  have h₁ : s₁.Canon := .ite h.setF h
  have h₄ : s₄.Canon := .ite h₁ (.ite h₁.setTim h₁.setTim)
  have h₅ : s₅.Canon := h₄.setTim
  exact h₅.timState

theorem State.Canon.adjWrite (h : s.Canon) {req value} : CanonOut (s.adjWrite req value) :=
  .ite h.regRefuse (.ite h.regW (State.Canon.pair (.ite h.regW.snd.setF.adjApply h.regW.snd.setF)))

theorem State.Canon.pinEnable (h : s.Canon) {req p value} : CanonOut (s.pinEnable req p value) := by
  unfold State.pinEnable
  refine .ite h.regRefuse ?_
  refine .ite h.regRefuse ?_
  extract_lets _ _ s₃ r₄ s₅ _ _ _ s₉ s₁₀
  have h₃ : s₃.Canon := h.setF
  have h₄ : CanonOut r₄ := h₃.regW
  have h₅ : s₅.Canon := h₄.snd.setF
  have h₉ : s₉.Canon := h₅.setPin
  have h₁₀ : s₁₀.Canon := .ite h₉.setF h₉
  exact .ite h₃.regRefuse (.ite h₃.regW (State.Canon.pair (.ite h₁₀.pinRise h₁₀)))

theorem State.Canon.pinLead (h : s.Canon) {p t} : (s.pinLead p t).Canon := h.setPin.pinRise

theorem State.Canon.pinDisable (h : s.Canon) {req p value} : CanonOut (s.pinDisable req p value) := by
  unfold State.pinDisable
  refine .ite ?_ (.ite h.regRefuse (.ite h.regRefuse h.regW))
  extract_lets _ s₂
  have h₂ : s₂.Canon := h.setF
  refine .ite (State.Canon.pair (.ite h₂.pinFall h₂)) ?_
  refine .ite h₂.setPin.pair ?_
  split
  · exact .ite h₂.setPin.pinLead.pair h₂.setPin.pair
  · exact .ite h₂.setPin.pair h₂.setPin.pair
  · exact h₂.setPin.pair

theorem State.Canon.pinDrive (h : s.Canon) {p v} : (s.pinDrive p v).Canon := .ite h h.setPin

theorem State.Canon.pinFree (h : s.Canon) {p} : (s.pinFree p).Canon := h.setPin

theorem State.Canon.pinBoundLead (h : s.Canon) {p v} : (s.pinBoundLead p v).Canon := by
  unfold State.pinBoundLead
  split
  · exact .ite h.setPin.pinRise h
  · exact h

theorem State.Canon.timRegWrite (h : s.Canon) {req isl base value} : CanonOpt (s.timRegWrite req isl base value) :=
  .ite .none (.ite (.some h.srcWrite) (.ite (.some h.latchWrite) (.ite (.some h.adjWrite) (.ite (.some h.slewWrite)
      (.ite (.some h.offsetWrite) (.ite (.some h.leapWrite) (.ite (.ite (.some (.ite h.pinEnable h.pinDisable)) (.ite
      (.some h.regRefuse) .none)) .none)))))))

theorem State.Canon.stepBy (h : s.Canon) {part} : (s.stepBy part).Canon :=
  .timEvents (.gobStep (.ite h.setTim.stage h.setTim))

theorem State.Canon.stepPart (h : s.Canon) : s.stepPart.Canon := by
  unfold State.stepPart
  extract_lets _ d₂
  refine .ite h ?_
  refine .ite h.stepBy ?_
  clear_value d₂
  split
  · exact h.stepBy
  · exact .ite h.stepBy (.ite h.stepBy h)

theorem State.Canon.refLost (h : s.Canon) : s.refLost.Canon := .ite h h.setTim.timState

theorem State.Canon.refReturn (h : s.Canon) : s.refReturn.Canon := .ite h h.timState

theorem State.Canon.setCap (h : s.Canon) {n x} : (s.setCap n x).Canon := h.setTim.setF

theorem State.Canon.reflexOf (h : s.Canon) {n} : (s.reflexOf n).Canon :=
  h.foldl fun h₁ => .ite (.ite h₁.inc h₁.setPin) h₁

theorem State.Canon.capture (h : s.Canon) {n rising sub} : (s.capture n rising sub).Canon := by
  unfold State.capture
  extract_lets s₁ _ _ _ _ _ s₇ s₈ s₉ s₁₀
  have h₁ : s₁.Canon := h.setF
  have h₇ : s₇.Canon := h₁.setCap
  have h₈ : s₈.Canon := h₇.gobCapture
  have h₉ : s₉.Canon := h₈.reflexOf
  have h₁₀ : s₁₀.Canon := .ite h₉.notice h₉
  exact .ite h₁ (.ite h₁.inc (.ite h₁₀.setF h₁₀.setCap))

theorem State.Canon.timTake (h : s.Canon) {base} : (s.timTake base).Canon := .ite h.setCap h

theorem State.Canon.execTimeLatch (h : s.Canon) {req value} : NextCanon (execTimeLatch req value s) :=
  h.regRow (fun h₁ => h₁.latchWrite)

theorem State.Canon.execGpsOffsetWrite (h : s.Canon) {req value} : NextCanon (execGpsOffsetWrite req value s) :=
  h.regRow (fun h₁ => h₁.offsetWrite)

theorem State.Canon.execLeapSecond (h : s.Canon) : NextCanon (execLeapSecond s) :=
  State.Canon.next (.ite h.setF.setF.setTim.timEvents h)

theorem State.Canon.execSourceSelect (h : s.Canon) {req value} : NextCanon (execSourceSelect req value s) :=
  h.regRow (fun h₁ => h₁.srcWrite)

theorem State.Canon.execSlewMaxWrite (h : s.Canon) {req value} : NextCanon (execSlewMaxWrite req value s) := by
  unfold Machine.execSlewMaxWrite
  exact h.regRow (fun h₁ => h₁.slewWrite)

theorem State.Canon.execTimeCorrection (h : s.Canon) {req value} : NextCanon (execTimeCorrection req value s) :=
  h.regRow (fun h₁ => h₁.adjWrite)

theorem State.Canon.execStepPart (h : s.Canon) : NextCanon (execStepPart s) := h.stepPart.next

theorem State.Canon.execHoldover (h : s.Canon) : NextCanon (execHoldover s) := State.Canon.next (.ite h.timState h)

theorem State.Canon.execRefinLost (h : s.Canon) : NextCanon (execRefinLost s) := h.refLost.next

theorem State.Canon.execRefinReturn (h : s.Canon) : NextCanon (execRefinReturn s) := h.refReturn.next

theorem State.Canon.execCaptureInputEdge (h : s.Canon) {n rising sub} : NextCanon (execCaptureInputEdge n rising sub s)
    :=
  h.capture.next

theorem State.Canon.execPinEnable (h : s.Canon) {req p value} : NextCanon (execPinEnable req p value s) :=
  h.regRow (fun h₁ => h₁.pinEnable)

theorem State.Canon.execPinDisable (h : s.Canon) {req p value} : NextCanon (execPinDisable req p value s) :=
  h.regRow (fun h₁ => h₁.pinDisable)

theorem State.Canon.execPinLeadingEdge (h : s.Canon) {p} : NextCanon (execPinLeadingEdge p s) := by
  unfold Machine.execPinLeadingEdge
  extract_lets
  refine State.Canon.next ?_
  refine .ite h ?_
  split
  · exact h.pinBoundLead
  · split
    · exact .ite h.pinLead h
    · exact .ite h.setPin.pinRise h
    · exact h

theorem State.Canon.execPinTrailingEdge (h : s.Canon) {p} : NextCanon (execPinTrailingEdge p s) := by
  unfold Machine.execPinTrailingEdge
  extract_lets _ s₂
  have h₂ : s₂.Canon := h.setPin.pinFall
  refine State.Canon.next ?_
  refine .ite h ?_
  split
  · exact .ite (.ite h₂.setF h₂) h
  · exact .ite h.setPin.pinFall h
  · exact h

/-! ### Eth -/

theorem State.Canon.setEth (h : s.Canon) {p x} : (s.setEth p x).Canon := h.of_eq.setF.setF.setF.setF

theorem State.Canon.ethTransmit (h : s.Canon) {p t} : CanonOut (s.ethTransmit p t) :=
  .ite h.pair (.ite h.pair (.ite h.pair (.ite h.pair (.ite h.pair h.setEth.pair))))

theorem State.Canon.txStamp (h : s.Canon) {p id word} : (s.txStamp p id word).Canon :=
  .ite h.setF.inc (.ite h.setEth.notice h.setEth)

theorem State.Canon.frameSent (h : s.Canon) {p sub} : (s.frameSent p sub).Canon := by
  unfold State.frameSent
  extract_lets
  refine .ite h ?_
  split
  · exact h
  · extract_lets s₂ _ _ _ s₆ s₇ s₈
    have h₂ : s₂.Canon := h.setEth
    have h₆ : s₆.Canon := h₂.of_eq
    have h₇ : s₇.Canon := .ite h₆.txStamp h₆
    have h₈ : s₈.Canon := by
      unfold s₈
      split
      · exact h₇.confirm
      · exact h₇
    exact .ite h₈.notice h₈

theorem State.Canon.ethRing (h : s.Canon) {p f sub} : (s.ethRing p f sub).Canon := by
  unfold State.ethRing
  extract_lets _ _ _ _ s₅ _ _ _ _ s₁₀ s₁₁ s₁₂
  have h₅ : s₅.Canon := h.setEth
  have h₁₀ : s₁₀.Canon := h₅.memWrite.snd
  have h₁₁ : s₁₁.Canon := h₁₀.setF
  have h₁₂ : s₁₂.Canon := .ite h₁₁.notice h₁₁
  exact .ite h₅.inc (.ite h₁₂.sendQ h₁₂)

theorem State.Canon.frameIn (h : s.Canon) {p f fcsOk sub} {claim : State → Option State}
    (hclaim : ∀ {t}, claim s = some t → t.Canon) : (s.frameIn p f fcsOk sub claim).Canon := by
  unfold State.frameIn
  refine .ite h (.ite h.inc (.ite h.setEth.inc (.ite h ?_)))
  split
  · exact hclaim ‹_›
  · exact h.ethRing

theorem State.Canon.macWrite (h : s.Canon) {req p value} : CanonOut (s.macWrite req p value) :=
  .ite h.regRefuse (State.Canon.pair (.ite h.regW.snd h.regW.snd.setF))

theorem State.Canon.ethRegWrite (h : s.Canon) {req isl base value} : CanonOpt (s.ethRegWrite req isl base value) :=
  .ite .none (.ite (.ite (.some h.macWrite) (.ite (.some (.ite h.regRefuse (.ite h.regRefuse h.regW))) .none)) .none)

theorem State.Canon.ethTake (h : s.Canon) {base} : (s.ethTake base).Canon := .ite h.setEth h

theorem State.Canon.ethToken (h : s.Canon) {t} : CanonOut (s.ethToken t) :=
  .ite h.ethTransmit (.ite h.ethTransmit h.pair)

theorem State.Canon.ethClear (h : s.Canon) : s.ethClear.Canon := h.of_eq

theorem State.Canon.execEthTransmit (h : s.Canon) {t} : NextCanon (execEthTransmit t s) :=
  State.Canon.next (h.arrive (fun h₁ => h₁.ethToken))

theorem State.Canon.execEthFrameSent (h : s.Canon) {p sub} : NextCanon (execEthFrameSent p sub s) := h.frameSent.next

theorem State.Canon.execEthLinkChange (h : s.Canon) {p up speed partner} : NextCanon
    (execEthLinkChange p up speed partner s) :=
  h.setF.setF.setF.next

/-! ### Rad -/

theorem State.Canon.setRad (h : s.Canon) {f} : (s.setRad f).Canon := h.of_eq

theorem State.Canon.setRp (h : s.Canon) {n x} : (s.setRp n x).Canon := h.setRad

theorem State.Canon.setRa (h : s.Canon) {a x} : (s.setRa a x).Canon := h.setRad

theorem State.Canon.setRg (h : s.Canon) {g x} : (s.setRg g x).Canon := h.setRad

theorem State.Canon.radNotice (h : s.Canon) {n idx kind hi} : (s.radNotice n idx kind hi).Canon := .ite h.notice h

theorem State.Canon.raNotice (h : s.Canon) {a kind} : (s.raNotice a kind).Canon := h.radNotice

theorem State.Canon.radLow (h : s.Canon) {n b} : (s.radLow n b).Canon := .ite h.setRad (.ite h.radNotice.setRad h)

theorem State.Canon.setBuckets (h : s.Canon) {n b f} : (s.setBuckets n b f).Canon := h.setRad.setF.setF.radLow

theorem State.Canon.radSecond (h : s.Canon) : s.radSecond.Canon := .ite (h.setRad.foldl fun h₁ => h₁.setBuckets) h

theorem State.Canon.recRefuse (h : s.Canon) {code r} : (s.recRefuse code r).Canon := by
  unfold State.recRefuse
  split
  · exact h.outputConfirmed
  · exact h.refusalReport
  · exact h

theorem State.Canon.recConfirm (h : s.Canon) {r} : (s.recConfirm r).Canon := by
  unfold State.recConfirm
  split
  · exact h.confirm
  · exact h

theorem State.Canon.ctrlPayload (h : s.Canon) {n t x₁} : CanonOut (s.ctrlPayload n t x₁) := by
  unfold State.ctrlPayload
  split
  · exact h.pair
  · exact h.pair
  · exact h.pair
  · exact h.free.snd.pair

theorem State.Canon.radCompose (h : s.Canon) {n a t} : CanonOut (s.radCompose n a t) := by
  unfold State.radCompose
  extract_lets _ _ _ r₄
  have h₄ : CanonOut r₄ := h.free
  split
  · exact h.pair
  · refine .ite h.setRa.pair ?_
    split
    · exact h.ctrlPayload.snd.setRa.pair
    · exact h₄.snd.pair

/-! ### RadMac -/

theorem State.Canon.skipItem (h : s.Canon) {n} : (s.skipItem n).Canon := h.setRp

theorem State.Canon.skipBudget (h : s.Canon) {n b} : (s.skipBudget n b).Canon := h.skipItem.inc

theorem State.Canon.radOn (h : s.Canon) {n t w chan stop frame} : (s.radOn n t w chan stop frame).Canon :=
  h.setBuckets.setRp

theorem State.Canon.radListen (h : s.Canon) {n e chan join a} : (s.radListen n e chan join a).Canon := h.setRp

theorem State.Canon.groupFrame (h : s.Canon) {g} : CanonOut (s.groupFrame g) := by
  unfold State.groupFrame
  extract_lets
  split
  · exact h.pair
  · exact h.setRg.pair

theorem State.Canon.groupDone (h : s.Canon) {g} : (s.groupDone g).Canon := by
  unfold State.groupDone
  extract_lets
  split
  · exact .ite (h.setRg.foldl fun h₂ => h₂.recConfirm) h
  · exact h

theorem State.Canon.radPlan (h : s.Canon) {n t w} : (s.radPlan n t w).Canon := h.setRp

theorem State.Canon.groupNext (h : s.Canon) {n g copy t} : (s.groupNext n g copy t).Canon :=
  .ite h.radPlan h.groupDone

theorem State.Canon.stopNext (h : s.Canon) {n burst k t} : (s.stopNext n burst k t).Canon := .ite h.radPlan h

theorem State.Canon.acceptFail (h : s.Canon) {a} : (s.acceptFail a).Canon := .ite h.setF h

theorem State.Canon.radStart (h : s.Canon) {n p} : (s.radStart n p).Canon := by
  unfold State.radStart
  split
  · exact .ite h.skipBudget h.radOn.radListen
  · exact .ite h.skipBudget.acceptFail h.free.snd.radOn
  · exact .ite h.radCompose.snd.skipBudget h.radCompose.snd.setRa.radOn.radListen
  · exact .ite h.groupFrame.snd.skipBudget.groupNext h.groupFrame.snd.radOn
  · exact .ite h.inc.stage.radNotice.stopNext h.radOn

theorem State.Canon.acceptSent (h : s.Canon) {n a t} : (s.acceptSent n a t).Canon := h.setRa.setRp.setF.setF

theorem State.Canon.radFinish (h : s.Canon) {n t} : (s.radFinish n t).Canon := by
  unfold State.radFinish
  extract_lets _ _ s₃ s₄
  have h₃ : s₃.Canon := h.setRp
  have h₄ : s₄.Canon := h₃.setRad
  split
  · exact h₄
  · exact h₄.acceptSent
  · exact h₄.setRa
  · exact h₄.setRg.groupNext
  · exact h₄.stopNext

theorem State.Canon.radForget (h : s.Canon) {a} : (s.radForget a).Canon := h.setRp

theorem State.Canon.radLost (h : s.Canon) {a} : (s.radLost a).Canon := h.radForget.setRa.setF.raNotice.stage

theorem State.Canon.radOff (h : s.Canon) {a} : (s.radOff a).Canon :=
  h.radForget.setRa.setF.foldl fun h₁ => h₁.recRefuse

theorem State.Canon.radClosed (h : s.Canon) {a} : (s.radClosed a).Canon := h.radOff.raNotice

theorem State.Canon.radSfd (h : s.Canon) {n f rssi} : (s.radSfd n f rssi).Canon := by
  unfold State.radSfd
  extract_lets _ _ s₃
  have h₃ : s₃.Canon := h.setRp
  refine .ite h ?_
  split
  · exact h₃
  · exact .ite h₃ (.ite h.setRp.setRa h.setRp)

theorem State.Canon.radAcked (h : s.Canon) {a f} : (s.radAcked a f).Canon := by
  unfold State.radAcked
  extract_lets _ _ s₃
  have h₃ : s₃.Canon := h.setRa
  split
  · exact h
  · refine .ite h ?_
    refine .ite h ?_
    refine .ite ?_ (h₃.foldl fun h₄ => h₄.recRefuse)
    extract_lets s₄
    have h₄ : s₄.Canon := h₃.foldl fun h₅ => h₅.recConfirm
    exact .ite h₄.radClosed h₄

theorem State.Canon.radAck (h : s.Canon) {a seq status} : (s.radAck a seq status).Canon := .ite h.setRa.setF h.setRa

theorem State.Canon.radData (h : s.Canon) {n a f} : (s.radData n a f).Canon :=
  .ite h.setRp.setRa (.ite h.setRa (.ite h.setRa (.ite h.setRa (.ite h.offer.snd.setRa h.offer.snd.setRa))))

theorem State.Canon.radMore (h : s.Canon) {n a e f} : (s.radMore n a e f).Canon := .ite h.radPlan h

theorem State.Canon.robotFrame (h : s.Canon) {n r} : (s.robotFrame n r).Canon := by
  unfold State.robotFrame
  extract_lets _ _ s₃ _ s₅ s₆ s₇ s₈
  have h₃ : s₃.Canon := h.setRp
  have h₅ : s₅.Canon := h₃.setRa
  have h₆ : s₆.Canon := .ite h₅.setF.raNotice h₅
  have h₇ : s₇.Canon := h₆.radAcked
  have h₈ : s₈.Canon := .ite h₇.radData h₇
  exact h₈.radMore

theorem State.Canon.joinReq (h : s.Canon) {n r} : (s.joinReq n r).Canon := by
  unfold State.joinReq
  extract_lets
  split
  · exact h.setF.radNotice
  · exact .radPlan (.setRa (.setF (.ite h.radLost h)))

theorem State.Canon.radReceived (h : s.Canon) {n r} : (s.radReceived n r).Canon :=
  .ite h.setRp.robotFrame (.ite h.setRp.joinReq h.setRp.setRp)

theorem State.Canon.radOnce (h : s.Canon) {n} : (s.radOnce n).Canon := by
  unfold State.radOnce
  extract_lets
  split
  · exact .ite h.radFinish h
  · exact .ite h.radReceived h
  · exact .ite h.setRp.radStart h
  · split
    · exact .ite h.setRp h
    · exact h

theorem State.Canon.radRun {n : Nat} : ∀ {s : State} {k : Nat}, s.Canon → (s.radRun n k).Canon
  | _, 0, h => h
  | _, _ + 1, h => h.radOnce.radRun

theorem State.Canon.radTick (h : s.Canon) : s.radTick.Canon := h.foldl fun h₁ => h₁.radRun

theorem State.Canon.radInstant (h : s.Canon) {a} : (s.radInstant a).Canon := by
  unfold State.radInstant
  extract_lets _ s₂
  have h₂ : s₂.Canon := h.setRa
  split
  · exact .ite (.raNotice (.ite h₂.setF.setF.setF h₂.setF.setF.setF.setF)) h
  · exact h

theorem State.Canon.connectionEvent (h : s.Canon) {a} : (s.connectionEvent a).Canon :=
  .ite h (.ite h.radInstant.setRa.setF.radStart h.radInstant.setRa.setF.skipItem)

theorem State.Canon.groupEvent (h : s.Canon) {g} : (s.groupEvent g).Canon :=
  .ite h (.ite h.setRg.setF (.ite h.setRg.setF.radStart h.setRg.setF.skipItem))

theorem State.Canon.beaconEvent (h : s.Canon) {n} : (s.beaconEvent n).Canon :=
  .ite h (.ite h.setRp.radStart h.setRp.skipItem)

theorem State.Canon.radAbort (h : s.Canon) {n} : (s.radAbort n).Canon := by
  unfold State.radAbort
  extract_lets _ s₂ s₃ s₄
  have h₂ : s₂.Canon := by
    unfold s₂
    split
    · exact h.setBuckets.setRp
    · exact h
  have h₃ : s₃.Canon := by
    unfold s₃
    split
    · exact .ite h₂.setRa h₂
    · exact h₂
  have h₄ : s₄.Canon := by
    unfold s₄
    refine h₃.foldl fun h₆ => ?_
    split
    · exact h₆.acceptFail
    · exact h₆
  exact h₄.setRp

theorem State.Canon.radStop (h : s.Canon) : s.radStop.Canon := h.setRad.foldl fun h₁ => .ite h₁.radAbort.setRp h₁

theorem State.Canon.radUnstop (h : s.Canon) : s.radUnstop.Canon := h.setRad.foldl fun h₁ => h₁.setRp

theorem State.Canon.stopBurst (h : s.Canon) {n} : (s.stopBurst n).Canon := .ite h h.radAbort.setRp.radStart

/-! ### RadCmd -/

theorem State.Canon.radArm (h : s.Canon) {a fresh} : CanonOut (s.radArm a fresh) := by
  unfold State.radArm
  refine .ite h.pair ?_
  extract_lets _ _ s₃
  have h₃ : s₃.Canon := by
    unfold s₃
    split
    · exact h.setRa.setF
    · exact h.setF
  exact .ite h.pair h₃.setF.pair

theorem State.Canon.radUpdate (h : s.Canon) {a isMap} : CanonOut (s.radUpdate a isMap) :=
  .ite h.pair (.ite h.pair h.setRa.pair)

theorem State.Canon.radUpdateGroups (h : s.Canon) {a} : CanonOut (s.radUpdateGroups a) := .ite h.pair h.setRa.pair

theorem State.Canon.radRelease (h : s.Canon) {a} : CanonOut (s.radRelease a) :=
  .ite h.setRa.setF.pair (.ite h.radClosed.pair h.pair)

theorem State.Canon.radCmd (h : s.Canon) {req a op} : CanonOut (s.radCmd req a op) := by
  unfold State.radCmd
  refine .ite h.regRefuse ?_
  extract_lets s₁ r₂
  have h₁ : s₁.Canon := h.setF
  have h₂ : CanonOut r₂ := by
    unfold r₂
    split
    · exact h₁.radArm
    · exact h₁.radUpdate
    · exact h₁.radUpdate
    · exact h₁.radUpdateGroups
    · exact h₁.radRelease
    · exact h₁.radOff.pair
    · exact h₁.radArm
  exact h₂.snd.setF.pair

theorem State.Canon.portWrite (h : s.Canon) {req n value} : CanonOut (s.portWrite req n value) :=
  .ite h.regRefuse (.ite h.regRefuse (.ite h.regRefuse (.ite h.regRefuse (.ite h.regW (.ite h.regW.snd.setRp.pair
      (.ite h.regW.snd.setRp.pair h.regW))))))

theorem State.Canon.groupOn (h : s.Canon) {g} : (s.groupOn g).Canon := h.setRg.foldl fun h₁ => .ite h₁.setRa h₁

theorem State.Canon.groupWrite (h : s.Canon) {req g value} : CanonOut (s.groupWrite req g value) :=
  .ite h.regRefuse (.ite h.regRefuse (.ite h.regW.snd.groupOn.pair h.regW))

theorem State.Canon.radRegWrite (h : s.Canon) {req isl base value} : CanonOpt (s.radRegWrite req isl base value) :=
  .ite .none (.ite (.ite (.some h.regRefuse) .none) (.ite (.ite (.some h.portWrite) (.ite (.some h.regRefuse) .none))
      (.ite (.ite (.ite .none (.some h.regRefuse)) (.ite (.some h.radCmd) .none)) (.ite (.some h.groupWrite) .none))))

theorem State.Canon.radClear (h : s.Canon) : s.radClear.Canon := h.setRad

theorem State.Canon.recQueue (h : s.Canon) {t toGroup body} : CanonOut (s.recQueue t toGroup body) :=
  .ite (.ite h.pair (.ite h.pair h.setRad.setRg.pair)) (.ite h.pair (.ite h.pair h.setRad.setRa.pair))

theorem State.Canon.recToken (h : s.Canon) {t toGroup byRef} : CanonOut (s.recToken t toGroup byRef) :=
  .ite h.pair (.ite h.pair (.ite h.pair (.ite h.pair (.ite h.recQueue (.ite h.memRead.snd.snd.recQueue
      h.memRead.snd.snd.pair)))))

theorem State.Canon.radToken (h : s.Canon) {t} : CanonOut (s.radToken t) := by
  unfold State.radToken
  split
  · exact h.recToken
  · exact h.recToken
  · exact h.recToken
  · exact h.recToken
  · exact h.pair

theorem State.Canon.execRadioPortEnable (h : s.Canon) {req n value} : NextCanon (execRadioPortEnable req n value s) :=
  h.regRow (fun h₁ => h₁.portWrite)

theorem State.Canon.execRadioPortDisable (h : s.Canon) {req n value} : NextCanon (execRadioPortDisable req n value s) :=
  h.regRow (fun h₁ => h₁.portWrite)

theorem State.Canon.execArm (h : s.Canon) {req a} : NextCanon (execArm req a s) := h.regRow (fun h₁ => h₁.radCmd)

theorem State.Canon.execArmFresh (h : s.Canon) {req a} : NextCanon (execArmFresh req a s) :=
  h.regRow (fun h₁ => h₁.radCmd)

theorem State.Canon.execUpdateMap (h : s.Canon) {req a} : NextCanon (execUpdateMap req a s) :=
  h.regRow (fun h₁ => h₁.radCmd)

theorem State.Canon.execUpdateTiming (h : s.Canon) {req a} : NextCanon (execUpdateTiming req a s) :=
  h.regRow (fun h₁ => h₁.radCmd)

theorem State.Canon.execUpdateGroups (h : s.Canon) {req a} : NextCanon (execUpdateGroups req a s) :=
  h.regRow (fun h₁ => h₁.radCmd)

theorem State.Canon.execRelease (h : s.Canon) {req a} : NextCanon (execRelease req a s) :=
  h.regRow (fun h₁ => h₁.radCmd)

theorem State.Canon.execAssociationOff (h : s.Canon) {req a} : NextCanon (execAssociationOff req a s) :=
  h.regRow (fun h₁ => h₁.radCmd)

theorem State.Canon.execBeacon (h : s.Canon) {n} : NextCanon (execBeacon n s) := h.radSecond.radRun.beaconEvent.next

theorem State.Canon.execJoinReq (h : s.Canon) {n frame rssi} : NextCanon (execJoinReq n frame rssi s) :=
  h.radRun.radSfd.next

theorem State.Canon.execConnectionEvent (h : s.Canon) {a} : NextCanon (execConnectionEvent a s) :=
  h.radSecond.radRun.connectionEvent.next

theorem State.Canon.execRobotFrame (h : s.Canon) {n frame rssi} : NextCanon (execRobotFrame n frame rssi s) :=
  h.radRun.radSfd.next

theorem State.Canon.execSupervisionTimeout (h : s.Canon) {a} : NextCanon (execSupervisionTimeout a s) :=
  State.Canon.next (.ite (.ite h.radLost.setF h.radLost) h)

theorem State.Canon.execJoinFail (h : s.Canon) {a} : NextCanon (execJoinFail a s) :=
  State.Canon.next (.ite h.radForget.setRa.setF.raNotice h)

theorem State.Canon.execCloseTimeout (h : s.Canon) {a} : NextCanon (execCloseTimeout a s) :=
  State.Canon.next (.ite h.radClosed h)

theorem State.Canon.execUpdateInstant (h : s.Canon) {a} : NextCanon (execUpdateInstant a s) := h.radInstant.next

theorem State.Canon.execRadioRecordAssociation (h : s.Canon) {t} : NextCanon (execRadioRecordAssociation t s) :=
  State.Canon.next (h.arrive (fun h₁ => h₁.radToken))

theorem State.Canon.execRadioRecordGroup (h : s.Canon) {t} : NextCanon (execRadioRecordGroup t s) :=
  State.Canon.next (h.arrive (fun h₁ => h₁.radToken))

theorem State.Canon.execGroupEvent (h : s.Canon) {g} : NextCanon (execGroupEvent g s) :=
  h.radSecond.radRun.groupEvent.next

theorem State.Canon.execStopBurst (h : s.Canon) {n} : NextCanon (execStopBurst n s) :=
  h.radSecond.radRun.stopBurst.next

theorem State.Canon.execBudgetSecond (h : s.Canon) : NextCanon (execBudgetSecond s) := h.radSecond.next

/-! ### CanBase -/

theorem State.Canon.setCan (h : s.Canon) {n x} : (s.setCan n x).Canon := h.of_eq.setF.setF.setF.setF

theorem State.Canon.setCanObj (h : s.Canon) {o x} : (s.setCanObj o x).Canon := h.of_eq

theorem State.Canon.canNotice (h : s.Canon) {n kind st} : (s.canNotice n kind st).Canon := .ite h.notice h

theorem State.Canon.canTo (h : s.Canon) {n st} : (s.canTo n st).Canon := .ite h h.setF.canNotice

theorem State.Canon.canOutcome (h : s.Canon) {b} : (s.canOutcome b).Canon := by
  unfold State.canOutcome
  split
  · exact h.of_eq
  · exact h

theorem State.Canon.canDone (h : s.Canon) {n b status} : (s.canDone n b status).Canon := by
  unfold State.canDone
  extract_lets _ _ s₃ s₄
  have h₃ : s₃.Canon := h.setCan
  have h₄ : s₄.Canon := by
    unfold s₄
    split
    · exact h₃.canOutcome.outputConfirmed
    · exact h₃
  exact .ite h₄.notice h₄

theorem State.Canon.canSubmit (h : s.Canon) {n b} : CanonOut (s.canSubmit n b) := by
  unfold State.canSubmit
  extract_lets _ d₂ _ s₄ s₅
  have h₄ : s₄.Canon := h.setCan
  have h₅ : s₅.Canon := by
    unfold s₅
    clear_value d₂
    split
    · exact h₄.canOutcome.stage
    · exact h₄
  exact .ite h.pair (State.Canon.pair (.ite h₅.canDone h₅))

theorem State.Canon.canMachine (h : s.Canon) {n prio ide id data} : CanonOut (s.canMachine n prio ide id data) :=
  .ite h.pair (.ite h.pair (.ite h.pair h.canSubmit))

theorem State.Canon.canRequest (h : s.Canon) {n t} : CanonOut (s.canRequest n t) :=
  .ite h.pair (.ite h.pair (.ite h.pair h.canSubmit))

theorem State.Canon.canSelect (h : s.Canon) {n wait} : (s.canSelect n wait).Canon := by
  unfold State.canSelect
  extract_lets
  refine .ite h ?_
  split
  · exact h
  · extract_lets _ _ s₄
    have h₄ : s₄.Canon := h.setCan
    split
    · exact h₄.of_eq
    · exact h₄

theorem State.Canon.canClose (h : s.Canon) {n} : (s.canClose n).Canon :=
  .canTo (.setCan (h.foldl fun h₁ => h₁.canDone))

theorem State.Canon.canReturn (h : s.Canon) {n b} : (s.canReturn n b).Canon := h.canOutcome.setCan

theorem State.Canon.canClash (h : s.Canon) {n b} : (s.canClash n b).Canon :=
  h.setF.setF.setCan.canNotice.stage.canDone

theorem State.Canon.canEnd (h : s.Canon) {n e} : (s.canEnd n e).Canon := by
  unfold State.canEnd
  split
  · exact h
  · extract_lets _ _ s₃ _ s₅ s₆ _ s₈ s₉
    have h₃ : s₃.Canon := h.setCan
    have h₅ : s₅.Canon := h₃.of_eq
    have h₆ : s₆.Canon := h.setCan
    have h₈ : s₈.Canon := by
      unfold s₈
      split
      · exact h₅.canDone
      · exact .ite h₆.canDone h₆.canReturn
      · exact .ite h.canDone h.canReturn
      · exact .ite h.canClash h.canReturn
      · exact .ite h.canDone h.canReturn
    have h₉ : s₉.Canon := by
      unfold s₉
      split
      · exact .ite h₈.canTo h₈
      · exact h₈
    exact .ite h₉.canClose h₉

theorem State.Canon.canCancel (h : s.Canon) {n t} : CanonOut (s.canCancel n t) := by
  unfold State.canCancel
  extract_lets
  split
  · exact h.pair
  · split
    · exact .ite h.setCan.pair (State.Canon.pair (.ite h.canDone.canClose h.canDone))
    · exact h.canDone.pair

theorem State.Canon.canJudge (h : s.Canon) {n} : (s.canJudge n).Canon := by
  unfold State.canJudge
  extract_lets _ s₂ _ s₄ s₅ s₆
  have h₂ : s₂.Canon := by
    unfold s₂
    split
    · exact h.canReturn
    · exact h
  have h₄ : s₄.Canon := h₂.setCan
  have h₅ : s₅.Canon := h₄.canTo
  have h₆ : s₆.Canon := h₅.foldl fun h₇ => h₇.canDone
  exact .ite h (.ite (.ite h₆.canClose (.ite h₆.canTo h₆)) h.canTo)

theorem State.Canon.canError (h : s.Canon) {n e} : (s.canError n e).Canon := .ite h (.ite h.setCan h.setCan.canJudge)

theorem State.Canon.canRecDown (h : s.Canon) {n} : (s.canRecDown n).Canon :=
  .ite h (.ite h.setCan h.free.snd.setCan.canJudge)

theorem State.Canon.objStore (h : s.Canon) {o n f stamp} : (s.objStore o n f stamp).Canon :=
  h.incW.setCanObj.memWrite.snd

theorem State.Canon.rqTake (h : s.Canon) {q n bs} : (s.rqTake q n bs).Canon :=
  .ite h.setCan (.ite h.setCan.inc (.ite (.ite h.free.snd.offer.snd h.inc) (.ite h.memWrite.snd.setF.notice
      h.memWrite.snd.setF)))

theorem State.Canon.rqAccepted (h : s.Canon) {q} : (s.rqAccepted q).Canon := h.setF

theorem State.Canon.canReceive (h : s.Canon) {n f ago} : CanonOut (s.canReceive n f ago) := by
  unfold State.canReceive
  refine .ite h.pair ?_
  refine .ite h.canError.pair ?_
  extract_lets _ s₂
  have h₂ : s₂.Canon := h.setCan.canRecDown
  split
  · exact State.Canon.pair (.ite h₂.objStore.rqTake h₂.objStore)
  · exact State.Canon.pair (.ite h₂.rqTake h₂.setCan)

theorem State.Canon.canCfgWrite (h : s.Canon) {req n value} : CanonOut (s.canCfgWrite req n value) :=
  .ite (.ite h.regRefuse (.ite h.regRefuse (.ite h.regW h.regW.snd.setCan.canTo.pair))) (.ite h.regW (State.Canon.pair
      (.ite h.regW.snd.setCan h.regW.snd.canClose)))

theorem State.Canon.canRecover (h : s.Canon) {req n value} : CanonOut (s.canRecover req n value) :=
  .ite h.regW (.ite h.regW.snd.setF.pair h.regW.snd.setF.canTo.pair)

theorem State.Canon.objCfgWrite (h : s.Canon) {req o value} : CanonOut (s.objCfgWrite req o value) :=
  .ite (.ite h.regRefuse h.regW) (.ite h.regW (.ite h.regRefuse (.ite h.regRefuse h.regW.snd.setF.setCanObj.pair)))

theorem State.Canon.objAck (h : s.Canon) {value} : CanonOut (s.objAck value) :=
  .ite h.setCanObj.memWrite.snd.pair h.pair

theorem State.Canon.objBaseWrite (h : s.Canon) {req value} : CanonOut (s.objBaseWrite req value) := by
  unfold State.objBaseWrite
  exact .ite h.regRefuse (.ite h.regRefuse h.regW)

theorem State.Canon.rqCfgWrite (h : s.Canon) {req q value} : CanonOut (s.rqCfgWrite req q value) :=
  .ite h.regRefuse (.ite h.regRefuse h.regW)

theorem State.Canon.rqRdWrite (h : s.Canon) {req q value} : CanonOut (s.rqRdWrite req q value) :=
  .ite h.regRefuse (.ite h.regRefuse h.regW)

theorem State.Canon.canRegWrite (h : s.Canon) {req isl base value} : CanonOpt (s.canRegWrite req isl base value) :=
  .ite .none (.ite (.some h.objBaseWrite) (.ite (.some h.objAck) (.ite (.ite (.some h.canCfgWrite) (.ite (.ite (.some
      h.regRefuse) .none) (.ite (.some h.canRecover) .none))) (.ite (.ite (.some h.rqCfgWrite) (.ite (.ite .none
      (.some h.regRefuse)) (.ite (.some h.rqRdWrite) .none))) (.ite (.ite (.some h.objCfgWrite) (.ite (.some
      h.regRefuse) .none)) .none)))))

theorem State.Canon.canToken (h : s.Canon) {t} : CanonOut (s.canToken t) :=
  .ite h.canRequest (.ite h.canCancel h.pair)

theorem State.Canon.canClear (h : s.Canon) : s.canClear.Canon := h.of_eq

theorem State.Canon.execCanEnable (h : s.Canon) {req n value} : NextCanon (execCanEnable req n value s) :=
  h.regRow (fun h₁ => h₁.canCfgWrite)

theorem State.Canon.execCanDisable (h : s.Canon) {req n value} : NextCanon (execCanDisable req n value s) :=
  h.regRow (fun h₁ => h₁.canCfgWrite)

theorem State.Canon.execRecover (h : s.Canon) {req n} : NextCanon (execRecover req n s) :=
  h.regRow (fun h₁ => h₁.canRecover)

theorem State.Canon.execCanRecoveryDone (h : s.Canon) {n} : NextCanon (execCanRecoveryDone n s) :=
  State.Canon.next (.ite h.setCan.canTo h)

theorem State.Canon.execCanError (h : s.Canon) {n err} : NextCanon (execCanError n err s) := h.canError.next

theorem State.Canon.execCanObjectEnable (h : s.Canon) {req o value} : NextCanon (execCanObjectEnable req o value s) :=
  h.regRow (fun h₁ => h₁.objCfgWrite)

theorem State.Canon.execCanObjAck (h : s.Canon) {req value} : NextCanon (execCanObjAck req value s) :=
  h.regRow (fun h₁ => h₁.objAck)

theorem State.Canon.execCanQueueRd (h : s.Canon) {req q value} : NextCanon (execCanQueueRd req q value s) :=
  h.regRow (fun h₁ => h₁.rqRdWrite)

theorem State.Canon.execCanTxRequest (h : s.Canon) {t} : NextCanon (execCanTxRequest t s) :=
  State.Canon.next (h.arrive (fun h₁ => h₁.canToken))

theorem State.Canon.execCanTxSelect (h : s.Canon) {n wait} : NextCanon (execCanTxSelect n wait s) := h.canSelect.next

theorem State.Canon.execCanTxComplete (h : s.Canon) {n how} : NextCanon (execCanTxComplete n how s) := h.canEnd.next

theorem State.Canon.execCanCancel (h : s.Canon) {t} : NextCanon (execCanCancel t s) :=
  State.Canon.next (h.arrive (fun h₁ => h₁.canToken))

/-! ### Mch -/

theorem State.Canon.setSlot (h : s.Canon) {k x} : (s.setSlot k x).Canon := h.of_eq

theorem State.Canon.setAn (h : s.Canon) {c x} : (s.setAn c x).Canon := h.of_eq

theorem State.Canon.setPulse (h : s.Canon) {n x} : (s.setPulse n x).Canon := h.of_eq

theorem State.Canon.setPwm (h : s.Canon) {n x} : (s.setPwm n x).Canon := h.of_eq

theorem State.Canon.setI (h : s.Canon) {r v} : (s.setI r v).Canon := h.setF

theorem State.Canon.mchNotice (h : s.Canon) {kind k} : (s.mchNotice kind k).Canon := .ite h.notice h

theorem State.Canon.setOut (h : s.Canon) {k out} : (s.setOut k out).Canon := .ite h.setI.setI.pinDrive h.setI.setI

theorem State.Canon.slotFrame (h : s.Canon) {k} : (s.slotFrame k).Canon :=
  .ite h (.ite h.canMachine.snd h.canMachine.snd.inc)

theorem State.Canon.slotTo (h : s.Canon) {k st} : (s.slotTo k st).Canon := .ite h h.setF.setSlot.mchNotice

theorem State.Canon.slotStop (h : s.Canon) {k st} : (s.slotStop k st).Canon :=
  .slotFrame (.ite h.slotTo.setOut h.slotTo)

theorem State.Canon.mchStop (h : s.Canon) : s.mchStop.Canon := .ite h (h.foldl fun h₁ => .ite h₁.slotStop h₁)

theorem State.Canon.slotFault (h : s.Canon) {k} : (s.slotFault k).Canon := .ite h.mchNotice.slotStop h.mchNotice

theorem State.Canon.ilEval (h : s.Canon) : s.ilEval.Canon :=
  h.setF.foldl fun h₁ => .ite h₁.mchNotice (.ite h₁.mchNotice h₁)

theorem State.Canon.slotRefresh (h : s.Canon) {k raw} : (s.slotRefresh k raw).Canon := .ite h h.setSlot.setI

theorem State.Canon.refreshAll (h : s.Canon) {kind index raw} : (s.refreshAll kind index raw).Canon :=
  h.foldl fun h₁ => .ite h₁.slotRefresh h₁

theorem State.Canon.canRefresh (h : s.Canon) {o} : (s.canRefresh o).Canon :=
  .ite h (h.foldl fun h₁ => .ite h₁.slotRefresh h₁)

theorem State.Canon.slotEnable (h : s.Canon) {k} : (s.slotEnable k).Canon :=
  h.setSlot.setF.setF.setF.setF.setF.setF.setI.slotTo.setOut.slotFrame

theorem State.Canon.slotDisable (h : s.Canon) {k} : (s.slotDisable k).Canon := by
  unfold State.slotDisable
  refine .ite h ?_
  extract_lets _ s₂
  have h₂ : s₂.Canon := by
    unfold s₂
    split
    · exact h.setI
    · exact h.pinFree
    · exact h
  exact h₂.slotTo

theorem State.Canon.slotClear (h : s.Canon) {k} : CanonOut (s.slotClear k) :=
  .ite h.setF.setF.pair (.ite h.setF.setF.setF.pair h.setF.setF.pair)

theorem State.Canon.slotCmd (h : s.Canon) {req k value} : CanonOut (s.slotCmd req k value) := by
  unfold State.slotCmd
  extract_lets r₁ s₂ _ _ r₅
  have h₁ : CanonOut r₁ := h.regW
  have h₂ : s₂.Canon := h₁.snd
  have h₅ : CanonOut r₅ := by
    unfold r₅
    split
    · exact State.Canon.pair (.ite h₂.slotEnable h₂)
    · exact State.Canon.pair (.ite h₂.slotTo h₂)
    · exact h₂.slotDisable.pair
    · exact h₂.slotClear
  exact .ite h₁ h₅.snd.setF.pair

theorem State.Canon.slotTarget (h : s.Canon) {k v} : CanonOut (s.slotTarget k v) :=
  .ite h.pair (.ite h.pair h.setF.setSlot.pair)

theorem State.Canon.slotSetpoint (h : s.Canon) {k v} : CanonOut (s.slotSetpoint k v) :=
  .ite h.pair (.ite h.pair h.setF.pair)

theorem State.Canon.slotMeasured (h : s.Canon) {k v} : CanonOut (s.slotMeasured k v) :=
  .ite h.pair (.ite h.pair h.slotRefresh.pair)

theorem State.Canon.mchToken (h : s.Canon) {t} : CanonOut (s.mchToken t) :=
  .ite h.pair (.ite h.pair (.ite h.slotTarget (.ite h.slotSetpoint h.slotMeasured)))

theorem State.Canon.mchChecked {r : Nat × State} (h : s.Canon) (h₁ : CanonOut r) {req addr} : CanonOut
    (s.mchChecked req addr r) :=
  .ite h₁ h.regRefuse

theorem State.Canon.slotStep (h : s.Canon) {k} : (s.slotStep k).Canon := h.setF.setF.setOut

theorem State.Canon.slotRamp (h : s.Canon) {k} : (s.slotRamp k).Canon := h.setOut

theorem State.Canon.outputStep (h : s.Canon) : s.outputStep.Canon := by
  unfold State.outputStep
  extract_lets s₁ s₂
  have h₁ : s₁.Canon := h.foldl fun h₃ => .ite h₃.slotRefresh h₃
  have h₂ : s₂.Canon := h₁.ilEval
  refine h₂.foldl fun h₃ => ?_
  extract_lets s₄
  have h₄ : s₄.Canon := .ite h₃.slotStop h₃
  split
  · exact h₄.slotStep
  · exact .ite h₄.slotRamp h₄
  · exact .ite h₄.slotRamp h₄
  · exact h₄

theorem State.Canon.tickToken (h : s.Canon) {k data} : (s.tickToken k data).Canon := h.notice.incW

theorem State.Canon.lawLate (h : s.Canon) {k} : (s.lawLate k).Canon :=
  .ite h.setF (.ite h.inc.inc.setF.slotFault h.inc.inc)

theorem State.Canon.lawTick (h : s.Canon) {k} : (s.lawTick k).Canon := by
  unfold State.lawTick
  extract_lets _ _ s₃ _ s₅ _ s₇ _ s₉
  have h₃ : s₃.Canon := h.setSlot
  have h₅ : s₅.Canon := .ite h₃.lawLate h₃
  have h₇ : s₇.Canon := h₅.setSlot
  have h₉ : s₉.Canon := .ite (.ite h₅.of_eq h₇.tickToken) h₅
  exact .ite h h₉.slotFrame

theorem State.Canon.mchSliceEnd (h : s.Canon) : s.mchSliceEnd.Canon :=
  .foldl (h.of_eq.foldl fun h₁ => h₁.outputStep) fun h₁ => h₁.tickToken

theorem State.Canon.anSample (h : s.Canon) {c v} : (s.anSample c v).Canon := by
  unfold State.anSample
  extract_lets _ _ _ _ s₅ _ _ _ _ s₁₀ s₁₁ s₁₂
  have h₅ : s₅.Canon := h.setF.setF
  have h₁₀ : s₁₀.Canon := h₅.setAn
  have h₁₁ : s₁₁.Canon := .ite h₁₀.incW h₁₀
  have h₁₂ : s₁₂.Canon := .ite h₁₁.mchNotice h₁₁
  exact h₁₂.refreshAll

theorem State.Canon.groupSample (h : s.Canon) {g codes} : (s.groupSample g codes).Canon :=
  h.of_eq.foldl fun h₁ => h₁.anSample

theorem State.Canon.impactBucket (h : s.Canon) : s.impactBucket.Canon :=
  h.of_eq.foldl fun h₁ => .ite h₁ h₁.setAn.setF.refreshAll

theorem State.Canon.pulseCount (h : s.Canon) {n t delta timed} : (s.pulseCount n t delta timed).Canon := by
  unfold State.pulseCount
  extract_lets _ s₂ s₃ s₄
  have h₂ : s₂.Canon := h.setI
  have h₃ : s₃.Canon := by
    unfold s₃
    split
    · exact h₂.setF
    · exact h₂
  have h₄ : s₄.Canon := h₃.setPulse
  exact h₄.refreshAll.refreshAll

theorem State.Canon.pulseEdge (h : s.Canon) {n level held half} : (s.pulseEdge n level held half).Canon :=
  .ite h (.ite h.inc (.ite h.setF.setF.pulseCount (.ite h.setF.pulseCount h.setF)))

theorem State.Canon.pulseZero (h : s.Canon) {n} : (s.pulseZero n).Canon := by
  unfold State.pulseZero
  split
  · exact h
  · exact .ite h.setF h

theorem State.Canon.pwmStart (h : s.Canon) {n start} : (s.pwmStart n start).Canon := h.setF.setPwm

theorem State.Canon.anCfgWrite (h : s.Canon) {req c value} : CanonOut (s.anCfgWrite req c value) :=
  .ite h.regRefuse (.ite h.regRefuse (.ite h.regW.snd.setAn.pair h.regW))

theorem State.Canon.pulseCfgWrite (h : s.Canon) {req n value} : CanonOut (s.pulseCfgWrite req n value) :=
  .ite h.regRefuse (.ite h.regRefuse (.ite h.regRefuse h.regW))

theorem State.Canon.pwmCfgWrite (h : s.Canon) {req n value} : CanonOut (s.pwmCfgWrite req n value) :=
  .ite h.regRefuse (.ite h.regRefuse (.ite h.regW.snd.setPwm.pwmStart.pair h.regW))

theorem State.Canon.angWrite (h : s.Canon) {req g value} : CanonOut (s.angWrite req g value) :=
  .ite h.regW.snd.of_eq.pair h.regW

theorem State.Canon.slotWrite (h : s.Canon) {req k o value} : CanonOpt (s.slotWrite req k o value) :=
  .ite (.some (h.mchChecked h.slotSetpoint)) (.ite (.some (h.mchChecked h.slotTarget)) (.ite (.some h.slotCmd) (.ite
      (.some (h.mchChecked h.slotMeasured)) (.ite (.some h.regRefuse) .none))))

theorem State.Canon.ilClr (h : s.Canon) {value} : CanonOut (s.ilClr value) := h.setF.pair

theorem State.Canon.mchRegWrite (h : s.Canon) {req isl base value} : CanonOpt (s.mchRegWrite req isl base value) :=
  .ite .none (.ite (.some h.ilClr) (.ite (.ite (.some h.regRefuse) .none) (.ite h.slotWrite (.ite (.some h.angWrite)
      (.ite (.some h.anCfgWrite) (.ite (.some h.pulseCfgWrite) (.ite (.ite (.some h.pwmCfgWrite) (.ite (.some
      h.regRefuse) (.ite (.some (State.Canon.pair (.ite h.regW.snd.setPwm h.regW.snd))) .none))) .none)))))))

theorem State.Canon.mchClear (h : s.Canon) : s.mchClear.Canon := by
  unfold State.mchClear
  extract_lets s₁
  have h₁ : s₁.Canon := h.foldl fun h₁ => .ite (.ite h₁.setPin.pinFall h₁.setPin) h₁
  clear_value s₁
  exact h₁.of_eq

theorem State.Canon.execSlotEnable (h : s.Canon) {req k} : NextCanon (execSlotEnable req k s) :=
  h.regRow (fun h₁ => h₁.slotCmd)

theorem State.Canon.execSlotRun (h : s.Canon) {req k} : NextCanon (execSlotRun req k s) :=
  h.regRow (fun h₁ => h₁.slotCmd)

theorem State.Canon.execSlotDisable (h : s.Canon) {req k} : NextCanon (execSlotDisable req k s) :=
  h.regRow (fun h₁ => h₁.slotCmd)

theorem State.Canon.execClearFault (h : s.Canon) {req k} : NextCanon (execClearFault req k s) :=
  h.regRow (fun h₁ => h₁.slotCmd)

theorem State.Canon.slotIn {take : State → Nat → Nat → Nat × State} (h : s.Canon)
    (htake : ∀ {t b c}, t.Canon → CanonOut (take t b c)) {o i} : NextCanon (s.slotIn o i take) := by
  unfold State.slotIn
  split
  · exact State.Canon.next (h.arrive (fun h₁ => h₁.mchToken))
  · exact h.regRow (fun h₁ => h₁.mchChecked (htake h₁))

theorem State.Canon.execSlotTarget (h : s.Canon) {i} : NextCanon (execSlotTarget i s) :=
  h.slotIn (fun h₁ => h₁.slotTarget)

theorem State.Canon.execSlotSetpoint (h : s.Canon) {i} : NextCanon (execSlotSetpoint i s) :=
  h.slotIn (fun h₁ => h₁.slotSetpoint)

theorem State.Canon.execMeasuredWrite (h : s.Canon) {i} : NextCanon (execMeasuredWrite i s) :=
  h.slotIn (fun h₁ => h₁.slotMeasured)

theorem State.Canon.execOutputStep (h : s.Canon) : NextCanon (execOutputStep s) :=
  State.Canon.next (.ite h (.ite h.of_eq.of_eq h.of_eq.outputStep))

theorem State.Canon.execLawTick (h : s.Canon) {k} : NextCanon (execLawTick k s) := h.lawTick.next

theorem State.Canon.execStale (h : s.Canon) {k} : NextCanon (execStale k s) :=
  State.Canon.next (.ite h.setF.slotFault h)

theorem State.Canon.execIlSoftSet (h : s.Canon) {req value} : NextCanon (execIlSoftSet req value s) :=
  h.regRow (fun h₁ => h₁.regW)

theorem State.Canon.execIlSoftClr (h : s.Canon) {req value} : NextCanon (execIlSoftClr req value s) :=
  h.regRow (fun h₁ => h₁.ilClr)

theorem State.Canon.execImpactRateBucket (h : s.Canon) : NextCanon (execImpactRateBucket s) :=
  State.Canon.next (.ite h.impactBucket h)

theorem State.Canon.execPulseEdge (h : s.Canon) {n level held half} : NextCanon (execPulseEdge n level held half s) :=
  h.pulseEdge.next

theorem State.Canon.execPulseZero (h : s.Canon) {n} : NextCanon (execPulseZero n s) := h.pulseZero.next

theorem State.Canon.execPwmPeriodStart (h : s.Canon) {n} : NextCanon (execPwmPeriodStart n s) :=
  State.Canon.next (.ite h.pwmStart h)

theorem State.Canon.execCanFrameReceived (h : s.Canon) {n frame ago} : NextCanon (execCanFrameReceived n frame ago s) :=
    by
  unfold Machine.execCanFrameReceived
  extract_lets r₁
  have h₁ : CanonOut r₁ := h.canReceive
  refine State.Canon.next ?_
  split
  · exact h₁.snd.canRefresh
  · exact h₁.snd

/-! ### Tal -/

theorem State.Canon.setAcc (h : s.Canon) {i x} : (s.setAcc i x).Canon := h.of_eq

theorem State.Canon.setPo (h : s.Canon) {n x} : (s.setPo n x).Canon := h.of_eq

theorem State.Canon.talNotice (h : s.Canon) {kind i} : (s.talNotice kind i).Canon := .ite h.notice h

theorem State.Canon.setTotals (h : s.Canon) {i fwd rev} : (s.setTotals i fwd rev).Canon := h.setF.setF.setI

theorem State.Canon.talSave (h : s.Canon) {i kind} : (s.talSave i kind).Canon := h.incW.of_eq

theorem State.Canon.talSaveDone (h : s.Canon) : s.talSaveDone.Canon := by
  unfold State.talSaveDone
  split
  · exact h
  · extract_lets _ s₂ _ _ s₅ s₆
    have h₂ : s₂.Canon := h.of_eq
    have h₅ : s₅.Canon := h₂.copyAB
    have h₆ : s₆.Canon := .ite h₅.setF.talNotice.stage h₅.inc
    exact .ite h₆.setAcc (h₆.foldl fun h₈ => h₈.outputConfirmed)

theorem State.Canon.talLatch (h : s.Canon) {i time} : (s.talLatch i time).Canon :=
  .talSave (.ite h.setF.setF.setF.incW.setAcc.talNotice h.setF.setF.setF.incW.setAcc)

theorem State.Canon.talLatchDue (h : s.Canon) {i} : (s.talLatchDue i).Canon := by
  unfold State.talLatchDue
  split
  · exact .ite h.talLatch h
  · exact h

theorem State.Canon.talCycle (h : s.Canon) {i r} : (s.talCycle i r).Canon := by
  unfold State.talCycle
  extract_lets s₁ _ _ _ _ s₆
  have h₁ : s₁.Canon := by
    unfold s₁
    split
    · exact .ite h.talLatch h
    · exact h
  have h₆ : s₆.Canon := h₁.setTotals.setF
  exact h₆.setAcc

theorem State.Canon.talAnalog (h : s.Canon) {c v} : (s.talAnalog c v).Canon := h.foldl fun h₁ => .ite h₁.talCycle h₁

theorem State.Canon.talTemp (h : s.Canon) {i} : (s.talTemp i).Canon := by
  unfold State.talTemp
  extract_lets
  split
  · exact h.setI.setF.setAcc
  · exact .ite h h.setI.setF.setAcc
  · exact h.setF.setAcc

theorem State.Canon.lagStep (h : s.Canon) {i} : (s.lagStep i).Canon := h.setF

theorem State.Canon.talMark (h : s.Canon) : s.talMark.Canon := by
  unfold State.talMark
  refine h.foldl fun h₁ => ?_
  refine .ite h₁ ?_
  extract_lets _ _ _ _ s₆
  have h₆ : s₆.Canon := by
    unfold s₆
    split
    · exact h₁.setAcc.talCycle
    · exact h₁.talCycle
    · exact h₁
  exact h₆.talTemp

theorem State.Canon.talEnable (h : s.Canon) {i} : (s.talEnable i).Canon := h.setF.setAcc.talTemp.setF

theorem State.Canon.talCfgWrite (h : s.Canon) {req i value} : CanonOut (s.talCfgWrite req i value) :=
  .ite h.regRefuse (.ite h.regW (.ite (.ite h.regRefuse h.regW.snd.talEnable.pair) (.ite
      h.regW.snd.talLatchDue.setAcc.talSave.pair h.regW)))

theorem State.Canon.talCmdWrite (h : s.Canon) {req i value} : CanonOut (s.talCmdWrite req i value) :=
  .ite h.regRefuse (.ite h.regW (.ite h.regW.snd.setF.pair h.regW.snd.talLatchDue.talLatch.setAcc.setF.setF.pair))

theorem State.Canon.talZero (h : s.Canon) {i} : (s.talZero i).Canon :=
  .talSave (.setF (.setAcc (.setTotals (h.foldl fun h₁ => .ite h₁.setPo h₁))))

theorem State.Canon.talBeforeTick (h : s.Canon) : s.talBeforeTick.Canon := h.foldl fun h₁ => .ite h₁.talLatchDue h₁

theorem State.Canon.talTick (h : s.Canon) : s.talTick.Canon := h.foldl fun h₁ => .ite h₁.talZero h₁

theorem State.Canon.talIncrement (h : s.Canon) {i raw stamp} : CanonOut (s.talIncrement i raw stamp) := by
  unfold State.talIncrement
  extract_lets _ s₂
  have h₂ : s₂.Canon := h.talCycle
  refine .ite h.pair ?_
  refine .ite h.pair ?_
  split
  · exact .ite h.pair h.talCycle.pair
  · split
    · exact h.pair
    · exact .ite h.pair (.ite h.pair h₂.setAcc.pair)

theorem State.Canon.talToken (h : s.Canon) {t} : CanonOut (s.talToken t) := .ite h.pair (.ite h.pair h.talIncrement)

theorem State.Canon.talPartial (h : s.Canon) : s.talPartial.Canon := by
  unfold State.talPartial
  extract_lets _ s₂
  have h₂ : s₂.Canon := h.of_eq
  refine h₂.foldl fun h₃ => ?_
  refine .ite h₃ ?_
  split
  · exact .ite h₃.talLatch h₃.talSave
  · exact h₃.talSave

theorem State.Canon.talPwrfail (h : s.Canon) : s.talPwrfail.Canon := .ite h h.of_eq.setF.talPartial

theorem State.Canon.talPwrOk (h : s.Canon) : s.talPwrOk.Canon := h.of_eq

theorem State.Canon.talRestore1 (h : s.Canon) {i} : (s.talRestore1 i).Canon := by
  unfold State.talRestore1
  split
  · exact h.setF.stage
  · exact .ite h.setTotals.setF.setF.setAcc (.stage (CanonOut.snd (.ite h.setTotals.setF.setF.setAcc.pair (.ite
      h.setTotals.setF.setF.setAcc.pair h.setTotals.setF.setF.setAcc.free.snd.pair))))

theorem State.Canon.talRestore (h : s.Canon) : s.talRestore.Canon := h.setF.foldl fun h₁ => h₁.talRestore1

theorem State.Canon.talClear (h : s.Canon) : s.talClear.Canon := h.of_eq

theorem State.Canon.poStart (h : s.Canon) {n} : (s.poStart n).Canon := .ite h (.ite h (.ite h.setPo h.setPo.setI))

theorem State.Canon.poEnd (h : s.Canon) {n} : (s.poEnd n).Canon := by
  unfold State.poEnd
  extract_lets
  split
  · exact .ite h.setPo h
  · exact h

theorem State.Canon.poCfgWrite (h : s.Canon) {req n value} : CanonOut (s.poCfgWrite req n value) :=
  .ite h.regRefuse (.ite h.regRefuse (.ite h.regW.snd.setPo.setF.pair h.regW))

theorem State.Canon.talIncWrite (h : s.Canon) {req i value} : CanonOut (s.talIncWrite req i value) :=
  .ite h.talIncrement h.regRefuse

theorem State.Canon.talTempWrite (h : s.Canon) {i value} : CanonOut (s.talTempWrite i value) := h.setAcc.setF.pair

theorem State.Canon.talRegWrite (h : s.Canon) {req isl base value} : CanonOpt (s.talRegWrite req isl base value) :=
  .ite .none (.ite (.ite (.some h.talCfgWrite) (.ite (.some h.talCmdWrite) (.ite (.some h.talIncWrite) (.ite (.some
      h.talTempWrite) (.ite (.some h.regRefuse) .none))))) (.ite (.ite (.some h.poCfgWrite) (.ite (.some h.regRefuse)
      .none)) (.ite (.some h.regRefuse) .none)))

theorem State.Canon.execAnalogSample (h : s.Canon) {g codes} : NextCanon (execAnalogSample g codes s) :=
  State.Canon.next (.ite h (h.groupSample.foldl fun h₁ => h₁.talAnalog))

theorem State.Canon.execTallyEnable (h : s.Canon) {req i value} : NextCanon (execTallyEnable req i value s) :=
  h.regRow (fun h₁ => h₁.talCfgWrite)

theorem State.Canon.execTallyDisable (h : s.Canon) {req i value} : NextCanon (execTallyDisable req i value s) :=
  h.regRow (fun h₁ => h₁.talCfgWrite)

theorem State.Canon.execTallyIncrement (h : s.Canon) {t} : NextCanon (execTallyIncrement t s) :=
  State.Canon.next (h.arrive (fun h₁ => h₁.talToken))

theorem State.Canon.execTallyIncWrite (h : s.Canon) {req i value} : NextCanon (execTallyIncWrite req i value s) :=
  h.regRow (fun h₁ => h₁.talIncWrite)

theorem State.Canon.execTallyLatch (h : s.Canon) {i} : NextCanon (execTallyLatch i s) :=
  State.Canon.next (.ite h.talLatchDue h)

theorem State.Canon.execTallyCheckpoint (h : s.Canon) {i} : NextCanon (execTallyCheckpoint i s) := by
  unfold Machine.execTallyCheckpoint
  refine State.Canon.next ?_
  split
  · exact .ite h.talSave h
  · exact h

theorem State.Canon.execTallySaveDone (h : s.Canon) : NextCanon (execTallySaveDone s) := h.talSaveDone.next

theorem State.Canon.execTallyPartialSave (h : s.Canon) : NextCanon (execTallyPartialSave s) :=
  State.Canon.next (.ite h.talPartial h)

theorem State.Canon.execTallyClear (h : s.Canon) {req i} : NextCanon (execTallyClear req i s) :=
  h.regRow (fun h₁ => h₁.talCmdWrite)

theorem State.Canon.execTempWrite (h : s.Canon) {req i value} : NextCanon (execTempWrite req i value s) :=
  h.regRow (fun h₁ => h₁.talTempWrite)

theorem State.Canon.execTempStale (h : s.Canon) {i} : NextCanon (execTempStale i s) :=
  State.Canon.next (.ite h.setF.talNotice h)

theorem State.Canon.execLagStep (h : s.Canon) : NextCanon (execLagStep s) :=
  State.Canon.next (.ite h (h.of_eq.foldl fun h₁ => .ite h₁.lagStep h₁))

theorem State.Canon.execPulseOutputEnable (h : s.Canon) {req n value} : NextCanon (execPulseOutputEnable req n value s)
    :=
  h.regRow (fun h₁ => h₁.poCfgWrite)

theorem State.Canon.execPulseOutputStart (h : s.Canon) {n} : NextCanon (execPulseOutputStart n s) := h.poStart.next

theorem State.Canon.execPulseOutputEnd (h : s.Canon) {n} : NextCanon (execPulseOutputEnd n s) := h.poEnd.next

/-! ### Stop -/

theorem State.Canon.setStop (h : s.Canon) {f} : (s.setStop f).Canon := h.of_eq

theorem State.Canon.ctlSend (h : s.Canon) {p code content} : (s.ctlSend p code content).Canon := .ite h.of_eq h

theorem State.Canon.stopSpread (h : s.Canon) {reason stamp} : (s.stopSpread reason stamp).Canon :=
  .ite h (.foldl (.setStop (h.foldl fun h₁ => h₁.ctlSend.ctlSend)) fun h₁ => h₁.bxlSend)

theorem State.Canon.latchSet (h : s.Canon) {l origin own} : (s.latchSet l origin own).Canon := by
  unfold State.latchSet
  extract_lets _ _ s₃ s₄ s₅ s₆ _ _ s₉ _ s₁₁ s₁₂ s₁₃ s₁₄
  have h₃ : s₃.Canon := h.setF.setF.setF.setF
  have h₄ : s₄.Canon := h₃.setF.setF.setF
  have h₅ : s₅.Canon := h₄.setStop
  have h₆ : s₆.Canon := h₅.incW.inc
  have h₉ : s₉.Canon := h₆.setF.setF
  have h₁₁ : s₁₁.Canon := h₉.copyAB
  have h₁₂ : s₁₂.Canon := .ite h₁₁.stopSpread h₁₁
  have h₁₃ : s₁₃.Canon := h₁₂.radStop.mchStop
  have h₁₄ : s₁₄.Canon := h₁₃.stage
  exact .ite h₁₄.notice h₁₄

theorem State.Canon.stopRaise (h : s.Canon) {src reason origin own} : (s.stopRaise src reason origin own).Canon :=
  .ite h.latchSet (.ite h.setF.setF h.setStop.setF.inc.stage)

theorem State.Canon.raise (h : s.Canon) {src reason} : (s.raise src reason).Canon := h.stopRaise

theorem State.Canon.pinsCompare (h : s.Canon) : s.pinsCompare.Canon := by
  unfold State.pinsCompare
  exact h.setStop

theorem State.Canon.stopInput (h : s.Canon) {p level width} : (s.stopInput p level width).Canon :=
  .ite h.setF.pinsCompare (.ite h.setF.pinsCompare.raise (.ite h.setF.pinsCompare.raise (.ite h.setF.pinsCompare (.ite
      h.setF.pinsCompare.free.snd.raise h.setF.pinsCompare.free.snd))))

theorem State.Canon.readback (h : s.Canon) {o differs} : (s.readback o differs).Canon :=
  .ite h (.ite h.setStop h.setStop.stage.raise)

theorem State.Canon.disagree (h : s.Canon) : s.disagree.Canon := by
  unfold State.disagree
  split
  · exact h
  · exact .ite h (.ite h.setF.setStop.stage.notice h.setF.setStop.stage)

theorem State.Canon.relatch (h : s.Canon) : s.relatch.Canon := by
  unfold State.relatch
  exact h.latchSet

theorem State.Canon.releaseHere (h : s.Canon) : CanonOut s.releaseHere :=
  .ite h.pair (.ite h.relatch.pair h.setF.setF.setStop.radUnstop.pair)

theorem State.Canon.stopDone (h : s.Canon) {status} : (s.stopDone status).Canon := h.setF.setF

theorem State.Canon.stopAnswered (h : s.Canon) : s.stopAnswered.Canon :=
  .ite h (.ite h.stopDone (.ite h.stopDone h.setF.setStop.stopDone))

theorem State.Canon.stopAnswer (h : s.Canon) {pos status} : (s.stopAnswer pos status).Canon :=
  .ite h h.setStop.stopAnswered

theorem State.Canon.stopControl (h : s.Canon) {dst op status} : (s.stopControl dst op status).Canon := h.bxlSend

theorem State.Canon.stopAsk (h : s.Canon) {release bad op} : (s.stopAsk release bad op).Canon :=
  .stopAnswered (h.setF.setStop.foldl fun h₁ => h₁.stopControl)

theorem State.Canon.stopArm (h : s.Canon) : s.stopArm.Canon := .ite h.stopDone (.ite h.stopDone h.stopAsk)

theorem State.Canon.stopRelease (h : s.Canon) : s.stopRelease.Canon :=
  .ite h.relatch.setStop.stopDone (.ite h.setStop.setF.releaseHere.snd.stopAsk (.ite h.setStop.setF.stopDone
      h.stopDone))

theorem State.Canon.stopCmdWrite (h : s.Canon) {req value} : CanonOut (s.stopCmdWrite req value) :=
  .ite h.regRefuse (.ite h.regRefuse (.ite h.regRefuse (State.Canon.pair (.ite h.setF.stopArm h.setF.stopRelease))))

theorem State.Canon.enableWrite (h : s.Canon) {req base value} : CanonOut (s.enableWrite req base value) :=
  .ite h.regRefuse h.regW

theorem State.Canon.raiseWrite (h : s.Canon) {value} : CanonOut (s.raiseWrite value) := h.raise.pair

theorem State.Canon.stopRegWrite (h : s.Canon) {req isl base value} : CanonOpt (s.stopRegWrite req isl base value) :=
  .ite .none (.ite (.some h.raiseWrite) (.ite (.some h.stopCmdWrite) (.ite (.some h.enableWrite) (.ite (.some (.ite
      h.regRefuse h.regW)) .none))))

theorem State.Canon.execStopInput (h : s.Canon) {p level width} : NextCanon (execStopInput p level width s) :=
  h.stopInput.next

theorem State.Canon.execStopRaise (h : s.Canon) {req value} : NextCanon (execStopRaise req value s) :=
  h.regRow (fun h₁ => h₁.raiseWrite)

theorem State.Canon.execStopArm (h : s.Canon) {req} : NextCanon (execStopArm req s) :=
  h.regRow (fun h₁ => h₁.stopCmdWrite)

theorem State.Canon.execStopRelease (h : s.Canon) {req} : NextCanon (execStopRelease req s) :=
  h.regRow (fun h₁ => h₁.stopCmdWrite)

theorem State.Canon.execStopArmExpiry (h : s.Canon) : NextCanon (execStopArmExpiry s) :=
  State.Canon.next (.ite h.setStop.setF h)

theorem State.Canon.execDisagree (h : s.Canon) : NextCanon (execDisagree s) := h.disagree.next

theorem State.Canon.execReadbackMismatch (h : s.Canon) {o differs} : NextCanon (execReadbackMismatch o differs s) :=
  h.readback.next

theorem State.Canon.execOutputEnableWrite (h : s.Canon) {req pwen value} : NextCanon
    (execOutputEnableWrite req pwen value s) :=
  h.regRow (fun h₁ => h₁.enableWrite)

theorem State.Canon.execWatchdog (h : s.Canon) : NextCanon (execWatchdog s) := h.raise.next

theorem State.Canon.execControlStopArm (h : s.Canon) {m} : NextCanon (execControlStopArm m s) :=
  State.Canon.next (h.bxlIn (fun h₁ => h₁.stopControl.pair))

theorem State.Canon.execStopReady (h : s.Canon) {m} : NextCanon (execStopReady m s) :=
  State.Canon.next (h.bxlIn (fun h₁ => State.Canon.pair (.ite h₁ h₁.stopAnswer)))

theorem State.Canon.execControlStopRelease (h : s.Canon) {m} : NextCanon (execControlStopRelease m s) :=
  State.Canon.next (h.bxlIn (fun h₁ => h₁.releaseHere.snd.pair))

theorem State.Canon.execStopinfo (h : s.Canon) {m} : NextCanon (execStopinfo m s) :=
  State.Canon.next (h.bxlIn (fun h₁ => State.Canon.pair (.ite h₁.setF h₁)))

/-! ### ZonTab -/

theorem State.Canon.setZon (h : s.Canon) {f} : (s.setZon f).Canon := h.of_eq

theorem State.Canon.zonLeave (h : s.Canon) {addr b result} : (s.zonLeave addr b result).Canon :=
  .notice (.ite h.memWrite.snd h)

theorem State.Canon.zonFail (h : s.Canon) {addr b status} : (s.zonFail addr b status).Canon := h.zonLeave

theorem State.Canon.trackDrop (h : s.Canon) {id} : (s.trackDrop id).Canon := by
  unfold State.trackDrop
  exact h.setZon

theorem State.Canon.freeTrack (h : s.Canon) {id} : CanonOut (s.freeTrack id) := h.setZon.pair

/-! ### Zon -/

theorem State.Canon.zonMirror (h : s.Canon) {kind content} : (s.zonMirror kind content).Canon :=
  .ite (h.foldl fun h₁ => h₁.bxlSend) h

theorem State.Canon.zonInsert (h : s.Canon) {es} : (s.zonInsert es).Canon := h.setZon.zonMirror

theorem State.Canon.zonTrackPut (h : s.Canon) {t} : (s.zonTrackPut t).Canon := h.setZon.zonMirror

theorem State.Canon.zonFree (h : s.Canon) {id} : CanonOut (s.zonFree id) := h.freeTrack.snd.trackDrop.zonMirror.pair

theorem State.Canon.zonServed (h : s.Canon) {c result} : (s.zonServed c result).Canon := h.setZon

theorem State.Canon.zonReserve (h : s.Canon) {b cells} : CanonOut (s.zonReserve b cells) := by
  unfold State.zonReserve
  extract_lets _ _ s₃
  have h₃ : s₃.Canon := h.addF
  refine .ite h₃.pair ?_
  split
  · exact h₃.inc.pair
  · refine .ite h₃.pair ?_
    refine .ite h₃.inc.pair ?_
    split
    · exact h₃.pair
    · exact h₃.zonInsert.zonTrackPut.inc.pair

theorem State.Canon.zonRelease (h : s.Canon) {b} : CanonOut (s.zonRelease b) := by
  unfold State.zonRelease
  split
  · exact h.pair
  · exact .ite h.pair (.ite h.pair (.ite h.pair h.zonFree.snd.pair))

theorem State.Canon.zonReleaseOwner (h : s.Canon) {b} : CanonOut (s.zonReleaseOwner b) :=
  h.pair.foldl fun h₁ => h₁.snd.zonFree.snd.pair

theorem State.Canon.zonForward (h : s.Canon) {c} : (s.zonForward c).Canon :=
  .ite h.setZon.inc.setZon h.setZon.inc.zonSend

theorem State.Canon.zonServe (h : s.Canon) {c} : (s.zonServe c).Canon :=
  .ite (.ite h.setZon.inc.zonServed (.ite h.setZon.zonForward h.setZon.zonReserve.snd.zonServed)) (.ite (.ite
      h.setZon.zonForward h.setZon.zonRelease.snd.zonServed) h.setZon.zonReleaseOwner.snd.zonServed)

theorem State.Canon.zonServeOp (h : s.Canon) {op} : (s.zonServeOp op).Canon := by
  unfold State.zonServeOp
  split
  · exact .ite h.zonServe h
  · exact h

theorem State.Canon.zonDecideTo (h : s.Canon) {p prio num commit} : (s.zonDecideTo p prio num commit).Canon :=
  h.zonSend

theorem State.Canon.zonTxnEnd (h : s.Canon) {x} : (s.zonTxnEnd x).Canon := by
  unfold State.zonTxnEnd
  extract_lets _ _ _ _ _ s₆ s₇
  have h₆ : s₆.Canon := h.setZon
  have h₇ : s₇.Canon := by
    unfold s₇
    split
    · exact h₆.setZon
    · exact h₆
  refine .ite ?_ h₇.zonSend
  split
  · exact h₇.setZon.zonServed
  · exact h₇

theorem State.Canon.zonDecide (h : s.Canon) {x} : (s.zonDecide x).Canon := by
  unfold State.zonDecide
  extract_lets _ _ _ s₄ s₅ s₆ s₇
  have h₄ : s₄.Canon := h.setZon
  have h₅ : s₅.Canon := h₄.foldl fun h₁₀ => .ite h₁₀ h₁₀.zonDecideTo
  have h₆ : s₆.Canon := h₅.setZon
  have h₇ : s₇.Canon := .ite (.ite h₆.zonTrackPut.inc h₆) (.ite h₅.zonFree.snd h₅)
  exact .ite h₇.zonTxnEnd h₇.setZon

theorem State.Canon.zonPrepare (h : s.Canon) {f owner track num mine insert} : CanonOut₂
    (s.zonPrepare f owner track num mine insert) := by
  unfold State.zonPrepare
  split
  · exact h.pair.pair
  · exact .ite h.pair.pair (.ite h.pair.pair h.zonInsert.pair.pair)

theorem State.Canon.zonTxnStart (h : s.Canon) : s.zonTxnStart.Canon := by
  unfold State.zonTxnStart
  split
  · extract_lets _ _ _ _ s₅ s₆ _ _ _ _ _ _ _ _ s₁₅ r₁₆ _ s₁₈
    have h₅ : s₅.Canon := h.setZon
    have h₆ : s₆.Canon := .ite h₅ h₅.inc
    have h₁₅ : s₁₅.Canon := .ite h₆.addF h₆
    have h₁₆ : CanonOut₂ r₁₆ := .ite h₁₅.zonPrepare h₁₅.pair.pair
    have h₁₈ : s₁₈.Canon := h₁₆.snd.snd.foldl fun h₂₀ => h₂₀.zonSend
    exact .ite h₆.zonTxnEnd (.ite h₁₈.zonDecide h₁₈.setZon)
  · exact h

theorem State.Canon.zonGather (h : s.Canon) {m} : CanonOut (s.zonGather m) := .ite h.setZon.pair h.setZon.pair

theorem State.Canon.zonMsg {h : State → List Byte → State} (hs : s.Canon) (hh : ∀ {t b}, t.Canon → (h t b).Canon) {m} :
    (s.zonMsg m h).Canon := by
  unfold State.zonMsg
  refine hs.bxlIn (fun h₁ => ?_)
  extract_lets r₂
  have h₂ : CanonOut r₂ := h₁.zonGather
  refine State.Canon.pair ?_
  split
  · exact hh h₂.snd
  · exact h₂.snd

theorem State.Canon.zonOnForward (h : s.Canon) {m c} : (s.zonOnForward m c).Canon := by
  unfold State.zonOnForward
  refine .ite h ?_
  extract_lets
  split
  · exact h.zonSend
  · exact h.setZon.zonTxnStart

theorem State.Canon.zonOnPrepare (h : s.Canon) {m c} : (s.zonOnPrepare m c).Canon := by
  unfold State.zonOnPrepare
  extract_lets _ _ _ _ _ r₆ s₇
  have h₆ : CanonOut₂ r₆ := .ite h.pair.pair h.zonPrepare
  have h₇ : s₇.Canon := .ite h₆.snd.snd.setZon h₆.snd.snd
  split <;> exact h₇.zonSend

theorem State.Canon.zonOnVote (h : s.Canon) {m c} : (s.zonOnVote m c).Canon := by
  unfold State.zonOnVote
  split
  · exact h
  · exact .ite h (.ite h.zonDecide.zonTxnStart h.setZon)

theorem State.Canon.zonOnDecide (h : s.Canon) {m x₁} : (s.zonOnDecide m x₁).Canon := by
  unfold State.zonOnDecide
  extract_lets _ _ d₃ s₄ s₅
  have h₄ : s₄.Canon := h.setZon
  have h₅ : s₅.Canon := by
    unfold s₅
    clear_value d₃
    split
    · exact .ite h₄.freeTrack.snd.zonMirror (.ite h₄.zonMirror h₄)
    · exact h₄
  exact h₅.zonSend

theorem State.Canon.zonOnDone (h : s.Canon) {m x₁} : (s.zonOnDone m x₁).Canon := by
  unfold State.zonOnDone
  split
  · exact h
  · exact .ite h (.ite h.zonTxnEnd.zonTxnStart h.setZon)

theorem State.Canon.zonOnResult (h : s.Canon) {x₁ c} : (s.zonOnResult x₁ c).Canon := by
  unfold State.zonOnResult
  split
  · exact h.setZon.zonServed
  · exact h

theorem State.Canon.zonOnAsk (h : s.Canon) {m x₁} : (s.zonOnAsk m x₁).Canon := by
  unfold State.zonOnAsk
  extract_lets
  split
  · exact h.zonDecideTo
  · split
    · exact .ite h.zonDecide.zonTxnStart h.setZon.zonDecideTo
    · exact h.setZon.zonDecideTo

theorem State.Canon.zonOnConfig (h : s.Canon) {x₁ c} : (s.zonOnConfig x₁ c).Canon := h.foldl fun h₁ => h₁.setF

theorem State.Canon.zonCfgSend (h : s.Canon) : s.zonCfgSend.Canon := .ite (h.foldl fun h₁ => h₁.zonSend) h

theorem State.Canon.zonRefused (h : s.Canon) {code} : CanonOut (s.zonRefused code) := h.inc.pair

theorem State.Canon.zonCommand (h : s.Canon) {t} : CanonOut (s.zonCommand t) := by
  unfold State.zonCommand
  extract_lets _ r₂ _ _ _ s₆
  have h₂ : CanonOut₂ r₂ := h.memRead
  have h₆ : s₆.Canon := h.inc.zonFail
  refine .ite h.zonRefused ?_
  refine .ite h.zonRefused ?_
  refine .ite h₂.snd.snd.zonRefused ?_
  split
  · extract_lets _ s₉
    have h₉ : s₉.Canon := h.zonLeave
    refine State.Canon.pair ?_
    split
    · exact h₉.confirm
    · exact h₉
  · refine .ite h.zonRefused ?_
    refine .ite ?_ h.setZon.pair
    refine State.Canon.pair ?_
    split
    · exact h₆.confirm
    · exact h₆

theorem State.Canon.zonCancel (h : s.Canon) {t} : CanonOut (s.zonCancel t) := by
  unfold State.zonCancel
  extract_lets
  refine .ite h.zonRefused ?_
  split
  · extract_lets s₂
    have h₂ : s₂.Canon := h.setZon.zonFail
    refine State.Canon.pair ?_
    split
    · exact h₂.confirm
    · exact h₂
  · exact .ite h.zonRefused h.zonRefused

theorem State.Canon.zonToken (h : s.Canon) {t} : CanonOut (s.zonToken t) := by
  unfold State.zonToken
  split
  · exact h.zonCommand
  · exact h.zonCancel
  · exact h.zonRefused

theorem State.Canon.zonWriteback (h : s.Canon) : s.zonWriteback.Canon := by
  unfold State.zonWriteback
  split
  · exact h
  · extract_lets s₁
    have h₁ : s₁.Canon := h.setZon.zonLeave
    split
    · exact h₁
    · exact h₁.setZon.confirm

theorem State.Canon.trackExpire (h : s.Canon) {id} : (s.trackExpire id).Canon := by
  unfold State.trackExpire
  split
  · exact h
  · exact .ite h (.ite h.zonFree.snd.inc.notice h.zonFree.snd.inc)

theorem State.Canon.zonCtrlWrite (h : s.Canon) {req value} : CanonOut (s.zonCtrlWrite req value) :=
  .ite h.regRefuse (.ite h.regRefuse (State.Canon.pair (.ite h.regW.snd.setZon h.regW.snd)))

theorem State.Canon.zonTableWrite (h : s.Canon) {req base value} : CanonOut (s.zonTableWrite req base value) :=
  .ite h.regW (.ite h.regRefuse (.ite h.regRefuse (State.Canon.pair (.ite h.regW.snd.setZon h.regW.snd))))

theorem State.Canon.zonFrameWrite (h : s.Canon) {req base value} : CanonOut (s.zonFrameWrite req base value) :=
  .ite h.regRefuse (.ite h.regRefuse (State.Canon.pair (.ite h.regW.snd.zonCfgSend h.regW.snd)))

theorem State.Canon.zonRegWrite (h : s.Canon) {req isl base value} : CanonOpt (s.zonRegWrite req isl base value) :=
  .ite .none (.ite (.some h.zonCtrlWrite) (.ite (.some h.zonTableWrite) (.ite (.ite (.some h.regRefuse) .none) (.ite
      (.some h.zonFrameWrite) .none))))

theorem State.Canon.zonClear (h : s.Canon) : s.zonClear.Canon := by
  unfold State.zonClear
  exact .setZon (h.foldl fun h₁ => .ite h₁.zonFree.snd h₁)

theorem State.Canon.zonAnchorLost (h : s.Canon) {ch} : (s.zonAnchorLost ch).Canon := .ite h.setZon h

theorem State.Canon.execZonEnable (h : s.Canon) {req value} : NextCanon (execZonEnable req value s) :=
  h.regRow (fun h₁ => h₁.zonCtrlWrite)

theorem State.Canon.execZonCommand (h : s.Canon) {t} : NextCanon (execZonCommand t s) :=
  State.Canon.next (h.arrive (fun h₁ => h₁.zonToken))

theorem State.Canon.execReserve (h : s.Canon) : NextCanon (execReserve s) := h.zonServeOp.next

theorem State.Canon.execCheck (h : s.Canon) : NextCanon (execCheck s) := h.zonServeOp.next

theorem State.Canon.execZonRelease (h : s.Canon) : NextCanon (execZonRelease s) := h.zonServeOp.next

theorem State.Canon.execReleaseOwner (h : s.Canon) : NextCanon (execReleaseOwner s) := h.zonServeOp.next

theorem State.Canon.execZonWritebackDone (h : s.Canon) : NextCanon (execZonWritebackDone s) := h.zonWriteback.next

theorem State.Canon.execZonCancel (h : s.Canon) {t} : NextCanon (execZonCancel t s) :=
  State.Canon.next (h.arrive (fun h₁ => h₁.zonToken))

theorem State.Canon.execTrackExpiry (h : s.Canon) {track} : NextCanon (execTrackExpiry track s) := h.trackExpire.next

theorem State.Canon.execZonRebuild (h : s.Canon) {req copy value} : NextCanon (execZonRebuild req copy value s) :=
  h.regRow (fun h₁ => h₁.zonTableWrite)

theorem State.Canon.execZonRebuildDone (h : s.Canon) : NextCanon (execZonRebuildDone s) :=
  State.Canon.next (.ite h.setZon h)

theorem State.Canon.execZon2pcHoldTimeout (h : s.Canon) {txn} : NextCanon (execZon2pcHoldTimeout txn s) := by
  unfold Machine.execZon2pcHoldTimeout
  refine State.Canon.next ?_
  split
  · exact .ite h.setZon.zonSend h
  · exact h

theorem State.Canon.execForward (h : s.Canon) {m} : NextCanon (execForward m s) :=
  State.Canon.next (h.zonMsg (fun h₁ => h₁.zonOnForward))

theorem State.Canon.execPrepare (h : s.Canon) {m} : NextCanon (execPrepare m s) :=
  State.Canon.next (h.zonMsg (fun h₁ => h₁.zonOnPrepare))

theorem State.Canon.execVote (h : s.Canon) {m} : NextCanon (execVote m s) :=
  State.Canon.next (h.zonMsg (fun h₁ => h₁.zonOnVote))

theorem State.Canon.execDecide (h : s.Canon) {m} : NextCanon (execDecide m s) :=
  State.Canon.next (h.zonMsg (fun h₁ => h₁.zonOnDecide))

theorem State.Canon.execZonDone (h : s.Canon) {m} : NextCanon (execZonDone m s) :=
  State.Canon.next (h.zonMsg (fun h₁ => h₁.zonOnDone))

theorem State.Canon.execZonResult (h : s.Canon) {m} : NextCanon (execZonResult m s) :=
  State.Canon.next (h.zonMsg (fun h₁ => h₁.zonOnResult))

theorem State.Canon.execZonAsk (h : s.Canon) {m} : NextCanon (execZonAsk m s) :=
  State.Canon.next (h.zonMsg (fun h₁ => h₁.zonOnAsk))

theorem State.Canon.execZonConfig (h : s.Canon) {m} : NextCanon (execZonConfig m s) :=
  State.Canon.next (h.zonMsg (fun h₁ => h₁.zonOnConfig))

/-! ### Bxl -/

theorem State.Canon.setBxl (h : s.Canon) {f} : (s.setBxl f).Canon := h.of_eq

theorem State.Canon.setRos (h : s.Canon) {p e} : (s.setRos p e).Canon := h.setBxl

theorem State.Canon.bxlNotice (h : s.Canon) {kind pos status hi} : (s.bxlNotice kind pos status hi).Canon :=
  .ite h.notice h

theorem State.Canon.pairDrop (h : s.Canon) {p} : (s.pairDrop p).Canon := by
  unfold State.pairDrop
  exact h.setPair.setBxl

theorem State.Canon.mirrorAll (h : s.Canon) {p} : (s.mirrorAll p).Canon := by
  unfold State.mirrorAll
  extract_lets s₁ s₂
  have h₁ : s₁.Canon := h.foldl fun h₄ => .ite h₄ h₄.bxlSend
  have h₂ : s₂.Canon := h₁.foldl fun h₄ => .ite h₄.bxlSend h₄
  exact .ite (.ite h₂ (h₂.foldl fun h₄ => h₄.bxlSend)) (.foldl (.ite h₂ (h₂.foldl fun h₄ => h₄.bxlSend)) fun h₄ =>
      h₄.bxlSend)

theorem State.Canon.control (h : s.Canon) {dst op member status data} : (s.control dst op member status data).Canon :=
  h.bxlSend

theorem State.Canon.handoverCheck (h : s.Canon) : s.handoverCheck.Canon := by
  unfold State.handoverCheck
  split
  · exact h
  · exact .ite h (.ite h h.setBxl.control)

theorem State.Canon.handoverTo (h : s.Canon) {p} : (s.handoverTo p).Canon := h.setBxl.mirrorAll.handoverCheck

theorem State.Canon.recRetention (h : s.Canon) {base r} : CanonOut (s.recRetention base r) :=
  .ite h.pair (.ite (State.Canon.pair (CanonOut.snd (.ite h.pair h.free))) (.ite h.pair h.pair))

theorem State.Canon.guestFlowRec (h : s.Canon) {r} : (s.guestFlowRec r).Canon :=
  .ite h.setFlow (.ite h.setFlow.retireItem h)

theorem State.Canon.guestInstDrop (h : s.Canon) {src} : (s.guestInstDrop src).Canon := by
  unfold State.guestInstDrop
  split
  · exact h
  · exact h.unbind.freeInst.setBxl

theorem State.Canon.guestDrop (h : s.Canon) : s.guestDrop.Canon :=
  .setF (.setBxl (.of_eq (h.foldl fun h₁ => h₁.guestInstDrop)))

theorem State.Canon.guestDesc (h : s.Canon) {src ws} : CanonOut (s.guestDesc src ws) := by
  unfold State.guestDesc
  extract_lets s₁
  have h₁ : s₁.Canon := h.guestInstDrop
  refine .ite h₁.pair ?_
  split
  · exact h₁.pair
  · exact h₁.setInst.setFlow.setBxl.pair

theorem State.Canon.mirrorIn (h : s.Canon) {src b} : CanonOut (s.mirrorIn src b) := by
  unfold State.mirrorIn
  extract_lets _ _ _ s₄
  have h₄ : s₄.Canon := .ite h.guestDrop.setBxl h
  refine .ite h.pair ?_
  refine .ite ?_ (.ite h₄.guestDesc (.ite (.ite h₄.setBxl.pair (.ite h₄.setBxl.pair h₄.setBxl.pair)) h₄.pair))
  split
  · exact h₄.pair
  · extract_lets s₉ r₁₀ s₁₁
    have h₉ : s₉.Canon := h₄.guestPut.guestFlowRec
    have h₁₀ : CanonOut r₁₀ := .ite h₉.recRetention h₉.pair
    have h₁₁ : s₁₁.Canon := by
      unfold s₁₁
      split
      · exact h₁₀.snd.mirrorRetain
      · exact h₁₀.snd
    exact h₁₁.guestTail.pair

theorem State.Canon.takeTiles (h : s.Canon) {m} : (s.takeTiles m).Canon := by
  unfold State.takeTiles
  exact h.setBxl.setZon

theorem State.Canon.takeover (h : s.Canon) {m} : (s.takeover m).Canon := by
  unfold State.takeover
  extract_lets s₁ s₂ s₃ s₄
  have h₁ : s₁.Canon := h.setF.setF
  have h₂ : s₂.Canon := by
    unfold s₂
    refine h₁.foldl fun h₅ => ?_
    split
    · exact h₅
    · exact h₅.free.snd.setFlow
  have h₃ : s₃.Canon := h₂.foldl fun h₅ => .ite h₅.releaseFrom h₅
  have h₄ : s₄.Canon := h₃.takeTiles
  exact h₄.bxlNotice.stage

theorem State.Canon.upstream (h : s.Canon) : s.upstream.Canon := h.setF

theorem State.Canon.bxlSrc (h : s.Canon) {sel} : (s.bxlSrc sel).Canon := h.srcWrite.snd

theorem State.Canon.succeed (h : s.Canon) : s.succeed.Canon := .ite h.setF.setF.bxlSrc.timState h.setF.setF.bxlSrc

theorem State.Canon.forget (h : s.Canon) {m} : (s.forget m).Canon := by
  unfold State.forget
  extract_lets s₁
  have h₁ : s₁.Canon := .ite h.stopAnswer h
  split
  · exact .ite (.ite (.ite h₁.zonTxnEnd.zonTxnStart h₁.setZon) (.ite h₁.zonDecide.zonTxnStart h₁.setZon)) h₁
  · exact h₁

theorem State.Canon.memberGone (h : s.Canon) {m} : (s.memberGone m).Canon := by
  unfold State.memberGone
  extract_lets _ _ _ s₄ s₅ s₆ s₇ s₈ s₉ s₁₀ s₁₁ _ s₁₃
  have h₄ : s₄.Canon := h.setRos
  have h₅ : s₅.Canon := h₄.setBxl
  have h₆ : s₆.Canon := h₅.setF.setF
  have h₇ : s₇.Canon := h₆.forget
  have h₈ : s₈.Canon := .ite h₇.takeover h₇
  have h₉ : s₉.Canon := .ite h₈.succeed h₈
  have h₁₀ : s₁₀.Canon := by
    unfold s₁₀
    split
    · exact .ite h₉.zonForward h₉
    · exact h₉
  have h₁₁ : s₁₁.Canon := h₁₀.pairDrop.setF
  have h₁₃ : s₁₃.Canon := h₁₁.setRos
  exact .ite h (.ite (.ite h₁₃.handoverTo h₁₃) h₁₀)

theorem State.Canon.rosterRegs (h : s.Canon) {captain epoch} : (s.rosterRegs captain epoch).Canon :=
  h.setF.setF.setF.setF.setF.setF.setF.setF.setF

theorem State.Canon.rosterApply (h : s.Canon) {new captain epoch src} : (s.rosterApply new captain epoch src).Canon :=
    by
  unfold State.rosterApply
  extract_lets _ _ _ _ _ _ s₇ _ s₉ s₁₀ s₁₁ s₁₂ s₁₃ s₁₄ s₁₅ _ _ s₁₈ s₁₉ s₂₀ s₂₁ s₂₂ s₂₃ s₂₄
  have h₇ : s₇.Canon := h.foldl fun h₂₅ => .ite h₂₅.memberGone h₂₅
  have h₉ : s₉.Canon := h₇.setBxl
  have h₁₀ : s₁₀.Canon := h₉.foldl fun h₂₅ => .ite h₂₅.setBxl h₂₅.setBxl.setPair
  have h₁₁ : s₁₁.Canon := h₁₀.rosterRegs
  have h₁₂ : s₁₂.Canon := .ite h₁₁.gobNotCaptain h₁₁
  have h₁₃ : s₁₃.Canon := .ite h₁₂.succeed h₁₂
  have h₁₄ : s₁₄.Canon := .ite h₁₃.bxlSrc h₁₃
  have h₁₅ : s₁₅.Canon := h₁₄.upstream
  have h₁₈ : s₁₈.Canon := .ite h₁₅.pairDrop h₁₅
  have h₁₉ : s₁₉.Canon := .ite h₁₈ h₁₈.mirrorAll
  have h₂₀ : s₂₀.Canon := .ite h₁₉.setBxl h₁₅
  have h₂₁ : s₂₁.Canon := h₂₀.foldl fun h₂₅ => h₂₅.takeTiles
  have h₂₂ : s₂₂.Canon := by
    unfold s₂₂
    refine h₂₁.foldl fun h₂₅ => ?_
    split
    · exact .ite h₂₅.handoverTo h₂₅
    · exact h₂₅
  have h₂₃ : s₂₃.Canon := h₂₂.setF.setF.setBxl
  have h₂₄ : s₂₄.Canon := .ite (.ite h₂₃.setF.setF h₂₃) h₂₂
  exact h₂₄.bxlNotice

theorem State.Canon.publishAs (h : s.Canon) {new captain} : (s.publishAs new captain).Canon :=
  h.rosterApply.foldl fun h₁ => h₁.bxlSend

theorem State.Canon.publish (h : s.Canon) {new} : (s.publish new).Canon := h.publishAs

theorem State.Canon.timeCfgSend (h : s.Canon) {l} : (s.timeCfgSend l).Canon := h.setBxl.foldl fun h₁ => h₁.bxlSend

theorem State.Canon.tossSend (h : s.Canon) {p r} : (s.tossSend p r).Canon := .ite h.setBxl h

theorem State.Canon.linkNotice (h : s.Canon) {p} : (s.linkNotice p).Canon := .ite h.bxlNotice h.free.snd.bxlNotice

theorem State.Canon.trainEnd (h : s.Canon) {p detected preset skew delay} :
    (s.trainEnd p detected preset skew delay).Canon := by
  unfold State.trainEnd
  extract_lets _ s₂ s₃ s₄ s₅ r₆ s₇
  have h₂ : s₂.Canon := h.setBxl
  have h₃ : s₃.Canon := h₂.setF.setF.setF.setF
  have h₄ : s₄.Canon := .ite h₃.setF h₃
  have h₅ : s₅.Canon := .ite h₄.setBxl.tossSend h₄
  have h₆ : CanonOut r₆ := h₅.free
  have h₇ : s₇.Canon := .ite (.ite h₅.setF.setF h₆.snd.setF.setF) h₅
  exact h₇.linkNotice.upstream

theorem State.Canon.linkDown (h : s.Canon) {p} : (s.linkDown p).Canon := h.setF.setBxl.linkNotice.upstream

theorem State.Canon.toss (h : s.Canon) {p r} : (s.toss p r).Canon :=
  .ite h (.ite h.setF.linkNotice.stage (.ite h.setBxl h.setBxl.tossSend))

theorem State.Canon.stackOfOne (h : s.Canon) : s.stackOfOne.Canon := by
  unfold State.stackOfOne
  exact h.rosterApply.setBxl

theorem State.Canon.discoveryEnd (h : s.Canon) : s.discoveryEnd.Canon := by
  unfold State.discoveryEnd
  refine .ite h.setBxl ?_
  refine .ite h.stackOfOne ?_
  split
  · exact h.of_eq
  · exact .ite h.setBxl.stackOfOne (.ite (.ite h.setBxl h.setBxl.setF) (.timeCfgSend (.foldl (.rosterApply
      (h.setBxl.foldl fun h₁ => h₁.bxlNotice)) fun h₁ => h₁.bxlSend)))

theorem State.Canon.ctlForward (h : s.Canon) {p code content hopsAt} : (s.ctlForward p code content hopsAt).Canon :=
  .ite h.ctlSend h

theorem State.Canon.heartbeatSend (h : s.Canon) : s.heartbeatSend.Canon := .ite h h.setBxl.ctlSend.ctlSend

theorem State.Canon.heartbeat (h : s.Canon) {p c} : (s.heartbeat p c).Canon := by
  unfold State.heartbeat
  extract_lets _ s₂ s₃ s₄ s₅ r₆
  have h₂ : s₂.Canon := h.ctlForward
  have h₃ : s₃.Canon := .ite h₂.setF h₂
  have h₄ : s₄.Canon := .ite h₃ h₃.setF
  have h₅ : s₅.Canon := h₄.setBxl
  have h₆ : CanonOut r₆ := h₅.free
  exact .ite h (.ite h₆.snd.stopRaise h₅)

theorem State.Canon.stopBlock (h : s.Canon) {p c} : (s.stopBlock p c).Canon := .ite h h.ctlForward.setStop.stopRaise

theorem State.Canon.isolate (h : s.Canon) : s.isolate.Canon := h.setF.free.snd.bxlNotice.stage.raise

theorem State.Canon.memberFail (h : s.Canon) {m} : (s.memberFail m).Canon :=
  .ite h (.ite h.memberGone.publish h.memberGone)

theorem State.Canon.setLink (h : s.Canon) {p x} : (s.setLink p x).Canon := h.setBxl

theorem State.Canon.timeSend (h : s.Canon) {p sub} : (s.timeSend p sub).Canon := .ite h h.setLink.ctlSend

theorem State.Canon.timeApply (h : s.Canon) {off} : (s.timeApply off).Canon := by
  unfold State.timeApply
  extract_lets s₁ _ s₃ s₄ s₅
  have h₁ : s₁.Canon := h.setF
  have h₃ : s₃.Canon := h₁.setBxl
  have h₄ : s₄.Canon := .ite h₃.setF h₃
  have h₅ : s₅.Canon := .ite h₄.setF h₄
  exact .ite h₅ h₅.setF.adjApply

theorem State.Canon.timeWhole (h : s.Canon) {p} : (s.timeWhole p).Canon := by
  unfold State.timeWhole
  extract_lets _ s₂
  have h₂ : s₂.Canon := h.setLink
  split
  · exact .ite h₂.timeApply h₂
  · exact h

theorem State.Canon.timeExchange (h : s.Canon) {p isR content sub} : (s.timeExchange p isR content sub).Canon :=
  .ite h (.ite h.setLink.timeWhole h.setLink.ctlSend.timeWhole)

theorem State.Canon.joinAsk (h : s.Canon) {west toss} : (s.joinAsk west toss).Canon := by
  unfold State.joinAsk
  refine .ite h ?_
  refine .ite h.bxlNotice ?_
  split
  · exact h.bxlNotice
  · exact .ite h.setBxl.publish.timeCfgSend.handoverTo h.setBxl.publish.timeCfgSend

theorem State.Canon.handoverDone (h : s.Canon) {w p} : (s.handoverDone w p).Canon := by
  unfold State.handoverDone
  refine .ite h ?_
  extract_lets _ s₂
  have h₂ : s₂.Canon := h.setBxl
  split
  · exact .ite h₂.setBxl.publish h₂.publish
  · split
    · exact .ite h₂.setBxl.publishAs h₂.setBxl.publish
    · exact h₂.publish

theorem State.Canon.leaveAsk (h : s.Canon) {m} : (s.leaveAsk m).Canon :=
  .ite h (.ite (.ite h.setBxl.publish.setBxl.publishAs h.setBxl.publish.setBxl.publish) h.setBxl.publish)

theorem State.Canon.handoverOwn (h : s.Canon) : s.handoverOwn.Canon := by
  unfold State.handoverOwn
  split
  · exact .ite h.handoverDone h
  · exact h

theorem State.Canon.leaveStart (h : s.Canon) : s.leaveStart.Canon := .ite h.setF h

theorem State.Canon.leaveCheck (h : s.Canon) : s.leaveCheck.Canon := .ite h (.ite h.setBxl.leaveAsk h.setBxl.control)

theorem State.Canon.ackDone (h : s.Canon) {u status} : (s.ackDone u status).Canon := by
  unfold State.ackDone
  extract_lets s₁ s₂ s₃ s₄
  have h₁ : s₁.Canon := by
    unfold s₁
    split
    · exact h.outputConfirmed
    · exact h
  have h₂ : s₂.Canon := by
    unfold s₂
    split
    · exact h₁.bxlNotice
    · exact h₁
  have h₃ : s₃.Canon := .ite h₂.stopAnswer h₂
  have h₄ : s₄.Canon := h₃.setF.setF
  split
  · exact .ite h₄ (.ite h₄.descDrop h₄.descPut)
  · exact h₃.setBxl
  · exact h₃.setBxl
  · exact h₃.setBxl
  · exact h₃

theorem State.Canon.windowSend (h : s.Canon) {p before} : (s.windowSend p before).Canon := by
  unfold State.windowSend
  exact h.setBxl

theorem State.Canon.resend (h : s.Canon) {p l} : (s.resend p l).Canon := by
  unfold State.resend
  exact h.addF.setPair.setBxl

theorem State.Canon.ackIn (h : s.Canon) {m} : (s.ackIn m).Canon :=
  .ite h (.ite h.setBxl (.handoverOwn (.handoverCheck (.foldl (.ite h.setPair.windowSend.resend h.setPair.windowSend)
      fun h₁ => h₁.ackDone))))

theorem State.Canon.ackTimeout (h : s.Canon) {p} : (s.ackTimeout p).Canon := .ite h h.resend

theorem State.Canon.bexSend (h : s.Canon) {t} : CanonOut (s.bexSend t) :=
  .ite h.pair (.ite h.pair (.ite h.pair (.ite h.pair (.ite h.pair (.ite h.pair h.bxlSendWith.pair)))))

theorem State.Canon.itemMessage (h : s.Canon) {m} : CanonOut (s.itemMessage m) :=
  .ite h.pair (.ite h.pair h.offer.snd.pair)

theorem State.Canon.bxlCmdWrite (h : s.Canon) {req value} : CanonOut (s.bxlCmdWrite req value) :=
  .ite h.regRefuse (.ite h.regRefuse (.ite (.ite h.setF.setF.pair h.setF.setF.leaveStart.leaveCheck.pair)
      h.setF.setF.setF.inc.upstream.pair))

theorem State.Canon.bxlRegWrite (h : s.Canon) {req isl base value} : CanonOpt (s.bxlRegWrite req isl base value) := by
  unfold State.bxlRegWrite
  refine .ite .none ?_
  extract_lets _ _ r₃ r₄
  have h₃ : CanonOpt r₃ := .some h.regRefuse
  have h₄ : CanonOpt r₄ := .some h.regW
  exact .ite (.ite h₃ h₄) (.ite (.ite h₃ h₄) (.ite (.ite h₃ h₄) (.ite (.some h.bxlCmdWrite) (.ite (.ite (.some
      h.regRefuse) h₄) .none))))

/-! ### GbbTrack -/

theorem State.Canon.secFound (h : s.Canon) {c g p} : (s.secFound c g p).Canon :=
  .ite h.setCh.setF.setF h.setCh.setF.setF

theorem State.Canon.secSeek (h : s.Canon) {c g b} : (s.secSeek c g b).Canon := by
  unfold State.secSeek
  extract_lets _ _ _ _ s₅
  have h₅ : s₅.Canon := h.setCh
  refine .ite h ?_
  split
  · split
    · exact .ite h₅ (.ite h₅.secFound h₅.setCh)
    · exact h₅
  · exact .ite h₅.setCh (.ite h₅.secFound h₅.setCh)

theorem State.Canon.bitSeek (h : s.Canon) {c g b} : (s.bitSeek c g b).Canon :=
  .ite h.setCh (.ite h.setCh.setF h.setCh)

theorem State.Canon.dumpRing (h : s.Canon) {c seq rec} : (s.dumpRing c seq rec).Canon :=
  .ite h (.ite h.inc (.ite h.memWrite.snd.setF.sendQ h.memWrite.snd.setF))

theorem State.Canon.autoMove (h : s.Canon) {c g full cn0} : (s.autoMove c g full cn0).Canon :=
  .ite h.chEnter (.ite h.chEnter (.ite (.ite h.setCh.chEvent.inc.chEnter.coastExit h.setCh.chEvent.inc.chEnter) (.ite
      h.chEnter h)))

theorem State.Canon.bound (h : s.Canon) {c g b} : (s.bound c g b).Canon := by
  unfold State.bound
  extract_lets _ _ _ _ _ _ _ _ _ _ _ _ _ _ _ _ _ _ _ _ _ _ _ _ _ _ _ _ _ _ _ _ s₃₃ s₃₄ s₃₅ s₃₆ s₃₇ s₃₈ _ s₄₀ s₄₁
  have h₃₃ : s₃₃.Canon := h.setCh
  have h₃₄ : s₃₄.Canon := h₃₃.setF.setF.setF
  have h₃₅ : s₃₅.Canon := .ite h₃₄.slip h₃₄
  have h₃₆ : s₃₆.Canon := .ite h₃₅.chEvent.inc h₃₅
  have h₃₇ : s₃₇.Canon := h₃₆.dumpRing
  have h₃₈ : s₃₈.Canon := .ite (.ite h₃₇.secSeek h₃₇.bitSeek) h₃₇
  have h₄₀ : s₄₀.Canon := .ite h₃₈ h₃₈.autoMove
  have h₄₁ : s₄₁.Canon := .ite h₄₀ h₄₀.chOpDone
  exact h₄₁.chNco.chFlush

theorem State.Canon.execIntegrationBoundary (h : s.Canon) {c b} : NextCanon (execIntegrationBoundary c b s) := by
  unfold Machine.execIntegrationBoundary
  refine State.Canon.next ?_
  refine .ite h ?_
  split
  · exact h.bound
  · exact h

theorem State.Canon.vecNotice (h : s.Canon) {seq applied skipped status} :
    (s.vecNotice seq applied skipped status).Canon :=
  h.notice

theorem State.Canon.vecServe (h : s.Canon) {t} : CanonOut (s.vecServe t) :=
  .ite h.pair (.ite h.pair (.ite h.inc.vecNotice.pair (.ite h.inc.vecNotice.pair (.ite h.inc.vecNotice.pair
      h.of_eq.pair))))

theorem State.Canon.vecEntry (h : s.Canon) {seq e} : (s.vecEntry seq e).Canon := by
  unfold State.vecEntry
  split
  · exact h
  · exact h.setCh.chNco

theorem State.Canon.execVectorUpdate (h : s.Canon) {t} : NextCanon (execVectorUpdate t s) :=
  State.Canon.next (h.arrive (fun h₁ => h₁.vecServe))

theorem State.Canon.execVectorApply (h : s.Canon) : NextCanon (execVectorApply s) := by
  unfold Machine.execVectorApply
  refine State.Canon.next ?_
  split
  · exact h
  · exact .ite h (.vecNotice (h.of_eq.foldl fun h₁ => h₁.vecEntry))

/-! ### GbbSearch -/

theorem State.Canon.setSr (h : s.Canon) {k x} : (s.setSr k x).Canon := h.of_eq.setF.setF

theorem State.Canon.searchServe (h : s.Canon) {k t} : CanonOut (s.searchServe k t) :=
  .ite h.pair (.ite h.pair h.of_eq.setSr.pair)

theorem State.Canon.searchNotice (h : s.Canon) {addr b status found} : (s.searchNotice addr b status found).Canon :=
  h.notice

theorem State.Canon.reacqFail (h : s.Canon) {c} : (s.reacqFail c).Canon := .ite h.chEnter.chEvent.chFlush h

theorem State.Canon.captureStart (h : s.Canon) {k} : (s.captureStart k).Canon := by
  unfold State.captureStart
  extract_lets
  split
  · extract_lets
    split
    · exact .ite h.setSr h.setSr.inc.reacqFail
    · exact .ite h.setSr h.setSr.inc.searchNotice
  · exact h

theorem State.Canon.handOver (h : s.Canon) {c sid sig num m capture} : CanonOut (s.handOver c sid sig num m capture) :=
    by
  unfold State.handOver
  extract_lets s₁ s₂ s₃
  have h₁ : s₁.Canon := h.setF.setF.setF
  have h₂ : s₂.Canon := h₁.setF.setF.setF
  have h₃ : s₃.Canon := h₂.setF
  exact .ite h₃.startGo.pair h₃.pair

theorem State.Canon.resultRun (h : s.Canon) {b capture nums ms used} : CanonOut₂ (s.resultRun b capture nums ms used) :=
    by
  induction nums generalizing s ms used with
  | nil => exact h
  | cons num nums ih =>
    unfold State.resultRun
    extract_lets none' m cells len m' found pool
    clear_value pool
    split
    · exact (ih h).snd.pair.pair
    · exact (ih (.ite h.handOver.snd.chEvent.chFlush h.handOver.snd)).snd.pair.pair

theorem State.Canon.reacqDone (h : s.Canon) {c m capture} : (s.reacqDone c m capture).Canon :=
  .ite h (.ite (.ite h.handOver.snd.inc.chFlush h.handOver.snd.reacqFail) h.reacqFail)

theorem State.Canon.searchDone (h : s.Canon) {k ms} : (s.searchDone k ms).Canon := by
  unfold State.searchDone
  extract_lets _ s₂
  have h₂ : s₂.Canon := h.setSr.inc
  split
  · exact h
  · split
    · exact h₂.reacqDone
    · exact h₂.resultRun.snd.snd.memWrite.snd.searchNotice

theorem State.Canon.cancelled (h : s.Canon) {k addr b capture} : (s.cancelled k addr b capture).Canon := by
  unfold State.cancelled
  extract_lets r₁ s₂ _ s₄
  have h₁ : CanonOut r₁ := by
    unfold r₁
    split
    · exact h.pair
    · exact h.free
  have h₂ : s₂.Canon := h₁.snd
  have h₄ : s₄.Canon := .ite h₂.memWrite.snd h₂
  exact h₄.searchNotice

theorem State.Canon.searchCancel (h : s.Canon) {t} : CanonOut (s.searchCancel t) := by
  unfold State.searchCancel
  refine .ite h.pair ?_
  extract_lets
  split
  · exact h.setSr.cancelled.pair
  · exact h.setSr.cancelled.pair
  · exact h.setSr.cancelled.pair
  · exact h.setSr.cancelled.pair
  · exact h.pair

theorem State.Canon.gbbToken (h : s.Canon) {t} : CanonOut (s.gbbToken t) := by
  unfold State.gbbToken
  split
  · exact h.searchServe
  · exact h.searchServe
  · exact h.searchServe
  · exact h.searchCancel
  · exact h.vecServe
  · exact h.pair

theorem State.Canon.reacqMark (h : s.Canon) : s.reacqMark.Canon := h.foldl fun h₁ => .ite h₁.placeReacq h₁

theorem State.Canon.gbbClear (h : s.Canon) : s.gbbClear.Canon := h.of_eq

theorem State.Canon.execSearchCommand (h : s.Canon) {t} : NextCanon (execSearchCommand t s) :=
  State.Canon.next (h.arrive (fun h₁ => h₁.gbbToken))

theorem State.Canon.execSearchCaptureStart (h : s.Canon) {k} : NextCanon (execSearchCaptureStart k s) :=
  h.captureStart.next

theorem State.Canon.execSearchDone (h : s.Canon) {k ms} : NextCanon (execSearchDone k ms s) := h.searchDone.next

theorem State.Canon.execSearchCancel (h : s.Canon) {t} : NextCanon (execSearchCancel t s) :=
  State.Canon.next (h.arrive (fun h₁ => h₁.searchCancel))

/-! ### Pos -/

theorem State.Canon.setPos (h : s.Canon) {x} : (s.setPos x).Canon := h.of_eq.setF

theorem State.Canon.setUnit (h : s.Canon) {u a} : (s.setUnit u a).Canon := by
  unfold State.setUnit
  extract_lets _ s₂ s₃
  have h₂ : s₂.Canon := h.of_eq
  have h₃ : s₃.Canon := h₂.setF
  split <;> exact h₃.setF.setF

theorem State.Canon.posServe (h : s.Canon) {t} : CanonOut (s.posServe t) :=
  .ite h.inc.pair (.ite h.inc.pair h.setPos.pair)

theorem State.Canon.posNotice (h : s.Canon) {b addr status found} : (s.posNotice b addr status found).Canon :=
  h.notice

theorem State.Canon.posStart (h : s.Canon) {u} : (s.posStart u).Canon := by
  unfold State.posStart
  extract_lets
  refine .ite h ?_
  split
  · exact h
  · exact .ite h.setPos.setUnit h.setPos.inc.posNotice

theorem State.Canon.posFinish (h : s.Canon) {u x stop} : (s.posFinish u x stop).Canon := by
  unfold State.posFinish
  extract_lets _ _ _ _ _ _ _ _ s₉ _ _ _ _ _ _ s₁₆ s₁₇ s₁₈
  have h₉ : s₉.Canon := h.setUnit.inc
  have h₁₆ : s₁₆.Canon := h₉.addF
  have h₁₇ : s₁₇.Canon := .ite h₁₆.inc (.ite h₁₆.inc h₁₆)
  have h₁₈ : s₁₈.Canon := h₁₇.memWrite.snd
  split
  · exact h₉.memWrite.snd.posNotice
  · exact h₁₈.memWrite.snd.posNotice

theorem State.Canon.posCancelled (h : s.Canon) {u addr b start} : (s.posCancelled u addr b start).Canon := by
  unfold State.posCancelled
  extract_lets r₁ r₂ r₃ r₄ s₅ _ s₇
  have h₁ : CanonOut r₁ := by
    unfold r₁
    split
    · exact h.pair
    · exact h.free
  have h₂ : CanonOut r₂ := h₁.snd.free
  have h₃ : CanonOut r₃ := h₂.snd.free
  have h₄ : CanonOut r₄ := h₃.snd.free
  have h₅ : s₅.Canon := h₄.snd.inc
  have h₇ : s₇.Canon := .ite h₅.memWrite.snd h₅
  exact h₇.posNotice

theorem State.Canon.posCancel (h : s.Canon) {t} : CanonOut (s.posCancel t) := by
  unfold State.posCancel
  refine .ite h.pair ?_
  split
  · exact h.setPos.posCancelled.pair
  · extract_lets
    split
    · exact h.setUnit.posCancelled.pair
    · exact h.setUnit.posCancelled.pair
    · exact h.pair

theorem State.Canon.posToken (h : s.Canon) {t} : CanonOut (s.posToken t) := by
  unfold State.posToken
  split
  · exact h.posServe
  · exact h.posCancel
  · exact h.pair

theorem State.Canon.posClear (h : s.Canon) : s.posClear.Canon := h.of_eq

theorem State.Canon.execPosCommand (h : s.Canon) {t} : NextCanon (execPosCommand t s) :=
  State.Canon.next (h.arrive (fun h₁ => h₁.posToken))

theorem State.Canon.execPosCommandStart (h : s.Canon) {u} : NextCanon (execPosCommandStart u s) := h.posStart.next

theorem State.Canon.execPosSearchDone (h : s.Canon) {u} : NextCanon (execPosSearchDone u s) := by
  unfold Machine.execPosSearchDone
  refine State.Canon.next ?_
  split
  · exact h.posFinish
  · exact h

theorem State.Canon.execPosDeadline (h : s.Canon) {u} : NextCanon (execPosDeadline u s) := by
  unfold Machine.execPosDeadline
  refine State.Canon.next ?_
  split
  · exact .ite h.free.snd.posFinish h
  · exact h

theorem State.Canon.execPosCancel (h : s.Canon) {t} : NextCanon (execPosCancel t s) :=
  State.Canon.next (h.arrive (fun h₁ => h₁.posCancel))

/-! ### Reset -/

theorem State.Canon.cellWrite (h : s.Canon) {kind isl status cause failMap} :
    (s.cellWrite kind isl status cause failMap).Canon :=
  h.of_eq

theorem State.Canon.moduleReset (h : s.Canon) {c} : (s.moduleReset c).Canon := by
  unfold State.moduleReset
  refine .foldl (.setF ?_) fun h₁ => h₁.setF
  exact ⟨Memory.wf_filter _ _ h.mem, State.Canon.reset.regs⟩

theorem State.Canon.faultReset (h : s.Canon) {isl cause} : (s.faultReset isl cause).Canon := h.cellWrite.moduleReset

theorem State.Canon.heldRefuse (h : s.Canon) {isl} : (s.heldRefuse isl).Canon := by
  unfold State.heldRefuse
  extract_lets
  refine h.of_eq.foldl fun h₃ => ?_
  split
  · exact h₃.answerTo
  · exact h₃.refuse.ans
  · exact h₃

theorem State.Canon.memLost (h : s.Canon) {isl} : (s.memLost isl).Canon := .ite h.filterMem h

theorem State.Canon.anchorLost (h : s.Canon) {ch} : (s.anchorLost ch).Canon := by
  unfold State.anchorLost
  extract_lets s₁ s₂
  have h₁ : s₁.Canon := h.zonAnchorLost
  have h₂ : s₂.Canon := .ite h₁.spillLost h₁
  exact .ite h₂.setF (.ite h₂.linkDown h₂)

theorem State.Canon.isolateOnce (h : s.Canon) : s.isolateOnce.Canon := .ite h.isolate h

theorem State.Canon.islandLost (h : s.Canon) {isl} : (s.islandLost isl).Canon :=
  .ite (.ite h.rebindEngine.setEng.anchorLost h.rebindEngine.setEng) (.ite h.of_eq (.ite h.of_eq (.ite h.of_eq (.ite
      h.gbbClear (.ite h.of_eq (.ite h.posClear (.ite h.radClear (.ite h.zonClear (.ite h.mchClear (.ite h.talClear
      (.ite h.canClear (.ite h.ethClear.setF.setF (.ite h.of_eq (.ite h.of_eq h))))))))))))))

theorem State.Canon.islandRegs (h : s.Canon) {isl} : (s.islandRegs isl).Canon :=
  .ite h (h.resetRegs.foldl fun h₁ => h₁.setF)

theorem State.Canon.fence (h : s.Canon) {isl cause} : (s.fence isl cause).Canon := by
  unfold State.fence
  refine .ite h ?_
  refine .ite h.faultReset ?_
  extract_lets _ s₂ s₃ s₄ s₅ s₆ s₇
  have h₂ : s₂.Canon := .ite h.of_eq.setF h
  have h₃ : s₃.Canon := h₂.islandLost.memLost.islandRegs
  have h₄ : s₄.Canon := h₃.of_eq
  have h₅ : s₅.Canon := h₄.setF.setF
  have h₆ : s₆.Canon := h₅.heldRefuse
  have h₇ : s₇.Canon := h₆.stage
  exact .ite h₇.raise (.ite h₇.isolateOnce h₇)

/-! ### Upd -/

theorem State.Canon.setUpd (h : s.Canon) {f} : (s.setUpd f).Canon := h.of_eq

theorem State.Canon.norWrite (h : s.Canon) {a bs mismatches} : CanonOut (s.norWrite a bs mismatches) :=
  .ite h.wrBytes.pair h.free.snd.wrBytes.stage.pair

theorem State.Canon.updFlagSet (h : s.Canon) {k v} : (s.updFlagSet k v).Canon := h.setUpd

theorem State.Canon.updNotice (h : s.Canon) {kind} : (s.updNotice kind).Canon := .ite h.notice h

theorem State.Canon.updJournal (h : s.Canon) : s.updJournal.Canon := by
  unfold State.updJournal
  exact h.copyAB.setUpd

theorem State.Canon.updEnter (h : s.Canon) {st} : (s.updEnter st).Canon :=
  .ite h.setF.updJournal h.setF.updJournal.updNotice

theorem State.Canon.updFresh (h : s.Canon) {st} : (s.updFresh st).Canon := h.setF.updEnter

theorem State.Canon.updLoad (h : s.Canon) : s.updLoad.Canon := by
  unfold State.updLoad
  split
  · exact h
  · exact h.setF.setF.setF.setF.setF.setF.setF.setF.setF.setUpd

theorem State.Canon.updSend (h : s.Canon) {dst op status index txn piece data act} :
    (s.updSend dst op status index txn piece data act).Canon :=
  h.bxlSendWith

theorem State.Canon.updTell (h : s.Canon) {dst op status} : (s.updTell dst op status).Canon := h.updSend

theorem State.Canon.updAsk (h : s.Canon) : s.updAsk.Canon := h.setUpd.updSend

theorem State.Canon.updDone (h : s.Canon) {status} : (s.updDone status).Canon := h.setF.setF

theorem State.Canon.updEnd (h : s.Canon) {op status} : (s.updEnd op status).Canon := .ite h.updDone h

theorem State.Canon.updWrite (h : s.Canon) : s.updWrite.Canon :=
  .ite h.updDone (.ite h.updDone (.ite h.updDone h.setF.setUpd))

theorem State.Canon.updWritten (h : s.Canon) {mismatches} : (s.updWritten mismatches).Canon := by
  unfold State.updWritten
  split
  · exact h
  · extract_lets s₁ r₂ s₃ s₄ s₅ s₆ s₇
    have h₁ : s₁.Canon := h.setUpd
    have h₂ : CanonOut r₂ := h₁.norWrite
    have h₃ : s₃.Canon := h₂.snd
    have h₄ : s₄.Canon := .ite h₃.setUpd h₃
    have h₅ : s₅.Canon := h₄.setF
    have h₆ : s₆.Canon := .ite h₅.updEnter h₅.updJournal
    have h₇ : s₇.Canon := h₆.updNotice
    exact .ite (.ite h₃.updDone h₃) (.ite h₇.updDone h₇)

theorem State.Canon.updVerified (h : s.Canon) : s.updVerified.Canon :=
  .ite h (.updEnd (.ite h.updEnter h.setF.updFresh))

theorem State.Canon.swapStart (h : s.Canon) {st} : (s.swapStart st).Canon := h.setUpd.setF.setF.setF.updEnter

theorem State.Canon.trialEnd (h : s.Canon) {confirm status} : (s.trialEnd confirm status).Canon :=
  .updNotice (.ite h.setUpd.updFlagSet.setF.updEnter h.setUpd.updFlagSet.setF.swapStart)

theorem State.Canon.updKeep (h : s.Canon) {txn op status} : (s.updKeep txn op status).Canon := h.setUpd

theorem State.Canon.updAnnounce (h : s.Canon) {op status} : (s.updAnnounce op status).Canon := by
  unfold State.updAnnounce
  extract_lets s₁ s₂
  have h₁ : s₁.Canon := h.updKeep.setUpd
  have h₂ : s₂.Canon := h₁.foldl fun h₃ => h₃.updTell
  exact .ite (.ite h₂.updEnd.swapStart h₂.updEnd) h₂.trialEnd

theorem State.Canon.updRecordSend (h : s.Canon) {op status} : (s.updRecordSend op status).Canon :=
  .ite h.setUpd.updAnnounce (.ite h.setUpd.setBxl h.setUpd.updSend)

theorem State.Canon.updDecide (h : s.Canon) : s.updDecide.Canon := .ite h (.ite h.updRecordSend h.updAnnounce)

theorem State.Canon.updVerdict (h : s.Canon) {confirm reason} : (s.updVerdict confirm reason).Canon :=
  .ite h h.setUpd.updRecordSend

theorem State.Canon.updHealthyCheck (h : s.Canon) : s.updHealthyCheck.Canon := .ite h.updVerdict h

theorem State.Canon.updActivate (h : s.Canon) : s.updActivate.Canon :=
  .ite h.updDone (.ite h.setF.setUpd.swapStart.updDone (.ite h.updDone (.ite h.updDone (.updDecide
      (h.setF.setF.setUpd.updJournal.foldl fun h₁ => h₁.updSend)))))

theorem State.Canon.updRestart (h : s.Canon) : s.updRestart.Canon :=
  .ite h.updDone (.ite h.moduleReset (.ite h.updDone (.ite h.updDone (h.setF.setUpd.foldl fun h₁ => h₁.updSend))))

theorem State.Canon.updConfirm (h : s.Canon) : s.updConfirm.Canon := by
  unfold State.updConfirm
  refine .ite h.updDone ?_
  refine .ite h.trialEnd.updDone ?_
  extract_lets s₁
  have h₁ : s₁.Canon := h.updFlagSet.updJournal.updDone
  exact .ite h₁.setUpd.updHealthyCheck h₁.updTell

theorem State.Canon.updReject (h : s.Canon) : s.updReject.Canon :=
  .ite h.updDone (.ite h.updDone (.ite h.trialEnd.updDone (.ite h.updDone.updVerdict h.updDone.updTell)))

theorem State.Canon.updDistribute (h : s.Canon) : s.updDistribute.Canon := by
  unfold State.updDistribute
  refine .ite h.updDone ?_
  extract_lets _ s₂ s₃
  have h₂ : s₂.Canon := h.setF
  have h₃ : s₃.Canon := h₂.foldl fun h₄ => h₄.foldl fun h₅ => h₅.foldl fun h₆ => h₆.updSend
  exact .ite h₃.updDone h₃

theorem State.Canon.updBegin (h : s.Canon) : s.updBegin.Canon := .ite h.setUpd.updFresh.updDone h.updDone

theorem State.Canon.updVerify (h : s.Canon) : s.updVerify.Canon := .ite h.setF.updEnter h.updDone

theorem State.Canon.updAbandon (h : s.Canon) : s.updAbandon.Canon := .ite h.setUpd.updFresh.updDone h.updDone

theorem State.Canon.updCmdWrite (h : s.Canon) {req value} : CanonOut (s.updCmdWrite req value) :=
  .ite h.regRefuse (.ite h.regRefuse (State.Canon.pair (.ite h.setF.setF.updBegin (.ite h.setF.setF.updWrite (.ite
      h.setF.setF.updVerify (.ite h.setF.setF.updActivate (.ite h.setF.setF.updRestart (.ite h.setF.setF.updConfirm
      (.ite h.setF.setF.updReject (.ite h.setF.setF.updDistribute h.setF.setF.updAbandon))))))))))

theorem State.Canon.updRegWrite (h : s.Canon) {req isl base value} : CanonOpt (s.updRegWrite req isl base value) :=
  .ite .none (.ite (.some h.updCmdWrite) (.ite (.some (.ite h.regRefuse h.regW)) .none))

theorem State.Canon.swapPhase (h : s.Canon) {mismatches} : (s.swapPhase mismatches).Canon := by
  unfold State.swapPhase
  extract_lets _ _ _ _ _ _ _ _ r₉ s₁₀ s₁₁
  have h₉ : CanonOut r₉ := h.norWrite
  have h₁₀ : s₁₀.Canon := .ite h₉.snd.setF h₉.snd.setF.setF
  have h₁₁ : s₁₁.Canon := h₁₀.updEnter
  exact .ite h (.ite h₉.snd.setF.setUpd (.ite (.ite h₁₁ (.ite h₁₁.setUpd h₁₁.updTell)) h₁₀.updJournal))

theorem State.Canon.confirming (h : s.Canon) : s.confirming.Canon :=
  .ite h (.updEnter (.setF (.setF (.updFlagSet (.updFlagSet (.setUpd (.setF (.setF (.ite h h.wrBytes)))))))))

theorem State.Canon.reverting (h : s.Canon) : s.reverting.Canon := .ite h (.ite h.updFresh h.updFresh.moduleReset)

theorem State.Canon.updSecond (h : s.Canon) : s.updSecond.Canon := .ite h h.setUpd.setF.updJournal

theorem State.Canon.trialTimeout (h : s.Canon) : s.trialTimeout.Canon :=
  .ite h (.ite h.trialEnd (.ite h.updVerdict h.updAsk))

theorem State.Canon.updBlock (h : s.Canon) {m} : CanonOut (s.updBlock m) := by
  unfold State.updBlock
  extract_lets _ _ _ s₄
  have h₄ : s₄.Canon := .ite h.setUpd.updFresh h
  exact .ite h.pair (.ite h₄.pair (.ite h₄.pair (.ite h₄.pair (.ite h₄.setUpd.pair (.ite h₄.pair (.ite h₄.setUpd.pair
      (.ite h₄.setUpd.pair h₄.setUpd.pair)))))))

theorem State.Canon.updPrepare (h : s.Canon) {m} : (s.updPrepare m).Canon := .updSend (.ite h.setF.setUpd.updEnter h)

theorem State.Canon.updVote (h : s.Canon) {txn p status} : (s.updVote txn p status).Canon := .ite h h.setUpd.updDecide

theorem State.Canon.updDecided (h : s.Canon) {m} : (s.updDecided m).Canon := .ite h (.ite h.swapStart h.updEnter)

theorem State.Canon.updJudged (h : s.Canon) {m} : (s.updJudged m).Canon := .ite h h.trialEnd

theorem State.Canon.updAsked (h : s.Canon) {m} : (s.updAsked m).Canon := by
  unfold State.updAsked
  extract_lets
  refine .ite h ?_
  refine .ite ?_ ?_
  · split
    · exact h.updSend
    · exact .ite h.updVerdict h.updKeep.updSend
  · split
    · exact h.updSend
    · exact .ite h (.ite h.setUpd.updAnnounce h.updKeep.updSend)

theorem State.Canon.updActDone (h : s.Canon) {op txn x ack} : (s.updActDone op txn x ack).Canon := by
  unfold State.updActDone
  refine .ite (.ite h (.ite h.updDone (.ite h h.updDone))) ?_
  refine .ite (.ite h h.updVote) ?_
  split
  · exact .ite h (.ite h.updRecordSend h.updAnnounce)
  · exact h

theorem State.Canon.updMsg {f : State → State} (h : s.Canon) (hf : ∀ {t}, t.Canon → (f t).Canon) {m} :
    (s.updMsg m f).Canon :=
  h.bxlIn (fun h₁ => State.Canon.pair (hf h₁))

theorem State.Canon.updCmdRow (h : s.Canon) {req value} : NextCanon (s.updCmdRow req value) :=
  h.regRow (fun h₁ => h₁.updCmdWrite)

theorem State.Canon.execBegin (h : s.Canon) {req} : NextCanon (execBegin req s) := h.updCmdRow

theorem State.Canon.execWriteBlock (h : s.Canon) {req} : NextCanon (execWriteBlock req s) := h.updCmdRow

theorem State.Canon.execWriteBlockDone (h : s.Canon) {mismatches} : NextCanon (execWriteBlockDone mismatches s) :=
  h.updWritten.next

theorem State.Canon.execVerify (h : s.Canon) {req} : NextCanon (execVerify req s) := h.updCmdRow

theorem State.Canon.execVerifyDone (h : s.Canon) : NextCanon (execVerifyDone s) := h.updVerified.next

theorem State.Canon.execActivate (h : s.Canon) {req} : NextCanon (execActivate req s) := h.updCmdRow

theorem State.Canon.execSwapPhaseDone (h : s.Canon) {mismatches} : NextCanon (execSwapPhaseDone mismatches s) :=
  h.swapPhase.next

theorem State.Canon.execRestart (h : s.Canon) {req} : NextCanon (execRestart req s) := h.updCmdRow

theorem State.Canon.execConfirm (h : s.Canon) {req} : NextCanon (execConfirm req s) := h.updCmdRow

theorem State.Canon.execReject (h : s.Canon) {req reason} : NextCanon (execReject req reason s) := h.updCmdRow

theorem State.Canon.execDistribute (h : s.Canon) {req} : NextCanon (execDistribute req s) := h.updCmdRow

theorem State.Canon.execAbandon (h : s.Canon) {req} : NextCanon (execAbandon req s) := h.updCmdRow

theorem State.Canon.execTrialTimeout (h : s.Canon) : NextCanon (execTrialTimeout s) := h.trialTimeout.next

theorem State.Canon.execConfirming (h : s.Canon) : NextCanon (execConfirming s) := h.confirming.next

theorem State.Canon.execReverting (h : s.Canon) : NextCanon (execReverting s) := h.reverting.next

theorem State.Canon.execUpdateBlock (h : s.Canon) {m} : NextCanon (execUpdateBlock m s) :=
  State.Canon.next (h.bxlIn (fun h₁ => h₁.updBlock.snd.pair))

theorem State.Canon.execUpdatePrepare (h : s.Canon) {m} : NextCanon (execUpdatePrepare m s) :=
  State.Canon.next (h.updMsg (fun h₁ => h₁.updPrepare))

theorem State.Canon.execUpdateVote (h : s.Canon) {m} : NextCanon (execUpdateVote m s) :=
  State.Canon.next (h.updMsg (fun h₁ => h₁.updVote))

theorem State.Canon.execUpdateDecide (h : s.Canon) {m} : NextCanon (execUpdateDecide m s) :=
  State.Canon.next (h.updMsg (fun h₁ => h₁.updDecided))

theorem State.Canon.execUpdateSwapped (h : s.Canon) {m} : NextCanon (execUpdateSwapped m s) :=
  State.Canon.next (h.updMsg (fun h₁ => .ite h₁.setUpd h₁))

theorem State.Canon.execUpdateRestart (h : s.Canon) {m} : NextCanon (execUpdateRestart m s) :=
  State.Canon.next (h.updMsg (fun h₁ => .ite h₁.setUpd h₁))

theorem State.Canon.execUpdateRestartTime (h : s.Canon) : NextCanon (execUpdateRestartTime s) := by
  unfold Machine.execUpdateRestartTime
  refine State.Canon.next ?_
  split
  · exact .ite h.moduleReset h
  · exact h

theorem State.Canon.execHealthy (h : s.Canon) {m} : NextCanon (execHealthy m s) :=
  State.Canon.next (h.updMsg (fun h₁ => .ite h₁.setUpd.updHealthyCheck h₁))

theorem State.Canon.execUnhealthy (h : s.Canon) {m} : NextCanon (execUnhealthy m s) :=
  State.Canon.next (h.updMsg (fun h₁ => .ite h₁.updVerdict h₁))

theorem State.Canon.execVerdict (h : s.Canon) {m} : NextCanon (execVerdict m s) :=
  State.Canon.next (h.updMsg (fun h₁ => h₁.updJudged))

theorem State.Canon.execUpdateAsk (h : s.Canon) {m} : NextCanon (execUpdateAsk m s) :=
  State.Canon.next (h.updMsg (fun h₁ => h₁.updAsked))

theorem State.Canon.execUpdateRecord (h : s.Canon) {m} : NextCanon (execUpdateRecord m s) :=
  State.Canon.next (h.updMsg (fun h₁ => h₁.updKeep))

theorem State.Canon.execDecideTimeout (h : s.Canon) : NextCanon (execDecideTimeout s) :=
  State.Canon.next (.ite h.updAsk h)

/-! ### Scb -/

theorem State.Canon.setScb (h : s.Canon) {f} : (s.setScb f).Canon := h.of_eq

theorem State.Canon.scbPointer (h : s.Canon) {r active} : (s.scbPointer r active).Canon := .ite h h.wrBytes

theorem State.Canon.scbMarks (h : s.Canon) : s.scbMarks.Canon := .ite h h.wrBytes

theorem State.Canon.scbOpen (h : s.Canon) {r} : (s.scbOpen r).Canon := by
  unfold State.scbOpen
  exact h.setF.setF.setF.setF.setF.setScb

theorem State.Canon.scbLoad (h : s.Canon) : s.scbLoad.Canon := h.scbOpen.foldl fun h₁ => h₁.setF.setF.setF

theorem State.Canon.scbNotice (h : s.Canon) {kind x} : (s.scbNotice kind x).Canon := .ite h.notice h

theorem State.Canon.scbEnd (h : s.Canon) {status src task} : (s.scbEnd status src task).Canon := by
  unfold State.scbEnd
  extract_lets s₁
  have h₁ : s₁.Canon := h.setF.setF
  split
  · exact h₁.answerTo
  · exact h₁

theorem State.Canon.scbWaitEnd (h : s.Canon) {status} : (s.scbWaitEnd status).Canon := by
  unfold State.scbWaitEnd
  split
  · exact h.setScb.scbEnd
  · exact h

theorem State.Canon.scbSendEnd (h : s.Canon) {status} : (s.scbSendEnd status).Canon := by
  unfold State.scbSendEnd
  split
  · exact h.setScb.scbNotice.scbEnd
  · exact h

theorem State.Canon.markTo (h : s.Canon) {k seq off} : (s.markTo k seq off).Canon := h.setF.setF

theorem State.Canon.markLost (h : s.Canon) {k seq off lost} : (s.markLost k seq off lost).Canon :=
  h.markTo.addF.setF.scbNotice

theorem State.Canon.scbOldest (h : s.Canon) {keep} : (s.scbOldest keep).Canon :=
  h.setScb.setF.setF.foldl fun h₁ => .ite h₁.markLost h₁

theorem State.Canon.scbPut (h : s.Canon) {r} : (s.scbPut r).Canon := by
  unfold State.scbPut
  extract_lets _ _ _ _ _ s₆ _ _ s₉ s₁₀ s₁₁ s₁₂ s₁₃ _ s₁₅
  have h₆ : s₆.Canon := .ite h h.wrBytes
  have h₉ : s₉.Canon := .ite h₆ (.ite h₆.scbOldest.setScb h₆.scbOldest)
  have h₁₀ : s₁₀.Canon := .ite h₉.setF.setF h₉
  have h₁₁ : s₁₁.Canon := h₁₀.foldl fun h₁₆ => .ite h₁₆.markTo h₁₆
  have h₁₂ : s₁₂.Canon := h₁₁.wrBytes
  have h₁₃ : s₁₃.Canon := h₁₂.setScb
  have h₁₅ : s₁₅.Canon := h₁₃.setF.setF
  exact h₁₅.scbPointer.scbMarks

theorem State.Canon.scbNext (h : s.Canon) : s.scbNext.Canon := by
  unfold State.scbNext
  refine .ite h ?_
  refine .ite h.setScb ?_
  split
  · exact h.setScb
  · exact h.setScb
  · exact h

theorem State.Canon.scbClear (h : s.Canon) {requester} : (s.scbClear requester).Canon :=
  h.setScb.setF.setF.foldl fun h₁ => h₁.markTo

theorem State.Canon.scbTurn (h : s.Canon) {r n} : (s.scbTurn r n).Canon := h.scbOpen.foldl fun h₁ => h₁.markLost

theorem State.Canon.scbLogfail (h : s.Canon) : s.scbLogfail.Canon :=
  .scbSendEnd (.scbWaitEnd (h.setScb.setF.cellWrite.scbNotice.foldl fun h₁ => h₁.cellEvent))

theorem State.Canon.scbFault (h : s.Canon) {failed} : (s.scbFault failed).Canon := h.scbTurn.setScb.scbNotice

theorem State.Canon.scbMain (h : s.Canon) {r bad} : (s.scbMain r bad).Canon :=
  .ite h.setScb.scbWaitEnd h.scbPointer.scbTurn.scbPut.setScb.scbWaitEnd

theorem State.Canon.scbWritten (h : s.Canon) {bad} : (s.scbWritten bad).Canon := by
  unfold State.scbWritten
  split
  · exact h
  · refine .ite h.scbMain.scbNext ?_
    refine .ite (.ite h.scbFault h.scbLogfail) ?_
    extract_lets s₁
    have h₁ : s₁.Canon := h.scbPut.setScb
    split
    · exact h₁.scbNext
    · exact .ite h₁.scbWaitEnd.scbNext h₁.scbClear

theorem State.Canon.sendNext (h : s.Canon) : s.sendNext.Canon := by
  unfold State.sendNext
  split
  · exact h
  · extract_lets
    refine .ite h.scbSendEnd ?_
    refine .ite h.scbSendEnd ?_
    split
    · exact h.scbSendEnd
    · exact .ite h.scbSendEnd (h.setScb.foldl fun h₂ => h₂.bxlSendWith)

theorem State.Canon.scbActDone (h : s.Canon) {a} : (s.scbActDone a).Canon := by
  unfold State.scbActDone
  split
  · exact h
  · exact .ite h (.ite h.scbSendEnd (.ite h.setScb h.markTo.scbMarks.setScb.sendNext))

theorem State.Canon.scbCommand (h : s.Canon) {w req src task} : CanonOut (s.scbCommand w req src task) :=
  .ite h.pair (.ite h.pair (.ite (.ite h.pair (State.Canon.pair (.scbMarks (.setF (.setF (.setF (.ite h.markTo
      h.markTo))))))) (.ite (.ite h.setF.scbMarks.pair h.pair) (.ite (.ite h.pair (.ite h.pair (.ite h.pair
      h.markTo.scbMarks.pair))) (.ite (State.Canon.pair (.ite h.setScb h.setScb.scbClear)) (.ite (.ite h.pair (.ite
      h.pair (.ite h.pair (.ite h.pair h.setScb.sendNext.pair)))) (.ite h.pair h.setScb.pair)))))))

theorem State.Canon.scbRun (h : s.Canon) {w req src task} : CanonOut (s.scbRun w req src task) := by
  unfold State.scbRun
  refine .ite h.pair ?_
  extract_lets r₁
  have h₁ : CanonOut r₁ := h.setF.scbCommand
  split
  · exact h₁.snd.pair
  · exact h₁.snd.setF.setF.pair

theorem State.Canon.scbCmdWrite (h : s.Canon) {req value} : CanonOut (s.scbCmdWrite req value) :=
  .ite h.regRefuse h.scbRun.snd.pair

theorem State.Canon.scbSoftware (h : s.Canon) {t} : CanonOut (s.scbSoftware t) :=
  .ite h.pair (.ite h.pair (.ite h.pair h.stageRec.pair))

theorem State.Canon.scbToken (h : s.Canon) {t} : CanonOut (s.scbToken t) :=
  .ite (.ite h.pair h.scbRun) (.ite h.scbSoftware h.pair)

theorem State.Canon.markStatWrite (h : s.Canon) {k value} : CanonOut (s.markStatWrite k value) :=
  State.Canon.pair (.ite h.setF.setF h)

theorem State.Canon.scbRegWrite (h : s.Canon) {req isl base value} : CanonOpt (s.scbRegWrite req isl base value) :=
  .ite .none (.ite (.some h.scbCmdWrite) (.ite (.some (.ite h.regRefuse h.regW)) (.ite (.some h.markStatWrite)
      .none)))

theorem State.Canon.scbDeviceFail (h : s.Canon) : s.scbDeviceFail.Canon := .ite h.setScb.scbFault h

theorem State.Canon.scbRow (h : s.Canon) {op i} : NextCanon (s.scbRow op i) := by
  unfold State.scbRow
  split
  · exact State.Canon.next (h.arrive (fun h₁ => h₁.scbToken))
  · exact h.regRow (fun h₁ => h₁.scbCmdWrite)

theorem State.Canon.execScbSoftwareRecord (h : s.Canon) {t} : NextCanon (execScbSoftwareRecord t s) :=
  State.Canon.next (h.arrive (fun h₁ => h₁.scbToken))

theorem State.Canon.execScbRecordWritten (h : s.Canon) {differs} : NextCanon (execScbRecordWritten differs s) :=
  h.scbWritten.next

theorem State.Canon.execOpenBookmark (h : s.Canon) {i} : NextCanon (execOpenBookmark i s) := h.scbRow

theorem State.Canon.execCloseBookmark (h : s.Canon) {i} : NextCanon (execCloseBookmark i s) := h.scbRow

theorem State.Canon.execAdvanceBookmark (h : s.Canon) {i} : NextCanon (execAdvanceBookmark i s) := h.scbRow

theorem State.Canon.execClearRecords (h : s.Canon) {i} : NextCanon (execClearRecords i s) := h.scbRow

theorem State.Canon.execSendRecords (h : s.Canon) {i} : NextCanon (execSendRecords i s) := h.scbRow

theorem State.Canon.execMainRing (h : s.Canon) {i} : NextCanon (execMainRing i s) := h.scbRow

/-! ### Boot -/

theorem State.Canon.setBst (h : s.Canon) {f} : (s.setBst f).Canon := h.of_eq

theorem State.Canon.setBoot (h : s.Canon) {f} : (s.setBoot f).Canon := h.of_eq

theorem State.Canon.sliceDone (h : s.Canon) {isl} : (s.sliceDone isl).Canon := h.setBst

theorem State.Canon.sliceBegin (h : s.Canon) {isl sl} : (s.sliceBegin isl sl).Canon :=
  .ite h.sliceDone (.ite h.setBst h.wakeFor.setF.setF.setF.setF.setBst)

theorem State.Canon.sliceStart (h : s.Canon) : s.sliceStart.Canon := by
  unfold State.sliceStart
  refine .ite h ?_
  refine .ite ?_ ?_
  · refine .ite h ?_
    split
    · exact h.setBst.sliceBegin
    · exact h
  · split
    · exact h
    · exact h.setBst.sliceBegin

theorem State.Canon.sliceRetry (h : s.Canon) : s.sliceRetry.Canon := by
  unfold State.sliceRetry
  refine .ite h ?_
  split
  · exact h.setBst.sliceBegin
  · exact h

theorem State.Canon.sliceRestore (h : s.Canon) {isl was} : (s.sliceRestore isl was).Canon :=
  .ite h.setF.setBst.setF.mchSliceEnd h.setF.setBst.setF

theorem State.Canon.sliceFail (h : s.Canon) {isl sl sig} : (s.sliceFail isl sl sig).Canon := h.stage.setBst.setF.fence

theorem State.Canon.sliceAgain (h : s.Canon) {isl sl} : (s.sliceAgain isl sl).Canon := by
  unfold State.sliceAgain
  exact h.setBst

theorem State.Canon.hang (h : s.Canon) {isl} : (s.hang isl).Canon := by
  unfold State.hang
  split
  · exact .ite h.setBst.setF.fence h
  · exact h

theorem State.Canon.roundIsland (h : s.Canon) {isl} : (s.roundIsland isl).Canon :=
  .ite h (.ite h.setBst.setF.stage h.setBst)

theorem State.Canon.roundNew (h : s.Canon) : s.roundNew.Canon := h.setBst

theorem State.Canon.roundEnd (h : s.Canon) : s.roundEnd.Canon :=
  .ite h (.roundNew (.inc (h.foldl fun h₁ => h₁.roundIsland)))

theorem State.Canon.bstCtrlWrite (h : s.Canon) {req base value} : CanonOut (s.bstCtrlWrite req base value) :=
  State.Canon.pair (.ite h.regW.snd.roundNew h.regW.snd)

theorem State.Canon.islandCmd (h : s.Canon) {req value} : CanonOut (s.islandCmd req value) :=
  .ite h.regRefuse (.ite h.regRefuse (.ite h.regRefuse (.ite h.setF.setF.fence.setF.pair (.ite h.setF.setF.setF.pair
      h.setF.setF.setF.pair))))

theorem State.Canon.lbClear (h : s.Canon) {value} : CanonOut (s.lbClear value) := State.Canon.pair (.ite h.of_eq h)

theorem State.Canon.capsApply (h : s.Canon) : s.capsApply.Canon :=
  h.foldl fun h₁ => .ite h₁ (.ite h₁.setEng h₁.dvfsCap)

theorem State.Canon.islandLoad (h : s.Canon) {isl} : (s.islandLoad isl).Canon :=
  .ite h.talRestore (.ite h.updLoad (.ite h.scbLoad h))

theorem State.Canon.releaseDone (h : s.Canon) {pass} : (s.releaseDone pass).Canon :=
  .ite h (.ite h.setF.setF (.ite h.setF.setF.stage h.setF.islandRegs.setF.setF.islandLoad.capsApply.setF))

theorem State.Canon.pwrfail (h : s.Canon) : s.pwrfail.Canon :=
  .ite h (.talPwrfail (.capsApply (.setBoot (.ite h.setF.setF.inc.raise h.setF.setF.inc))))

theorem State.Canon.pwrOk (h : s.Canon) : s.pwrOk.Canon := .ite h h.setF.setBoot.capsApply.talPwrOk

theorem State.Canon.thermal (h : s.Canon) {temp vin power} : (s.thermal temp vin power).Canon := by
  unfold State.thermal
  exact h.setF.setF.setF.setBoot.setF.capsApply

theorem State.Canon.eject (h : s.Canon) : s.eject.Canon := .ite h (.ite h.of_eq.leaveStart.leaveCheck h.of_eq)

theorem State.Canon.ejectBack (h : s.Canon) : s.ejectBack.Canon := .ite h h.of_eq.setBoot

theorem State.Canon.ejectTick (h : s.Canon) : s.ejectTick.Canon :=
  .ite h (.ite h.setBoot (.ite h (.ite (.setBoot (h.foldl fun h₁ => .ite h₁.talSave h₁)) h.setBoot)))

theorem State.Canon.resetRelease (h : s.Canon) {straps failA failB} : (s.resetRelease straps failA failB).Canon := by
  unfold State.resetRelease
  refine .ite h ?_
  extract_lets _ _ s₃ s₄ s₅
  have h₃ : s₃.Canon := h.of_eq
  have h₄ : s₄.Canon := h₃.setF.setF.setF.setF
  have h₅ : s₅.Canon := h₄.foldl fun h₆ => h₆.setF
  split
  · exact h₅.setF
  · exact h₅.setF.stageAs

theorem State.Canon.holdFor (h : s.Canon) {isl failMap} : (s.holdFor isl failMap).Canon := h.cellWrite.setBoot

theorem State.Canon.bistDone (h : s.Canon) {fail stopPath ticks} : (s.bistDone fail stopPath ticks).Canon := by
  unfold State.bistDone
  refine .ite h ?_
  extract_lets _ s₂ s₃
  have h₂ : s₂.Canon := h.setF.setF
  have h₃ : s₃.Canon := h₂.foldl fun h₅ => .ite h₅.setF (.ite h₅ h₅.setF.setF)
  split
  · exact h₃.holdFor
  · exact h₃.holdFor
  · exact .ite h₃.holdFor h₃.setF.setF.roundNew

theorem State.Canon.loaderCheck (h : s.Canon) {ok} : (s.loaderCheck ok).Canon :=
  .ite h (.ite h.setF.updLoad h.holdFor)

theorem State.Canon.trialBoot (h : s.Canon) : CanonOut s.trialBoot :=
  .ite (State.Canon.pair (.updEnter (.setF (.setF (.setUpd (.updFlagSet (.ite h h.wrBytes))))))) (.ite (.ite
      h.trialEnd.pair h.setF.updJournal.pair) h.pair)

theorem State.Canon.partCopy (h : s.Canon) {m g} : (s.partCopy m g).Canon := .ite h.wrBytes h

theorem State.Canon.loaderStay (h : s.Canon) {status} : (s.loaderStay status).Canon := h.setF.setBoot

theorem State.Canon.loaderDone (h : s.Canon) {segs} : (s.loaderDone segs).Canon := by
  unfold State.loaderDone
  refine .ite h ?_
  extract_lets r₁ s₂ _ _ s₅
  have h₁ : CanonOut r₁ := h.trialBoot
  have h₂ : s₂.Canon := h₁.snd
  have h₅ : s₅.Canon := h₂.foldl fun h₇ => h₇.partCopy
  exact .ite h₂ (.ite (.ite h₂.trialEnd h₂.loaderStay) (.ite h₂.loaderStay (.ite h₅.setBoot h₅.setF.setF)))

theorem State.Canon.flowRec (h : s.Canon) {r} : (s.flowRec r).Canon := .ite h.setFlow (.ite h.setFlow h)

theorem State.Canon.flowPend (h : s.Canon) {r} : (s.flowPend r).Canon := by
  unfold State.flowPend
  refine .ite h ?_
  split
  · exact .ite h h.free.snd.setFlow
  · exact h

theorem State.Canon.retainRec (h : s.Canon) {r} : (s.retainRec r).Canon := by
  unfold State.retainRec
  refine .ite h ?_
  extract_lets r₁
  have h₁ : CanonOut r₁ := h.recRetention
  split
  · exact .ite h h₁.snd.retain
  · exact h

theorem State.Canon.resendOuts (h : s.Canon) {r} : (s.resendOuts r).Canon :=
  .ite h (h.foldl fun h₁ => .ite h₁ (.ite h₁.outputConfirmed h₁.release))

theorem State.Canon.sessionLoad (h : s.Canon) : s.sessionLoad.Canon := h.foldl fun h₁ => h₁.setF.setF.setF.setF

theorem State.Canon.journalRestore (h : s.Canon) : s.journalRestore.Canon := by
  unfold State.journalRestore
  exact .tailAdvance (.foldl (.withCan (.sessionLoad (.foldl (.foldl (.foldl h.of_eq fun h₁ => h₁.flowRec) fun h₁ =>
      h₁.flowPend) fun h₁ => h₁.retainRec))) fun h₁ => h₁.resendOuts)

theorem State.Canon.bootRecords (h : s.Canon) : s.bootRecords.Canon := by
  unfold State.bootRecords
  refine .ite h ?_
  extract_lets s₁
  have h₁ : s₁.Canon := h.scbLoad
  clear_value s₁
  exact h₁.of_eq

theorem State.Canon.restore (h : s.Canon) : s.restore.Canon := by
  unfold State.restore
  exact .ite h (.setBoot (.bootRecords (.ite h.journalRestore.talRestore h.journalRestore)))

theorem State.Canon.runStart (h : s.Canon) {entry} : (s.runStart entry).Canon :=
  .ite h (.makeRunnable (.setCtx (.ite h.setF.setUpd h.setF)))

theorem State.Canon.sysReset (h : s.Canon) {req value} : CanonOut (s.sysReset req value) :=
  .ite h.regRefuse (.ite h.pair (.ite h.regRefuse h.moduleReset.pair))

theorem State.Canon.islandOff (h : s.Canon) {isl} : (s.islandOff isl).Canon := by
  unfold State.islandOff
  extract_lets s₁ s₂ s₃ _ s₅
  have h₁ : s₁.Canon := h.islandLost.memLost.islandRegs
  have h₂ : s₂.Canon := h₁.of_eq
  have h₃ : s₃.Canon := h₂.setF.setF
  have h₅ : s₅.Canon := by
    unfold s₅
    refine h₃.of_eq.foldl fun h₆ => ?_
    split
    · exact h₆.answerTo
    · exact h₆.refuse.ans
    · exact h₆
  exact .ite h₅.isolateOnce h₅

theorem State.Canon.pstateWrite (h : s.Canon) {req isl value} : CanonOut (s.pstateWrite req isl value) :=
  .ite h.regRefuse (.ite h.regRefuse (.ite h.regW (.ite h.regW.snd.islandOff.pair (State.Canon.pair (.ite
      h.regW.snd.engTouch h.regW.snd.touch)))))

theorem State.Canon.islandGate (h : s.Canon) {isl} : (s.islandGate isl).Canon := .ite h.setF h

theorem State.Canon.bootRegWrite (h : s.Canon) {req isl base value} : CanonOpt (s.bootRegWrite req isl base value) :=
  .ite (.some h.sysReset) (.ite (.some h.bstCtrlWrite) (.ite (.some h.islandCmd) (.ite (.some h.lbClear) .none)))

theorem State.Canon.execSliceStart (h : s.Canon) : NextCanon (execSliceStart s) := h.sliceStart.next

theorem State.Canon.execSliceRetry (h : s.Canon) : NextCanon (execSliceRetry s) := h.sliceRetry.next

theorem State.Canon.execHang (h : s.Canon) {isl} : NextCanon (execHang isl s) := h.hang.next

theorem State.Canon.execRoundEnd (h : s.Canon) : NextCanon (execRoundEnd s) := h.roundEnd.next

theorem State.Canon.execFence (h : s.Canon) {req isl} : NextCanon (execFence req isl s) :=
  h.regRow (fun h₁ => h₁.islandCmd)

theorem State.Canon.execIslandRelease (h : s.Canon) {req isl} : NextCanon (execIslandRelease req isl s) :=
  h.regRow (fun h₁ => h₁.islandCmd)

theorem State.Canon.execIslandReleaseDone (h : s.Canon) {pass} : NextCanon (execIslandReleaseDone pass s) :=
  h.releaseDone.next

theorem State.Canon.execLastBreathClear (h : s.Canon) {req value} : NextCanon (execLastBreathClear req value s) :=
  h.regRow (fun h₁ => h₁.lbClear)

theorem State.Canon.execPowerOn (h : s.Canon) : NextCanon (execPowerOn s) := h.moduleReset.next

theorem State.Canon.execConverterStart (h : s.Canon) : NextCanon (execConverterStart s) := h.setBoot.next

theorem State.Canon.execPinReset (h : s.Canon) : NextCanon (execPinReset s) := State.Canon.next (.ite h h.moduleReset)

theorem State.Canon.execSoftwareReset (h : s.Canon) {req value} : NextCanon (execSoftwareReset req value s) :=
  h.regRow (fun h₁ => h₁.sysReset)

theorem State.Canon.execBrownOut (h : s.Canon) : NextCanon (execBrownOut s) := h.moduleReset.next

theorem State.Canon.execResetRelease (h : s.Canon) {straps failA failB} : NextCanon
    (execResetRelease straps failA failB s) :=
  h.resetRelease.next

theorem State.Canon.execPowerupBistDone (h : s.Canon) {fail stopPath ticks} : NextCanon
    (execPowerupBistDone fail stopPath ticks s) :=
  h.bistDone.next

theorem State.Canon.execLoaderCheckDone (h : s.Canon) {ok} : NextCanon (execLoaderCheckDone ok s) :=
  h.loaderCheck.next

theorem State.Canon.execLoaderDone (h : s.Canon) {segs} : NextCanon (execLoaderDone segs s) := h.loaderDone.next

theorem State.Canon.execRestore (h : s.Canon) : NextCanon (execRestore s) := h.restore.next

theorem State.Canon.execRunStart (h : s.Canon) {entry} : NextCanon (execRunStart entry s) := h.runStart.next

theorem State.Canon.execPwrfailAssert (h : s.Canon) : NextCanon (execPwrfailAssert s) := h.pwrfail.next

theorem State.Canon.execPwrfailDeassert (h : s.Canon) : NextCanon (execPwrfailDeassert s) := h.pwrOk.next

theorem State.Canon.execThermalSample (h : s.Canon) {temp vin power} : NextCanon (execThermalSample temp vin power s) :=
  h.thermal.next

theorem State.Canon.execEjectRequest (h : s.Canon) : NextCanon (execEjectRequest s) := h.eject.next

theorem State.Canon.execEjectReqHigh (h : s.Canon) : NextCanon (execEjectReqHigh s) := h.ejectBack.next

theorem State.Canon.prefixRow {f : State → Nat × State} (h : s.Canon) (hf : ∀ {t}, t.Canon → CanonOut (f t))
    {isl req o value} : NextCanon (s.prefixRow isl req o value f) :=
  .ite h.regRefuse.done (.ite h.of_eq.next (CanonOut.done (hf h)))

theorem State.Canon.execPstateRequest (h : s.Canon) {req isl value} : NextCanon (execPstateRequest req isl value s) :=
  h.prefixRow (fun h₁ => h₁.pstateWrite)

theorem State.Canon.execIslandGate (h : s.Canon) {isl} : NextCanon (execIslandGate isl s) := h.islandGate.next

theorem State.Canon.execUnlock (h : s.Canon) {req isl value} : NextCanon (execUnlock req isl value s) :=
  h.prefixRow (fun h₁ => h₁.lockWrite)

theorem State.Canon.execLocked (h : s.Canon) {req isl value} : NextCanon (execLocked req isl value s) :=
  h.prefixRow (fun h₁ => h₁.lockWrite)

theorem State.Canon.execRefuseCaptureClear (h : s.Canon) {req isl value} : NextCanon
    (execRefuseCaptureClear req isl value s) :=
  h.prefixRow (fun h₁ => h₁.refuseInfoWrite)

/-! ### HstBase -/

theorem State.Canon.setHst (h : s.Canon) {f} : (s.setHst f).Canon := h.of_eq

theorem State.Canon.setHif (h : s.Canon) {x v} : (s.setHif x v).Canon := h.setHst

theorem State.Canon.msi (h : s.Canon) {v} : (s.msi v).Canon := h.setHst

theorem State.Canon.hostWrite (h : s.Canon) {a b} : (s.hostWrite a b).Canon := h.setHst

theorem State.Canon.hstEthSend (h : s.Canon) {p f} : (s.hstEthSend p f).Canon := .ite h h.setEth

theorem State.Canon.hstFetch (h : s.Canon) : s.hstFetch.Canon := by
  unfold State.hstFetch
  split
  · exact h
  · exact .ite h h.setHst.setHif

theorem State.Canon.hstOut (h : s.Canon) {x c} : (s.hstOut x c).Canon := by
  unfold State.hstOut
  extract_lets _ s₂ _ s₄ s₅
  have h₂ : s₂.Canon := h.setHif.inc
  have h₄ : s₄.Canon := h₂.hostWrite.setF
  have h₅ : s₅.Canon := .ite h₄.msi h₄
  refine .ite h₅.setF.hstFetch ?_
  refine .ite h₂.setHst ?_
  split
  · exact h₂.hstEthSend
  · exact h₂

theorem State.Canon.hstEnd (h : s.Canon) {x status seq payload keep} : (s.hstEnd x status seq payload keep).Canon := by
  unfold State.hstEnd
  split
  · exact h
  · exact .hstOut (.ite h.setHif h)

theorem State.Canon.hstToken (h : s.Canon) {t} : CanonOut (s.hstToken t) :=
  .ite h.pair (.ite h.pair h.hostWrite.setF.setHst.msi.pair)

theorem State.Canon.sqTail (h : s.Canon) {req value frames} : CanonOut (s.sqTail req value frames) :=
  .ite h.regRefuse h.setF.setHst.hstFetch.pair

theorem State.Canon.cqRd (h : s.Canon) {req value} : CanonOut (s.cqRd req value) :=
  .ite h.regRefuse h.setF.hstFetch.pair

theorem State.Canon.hstRegWrite (h : s.Canon) {req isl base value} : CanonOpt (s.hstRegWrite req isl base value) :=
  .ite .none (.ite (.some h.regRefuse) (.ite (.some h.sqTail) (.ite (.some h.cqRd) .none)))

theorem State.Canon.pcieReset (h : s.Canon) : s.pcieReset.Canon := by
  unfold State.pcieReset
  exact .setHst (.setHif h.filterRegs)

theorem State.Canon.execSqDoorbell (h : s.Canon) {req value frames} : NextCanon (execSqDoorbell req value frames s) :=
  h.regRow (fun h₁ => h₁.sqTail)

theorem State.Canon.execCqRdWrite (h : s.Canon) {req value} : NextCanon (execCqRdWrite req value s) :=
  h.regRow (fun h₁ => h₁.cqRd)

theorem State.Canon.execHostNotice (h : s.Canon) {t} : NextCanon (execHostNotice t s) :=
  State.Canon.next (h.arrive (fun h₁ => h₁.hstToken))

theorem State.Canon.execPciePerst (h : s.Canon) {low} : NextCanon (execPciePerst low s) :=
  State.Canon.next (.ite h.setHst.pcieReset h.setHst)

theorem State.Canon.execPcieLinkChange (h : s.Canon) {up width speed master} : NextCanon
    (execPcieLinkChange up width speed master s) :=
  State.Canon.next (.ite h h.setF.setF.setF.setHst.hstFetch)

theorem State.Canon.hstClaim (h : s.Canon) {p f} {t : State} (e : s.hstClaim p f = some t) : t.Canon := by
  unfold State.hstClaim at e
  split at e
  · cases e
  · split at e <;> cases e
    exact h.setHif

theorem State.Canon.execEthFrameReceived (h : s.Canon) {p frame fcsOk sub} : NextCanon
    (execEthFrameReceived p frame fcsOk sub s) :=
  State.Canon.next (h.frameIn fun e => h.hstClaim e)

theorem State.Canon.execReport (h : s.Canon) : NextCanon (execReport s) := by
  unfold Machine.execReport
  refine State.Canon.next ?_
  split
  · exact h
  · exact .ite h h.setHst.setBoot

/-! ### Bus -/

theorem State.Canon.familyWrite (h : s.Canon) {req isl base value} : CanonOpt (s.familyWrite req isl base value) := by
  unfold State.familyWrite
  refine .ite h.coreRegWrite ?_
  refine .ite h.bootRegWrite ?_
  refine .ite ?_ (.ite h.scbRegWrite (.ite h.updRegWrite (.ite h.timRegWrite (.ite h.gbbRegWrite (.ite h.gobRegWrite
      (.ite h.radRegWrite (.ite h.zonRegWrite (.ite h.mchRegWrite (.ite h.talRegWrite (.ite h.canRegWrite (.ite
      h.ethRegWrite (.ite h.bxlRegWrite (.ite h.hstRegWrite (.ite h.smpRegWrite .none))))))))))))))
  split
  · exact .some ((h.bootRegWrite _ ‹_›))
  · exact h.stopRegWrite

theorem State.Canon.regFull (h : s.Canon) {req isl base value} : CanonOut (s.regFull req isl base value) := by
  unfold State.regFull
  extract_lets
  refine .ite h.pstateWrite ?_
  refine .ite h.lockWrite ?_
  refine .ite h.refuseInfoWrite ?_
  split
  · exact (h.familyWrite _ ‹_›)
  · exact h.regW

theorem State.Canon.regTake (h : s.Canon) {isl base} : (s.regTake isl base).Canon := .ite h.timTake (.ite h.ethTake h)

theorem State.Canon.accessed (h : s.Canon) {isl} : (s.accessed isl).Canon := .ite h h.touch

theorem State.Canon.devWrite (h : s.Canon) {req addr size value} : CanonOut (s.devWrite req addr size value) := by
  unfold State.devWrite
  split
  · split
    · exact h.refuse.pair
    · exact State.Canon.pair (.accessed (CanonOut.snd (h.wakeFor.sizedWrite (fun h₁ => h₁.regFull))))
  · exact h.memWrite

theorem State.Canon.devRead (h : s.Canon) {req addr size} : CanonOut₂ (s.devRead req addr size) := by
  unfold State.devRead
  split
  · split
    · exact h.refuse.pair.pair
    · extract_lets s₁ r₂
      have h₁ : s₁.Canon := h.wakeFor
      have h₂ : CanonOut₂ r₂ := h₁.sizedRead (fun h₃ => h₃.regTake)
      split
      · exact h₁.accessed.pair.pair
      · exact h₂.snd.snd.accessed.pair.pair
  · exact h.memRead.snd.snd.pair.pair

theorem State.Canon.tokenServe (h : s.Canon) {t} : CanonOut (s.tokenServe t) :=
  .ite (.ite h.operandServe (.ite h.intakeServe h.pair)) (.ite h.scbToken (.ite h.gbbToken (.ite h.posToken (.ite
      h.radToken (.ite h.zonToken (.ite h.mchToken (.ite h.talToken (.ite h.canToken (.ite h.ethToken (.ite (.ite
      h.bexSend h.pair) (.ite h.hstToken (.ite h.smpToken h.pair))))))))))))

theorem State.Canon.arriveAny (h : s.Canon) {t} : (s.arriveAny t).Canon := h.arrive (fun h₁ => h₁.tokenServe)

theorem State.Canon.serveHeld (h : s.Canon) {isl} : (s.serveHeld isl).Canon := by
  unfold State.serveHeld
  extract_lets
  refine h.of_eq.foldl fun h₃ => ?_
  split
  · exact h₃.arriveAny
  · exact h₃.devWrite.snd.ans
  · exact h₃.arriveWord

theorem State.Canon.execBexlinkSend (h : s.Canon) {t} : NextCanon (execBexlinkSend t s) := h.arriveAny.next

/-! ### EngCore -/

theorem State.Canon.abortCtx (h : s.Canon) {e c cause pc double} : (s.abortCtx e c cause pc double).Canon :=
  h.discard.stage.endCancelled

theorem State.Canon.takeTrap (h : s.Canon) {e c pc cause status value fetch} :
    (s.takeTrap e c pc cause status value fetch).Canon :=
  .ite h.abortCtx h.setCtx.inc

theorem State.Canon.boundary (h : s.Canon) {e c} : (s.boundary e c).Canon :=
  .ite h (.engTouch (.preempt (.ite h.cancelCtx h)))

theorem State.Canon.takeDeferred (h : s.Canon) {e c} : (s.takeDeferred e c).Canon := by
  unfold State.takeDeferred
  extract_lets
  split
  · exact h
  · exact h.setCtx.takeTrap

theorem State.Canon.loadAt (h : s.Canon) {e c w a n file put} : CanonERes (s.loadAt e c w a n file put) := by
  unfold State.loadAt
  extract_lets _ r₂
  have h₂ : CanonOut₂ r₂ := by
    unfold r₂
    refine .ite h.devRead ?_
    split
    exact CanonOut.pair (State.Canon.pair ((CanonOut₂.of_prod h.memRead ‹_›)))
  split
  · exact .trap
  · exact .ite h₂.snd.snd.setCtx.go (.ite h₂.snd.snd.trapIn h₂.snd.snd.setCtx.go)

theorem State.Canon.storeAt (h : s.Canon) {e c w a n v} : CanonERes (s.storeAt e c w a n v) := by
  unfold State.storeAt
  extract_lets _ r₂
  have h₂ : CanonOut r₂ := .ite h.devWrite h.memWrite
  split
  · exact .trap
  · exact .ite h₂.snd.go h₂.snd.setCtx.go

theorem State.Canon.fetchLine (h : s.Canon) {e a} : (s.fetchLine e a).Canon :=
  .ite h (.ite h.setEng h.free.snd.setEng)

theorem State.Canon.retire (h : s.Canon) {e c pc wasAtomic} : (s.retire e c pc wasAtomic).Canon := h.setCtx.inc

theorem State.Canon.engExec (h : s.Canon) {e w mine} {body : State → Nat → Ctx → ERes}
    (hbody : ∀ {t c x}, t.Canon → CanonERes (body t c x)) : (s.engExec e w mine body).Canon := by
  unfold State.engExec
  split
  · exact h
  · extract_lets x s₁
    refine .ite h ?_
    split
    · exact h.takeTrap.boundary
    · have h₁ : s₁.Canon := h.fetchLine
      refine .ite h (.ite h₁.takeDeferred.boundary (.ite h₁.takeTrap.boundary (.ite h₁.takeTrap.boundary (.ite h₁ ?_))))
      have hb := hbody (c := ‹_›) (x := x) h₁
      split <;> simp only [*, CanonERes] at hb
      · exact hb.retire.boundary
      · exact h₁.takeTrap.boundary
      · exact hb.takeTrap.boundary
      · exact hb.pickNext.engTouch
      · exact hb

theorem CanonERes.ill {w} : CanonERes (ill w) := .trap

theorem State.Canon.goNext (h : s.Canon) {e c x} : CanonERes (s.goNext e c x) := h.setCtx.go

theorem State.Canon.execMemoryRefusal (h : s.Canon) {e} : NextCanon (execMemoryRefusal e s) := by
  unfold Machine.execMemoryRefusal
  refine State.Canon.next ?_
  split
  · exact h
  · exact .ite h h.takeDeferred.boundary

theorem State.Canon.execEccUncorrectable (h : s.Canon) {e isl} : NextCanon (execEccUncorrectable e isl s) := by
  unfold Machine.execEccUncorrectable
  refine State.Canon.next ?_
  split
  · exact h
  · extract_lets _ s₂ s₃ s₄
    have h₂ : s₂.Canon := .ite h.inc h
    have h₃ : s₃.Canon := h₂.of_eq
    have h₄ : s₄.Canon := h₃.discard
    exact .ite h₃.rebind h₄.nextState

theorem State.Canon.execAtomicLimit (h : s.Canon) {e} : NextCanon (execAtomicLimit e s) := by
  unfold Machine.execAtomicLimit
  refine State.Canon.next ?_
  split
  · exact h
  · exact .ite h.free.snd.takeTrap.boundary h

/-! ### EngFp -/

theorem State.Canon.execFloatingOperate (h : s.Canon) {e w} : NextCanon (execFloatingOperate e w s) := by
  unfold Machine.execFloatingOperate
  refine State.Canon.next ?_
  refine h.engExec (fun h₁ => ?_)
  split
  · exact h₁.goNext
  · exact .ill

theorem State.Canon.execFusedMultiplyAdd (h : s.Canon) {e w} : NextCanon (execFusedMultiplyAdd e w s) :=
  State.Canon.next (h.engExec (fun h₁ => .ite .ill h₁.goNext))

theorem State.Canon.execVectorOperate (h : s.Canon) {e w} : NextCanon (execVectorOperate e w s) := by
  unfold Machine.execVectorOperate
  refine State.Canon.next ?_
  refine h.engExec (fun h₁ => ?_)
  split
  · exact h₁.goNext
  · exact .ill

theorem State.Canon.execVld (h : s.Canon) {e w} : NextCanon (execVld e w s) := by
  unfold Machine.execVld
  refine State.Canon.next ?_
  refine h.engExec (fun h₁ => ?_)
  split
  · exact h₁.loadAt
  · exact .ill

theorem State.Canon.execVst (h : s.Canon) {e w} : NextCanon (execVst e w s) := by
  unfold Machine.execVst
  refine State.Canon.next ?_
  refine h.engExec (fun h₁ => ?_)
  split
  · exact h₁.storeAt
  · exact .ill

/-! ### EngInt -/

theorem State.Canon.execIntegerRegister (h : s.Canon) {e w} : NextCanon (execIntegerRegister e w s) := by
  unfold Machine.execIntegerRegister
  refine State.Canon.next ?_
  refine h.engExec (fun h₁ => ?_)
  split
  · exact h₁.goNext
  · exact .ill

theorem State.Canon.execIntegerImmediate (h : s.Canon) {e w} : NextCanon (execIntegerImmediate e w s) := by
  unfold Machine.execIntegerImmediate
  refine State.Canon.next ?_
  refine h.engExec (fun h₁ => ?_)
  split
  · exact h₁.goNext
  · exact .ill

theorem State.Canon.execLup (h : s.Canon) {e w} : NextCanon (execLup e w s) :=
  State.Canon.next (h.engExec (fun h₁ => h₁.goNext))

theorem State.Canon.execAup (h : s.Canon) {e w} : NextCanon (execAup e w s) :=
  State.Canon.next (h.engExec (fun h₁ => h₁.goNext))

theorem State.Canon.execIntegerLoad (h : s.Canon) {e w} : NextCanon (execIntegerLoad e w s) := by
  unfold Machine.execIntegerLoad
  refine State.Canon.next ?_
  refine h.engExec (fun h₁ => ?_)
  extract_lets
  split
  · exact h₁.loadAt
  · exact h₁.loadAt
  · exact h₁.loadAt
  · exact h₁.loadAt
  · exact h₁.loadAt
  · exact h₁.loadAt
  · exact h₁.loadAt
  · exact .ill

theorem State.Canon.execIntegerStore (h : s.Canon) {e w} : NextCanon (execIntegerStore e w s) :=
  State.Canon.next (h.engExec (fun h₁ => .ite .ill h₁.storeAt))

theorem State.Canon.execAtomicMemoryOperation (h : s.Canon) {e w} : NextCanon (execAtomicMemoryOperation e w s) := by
  unfold Machine.execAtomicMemoryOperation
  refine State.Canon.next ?_
  refine h.engExec (fun h₁ => ?_)
  extract_lets _ _ r₄
  have h₄ : CanonOut₂ r₄ := h₁.memRead
  refine .ite .ill ?_
  split
  · exact .trap
  · refine .ite .trap ?_
    refine .ite h₄.snd.snd.trapIn ?_
    split
    · exact h₄.snd.snd.wr.goNext
    · exact .ill

theorem State.Canon.execFloatingLoad (h : s.Canon) {e w} : NextCanon (execFloatingLoad e w s) :=
  State.Canon.next (h.engExec (fun h₁ => .ite h₁.loadAt (.ite h₁.loadAt .ill)))

theorem State.Canon.execFloatingStore (h : s.Canon) {e w} : NextCanon (execFloatingStore e w s) :=
  State.Canon.next (h.engExec (fun h₁ => .ite h₁.storeAt (.ite h₁.storeAt .ill)))

theorem State.Canon.execConditionalBranch (h : s.Canon) {e w} : NextCanon (execConditionalBranch e w s) := by
  unfold Machine.execConditionalBranch
  refine State.Canon.next ?_
  refine h.engExec (fun h₁ => ?_)
  split
  · exact h₁.go
  · exact h₁.go
  · exact .ill

theorem State.Canon.execJal (h : s.Canon) {e w} : NextCanon (execJal e w s) :=
  State.Canon.next (h.engExec (fun h₁ => h₁.setCtx.go))

theorem State.Canon.execJalr (h : s.Canon) {e w} : NextCanon (execJalr e w s) :=
  State.Canon.next (h.engExec (fun h₁ => .ite .ill (.ite .trap h₁.setCtx.go)))

/-! ### Hst -/

theorem State.Canon.tokenNow (h : s.Canon) {t} : CanonOut (s.tokenNow t) :=
  .ite h.pair (.ite h.pair h.wakeFor.tokenServe.snd.touch.pair)

theorem State.Canon.hstRead : ∀ {s : State} {k a n : Nat} {acc : List Byte}, s.Canon → CanonOut₂ (s.hstRead k a n acc)
  | _, 0, _, _, _, h => h
  | _, _ + 1, _, _, _, h => .ite h (.ite h.devRead h.devRead.hstRead)

theorem State.Canon.hstWrite : ∀ {s : State} {k a n : Nat} {b : List Byte}, s.Canon → CanonOut₂ (s.hstWrite k a b n)
  | _, 0, _, _, _, h => h
  | _, _ + 1, _, _, _, h => .ite h (.ite h.devWrite h.devWrite.hstWrite)

theorem State.Canon.hstSubmit (h : s.Canon) {x f} : (s.hstSubmit x f).Canon :=
  .ite h.hstEnd (.ite h.hstEnd (.ite h.hstEnd (.ite h.hstEnd (.ite h.hstEnd (.ite h.offer.snd.setHif h.hstEnd)))))

theorem State.Canon.setSession (hs : s.Canon) {j session h flow valid} : (s.setSession j session h flow valid).Canon :=
  hs.setF.setF.setF.setF

theorem State.Canon.hstClose (h : s.Canon) {x f} : (s.hstClose x f).Canon := by
  unfold State.hstClose
  split
  · exact h.hstEnd
  · exact h.retain.setSession.hstEnd

theorem State.Canon.hstDo (h : s.Canon) {x f} : (s.hstDo x f).Canon :=
  .ite h.hstRead.snd.snd.hstEnd (.ite h.hstWrite.snd.snd.hstEnd (.ite h.tokenNow.snd.hstEnd (.ite h.hstSubmit (.ite
      h.hstClose h.hstEnd))))

theorem State.Canon.hstDrop (h : s.Canon) {x} : (s.hstDrop x).Canon := h.setHif.inc

theorem State.Canon.hstRepeat (h : s.Canon) {x d} : (s.hstRepeat x d).Canon := .ite h.inc.hstOut h.inc.hstOut

theorem State.Canon.hstRun (h : s.Canon) {x} : (s.hstRun x).Canon := by
  unfold State.hstRun
  split
  · exact h
  · extract_lets
    refine .ite h ?_
    refine .ite h.hstEnd ?_
    refine .ite (.ite h.hstEnd h.hstDrop) ?_
    split
    · exact h.hstRepeat
    · exact .ite h.hstDo h.hstEnd

theorem State.Canon.uartRun : ∀ {s : State} {n : Nat}, s.Canon → (s.uartRun n).Canon
  | _, 0, h => h
  | _, _ + 1, h => .ite h h.hstRun.uartRun

theorem State.Canon.hostRow (h : s.Canon) {op x f} : (s.hostRow op x f).Canon := by
  unfold State.hostRow
  refine .ite h ?_
  refine .ite h ?_
  extract_lets s₁ _ s₃ s₄
  have h₁ : s₁.Canon := h.wakeFor
  have h₃ : s₃.Canon := h₁.setHif
  have h₄ : s₄.Canon := by
    unfold s₄
    refine .ite (.ite h₁ (.ite h₁.inc h₃.uartRun)) ?_
    split
    · exact .ite h₁.hstRun h₁
    · exact h₁
  exact h₄.touch

theorem State.Canon.hstSubmitted (h : s.Canon) {x tag session status seq} :
    (s.hstSubmitted x tag session status seq).Canon := by
  unfold State.hstSubmitted
  split
  · exact h
  · exact .ite h (.ite h.hstEnd.uartRun h.hstEnd)

theorem State.Canon.bar2 {write : Bool} : ∀ {s : State} {k a : Nat} {b acc : List Byte}, s.Canon →
    CanonOut₂ (s.bar2 write k a b acc)
  | _, 0, _, _, _, h => h
  | _, _ + 1, _, _, _, h =>
    .ite h (.ite (CanonOut.pair (CanonOut₂.snd (.bar2 (CanonOut.snd (.ite h.devWrite h.refuse.pair))))) (.ite h
      (.ite h.devRead h.devRead.bar2)))

theorem State.Canon.execHostRead (h : s.Canon) {x frame} : NextCanon (execHostRead x frame s) := h.hostRow.next

theorem State.Canon.execHostWrite (h : s.Canon) {x frame} : NextCanon (execHostWrite x frame s) := h.hostRow.next

theorem State.Canon.execHostToken (h : s.Canon) {x frame} : NextCanon (execHostToken x frame s) := h.hostRow.next

theorem State.Canon.execSubmit (h : s.Canon) {x frame} : NextCanon (execSubmit x frame s) := h.hostRow.next

theorem State.Canon.execHostClose (h : s.Canon) {x frame} : NextCanon (execHostClose x frame s) := h.hostRow.next

theorem State.Canon.execPing (h : s.Canon) {x frame} : NextCanon (execPing x frame s) := h.hostRow.next

theorem State.Canon.execBar2Access (h : s.Canon) {write addr data} : NextCanon (execBar2Access write addr data s) :=
  State.Canon.next (.ite h.reply h.bar2.snd.snd.touch.reply)

/-! ### Snap -/

theorem State.Canon.chanClear (h : s.Canon) : s.chanClear.Canon := h.of_eq

theorem State.Canon.fillDone (h : s.Canon) : s.fillDone.Canon := by
  unfold State.fillDone
  split
  · exact h
  · exact .ite h.wr.wr.setF.setF.inc.setGob.notice h.wr.wr.setF.setF.inc.setGob

theorem State.Canon.snapTaken (h : s.Canon) {d} : (s.snapTaken d).Canon := by
  unfold State.snapTaken
  exact .setGob (.ite (.setSoft (.ite h.setF h)) h)

theorem State.Canon.snapTake (h : s.Canon) {d} : (s.snapTake d).Canon := by
  unfold State.snapTake
  exact h.fillDone.filterMem.wrBytes.wrBytes.wrBytes.chanClear.snapTaken.setGob

theorem State.Canon.execSnapEdge (h : s.Canon) : NextCanon (execSnapEdge s) :=
  State.Canon.next (.ite h (.ite h.snapPeriodic h.snapPeriodic.snapTake))

theorem State.Canon.execSnapFillDone (h : s.Canon) : NextCanon (execSnapFillDone s) := h.fillDone.next

/-! ### Late -/

theorem State.Canon.ackFlush (h : s.Canon) {pos} : (s.ackFlush pos).Canon := h.setBxl.foldl fun h₁ => h₁.bxlAck

theorem State.Canon.finishItem (h : s.Canon) {w seq} : (s.finishItem w seq).Canon := by
  unfold State.finishItem
  split
  · exact .ite h h.rqAccepted
  · exact h.radAck
  · exact h.setSession.hstSubmitted
  · exact h.bxlAck.ackFlush
  · exact h.ans

theorem State.Canon.refuseItem (h : s.Canon) {w st} : (s.refuseItem w st).Canon := by
  unfold State.refuseItem
  split
  · exact h.inc
  · exact h.radAck
  · exact h.hstSubmitted
  · exact h.setPair.setBxl.bxlAck
  · extract_lets s₁
    have h₁ : s₁.Canon := by
      unfold s₁
      split
      · exact h.of_eq
      · exact h
    exact h₁.ans

theorem State.Canon.runAct (h : s.Canon) {a} : (s.runAct a).Canon := by
  unfold State.runAct
  split
  · exact h.finishItem
  · exact h.finishCommit
  · exact h.finishCancel
  · exact h
  · exact h.updActDone
  · exact h.scbActDone

theorem State.Canon.runActs : ∀ {s : State} {n : Nat}, s.Canon → (s.runActs n).Canon
  | _, 0, h => h
  | s, n + 1, h => by
    unfold State.runActs
    split
    · exact h
    · exact h.setBxl.runAct.runActs

theorem State.Canon.journalDone (h : s.Canon) : s.journalDone.Canon := by
  unfold State.journalDone
  split
  · exact h
  · exact .ite h (.ite h.of_eq.itemValid.mirrorStart.snd h.of_eq.itemValid.mirrorStart.snd.finishItem)

theorem State.Canon.mramFail (h : s.Canon) {dev addr status} : (s.mramFail dev addr status).Canon :=
  .ite h (.ite h.of_eq.stage.faultReset (.scbDeviceFail (.foldl (.withMemc h.of_eq.stage) fun h₁ => h₁.refuseItem)))

theorem State.Canon.wakeDone (h : s.Canon) {isl} : (s.wakeDone isl).Canon :=
  .ite h (.ite (.ite h.wakeFor.serveHeld.touch h) (.ite h.setF.of_eq.islandLoad.capsApply.serveHeld.touch h))

theorem State.Canon.sliceEnd (h : s.Canon) {bad} : (s.sliceEnd bad).Canon := by
  unfold State.sliceEnd
  split
  · exact h
  · split
    · exact h.sliceFail
    · exact h.sliceRestore.sliceDone.inc.serveHeld

theorem State.Canon.sliceAbort (h : s.Canon) : s.sliceAbort.Canon := by
  unfold State.sliceAbort
  split
  · exact h
  · exact .ite h.sliceRestore.inc.sliceAgain.serveHeld h

theorem State.Canon.msMark (h : s.Canon) {ms} : (s.msMark ms).Canon := by
  unfold State.msMark
  refine .ite h ?_
  extract_lets _ s₂ s₃ s₄ s₅
  have h₂ : s₂.Canon := h.of_eq
  have h₃ : s₃.Canon := h₂.setF.setF.incW
  have h₄ : s₄.Canon := h₃.foldl fun h₆ => h₆.streamMark
  have h₅ : s₅.Canon := .ite h₄.reacqMark h₄
  exact .ite h₅.talMark h₅

theorem State.Canon.execRegisterWrite (h : s.Canon) {req addr size value} : NextCanon
    (execRegisterWrite req addr size value s) := by
  unfold Machine.execRegisterWrite
  split
  · exact .ite h.of_eq.next h.devWrite.done
  · exact h.devWrite.done

theorem State.Canon.execIslandWakeDone (h : s.Canon) {isl} : NextCanon (execIslandWakeDone isl s) := h.wakeDone.next

theorem State.Canon.execSliceEnd (h : s.Canon) {bad} : NextCanon (execSliceEnd bad s) := h.sliceEnd.next

theorem State.Canon.execSliceAbort (h : s.Canon) : NextCanon (execSliceAbort s) := h.sliceAbort.next

theorem State.Canon.execJournalWriteDone (h : s.Canon) : NextCanon (execJournalWriteDone s) := h.journalDone.next

theorem State.Canon.execMramDeviceFail (h : s.Canon) {dev addr status} : NextCanon
    (execMramDeviceFail dev addr status s) :=
  h.mramFail.next

theorem State.Canon.execIslandFaultTrap (h : s.Canon) {isl} : NextCanon (execIslandFaultTrap isl s) :=
  State.Canon.next (.ite h.of_eq h.of_eq.fence)

theorem State.Canon.execHeartbeatMissed (h : s.Canon) {isl} : NextCanon (execHeartbeatMissed isl s) :=
  State.Canon.next (.ite h.fence h)

theorem State.Canon.execFaultReset (h : s.Canon) {cause isl} : NextCanon (execFaultReset cause isl s) :=
  State.Canon.next (.ite h h.faultReset)

theorem State.Canon.execArbitrationLost (h : s.Canon) {n} : NextCanon (execArbitrationLost n s) := h.canEnd.next

theorem State.Canon.execPauseExpiry (h : s.Canon) {p} : NextCanon (execPauseExpiry p s) :=
  State.Canon.next (.ite h.setEth h)

theorem State.Canon.execMillisecondMark (h : s.Canon) {ms} : NextCanon (execMillisecondMark ms s) := h.msMark.next

theorem State.Canon.execTxStampRead (h : s.Canon) {req p} : NextCanon (execTxStampRead req p s) :=
  h.devRead.snd.snd.reply.next

theorem State.Canon.execCaptureStampRead (h : s.Canon) {req n} : NextCanon (execCaptureStampRead req n s) :=
  h.devRead.snd.snd.reply.next

/-! ### EngTok -/

theorem CanonERes.trapTok {t w} : CanonERes (trapTok t w) := .trap

theorem CanonERes.tokBody {body : ERes} (h : CanonERes body) {w fn ok} : CanonERes (tokBody w fn ok body) :=
  .ite .ill h

theorem CanonERes.sysBody {body : ERes} (h : CanonERes body) {w k} : CanonERes (sysBody w k body) := .ite .ill h

theorem CanonERes.notAtomic {body : ERes} (h : CanonERes body) {w x} : CanonERes (notAtomic w x body) :=
  .ite .trapTok h

theorem CanonERes.unflowedOnly {body : ERes} (h : CanonERes body) {w x} : CanonERes (unflowedOnly w x body) :=
  .ite .trapTok h

theorem State.Canon.syncM {body : ERes} (h : s.Canon) (h₁ : CanonERes body) {e c} : CanonERes (s.syncM e c body) :=
  .ite h₁ h.takeDeferred.boundary.stall

theorem State.Canon.outboxPut (h : s.Canon) {e c w x o} : CanonERes (s.outboxPut e c w x o) := .ite .trapTok h.goNext

theorem State.Canon.output (h : s.Canon) {e c w x o} : CanonERes (s.output e c w x o) :=
  .ite (.notAtomic (.unflowedOnly (h.syncM h.release.go))) h.outboxPut

theorem State.Canon.execTake (h : s.Canon) {e w} : NextCanon (execTake e w s) :=
  State.Canon.next (h.engExec (fun h₁ => .tokBody (.ite .trapTok h₁.goNext)))

theorem State.Canon.execTagk (h : s.Canon) {e w} : NextCanon (execTagk e w s) :=
  State.Canon.next (h.engExec (fun h₁ => h₁.goNext.tokBody))

theorem State.Canon.execEmit (h : s.Canon) {e w} : NextCanon (execEmit e w s) :=
  State.Canon.next (h.engExec (fun h₁ => .tokBody (.ite .ill h₁.output)))

theorem State.Canon.execSendq (h : s.Canon) {e w} : NextCanon (execSendq e w s) :=
  State.Canon.next (h.engExec (fun h₁ => .tokBody (.ite .ill h₁.output)))

theorem State.Canon.recvNone (h : s.Canon) {e c w x code} : CanonERes (s.recvNone e c w x code) := h.goNext

theorem State.Canon.recvTake (h : s.Canon) {e c n w x q} : CanonERes (s.recvTake e c n w x q) := h.setQ.goNext

theorem State.Canon.execRecvq (h : s.Canon) {e w} : NextCanon (execRecvq e w s) := by
  unfold Machine.execRecvq
  refine State.Canon.next ?_
  refine h.engExec (fun h₁ => ?_)
  refine .tokBody ?_
  refine .notAtomic ?_
  extract_lets _ s₃ _ s₅ _ s₇
  have h₃ : s₃.Canon := h₁.wakeFor.touch
  have h₅ : s₅.Canon := h₃.setCtx.retire
  have h₇ : s₇.Canon := h₅.setCtx
  refine .ite .trapTok ?_
  refine .ite h₁.stall ?_
  refine .ite h₃.recvNone ?_
  split
  · exact h₃.recvTake
  · exact .ite h₃.recvNone h₇.setQ.left

theorem State.Canon.execSpawn (h : s.Canon) {e w} : NextCanon (execSpawn e w s) :=
  State.Canon.next (h.engExec (fun h₁ => .tokBody (.notAtomic (.ite .trapTok (.ite h₁.goNext h₁.setCtx.stall)))))

theorem State.Canon.execCancel (h : s.Canon) {e w} : NextCanon (execCancel e w s) :=
  State.Canon.next (h.engExec (fun h₁ => .tokBody (.notAtomic (.ite h₁.goNext h₁.setCtx.stall))))

theorem State.Canon.answered (h : s.Canon) {e c rd v outs} : (s.answered e c rd v outs).Canon := by
  unfold State.answered
  exact h.setCtx.retire.boundary

theorem State.Canon.execDugoutAnswer (h : s.Canon) {e c} : NextCanon (execDugoutAnswer e c s) := by
  unfold Machine.execDugoutAnswer
  refine State.Canon.next ?_
  refine .ite h ?_
  extract_lets s₁
  have h₁ : s₁.Canon := h.touch
  split
  · exact h
  · extract_lets r₂
    have h₂ : CanonOut₂ r₂ := h₁.spawnReserve
    split <;> exact h₂.snd.snd.answered
  · exact .ite h₁.cancelInst.snd h₁.cancelInst.snd.answered

theorem State.Canon.commitEnd (h : s.Canon) {e c ends} : CanonERes (s.commitEnd e c ends) :=
  .ite (.left (.withMemc h.retire.setCtx.setInst)) h.retire.setCtx.releaseAll.endReleased.left

theorem State.Canon.execCommit (h : s.Canon) {e w} : NextCanon (execCommit e w s) :=
  State.Canon.next (h.engExec (fun h₁ => .tokBody (.notAtomic (.unflowedOnly (h₁.syncM h₁.setCtx.releaseAll.go)))))

theorem State.Canon.execCommitE (h : s.Canon) {e w} : NextCanon (execCommitE e w s) :=
  State.Canon.next (h.engExec (fun h₁ => .tokBody (.notAtomic (h₁.syncM h₁.commitEnd))))

theorem State.Canon.execYield (h : s.Canon) {e w} : NextCanon (execYield e w s) :=
  State.Canon.next (h.engExec (fun h₁ => .tokBody (.notAtomic (h₁.syncM h₁.commitEnd))))

theorem State.Canon.snapAsk (h : s.Canon) {t} : CanonOut (s.snapAsk t) := by
  unfold State.snapAsk
  split
  · exact h.pair
  · exact h.wakeFor.softRequest.snd.touch.pair

theorem State.Canon.execSnap (h : s.Canon) {e w} : NextCanon (execSnap e w s) :=
  State.Canon.next (h.engExec (fun h₁ => h₁.snapAsk.snd.goNext.notAtomic.tokBody))

theorem State.Canon.execStop (h : s.Canon) {e w} : NextCanon (execStop e w s) :=
  State.Canon.next (h.engExec (fun h₁ => h₁.raise.goNext.tokBody))

theorem State.Canon.execMto (h : s.Canon) {e w} : NextCanon (execMto e w s) :=
  State.Canon.next (h.engExec (fun h₁ => h₁.goNext.tokBody))

theorem State.Canon.execMfo (h : s.Canon) {e w} : NextCanon (execMfo e w s) :=
  State.Canon.next (h.engExec (fun h₁ => h₁.goNext.tokBody))

theorem State.Canon.execAbort (h : s.Canon) {e w} : NextCanon (execAbort e w s) :=
  State.Canon.next (h.engExec (fun h₁ => h₁.retire.abortCtx.left.tokBody))

theorem State.Canon.ctlRead (h : s.Canon) {e c x n} : CanonOpt (s.ctlRead e c x n) := by
  unfold State.ctlRead
  split
  · exact .some h.pair
  · exact .some h.pair
  · exact .some h.pair
  · exact .some h.pair
  · exact .some h.pair
  · exact .some h.pair
  · exact .some h.pair
  · exact .some h.pair
  · exact .some h.pair
  · exact .some h.pair
  · exact .some h.pair
  · exact .some h.pair
  · exact .some h.pair
  · exact .some h.pair
  · exact .some h.free
  · exact .some h.pair
  · exact .some h.free.snd.pair
  · exact .none

theorem State.Canon.execMfc (h : s.Canon) {e w} : NextCanon (execMfc e w s) := by
  unfold Machine.execMfc
  refine State.Canon.next ?_
  refine h.engExec (fun h₁ => ?_)
  refine .ite .ill ?_
  split
  · exact .ill
  · exact State.Canon.goNext (CanonOut.snd ((h₁.ctlRead _ ‹_›)))

theorem State.Canon.execMtc (h : s.Canon) {e w} : NextCanon (execMtc e w s) :=
  State.Canon.next (h.engExec (fun h₁ => .ite .ill (.ite (.ite .ill h₁.goNext) (.ite h₁.goNext .ill))))

theorem State.Canon.execSyncM (h : s.Canon) {e w} : NextCanon (execSyncM e w s) :=
  State.Canon.next (h.engExec (fun h₁ => .sysBody (.notAtomic (h₁.syncM h₁.goNext))))

theorem State.Canon.execSyncI (h : s.Canon) {e w} : NextCanon (execSyncI e w s) :=
  State.Canon.next (h.engExec (fun h₁ => h₁.setEng.goNext.notAtomic.sysBody))

theorem State.Canon.execAtomB (h : s.Canon) {e w} : NextCanon (execAtomB e w s) :=
  State.Canon.next (h.engExec (fun h₁ => h₁.goNext.notAtomic.sysBody))

theorem State.Canon.execAtomE (h : s.Canon) {e w} : NextCanon (execAtomE e w s) :=
  State.Canon.next (h.engExec (fun h₁ => .sysBody (.ite h₁.goNext .trapTok)))

theorem State.Canon.execTret (h : s.Canon) {e w} : NextCanon (execTret e w s) :=
  State.Canon.next (h.engExec (fun h₁ => .sysBody (.ite .ill (.ite .trap h₁.setCtx.go))))

theorem State.Canon.execBrk (h : s.Canon) {e w} : NextCanon (execBrk e w s) :=
  State.Canon.next (h.engExec (fun _ => .sysBody .trapTok))

/-! ### Lib -/

theorem State.Canon.setLib (h : s.Canon) {f} : (s.setLib f).Canon := h.of_eq

theorem State.Canon.libStart (h : s.Canon) {e addr ring x y z} : (s.libStart e addr ring x y z).Canon := by
  unfold State.libStart
  extract_lets _ r₂ r₃ s₄ _ r₆
  have h₂ : CanonOut₂ r₂ := h.memRead
  have h₃ : CanonOut₂ r₃ := h₂.snd.snd.memRead
  have h₄ : s₄.Canon := h₃.snd.snd
  have h₆ : CanonOut r₆ := h₄.free
  exact .ite h₄.setLib h₆.snd.setLib.stageRec

theorem State.Canon.baseEpoch (h : s.Canon) {e buf msgs} : (s.baseEpoch e buf msgs).Canon :=
  .ite h (.send (CanonOut.snd (State.Canon.memWrite (.ite h.setLib h))))

theorem State.Canon.corrFrame (h : s.Canon) {f} : (s.corrFrame f).Canon := .ite h (.ite h.setLib h.setLib)

theorem State.Canon.report (h : s.Canon) {x} : CanonOut (s.report x) := h.free.snd.pair

theorem State.Canon.rtkSolve (h : s.Canon) {e x} : (s.rtkSolve e x).Canon := by
  unfold State.rtkSolve
  refine .ite h ?_
  split
  · exact h
  · exact .ite h.setLib h.report.snd.memWrite.snd.setLib.send

theorem State.Canon.setRobot (h : s.Canon) {r x} : (s.setRobot r x).Canon := h.setLib

theorem State.Canon.prb (h : s.Canon) {ms t status part still x} : CanonOut (s.prb ms t status part still x) :=
  h.free.snd.pair

theorem State.Canon.cofCommit (h : s.Canon) {e c outs} : (s.cofCommit e c outs).Canon := by
  have hb := (h.setCtx (e := e) (c := c) (x := { s.ctx e c with outbox := outs })).commitEnd (e := e) (c := c)
    (ends := false)
  unfold State.cofCommit
  split
  · simp only [*, CanonERes] at hb
    exact hb.pickNext.engTouch
  · exact h

theorem State.Canon.cofReply (h : s.Canon) {e c r blk b} : (s.cofReply e c r blk b).Canon := by
  unfold State.cofReply
  exact h.memWrite.snd.cofCommit

theorem State.Canon.cofSolve (h : s.Canon) {e c r blk x} : (s.cofSolve e c r blk x).Canon := by
  unfold State.cofSolve
  extract_lets
  split
  · exact h
  · exact h.prb.snd.setRobot.cofReply

theorem State.Canon.cofPart (h : s.Canon) {e c r blk x} : (s.cofPart e c r blk x).Canon := by
  unfold State.cofPart
  split
  · exact h
  · exact .ite (.ite h.setRobot.cofCommit h) (.ite h.prb.snd.cofReply (.ite h.setRobot.cofSolve (.ite
      h.setRobot.cofCommit h.setRobot)))

theorem State.Canon.cofLimit (h : s.Canon) {e c r blk x} : (s.cofLimit e c r blk x).Canon := by
  unfold State.cofLimit
  split
  · exact h
  · extract_lets
    split
    · exact h
    · exact .ite h.cofSolve h

theorem State.Canon.execLibraryStart (h : s.Canon) {e addr ring x y z} : NextCanon
    (execLibraryStart e addr ring x y z s) :=
  h.libStart.next

theorem State.Canon.execBaseEpoch (h : s.Canon) {e buf msgs} : NextCanon (execBaseEpoch e buf msgs s) :=
  h.baseEpoch.next

theorem State.Canon.execCorrectionFrame (h : s.Canon) {f} : NextCanon (execCorrectionFrame f s) := h.corrFrame.next

theorem State.Canon.execRtkSolution (h : s.Canon) {e x} : NextCanon (execRtkSolution e x s) := h.rtkSolve.next

theorem State.Canon.execCofPart (h : s.Canon) {e c r blk x} : NextCanon (execCofPart e c r blk x s) := h.cofPart.next

theorem State.Canon.execCofEpochLimit (h : s.Canon) {e c r blk x} : NextCanon (execCofEpochLimit e c r blk x s) :=
  h.cofLimit.next

/-! ### BxlRows -/

theorem State.Canon.bxlDone (h : s.Canon) : s.bxlDone.Canon := h.runActs

theorem State.Canon.bxlRow {f : State → State} (h : s.Canon) (hf : ∀ {t}, t.Canon → (f t).Canon) : NextCanon
    (s.bxlRow f) :=
  State.Canon.next (.ite (.bxlDone (hf h)) h)

theorem State.Canon.msgRow {serve : State → Option Nat × State} (h : s.Canon)
    (hserve : ∀ {t}, t.Canon → CanonOut (serve t)) {m} : NextCanon (s.msgRow m serve) :=
  State.Canon.next (.bxlDone (h.bxlIn (fun h₁ => hserve h₁)))

theorem State.Canon.joinRefused (h : s.Canon) : s.joinRefused.Canon := .ite h (.ite h.trialEnd (.ite h.updEnter h))

theorem State.Canon.discovered (h : s.Canon) : s.discovered.Canon :=
  .ite h (.ite h.discoveryEnd.joinRefused h.discoveryEnd)

theorem State.Canon.execKickoff (h : s.Canon) {p detected preset skew delay} : NextCanon
    (execKickoff p detected preset skew delay s) :=
  h.bxlRow (fun h₁ => .ite h₁ h₁.trainEnd)

theorem State.Canon.execLinkRetrain (h : s.Canon) {p detected preset skew delay} : NextCanon
    (execLinkRetrain p detected preset skew delay s) :=
  h.bxlRow (fun h₁ => .ite h₁ h₁.inc.trainEnd)

theorem State.Canon.execToss (h : s.Canon) {p record} : NextCanon (execToss p record s) :=
  h.bxlRow (fun h₁ => h₁.toss)

theorem State.Canon.execRingDiscoveryEnd (h : s.Canon) : NextCanon (execRingDiscoveryEnd s) :=
  h.bxlRow (fun h₁ => h₁.discovered)

theorem State.Canon.execStackOfOne (h : s.Canon) : NextCanon (execStackOfOne s) :=
  h.bxlRow (fun h₁ => .ite h₁ h₁.stackOfOne)

theorem State.Canon.execLinkDown (h : s.Canon) {p} : NextCanon (execLinkDown p s) :=
  h.bxlRow (fun h₁ => .ite h₁.linkDown h₁)

theorem State.Canon.execHeartbeatSend (h : s.Canon) : NextCanon (execHeartbeatSend s) :=
  h.bxlRow (fun h₁ => h₁.heartbeatSend)

theorem State.Canon.execHeartbeat (h : s.Canon) {p c} : NextCanon (execHeartbeat p c s) :=
  h.bxlRow (fun h₁ => h₁.heartbeat)

theorem State.Canon.execBexlinkStop (h : s.Canon) {p c} : NextCanon (execBexlinkStop p c s) :=
  h.bxlRow (fun h₁ => h₁.stopBlock)

theorem State.Canon.execMemberFail (h : s.Canon) {m} : NextCanon (execMemberFail m s) :=
  h.bxlRow (fun h₁ => h₁.memberFail)

theorem State.Canon.execIsolated (h : s.Canon) : NextCanon (execIsolated s) :=
  h.bxlRow (fun h₁ => .ite h₁ (.ite h₁.isolate.moduleReset h₁.isolate))

theorem State.Canon.execTimeTSend (h : s.Canon) {p sub} : NextCanon (execTimeTSend p sub s) :=
  h.bxlRow (fun h₁ => h₁.timeSend)

theorem State.Canon.execTimeExchange (h : s.Canon) {p isR content sub} : NextCanon
    (execTimeExchange p isR content sub s) :=
  h.bxlRow (fun h₁ => h₁.timeExchange)

theorem State.Canon.execAck (h : s.Canon) {m} : NextCanon (execAck m s) := h.ackIn.bxlDone.next

theorem State.Canon.execAckTimeout (h : s.Canon) {dst} : NextCanon (execAckTimeout dst s) :=
  h.bxlRow (fun h₁ => .ite h₁.ackTimeout h₁)

theorem State.Canon.execTokenMessage (h : s.Canon) {m} : NextCanon (execTokenMessage m s) :=
  h.msgRow (fun h₁ => h₁.tokenNow.snd.pair)

theorem State.Canon.execItemMessage (h : s.Canon) {m} : NextCanon (execItemMessage m s) :=
  h.msgRow (fun h₁ => h₁.itemMessage)

theorem State.Canon.execMirror (h : s.Canon) {m} : NextCanon (execMirror m s) :=
  h.msgRow (fun h₁ => .ite h₁.mirrorIn.snd.bxlAckIn.ans.pair h₁.mirrorIn.snd.pair)

theorem State.Canon.execSnapMessage (h : s.Canon) {m} : NextCanon (execSnapMessage m s) := by
  unfold Machine.execSnapMessage
  refine h.msgRow (fun h₁ => ?_)
  split
  · exact h₁.pair
  · exact h₁.wakeFor.snapMessage.snd.touch.pair

theorem State.Canon.execTimecfg (h : s.Canon) {m} : NextCanon (execTimecfg m s) :=
  h.msgRow (fun h₁ => .ite h₁.pair h₁.offsetWrite.snd.leapWrite.snd.leapWrite.snd.pair)

theorem State.Canon.takePosition (h : s.Canon) {m} : (s.takePosition m).Canon := .ite h.setF h

theorem State.Canon.rosterIn (h : s.Canon) {m} : (s.rosterIn m).Canon := by
  unfold State.rosterIn
  extract_lets _ _ _ s₄ _ s₆
  have h₄ : s₄.Canon := h.rosterApply
  have h₆ : s₆.Canon := by
    unfold s₆
    split
    · exact h₄.handoverTo
    · exact h₄
  exact .ite h (.ite h₆.updAsk h₆)

theorem State.Canon.execRoster (h : s.Canon) {m} : NextCanon (execRoster m s) :=
  h.takePosition.msgRow (fun h₁ => h₁.rosterIn.pair)

theorem State.Canon.execControlJoinReq (h : s.Canon) {m} : NextCanon (execControlJoinReq m s) :=
  State.Canon.next (.ite h (.ite h.setBxl h.joinAsk.bxlDone))

theorem State.Canon.execLeaveReq (h : s.Canon) {m} : NextCanon (execLeaveReq m s) :=
  h.msgRow (fun h₁ => h₁.leaveAsk.pair)

theorem State.Canon.execHandoverDone (h : s.Canon) {m} : NextCanon (execHandoverDone m s) :=
  h.msgRow (fun h₁ => h₁.handoverDone.pair)

theorem State.Canon.execZonMergeDone (h : s.Canon) {m} : NextCanon (execZonMergeDone m s) :=
  State.Canon.next (.ite h h.setZon.zonMirror.zonMirror)

theorem State.Canon.execLeave (h : s.Canon) {req} : NextCanon (execLeave req s) :=
  h.regRow (fun h₁ => h₁.bxlCmdWrite.snd.bxlDone.pair)

theorem State.Canon.execRetrainWest (h : s.Canon) {req} : NextCanon (execRetrainWest req s) :=
  h.regRow (fun h₁ => h₁.bxlCmdWrite)

theorem State.Canon.execRetrainEast (h : s.Canon) {req} : NextCanon (execRetrainEast req s) :=
  h.regRow (fun h₁ => h₁.bxlCmdWrite)

/-! ### Dispatch -/

theorem State.Canon.exec (h : s.Canon) {i} : NextCanon (exec i s) := by
  unfold Machine.exec
  split
  · exact h.execRegisterWrite
  · exact h.execUnlock
  · exact h.execLocked
  · exact h.execRefuseCaptureClear
  · exact h.execPstateRequest
  · exact h.execIslandGate
  · exact h.execIslandWakeDone
  · exact h.execRefinLost
  · exact h.execRefinReturn
  · exact h.execJournalWriteDone
  · exact h.execMramDeviceFail
  · exact h.execCommitRecordValid
  · exact h.execOutputConfirmed
  · exact h.execIslandFaultTrap
  · exact h.execHeartbeatMissed
  · exact h.execFaultReset
  · exact h.execIntegerRegister
  · exact h.execIntegerImmediate
  · exact h.execLup
  · exact h.execAup
  · exact h.execIntegerLoad
  · exact h.execIntegerStore
  · exact h.execAtomicMemoryOperation
  · exact h.execFloatingLoad
  · exact h.execFloatingStore
  · exact h.execConditionalBranch
  · exact h.execJal
  · exact h.execJalr
  · exact h.execFloatingOperate
  · exact h.execFusedMultiplyAdd
  · exact h.execVectorOperate
  · exact h.execVld
  · exact h.execVst
  · exact h.execMemoryRefusal
  · exact h.execEccUncorrectable
  · exact h.execTake
  · exact h.execTagk
  · exact h.execEmit
  · exact h.execSendq
  · exact h.execRecvq
  · exact h.execSpawn
  · exact h.execCancel
  · exact h.execDugoutAnswer
  · exact h.execCommit
  · exact h.execCommitE
  · exact h.execYield
  · exact h.execSnap
  · exact h.execStop
  · exact h.execMto
  · exact h.execMfo
  · exact h.execAbort
  · exact h.execMfc
  · exact h.execMtc
  · exact h.execSyncM
  · exact h.execSyncI
  · exact h.execAtomB
  · exact h.execAtomE
  · exact h.execAtomicLimit
  · exact h.execTret
  · exact h.execBrk
  · exact h.execDvfsRequest
  · exact h.execDvfsStepDone
  · exact h.execDispatch
  · exact h.execCommitConfirm
  · exact h.execOperandToken
  · exact h.execFlowIntake
  · exact h.execFlowItemDelivery
  · exact h.execDescWrite
  · exact h.execDescRead
  · exact h.execDescDelete
  · exact h.execDescCancel
  · exact h.execDescRearm
  · exact h.execSpillRefillBatch
  · exact h.execDugoutStall
  · exact h.execQueueWord
  · exact h.execQueuePush
  · exact h.execQueueConfig
  · exact h.execStaleConfig
  · exact h.execStaleTail
  · exact h.execMillisecondMark
  · exact h.execStreamConfig
  · exact h.execBlankInput
  · exact h.execSampleOverrun
  · exact h.execSpiTransaction
  · exact h.execSpiTransactionDone
  · exact h.execChannelEnable
  · exact h.execChannelDisable
  · exact h.execChannelStart
  · exact h.execChannelStop
  · exact h.execVectorOn
  · exact h.execVectorOff
  · exact h.execChannelLoopWrite
  · exact h.execIntegrationBoundary
  · exact h.execPullinFail
  · exact h.execSyncFail
  · exact h.execCoastExpiry
  · exact h.execFallback
  · exact h.execVectorUpdate
  · exact h.execVectorApply
  · exact h.execSearchCommand
  · exact h.execSearchCaptureStart
  · exact h.execSearchDone
  · exact h.execSearchCancel
  · exact h.execSnapSoftRequest
  · exact h.execSnapStackRequest
  · exact h.execSnapPeriodConfig
  · exact h.execSnapPeriodic
  · exact h.execSnapEdge
  · exact h.execSnapFillDone
  · exact h.execBankHold
  · exact h.execNavUnitDecoded
  · exact h.execBcastExpiry
  · exact h.execPosCommand
  · exact h.execPosCommandStart
  · exact h.execPosSearchDone
  · exact h.execPosDeadline
  · exact h.execPosCancel
  · exact h.execLibraryStart
  · exact h.execBaseEpoch
  · exact h.execCorrectionFrame
  · exact h.execRtkSolution
  · exact h.execCofPart
  · exact h.execCofEpochLimit
  · exact h.execTimeLatch
  · exact h.execGpsOffsetWrite
  · exact h.execLeapSecond
  · exact h.execSourceSelect
  · exact h.execSlewMaxWrite
  · exact h.execTimeCorrection
  · exact h.execStepPart
  · exact h.execHoldover
  · exact h.execCaptureInputEdge
  · exact h.execCaptureStampRead
  · exact h.execPinEnable
  · exact h.execPinDisable
  · exact h.execPinLeadingEdge
  · exact h.execPinTrailingEdge
  · exact h.execTxStampRead
  · exact h.execEthTransmit
  · exact h.execEthFrameSent
  · exact h.execEthFrameReceived
  · exact h.execEthLinkChange
  · exact h.execRadioPortEnable
  · exact h.execRadioPortDisable
  · exact h.execArm
  · exact h.execArmFresh
  · exact h.execUpdateMap
  · exact h.execUpdateTiming
  · exact h.execUpdateGroups
  · exact h.execRelease
  · exact h.execAssociationOff
  · exact h.execBeacon
  · exact h.execJoinReq
  · exact h.execConnectionEvent
  · exact h.execRobotFrame
  · exact h.execSupervisionTimeout
  · exact h.execJoinFail
  · exact h.execCloseTimeout
  · exact h.execUpdateInstant
  · exact h.execRadioRecordAssociation
  · exact h.execRadioRecordGroup
  · exact h.execGroupEvent
  · exact h.execStopBurst
  · exact h.execBudgetSecond
  · exact h.execZonEnable
  · exact h.execZonCommand
  · exact h.execReserve
  · exact h.execCheck
  · exact h.execZonRelease
  · exact h.execReleaseOwner
  · exact h.execZonWritebackDone
  · exact h.execZonCancel
  · exact h.execTrackExpiry
  · exact h.execZonRebuild
  · exact h.execZon2pcHoldTimeout
  · exact h.execForward
  · exact h.execPrepare
  · exact h.execVote
  · exact h.execDecide
  · exact h.execZonDone
  · exact h.execZonResult
  · exact h.execZonAsk
  · exact h.execZonConfig
  · exact h.execStopInput
  · exact h.execStopRaise
  · exact h.execStopArm
  · exact h.execStopRelease
  · exact h.execStopArmExpiry
  · exact h.execDisagree
  · exact h.execReadbackMismatch
  · exact h.execOutputEnableWrite
  · exact h.execSlotEnable
  · exact h.execSlotRun
  · exact h.execSlotDisable
  · exact h.execClearFault
  · exact h.execSlotTarget
  · exact h.execSlotSetpoint
  · exact h.execMeasuredWrite
  · exact h.execOutputStep
  · exact h.execLawTick
  · exact h.execStale
  · exact h.execIlSoftSet
  · exact h.execIlSoftClr
  · exact h.execAnalogSample
  · exact h.execImpactRateBucket
  · exact h.execPulseEdge
  · exact h.execPulseZero
  · exact h.execPwmPeriodStart
  · exact h.execTallyEnable
  · exact h.execTallyDisable
  · exact h.execTallyIncrement
  · exact h.execTallyIncWrite
  · exact h.execTallyLatch
  · exact h.execTallyCheckpoint
  · exact h.execTallySaveDone
  · exact h.execTallyPartialSave
  · exact h.execTallyClear
  · exact h.execTempWrite
  · exact h.execTempStale
  · exact h.execLagStep
  · exact h.execPulseOutputEnable
  · exact h.execPulseOutputStart
  · exact h.execPulseOutputEnd
  · exact h.execCanEnable
  · exact h.execCanDisable
  · exact h.execRecover
  · exact h.execCanRecoveryDone
  · exact h.execCanError
  · exact h.execCanFrameReceived
  · exact h.execCanObjectEnable
  · exact h.execCanObjAck
  · exact h.execCanQueueRd
  · exact h.execCanTxRequest
  · exact h.execCanTxSelect
  · exact h.execCanTxComplete
  · exact h.execCanCancel
  · exact h.execKickoff
  · exact h.execToss
  · exact h.execRingDiscoveryEnd
  · exact h.execLinkDown
  · exact h.execLinkRetrain
  · exact h.execHeartbeatSend
  · exact h.execHeartbeat
  · exact h.execBexlinkStop
  · exact h.execMemberFail
  · exact h.execIsolated
  · exact h.execBexlinkSend
  · exact h.execAck
  · exact h.execAckTimeout
  · exact h.execTokenMessage
  · exact h.execItemMessage
  · exact h.execMirror
  · exact h.execRoster
  · exact h.execSnapMessage
  · exact h.execTimecfg
  · exact h.execStopinfo
  · exact h.execControlJoinReq
  · exact h.execLeaveReq
  · exact h.execControlStopArm
  · exact h.execStopReady
  · exact h.execControlStopRelease
  · exact h.execHandoverDone
  · exact h.execTimeTSend
  · exact h.execTimeExchange
  · exact h.execLeave
  · exact h.execRetrainWest
  · exact h.execRetrainEast
  · exact h.execBegin
  · exact h.execWriteBlock
  · exact h.execWriteBlockDone
  · exact h.execVerify
  · exact h.execVerifyDone
  · exact h.execActivate
  · exact h.execSwapPhaseDone
  · exact h.execRestart
  · exact h.execConfirm
  · exact h.execReject
  · exact h.execDistribute
  · exact h.execAbandon
  · exact h.execTrialTimeout
  · exact h.execConfirming
  · exact h.execReverting
  · exact h.execUpdateBlock
  · exact h.execUpdatePrepare
  · exact h.execUpdateVote
  · exact h.execUpdateDecide
  · exact h.execUpdateSwapped
  · exact h.execUpdateRestart
  · exact h.execUpdateRestartTime
  · exact h.execHealthy
  · exact h.execUnhealthy
  · exact h.execVerdict
  · exact h.execUpdateAsk
  · exact h.execUpdateRecord
  · exact h.execDecideTimeout
  · exact h.execSliceStart
  · exact h.execSliceEnd
  · exact h.execSliceAbort
  · exact h.execSliceRetry
  · exact h.execHang
  · exact h.execRoundEnd
  · exact h.execFence
  · exact h.execIslandRelease
  · exact h.execIslandReleaseDone
  · exact h.execLastBreathClear
  · exact h.execScbSoftwareRecord
  · exact h.execScbRecordWritten
  · exact h.execOpenBookmark
  · exact h.execCloseBookmark
  · exact h.execAdvanceBookmark
  · exact h.execClearRecords
  · exact h.execSendRecords
  · exact h.execMainRing
  · exact h.execPowerOn
  · exact h.execConverterStart
  · exact h.execPinReset
  · exact h.execSoftwareReset
  · exact h.execBrownOut
  · exact h.execResetRelease
  · exact h.execPowerupBistDone
  · exact h.execLoaderCheckDone
  · exact h.execLoaderDone
  · exact h.execRestore
  · exact h.execRunStart
  · exact h.execPwrfailAssert
  · exact h.execPwrfailDeassert
  · exact h.execThermalSample
  · exact h.execEjectRequest
  · exact h.execHostRead
  · exact h.execHostWrite
  · exact h.execHostToken
  · exact h.execSubmit
  · exact h.execHostClose
  · exact h.execPing
  · exact h.execSqDoorbell
  · exact h.execBar2Access
  · exact h.execHostNotice
  · exact h.execPciePerst
  · exact h.execPcieLinkChange
  · exact h.execReport
  · exact h.execArbitrationLost
  · exact h.execPauseExpiry
  · exact h.execWatchdog
  · exact h.execStackOfOne
  · exact h.execZonMergeDone
  · exact h.execZonRebuildDone
  · exact h.execEjectReqHigh
  · exact h.execCqRdWrite

/-! ### Tick -/

theorem State.Canon.cfgTick (h : s.Canon) : s.cfgTick.Canon := .ite h.timeCfgSend h

theorem State.Canon.tick (h : s.Canon) : s.tick.Canon :=
  .ite h h.talBeforeTick.timTick.talTick.radTick.leaveCheck.cfgTick.updSecond.ejectTick.bxlDone

/-! ### Step -/

theorem State.Canon.step (h : s.Canon) : NextCanon (step s) := by
  unfold Machine.step
  split
  · exact h.tick.next
  · exact h.of_eq.exec

/-- Settles O5. -/
theorem resetWf : Obligations.ResetWf := (State.canon_iff _).1 State.Canon.reset

/-- Settles O6: every command and every edge is made of the writes above. -/
theorem stepKeepsWf : Obligations.StepKeepsWf :=
  fun s t hs ht => (State.canon_iff t).1 (((State.canon_iff s).2 hs).step t ht)

end Sys2Proof.Machine
end

section
/-! PROOFS. The power states of an island (R30 to R32): what a write of PSTATE leaves, what an island that goes OFF keeps of
its requests, and how one comes up again. -/

namespace Sys2Proof.Machine

/-! ### Staging a record -/

/-- A staged record changes SCB's lists, the last-breath cell, the fresh values and the count of dropped records alone. -/
theorem State.stageRec_eq (s : State) (r : ScbRec) :
    ∃ n c b g, s.stageRec r = { s with fresh := n, scb := c, cell := b, regs := g } ∧
      ∀ q : RF, q.key ≠ SCB_DROPPED_COUNT.key → g.get regReset q.key = s.f q := by
  unfold State.stageRec
  split
  · exact ⟨s.fresh, s.scb, s.cell, s.regs, rfl, fun _ _ => rfl⟩
  split
  · exact ⟨_, s.scb, _, s.regs, rfl, fun _ _ => rfl⟩
  split
  · exact ⟨s.fresh, _, s.cell, s.regs, rfl, fun _ _ => rfl⟩
  split
  · exact ⟨s.fresh, _, s.cell, s.regs, rfl, fun _ _ => rfl⟩
  · exact ⟨s.fresh, _, s.cell, _, rfl, fun q hq => s.f_setF_ne SCB_DROPPED_COUNT q _ hq⟩

theorem State.stage_eq (s : State) (typ : Nat) (args : List Nat) :
    ∃ n c b g, s.stage typ args = { s with fresh := n, scb := c, cell := b, regs := g } ∧
      ∀ q : RF, q.key ≠ SCB_DROPPED_COUNT.key → g.get regReset q.key = s.f q :=
  State.stageRec_eq { s with fresh := s.fresh + 1 } _

theorem State.keeps_stage (s : State) (typ : Nat) (args : List Nat) :
    s.keeps (s.stage typ args) [SCB_DROPPED_COUNT] := by
  obtain ⟨n, c, b, g, he, hf⟩ := s.stage_eq typ args
  rw [he]
  exact ⟨rfl, rfl, fun q hq => hf q (hq _ List.mem_cons_self)⟩

/-- The answer to a token's sender: a refusal of an output of an instance leaves a record and a notice. -/
theorem State.keeps_answerTo (s : State) (code src dest : Nat) (task : Option (Nat × Nat × Nat)) :
    s.keeps (s.answerTo code src dest task) [SCB_DROPPED_COUNT] := by
  unfold State.answerTo
  split
  · split
    · exact s.keeps_refl _
    · unfold State.refusalReport
      split <;> exact s.keeps_stage ..
  · exact s.keeps_refl _

/-! ### A write of PSTATE (R30, R32) -/

/-- The map's entry of a common register, the same in every island. -/
theorem regAt_common {a o : Nat} {r : RegD} (ha : a < 0x0300000000) (ho : a % 0x10000 = o)
    (hr : ∀ l, findReg (regTabPrefix ++ l) o = some (r, o)) : regAt a = some (r, a) := by
  have hl : regList a = (regTabPrefix ++ islandRegs ((a - 0x0200000000) / 0x10000), o) := by
    rw [regList, if_pos ha, ho]
  simp [regAt, hl, hr]

theorem regAt_PSTATE {isl : Nat} (hi : isl < 0x2E) : regAt (0x0200000004 + isl * 0x10000) =
    some (⟨0x4, 4, 1, 1, 1, 1, [⟨16, 16, .ro, []⟩, ⟨8, 8, .rw, []⟩, ⟨4, 3, .rw, [(0, 0), (2, 2), (3, 3)]⟩,
      ⟨0, 3, .ro, []⟩]⟩, 0x0200000004 + isl * 0x10000) :=
  regAt_common (by omega) (o := 4) (by omega) fun _ => rfl

/-- The request and the state of an island are fields of their own. -/
theorem PSTATE_REQ_ne_STATE (isl : Nat) : (ISL_PSTATE_REQ isl).key ≠ (ISL_PSTATE_STATE isl).key := by
  simp only [RF.key, ISL_PSTATE_REQ, ISL_PSTATE_STATE]
  omega

/-- An island's state reads as it was set. -/
theorem State.ist_setF (s : State) (isl : Nat) {v : Nat} (hv : v < 8) :
    (s.setF (ISL_PSTATE_STATE isl) v).ist isl = v := by
  rw [State.ist, State.f_setF_same]
  exact Nat.mod_eq_of_lt hv

/-- The request and the gating delay as a write of PSTATE leaves them. -/
def State.requested (s : State) (isl v : Nat) : State :=
  (s.setF (ISL_PSTATE_GATE_DELAY isl) (bits v 15 8)).setF (ISL_PSTATE_REQ isl) (bits v 6 4)

theorem State.regW_PSTATE {isl v : Nat} (hi : isl < 0x2E) (hv : bits v 6 4 = 0 ∨ bits v 6 4 = 2 ∨ bits v 6 4 = 3)
    (s : State) (req : Nat) :
    s.regW isl req (0x0200000004 + isl * 0x10000) v = (cOK, s.requested isl v) := by
  refine State.regW_taken (regAt_PSTATE hi) ?_ rfl s isl req
  have hd : (⟨4, 3, .rw, [(0, 0), (2, 2), (3, 3)]⟩ : FieldD).val v = bits v 6 4 := rfl
  simp only [legalWrite, List.all_cons, List.all_nil, hd]
  rcases hv with h | h | h <;> simp [h]

theorem State.requested_REQ (s : State) (isl v : Nat) : (s.requested isl v).f (ISL_PSTATE_REQ isl) = bits v 6 4 := by
  rw [State.requested, State.f_setF_same]
  exact Nat.mod_mod ..

theorem State.requested_GATE_DELAY (s : State) (isl v : Nat) :
    (s.requested isl v).f (ISL_PSTATE_GATE_DELAY isl) = bits v 15 8 := by
  rw [State.requested, State.f_setF_ne, State.f_setF_same]
  · exact Nat.mod_mod ..
  · simp only [RF.key, ISL_PSTATE_GATE_DELAY, ISL_PSTATE_REQ]
    omega

theorem State.ist_requested (s : State) (isl v : Nat) : (s.requested isl v).ist isl = s.ist isl := by
  rw [State.requested, State.ist, State.f_setF_ne, State.f_setF_ne]
  · rfl
  all_goals
    simp only [RF.key, ISL_PSTATE_GATE_DELAY, ISL_PSTATE_REQ, ISL_PSTATE_STATE]
    omega

theorem State.keeps_requested (s : State) (isl v : Nat) :
    s.keeps (s.requested isl v) [ISL_PSTATE_STATE isl, ISL_PSTATE_REQ isl, ISL_PSTATE_GATE_DELAY isl] :=
  ((s.keeps_refl _).setF (by simp) _).setF (by simp) _

/-- An island takes up a request to serve: an engine by its contexts, another island at once. -/
def State.resumed (s : State) (isl : Nat) : State :=
  if 0x10 ≤ isl ∧ isl < 0x20 then s.engTouch (isl - 0x10) else s.touch isl

theorem State.pstateWrite_taken {s : State} {isl v : Nat} (hi : isl < 0x2E) (hs : s.serves isl = true)
    (hv : bits v 6 4 = 2 ∨ bits v 6 4 = 3) (req : Nat) :
    s.pstateWrite req isl v = (cOK, (s.requested isl v).resumed isl) := by
  have hist : s.ist isl ≠ 5 ∧ s.ist isl ≠ 0 := by
    obtain ⟨-, h⟩ := (s.serves_iff isl).1 hs
    omega
  have h0 : bits v 6 4 ≠ 0 := by omega
  have hb : ¬0x2E ≤ isl := by omega
  simp [State.pstateWrite, State.regW_PSTATE hi (.inr hv) s req, State.resumed, State.ist_requested, h0, hb, hist]

/-- A request for OFF turns a serving island off. -/
theorem State.pstateWrite_off {s : State} {isl v : Nat} (hi : isl < 0x2E) (hs : s.serves isl = true)
    (hv : bits v 6 4 = 0) (hn : neverGates isl = false) (req : Nat) :
    s.pstateWrite req isl v = (cOK, (s.requested isl v).islandOff isl) := by
  have hist : s.ist isl ≠ 5 ∧ s.ist isl ≠ 0 := by
    obtain ⟨-, h⟩ := (s.serves_iff isl).1 hs
    omega
  have hb : ¬0x2E ≤ isl := by omega
  simp [State.pstateWrite, State.regW_PSTATE hi (.inl hv) s req, State.ist_requested, hv, hn, hb, hist]

theorem State.keeps_engTouch (s : State) (e : Nat) : s.keeps (s.engTouch e) [ISL_PSTATE_STATE (iENG e)] := by
  unfold State.engTouch
  split
  · split
    · split
      · exact s.keeps_refl _
      · exact State.keeps.setF (s.keeps_refl _) (by simp) _
    · exact (s.keeps_refl _).setF (by simp) _
  · exact s.keeps_refl _

theorem iENG_sub {isl : Nat} (h : 0x10 ≤ isl) : iENG (isl - 0x10) = isl := by
  simp only [iENG]
  omega

theorem State.keeps_resumed (s : State) (isl : Nat) : s.keeps (s.resumed isl) [ISL_PSTATE_STATE isl] := by
  unfold State.resumed
  split
  · next h =>
    have hk := s.keeps_engTouch (isl - 0x10)
    rwa [iENG_sub h.1] at hk
  · exact s.keeps_touch isl

theorem State.serves_ist {s : State} {isl : Nat} (hs : s.serves isl = true) : s.ist isl = 2 ∨ s.ist isl = 3 :=
  ((s.serves_iff isl).1 hs).2

theorem State.holds_serves {s : State} {isl : Nat} (hs : s.serves isl = true) : s.holds isl = false := by
  rcases s.serves_ist hs with h | h <;> simp [State.holds, h]

/-- An island that has served is IDLE if its gating is asked for, otherwise ON. -/
theorem State.ist_touch {s : State} {isl : Nat} (hs : s.ist isl = 2 ∨ s.ist isl = 3) :
    (s.touch isl).ist isl = if s.f (ISL_PSTATE_REQ isl) = 2 then 2 else 3 := by
  rw [State.touch, if_pos hs, State.ist, State.f_setF_same]
  change (if s.f (ISL_PSTATE_REQ isl) = 2 then 2 else 3) % 2 ^ 3 = _
  split <;> rfl

/-- An island that serves and is to be ON is ON. -/
theorem State.ist_resumed_on {s : State} {isl : Nat} (hs : s.ist isl = 2 ∨ s.ist isl = 3)
    (hr : s.f (ISL_PSTATE_REQ isl) = 3) : (s.resumed isl).ist isl = 3 := by
  unfold State.resumed
  split
  · next h =>
    have ho : s.engOn (isl - 0x10) = true := by simpa [State.engOn, iENG_sub h.1] using hs
    simp [State.engTouch, ho, iENG_sub h.1, hr, State.ist, ISL_PSTATE_STATE]
  · simp [State.ist_touch hs, hr]

theorem exec_pstateRequest {s : State} {isl : Nat} (hi : isIsland isl = true) (hh : s.holds isl = false) (req v : Nat) :
    exec (.pstateRequest req isl v) s = done (s.pstateWrite req isl v) := by
  simp only [exec, execPstateRequest, State.prefixRow_serves hi hh]

theorem pstateRequest_on {s : State} {isl v : Nat} (hi : isl < 0x2E) (hs : s.serves isl = true) (hv : bits v 6 4 = 3)
    (req : Nat) : ∃ t : State, exec (.pstateRequest req isl v) s = .next t ∧ t.answer = cOK ∧ t.ist isl = 3 ∧
      t.f (ISL_PSTATE_REQ isl) = 3 ∧ t.f (ISL_PSTATE_GATE_DELAY isl) = bits v 15 8 ∧
      s.keeps t [ISL_PSTATE_STATE isl, ISL_PSTATE_REQ isl, ISL_PSTATE_GATE_DELAY isl] := by
  rw [exec_pstateRequest ((s.serves_iff isl).1 hs).1 (s.holds_serves hs), State.pstateWrite_taken hi hs (.inr hv)]
  have hk := (s.requested isl v).keeps_resumed isl
  have hr := (s.requested_REQ isl v).trans hv
  have hi := s.serves_ist hs
  rw [← s.ist_requested isl v] at hi
  refine ⟨_, rfl, rfl, State.ist_resumed_on hi hr, (hk.f_eq ?_).trans hr,
    (hk.f_eq ?_).trans (s.requested_GATE_DELAY isl v), (s.keeps_requested isl v).trans (hk.mono (by simp))⟩
  all_goals
    simp only [List.mem_singleton, forall_eq, RF.key, ISL_PSTATE_GATE_DELAY, ISL_PSTATE_REQ, ISL_PSTATE_STATE]
    omega

theorem pstateRequest_idle {s : State} {isl v : Nat} (hi : isl < 0x2E) (hs : s.serves isl = true)
    (hv : bits v 6 4 = 2) (he : ¬(0x10 ≤ isl ∧ isl < 0x20)) (req : Nat) :
    ∃ t : State, exec (.pstateRequest req isl v) s = .next t ∧ t.answer = cOK ∧ t.ist isl = 2 ∧
      s.keeps t [ISL_PSTATE_STATE isl, ISL_PSTATE_REQ isl, ISL_PSTATE_GATE_DELAY isl] := by
  rw [exec_pstateRequest ((s.serves_iff isl).1 hs).1 (s.holds_serves hs), State.pstateWrite_taken hi hs (.inl hv)]
  have hr := (s.requested_REQ isl v).trans hv
  have hi := s.serves_ist hs
  rw [← s.ist_requested isl v] at hi
  refine ⟨_, rfl, rfl, ?_, (s.keeps_requested isl v).trans (((s.requested isl v).keeps_resumed isl).mono (by simp))⟩
  change ((s.requested isl v).resumed isl).ist isl = 2
  rw [State.resumed, if_neg he, State.ist_touch hi, if_pos hr]

theorem pstateRequest_refused {s : State} {isl v : Nat} (hi : isIsland isl = true) (hh : s.holds isl = false)
    (hv : bits v 6 4 = 0) (hn : neverGates isl = true) (req : Nat) :
    ∃ t : State, exec (.pstateRequest req isl v) s = .next t ∧ t.answer = cRANGE ∧ s.keeps t (refuseRegs isl) := by
  have hw : s.pstateWrite req isl v = s.regRefuse isl (0x0200000004 + isl * 0x10000) req cRANGE := by
    simp [State.pstateWrite, hv, hn]
  rw [exec_pstateRequest hi hh, hw]
  exact ⟨_, rfl, rfl, s.keeps_refuse ..⟩

/-! ### An island goes OFF (R30) -/

/-- What an island held is answered with a refusal. -/
def State.refuseHeld (c : Nat) (s : State) (h : HeldReq) : State :=
  match h with
  | .token _ t => s.answerTo c t.src t.dest t.task
  | .write i req a _ _ => (s.refuse i a req true c).ans c
  | .word _ => s

/-- A field that no refusal touches: it is of no island's refused-access record and does not count dropped records. -/
def RF.offRefusal (q : RF) : Prop := q.key ≠ SCB_DROPPED_COUNT.key ∧ ∀ i, ∀ r ∈ refuseRegs i, q.key ≠ r.key

/-- The refused-access record of an island lies from 0x10 to 0x1F of its block. -/
theorem refuseRegs_offset {i : Nat} {r : RF} (hr : r ∈ refuseRegs i) :
    0x10 ≤ r.key / 64 % 0x10000 ∧ r.key / 64 % 0x10000 < 0x20 := by
  simp only [refuseRegs, List.mem_cons, List.not_mem_nil, or_false] at hr
  rcases hr with rfl | rfl | rfl | rfl | rfl | rfl <;>
    simp only [RF.key, ISL_REFUSE_ADDR_ADDR, ISL_REFUSE_INFO_VALID, ISL_REFUSE_INFO_WRITE, ISL_REFUSE_INFO_REQUESTER,
      ISL_REFUSE_INFO_STATUS, ISL_REFUSE_COUNT_COUNT] <;>
    omega

theorem RF.offRefusal.of_offset {q : RF} (hd : q.key ≠ SCB_DROPPED_COUNT.key)
    (ho : q.key / 64 % 0x10000 < 0x10 ∨ 0x20 ≤ q.key / 64 % 0x10000) : q.offRefusal :=
  ⟨hd, fun i r hr => by have := refuseRegs_offset hr; intro h; rw [← h] at this; omega⟩

theorem PSTATE_STATE_offset (isl : Nat) : (ISL_PSTATE_STATE isl).key / 64 % 0x10000 = 4 := by
  simp only [RF.key, ISL_PSTATE_STATE]
  omega

theorem PSTATE_REQ_offset (isl : Nat) : (ISL_PSTATE_REQ isl).key / 64 % 0x10000 = 4 := by
  simp only [RF.key, ISL_PSTATE_REQ]
  omega

theorem SCB_DROPPED_offset : SCB_DROPPED_COUNT.key / 64 % 0x10000 = 0x24 := rfl

/-- A common register below the record is off it. -/
theorem RF.offRefusal.of_common {q : RF} (h : q.key / 64 % 0x10000 = 4) : q.offRefusal :=
  .of_offset (fun he => by rw [he, SCB_DROPPED_offset] at h; omega) (by omega)

theorem State.f_refuseHeld (c : Nat) (s : State) (h : HeldReq) {q : RF} (hq : q.offRefusal) :
    (s.refuseHeld c h).f q = s.f q := by
  obtain ⟨hd, hr⟩ := hq
  cases h with
  | token i t => exact (s.keeps_answerTo ..).f_eq (by simpa using hd)
  | write i req a n v => exact (State.f_ans ..).trans ((s.keeps_refuse ..).f_eq (hr i))
  | word w => rfl

theorem State.f_refuseHeld_foldl (c : Nat) (s : State) (l k : List HeldReq) {q : RF} (hq : q.offRefusal) :
    (l.foldl (State.refuseHeld c) { s with held := k }).f q = s.f q :=
  List.foldlRecOn (motive := fun t : State => t.f q = s.f q) l _ rfl fun t ht h _ => (t.f_refuseHeld c h hq).trans ht

/-- An island that is OFF, and is not asked to be otherwise. -/
theorem State.islandOff_spec (s : State) {isl : Nat} (hb : isl ≠ iBXL) :
    (s.islandOff isl).ist isl = 0 ∧ (s.islandOff isl).f (ISL_PSTATE_REQ isl) = 0 := by
  unfold State.islandOff
  extract_lets s₁ s₂ s₃ l s₄
  have hist : s₃.ist isl = 0 :=
    (State.f_setF_ne _ _ _ _ (PSTATE_REQ_ne_STATE isl).symm).trans (State.ist_setF _ isl (by decide))
  have hreq : s₃.f (ISL_PSTATE_REQ isl) = 0 := by rw [State.f_setF_same, Nat.zero_mod]
  rw [if_neg hb]
  exact ⟨(s₃.f_refuseHeld_foldl cNO_ROUTE l _ (.of_common (PSTATE_STATE_offset isl))).trans hist,
    (s₃.f_refuseHeld_foldl cNO_ROUTE l _ (.of_common (PSTATE_REQ_offset isl))).trans hreq⟩

theorem pstateRequest_off {s : State} {isl v : Nat} (hi : isl < 0x2E) (hs : s.serves isl = true)
    (hv : bits v 6 4 = 0) (hn : neverGates isl = false) (hb : isl ≠ iBXL) (req : Nat) :
    ∃ t : State, exec (.pstateRequest req isl v) s = .next t ∧ t.answer = cOK ∧ t.ist isl = 0 ∧
      t.f (ISL_PSTATE_REQ isl) = 0 := by
  rw [exec_pstateRequest ((s.serves_iff isl).1 hs).1 (s.holds_serves hs), State.pstateWrite_off hi hs hv hn]
  exact ⟨_, rfl, rfl, (s.requested isl v).islandOff_spec hb⟩

/-! ### Gating and waking (R30, R31) -/

theorem islandGate_gates {s : State} {isl : Nat} (hi : s.ist isl = 2) (hn : neverGates isl = false)
    (ha : s.islandActive isl = false)
    (ht : Tab.get (fun _ => 0) s.idleSince isl + s.f (ISL_PSTATE_GATE_DELAY isl) * 10 ≤ s.now) :
    ∃ t : State, exec (.islandGate isl) s = .next t ∧ t.ist isl = 1 ∧ s.keeps t [ISL_PSTATE_STATE isl] := by
  have hg : exec (.islandGate isl) s = .next (s.setF (ISL_PSTATE_STATE isl) 1) := by
    simp only [exec, execIslandGate, State.islandGate, hi, hn, ha, ht, and_self, if_true]
  exact ⟨_, hg, s.ist_setF isl (by decide), (s.keeps_refl _).setF (by simp) 1⟩

/-- Where a change of an engine's cap shows: its own DVFS registers. -/
def dvfsRegs (e : Nat) : List RF := [ENG_DVFS_CAPPED e, ENG_DVFS_CUR e, ENG_DVFS_SWITCHING e]

/-- From s to t memory, what waits, and every register but DVFS registers of engines are as they were. -/
def State.dvfsOnly (s t : State) : Prop :=
  t.mem = s.mem ∧ t.held = s.held ∧ ∀ q : RF, (∀ e, ∀ r ∈ dvfsRegs e, q.key ≠ r.key) → t.f q = s.f q

theorem State.dvfsOnly.setF {s t : State} (h : s.dvfsOnly t) {e : Nat} {r : RF} (hr : r ∈ dvfsRegs e) (v : Nat) :
    s.dvfsOnly (t.setF r v) := by
  obtain ⟨hm, hh, hf⟩ := h
  exact ⟨hm, hh, fun q hq => (t.f_setF_ne r q v (hq e r hr)).trans (hf q hq)⟩

theorem State.dvfsOnly.dvfsApply {s t : State} (h : s.dvfsOnly t) (e : Nat) : s.dvfsOnly (t.dvfsApply e) := by
  unfold State.dvfsApply
  extract_lets g t₁
  have h₁ : s.dvfsOnly t₁ := h.setF (e := e) (by simp [dvfsRegs]) _
  split
  · exact h₁
  split
  · exact h₁.setF (e := e) (by simp [dvfsRegs]) _
  · exact State.dvfsOnly.setF (e := e) (t := t₁.setEng e _) h₁ (by simp [dvfsRegs]) _

theorem State.dvfsOnly_capsApply (s : State) : s.dvfsOnly s.capsApply := by
  unfold State.capsApply
  extract_lets c
  refine List.foldlRecOn (motive := s.dvfsOnly) _ _ ⟨rfl, rfl, fun _ _ => rfl⟩ fun t ht e _ => ?_
  split
  · exact ht
  split
  · exact ht
  · exact State.dvfsOnly.dvfsApply (t := t.setEng e _) ht e

theorem dvfsRegs_offset {e : Nat} {r : RF} (hr : r ∈ dvfsRegs e) : r.key / 64 % 0x10000 = 0x24 := by
  simp only [dvfsRegs, List.mem_cons, List.not_mem_nil, or_false] at hr
  rcases hr with rfl | rfl | rfl <;> simp only [RF.key, ENG_DVFS_CAPPED, ENG_DVFS_CUR, ENG_DVFS_SWITCHING] <;> omega

theorem ne_dvfsRegs_of_common {q : RF} (h : q.key / 64 % 0x10000 = 4) (e : Nat) : ∀ r ∈ dvfsRegs e, q.key ≠ r.key := by
  intro r hr hk
  rw [hk, dvfsRegs_offset hr] at h
  omega

/-- An island for which nothing waits serves nothing. -/
theorem State.serveHeld_nil {s : State} (h : s.held = []) (isl : Nat) : s.serveHeld isl = s := by
  simp only [State.serveHeld, h, List.filter_nil, List.foldl_nil]
  rw [← h]

/-- An island that has its supply again, before it loads and serves. -/
def State.supplied (s : State) (isl : Nat) : State :=
  let s := s.setF (ISL_PSTATE_STATE isl) 3
  { s with idleSince := Tab.set (fun _ => 0) s.idleSince isl s.now }

theorem State.f_supplied (s : State) (isl : Nat) (q : RF) :
    (s.supplied isl).f q = (s.setF (ISL_PSTATE_STATE isl) 3).f q :=
  State.f_congr _ _ q rfl

theorem State.setF_idleSince_keeps (s : State) (r : RF) (v : Nat) (x : Tab Nat) :
    State.mem { s.setF r v with idleSince := x } = s.mem ∧ State.held { s.setF r v with idleSince := x } = s.held :=
  ⟨rfl, rfl⟩

theorem State.supplied_keeps (s : State) (isl : Nat) : (s.supplied isl).mem = s.mem ∧ (s.supplied isl).held = s.held :=
  s.setF_idleSince_keeps ..

theorem State.wakeDone_off {s : State} {isl : Nat} (hi : isIsland isl = true) (h0 : s.ist isl = 0)
    (hr : s.f (ISL_PSTATE_REQ isl) ≠ 0) :
    s.wakeDone isl = ((((s.supplied isl).islandLoad isl).capsApply).serveHeld isl).touch isl := by
  unfold State.wakeDone
  rw [if_neg (by simp [hi]), if_neg (by omega), if_pos ⟨h0, hr⟩]
  rfl

theorem islandWakeDone_wakes {s : State} {isl : Nat} (hi : isIsland isl = true) (h0 : s.ist isl = 0)
    (hr : s.f (ISL_PSTATE_REQ isl) ≠ 0) (hh : s.held = []) (ht : isl ≠ iTAL) (hu : isl ≠ iUPD) (hs : isl ≠ iSCB) :
    ∃ t : State, exec (.islandWakeDone isl) s = .next t ∧
      t.ist isl = (if s.f (ISL_PSTATE_REQ isl) = 2 then 2 else 3) ∧ t.mem = s.mem := by
  have hl : (s.supplied isl).islandLoad isl = s.supplied isl := by simp [State.islandLoad, ht, hu, hs]
  obtain ⟨hm, hw, hf⟩ := (s.supplied isl).dvfsOnly_capsApply
  have hist : (s.supplied isl).capsApply.ist isl = 3 :=
    ((hf _ (ne_dvfsRegs_of_common (PSTATE_STATE_offset isl))).trans (s.f_supplied isl _)).trans (s.ist_setF isl (by decide))
  have hreq : (s.supplied isl).capsApply.f (ISL_PSTATE_REQ isl) = s.f (ISL_PSTATE_REQ isl) :=
    ((hf _ (ne_dvfsRegs_of_common (PSTATE_REQ_offset isl))).trans (s.f_supplied isl _)).trans
      (s.f_setF_ne _ _ _ (PSTATE_REQ_ne_STATE isl))
  have hn := State.serveHeld_nil (hw.trans ((s.supplied_keeps isl).2.trans hh)) isl
  refine ⟨_, rfl, ?_, ?_⟩ <;> rw [State.wakeDone_off hi h0 hr, hl, hn]
  · rw [State.ist_touch (.inr hist), hreq]
  · exact ((State.keeps_touch _ isl).1.trans hm).trans (s.supplied_keeps isl).1

/-- Settles O8, case by case. That an island is IDLE again at the end of the command that it served is log entry 6; when
an island has work of its own is log entry 48. -/
theorem islandPower : Obligations.IslandPower := fun _ req _ _ hi hl =>
  ⟨fun hs hv => pstateRequest_on hl hs hv req, fun hs hv he => pstateRequest_idle hl hs hv he req,
    fun hh hv hn => pstateRequest_refused hi hh hv hn req, fun hs hv hn hb => pstateRequest_off hl hs hv hn hb req,
    islandGate_gates, islandWakeDone_wakes hi⟩

end Sys2Proof.Machine
end

section
/-! PROOFS. The journal's records (R47 to R56): what writing a record leaves alone and where the record is then, what the
end of an activation releases, and what the loss of an MRAM device or of both does. -/

namespace Sys2Proof.Machine

/-! ### What the work on the journal leaves alone -/

/-- From s to t the journal was written: memory, the ring and the partner's records. -/
structure State.Journaled (s t : State) : Prop where
  sent : t.sent = s.sent
  dug : t.dug = s.dug
  eng : t.eng = s.eng
  regs : t.regs = s.regs
  itemWrites : t.memc.itemWrites = s.memc.itemWrites
  commitJobs : t.memc.commitJobs = s.memc.commitJobs
  roster : t.bxl.roster = s.bxl.roster

theorem State.Journaled.refl (s : State) : s.Journaled s := ⟨rfl, rfl, rfl, rfl, rfl, rfl, rfl⟩

theorem State.Journaled.trans {s t u : State} (h : s.Journaled t) (k : t.Journaled u) : s.Journaled u :=
  ⟨k.sent.trans h.sent, k.dug.trans h.dug, k.eng.trans h.eng, k.regs.trans h.regs, k.itemWrites.trans h.itemWrites,
    k.commitJobs.trans h.commitJobs, k.roster.trans h.roster⟩

theorem State.inStack_congr {s t : State} (h : t.bxl.roster = s.bxl.roster) : t.inStack = s.inStack := by
  unfold State.inStack State.ros
  rw [h]

/-- Writing both copies changes memory alone. -/
theorem State.copyAB_eq (s : State) (a b : Nat) (bs : List Byte) : ∃ m, s.copyAB a b bs = { s with mem := m } := by
  unfold State.copyAB
  extract_lets s₁
  obtain ⟨m, h₁⟩ : ∃ m, s₁ = { s with mem := m } := by
    unfold s₁
    split
    · exact ⟨s.mem, rfl⟩
    · exact ⟨_, State.wrBytes_eq ..⟩
  clear_value s₁
  subst h₁
  split
  · exact ⟨m, rfl⟩
  · exact ⟨_, State.wrBytes_eq ..⟩

theorem State.jWrite_eq (s : State) (off : Nat) (bs : List Byte) : ∃ m, s.jWrite off bs = { s with mem := m } :=
  s.copyAB_eq ..

theorem State.mirrorWrite_eq (s : State) (off : Nat) (bs : List Byte) :
    ∃ m, s.mirrorWrite off bs = { s with mem := m } := by
  unfold State.mirrorWrite
  split
  · exact ⟨s.mem, rfl⟩
  · exact ⟨_, State.wrBytes_eq ..⟩

theorem State.journaled_jWrite (s : State) (off : Nat) (bs : List Byte) : s.Journaled (s.jWrite off bs) := by
  obtain ⟨m, hm⟩ := s.jWrite_eq off bs
  rw [hm]
  exact ⟨rfl, rfl, rfl, rfl, rfl, rfl, rfl⟩

theorem State.journaled_mirrorWrite (s : State) (off : Nat) (bs : List Byte) : s.Journaled (s.mirrorWrite off bs) := by
  obtain ⟨m, hm⟩ := s.mirrorWrite_eq off bs
  rw [hm]
  exact ⟨rfl, rfl, rfl, rfl, rfl, rfl, rfl⟩

/-- A record at the head: the journal is written, and the record is the last of the live ones, where it was put. -/
theorem State.append_spec (s : State) (r : JRec) : s.Journaled (s.append r) ∧
    ∃ off lap, { r with off := off, lap := lap } ∈ (s.append r).memc.live := by
  unfold State.append
  extract_lets m fits padLen pad s₁ live off lap r' s₂ wrap
  have h₁ : s.Journaled s₁ := by
    unfold s₁
    split
    · exact .refl s
    · exact s.journaled_jWrite ..
  have h₂ : s.Journaled s₂ := h₁.trans (s₁.journaled_jWrite ..)
  refine ⟨⟨h₂.sent, h₂.dug, h₂.eng, h₂.regs, h₂.itemWrites, h₂.commitJobs, h₂.roster⟩, off, lap, ?_⟩
  exact List.mem_append_right live List.mem_cons_self

/-- A record that is not retired stays. -/
theorem mem_dropRetired {l : List JRec} {r : JRec} (h : r ∈ l) (hr : r.retired = false) : r ∈ dropRetired l := by
  induction l with
  | nil => exact h
  | cons x xs ih =>
    unfold dropRetired
    split
    · next hx =>
      rcases List.mem_cons.1 h with rfl | h
      · simp [hr] at hx
      · exact ih h
    · exact h

theorem dropRetired_suffix (l : List JRec) : dropRetired l <:+ l := by
  induction l with
  | nil => exact List.suffix_refl _
  | cons x xs ih =>
    unfold dropRetired
    split
    · exact ih.trans (List.suffix_cons x xs)
    · exact List.suffix_refl _

/-- The tail passes the leading retired records. -/
theorem State.tailAdvance_spec (s : State) :
    s.Journaled s.tailAdvance ∧ s.tailAdvance.memc.live = dropRetired s.memc.live := by
  unfold State.tailAdvance
  extract_lets live tail lap seq b s₁
  split
  · next h => exact ⟨.refl s, ((dropRetired_suffix s.memc.live).eq_of_length h).symm⟩
  · have h₁ : s.Journaled s₁ := s.journaled_jWrite ..
    exact ⟨⟨h₁.sent, h₁.dug, h₁.eng, h₁.regs, h₁.itemWrites, h₁.commitJobs, h₁.roster⟩, rfl⟩

/-- A record of the module's own flows, in a standalone module, goes to the head and to no partner. -/
theorem State.writeRec_alone {s : State} {r : JRec} (hr : r.flow < 4096) (hs : s.inStack = false) :
    s.writeRec r = s.append r := by
  have hg : guestFlow r.flow = false := by simp [guestFlow, hr]
  have ha : (s.append r).inStack = false := (State.inStack_congr (s.append_spec r).1.roster).trans hs
  rw [State.writeRec, hg, if_neg Bool.false_ne_true]
  refine List.foldlRecOn (motive := fun t => t = s.append r) _ _ rfl ?_
  rintro _ rfl p _
  simp [State.mirrorRec, ha]

/-- No partner's acknowledgement is awaited in a standalone module. -/
theorem State.mirrorStart_alone {s : State} {fl : Nat} (hf : fl < 4096) (hs : s.inStack = false) (act : BxlAct) :
    s.mirrorStart fl act = (false, s.tailAdvance) := by
  have hg : guestFlow fl = false := by simp [guestFlow, hf]
  simp [State.mirrorStart, hg, hs]

/-! ### An item's record (R47, R48, R50) -/

theorem State.flow_setFlow_same (s : State) (i : Nat) (x : Flow) : (s.setFlow i x).flow i = x :=
  Tab.get_set_same ..

theorem State.flow_congr {s t : State} (h : t.dug = s.dug) (i : Nat) : t.flow i = s.flow i := by
  rw [State.flow, h]
  rfl

/-- The item of a task in a standalone module: its record is live and its flow counts on. -/
theorem State.itemValid_task {s : State} {w : JWrite} {src : Nat} {st : Option Stamp} (hf : w.flow < 4096)
    (hs : s.inStack = false) (ho : w.origin = .task src st) (act : BxlAct) :
    ∃ t : State, (s.itemValid w).mirrorStart w.flow act = (false, t) ∧ t.memc.itemWrites = s.memc.itemWrites ∧
      (t.flow w.flow).nextAccept = wrapInc 32 (s.flow w.flow).nextAccept ∧ t.sent = s.sent ∧
      ∃ r ∈ t.memc.live, r.kind = 1 ∧ r.flow = w.flow ∧ r.seq = (s.flow w.flow).nextAccept ∧ r.payload = w.payload ∧
        r.prio = w.prio ∧ r.source = w.source ∧ r.retired = false := by
  unfold State.itemValid
  extract_lets fl r s₁ s₂
  have he : s₁ = s.append r := State.writeRec_alone hf hs
  obtain ⟨hj, off, lap, hm⟩ := s.append_spec r
  rw [← he] at hj hm
  have hr : s₂.retention w.flow w.origin = s₂ := by rw [ho]; rfl
  have h₂ : s₂.inStack = false := (State.inStack_congr (s := s) hj.roster).trans hs
  obtain ⟨kj, kl⟩ := s₂.tailAdvance_spec
  rw [hr, State.mirrorStart_alone hf h₂]
  refine ⟨_, rfl, kj.itemWrites.trans hj.itemWrites, ?_, kj.sent.trans hj.sent, { r with off := off, lap := lap }, ?_,
    rfl, rfl, rfl, rfl, rfl, rfl, rfl⟩
  · rw [State.flow_congr kj.dug, State.flow_setFlow_same]
  · rw [kl]
    exact mem_dropRetired hm rfl

theorem journalWriteDone_item {s : State} {w : JWrite} {ws : List JWrite} {src : Nat} {st : Option Stamp}
    (hs : s.inStack = false) (hb : s.f BXL_STATUS_STATE ≠ 3) (hw : s.memc.itemWrites = w :: ws)
    (hm : (s.memc.failA && s.memc.failB) = false) (hf : w.flow < 4096) (ho : w.origin = .task src st) :
    ∃ t : State, exec .journalWriteDone s = .next t ∧ t.answer = cOK ∧ t.memc.itemWrites = ws ∧
      (t.flow w.flow).nextAccept = wrapInc 32 (s.flow w.flow).nextAccept ∧ t.sent = s.sent ∧
      ∃ r ∈ t.memc.live, r.kind = 1 ∧ r.flow = w.flow ∧ r.seq = (s.flow w.flow).nextAccept ∧ r.payload = w.payload ∧
        r.prio = w.prio ∧ r.source = w.source ∧ r.retired = false := by
  obtain ⟨t, ht, h⟩ := State.itemValid_task (s := { s with memc := { s.memc with itemWrites := ws } }) hf hs ho
    (.item w (s.flow w.flow).nextAccept)
  have hc : ¬((s.memc.failA && s.memc.failB) || s.f BXL_STATUS_STATE == 3) = true := by simp [hm, hb]
  have hd : ∀ r, (State.itemValid { s with memc := { s.memc with itemWrites := ws } } w).mirrorStart w.flow
      (.item w (s.flow w.flow).nextAccept) = r →
      s.journalDone = if r.1 then r.2 else r.2.finishItem w (s.flow w.flow).nextAccept := by
    rintro _ rfl
    rw [State.journalDone, hw]
    exact if_neg hc
  have ha : t.finishItem w (s.flow w.flow).nextAccept = t.ans cOK := by rw [State.finishItem, ho]
  exact ⟨t.ans cOK, congrArg _ ((hd _ ht).trans ha), rfl, h⟩

/-! ### A commit record (R50, R55, R99, R100) -/

theorem State.journaled_mapRecs (s : State) (f : JRec → JRec) : s.Journaled (s.mapRecs f) :=
  ⟨rfl, rfl, rfl, rfl, rfl, rfl, rfl⟩

theorem State.recs_mapRecs (s : State) (f : JRec → JRec) : (s.mapRecs f).recs = s.recs.map f :=
  (List.map_append ..).symm

/-- A queue entry of CAN is given up without a token, and with no change to the journal or the flows. -/
theorem State.canGiveUp_keeps (s : State) (it : JRec) : (s.canGiveUp it).sent = s.sent ∧ (s.canGiveUp it).dug = s.dug ∧
    (s.canGiveUp it).memc = s.memc ∧ (s.canGiveUp it).bxl = s.bxl := by
  unfold State.canGiveUp
  split
  · exact ⟨rfl, rfl, rfl, rfl⟩
  · split
    · exact ⟨rfl, rfl, rfl, rfl⟩
    · exact ⟨State.setF_sent .., State.setF_dug .., State.setF_memc .., State.setF_bxl ..⟩

/-- The record that serves an item of an own flow of a standalone module. -/
theorem State.serveRec_alone {s : State} {fl : Nat} (hf : fl < 4096) (hs : s.inStack = false) (kind seq : Nat)
    (outs : List Out) (time : Nat) :
    (s.serveRec kind fl seq outs time).sent = s.sent ∧ (s.serveRec kind fl seq outs time).dug = s.dug ∧
      (s.serveRec kind fl seq outs time).memc.commitJobs = s.memc.commitJobs ∧
      (s.serveRec kind fl seq outs time).inStack = false := by
  unfold State.serveRec
  split
  · exact ⟨rfl, rfl, rfl, hs⟩
  · next it hit =>
    extract_lets r
    have hfl : it.flow = fl := by
      have := List.find?_some hit
      simp_all
    have hr : r.flow < 4096 := by rw [← hfl] at hf; exact hf
    have h₁ : s.Journaled (s.retireItem fl seq) := s.journaled_mapRecs _
    have h₂ := h₁.trans ((s.retireItem fl seq).append_spec r).1
    rw [State.writeRec_alone hr ((State.inStack_congr h₁.roster).trans hs)]
    obtain ⟨hsent, hdug, hmemc, hbxl⟩ := ((s.retireItem fl seq).append r).canGiveUp_keeps it
    exact ⟨hsent.trans h₂.sent, hdug.trans h₂.dug, (congrArg MemSt.commitJobs hmemc).trans h₂.commitJobs,
      (State.inStack_congr ((congrArg BxlSt.roster hbxl).trans h₂.roster)).trans hs⟩

/-- A context's reservations in the queues end, and nothing else. -/
theorem State.dropHeld_keeps (s : State) (e c : Nat) : (s.dropHeld e c).sent = s.sent ∧ (s.dropHeld e c).dug = s.dug ∧
    (s.dropHeld e c).memc = s.memc := by
  refine List.foldlRecOn (motive := fun t : State => t.sent = s.sent ∧ t.dug = s.dug ∧ t.memc = s.memc) _ _
    ⟨rfl, rfl, rfl⟩ fun t ht n _ => ?_
  exact ht

/-- The token of an output of a commit record, at its place in the record. -/
def outToken (fl seq : Nat) (p : Out × Nat) : Option Token :=
  if p.1.typ = 1 then some ⟨p.1.dest, p.1.tag, p.1.data, ep iDUG 0, some ⟨fl, seq, p.2⟩, none⟩ else none

/-- Tokens and queue words leave in the order of the record. -/
theorem State.releaseFrom_sent (s : State) (fl seq k : Nat) (os : List Out) (ho : ∀ o ∈ os, o.typ = 1 ∨ o.typ = 2) :
    (s.releaseFrom fl seq k os).sent = s.sent ++ (os.zipIdx k).filterMap (outToken fl seq) ∧
      (s.releaseFrom fl seq k os).dug = s.dug ∧ (s.releaseFrom fl seq k os).memc = s.memc := by
  induction os generalizing s k with
  | nil => simp [State.releaseFrom]
  | cons o os ih =>
    obtain ⟨ho, hos⟩ := List.forall_mem_cons.1 ho
    rw [List.zipIdx_cons, List.filterMap_cons]
    unfold State.releaseFrom
    rcases ho with h | h
    · have hi := ih (s.send ⟨o.dest, o.tag, o.data, ep iDUG 0, some ⟨fl, seq, k⟩, none⟩) (k + 1) hos
      simpa [State.release, outToken, h, State.send] using hi
    · have hi := ih (s.sendQ ⟨o.dest, o.prio, o.data, ep iDUG 0, some ⟨fl, seq, k⟩, none⟩) (k + 1) hos
      simpa [State.release, outToken, h, State.sendQ] using hi

/-- The end of an activation may send its notice; flows and the journal stay. -/
theorem State.endReleased_keeps (s : State) (i seq : Nat) (ends : Bool) :
    (∃ l, (s.endReleased i seq ends).sent = s.sent ++ l) ∧ (s.endReleased i seq ends).dug.flows = s.dug.flows ∧
      (s.endReleased i seq ends).memc = s.memc := by
  have hc : (∃ l, (s.completion i seq cOK).sent = s.sent ++ l) ∧ (s.completion i seq cOK).dug = s.dug ∧
      (s.completion i seq cOK).memc = s.memc := by
    unfold State.completion
    extract_lets
    split
    · exact ⟨⟨_, rfl⟩, rfl, rfl⟩
    · exact ⟨⟨[], (List.append_nil _).symm⟩, rfl, rfl⟩
  obtain ⟨hl, hd, hm⟩ := hc
  obtain ⟨d, he, hf⟩ : ∃ d : DugSt, s.endReleased i seq ends = { s.completion i seq cOK with dug := d } ∧
      d.flows = (s.completion i seq cOK).dug.flows := by
    unfold State.endReleased
    extract_lets s₁ x
    split
    · split <;> exact ⟨_, rfl, rfl⟩
    · unfold State.nextState
      split <;> exact ⟨_, rfl, rfl⟩
  rw [he]
  exact ⟨hl, hf.trans (congrArg _ hd), hm⟩

/-- A commit takes effect: its flow goes on and its outputs leave, before the notice of the activation's end. -/
theorem State.finishCommit_spec (s : State) (j : CommitJob) (ho : ∀ o ∈ j.outs, o.typ = 1 ∨ o.typ = 2) :
    (s.finishCommit j).memc = s.memc ∧ ((s.finishCommit j).flow j.flow).nextServe = wrapInc 32 j.seq ∧
      ((s.finishCommit j).flow j.flow).delivered = false ∧
      ∃ l : List Token, (s.finishCommit j).sent = s.sent ++ j.outs.zipIdx.filterMap (outToken j.flow j.seq) ++ l := by
  unfold State.finishCommit
  extract_lets s₁ _ s₂ s₃
  obtain ⟨hs₁, -, hm₁⟩ := s.dropHeld_keeps j.eng j.ctx
  obtain ⟨hs₃, hd₃, hm₃⟩ := s₂.releaseFrom_sent j.flow j.seq 0 j.outs ho
  obtain ⟨⟨l, hl⟩, hf, hm⟩ := s₃.endReleased_keeps j.inst j.seq j.ends
  have hflow : (s₃.endReleased j.inst j.seq j.ends).flow j.flow =
      { s₁.flow j.flow with nextServe := wrapInc 32 j.seq, delivered := false } := by
    rw [State.flow, hf, show s₃.dug.flows = s₂.dug.flows from congrArg _ hd₃]
    exact s₁.flow_setFlow_same j.flow _
  refine ⟨hm.trans (hm₃.trans hm₁), by rw [hflow], by rw [hflow], l, ?_⟩
  rw [hl, hs₃, show s₂.sent = s.sent from hs₁]

theorem commitRecordValid_releases {s : State} {j : CommitJob} {js : List CommitJob} (hs : s.inStack = false)
    (hb : s.f BXL_STATUS_STATE ≠ 3) (hj : s.memc.commitJobs = j :: js) (hm : (s.memc.failA && s.memc.failB) = false)
    (hf : j.flow < 4096) (ho : ∀ o ∈ j.outs, o.typ = 1 ∨ o.typ = 2) :
    ∃ t : State, exec .commitRecordValid s = .next t ∧ t.memc.commitJobs = js ∧
      (t.flow j.flow).nextServe = wrapInc 32 j.seq ∧ (t.flow j.flow).delivered = false ∧
      ∃ l : List Token, t.sent = s.sent ++ j.outs.zipIdx.filterMap (outToken j.flow j.seq) ++ l := by
  obtain ⟨hs₁, hd₁, hc₁, hi₁⟩ := State.serveRec_alone
    (s := { s with memc := { s.memc with commitJobs := js } }) hf hs 2 j.seq j.outs j.time
  generalize hz : State.serveRec { s with memc := { s.memc with commitJobs := js } } 2 j.flow j.seq j.outs j.time = z
    at *
  have hcond : ¬((s.memc.failA && s.memc.failB) || s.f BXL_STATUS_STATE == 3) = true := by simp [hm, hb]
  have hd : ∀ r, z.mirrorStart j.flow (.commit j) = r →
      exec .commitRecordValid s = .next (if r.1 then r.2 else r.2.finishCommit j) := by
    rintro _ rfl
    rw [← hz]
    simp only [exec, execCommitRecordValid, hj]
    exact congrArg _ (if_neg hcond)
  have he := hd _ (State.mirrorStart_alone hf hi₁ (.commit j))
  obtain ⟨hm₂, hn, hv, l, hl⟩ := z.tailAdvance.finishCommit_spec j ho
  obtain ⟨kj, -⟩ := z.tailAdvance_spec
  refine ⟨_, he, (congrArg _ hm₂).trans (kj.commitJobs.trans hc₁), hn, hv, l, hl.trans ?_⟩
  rw [kj.sent, hs₁]

/-! ### A confirmed output (R56) -/

theorem State.journaled_guestTail (s : State) : s.Journaled s.guestTail := by
  unfold State.guestTail State.mirrorRetain
  extract_lets l t seq s₁
  have h₁ : s.Journaled s₁ := s.journaled_mirrorWrite ..
  split
  · exact .refl s
  · exact ⟨h₁.sent, h₁.dug, h₁.eng, h₁.regs, h₁.itemWrites, h₁.commitJobs, h₁.roster⟩

/-- The mirror's tail leaves records out and changes none. -/
theorem State.recs_guestTail (s : State) : s.guestTail.recs ⊆ s.recs := by
  unfold State.guestTail State.mirrorRetain
  extract_lets l t seq s₁
  split
  · exact List.Subset.refl _
  · obtain ⟨m, hm⟩ : ∃ m, s₁ = { s with mem := m } := s.mirrorWrite_eq ..
    have hl : l ⊆ s.bxl.guest := (dropRetired_suffix s.bxl.guest).subset
    rw [hm]
    exact List.append_subset.2 ⟨List.subset_append_left .., List.subset_append_of_subset_right _ hl⟩

/-- The journal's tail leaves records out and changes none. -/
theorem State.recs_tailAdvance (s : State) : s.tailAdvance.recs ⊆ s.recs := by
  unfold State.tailAdvance
  extract_lets live tail lap seq b s₁
  split
  · exact List.Subset.refl _
  · obtain ⟨m, hm⟩ : ∃ m, s₁ = { s with mem := m } := s.jWrite_eq ..
    have hl : live ⊆ s.memc.live := (dropRetired_suffix s.memc.live).subset
    rw [hm]
    exact List.append_subset.2 ⟨List.subset_append_of_subset_left _ hl, List.subset_append_right ..⟩

theorem State.journaled_recWrite (s : State) (r : JRec) (o : Nat) (bs : List Byte) :
    s.Journaled (s.recWrite r o bs) := by
  unfold State.recWrite
  split
  · exact s.journaled_mirrorWrite ..
  · exact s.journaled_jWrite ..

/-- A confirmed output is written to the journal and marked in its record. -/
theorem State.confirm_spec (s : State) (fl sq k : Nat) : s.Journaled (s.confirm fl sq k) ∧
    ∀ x ∈ (s.confirm fl sq k).recs, x.kind = 2 → x.flow = fl → x.seq = sq → k ∈ x.confirmed := by
  unfold State.confirm
  split
  · next h =>
    refine ⟨.refl s, fun x hx hk hf hq => ?_⟩
    exact absurd (List.find?_eq_none.1 h x hx) (by simp [hk, hf, hq])
  · next r _ =>
    extract_lets c rel s₁ s₂
    have hc : k ∈ c := by
      unfold c
      split
      · next h => exact List.contains_iff_mem.1 h
      · exact List.mem_cons_self
    have h₁ : s.Journaled s₁ := by
      unfold s₁
      split
      · exact .refl s
      · exact s.journaled_recWrite ..
    have h₂ : s.Journaled s₂ := h₁.trans (s₁.journaled_mapRecs _)
    refine ⟨(h₂.trans s₂.tailAdvance_spec.1).trans (State.journaled_guestTail _), fun x hx hk hf hq => ?_⟩
    have hx₂ : x ∈ s₂.recs := s₂.recs_tailAdvance (State.recs_guestTail _ hx)
    obtain ⟨y, -, rfl⟩ := List.mem_map.1 ((s₁.recs_mapRecs _) ▸ hx₂)
    by_cases hy : y.kind = 2 ∧ y.flow = fl ∧ y.seq = sq
    · rw [if_pos hy]
      exact hc
    · rw [if_neg hy] at hk hf hq
      exact absurd ⟨hk, hf, hq⟩ hy

theorem exec_outputConfirmed (fl sq k c : Nat) (s : State) :
    exec (.outputConfirmed fl sq k c) s = .next (s.outputConfirmed fl sq k c) := rfl

theorem outputConfirmed_marks {s : State} {fl sq k : Nat} {r : JRec}
    (h : s.recs.find? (fun r => r.kind == 2 && r.flow == fl && r.seq == sq) = some r) :
    ∃ t : State, exec (.outputConfirmed fl sq k cOK) s = .next t ∧ t.sent = s.sent ∧ t.regs = s.regs ∧ t.eng = s.eng ∧
      ∀ x ∈ t.recs, x.kind = 2 → x.flow = fl → x.seq = sq → k ∈ x.confirmed := by
  obtain ⟨hj, hx⟩ := s.confirm_spec fl sq k
  have he : s.outputConfirmed fl sq k cOK = s.confirm fl sq k := by simp [State.outputConfirmed, h]
  rw [exec_outputConfirmed, he]
  exact ⟨_, rfl, hj.sent, hj.regs, hj.eng, hx⟩

/-! ### A device of MRAM fails (R47) -/

/-- From s to t the records and the partner are as they were: what the Scorebook does with its own. -/
def State.scbOnly (s t : State) : Prop := t.memc = s.memc ∧ t.bxl = s.bxl

theorem State.scbOnly.refl (s : State) : s.scbOnly s := ⟨rfl, rfl⟩

theorem State.scbOnly.trans {s t u : State} (h : s.scbOnly t) (k : t.scbOnly u) : s.scbOnly u :=
  ⟨k.1.trans h.1, k.2.trans h.2⟩

theorem State.scbOnly.setF {s t : State} (h : s.scbOnly t) (r : RF) (v : Nat) : s.scbOnly (t.setF r v) := h

theorem State.scbOnly.setScb {s t : State} (h : s.scbOnly t) (f : ScbSt → ScbSt) : s.scbOnly (t.setScb f) := h

theorem State.scbOnly.notice {s t : State} (h : s.scbOnly t) (kind x : Nat) : s.scbOnly (t.scbNotice kind x) := by
  unfold State.scbNotice
  split <;> exact h

theorem State.scbOnly_stage (s : State) (typ : Nat) (args : List Nat) : s.scbOnly (s.stage typ args) := by
  obtain ⟨n, c, b, g, he, -⟩ := s.stage_eq typ args
  rw [he]
  exact ⟨rfl, rfl⟩

theorem State.scbOnly.scbOpen {s t : State} (h : s.scbOnly t) (r : Nat) : s.scbOnly (t.scbOpen r) := by
  unfold State.scbOpen
  extract_lets t₁ p l more wr t₂
  have h₂ : s.scbOnly t₂ := ((((h.setF _ _).setF _ _).setF _ _).setF _ _).setF _ _
  exact h₂.setScb _

theorem State.scbOnly.scbTurn {s t : State} (h : s.scbOnly t) (r n : Nat) : s.scbOnly (t.scbTurn r n) := by
  unfold State.scbTurn State.markLost
  extract_lets q marks t₁
  have h₁ : s.scbOnly t₁ := h.scbOpen r
  exact List.foldlRecOn (motive := s.scbOnly) _ _ h₁ fun t ht m _ =>
    State.scbOnly.notice (((((ht.setF _ _).setF _ _).setF _ _).setF _ _)) _ _

theorem State.scbOnly_scbDeviceFail (s : State) : s.scbOnly s.scbDeviceFail := by
  unfold State.scbDeviceFail State.scbFault
  split
  · extract_lets body s₁ s₂
    have h₁ : s.scbOnly s₁ := ((State.scbOnly.refl s).setScb _).scbTurn 1 40
    have h₂ : s.scbOnly s₂ := h₁.setScb _
    exact h₂.notice _ _
  · exact .refl s

/-- A standalone module without one of its devices takes no items. -/
theorem State.accepting_fail {s : State} (hs : s.inStack = false) (hf : (s.memc.failA || s.memc.failB) = true) :
    s.accepting = false := by
  have h : (!s.memc.failA && !s.memc.failB) = false := by simpa [← Bool.not_or] using hf
  simp [State.accepting, hs, h]

theorem exec_mramDeviceFail (dev a st : Nat) (s : State) :
    exec (.mramDeviceFail dev a st) s = .next (s.mramFail dev a st) := rfl

theorem mramDeviceFail_one {s : State} {dev : Nat} (hs : s.inStack = false) (hd : dev < 2) (ha : s.memc.failA = false)
    (hb : s.memc.failB = false) (hh : s.boot.held = false) (hw : s.memc.itemWrites = []) (a st : Nat) :
    ∃ t : State, exec (.mramDeviceFail dev a st) s = .next t ∧ t.memc.failA = (dev == 0) ∧ t.memc.failB = (dev == 1) ∧
      t.accepting = false := by
  rw [exec_mramDeviceFail]
  refine ⟨_, rfl, ?_⟩
  unfold State.mramFail
  have h₀ : ¬(2 ≤ dev ∨ (if dev = 0 then s.memc.failA else s.memc.failB) = true ∨ s.boot.held = true) := by
    simp [ha, hb, hh]
    omega
  rw [if_neg h₀]
  extract_lets m s₁ s₂ l m₂ s₃
  obtain ⟨hm₂, hb₂⟩ : s₁.scbOnly s₂ := s₁.scbOnly_stage _ _
  have hA : s₂.memc.failA = (dev == 0) := by rw [hm₂]; simp [s₁, ha]
  have hB : s₂.memc.failB = (dev == 1) := by rw [hm₂]; simp [s₁, hb]
  have hl : l = [] := by
    have h : s₂.memc.itemWrites = [] := by rw [hm₂]; exact hw
    simp [l, h]
  have hboth : ¬(s₂.memc.failA && s₂.memc.failB) = true := by
    rw [hA, hB]
    simp only [Bool.and_eq_true, beq_iff_eq]
    omega
  have hone : (s₂.memc.failA || s₂.memc.failB) = true := by
    rw [hA, hB]
    simp only [Bool.or_eq_true, beq_iff_eq]
    omega
  rw [if_neg hboth, hl, List.foldl_nil]
  obtain ⟨hm, hx⟩ := s₃.scbOnly_scbDeviceFail
  have hstack : s₃.scbDeviceFail.inStack = false := (State.inStack_congr (congrArg _ (hx.trans hb₂))).trans hs
  exact ⟨(congrArg MemSt.failA hm).trans hA, (congrArg MemSt.failB hm).trans hB,
    State.accepting_fail hstack (by rw [hm]; exact hone)⟩

/-! ### A reset of the module (R574) -/

/-- What a reset keeps is written over the reset registers. -/
theorem foldl_setF_eq (s : State) (l : List RF) (z : State) :
    ∃ g, l.foldl (fun z r => z.setF r (s.f r)) z = { z with regs := g } := by
  induction l generalizing z with
  | nil => exact ⟨z.regs, rfl⟩
  | cons r l ih =>
    obtain ⟨g, hg⟩ := ih (z.setF r (s.f r))
    exact ⟨g, hg⟩

theorem foldl_setF_f (s : State) {l : List RF} {q : RF} (hq : ∀ r ∈ l, q.key ≠ r.key) (z : State) :
    (l.foldl (fun z r => z.setF r (s.f r)) z).f q = z.f q :=
  List.foldlRecOn (motive := fun t : State => t.f q = z.f q) l _ rfl fun t ht r hr =>
    (t.f_setF_ne r q _ (hq r hr)).trans ht

/-- A reset holds the module, names its cause and loses no command that waits; the last-breath cell stays, but for a loss
of power. -/
theorem State.moduleReset_spec (s : State) (c : Nat) : (s.moduleReset c).boot.held = true ∧
    (s.moduleReset c).f SYS_RESET_CAUSE_CAUSE = 2 ^ c % 2 ^ 6 ∧ (s.moduleReset c).pending = s.pending ∧
    (s.moduleReset c).cell = if decide (c < 2) then LastBreath.reset else s.cell := by
  unfold State.moduleReset
  extract_lets power _ _ _ _ _ _ _ _ _ _ z
  obtain ⟨g, hg⟩ := foldl_setF_eq s keptRegs (z.setF SYS_RESET_CAUSE_CAUSE (2 ^ c))
  have hf := foldl_setF_f s (l := keptRegs) (q := SYS_RESET_CAUSE_CAUSE) (by decide)
    (z.setF SYS_RESET_CAUSE_CAUSE (2 ^ c))
  rw [State.f_setF_same, hg] at hf
  rw [hg]
  exact ⟨rfl, hf, rfl, rfl⟩

theorem mramDeviceFail_both {s : State} (ha : s.memc.failA = true) (hb : s.memc.failB = false) (hh : s.boot.held = false)
    (a st : Nat) :
    ∃ t : State, exec (.mramDeviceFail 1 a st) s = .next t ∧ t.boot.held = true ∧ t.f SYS_RESET_CAUSE_CAUSE = 8 := by
  rw [exec_mramDeviceFail]
  refine ⟨_, rfl, ?_⟩
  unfold State.mramFail
  rw [if_neg (by simp [hb, hh])]
  extract_lets m s₁ s₂
  obtain ⟨hm₂, -⟩ : s₁.scbOnly s₂ := s₁.scbOnly_stage _ _
  have hboth : (s₂.memc.failA && s₂.memc.failB) = true := by
    rw [hm₂]
    simp [s₁, ha]
  rw [if_pos hboth]
  obtain ⟨hheld, hcause, -, -⟩ := State.moduleReset_spec (s₂.cellWrite 1 iMEM cINTEGRITY 8 0) 3
  exact ⟨hheld, hcause⟩

/-- Settles O9, case by case: items of task origin in a module of its own. -/
theorem journalRecords : Obligations.JournalRecords := fun _ hs hb =>
  ⟨fun _ _ _ _ hw hm hf ho => journalWriteDone_item hs hb hw hm hf ho,
    fun _ _ hj hm hf ho => commitRecordValid_releases hs hb hj hm hf ho, fun _ _ _ _ h => outputConfirmed_marks h,
    fun _ a st hd ha hfb hh hw => mramDeviceFail_one hs hd ha hfb hh hw a st,
    fun a st ha hfb hh => mramDeviceFail_both ha hfb hh a st⟩

end Sys2Proof.Machine
end

section
/-! PROOFS. Fencing and its release (R62, R538 to R541): what a stop that the fence raises leaves of the fence, the two ways
an island is fenced, REF's commands, and the end of a release. -/

namespace Sys2Proof.Machine

/-! ### What a stop leaves of the fences -/

/-- The fields that tell of the fence of the motor and actuator island and of the latch. -/
def RF.tellsStop (q : RF) : Prop := q = ISL_PSTATE_STATE iMCH ∨ q = REF_FENCED_FENCED ∨ q = REF_STOP_STATUS_LATCHED

theorem State.f_stage (s : State) (typ : Nat) (args : List Nat) {q : RF} (hq : q.key ≠ SCB_DROPPED_COUNT.key) :
    (s.stage typ args).f q = s.f q :=
  (s.keeps_stage typ args).f_eq (by simpa using hq)

theorem State.regs_foldl {α : Type} {f : State → α → State} (hf : ∀ s a, (f s a).regs = s.regs) (l : List α) (s : State) :
    (l.foldl f s).regs = s.regs :=
  List.foldlRecOn (motive := fun t : State => t.regs = s.regs) l _ rfl fun t ht a _ => (hf t a).trans ht

theorem State.regs_ctlSend (s : State) (p code content : Nat) : (s.ctlSend p code content).regs = s.regs := by
  unfold State.ctlSend
  split <;> rfl

theorem State.regs_bxlSend (s : State) (dst kind prio : Nat) (body : List Byte) :
    (s.bxlSend dst kind prio body).regs = s.regs := rfl

/-- Telling the stack of a stop writes no register. -/
theorem State.regs_stopSpread (s : State) (reason stamp : Nat) : (s.stopSpread reason stamp).regs = s.regs := by
  unfold State.stopSpread
  split
  · rfl
  · extract_lets id c s₁ s₂
    have h₁ : s₁.regs = s.regs := by simp only [s₁, List.foldl_cons, List.foldl_nil, State.regs_ctlSend]
    clear_value s₁
    have h₂ : s₂.regs = s.regs := h₁
    rw [State.regs_foldl (fun t p => t.regs_bxlSend ..), h₂]

/-! ### RAD at a stop -/

theorem State.regs_radNotice (s : State) (n idx kind hi : Nat) : (s.radNotice n idx kind hi).regs = s.regs := by
  unfold State.radNotice
  split <;> rfl

theorem State.regs_radLow (s : State) (n b : Nat) : (s.radLow n b).regs = s.regs := by
  unfold State.radLow
  extract_lets k sent reached set
  split
  · rfl
  · split
    · exact s.regs_radNotice ..
    · rfl

/-- The budgets and the states of the associations lie at places of their own in RAD's block. -/
theorem RF.tellsStop.ne_RAD {q : RF} (hq : q.tellsStop) (n b : Nat) :
    q.key ≠ (RADn_SBs_USED_ORD_US n b).key ∧ q.key ≠ (RADn_SBs_USED_STOP_US n b).key ∧
      q.key ≠ (RAD_Aa_STATUS_STATE n).key := by
  rcases hq with rfl | rfl | rfl <;>
    simp only [RF.key, ISL_PSTATE_STATE, iMCH, REF_FENCED_FENCED, REF_STOP_STATUS_LATCHED, RADn_SBs_USED_ORD_US,
      RADn_SBs_USED_STOP_US, RAD_Aa_STATUS_STATE] <;>
    omega

theorem State.f_setBuckets (s : State) (n b : Nat) (g : List RadBucket → List RadBucket) {q : RF} (hq : q.tellsStop) :
    (s.setBuckets n b g).f q = s.f q := by
  obtain ⟨ho, hs, -⟩ := hq.ne_RAD n b
  unfold State.setBuckets
  extract_lets l s₁ s₂
  rw [State.f_congr _ _ q (State.regs_radLow ..), State.f_setF_ne _ _ _ _ hs]
  exact s₁.f_setF_ne _ _ _ ho

theorem State.f_acceptFail (s : State) (a : Nat) {q : RF} (hq : q.tellsStop) : (s.acceptFail a).f q = s.f q := by
  unfold State.acceptFail
  split
  · exact s.f_setF_ne _ _ _ (hq.ne_RAD a 0).2.2
  · rfl

theorem State.f_setRp (s : State) (n : Nat) (x : RadPort) (q : RF) : (s.setRp n x).f q = s.f q := rfl

theorem State.f_radAbort (s : State) (n : Nat) {q : RF} (hq : q.tellsStop) : (s.radAbort n).f q = s.f q := by
  unfold State.radAbort
  extract_lets x s₁ s₂ s₃
  have h₁ : s₁.f q = s.f q := by
    unfold s₁
    split
    · extract_lets stop us t
      have ht : t.f q = s.f q := s.f_setBuckets _ _ _ hq
      clear_value t
      exact ht
    · rfl
  clear_value s₁
  have h₂ : s₂.f q = s.f q := by
    unfold s₂
    split
    · split <;> exact h₁
    · exact h₁
  clear_value s₂
  have h₃ : s₃.f q = s.f q := by
    refine List.foldlRecOn (motive := fun t : State => t.f q = s.f q) _ _ h₂ fun t ht p _ => ?_
    split
    · exact (t.f_acceptFail _ hq).trans ht
    · exact ht
  clear_value s₃
  exact h₃

theorem State.f_radStop (s : State) {q : RF} (hq : q.tellsStop) : s.radStop.f q = s.f q := by
  unfold State.radStop
  extract_lets s₁
  refine List.foldlRecOn (motive := fun t : State => t.f q = s.f q) _ _ rfl fun t ht n _ => ?_
  split
  · exact ((t.radAbort n).f_setRp ..).trans ((t.f_radAbort n hq).trans ht)
  · exact ht

/-! ### The latch sets (R388, R390) -/

/-- What a raise writes beside the latch. -/
def raiseRegs : List RF :=
  [REF_STOP_STATUS_SOURCES, REF_STOP_STATUS_REASON, REF_STOP_STATUS_ORIGIN, REF_STOP_STATUS_ARMED, REF_FENCE_EN_EN,
    REF_PWEN_EN_EN, REF_STOP_ID_STOP_ID, REF_STOP_STAT_STOPS, REF_STOP_STAT_RAISES, REF_STOP_LOCAL_TIME_STAMP,
    REF_STOP_TIME_STAMP, SCB_DROPPED_COUNT]

theorem RF.tellsStop.ne_raise {q : RF} (hq : q.tellsStop) : ∀ r ∈ raiseRegs, q.key ≠ r.key := by
  rcases hq with rfl | rfl | rfl <;> decide

/-- From s to t what tells of the fence and of the latch stands. -/
def State.tells (s t : State) : Prop := ∀ q : RF, q.tellsStop → t.f q = s.f q

theorem State.tells.refl (s : State) : s.tells s := fun _ _ => rfl

theorem State.tells.trans {s t u : State} (h : s.tells t) (k : t.tells u) : s.tells u :=
  fun q hq => (k q hq).trans (h q hq)

theorem State.tells.setF {s t : State} (h : s.tells t) {r : RF} (hr : r ∈ raiseRegs) (v : Nat) : s.tells (t.setF r v) :=
  fun q hq => (t.f_setF_ne r q v (hq.ne_raise r hr)).trans (h q hq)

theorem State.tells.of_regs {s t : State} (h : t.regs = s.regs) : s.tells t := fun q _ => s.f_congr t q h

theorem State.tells_stage (s : State) (typ : Nat) (args : List Nat) : s.tells (s.stage typ args) :=
  fun q hq => s.f_stage typ args (hq.ne_raise _ (by simp [raiseRegs]))

/-- The motor and actuator island is past stopping once it is fenced. -/
theorem State.mchStop_fenced {s : State} (h : s.ist iMCH = 5) : s.mchStop = s := by
  simp [State.mchStop, State.mchUp, h]

/-- The latch sets, and a fenced motor and actuator island stays so. -/
theorem State.tells_latchSet {s : State} (hm : s.ist iMCH = 5) (l : List (Nat × Nat)) (origin : Nat) (own : Bool) :
    (s.setF REF_STOP_STATUS_LATCHED 1).tells (s.latchSet l origin own) := by
  unfold State.latchSet
  extract_lets sources reason s₁ s₂ s₃ s₄ id stamp s₅ b s₆ s₇ s₈ s₉
  have hz : (s.setF REF_STOP_STATUS_LATCHED 1).ist iMCH = 5 := (s.f_setF_ne _ _ _ (by decide)).trans hm
  obtain ⟨z, hzs⟩ : ∃ z, s.setF REF_STOP_STATUS_LATCHED 1 = z := ⟨_, rfl⟩
  have h₁ : z.tells s₁ := by
    unfold s₁
    rw [hzs]
    exact (((State.tells.refl z).setF (by simp [raiseRegs]) _).setF (by simp [raiseRegs]) _).setF (by simp [raiseRegs]) _
  rw [hzs] at hz ⊢
  have h₂ : z.tells s₂ :=
    ((h₁.setF (by simp [raiseRegs]) _).setF (by simp [raiseRegs]) _).setF (by simp [raiseRegs]) _
  clear_value s₂
  have h₄ : z.tells s₄ := State.tells.setF (State.tells.setF (t := s₃) h₂ (by simp [raiseRegs]) _) (by simp [raiseRegs]) _
  clear_value s₄
  have h₅ : z.tells s₅ := (h₄.setF (by simp [raiseRegs]) _).setF (by simp [raiseRegs]) _
  clear_value s₅
  have h₆ : z.tells s₆ := by
    obtain ⟨m, hm⟩ : ∃ m, s₆ = { s₅ with mem := m } := s₅.copyAB_eq ..
    exact h₅.trans (.of_regs (by rw [hm]))
  clear_value s₆
  have h₇ : z.tells s₇ := by
    unfold s₇
    split
    · exact h₆.trans (.of_regs (s₆.regs_stopSpread ..))
    · exact h₆
  clear_value s₇
  have h₈ : z.tells s₈ := by
    have hr := h₇.trans fun q hq => s₇.f_radStop hq
    unfold s₈
    rw [State.mchStop_fenced ((hr _ (.inl rfl)).trans hz)]
    exact hr
  clear_value s₈
  have h₉ : z.tells s₉ := h₈.trans (s₈.tells_stage _ _)
  clear_value s₉
  split <;> exact h₉

/-- A raise with the motor and actuator island fenced: the latch is set, and the island stays fenced. -/
theorem State.stopRaise_fenced {s : State} (hm : s.ist iMCH = 5) (src reason origin : Nat) (own : Bool) :
    (s.stopRaise src reason origin own).ist iMCH = 5 ∧
      (s.stopRaise src reason origin own).f REF_FENCED_FENCED = s.f REF_FENCED_FENCED ∧
      (s.stopRaise src reason origin own).latched = true := by
  unfold State.stopRaise
  extract_lets reason' s₁ s₂
  split
  · have h := State.tells_latchSet hm ((src, reason') :: s.levelSources) origin own
    refine ⟨((h _ (.inl rfl)).trans (s.f_setF_ne _ _ _ (by decide))).trans hm,
      (h _ (.inr (.inl rfl))).trans (s.f_setF_ne _ _ _ (by decide)), ?_⟩
    rw [State.latched, State.on, h _ (.inr (.inr rfl)), State.f_setF_same]
    rfl
  · next hl =>
    have hl : s.latched = true := by simpa [State.stopped, State.latched] using hl
    have key : ∀ t : State, s.tells t →
        t.ist iMCH = 5 ∧ t.f REF_FENCED_FENCED = s.f REF_FENCED_FENCED ∧ t.latched = true := fun t h =>
      ⟨(h _ (.inl rfl)).trans hm, h _ (.inr (.inl rfl)), by rw [State.latched, State.on, h _ (.inr (.inr rfl))]; exact hl⟩
    have hs := State.tells.refl s
    split
    · exact key _ ((hs.setF (by simp [raiseRegs]) _).setF (by simp [raiseRegs]) _)
    · have h₂ : s.tells s₂ :=
        State.tells.setF (State.tells.setF (t := s₁) hs (by simp [raiseRegs]) _) (by simp [raiseRegs]) _
      exact key _ (h₂.trans (s₂.tells_stage _ _))

/-! ### An island is fenced (R538, R539) -/

theorem bit_eq_testBit (n i : Nat) : bit n i = n.testBit i := by
  rw [bit, Nat.testBit_eq_decide_div_mod_eq]
  exact (Bool.beq_eq_decide_eq ..)

theorem isIsland_lt {isl : Nat} (h : isIsland isl = true) : isl < 48 := by
  simp only [isIsland, Bool.or_eq_true, Bool.and_eq_true, decide_eq_true_eq] at h
  omega

/-- An island is FENCED, and REF shows it. -/
def State.isFenced (s : State) (isl : Nat) : Prop := s.ist isl = 5 ∧ bit (s.f REF_FENCED_FENCED) isl = true

/-- What refusals leave of a fence. -/
theorem State.f_heldRefuse (s : State) (isl : Nat) {q : RF} (hq : q.offRefusal) : (s.heldRefuse isl).f q = s.f q :=
  s.f_refuseHeld_foldl cFENCED _ _ hq

theorem offRefusal_FENCED : REF_FENCED_FENCED.offRefusal := .of_offset (by decide) (by decide)

theorem PSTATE_STATE_ne_FENCED (isl : Nat) : (ISL_PSTATE_STATE isl).key ≠ REF_FENCED_FENCED.key := fun h => by
  have := PSTATE_STATE_offset isl
  rw [h] at this
  exact absurd this (by decide)

theorem PSTATE_STATE_ne_DROPPED (isl : Nat) : (ISL_PSTATE_STATE isl).key ≠ SCB_DROPPED_COUNT.key :=
  (RF.offRefusal.of_common (PSTATE_STATE_offset isl)).1

/-- Setting the two marks of a fence. -/
theorem State.isFenced_setF {s : State} {isl : Nat} (hi : isIsland isl = true) (m : Nat) :
    ((s.setF (ISL_PSTATE_STATE isl) 5).setF REF_FENCED_FENCED (m ||| 2 ^ isl)).isFenced isl := by
  refine ⟨(State.f_setF_ne _ _ _ _ (PSTATE_STATE_ne_FENCED isl)).trans (s.ist_setF isl (by decide)), ?_⟩
  rw [State.f_setF_same, bit_eq_testBit, Nat.testBit_mod_two_pow, Nat.testBit_or, Nat.testBit_two_pow_self, Bool.or_true,
    Bool.and_true]
  exact decide_eq_true (isIsland_lt hi)

theorem State.isFenced.congr {s t : State} {isl : Nat} (h : s.isFenced isl) (hs : t.ist isl = s.ist isl)
    (hf : t.f REF_FENCED_FENCED = s.f REF_FENCED_FENCED) : t.isFenced isl :=
  ⟨hs.trans h.1, by rw [hf]; exact h.2⟩

theorem State.fence_spec {s : State} {isl : Nat} (hi : isIsland isl = true) (h5 : s.ist isl ≠ 5)
    (hn : neverFenced isl = false) (hb : isl ≠ iBXL) (cause : Nat) :
    (s.fence isl cause).isFenced isl ∧ (isl = iMCH → (s.fence isl cause).latched = true) := by
  unfold State.fence
  rw [if_neg (by simp [hi, h5]), if_neg (by simp [hn])]
  extract_lets _ s₁ s₂ s₃ s₄ s₅ s₆
  have h₄ : s₄.isFenced isl := State.isFenced_setF hi _
  clear_value s₄
  have h₅ : s₅.isFenced isl :=
    h₄.congr (s₄.f_heldRefuse isl (.of_common (PSTATE_STATE_offset isl))) (s₄.f_heldRefuse isl offRefusal_FENCED)
  clear_value s₅
  have h₆ : s₆.isFenced isl :=
    h₅.congr (s₅.f_stage _ _ (PSTATE_STATE_ne_DROPPED isl)) (s₅.f_stage _ _ (by decide))
  clear_value s₆
  split
  · next hm =>
    subst hm
    obtain ⟨hs, hf, hl⟩ := State.stopRaise_fenced h₆.1 3 4 s₆.pos' true
    exact ⟨h₆.congr (hs.trans h₆.1.symm) hf, fun _ => hl⟩
  · next hm =>
    exact ⟨h₆, fun h => absurd h hm⟩

/-! ### Faults (R538, R539) -/

theorem islandFaultTrap_fences {s : State} {isl : Nat} (hi : isIsland isl = true) (hh : s.boot.held = false)
    (hn : neverFenced isl = false) (hs : s.ist isl = 2 ∨ s.ist isl = 3) (hb : isl ≠ iBXL) :
    ∃ t : State, exec (.islandFaultTrap isl) s = .next t ∧ t.ist isl = 5 ∧ bit (t.f REF_FENCED_FENCED) isl = true ∧
      (isl = iMCH → t.latched = true) := by
  have h5 : s.ist isl ≠ 5 := by omega
  have h0 : ¬(s.boot.held = true ∨ s.ist isl = 0 ∨ s.ist isl = 5) := by simp [hh]; omega
  have he : exec (.islandFaultTrap isl) s = .next (State.fence { s with trapPend := s.trapPend.erase isl } isl 2) :=
    congrArg _ (if_neg h0)
  obtain ⟨⟨hist, hbit⟩, hl⟩ := State.fence_spec (s := { s with trapPend := s.trapPend.erase isl }) hi h5 hn hb 2
  exact ⟨_, he, hist, hbit, hl⟩

theorem heartbeatMissed_fences {s : State} {isl : Nat} (hi : isIsland isl = true) (hh : s.boot.held = false)
    (hn : neverFenced isl = false) (hs : s.ist isl = 2 ∨ s.ist isl = 3) (hb : isl ≠ iBXL) :
    ∃ t : State, exec (.heartbeatMissed isl) s = .next t ∧ t.ist isl = 5 ∧ bit (t.f REF_FENCED_FENCED) isl = true ∧
      (isl = iMCH → t.latched = true) := by
  have he : exec (.heartbeatMissed isl) s = .next (s.fence isl 1) := congrArg _ (if_pos ⟨hh, hs⟩)
  obtain ⟨⟨hist, hbit⟩, hl⟩ := State.fence_spec hi (by omega : s.ist isl ≠ 5) hn hb 1
  exact ⟨_, he, hist, hbit, hl⟩

theorem exec_faultReset (cause isl : Nat) (s : State) : exec (.faultReset cause isl) s =
    .next (if s.boot.held = true ∨ neverFenced isl = false then s else s.faultReset isl cause) := rfl

theorem faultReset_resets {s : State} {isl : Nat} (hh : s.boot.held = false) (hn : neverFenced isl = true)
    (cause : Nat) : ∃ t : State, exec (.faultReset cause isl) s = .next t ∧ t.boot.held = true ∧
      t.f SYS_RESET_CAUSE_CAUSE = 8 ∧ t.cell.valid = true ∧ t.cell.kind = 1 ∧ t.cell.isl = isl ∧ t.cell.cause = cause ∧
      t.cell.time = s.now ∧ t.pending = s.pending := by
  obtain ⟨z, hz⟩ : ∃ z, s.cellWrite 1 isl (if cause = 1 ∨ cause = 4 then cTIMEOUT else cINTEGRITY) cause 0 = z :=
    ⟨_, rfl⟩
  have hr : s.faultReset isl cause = z.moduleReset 3 := by rw [← hz, State.faultReset]
  have he : exec (.faultReset cause isl) s = .next (z.moduleReset 3) := by
    rw [exec_faultReset, if_neg (by simp [hh, hn]), hr]
  obtain ⟨hheld, hcause, hp, hc⟩ := z.moduleReset_spec 3
  refine ⟨_, he, hheld, hcause, ?_⟩
  rw [hc, hp, ← hz]
  exact ⟨rfl, rfl, rfl, rfl, rfl, rfl⟩

/-! ### Commands to REF (R540, R541) -/

/-- A write to a register with a row of its own, of an island that serves and is no engine. -/
theorem State.regRow_serves {s : State} {isl : Nat} (hs : s.serves isl = true) (he : ¬(0x10 ≤ isl ∧ isl < 0x20))
    (req a n v : Nat) (f : State → Nat × State) :
    s.regRow isl req a n v f = .next (((f s).2.touch isl).ans (f s).1) := by
  have hi := State.serves_ist hs
  have hh := State.holds_serves hs
  rw [State.regRow, if_neg (by omega), if_neg (by omega), hh, if_neg Bool.false_ne_true]
  simp only [if_neg he]
  rfl

/-- A command to REF, as its register shows it. -/
def State.commanded (s : State) (op isl : Nat) : State := (s.setF REF_ISLAND_CMD_OP op).setF REF_ISLAND_CMD_ISLAND isl

/-- Where a command to REF may show. -/
def cmdRegs : List RF :=
  [ISL_PSTATE_STATE iREF, REF_ISLAND_CMD_OP, REF_ISLAND_CMD_ISLAND, REF_ISLAND_CMD_STATUS, REF_ISLAND_CMD_BUSY]

theorem State.keeps_commanded (s : State) (op isl : Nat) : s.keeps (s.commanded op isl) cmdRegs :=
  ((s.keeps_refl _).setF (by simp [cmdRegs]) _).setF (by simp [cmdRegs]) _

/-- A command word for an island, read back by field. -/
theorem islandCmd_word {op isl : Nat} (hi : isIsland isl = true) (ho : op < 4) :
    (op + isl % 64 * 2 ^ 8) % 4 = op ∧ bits (op + isl % 64 * 2 ^ 8) 13 8 = isl := by
  have := isIsland_lt hi
  simp only [bits]
  omega

section
variable {s : State} {isl w : Nat}

theorem State.islandCmd_fence_refused (hop : w % 4 = 1) (hisl : bits w 13 8 = isl) (hi : isIsland isl = true)
    (hb : s.on REF_ISLAND_CMD_BUSY = false) (hn : neverFenced isl = true ∨ isl = iBST) (req : Nat) :
    s.islandCmd req w = s.regRefuse iREF aIslandCmd req cRANGE := by
  simp [State.islandCmd, hop, hisl, hb, hi, hn]

theorem State.islandCmd_fence (hop : w % 4 = 1) (hisl : bits w 13 8 = isl) (hi : isIsland isl = true)
    (hb : s.on REF_ISLAND_CMD_BUSY = false) (hn : neverFenced isl = false) (hbst : isl ≠ iBST) (req : Nat) :
    s.islandCmd req w = (cOK, ((s.commanded 1 isl).fence isl 6).setF REF_ISLAND_CMD_STATUS cOK) := by
  simp [State.islandCmd, State.commanded, hop, hisl, hb, hi, hn, hbst]

theorem State.islandCmd_release (hop : w % 4 = 2) (hisl : bits w 13 8 = isl) (hi : isIsland isl = true)
    (hb : s.on REF_ISLAND_CMD_BUSY = false) (h5 : (s.commanded 2 isl).ist isl = 5) (req : Nat) :
    s.islandCmd req w = (cOK, (s.commanded 2 isl).setF REF_ISLAND_CMD_BUSY 1) := by
  rw [State.commanded] at h5
  simp [State.islandCmd, State.commanded, hop, hisl, hb, hi, h5]

theorem State.islandCmd_release_busy (hop : w % 4 = 2) (hisl : bits w 13 8 = isl) (hi : isIsland isl = true)
    (hb : s.on REF_ISLAND_CMD_BUSY = false) (h5 : (s.commanded 2 isl).ist isl ≠ 5) (req : Nat) :
    s.islandCmd req w = (cOK, (s.commanded 2 isl).setF REF_ISLAND_CMD_STATUS cBUSY) := by
  rw [State.commanded] at h5
  simp [State.islandCmd, State.commanded, hop, hisl, hb, hi, h5]

theorem exec_fence (hs : s.serves iREF = true) (req : Nat) :
    exec (.fence req isl) s = .next (((s.islandCmd req (1 + isl % 64 * 2 ^ 8)).2.touch iREF).ans
      (s.islandCmd req (1 + isl % 64 * 2 ^ 8)).1) := by
  simp only [exec, execFence, State.regRow_serves hs (by decide)]

theorem exec_islandRelease (hs : s.serves iREF = true) (req : Nat) :
    exec (.islandRelease req isl) s = .next (((s.islandCmd req (2 + isl % 64 * 2 ^ 8)).2.touch iREF).ans
      (s.islandCmd req (2 + isl % 64 * 2 ^ 8)).1) := by
  simp only [exec, execIslandRelease, State.regRow_serves hs (by decide)]

/-- The state of an island is no part of a command to REF. -/
theorem State.ist_commanded (op : Nat) : (s.commanded op isl).ist isl = s.ist isl := by
  rw [State.commanded, State.ist, State.f_setF_ne, State.f_setF_ne]
  · rfl
  all_goals
    simp only [RF.key, ISL_PSTATE_STATE, REF_ISLAND_CMD_OP, REF_ISLAND_CMD_ISLAND]
    omega

theorem isIsland_ne_REF (hn : neverFenced isl = false) : isl ≠ iREF := by
  rintro rfl
  exact absurd hn (by decide)

/-- REF's own state is not that of another island. -/
theorem PSTATE_STATE_ne_REF {isl : Nat} (h : isl ≠ iREF) : (ISL_PSTATE_STATE isl).key ≠ (ISL_PSTATE_STATE iREF).key := by
  simp only [RF.key, ISL_PSTATE_STATE, iREF] at *
  omega

theorem State.touch_keeps (s : State) (isl : Nat) : (s.touch isl).scb = s.scb ∧ (s.touch isl).cell = s.cell := by
  unfold State.touch
  split
  · exact ⟨State.setF_scb .., State.setF_cell ..⟩
  · exact ⟨rfl, rfl⟩

/-- A command ends as REF has served it: but for REF's own state nothing more changes. -/
theorem State.touch_REF (s : State) {q : RF} (hq : q.key ≠ (ISL_PSTATE_STATE iREF).key) : (s.touch iREF).f q = s.f q :=
  (s.keeps_touch iREF).f_eq (by simpa using hq)

theorem fence_refused (hs : s.serves iREF = true) (hi : isIsland isl = true) (hb : s.on REF_ISLAND_CMD_BUSY = false)
    (hn : neverFenced isl = true ∨ isl = iBST) (req : Nat) :
    ∃ t : State, exec (.fence req isl) s = .next t ∧ t.answer = cRANGE ∧
      s.keeps t (ISL_PSTATE_STATE iREF :: refuseRegs iREF) := by
  obtain ⟨hop, hisl⟩ := islandCmd_word hi (op := 1) (by omega)
  rw [exec_fence hs, State.islandCmd_fence_refused hop hisl hi hb hn]
  have hk := s.keeps_refuse iREF aIslandCmd req true cRANGE
  exact ⟨_, rfl, rfl, ((hk.mono (List.subset_cons_self ..)).trans
    ((State.keeps_touch _ iREF).mono (by simp))).ans _⟩

theorem State.isFenced.setF {z : State} (h : z.isFenced isl) {r : RF} (hs : (ISL_PSTATE_STATE isl).key ≠ r.key)
    (hf : REF_FENCED_FENCED.key ≠ r.key) (v : Nat) : (z.setF r v).isFenced isl :=
  h.congr (z.f_setF_ne _ _ _ hs) (z.f_setF_ne _ _ _ hf)

theorem State.isFenced.served {z : State} (h : z.isFenced isl) (hR : isl ≠ iREF) : (z.touch iREF).isFenced isl :=
  h.congr (z.touch_REF (PSTATE_STATE_ne_REF hR)) (z.touch_REF (by decide))

theorem PSTATE_STATE_ne_cmd (isl : Nat) : (ISL_PSTATE_STATE isl).key ≠ REF_ISLAND_CMD_STATUS.key ∧
    (ISL_PSTATE_STATE isl).key ≠ REF_ISLAND_CMD_BUSY.key := by
  simp only [RF.key, ISL_PSTATE_STATE, REF_ISLAND_CMD_STATUS, REF_ISLAND_CMD_BUSY]
  omega

theorem fence_fences (hs : s.serves iREF = true) (hi : isIsland isl = true) (hb : s.on REF_ISLAND_CMD_BUSY = false)
    (hn : neverFenced isl = false) (hbst : isl ≠ iBST) (h5 : s.ist isl ≠ 5) (hx : isl ≠ iBXL) (req : Nat) :
    ∃ t : State, exec (.fence req isl) s = .next t ∧ t.answer = cOK ∧ t.ist isl = 5 ∧
      bit (t.f REF_FENCED_FENCED) isl = true ∧ t.f REF_ISLAND_CMD_STATUS = cOK ∧ (isl = iMCH → t.latched = true) := by
  obtain ⟨hop, hisl⟩ := islandCmd_word hi (op := 1) (by omega)
  rw [exec_fence hs, State.islandCmd_fence hop hisl hi hb hn hbst]
  obtain ⟨hf, hl⟩ := State.fence_spec hi (by rwa [State.ist_commanded] : (s.commanded 1 isl).ist isl ≠ 5) hn hx 6
  generalize (s.commanded 1 isl).fence isl 6 = u at *
  obtain ⟨hist, hbit⟩ := (hf.setF (PSTATE_STATE_ne_cmd isl).1 (by decide) cOK).served (isIsland_ne_REF hn)
  refine ⟨_, rfl, rfl, hist, hbit, ?_, fun h => ?_⟩
  · rw [State.f_ans, State.touch_REF _ (by decide), State.f_setF_same]
    rfl
  · rw [← hl h, State.latched, State.latched, State.on, State.on, State.f_ans, State.touch_REF _ (by decide),
      State.f_setF_ne _ _ _ _ (by decide)]

/-- An island that is FENCED stays so, and nothing is recorded. -/
theorem fence_again (hs : s.serves iREF = true) (hi : isIsland isl = true) (hb : s.on REF_ISLAND_CMD_BUSY = false)
    (hn : neverFenced isl = false) (hbst : isl ≠ iBST) (h5 : s.ist isl = 5) (req : Nat) :
    ∃ t : State, exec (.fence req isl) s = .next t ∧ t.answer = cOK ∧ t.f REF_ISLAND_CMD_STATUS = cOK ∧ t.scb = s.scb ∧
      t.ist isl = 5 ∧ s.keeps t cmdRegs := by
  obtain ⟨hop, hisl⟩ := islandCmd_word hi (op := 1) (by omega)
  have hc : (s.commanded 1 isl).ist isl = 5 := (State.ist_commanded 1).trans h5
  have hsame : (s.commanded 1 isl).fence isl 6 = s.commanded 1 isl := if_pos (.inr hc)
  rw [exec_fence hs, State.islandCmd_fence hop hisl hi hb hn hbst, hsame]
  have hk := (s.keeps_commanded 1 isl).setF (r := REF_ISLAND_CMD_STATUS) (by simp [cmdRegs]) cOK
  have hscb : (s.commanded 1 isl).scb = s.scb := (State.setF_scb ..).trans (s.setF_scb ..)
  generalize s.commanded 1 isl = z at *
  refine ⟨_, rfl, rfl, ?_, ?_, ?_, (hk.trans ((State.keeps_touch _ iREF).mono (by simp [cmdRegs]))).ans _⟩
  · rw [State.f_ans, State.touch_REF _ (by decide), State.f_setF_same]
    rfl
  · exact ((State.touch_keeps _ iREF).1.trans (State.setF_scb ..)).trans hscb
  · exact ((State.touch_REF _ (PSTATE_STATE_ne_REF (isIsland_ne_REF hn))).trans
      (z.f_setF_ne _ _ _ (PSTATE_STATE_ne_cmd isl).1)).trans hc

theorem islandRelease_starts (hs : s.serves iREF = true) (hi : isIsland isl = true)
    (hb : s.on REF_ISLAND_CMD_BUSY = false) (hR : isl ≠ iREF) (h5 : s.ist isl = 5) (req : Nat) :
    ∃ t : State, exec (.islandRelease req isl) s = .next t ∧ t.answer = cOK ∧ t.on REF_ISLAND_CMD_BUSY = true ∧
      t.f REF_ISLAND_CMD_OP = 2 ∧ t.f REF_ISLAND_CMD_ISLAND = isl ∧ t.ist isl = 5 ∧ s.keeps t cmdRegs := by
  obtain ⟨hop, hisl⟩ := islandCmd_word hi (op := 2) (by omega)
  have hc : (s.commanded 2 isl).ist isl = 5 := (State.ist_commanded 2).trans h5
  rw [exec_islandRelease hs, State.islandCmd_release hop hisl hi hb hc]
  have hk := (s.keeps_commanded 2 isl).setF (r := REF_ISLAND_CMD_BUSY) (by simp [cmdRegs]) 1
  refine ⟨_, rfl, rfl, ?_, ?_, ?_, ?_, (hk.trans ((State.keeps_touch _ iREF).mono (by simp [cmdRegs]))).ans _⟩
  · rw [State.on, State.f_ans, State.touch_REF _ (by decide), State.f_setF_same]
    rfl
  · rw [State.f_ans, State.touch_REF _ (by decide), State.f_setF_ne _ _ _ _ (by decide), State.commanded,
      State.f_setF_ne _ _ _ _ (by decide), State.f_setF_same]
    rfl
  · rw [State.f_ans, State.touch_REF _ (by decide), State.f_setF_ne _ _ _ _ (by decide), State.commanded,
      State.f_setF_same]
    exact Nat.mod_eq_of_lt (show isl < 64 by have := isIsland_lt hi; omega)
  · exact ((State.touch_REF _ (PSTATE_STATE_ne_REF hR)).trans
      (State.f_setF_ne _ _ _ _ (PSTATE_STATE_ne_cmd isl).2)).trans hc

theorem islandRelease_busy (hs : s.serves iREF = true) (hi : isIsland isl = true)
    (hb : s.on REF_ISLAND_CMD_BUSY = false) (h5 : s.ist isl ≠ 5) (req : Nat) :
    ∃ t : State, exec (.islandRelease req isl) s = .next t ∧ t.answer = cOK ∧ t.on REF_ISLAND_CMD_BUSY = false ∧
      t.f REF_ISLAND_CMD_STATUS = cBUSY ∧ s.keeps t cmdRegs := by
  obtain ⟨hop, hisl⟩ := islandCmd_word hi (op := 2) (by omega)
  rw [exec_islandRelease hs, State.islandCmd_release_busy hop hisl hi hb (by rwa [State.ist_commanded])]
  have hk := (s.keeps_commanded 2 isl).setF (r := REF_ISLAND_CMD_STATUS) (by simp [cmdRegs]) cBUSY
  refine ⟨_, rfl, rfl, ?_, ?_, (hk.trans ((State.keeps_touch _ iREF).mono (by simp [cmdRegs]))).ans _⟩
  · rw [← hb, State.on, State.on, State.f_ans, State.touch_REF _ (by decide), State.f_setF_ne _ _ _ _ (by decide),
      State.commanded, State.f_setF_ne _ _ _ _ (by decide), State.f_setF_ne _ _ _ _ (by decide)]
  · rw [State.f_ans, State.touch_REF _ (by decide), State.f_setF_same]
    rfl

theorem lastBreathClear_clears (hs : s.serves iREF = true) {v : Nat} (hv : v % 2 = 1) (req : Nat) :
    ∃ t : State, exec (.lastBreathClear req v) s = .next t ∧ t.answer = cOK ∧ t.cell = { s.cell with valid := false } ∧
      s.keeps t [ISL_PSTATE_STATE iREF] := by
  have hc : s.lbClear v = (cOK, { s with cell := { s.cell with valid := false } }) := by
    simp [State.lbClear, bit, hv]
  have he : exec (.lastBreathClear req v) s = .next (((s.lbClear v).2.touch iREF).ans (s.lbClear v).1) := by
    simp only [exec, execLastBreathClear, State.regRow_serves hs (by decide)]
  rw [he, hc]
  exact ⟨_, rfl, rfl, (State.touch_keeps _ iREF).2, State.keeps_touch { s with cell := _ } iREF⟩

end

/-! ### The end of a release (R540) -/

/-- Leaving out the entries of some places gives those their default. -/
theorem Tab.get_filter {α : Type} (d : Nat → α) (p : Nat → Bool) (t : Tab α) (k : Nat) :
    Tab.get d (t.filter fun e => p e.1) k = if p k then Tab.get d t k else d k := by
  induction t with
  | nil => simp [Tab.get]
  | cons e t ih =>
    obtain ⟨j, v⟩ := e
    by_cases hk : j = k
    · subst hk
      cases hj : p j with
      | true => simp [hj, Tab.get]
      | false => simpa [List.filter_cons, hj] using ih
    · cases hj : p j with
      | true => simpa [List.filter_cons, hj, Tab.get, hk] using ih
      | false => simpa [List.filter_cons, hj, Tab.get, hk] using ih

/-- The registers of an island other than Bexlink, after it: its block's at reset, and the tracking channels' with it. -/
theorem State.f_islandRegs (s : State) {isl : Nat} (hx : isl ≠ iBXL) {q : RF} (hq : ∀ r ∈ keptRegs, q.key ≠ r.key) :
    (q.key / 64 / 0x10000 = 0x20000 + isl → (s.islandRegs isl).f q = regReset q.key) ∧
      (q.key / 64 / 0x10000 ≠ 0x20000 + isl → q.key / 64 / 0x20000 ≠ 0x18000 → (s.islandRegs isl).f q = s.f q) := by
  have hr : (s.islandRegs isl).f q = (s.resetRegs isl).f q := by
    rw [State.islandRegs, if_neg (by simp [hx])]
    exact foldl_setF_f s hq _
  have hg := Tab.get_filter regReset (fun k => !(decide (k / 64 / 0x10000 = 0x20000 + isl) ||
    (isl == 0x20 && decide (k / 64 / 0x20000 = 0x18000)))) s.regs q.key
  rw [hr]
  constructor
  · intro h
    exact hg.trans (by simp [h])
  · intro h hc
    exact hg.trans (by simp [h, hc, State.f])

/-- An island's registers are all that goes back. -/
theorem State.islandRegs_eq (s : State) (isl : Nat) : ∃ g, s.islandRegs isl = { s with regs := g } := by
  unfold State.islandRegs
  split
  · exact ⟨s.regs, rfl⟩
  · exact foldl_setF_eq s keptRegs (s.resetRegs isl)

/-- Without caps no engine changes its point. -/
theorem State.capsApply_none {s : State} (hc : s.boot.cap = none) (ht : s.boot.thermal = none)
    (he : ∀ e < 16, (s.engSt e).cap = none) : s.capsApply = s := by
  unfold State.capsApply
  rw [hc, ht]
  refine List.foldlRecOn (motive := fun t => t = s) _ _ rfl ?_
  rintro _ rfl e h
  rw [if_pos (he e (List.mem_range.1 h))]

/-- An island whose test has passed: its registers at reset, ON, and no longer shown as fenced. -/
def State.released (s : State) (isl : Nat) : State :=
  ((s.islandRegs isl).setF REF_FENCED_FENCED
    (if bit (s.f REF_FENCED_FENCED) isl then s.f REF_FENCED_FENCED - 2 ^ isl else s.f REF_FENCED_FENCED)).setF
      (ISL_PSTATE_STATE isl) 3

theorem State.released_eq (s : State) (isl : Nat) : ∃ g, s.released isl = { s with regs := g } := by
  obtain ⟨g, hg⟩ := s.islandRegs_eq isl
  unfold State.released
  rw [hg]
  exact ⟨_, rfl⟩

theorem State.f_released (s : State) (isl : Nat) {q : RF} (hs : q.key ≠ (ISL_PSTATE_STATE isl).key)
    (hf : q.key ≠ REF_FENCED_FENCED.key) : (s.released isl).f q = (s.islandRegs isl).f q :=
  (State.f_setF_ne _ _ _ _ hs).trans (State.f_setF_ne _ _ _ _ hf)

/-- Bit i of a number from which it is taken is 0. -/
theorem testBit_sub_two_pow_self {m i : Nat} (h : m.testBit i = true) : (m - 2 ^ i).testBit i = false := by
  rw [Nat.testBit_eq_decide_div_mod_eq, decide_eq_true_eq] at h
  have hd : (m - 2 ^ i) / 2 ^ i = m / 2 ^ i - 1 := by simpa using Nat.sub_mul_div m (2 ^ i) 1
  rw [Nat.testBit_eq_decide_div_mod_eq, hd, decide_eq_false_iff_not]
  omega

theorem PSTATE_STATE_block (isl : Nat) : (ISL_PSTATE_STATE isl).key / 64 / 0x10000 = 0x20000 + isl := by
  simp only [RF.key, ISL_PSTATE_STATE]
  omega

theorem ne_PSTATE_STATE_of_block {q : RF} {isl : Nat} (h : q.key / 64 / 0x10000 ≠ 0x20000 + isl) :
    q.key ≠ (ISL_PSTATE_STATE isl).key := fun hk => h (by rw [hk, PSTATE_STATE_block])

theorem State.released_FENCED (s : State) (isl : Nat) : bit ((s.released isl).f REF_FENCED_FENCED) isl = false := by
  rw [State.released, State.f_setF_ne _ _ _ _ (PSTATE_STATE_ne_FENCED isl).symm, State.f_setF_same, bit_eq_testBit,
    bit_eq_testBit, Nat.testBit_mod_two_pow]
  split
  · next h => rw [testBit_sub_two_pow_self h, Bool.and_false]
  · next h => rw [Bool.eq_false_iff.2 h, Bool.and_false]

section
variable {s : State} {isl : Nat}

theorem exec_islandReleaseDone (p : Bool) : exec (.islandReleaseDone p) s = .next (s.releaseDone p) := rfl

theorem State.releaseDone_pass (hb : s.on REF_ISLAND_CMD_BUSY = true) (ho : s.f REF_ISLAND_CMD_OP = 2)
    (hi : s.f REF_ISLAND_CMD_ISLAND = isl) (h5 : s.ist isl = 5) (ht : isl ≠ iTAL) (hu : isl ≠ iUPD) (hc : isl ≠ iSCB)
    (hcap : s.boot.cap = none) (hth : s.boot.thermal = none) (he : ∀ e < 16, (s.engSt e).cap = none) :
    s.releaseDone true = ((s.setF REF_ISLAND_CMD_BUSY 0).released isl).setF REF_ISLAND_CMD_STATUS cOK := by
  have h5' : (s.setF REF_ISLAND_CMD_BUSY 0).ist isl = 5 :=
    (s.f_setF_ne _ _ _ (PSTATE_STATE_ne_cmd isl).2).trans h5
  obtain ⟨g, hg⟩ := (s.setF REF_ISLAND_CMD_BUSY 0).released_eq isl
  have hl : ((s.setF REF_ISLAND_CMD_BUSY 0).released isl).islandLoad isl = (s.setF REF_ISLAND_CMD_BUSY 0).released isl := by
    simp [State.islandLoad, ht, hu, hc]
  have hcaps : ((s.setF REF_ISLAND_CMD_BUSY 0).released isl).capsApply = (s.setF REF_ISLAND_CMD_BUSY 0).released isl := by
    refine State.capsApply_none ?_ ?_ ?_ <;> rw [hg]
    · exact hcap
    · exact hth
    · exact he
  unfold State.releaseDone
  simp only [hi]
  rw [if_neg (by simp [hb, ho]), if_neg (by simp [h5']), if_neg (by simp)]
  change State.setF (State.capsApply (State.islandLoad ((s.setF REF_ISLAND_CMD_BUSY 0).released isl) isl)) _ _ = _
  rw [hl, hcaps]

theorem State.releaseDone_fail (hb : s.on REF_ISLAND_CMD_BUSY = true) (ho : s.f REF_ISLAND_CMD_OP = 2)
    (hi : s.f REF_ISLAND_CMD_ISLAND = isl) (h5 : s.ist isl = 5) : s.releaseDone false =
      ((s.setF REF_ISLAND_CMD_BUSY 0).setF REF_ISLAND_CMD_STATUS cINTEGRITY).stage 0x0201 [isl + 5 * 2 ^ 8] := by
  have h5' : (s.setF REF_ISLAND_CMD_BUSY 0).ist isl = 5 :=
    (s.f_setF_ne _ _ _ (PSTATE_STATE_ne_cmd isl).2).trans h5
  unfold State.releaseDone
  simp only [hi]
  rw [if_neg (by simp [hb, ho]), if_neg (by simp [h5']), if_pos trivial]

theorem islandReleaseDone_none (hb : s.on REF_ISLAND_CMD_BUSY = false) (p : Bool) :
    exec (.islandReleaseDone p) s = .next s :=
  congrArg _ (if_pos (.inl hb))

theorem islandReleaseDone_fail (hb : s.on REF_ISLAND_CMD_BUSY = true) (ho : s.f REF_ISLAND_CMD_OP = 2)
    (hi : s.f REF_ISLAND_CMD_ISLAND = isl) (h5 : s.ist isl = 5) :
    ∃ t : State, exec (.islandReleaseDone false) s = .next t ∧ t.ist isl = 5 ∧ t.on REF_ISLAND_CMD_BUSY = false ∧
      t.f REF_ISLAND_CMD_STATUS = cINTEGRITY ∧
      s.keeps t [REF_ISLAND_CMD_BUSY, REF_ISLAND_CMD_STATUS, SCB_DROPPED_COUNT] := by
  rw [exec_islandReleaseDone, State.releaseDone_fail hb ho hi h5]
  have hk : s.keeps ((s.setF REF_ISLAND_CMD_BUSY 0).setF REF_ISLAND_CMD_STATUS cINTEGRITY)
      [REF_ISLAND_CMD_BUSY, REF_ISLAND_CMD_STATUS, SCB_DROPPED_COUNT] :=
    ((s.keeps_refl _).setF (by simp) _).setF (by simp) _
  have hk' := hk.trans ((State.keeps_stage _ 0x0201 [isl + 5 * 2 ^ 8]).mono (by simp))
  obtain ⟨hs, hu⟩ := PSTATE_STATE_ne_cmd isl
  refine ⟨_, rfl, (hk'.f_eq ?_).trans h5, ?_, ?_, hk'⟩
  · simp [hs, hu, PSTATE_STATE_ne_DROPPED isl]
  · rw [State.on, State.f_stage _ _ _ (by decide), State.f_setF_ne _ _ _ _ (by decide), State.f_setF_same]
    rfl
  · rw [State.f_stage _ _ _ (by decide), State.f_setF_same]
    rfl

theorem islandReleaseDone_pass (hb : s.on REF_ISLAND_CMD_BUSY = true) (ho : s.f REF_ISLAND_CMD_OP = 2)
    (hi : s.f REF_ISLAND_CMD_ISLAND = isl) (h5 : s.ist isl = 5) (hn : neverFenced isl = false) (ht : isl ≠ iTAL)
    (hu : isl ≠ iUPD) (hc : isl ≠ iSCB) (hx : isl ≠ iBXL) (hcap : s.boot.cap = none) (hth : s.boot.thermal = none)
    (he : ∀ e < 16, (s.engSt e).cap = none) :
    ∃ t : State, exec (.islandReleaseDone true) s = .next t ∧ t.ist isl = 3 ∧ bit (t.f REF_FENCED_FENCED) isl = false ∧
      t.on REF_ISLAND_CMD_BUSY = false ∧ t.f REF_ISLAND_CMD_STATUS = cOK ∧ t.mem = s.mem ∧ t.eng = s.eng ∧
      ∀ q : RF, (∀ r ∈ keptRegs, q.key ≠ r.key) →
        (q.key / 64 / 0x10000 = 0x20000 + isl → q.key ≠ (ISL_PSTATE_STATE isl).key → t.f q = regReset q.key) ∧
        (q.key / 64 / 0x10000 ≠ 0x20000 + isl → q.key / 64 / 0x20000 ≠ 0x18000 → q.key ≠ REF_FENCED_FENCED.key →
          q.key ≠ REF_ISLAND_CMD_BUSY.key → q.key ≠ REF_ISLAND_CMD_STATUS.key → t.f q = s.f q) := by
  rw [exec_islandReleaseDone, State.releaseDone_pass hb ho hi h5 ht hu hc hcap hth he]
  have hR := isIsland_ne_REF hn
  obtain ⟨hst, hbu⟩ := PSTATE_STATE_ne_cmd isl
  have hREF : ∀ q : RF, q.key / 64 / 0x10000 = 0x20000 + iREF → q.key / 64 / 0x10000 ≠ 0x20000 + isl :=
    fun q h h' => hR (by omega)
  obtain ⟨g, hg⟩ := (s.setF REF_ISLAND_CMD_BUSY 0).released_eq isl
  have hmem : ((s.setF REF_ISLAND_CMD_BUSY 0).released isl).mem = s.mem := by rw [hg, ← s.setF_mem REF_ISLAND_CMD_BUSY 0]
  have heng : ((s.setF REF_ISLAND_CMD_BUSY 0).released isl).eng = s.eng := by rw [hg, ← s.setF_eng REF_ISLAND_CMD_BUSY 0]
  refine ⟨_, rfl, ?_, ?_, ?_, ?_, hmem, heng, fun q hq => ⟨fun h hs => ?_, fun h hch hf hb hs => ?_⟩⟩
  · exact (State.f_setF_ne _ _ _ _ hst).trans (State.ist_setF _ _ (by decide))
  · rw [State.f_setF_ne _ _ _ _ (by decide)]
    exact State.released_FENCED ..
  · rw [State.on, State.f_setF_ne _ _ _ _ (by decide), State.f_released _ _ hbu.symm (by decide),
      ((State.f_islandRegs _ hx (by decide)).2 (hREF REF_ISLAND_CMD_BUSY rfl) (by decide)), State.f_setF_same]
    rfl
  · rw [State.f_setF_same]
    rfl
  · rw [State.f_setF_ne _ _ _ _ fun hk => hREF REF_ISLAND_CMD_STATUS rfl (hk ▸ h),
      State.f_released _ _ hs fun hk => hREF REF_FENCED_FENCED rfl (hk ▸ h)]
    exact (State.f_islandRegs _ hx hq).1 h
  · rw [State.f_setF_ne _ _ _ _ hs, State.f_released _ _ (ne_PSTATE_STATE_of_block h) hf,
      (State.f_islandRegs _ hx hq).2 h hch, State.f_setF_ne _ _ _ _ hb]

end

/-- Settles O56, case by case. That an event which finds nothing to do leaves the state as it was is log entry 60. -/
theorem fences : Obligations.Fences := by
  refine ⟨fun s isl hi hh => ⟨fun hn hs hx => ⟨islandFaultTrap_fences hi hh hn hs hx, heartbeatMissed_fences hi hh hn hs hx⟩,
    fun cause hn => faultReset_resets hh hn cause⟩, fun s req isl => ⟨?_, ?_, fun hb p => islandReleaseDone_none hb p,
    fun hs v hv => lastBreathClear_clears hs hv req⟩⟩
  · rintro hs hi hb cmd rfl
    exact ⟨fun hn => fence_refused hs hi hb hn req,
      fun hn hbst => ⟨fun h5 hx => fence_fences hs hi hb hn hbst h5 hx req, fun h5 => fence_again hs hi hb hn hbst h5 req⟩,
      fun hR h5 => islandRelease_starts hs hi hb hR h5 req, fun h5 => islandRelease_busy hs hi hb h5 req⟩
  · intro hb ho hisl _ h5 hn
    exact ⟨fun ht hu hc hx hcap hth he => islandReleaseDone_pass hb ho hisl h5 hn ht hu hc hx hcap hth he,
      islandReleaseDone_fail hb ho hisl h5⟩

end Sys2Proof.Machine
end

section
/-! PROOFS. Start-up (R25, R527, R528, R555, R562, R563, R575 to R577): reset release, the power-up test, the boot ROM's
check, the loader, RESTORE and RUN. -/

namespace Sys2Proof.Machine

/-! ### Registers alone -/

/-- From s to t no more than registers of l changed. -/
def State.regsOnly (s t : State) (l : List RF) : Prop :=
  (∃ g, t = { s with regs := g }) ∧ ∀ q : RF, (∀ r ∈ l, q.key ≠ r.key) → t.f q = s.f q

theorem State.regsOnly_refl (s : State) (l : List RF) : s.regsOnly s l := ⟨⟨s.regs, rfl⟩, fun _ _ => rfl⟩

theorem State.regsOnly.trans {s t u : State} {l : List RF} (h : s.regsOnly t l) (k : t.regsOnly u l) :
    s.regsOnly u l := by
  obtain ⟨⟨g, rfl⟩, hf⟩ := h
  obtain ⟨⟨g', rfl⟩, kf⟩ := k
  exact ⟨⟨g', rfl⟩, fun q hq => (kf q hq).trans (hf q hq)⟩

theorem State.regsOnly.mono {s t : State} {l m : List RF} (h : s.regsOnly t l) (hl : l ⊆ m) : s.regsOnly t m :=
  ⟨h.1, fun q hq => h.2 q fun r hr => hq r (hl hr)⟩

theorem State.regsOnly_setF (s : State) {l : List RF} {r : RF} (hr : r ∈ l) (v : Nat) : s.regsOnly (s.setF r v) l :=
  ⟨⟨_, rfl⟩, fun q hq => s.f_setF_ne r q v (hq r hr)⟩

theorem State.regsOnly.setF {s t : State} {l : List RF} (h : s.regsOnly t l) {r : RF} (hr : r ∈ l) (v : Nat) :
    s.regsOnly (t.setF r v) l :=
  h.trans (t.regsOnly_setF hr v)

theorem State.regsOnly.keeps {s t : State} {l : List RF} (h : s.regsOnly t l) : s.keeps t l := by
  obtain ⟨⟨g, rfl⟩, hf⟩ := h
  exact ⟨rfl, rfl, hf⟩

/-- A pass over the islands, each of which leaves the other islands' property alone. -/
theorem foldl_establishes {α β : Type} {f : β → α → β} {P I : β → Prop} {a : α} {l : List α} (ha : a ∈ l) {s : β} (hs : I s)
    (hI : ∀ t b, I t → I (f t b)) (hset : ∀ t, I t → P (f t a)) (hkeep : ∀ t b, b ≠ a → I t → P t → P (f t b)) :
    P (l.foldl f s) := by
  have hP : ∀ t b, I t → P t → P (f t b) := fun t b ht hp => by
    by_cases hb : b = a
    · exact hb ▸ hset t ht
    · exact hkeep t b hb ht hp
  induction l generalizing s with
  | nil => exact absurd ha List.not_mem_nil
  | cons b l ih =>
    rcases List.mem_cons.1 ha with rfl | ha
    · exact (List.foldlRecOn (motive := fun t => I t ∧ P t) l f ⟨hI s a hs, hset s hs⟩ fun t ⟨hi, hp⟩ b _ =>
        ⟨hI t b hi, hP t b hi hp⟩).2
    · exact ih ha (hI s b hs)

theorem mem_islandList {isl : Nat} (hi : isIsland isl = true) : isl ∈ islandList :=
  List.mem_filter.2 ⟨List.mem_range.2 (isIsland_lt hi), hi⟩

theorem PSTATE_STATE_ne {i j : Nat} (h : i ≠ j) : (ISL_PSTATE_STATE i).key ≠ (ISL_PSTATE_STATE j).key := by
  simp only [RF.key, ISL_PSTATE_STATE]
  omega

theorem State.ist_setF_ne (s : State) {i j : Nat} (h : j ≠ i) (v : Nat) :
    (s.setF (ISL_PSTATE_STATE j) v).ist i = s.ist i :=
  s.f_setF_ne _ _ _ (PSTATE_STATE_ne h.symm)

/-! ### Reset is released (R25, R47, R562, R575) -/

/-- Every island enters SELFTEST. -/
def State.selfTest (s : State) : State := islandList.foldl (fun s i => s.setF (ISL_PSTATE_STATE i) 4) s

theorem State.regsOnly_selfTest (s : State) : s.regsOnly s.selfTest (islandList.map ISL_PSTATE_STATE) :=
  List.foldlRecOn (motive := fun t => s.regsOnly t _) _ _ (s.regsOnly_refl _) fun _ ht _ hi =>
    ht.setF (List.mem_map_of_mem hi) 4

theorem State.ist_selfTest (s : State) {isl : Nat} (hi : isIsland isl = true) : s.selfTest.ist isl = 4 :=
  foldl_establishes (I := fun _ => True) (P := fun t : State => t.ist isl = 4) (mem_islandList hi) trivial
    (fun _ _ _ => trivial) (fun t _ => t.ist_setF isl (by decide)) fun t _ hb _ ht => (t.ist_setF_ne hb 4).trans ht

/-- REF's registers of its own lie past the common ones. -/
theorem PSTATE_STATE_ne_STOP_ID (isl : Nat) : (ISL_PSTATE_STATE isl).key ≠ REF_STOP_ID_STOP_ID.key := fun h => by
  have := PSTATE_STATE_offset isl
  rw [h] at this
  exact absurd this (by decide)

def strapRegs : List RF := [SYS_STRAPS_REFSEL, SYS_STRAPS_PCIE, SYS_STRAPS_BANK, SYS_STRAPS_HOLD]

/-- The straps are latched. -/
def State.strapped (s : State) (straps : Nat) : State :=
  (((s.setF SYS_STRAPS_REFSEL (bits straps 0 0)).setF SYS_STRAPS_PCIE (bits straps 1 1)).setF SYS_STRAPS_BANK
    (bits straps 2 2)).setF SYS_STRAPS_HOLD (bits straps 3 3)

theorem State.regsOnly_strapped (s : State) (straps : Nat) : s.regsOnly (s.strapped straps) strapRegs :=
  ((((s.regsOnly_refl _).setF (by simp [strapRegs]) _).setF (by simp [strapRegs]) _).setF (by simp [strapRegs]) _).setF
    (by simp [strapRegs]) _

theorem State.f_strapped (s : State) (straps : Nat) : (s.strapped straps).f SYS_STRAPS_REFSEL = straps % 2 ∧
    (s.strapped straps).f SYS_STRAPS_PCIE = straps / 2 % 2 ∧ (s.strapped straps).f SYS_STRAPS_BANK = straps / 4 % 2 ∧
    (s.strapped straps).f SYS_STRAPS_HOLD = straps / 8 % 2 := by
  unfold State.strapped
  refine ⟨?_, ?_, ?_, ?_⟩
  · rw [State.f_setF_ne _ _ _ _ (by decide), State.f_setF_ne _ _ _ _ (by decide), State.f_setF_ne _ _ _ _ (by decide),
      State.f_setF_same]
    simp [bits, SYS_STRAPS_REFSEL]
  · rw [State.f_setF_ne _ _ _ _ (by decide), State.f_setF_ne _ _ _ _ (by decide), State.f_setF_same]
    simp [bits, SYS_STRAPS_PCIE]
  · rw [State.f_setF_ne _ _ _ _ (by decide), State.f_setF_same]
    simp [bits, SYS_STRAPS_BANK]
  · rw [State.f_setF_same]
    simp [bits, SYS_STRAPS_HOLD]

theorem State.stopIdRecord_congr {s t : State} (hm : t.mem = s.mem) (hc : t.memc = s.memc) :
    t.stopIdRecord = s.stopIdRecord := by
  have hr : ∀ a n, t.rdBytes a n = s.rdBytes a n := fun a n => State.rdBytes_congr t s a n hm
  unfold State.stopIdRecord
  simp only [hr, hc]

/-- STOP_ID as MRAM has it; without a valid record it is 0, and a record tells. -/
def State.stopIdTaken (s : State) : State :=
  match s.stopIdRecord with
  | some id => s.setF REF_STOP_ID_STOP_ID id
  | none => (s.setF REF_STOP_ID_STOP_ID 0).stageAs 0x0206 cINTEGRITY [0]

theorem State.stopIdTaken_spec (s : State) : s.stopIdTaken.boot = s.boot ∧ s.stopIdTaken.memc = s.memc ∧
    s.stopIdTaken.stopIdRecord = s.stopIdRecord ∧
    s.stopIdTaken.f REF_STOP_ID_STOP_ID = s.stopIdRecord.getD 0 % 2 ^ 32 ∧
    s.keeps s.stopIdTaken [REF_STOP_ID_STOP_ID, SCB_DROPPED_COUNT] := by
  unfold State.stopIdTaken
  cases hid : s.stopIdRecord with
  | some id =>
    dsimp only
    rw [← hid]
    refine ⟨s.setF_boot .., s.setF_memc .., State.stopIdRecord_congr (s.setF_mem ..) (s.setF_memc ..), ?_,
      (s.keeps_refl _).setF (by simp) _⟩
    rw [hid]
    exact s.f_setF_same ..
  | none =>
    obtain ⟨z, hz⟩ : ∃ z, s.setF REF_STOP_ID_STOP_ID 0 = z := ⟨_, rfl⟩
    have hk : s.keeps z [REF_STOP_ID_STOP_ID, SCB_DROPPED_COUNT] := hz ▸ (s.keeps_refl _).setF (by simp) _
    have hf : z.f REF_STOP_ID_STOP_ID = 0 := by rw [← hz, State.f_setF_same]; rfl
    have hb : z.boot = s.boot := by rw [← hz, State.setF_boot]
    have hm : z.memc = s.memc := by rw [← hz, State.setF_memc]
    obtain ⟨n, c, b, g, he, hg⟩ := z.stageRec_eq ⟨0x0206, z.now, cINTEGRITY, false, [0].flatMap (leBytes 8)⟩
    have hs : z.stageAs 0x0206 cINTEGRITY [0] = { z with fresh := n, scb := c, cell := b, regs := g } := he
    dsimp only
    rw [hz, hs]
    refine ⟨hb, hm, ?_, (hg _ (by decide)).trans hf, hk.trans ⟨rfl, rfl, fun q hq => hg q (hq _ (by simp))⟩⟩
    rw [← hid]
    exact State.stopIdRecord_congr hk.1 hm

/-- The parts of a release: the module runs, the devices that fail MEM's test, and the rest of the steps. -/
def State.unheld (s : State) (fa fb : Bool) : State :=
  let s := s.setBoot (fun b => { b with held := false })
  { s with memc := { s.memc with failA := fa, failB := fb } }

theorem exec_resetRelease {s : State} (hh : s.boot.held = true) (hc : s.boot.converters = true) (straps : Nat)
    (fa fb : Bool) :
    exec (.resetRelease straps fa fb) s = .next (((s.unheld fa fb).strapped straps).selfTest.stopIdTaken) :=
  congrArg _ (if_neg (by simp [hh, hc]))

theorem exec_resetRelease_none {s : State} (h : s.boot.held = false ∨ s.boot.converters = false) (straps : Nat)
    (fa fb : Bool) : exec (.resetRelease straps fa fb) s = .next s :=
  congrArg _ (if_pos h)

theorem strapRegs_ne_release : ∀ q ∈ strapRegs, ∀ r ∈ REF_STOP_ID_STOP_ID :: SCB_DROPPED_COUNT ::
    islandList.map ISL_PSTATE_STATE, q.key ≠ r.key := by decide

theorem resetRelease_starts {s : State} (hh : s.boot.held = true) (hc : s.boot.converters = true) (straps : Nat)
    (fa fb : Bool) : ∃ t : State, exec (.resetRelease straps fa fb) s = .next t ∧ t.boot = { s.boot with held := false } ∧
      t.memc.failA = fa ∧ t.memc.failB = fb ∧ t.f SYS_STRAPS_REFSEL = straps % 2 ∧ t.f SYS_STRAPS_PCIE = straps / 2 % 2 ∧
      t.f SYS_STRAPS_BANK = straps / 4 % 2 ∧ t.f SYS_STRAPS_HOLD = straps / 8 % 2 ∧
      (∀ isl : Nat, isIsland isl = true → t.ist isl = 4) ∧ t.f REF_STOP_ID_STOP_ID = t.stopIdRecord.getD 0 % 2 ^ 32 ∧
      s.keeps t ([SYS_STRAPS_REFSEL, SYS_STRAPS_PCIE, SYS_STRAPS_BANK, SYS_STRAPS_HOLD, REF_STOP_ID_STOP_ID,
        SCB_DROPPED_COUNT] ++ islandList.map ISL_PSTATE_STATE) := by
  rw [exec_resetRelease hh hc]
  have hs := (s.unheld fa fb).regsOnly_strapped straps
  obtain ⟨f₁, f₂, f₃, f₄⟩ := (s.unheld fa fb).f_strapped straps
  have h0 : s.keeps (s.unheld fa fb) [] := ⟨rfl, rfl, fun _ _ => rfl⟩
  have hb : (s.unheld fa fb).boot = { s.boot with held := false } := rfl
  have ha : (s.unheld fa fb).memc.failA = fa ∧ (s.unheld fa fb).memc.failB = fb := ⟨rfl, rfl⟩
  generalize s.unheld fa fb = u at *
  generalize u.strapped straps = v at *
  have hv := v.regsOnly_selfTest
  have hist := fun isl hi => v.ist_selfTest (isl := isl) hi
  generalize v.selfTest = w at *
  obtain ⟨tb, tm, tr, ti, tk⟩ := w.stopIdTaken_spec
  have hsk := hs.keeps
  have hvk := hv.keeps
  obtain ⟨⟨g, hg⟩, -⟩ := hs
  obtain ⟨⟨g', hg'⟩, -⟩ := hv
  have hwb : w.boot = u.boot := by rw [hg', hg]
  have hwm : w.memc = u.memc := by rw [hg', hg]
  have hk : v.keeps w.stopIdTaken (REF_STOP_ID_STOP_ID :: SCB_DROPPED_COUNT :: islandList.map ISL_PSTATE_STATE) :=
    (hvk.mono (by simp)).trans (tk.mono (by simp))
  have hstrap : ∀ q ∈ strapRegs, w.stopIdTaken.f q = v.f q := fun q hq => hk.f_eq (strapRegs_ne_release q hq)
  refine ⟨_, rfl, tb.trans (hwb.trans hb), ?_, ?_, (hstrap _ (by simp [strapRegs])).trans f₁,
    (hstrap _ (by simp [strapRegs])).trans f₂, (hstrap _ (by simp [strapRegs])).trans f₃,
    (hstrap _ (by simp [strapRegs])).trans f₄, fun isl hi => (tk.f_eq ?_).trans (hist isl hi), ?_, ?_⟩
  · rw [tm, hwm, ha.1]
  · rw [tm, hwm, ha.2]
  · intro r hr
    simp only [List.mem_cons, List.not_mem_nil, or_false] at hr
    rcases hr with rfl | rfl
    · exact PSTATE_STATE_ne_STOP_ID isl
    · exact PSTATE_STATE_ne_DROPPED isl
  · rw [ti, tr]
  · refine ((h0.mono (List.nil_subset _)).trans (hsk.mono (by simp [strapRegs]))).trans (hk.mono fun r hr => ?_)
    simp only [List.mem_cons, List.mem_append] at hr ⊢
    tauto

/-! ### The power-up test (R527, R528, R563, R576) -/

/-- The islands that fail the test. -/
def bistFailed (fail : Nat) : List Nat := islandList.filter (fun i => bit fail i)

theorem mem_bistFailed {fail isl : Nat} (hi : isIsland isl = true) : isl ∈ bistFailed fail ↔ bit fail isl = true := by
  simp [bistFailed, mem_islandList hi]

/-- A sum of powers of distinct numbers has those bits. -/
theorem testBit_sum_two_pow {l : List Nat} (hl : l.SortedLT) (i : Nat) :
    (l.map (fun i => 2 ^ i)).sum.testBit i = decide (i ∈ l) := by
  rw [Bool.eq_iff_iff, ← Nat.mem_bitIndices, Nat.bitIndices_sum_map_two_pow hl, decide_eq_true_eq]

theorem bistFailed_sorted (fail : Nat) : (bistFailed fail).SortedLT :=
  ((List.pairwise_lt_range.filter _).filter _).sortedLT

/-- BST shows which islands failed, and how long the test took. -/
def State.bistShown (s : State) (fail ticks : Nat) : State :=
  (s.setF BST_PU_FAIL_FAIL ((bistFailed fail).map (fun i => 2 ^ i)).sum).setF BST_PU_TIME_TICKS ticks

theorem State.bistShown_FAIL (s : State) (fail ticks : Nat) {isl : Nat} (hi : isIsland isl = true) :
    bit ((s.bistShown fail ticks).f BST_PU_FAIL_FAIL) isl = bit fail isl := by
  have hl : isl < BST_PU_FAIL_FAIL.len := isIsland_lt hi
  rw [State.bistShown, State.f_setF_ne _ _ _ _ (by decide), State.f_setF_same, bit_eq_testBit, Nat.testBit_mod_two_pow,
    testBit_sum_two_pow (bistFailed_sorted fail), decide_eq_true hl, Bool.true_and, Bool.eq_iff_iff, decide_eq_true_eq,
    mem_bistFailed hi]

/-- An island after its test: ON, or off for want of its supply; one that failed is fenced, unless without it nothing
starts. -/
def State.tested (fail : Nat) (s : State) (i : Nat) : State :=
  if (bistFailed fail).contains i = false then
    s.setF (ISL_PSTATE_STATE i) (if 0x2E ≤ i ∧ s.on SYS_STRAPS_BANK = true then 0 else 3)
  else if bistCritical i then s
  else (s.setF (ISL_PSTATE_STATE i) 5).setF REF_FENCED_FENCED (s.f REF_FENCED_FENCED ||| 2 ^ i)

def State.allTested (s : State) (fail : Nat) : State := islandList.foldl (State.tested fail) s

theorem State.regsOnly_tested (s : State) (fail i : Nat) :
    s.regsOnly (s.tested fail i) [ISL_PSTATE_STATE i, REF_FENCED_FENCED] := by
  unfold State.tested
  split
  · exact s.regsOnly_setF (by simp) _
  split
  · exact s.regsOnly_refl _
  · exact (s.regsOnly_setF (by simp) _).setF (by simp) _

theorem State.regsOnly_allTested (s : State) (fail : Nat) :
    s.regsOnly (s.allTested fail) (REF_FENCED_FENCED :: islandList.map ISL_PSTATE_STATE) := by
  refine List.foldlRecOn (motive := fun t => s.regsOnly t _) _ _ (s.regsOnly_refl _) fun t ht i hi =>
    ht.trans ((t.regsOnly_tested fail i).mono ?_)
  simp [List.mem_map_of_mem hi]

theorem State.ist_tested_ne (s : State) (fail : Nat) {i j : Nat} (h : j ≠ i) : (s.tested fail j).ist i = s.ist i := by
  refine (s.regsOnly_tested fail j).2 _ fun r hr => ?_
  simp only [List.mem_cons, List.not_mem_nil, or_false] at hr
  rcases hr with rfl | rfl
  · exact PSTATE_STATE_ne h.symm
  · exact PSTATE_STATE_ne_FENCED i

/-- What is shown as fenced stays shown. -/
theorem State.FENCED_tested (s : State) (fail : Nat) {i j : Nat} (hi : isIsland i = true)
    (h : bit (s.f REF_FENCED_FENCED) i = true) : bit ((s.tested fail j).f REF_FENCED_FENCED) i = true := by
  unfold State.tested
  split
  · rwa [State.f_setF_ne _ _ _ _ (PSTATE_STATE_ne_FENCED j).symm]
  split
  · exact h
  · rw [bit_eq_testBit] at h
    rw [State.f_setF_same, bit_eq_testBit, Nat.testBit_mod_two_pow, Nat.testBit_or, h, Bool.true_or, Bool.and_true]
    exact decide_eq_true (isIsland_lt hi)

theorem State.isFenced_allTested (s : State) {fail isl : Nat} (hi : isIsland isl = true) (hf : bit fail isl = true)
    (hc : bistCritical isl = false) : (s.allTested fail).isFenced isl := by
  refine foldl_establishes (I := fun _ => True) (P := fun t : State => t.isFenced isl) (mem_islandList hi) trivial
    (fun _ _ _ => trivial) (fun t _ => ?_) fun t b hb _ ht =>
      ⟨(t.ist_tested_ne fail hb).trans ht.1, t.FENCED_tested fail hi ht.2⟩
  rw [State.tested, if_neg (by simpa using (mem_bistFailed hi).2 hf), if_neg (by simp [hc])]
  exact State.isFenced_setF hi _

/-- The straps are off what a test writes. -/
theorem State.on_BANK_tested (s : State) (fail i : Nat) :
    (s.tested fail i).on SYS_STRAPS_BANK = s.on SYS_STRAPS_BANK := by
  have h : (s.tested fail i).f SYS_STRAPS_BANK = s.f SYS_STRAPS_BANK := by
    refine (s.regsOnly_tested fail i).2 _ fun r hr => ?_
    simp only [List.mem_cons, List.not_mem_nil, or_false] at hr
    rcases hr with rfl | rfl
    · exact fun hk => absurd (hk ▸ PSTATE_STATE_offset i : SYS_STRAPS_BANK.key / 64 % 0x10000 = 4) (by decide)
    · decide
  rw [State.on, h, State.on]

theorem State.ist_allTested (s : State) {fail isl : Nat} (hi : isIsland isl = true) (hf : bit fail isl = false) :
    (s.allTested fail).ist isl = if 0x2E ≤ isl ∧ s.on SYS_STRAPS_BANK = true then 0 else 3 := by
  refine foldl_establishes (I := fun t : State => t.on SYS_STRAPS_BANK = s.on SYS_STRAPS_BANK)
    (P := fun t : State => t.ist isl = if 0x2E ≤ isl ∧ s.on SYS_STRAPS_BANK = true then 0 else 3) (mem_islandList hi) rfl
    (fun t b ht => (t.on_BANK_tested fail b).trans ht) (fun t ht => ?_)
    fun t b hb _ ht => (t.ist_tested_ne fail hb).trans ht
  have hm : isl ∉ bistFailed fail := by simp [mem_bistFailed hi, hf]
  rw [State.tested, if_pos (by simpa using hm), ht]
  exact t.ist_setF isl (by split <;> decide)

/-- The module holds: the last-breath cell says for which island, and no register tells. -/
theorem State.holdFor_spec (s : State) (isl map : Nat) : (s.holdFor isl map).boot.holding = some cINTEGRITY ∧
    (s.holdFor isl map).cell = { LastBreath.reset with
      valid := true, kind := 3, isl := isl, status := cINTEGRITY, cause := 5, time := s.now, failMap := map
      lastHeader := List.replicate 20 0 } ∧ s.keeps (s.holdFor isl map) [] :=
  ⟨rfl, rfl, rfl, rfl, fun _ _ => rfl⟩

/-- The state of the module once every island has its result. -/
def State.bistDid (s : State) (fail ticks : Nat) : State := (s.bistShown fail ticks).allTested fail

def bistRegs : List RF :=
  BST_PU_FAIL_FAIL :: BST_PU_TIME_TICKS :: REF_FENCED_FENCED :: islandList.map ISL_PSTATE_STATE

theorem State.regsOnly_bistDid (s : State) (fail ticks : Nat) : s.regsOnly (s.bistDid fail ticks) bistRegs :=
  (((s.regsOnly_refl _).setF (by simp [bistRegs]) _).setF (by simp [bistRegs]) _).trans
    ((State.regsOnly_allTested _ fail).mono (by simp [bistRegs]))

theorem SYS_BOOT_ne_bist : ∀ r ∈ bistRegs, SYS_BOOT_PHASE.key ≠ r.key ∧ SYS_BOOT_ENGINE.key ≠ r.key := by decide

theorem State.f_bistDid (s : State) (fail ticks : Nat) :
    (s.bistDid fail ticks).f BST_PU_TIME_TICKS = ticks % 2 ^ 32 ∧
      (∀ isl, isIsland isl = true → bit ((s.bistDid fail ticks).f BST_PU_FAIL_FAIL) isl = bit fail isl) ∧
      (s.bistDid fail ticks).f SYS_BOOT_PHASE = s.f SYS_BOOT_PHASE := by
  have hk := (State.regsOnly_allTested (s.bistShown fail ticks) fail).2
  refine ⟨?_, fun isl hi => ?_, (s.regsOnly_bistDid fail ticks).2 _ fun r hr => (SYS_BOOT_ne_bist r hr).1⟩
  · rw [State.bistDid, hk _ (by decide), State.bistShown, State.f_setF_same]
    rfl
  · rw [State.bistDid, hk _ (by decide), s.bistShown_FAIL fail ticks hi]

theorem State.on_BANK_bistShown (s : State) (fail ticks : Nat) :
    (s.bistShown fail ticks).on SYS_STRAPS_BANK = s.on SYS_STRAPS_BANK := by
  rw [State.on, State.bistShown, State.f_setF_ne _ _ _ _ (by decide), State.f_setF_ne _ _ _ _ (by decide), State.on]

/-- The boot ROM begins on engine e, and with it the first round of slices. -/
def State.bootBegun (s : State) (e : Nat) : State := ((s.setF SYS_BOOT_ENGINE e).setF SYS_BOOT_PHASE 1).roundNew

theorem State.bootBegun_spec (s : State) {e : Nat} (he : e < 12) : (s.bootBegun e).f SYS_BOOT_PHASE = 1 ∧
    (s.bootBegun e).f SYS_BOOT_ENGINE = e ∧ (s.bootBegun e).bst.roundAt = s.tim.edges ∧
    s.keeps (s.bootBegun e) [SYS_BOOT_ENGINE, SYS_BOOT_PHASE] := by
  unfold State.bootBegun
  have hk : s.keeps ((s.setF SYS_BOOT_ENGINE e).setF SYS_BOOT_PHASE 1) [SYS_BOOT_ENGINE, SYS_BOOT_PHASE] :=
    ((s.keeps_refl _).setF (by simp) _).setF (by simp) _
  have hp : ((s.setF SYS_BOOT_ENGINE e).setF SYS_BOOT_PHASE 1).f SYS_BOOT_PHASE = 1 := State.f_setF_same ..
  have hE : ((s.setF SYS_BOOT_ENGINE e).setF SYS_BOOT_PHASE 1).f SYS_BOOT_ENGINE = e := by
    rw [State.f_setF_ne _ _ _ _ (by decide), State.f_setF_same]
    exact Nat.mod_eq_of_lt (show e < 16 by omega)
  have ht : ((s.setF SYS_BOOT_ENGINE e).setF SYS_BOOT_PHASE 1).tim = s.tim := (State.setF_tim ..).trans (s.setF_tim ..)
  generalize (s.setF SYS_BOOT_ENGINE e).setF SYS_BOOT_PHASE 1 = w at *
  exact ⟨hp, hE, by rw [← ht]; rfl, hk⟩

theorem PSTATE_STATE_ne_BOOT (isl : Nat) :
    ∀ r ∈ [SYS_BOOT_ENGINE, SYS_BOOT_PHASE], (ISL_PSTATE_STATE isl).key ≠ r.key := by
  have h : ∀ r ∈ [SYS_BOOT_ENGINE, SYS_BOOT_PHASE], r.key / 64 % 0x10000 ≠ 4 := by decide
  exact fun r hr hk => h r hr (hk ▸ PSTATE_STATE_offset isl)

/-- How the test ends: the module holds for an island without which nothing starts, for want of an engine or of the stop
path, or the boot ROM begins. -/
def State.bistEnd (s : State) (fail : Nat) (p : Bool) : State :=
  match (bistFailed fail).find? bistCritical, firstIdx 12 (fun e => !bit fail (0x10 + e)) with
  | some i, _ => s.holdFor i (s.f BST_PU_FAIL_FAIL)
  | none, none => s.holdFor 0x10 (s.f BST_PU_FAIL_FAIL)
  | none, some e =>
    if p = false then s.holdFor iREF (s.f BST_PU_FAIL_FAIL)
    else s.bootBegun e

section
variable {s : State} {fail : Nat}

theorem exec_bist (hh : s.boot.held = false) (hn : s.boot.holding = none) (hp : s.f SYS_BOOT_PHASE = 0) (p : Bool)
    (ticks : Nat) : exec (.powerupBistDone fail p ticks) s = .next ((s.bistDid fail ticks).bistEnd fail p) :=
  congrArg _ (if_neg (by simp [hh, hn, hp]))

theorem exec_bist_none (h : s.boot.held = true ∨ s.boot.holding.isSome = true ∨ s.f SYS_BOOT_PHASE ≠ 0) (p : Bool)
    (ticks : Nat) : exec (.powerupBistDone fail p ticks) s = .next s :=
  congrArg _ (if_pos h)

theorem find_bistCritical (h : ∀ isl : Nat, isIsland isl = true → bistCritical isl = true → bit fail isl = false) :
    (bistFailed fail).find? bistCritical = none := by
  refine List.find?_eq_none.2 fun i hi hc => ?_
  obtain ⟨hl, hb⟩ := List.mem_filter.1 hi
  rw [h i (List.mem_filter.1 hl).2 hc] at hb
  exact absurd hb Bool.false_ne_true

theorem find_engine_none (h : ∀ j < 12, bit fail (0x10 + j) = true) :
    firstIdx 12 (fun e => !bit fail (0x10 + e)) = none :=
  List.find?_range_eq_none.2 fun j hj => by simp [h j hj]

theorem find_engine {e : Nat} (he : e < 12) (hf : bit fail (0x10 + e) = false)
    (hj : ∀ j < e, bit fail (0x10 + j) = true) : firstIdx 12 (fun e => !bit fail (0x10 + e)) = some e :=
  List.find?_range_eq_some.2 ⟨by simp [hf], List.mem_range.2 he, fun j h => by simp [hj j h]⟩

/-- Without a failed island that the start needs, on the lowest engine that passed. -/
theorem bist_starts (hh : s.boot.held = false) (hn : s.boot.holding = none) (hp : s.f SYS_BOOT_PHASE = 0)
    (hc : ∀ isl : Nat, isIsland isl = true → bistCritical isl = true → bit fail isl = false) {e : Nat} (he : e < 12)
    (hf : bit fail (0x10 + e) = false) (hj : ∀ j < e, bit fail (0x10 + j) = true) (ticks : Nat) :
    ∃ t : State, exec (.powerupBistDone fail true ticks) s = .next t ∧ t.f SYS_BOOT_PHASE = 1 ∧ t.f SYS_BOOT_ENGINE = e ∧
      t.f BST_PU_TIME_TICKS = ticks % 2 ^ 32 ∧ t.bst.roundAt = s.tim.edges ∧
      (∀ isl : Nat, isIsland isl = true → bit (t.f BST_PU_FAIL_FAIL) isl = bit fail isl ∧
        (bit fail isl = true → t.ist isl = 5 ∧ bit (t.f REF_FENCED_FENCED) isl = true) ∧
        (bit fail isl = false → t.ist isl = if 0x2E ≤ isl ∧ s.on SYS_STRAPS_BANK = true then 0 else 3)) ∧
      s.keeps t ([BST_PU_FAIL_FAIL, BST_PU_TIME_TICKS, REF_FENCED_FENCED, SYS_BOOT_ENGINE, SYS_BOOT_PHASE] ++
        islandList.map ISL_PSTATE_STATE) := by
  have hd := s.regsOnly_bistDid fail ticks
  obtain ⟨hticks, hfail, -⟩ := s.f_bistDid fail ticks
  have hfen : ∀ isl, isIsland isl = true → bit fail isl = true → (s.bistDid fail ticks).isFenced isl := fun isl hi hb =>
    State.isFenced_allTested _ hi hb (by
      by_contra hcr
      rw [hc isl hi (by simpa using hcr)] at hb
      exact absurd hb Bool.false_ne_true)
  have hist : ∀ isl, isIsland isl = true → bit fail isl = false →
      (s.bistDid fail ticks).ist isl = if 0x2E ≤ isl ∧ s.on SYS_STRAPS_BANK = true then 0 else 3 := fun isl hi hb => by
    rw [State.bistDid, State.ist_allTested _ hi hb, State.on_BANK_bistShown]
  rw [exec_bist hh hn hp]
  generalize s.bistDid fail ticks = z at *
  have hz : z.bistEnd fail true = z.bootBegun e := by
    rw [State.bistEnd, find_bistCritical hc, find_engine he hf hj]
    rfl
  obtain ⟨hph, hen, hra, hk⟩ := z.bootBegun_spec he
  have hst : ∀ isl, (z.bootBegun e).ist isl = z.ist isl := fun isl => hk.f_eq (PSTATE_STATE_ne_BOOT isl)
  have hdk := hd.keeps
  obtain ⟨⟨g, hg⟩, -⟩ := hd
  have htim : z.tim = s.tim := by rw [hg]
  rw [hz]
  refine ⟨_, rfl, hph, hen, (hk.f_eq (by decide)).trans hticks, by rw [hra, htim], fun isl hi => ⟨?_, fun hb => ?_,
    fun hb => (hst isl).trans (hist isl hi hb)⟩, (hdk.mono fun r hr => ?_).trans (hk.mono (by simp))⟩
  · rw [hk.f_eq (by decide)]
    exact hfail isl hi
  · obtain ⟨h5, hsh⟩ := hfen isl hi hb
    exact ⟨(hst isl).trans h5, by rw [hk.f_eq (by decide)]; exact hsh⟩
  · simp only [bistRegs, List.mem_cons, List.mem_append] at hr ⊢
    tauto

theorem State.bistEnd_critical {i : Nat} (hf : (bistFailed fail).find? bistCritical = some i) (p : Bool) :
    s.bistEnd fail p = s.holdFor i (s.f BST_PU_FAIL_FAIL) := by
  rw [State.bistEnd, hf]

theorem State.bistEnd_engines (hc : ∀ isl : Nat, isIsland isl = true → bistCritical isl = true → bit fail isl = false)
    (hj : ∀ j < 12, bit fail (0x10 + j) = true) (p : Bool) :
    s.bistEnd fail p = s.holdFor 0x10 (s.f BST_PU_FAIL_FAIL) := by
  rw [State.bistEnd, find_bistCritical hc, find_engine_none hj]

theorem State.bistEnd_stopPath (hc : ∀ isl : Nat, isIsland isl = true → bistCritical isl = true → bit fail isl = false)
    (hj : ∃ j < 12, bit fail (0x10 + j) = false) : s.bistEnd fail false = s.holdFor iREF (s.f BST_PU_FAIL_FAIL) := by
  obtain ⟨j, hj, hb⟩ := hj
  rw [State.bistEnd, find_bistCritical hc]
  cases he : firstIdx 12 (fun e => !bit fail (0x10 + e)) with
  | some e => rfl
  | none =>
    have h := List.find?_range_eq_none.1 he j hj
    simp [hb] at h

/-- The module holds: what the test says of it. -/
theorem bist_holds (hh : s.boot.held = false) (hn : s.boot.holding = none) (hp : s.f SYS_BOOT_PHASE = 0) {p : Bool}
    {isl : Nat} (he : ∀ z : State, z.bistEnd fail p = z.holdFor isl (z.f BST_PU_FAIL_FAIL)) (ticks : Nat) :
    ∃ t : State, exec (.powerupBistDone fail p ticks) s = .next t ∧ t.boot.holding = some cINTEGRITY ∧
      t.cell.valid = true ∧ t.cell.kind = 3 ∧ t.cell.status = cINTEGRITY ∧ t.cell.cause = 5 ∧ t.cell.isl = isl ∧
      t.cell.failMap = t.f BST_PU_FAIL_FAIL ∧ t.f SYS_BOOT_PHASE = 0 := by
  obtain ⟨-, -, hph⟩ := s.f_bistDid fail ticks
  rw [exec_bist hh hn hp, he]
  generalize s.bistDid fail ticks = z at *
  obtain ⟨hb, hc, hk⟩ := z.holdFor_spec isl (z.f BST_PU_FAIL_FAIL)
  have hf := fun q => hk.f_eq (q := q) (by simp)
  exact ⟨_, rfl, hb, by rw [hc], by rw [hc], by rw [hc], by rw [hc], by rw [hc], by rw [hc, hf],
    (hf _).trans (hph.trans hp)⟩

theorem bist_critical (hh : s.boot.held = false) (hn : s.boot.holding = none) (hp : s.f SYS_BOOT_PHASE = 0)
    (hc : ∃ isl : Nat, isIsland isl = true ∧ bistCritical isl = true ∧ bit fail isl = true) (p : Bool) (ticks : Nat) :
    ∃ t : State, exec (.powerupBistDone fail p ticks) s = .next t ∧ t.boot.holding = some cINTEGRITY ∧
      t.cell.valid = true ∧ t.cell.kind = 3 ∧ t.cell.cause = 5 ∧ bistCritical t.cell.isl = true ∧
      bit fail t.cell.isl = true ∧ t.cell.failMap = t.f BST_PU_FAIL_FAIL ∧ t.f SYS_BOOT_PHASE = 0 := by
  obtain ⟨isl, hi, hcr, hb⟩ := hc
  cases hf : (bistFailed fail).find? bistCritical with
  | none => exact absurd hcr (List.find?_eq_none.1 hf isl ((mem_bistFailed hi).2 hb))
  | some i =>
    obtain ⟨t, ht, hb, hv, hk, -, hc, rfl, hm, hph⟩ := bist_holds hh hn hp (fun _ => State.bistEnd_critical hf p) ticks
    exact ⟨t, ht, hb, hv, hk, hc, List.find?_some hf, (List.mem_filter.1 (List.mem_of_find?_eq_some hf)).2, hm, hph⟩

end

/-! ### The boot ROM's check of the loader (R577) -/

/-- From s to t UPD alone changed. -/
structure State.updOnly (s t : State) : Prop where
  mem : t.mem = s.mem
  eng : t.eng = s.eng
  boot : t.boot = s.boot
  f : ∀ q : RF, q.key / 64 / 0x10000 ≠ 0x20000 + iUPD → t.f q = s.f q

theorem State.updOnly.refl (s : State) : s.updOnly s := ⟨rfl, rfl, rfl, fun _ _ => rfl⟩

theorem State.updOnly.setF {s t : State} (h : s.updOnly t) {r : RF} (hr : r.key / 64 / 0x10000 = 0x20000 + iUPD) (v : Nat) :
    s.updOnly (t.setF r v) :=
  ⟨h.mem, h.eng, h.boot, fun q hq => (t.f_setF_ne r q v fun hk => hq (by rw [hk, hr])).trans (h.f q hq)⟩

/-- UPD takes its state from the update journal. -/
theorem State.updOnly_updLoad (s : State) : s.updOnly s.updLoad := by
  unfold State.updLoad
  split
  · exact .refl s
  · extract_lets st s₁ txn fl s₂ ds
    have h₁ : s.updOnly s₁ :=
      (((((((State.updOnly.refl s).setF (by decide) _).setF (by decide) _).setF (by decide) _).setF (by decide) _).setF
        (by decide) _).setF (by decide) _).setF (by decide) _
    clear_value s₁
    have h₂ : s.updOnly s₂ := (h₁.setF (by decide) _).setF (by decide) _
    clear_value s₂
    exact ⟨h₂.mem, h₂.eng, h₂.boot, h₂.f⟩

theorem loaderCheck_ok {s : State} (hp : s.f SYS_BOOT_PHASE = 1) (hn : s.boot.holding = none) :
    ∃ t : State, exec (.loaderCheckDone true) s = .next t ∧ t.f SYS_BOOT_PHASE = 2 ∧ t.mem = s.mem ∧ t.eng = s.eng ∧
      t.boot = s.boot ∧
      ∀ q : RF, q.key ≠ SYS_BOOT_PHASE.key → q.key / 64 / 0x10000 ≠ 0x20000 + iUPD → t.f q = s.f q := by
  have he : exec (.loaderCheckDone true) s = .next (s.setF SYS_BOOT_PHASE 2).updLoad :=
    congrArg _ (if_neg (by simp [hp, hn]))
  have hu := (s.setF SYS_BOOT_PHASE 2).updOnly_updLoad
  refine ⟨_, he, (hu.f _ (by decide)).trans (State.f_setF_same ..), hu.mem.trans (s.setF_mem ..),
    hu.eng.trans (s.setF_eng ..), hu.boot.trans (s.setF_boot ..), fun q hq hb => (hu.f q hb).trans (s.f_setF_ne _ _ _ hq)⟩

theorem loaderCheck_fails {s : State} (hp : s.f SYS_BOOT_PHASE = 1) (hn : s.boot.holding = none) :
    ∃ t : State, exec (.loaderCheckDone false) s = .next t ∧ t.boot.holding = some cINTEGRITY ∧ t.cell.valid = true ∧
      t.cell.kind = 3 ∧ t.cell.isl = iUPD ∧ t.cell.failMap = 2 ^ iUPD ∧ s.keeps t [] := by
  have he : exec (.loaderCheckDone false) s = .next (s.holdFor iUPD (2 ^ iUPD)) :=
    congrArg _ (if_neg (by simp [hp, hn]))
  obtain ⟨hb, hc, hk⟩ := s.holdFor_spec iUPD (2 ^ iUPD)
  refine ⟨_, he, hb, ?_, ?_, ?_, ?_, hk⟩ <;> rw [hc]

theorem loaderCheck_none {s : State} (h : s.f SYS_BOOT_PHASE ≠ 1 ∨ s.boot.holding.isSome = true) (b : Bool) :
    exec (.loaderCheckDone b) s = .next s :=
  congrArg _ (if_pos h)

/-! ### The loader (R501, R514, R516, R575, R576) -/

theorem State.drop_rdBytes (s : State) (a n k : Nat) : (s.rdBytes a n).drop k = s.rdBytes (a + k) (n - k) := by
  induction k generalizing a n with
  | zero => rfl
  | succ k ih =>
    cases n with
    | zero => simp [State.rdBytes]
    | succ n =>
      rw [State.rdBytes, List.drop_succ_cons, ih, Nat.add_assoc, Nat.add_comm 1 k, Nat.add_sub_add_right]

theorem State.take_rdBytes (s : State) {n k : Nat} (h : k ≤ n) (a : Nat) : (s.rdBytes a n).take k = s.rdBytes a k := by
  induction k generalizing a n with
  | zero => rfl
  | succ k ih =>
    cases n with
    | zero => omega
    | succ n => rw [State.rdBytes, List.take_succ_cons, ih (by omega), State.rdBytes]

/-- A number among bytes that were read is the number in memory. -/
theorem State.fld_rdBytes (s : State) {n o k : Nat} (h : o + k ≤ n) (a : Nat) :
    fld (s.rdBytes a n) o k = s.rd (a + o) k := by
  rw [fld, State.drop_rdBytes, State.take_rdBytes s (by omega), State.rd]

theorem State.length_rdBytes (s : State) (a n : Nat) : (s.rdBytes a n).length = n := by
  induction n generalizing a with
  | zero => rfl
  | succ n ih => rw [State.rdBytes, List.length_cons, ih]

/-- SRAM and LPDDR take a part of the image. -/
theorem blockIn_partPlace {a n : Nat} (h : blockIn a n false = true) : (match regionOf a n with
    | .sram => true
    | .localSram _ => true
    | .lpddr _ => true
    | _ => false) = true := by
  revert h
  unfold blockIn
  cases regionOf a n <;> simp

/-- A piece of one of the module's own parts goes to its place. -/
theorem State.partCopy_places {s : State} {m : List Byte} {j o n a : Nat} (hj : j < fld m 6 1)
    (hm : bit (fld (partOf m j) 2 2) s.pos' = true) (hn : o + n ≤ fld (partOf m j) 12 4) (hl : n ≤ 100663296)
    (hb : blockIn a n false = true) :
    s.partCopy m (j, o, n, a) = s.wrBytes a (s.rdBytes (aImage + fld (partOf m j) 8 4 + o) n) := by
  have hmin : min n (fld (partOf m j) 12 4 - o) = n := by omega
  have hp := blockIn_partPlace hb
  unfold State.partCopy
  simp only [hmin, hm, hj, hl, decide_true, Bool.true_and, Bool.and_true]
  exact if_pos hp

/-- The loader once the trial boot is settled: the image is checked, and its pieces go to their places. -/
def State.loaderRest (s : State) (segs : List (Nat × Nat × Nat × Nat)) : State :=
  let c := s.verifyCheck aImage s.pos'
  if c ≠ cOK then (if s.updSt = 8 then s.trialEnd false c else s.loaderStay c)
  else if segs.any (fun g => s.ist (ownerOf g.2.2.2) == 5) then s.loaderStay cFENCED
  else
    let m := s.rdBytes aImage 4096
    let s := segs.foldl (fun s g => s.partCopy m g) s
    if s.on SYS_STRAPS_HOLD then s.setBoot (fun b => { b with stay := true })
    else
      let v := match (manifestParts m).find? (fun e => fld e 0 1 == 1 && bit (fld e 2 2) s.pos') with
        | some e => fld e 4 4
        | none => 0
      (s.setF UPD_VERSION_ENGINE v).setF SYS_BOOT_PHASE 3

theorem exec_loaderDone (segs : List (Nat × Nat × Nat × Nat)) (s : State) : exec (.loaderDone segs) s =
    .next (if s.f SYS_BOOT_PHASE ≠ 2 ∨ s.boot.stay = true ∨ s.boot.holding.isSome = true ∨
        [3, 6, 9, 10].contains s.updSt = true then s
      else if s.trialBoot.1 = false then s.trialBoot.2 else s.trialBoot.2.loaderRest segs) := rfl

theorem loaderDone_none {s : State} (h : s.f SYS_BOOT_PHASE ≠ 2 ∨ s.boot.stay = true)
    (segs : List (Nat × Nat × Nat × Nat)) : exec (.loaderDone segs) s = .next s := by
  rw [exec_loaderDone, if_pos (by tauto)]

theorem State.loaderStay_spec (s : State) (c : Nat) : (s.loaderStay c).boot = { s.boot with stay := true } ∧
    (s.loaderStay c).f UPD_STATUS_LAST_STATUS = c % 2 ^ 8 ∧ s.keeps (s.loaderStay c) [UPD_STATUS_LAST_STATUS] := by
  unfold State.loaderStay
  have hb : (s.setF UPD_STATUS_LAST_STATUS c).boot = s.boot := s.setF_boot ..
  have hf : (s.setF UPD_STATUS_LAST_STATUS c).f UPD_STATUS_LAST_STATUS = c % 2 ^ 8 := State.f_setF_same ..
  have hk : s.keeps (s.setF UPD_STATUS_LAST_STATUS c) [UPD_STATUS_LAST_STATUS] := (s.keeps_refl _).setF (by simp) _
  generalize s.setF UPD_STATUS_LAST_STATUS c = z at *
  exact ⟨by rw [← hb]; rfl, hf, hk⟩

/-- The image may start: RESTORE follows. -/
theorem State.imageChecked_spec (s : State) (v : Nat) :
    ((s.setF UPD_VERSION_ENGINE v).setF SYS_BOOT_PHASE 3).f SYS_BOOT_PHASE = 3 ∧
      ((s.setF UPD_VERSION_ENGINE v).setF SYS_BOOT_PHASE 3).boot = s.boot ∧
      s.keeps ((s.setF UPD_VERSION_ENGINE v).setF SYS_BOOT_PHASE 3) [SYS_BOOT_PHASE, UPD_VERSION_ENGINE] :=
  ⟨State.f_setF_same .., (State.setF_boot ..).trans (s.setF_boot ..),
    ((s.keeps_refl _).setF (by simp) _).setF (by simp) _⟩

section
variable {s : State} {segs : List (Nat × Nat × Nat × Nat)}

/-- Between updates the loader goes straight to the check. -/
theorem exec_loaderDone_idle (hp : s.f SYS_BOOT_PHASE = 2) (hs : s.boot.stay = false) (hn : s.boot.holding = none)
    (h6 : s.updSt < 6) (h3 : s.updSt ≠ 3) : exec (.loaderDone segs) s = .next (s.loaderRest segs) := by
  have ht : s.trialBoot = (true, s) := by
    rw [State.trialBoot, if_neg (by omega), if_neg (by omega)]
  have hc : [3, 6, 9, 10].contains s.updSt = false := by
    simp only [List.contains_cons, List.contains_nil, Bool.or_false, Bool.or_eq_false_iff, beq_eq_false_iff_ne]
    omega
  rw [exec_loaderDone, ht, if_neg (by simp only [hp, hs, hn, hc]; simp)]
  exact congrArg _ (if_neg (by simp))

theorem State.loaderRest_bad (hc : s.verifyCheck aImage s.pos' ≠ cOK) (h6 : s.updSt < 6) :
    s.loaderRest segs = s.loaderStay (s.verifyCheck aImage s.pos') := by
  unfold State.loaderRest
  rw [if_pos hc, if_neg (by omega)]

theorem State.loaderRest_fenced (hc : s.verifyCheck aImage s.pos' = cOK) (hf : ∃ g ∈ segs, s.ist (ownerOf g.2.2.2) = 5) :
    s.loaderRest segs = s.loaderStay cFENCED := by
  unfold State.loaderRest
  rw [if_neg (not_not.2 hc), if_pos (by simpa using hf)]

/-- The pieces of the image at their places. -/
def State.placed (s : State) (segs : List (Nat × Nat × Nat × Nat)) : State :=
  segs.foldl (fun t g => t.partCopy (s.rdBytes aImage 4096) g) s

theorem State.loaderRest_hold (hc : s.verifyCheck aImage s.pos' = cOK) (hf : ∀ g ∈ segs, s.ist (ownerOf g.2.2.2) ≠ 5)
    (hh : (s.placed segs).on SYS_STRAPS_HOLD = true) :
    s.loaderRest segs = (s.placed segs).setBoot (fun b => { b with stay := true }) := by
  unfold State.loaderRest
  rw [if_neg (not_not.2 hc), if_neg (by simpa using hf)]
  exact if_pos hh

theorem State.loaderRest_runs (hc : s.verifyCheck aImage s.pos' = cOK) (hf : ∀ g ∈ segs, s.ist (ownerOf g.2.2.2) ≠ 5)
    (hh : (s.placed segs).on SYS_STRAPS_HOLD = false) :
    ∃ v, s.loaderRest segs = ((s.placed segs).setF UPD_VERSION_ENGINE v).setF SYS_BOOT_PHASE 3 := by
  unfold State.loaderRest
  rw [if_neg (not_not.2 hc), if_neg (by simpa using hf)]
  exact ⟨_, if_neg (by rw [← State.placed, hh]; exact Bool.false_ne_true)⟩

/-- The hypotheses under which the loader's check settles what happens. -/
def State.loaderIdle (s : State) : Prop :=
  s.f SYS_BOOT_PHASE = 2 ∧ s.boot.stay = false ∧ s.boot.holding = none ∧ s.updSt < 6 ∧ s.updSt ≠ 3

theorem State.loaderIdle.exec (h : s.loaderIdle) : exec (.loaderDone segs) s = .next (s.loaderRest segs) := by
  obtain ⟨hp, hs, hn, h6, h3⟩ := h
  exact exec_loaderDone_idle hp hs hn h6 h3

theorem loaderDone_bad (hi : s.loaderIdle) (hc : s.verifyCheck aImage s.pos' ≠ cOK) :
    ∃ t : State, exec (.loaderDone segs) s = .next t ∧ t.boot = { s.boot with stay := true } ∧
      t.f UPD_STATUS_LAST_STATUS = s.verifyCheck aImage s.pos' % 2 ^ 8 ∧ s.keeps t [UPD_STATUS_LAST_STATUS] := by
  have ⟨_, _, _, h6, _⟩ := hi
  rw [hi.exec, State.loaderRest_bad hc h6]
  exact ⟨_, rfl, s.loaderStay_spec _⟩

theorem loaderDone_fenced (hi : s.loaderIdle) (hc : s.verifyCheck aImage s.pos' = cOK)
    (hf : ∃ g ∈ segs, s.ist (ownerOf g.2.2.2) = 5) :
    ∃ t : State, exec (.loaderDone segs) s = .next t ∧ t.boot = { s.boot with stay := true } ∧
      t.f UPD_STATUS_LAST_STATUS = cFENCED ∧ s.keeps t [UPD_STATUS_LAST_STATUS] := by
  rw [hi.exec, State.loaderRest_fenced hc hf]
  exact ⟨_, rfl, s.loaderStay_spec cFENCED⟩

theorem loaderDone_hold (hi : s.loaderIdle) (hc : s.verifyCheck aImage s.pos' = cOK) (hh : s.on SYS_STRAPS_HOLD = true) :
    ∃ t : State, exec (.loaderDone []) s = .next t ∧ t.boot = { s.boot with stay := true } ∧ s.keeps t [] := by
  rw [hi.exec, State.loaderRest_hold (segs := []) hc (by simp) hh]
  exact ⟨_, rfl, rfl, rfl, rfl, fun _ _ => rfl⟩

theorem loaderDone_runs (hi : s.loaderIdle) (hc : s.verifyCheck aImage s.pos' = cOK) (hh : s.on SYS_STRAPS_HOLD = false) :
    ∃ t : State, exec (.loaderDone []) s = .next t ∧ t.f SYS_BOOT_PHASE = 3 ∧ t.boot = s.boot ∧
      s.keeps t [SYS_BOOT_PHASE, UPD_VERSION_ENGINE] := by
  obtain ⟨v, hv⟩ := State.loaderRest_runs (s := s) (segs := []) hc (by simp) hh
  rw [hi.exec, hv]
  exact ⟨_, rfl, s.imageChecked_spec v⟩

theorem loaderDone_places {j o n a : Nat} (hi : s.loaderIdle) (hc : s.verifyCheck aImage s.pos' = cOK)
    (hh : s.on SYS_STRAPS_HOLD = false) (hf : s.ist (ownerOf a) ≠ 5) {e : List Byte}
    (he : e = partOf (s.rdBytes aImage 4096) j) (hj : j < s.rd (aImage + 6) 1) (hm : bit (fld e 2 2) s.pos' = true)
    (hn : o + n ≤ fld e 12 4) (hl : n ≤ 100663296) (hb : blockIn a n false = true) :
    ∃ t : State, exec (.loaderDone [(j, o, n, a)]) s = .next t ∧ t.f SYS_BOOT_PHASE = 3 ∧
      t.rdBytes a n = s.rdBytes (aImage + fld e 8 4 + o) n ∧ s.outside t [(a, n)] ∧
      s.alters t [SYS_BOOT_PHASE, UPD_VERSION_ENGINE] := by
  subst he
  have hp : s.placed [(j, o, n, a)] = s.wrBytes a (s.rdBytes (aImage + fld (partOf (s.rdBytes aImage 4096) j) 8 4 + o) n) :=
    State.partCopy_places (by rwa [State.fld_rdBytes s (by omega)]) hm hn hl hb
  have hlen := s.length_rdBytes (aImage + fld (partOf (s.rdBytes aImage 4096) j) 8 4 + o) n
  generalize s.rdBytes (aImage + fld (partOf (s.rdBytes aImage 4096) j) 8 4 + o) n = bs at *
  have hf' : ∀ q, (s.wrBytes a bs).f q = s.f q := fun q => s.f_congr _ q (s.regs_wrBytes a bs)
  obtain ⟨v, hv⟩ := State.loaderRest_runs (s := s) (segs := [(j, o, n, a)]) hc (by simpa using hf)
    (by rw [hp, State.on, hf', ← State.on, hh])
  rw [hp] at hv
  obtain ⟨hph, -, hm, he, hk⟩ := (s.wrBytes a bs).imageChecked_spec v
  rw [hi.exec, hv]
  refine ⟨_, rfl, hph, ?_, fun c hc => ?_, he.trans (s.eng_wrBytes a bs), fun q hq => (hk q hq).trans (hf' q)⟩
  · subst hlen
    rw [State.rdBytes_congr _ _ _ _ hm, State.rdBytes_wrBytes]
  · rw [State.rdB_congr _ _ _ hm]
    exact s.rdB_wrBytes_out a c bs (by simpa [hlen] using hc)

end

/-! ### RESTORE (R54, R555) -/

/-- From s to t the engines, the last-breath cell, the journal and the registers of l are as they were. -/
structure State.sameFor (s t : State) (l : List RF) : Prop where
  eng : t.eng = s.eng
  cell : t.cell = s.cell
  memc : t.memc = s.memc
  f : ∀ q ∈ l, t.f q = s.f q

theorem State.sameFor.refl (s : State) (l : List RF) : s.sameFor s l := ⟨rfl, rfl, rfl, fun _ _ => rfl⟩

theorem State.sameFor.trans {s t u : State} {l : List RF} (h : s.sameFor t l) (k : t.sameFor u l) : s.sameFor u l :=
  ⟨k.eng.trans h.eng, k.cell.trans h.cell, k.memc.trans h.memc, fun q hq => (k.f q hq).trans (h.f q hq)⟩

theorem State.sameFor.setF {s t : State} {l : List RF} (h : s.sameFor t l) {r : RF} (hr : ∀ q ∈ l, q.key ≠ r.key) (v : Nat) :
    s.sameFor (t.setF r v) l :=
  ⟨h.eng, h.cell, h.memc, fun q hq => (t.f_setF_ne r q v (hr q hq)).trans (h.f q hq)⟩

theorem State.sameFor.inc {s t : State} {l : List RF} (h : s.sameFor t l) {r : RF} (hr : ∀ q ∈ l, q.key ≠ r.key) :
    s.sameFor (t.inc r) l :=
  h.setF hr _

theorem State.sameFor.setScb {s t : State} {l : List RF} (h : s.sameFor t l) (g : ScbSt → ScbSt) :
    s.sameFor (t.setScb g) l :=
  ⟨h.eng, h.cell, h.memc, h.f⟩

theorem State.sameFor_foldl {α : Type} {f : State → α → State} {l : List RF} (hf : ∀ (s : State) a, s.sameFor (f s a) l)
    (as : List α) (s : State) : s.sameFor (as.foldl f s) l :=
  List.foldlRecOn (motive := fun t => s.sameFor t l) as _ (.refl s l) fun t ht a _ => ht.trans (hf t a)

/-- What tells whether SCB takes a record, the phase, and what BOOT says of the test. -/
def restoreRegs : List RF := [BST_PU_FAIL_FAIL, SYS_BOOT_PHASE, ISL_PSTATE_STATE iSCB, SCB_STATUS_LOGFAIL]

/-- The registers of HST and TAL lie after them. -/
theorem restoreRegs_ne {r : RF} (hr : 0x0200260000 * 64 ≤ r.key) : ∀ q ∈ restoreRegs, q.key ≠ r.key := by
  have h : ∀ q ∈ restoreRegs, q.key < 0x0200260000 * 64 := by decide
  exact fun q hq hk => absurd (hk ▸ h q hq) (by omega)

theorem State.sameFor_sessionLoad (s : State) : s.sameFor s.sessionLoad restoreRegs := by
  unfold State.sessionLoad
  refine State.sameFor_foldl (fun t k => ?_) _ s
  extract_lets b v
  refine ((((State.sameFor.refl t restoreRegs).setF (restoreRegs_ne ?_) _).setF (restoreRegs_ne ?_) _).setF
    (restoreRegs_ne ?_) _).setF (restoreRegs_ne ?_) _ <;>
    simp only [RF.key, HST_SESSION_s_SESSION, HST_SESSION_s_H, HST_SESSION_FLOW_s_VALID, HST_SESSION_FLOW_s_FLOW] <;>
    omega

/-- The journal of a ring without a valid pointer. -/
def State.emptied (s : State) : State :=
  { s with memc := { s.memc with live := [], head := 0, lap := 0, tail := 0, tailLap := 0, ptrSeq := 0 } }

theorem State.tailAdvance_nil {s : State} (h : s.memc.live = []) : s.tailAdvance = s := by
  unfold State.tailAdvance
  simp [h, dropRetired]

def State.withCan (s : State) (c : CanSt) : State := { s with can := c }

theorem State.sameFor_withCan (s : State) (c : CanSt) (l : List RF) : s.sameFor (s.withCan c) l :=
  ⟨rfl, rfl, rfl, fun _ _ => rfl⟩

/-- Without a ring pointer there is nothing to rebuild. -/
theorem State.journalRestore_none {s : State} (h : s.ringPointer = none) :
    ∃ c, s.journalRestore = s.emptied.sessionLoad.withCan c := by
  unfold State.journalRestore
  extract_lets p r live _ s₁ s₂ s₃ s₄ s₅ _ s₆
  have hp : p = (0, 0, 0) := by simp [p, h]
  have hr : r = ([], 0, 0) := by simp [r, h]
  have hl : live = [] := by simp [live, hr, ringRetire]
  have h₁ : s₁ = s.emptied := by
    unfold s₁
    rw [hl, hr, hp, h]
    rfl
  clear_value s₁ live
  subst hl
  have h₅ : s₅ = s.emptied.sessionLoad := by rw [← h₁]; rfl
  have hlive : s₅.memc.live = [] := by rw [h₅, s.emptied.sameFor_sessionLoad.memc]; rfl
  clear_value s₅
  subst h₅
  exact ⟨_, State.tailAdvance_nil (s := s₆) hlive⟩

theorem State.sameFor_journalRestore {s : State} (h : s.ringPointer = none) :
    s.emptied.sameFor s.journalRestore restoreRegs := by
  obtain ⟨c, hc⟩ := State.journalRestore_none h
  rw [hc]
  exact s.emptied.sameFor_sessionLoad.trans (State.sameFor_withCan _ c _)

/-! ### TAL restores its totals (R440) -/

/-- SCB takes records. -/
def State.scbTakes (s : State) : Prop := s.ist iSCB ≠ 0 ∧ s.ist iSCB ≠ 5 ∧ s.on SCB_STATUS_LOGFAIL = false

theorem State.sameFor.scbTakes {s t : State} (h : s.sameFor t restoreRegs) (hs : s.scbTakes) : t.scbTakes := by
  have hi : t.ist iSCB = s.ist iSCB := h.f _ (by simp [restoreRegs])
  have hl : t.on SCB_STATUS_LOGFAIL = s.on SCB_STATUS_LOGFAIL := by
    rw [State.on, h.f _ (by simp [restoreRegs]), State.on]
  unfold State.scbTakes
  rwa [hi, hl]

theorem restoreRegs_ne_DROPPED : ∀ q ∈ restoreRegs, q.key ≠ SCB_DROPPED_COUNT.key := by decide

theorem State.sameFor_stageRec {s : State} (h : s.scbTakes) (r : ScbRec) : s.sameFor (s.stageRec r) restoreRegs := by
  obtain ⟨h0, h5, hl⟩ := h
  unfold State.stageRec
  rw [if_neg (by simp [h0, h5]), hl, if_neg Bool.false_ne_true]
  split
  · exact ⟨rfl, rfl, rfl, fun _ _ => rfl⟩
  split
  · exact ⟨rfl, rfl, rfl, fun _ _ => rfl⟩
  · refine State.sameFor.inc ?_ restoreRegs_ne_DROPPED
    exact ⟨rfl, rfl, rfl, fun _ _ => rfl⟩

theorem State.sameFor_stage {s : State} (h : s.scbTakes) (typ : Nat) (args : List Nat) :
    s.sameFor (s.stage typ args) restoreRegs := by
  have hk := State.sameFor_stageRec (s := { s with fresh := s.fresh + 1 }) h
    ⟨typ, s.now, (s.free 8).1, false, args.flatMap (leBytes 8)⟩
  exact ⟨hk.eng, hk.cell, hk.memc, hk.f⟩

/-- What the restoring of an accumulator writes. -/
def talRestoreRegs (i : Nat) : List RF :=
  [TAL_TQi_FWD_FWD i, TAL_TQi_REV_REV i, TAL_TQi_NET_NET i, TAL_TQi_LATCH_SEQ i, TAL_TQi_SAVE_SAVE_SEQ i]

theorem talRestoreRegs_ne {i : Nat} {r : RF} (hr : r ∈ talRestoreRegs i) : ∀ q ∈ restoreRegs, q.key ≠ r.key := by
  refine restoreRegs_ne ?_
  simp only [talRestoreRegs, List.mem_cons, List.not_mem_nil, or_false] at hr
  rcases hr with rfl | rfl | rfl | rfl | rfl <;>
    simp only [RF.key, TAL_TQi_FWD_FWD, TAL_TQi_REV_REV, TAL_TQi_NET_NET, TAL_TQi_LATCH_SEQ, TAL_TQi_SAVE_SAVE_SEQ] <;>
    omega

theorem State.sameFor_talRestore1 {s : State} (h : s.scbTakes) (i : Nat) : s.sameFor (s.talRestore1 i) restoreRegs := by
  unfold State.talRestore1
  split
  · have hf := (State.sameFor.refl s restoreRegs).setF (restoreRegs_ne (r := TAL_STATUS_RESTORE_FAIL) (by decide)) 1
    exact hf.trans (State.sameFor_stage (hf.scbTakes h) _ _)
  · extract_lets s₁ s₂ pairs _ s₃ flags kind m fr r
    have h₁ : s.sameFor s₁ restoreRegs :=
      (((State.sameFor.refl s _).setF (talRestoreRegs_ne (i := i) (by simp [talRestoreRegs])) _).setF
        (talRestoreRegs_ne (i := i) (by simp [talRestoreRegs])) _).setF
          (talRestoreRegs_ne (i := i) (by simp [talRestoreRegs])) _
    clear_value s₁
    have h₂ : s.sameFor s₂ restoreRegs :=
      (h₁.setF (talRestoreRegs_ne (i := i) (by simp [talRestoreRegs])) _).setF
        (talRestoreRegs_ne (i := i) (by simp [talRestoreRegs])) _
    clear_value s₂
    have h₃ : s.sameFor s₃ restoreRegs := ⟨h₂.eng, h₂.cell, h₂.memc, h₂.f⟩
    clear_value s₃
    have hr : s.sameFor r.2 restoreRegs := by
      unfold r
      split
      · exact h₃
      split
      · exact h₃
      · exact ⟨h₃.eng, h₃.cell, h₃.memc, h₃.f⟩
    clear_value r
    split
    · exact h₃
    · exact hr.trans (State.sameFor_stage (hr.scbTakes h) _ _)

theorem State.sameFor_talRestore {s : State} (h : s.scbTakes) : s.sameFor s.talRestore restoreRegs := by
  have h₁ : s.sameFor (s.setF TAL_STATUS_RESTORED 1) restoreRegs :=
    (State.sameFor.refl s _).setF (restoreRegs_ne (by decide)) 1
  exact List.foldlRecOn (motive := fun t => s.sameFor t restoreRegs) _ _ h₁ fun t ht i _ =>
    ht.trans (State.sameFor_talRestore1 (ht.scbTakes h) i)

/-! ### BOOT (R528, R555) -/

/-- What BOOT says of the test, and the phase. -/
def bootRegs : List RF := [BST_PU_FAIL_FAIL, SYS_BOOT_PHASE]

theorem bootRegs_ne {r : RF} (hr : 0x0200040000 * 64 ≤ r.key) : ∀ q ∈ bootRegs, q.key ≠ r.key := by
  have h : ∀ q ∈ bootRegs, q.key < 0x0200040000 * 64 := by decide
  exact fun q hq hk => absurd (hk ▸ h q hq) (by omega)

theorem State.sameFor_scbOpen (s : State) (r : Nat) : s.sameFor (s.scbOpen r) bootRegs := by
  unfold State.scbOpen
  extract_lets s₁ p l more wr s₂
  have h₁ : s.sameFor s₁ bootRegs := (State.sameFor.refl s _).setF (bootRegs_ne (by decide)) _
  clear_value s₁
  have h₂ : s.sameFor s₂ bootRegs :=
    (((h₁.setF (bootRegs_ne (by decide)) _).setF (bootRegs_ne (by decide)) _).setF (bootRegs_ne (by decide)) _).setF
      (bootRegs_ne (by decide)) _
  clear_value s₂
  exact h₂.setScb _

/-- SCB takes its place in MRAM. -/
theorem State.sameFor_scbLoad (s : State) : s.sameFor s.scbLoad bootRegs := by
  unfold State.scbLoad
  extract_lets reserve s₁
  have h₁ : s.sameFor s₁ bootRegs := s.sameFor_scbOpen _
  clear_value s₁
  refine h₁.trans (State.sameFor_foldl (fun t k => ?_) _ s₁)
  extract_lets b
  refine (((State.sameFor.refl t bootRegs).setF (bootRegs_ne ?_) _).setF (bootRegs_ne ?_) _).setF (bootRegs_ne ?_) _ <;>
    simp only [RF.key, SCB_BMk_POS_OFFSET, SCB_BMk_POS_OPEN, SCB_BMk_POS_SEQ] <;>
    omega

/-- BOOT is what SCB writes first: the map of the test and the last-breath cell, which is cleared. -/
theorem State.bootRecords_spec {s : State} (h : s.scbTakes) : ∃ r : ScbRec, s.bootRecords.scb.writing = some r ∧
    r.typ = 0x0404 ∧
    r.body = leBytes 8 (s.f BST_PU_FAIL_FAIL) ++ (if s.cell.valid then s.cell.bytes else List.replicate 64 0) ∧
    s.bootRecords.cell.valid = false ∧ s.bootRecords.eng = s.eng ∧ s.bootRecords.memc = s.memc ∧
    s.bootRecords.f SYS_BOOT_PHASE = s.f SYS_BOOT_PHASE := by
  obtain ⟨h0, h5, -⟩ := h
  unfold State.bootRecords
  rw [if_neg (by simp [h0, h5])]
  extract_lets s₁ map n s₂ body fences
  have h₁ : s.sameFor s₁ bootRegs := s.sameFor_scbLoad
  clear_value s₁
  have hb : body = leBytes 8 (s.f BST_PU_FAIL_FAIL) ++ (if s.cell.valid then s.cell.bytes else List.replicate 64 0) := by
    have hm : map = s.f BST_PU_FAIL_FAIL := h₁.f _ (by simp [bootRegs])
    have hc : s₂.cell = s.cell := h₁.cell
    simp only [body, hm, hc]
  exact ⟨_, rfl, rfl, hb, rfl, h₁.eng, h₁.memc, h₁.f _ (by simp [bootRegs])⟩

/-! ### The steps of RESTORE -/

theorem restore_none {s : State} (h : s.f SYS_BOOT_PHASE ≠ 3 ∨ s.boot.restored = true) : exec .restore s = .next s :=
  congrArg _ (if_pos h)

/-- The journal, and the totals of a TAL that is up. -/
def State.restoredData (s : State) : State :=
  if s.journalRestore.talUp then s.journalRestore.talRestore else s.journalRestore

theorem exec_restore {s : State} (hp : s.f SYS_BOOT_PHASE = 3) (hr : s.boot.restored = false) :
    exec .restore s = .next (s.restoredData.bootRecords.setBoot (fun b => { b with restored := true })) := by
  have he : exec .restore s = .next (if s.f SYS_BOOT_PHASE ≠ 3 ∨ s.boot.restored = true then s
    else s.restoredData.bootRecords.setBoot (fun b => { b with restored := true })) := rfl
  rw [he, if_neg (by simp [hp, hr])]

theorem State.sameFor_restoredData {s : State} (hn : s.ringPointer = none) (hs : s.scbTakes) :
    s.emptied.sameFor s.restoredData restoreRegs := by
  have hj := State.sameFor_journalRestore hn
  have he : s.emptied.scbTakes := hs
  unfold State.restoredData
  split
  · exact hj.trans (State.sameFor_talRestore (hj.scbTakes he))
  · exact hj

theorem restore_ends {s : State} (hp : s.f SYS_BOOT_PHASE = 3) (hr : s.boot.restored = false) :
    ∃ t : State, exec .restore s = .next t ∧ t.boot.restored = true := by
  rw [exec_restore hp hr]
  exact ⟨_, rfl, rfl⟩

theorem restore_empty {s : State} (hp : s.f SYS_BOOT_PHASE = 3) (hr : s.boot.restored = false)
    (hn : s.ringPointer = none) (hs : s.scbTakes) :
    ∃ t : State, ∃ r : ScbRec, exec .restore s = .next t ∧ t.boot.restored = true ∧ t.memc.live = [] ∧
      t.memc.head = 0 ∧ t.memc.tail = 0 ∧
      t.scb.writing = some r ∧ r.typ = 0x0404 ∧
      r.body = leBytes 8 (s.f BST_PU_FAIL_FAIL) ++ (if s.cell.valid then s.cell.bytes else List.replicate 64 0) ∧
      t.cell.valid = false ∧ t.eng = s.eng ∧ t.f SYS_BOOT_PHASE = 3 := by
  have hd := State.sameFor_restoredData hn hs
  have hf : ∀ q ∈ restoreRegs, s.restoredData.f q = s.f q := hd.f
  obtain ⟨r, hw, ht, hb, hc, he, hm, hph⟩ := State.bootRecords_spec (hd.scbTakes (s := s.emptied) hs)
  rw [exec_restore hp hr]
  rw [hf _ (by simp [restoreRegs]), hd.cell] at hb
  rw [hd.memc] at hm
  rw [hf _ (by simp [restoreRegs])] at hph
  rw [hd.eng] at he
  generalize s.restoredData.bootRecords = z at *
  refine ⟨_, r, rfl, rfl, ?_, ?_, ?_, hw, ht, hb, hc, he, hph.trans hp⟩
  · exact congrArg MemSt.live hm
  · exact congrArg MemSt.head hm
  · exact congrArg MemSt.tail hm

/-! ### RUN (R575) -/

/-- What the choice of a context writes of the registers. -/
def schedRegs (e : Nat) : List RF := [ISL_PSTATE_STATE (iENG e), ENG_PREEMPT_COUNT e]

theorem State.f_engTouch {q : RF} {e : Nat} (hq : ∀ r ∈ schedRegs e, q.key ≠ r.key) (s : State) :
    (s.engTouch e).f q = s.f q :=
  (s.keeps_engTouch e).f_eq fun r hr => hq r (by simp_all [schedRegs])

theorem State.f_setCtx (s : State) (e c : Nat) (x : Ctx) (q : RF) : (s.setCtx e c x).f q = s.f q := rfl

theorem State.f_pickNext {q : RF} {e : Nat} (hq : ∀ r ∈ schedRegs e, q.key ≠ r.key) (s : State) :
    (s.pickNext e).f q = s.f q := by
  unfold State.pickNext
  split
  · rfl
  split
  · exact (State.f_engTouch hq _).trans (s.f_setCtx ..)
  · exact State.f_engTouch hq s

theorem State.f_preempt {q : RF} {e : Nat} (hq : ∀ r ∈ schedRegs e, q.key ≠ r.key) (s : State) :
    (s.preempt e).f q = s.f q := by
  unfold State.preempt
  split
  · split
    · rw [State.inc, State.f_setF_ne _ _ _ _ (hq _ (by simp [schedRegs])), State.f_setCtx, State.f_setCtx]
      rfl
    · rfl
  · exact State.f_pickNext hq s

/-- A context of an engine becomes runnable: its own place in the order of issue is all of it that changes, and nothing of
other engines. -/
theorem State.makeRunnable_spec (s : State) (e c : Nat) :
    s.quiet (s.makeRunnable e c) e c ∧
      (∃ st age, (s.makeRunnable e c).ctx e c = { s.ctx e c with st := st, age := age }) ∧
      ∀ q : RF, (∀ r ∈ schedRegs e, q.key ≠ r.key) → (s.makeRunnable e c).f q = s.f q := by
  unfold State.makeRunnable
  extract_lets o
  have ho : s.quiet o.2 e c := s.quiet_order e c
  have hc : o.2.ctx e c = s.ctx e c := s.ctx_order e c
  have hf : ∀ q, o.2.f q = s.f q := fun _ => rfl
  clear_value o
  have hw := State.quiet_trans _ _ _ _ _ ho (State.quiet_setSt o.2 e c c 1 o.1)
  have hwc := State.ctx_setCtx_same o.2 e c { o.2.ctx e c with st := 1, age := o.1 }
  have hwf := o.2.f_setCtx e c { o.2.ctx e c with st := 1, age := o.1 }
  generalize o.2.setCtx e c { o.2.ctx e c with st := 1, age := o.1 } = w at *
  have hp := State.quiet_trans _ _ _ _ _ hw (w.quiet_preempt e c)
  obtain ⟨st, age, hpc⟩ := w.ctx_preempt e c
  refine ⟨State.quiet_trans _ _ _ _ _ hp ((w.preempt e).quiet_engTouch e c), ⟨st, age, ?_⟩, fun q hq => ?_⟩
  · rw [State.ctx_engTouch, hpc, hwc, hc]
  · rw [State.f_engTouch hq, State.f_preempt hq, hwf, hf]

theorem schedRegs_ne_PHASE (e : Nat) : ∀ r ∈ schedRegs e, SYS_BOOT_PHASE.key ≠ r.key := by
  intro r hr
  simp only [schedRegs, List.mem_cons, List.not_mem_nil, or_false] at hr
  rcases hr with rfl | rfl <;>
    simp only [RF.key, SYS_BOOT_PHASE, ISL_PSTATE_STATE, ENG_PREEMPT_COUNT, iENG] <;>
    omega

theorem runStart_none {s : State} (h : s.f SYS_BOOT_PHASE ≠ 3 ∨ s.boot.restored = false) (entry : Nat) :
    exec (.runStart entry) s = .next s :=
  congrArg _ (if_pos h)

/-- The module runs; a trial image is on trial from here. -/
def State.runBegun (s : State) : State :=
  let s := s.setF SYS_BOOT_PHASE 4
  if s.updSt = 8 then s.setUpd (fun u => { u with trial := true, secondAt := s.tim.edges + 100000000 }) else s

/-- The context in which the engine image begins. -/
def startCtx (entry : Nat) : Ctx := { Ctx.empty with inst := 0xFFFF, handler := true, pc := entry % 2 ^ 40 / 4 * 4 }

theorem exec_runStart (entry : Nat) (s : State) : exec (.runStart entry) s =
    .next (if s.f SYS_BOOT_PHASE ≠ 3 ∨ s.boot.restored = false then s
      else (s.runBegun.setCtx ((s.setF SYS_BOOT_PHASE 4).f SYS_BOOT_ENGINE) 0 (startCtx entry)).makeRunnable
        ((s.setF SYS_BOOT_PHASE 4).f SYS_BOOT_ENGINE) 0) := rfl

theorem State.runBegun_spec (s : State) : s.runBegun.f SYS_BOOT_PHASE = 4 ∧ s.keeps s.runBegun [SYS_BOOT_PHASE] ∧
    (s.updSt = 8 → s.runBegun.upd.trial = true) := by
  unfold State.runBegun
  have hp : (s.setF SYS_BOOT_PHASE 4).f SYS_BOOT_PHASE = 4 := State.f_setF_same ..
  have hk : s.keeps (s.setF SYS_BOOT_PHASE 4) [SYS_BOOT_PHASE] := (s.keeps_refl _).setF (by simp) _
  have hu : (s.setF SYS_BOOT_PHASE 4).updSt = s.updSt := s.f_setF_ne _ _ _ (by decide)
  rw [← hu]
  generalize s.setF SYS_BOOT_PHASE 4 = z at *
  extract_lets _
  split
  · exact ⟨hp, hk, fun _ => rfl⟩
  · next h => exact ⟨hp, hk, fun h8 => absurd h8 h⟩

theorem runStart_runs {s : State} {e : Nat} (he : e = s.f SYS_BOOT_ENGINE) (hp : s.f SYS_BOOT_PHASE = 3)
    (hr : s.boot.restored = true) (entry : Nat) :
    ∃ t : State, ∃ st age : Nat, exec (.runStart entry) s = .next t ∧ t.f SYS_BOOT_PHASE = 4 ∧ t.mem = s.mem ∧
      t.ctx e 0 = { Ctx.empty with inst := 0xFFFF, handler := true, pc := entry % 2 ^ 40 / 4 * 4, st := st, age := age } ∧
      (∀ d : Nat, d ≠ e → t.engSt d = s.engSt d) ∧ (s.updSt = 8 → t.upd.trial = true) ∧
      ∀ q : RF, q.key ≠ SYS_BOOT_PHASE.key → q.key ≠ (ISL_PSTATE_STATE (iENG e)).key →
        q.key ≠ (ENG_PREEMPT_COUNT e).key → t.f q = s.f q := by
  have hE : (s.setF SYS_BOOT_PHASE 4).f SYS_BOOT_ENGINE = e := (s.f_setF_ne _ _ _ (by decide)).trans he.symm
  rw [exec_runStart, hE, if_neg (by simp [hp, hr])]
  obtain ⟨hph, ⟨hm, heng, hf⟩, hu⟩ := s.runBegun_spec
  generalize s.runBegun = z at *
  have hzc := z.ctx_setCtx_same e 0 (startCtx entry)
  have hze : ∀ d, d ≠ e → (z.setCtx e 0 (startCtx entry)).engSt d = s.engSt d := fun d hd =>
    (z.engSt_setEng_ne e d _ hd).trans (by rw [State.engSt, heng, State.engSt])
  have hzf := z.f_setCtx e 0 (startCtx entry)
  have hzm : (z.setCtx e 0 (startCtx entry)).mem = z.mem := rfl
  have hzu : (z.setCtx e 0 (startCtx entry)).upd = z.upd := rfl
  generalize z.setCtx e 0 (startCtx entry) = y at *
  obtain ⟨⟨hq, hqe, -, -⟩, ⟨st, age, hc⟩, hqf⟩ := y.makeRunnable_spec e 0
  have hyu : (y.makeRunnable e 0).upd = y.upd := by rw [hq]
  have hym : (y.makeRunnable e 0).mem = y.mem := by rw [hq]
  refine ⟨_, st, age, rfl, ?_, (hym.trans hzm).trans hm, ?_, fun d hd => (hqe d hd).trans (hze d hd),
    fun h8 => ?_, fun q hP hS hC => ?_⟩
  · rw [hqf _ (schedRegs_ne_PHASE e), hzf, hph]
  · rw [hc, hzc]
    rfl
  · rw [hyu, hzu, hu h8]
  · rw [hqf q (by simp [schedRegs, hS, hC]), hzf, hf q (by simp [hP])]

/-- Settles O58, case by case. That an event which finds nothing to do leaves the state as it was is log entry 60; how the
engine image begins is log entry 47. -/
theorem startUp : Obligations.StartUp := by
  refine fun s => ⟨fun straps fa fb hh hc => resetRelease_starts hh hc straps fa fb,
    fun h straps fa fb => exec_resetRelease_none h straps fa fb, fun fail ticks hh hn hp => ⟨fun hc => ⟨?_, ?_, ?_⟩,
      fun hc p => bist_critical hh hn hp hc p ticks⟩, fun h fail p ticks => exec_bist_none h p ticks,
    fun hp hn => ⟨loaderCheck_ok hp hn, loaderCheck_fails hp hn⟩, fun h b => loaderCheck_none h b, ?_,
    fun h segs => loaderDone_none h segs, fun hp hr => ⟨restore_ends hp hr,
      fun hn h0 h5 hl => restore_empty hp hr hn ⟨h0, h5, hl⟩⟩, restore_none,
    fun entry e he hp hr => runStart_runs he hp hr entry, fun h entry => runStart_none h entry⟩
  · exact fun e he hf hj => bist_starts hh hn hp hc he hf hj ticks
  · intro hj p
    obtain ⟨t, ht, hb, hv, hk, hs, -, -, -, hph⟩ :=
      bist_holds hh hn hp (fun _ => State.bistEnd_engines hc hj p) ticks
    exact ⟨t, ht, hb, hv, hk, hs, hph⟩
  · intro hj
    obtain ⟨t, ht, hb, hv, hk, -, -, hi, -, hph⟩ := bist_holds hh hn hp (fun _ => State.bistEnd_stopPath hc hj) ticks
    exact ⟨t, ht, hb, hv, hk, hi, hph⟩
  · rintro _ rfl hp hs hn h6 h3 segs
    have hi : s.loaderIdle := ⟨hp, hs, hn, h6, h3⟩
    exact ⟨loaderDone_bad hi, loaderDone_fenced hi, fun hc hh => by rintro rfl; exact loaderDone_hold hi hc hh,
      fun hc hh => by rintro rfl; exact loaderDone_runs hi hc hh, fun j o n a e h hc hh hf he hj hm hn hl hb => by
        subst h
        exact loaderDone_places hi hc hh hf he hj hm hn hl hb⟩

end Sys2Proof.Machine
end

section
/-! PROOFS. One instruction of an engine (R84 to R118): what its row comes to once the context issues it, and the token,
control and branch instructions that change their context alone. -/

namespace Sys2Proof.Machine

open Sys2Proof

/-! ### The row of an instruction -/

@[simp] theorem Ctx.wg_atomic (x : Ctx) (r : Nat) (v : BitVec 64) : (x.wg r v).atomic = x.atomic := by
  unfold Ctx.wg
  split <;> rfl

/-- s with the engines and the count of free values of z. -/
def State.engAs (s z : State) : State := { s with eng := z.eng, fresh := z.fresh }

/-- The fetch reaches the engine and the count of free values alone. -/
theorem State.fetched_eq (s : State) (e c : Nat) : s.fetched e c = s.engAs (s.fetched e c) := by
  obtain h | ⟨l, n, h⟩ := s.fetchLine_cases e (s.ctx e c).pc <;> rw [State.fetched, h]
  all_goals rfl

/-- What one instruction does to its engine, beside an effect outside the engines. -/
theorem State.quiet_engAs {s t z : State} {e c : Nat} (hz : s.quiet z e c) (h : t.eng = s.eng) : t.quiet (t.engAs z) e c := by
  obtain ⟨-, he, hc, -⟩ := hz
  refine ⟨rfl, fun d hd => (he d hd).trans ?_, fun d hd => ?_, fun _ _ _ _ => rfl⟩
  · rw [State.engSt, State.engSt, h]
  · rw [State.ctx_congr s t e d h]
    exact hc d hd

section
variable {s : State} {e c : Nat} {w : BitVec 32} {mine : Nat → Bool} {body : State → Nat → Ctx → ERes} {y : Ctx}

/-- An issued instruction whose body goes on at pc retires there. -/
theorem State.engExec_retires (h : s.issues e c w) {s₂ : State} {pc : Nat} (hm : mine (wOp w) = true)
    (hb : body (s.fetched e c) c (s.ctx e c) = .go s₂ pc) :
    s.engExec e w mine body = (s₂.retire e c pc (s.ctx e c).atomic).boundary e c := by
  rw [s.engExec_issues e c w mine body h hm, hb]

/-- An issued instruction whose body goes on at pc from s₂, where context y stands and only the engine has changed since
s₁, the state with the instruction's effects outside the engine. -/
theorem State.row_go (h : s.issues e c w) {s₁ s₂ : State} {pc : Nat} (hm : mine (wOp w) = true)
    (hb : body (s.fetched e c) c (s.ctx e c) = .go s₂ pc) (hq : s₁.quiet s₂ e c) (hy : s₂.ctx e c = y)
    (hc : y.cancelled = false) :
    ∃ t : State, Host.Outcome.next (σ := State) (φ := Fault) (ρ := Refusal) (s.engExec e w mine body) = .next t ∧
      s₁.quiet t e c ∧ s.went t e c y pc := by
  subst hy
  exact ⟨_, rfl, s.engExec_go s₁ s₂ e c w mine body pc h hm hb hq hc⟩

/-- An issued instruction whose body goes on at pc with context y, and touches nothing else. -/
theorem State.row_ctx (h : s.issues e c w) {pc : Nat} (hm : mine (wOp w) = true)
    (hb : body (s.fetched e c) c (s.ctx e c) = .go ((s.fetched e c).setCtx e c y) pc) (hc : y.cancelled = false) :
    ∃ t : State, Host.Outcome.next (σ := State) (φ := Fault) (ρ := Refusal) (s.engExec e w mine body) = .next t ∧
      s.quiet t e c ∧ s.went t e c y pc :=
  State.row_go h hm hb (State.quiet_trans _ _ _ e c (s.quiet_fetched e c) (State.quiet_setCtx _ e c y))
    (State.ctx_setCtx_same ..) hc

/-- An issued instruction whose body leaves context y and goes on at the next word. -/
theorem State.row_next (h : s.issues e c w) {pc : Nat} (hm : mine (wOp w) = true)
    (hb : body (s.fetched e c) c (s.ctx e c) = (s.fetched e c).goNext e c y) (hp : y.pc = pc) (hc : y.cancelled = false) :
    ∃ t : State, Host.Outcome.next (σ := State) (φ := Fault) (ρ := Refusal) (s.engExec e w mine body) = .next t ∧
      s.quiet t e c ∧ s.went t e c y (pc + 4) :=
  ⟨_, rfl, s.engExec_next e c w mine body pc y h hm hb hp hc⟩

end

theorem mineTok_self {w : BitVec 32} {fn : Nat} (ho : wOp w = 0x40) (hf : wFn6 w = fn) : mineTok w fn (wOp w) = true := by
  simp [mineTok, ho, hf]

theorem tokBody_ok {w : BitVec 32} {fn : Nat} {ok : Bool} (hf : wFn6 w = fn) (hk : ok = true) (b : ERes) :
    tokBody w fn ok b = b :=
  if_neg (by simp [hf, hk])

theorem notAtomic_ok {x : Ctx} (h : x.atomic = false) (w : BitVec 32) (b : ERes) : notAtomic w x b = b :=
  if_neg (by simp [h])

theorem unflowedOnly_ok {x : Ctx} (h : x.bound = false) (w : BitVec 32) (b : ERes) : unflowedOnly w x b = b :=
  if_neg (by simp [h])

theorem State.syncM_ok {s : State} {e c : Nat} (h : (s.ctx e c).deferred = []) (b : ERes) : s.syncM e c b = b :=
  if_pos h

theorem mineSys_self {w : BitVec 32} {k : Nat} (ho : wOp w = 0x48) (hf : wFn3 w = 2) (hk : bits w.toNat 31 20 = k) :
    mineSys w k (wOp w) = true := by
  simp [mineSys, ho, hf, hk]

theorem sysBody_ok {w : BitVec 32} {k : Nat} (hf : wFn3 w = 2) (hk : bits w.toNat 31 20 = k) (hd : wRd w = 0)
    (ha : wRa w = 0) (b : ERes) : sysBody w k b = b :=
  if_neg (by simp [hf, hk, hd, ha])

/-! ### Token registers (R97, R98) -/

/-- Settles O16: each instruction changes its context alone and goes on (`State.row_next`). -/
theorem tokenRegisters : Obligations.TokenRegisters := by
  rintro s e c w _ hi rfl ho
  have hc := s.issues_cancelled e c w hi
  refine ⟨fun hf hk hu => ?_, fun hf hk hu => ?_, fun hf hk hu => ?_, fun hf hk => ?_, fun hf hk => ?_⟩
  · exact State.row_next hi (mineTok_self ho hf) ((tokBody_ok hf hk _).trans (if_neg (by simp [hu]))) (Ctx.wg_pc ..)
      ((Ctx.wg_cancelled ..).trans hc)
  · refine State.row_next hi (mineTok_self ho hf) ((tokBody_ok hf hk _).trans ?_) (Ctx.wg_pc ..) ((Ctx.wg_cancelled ..).trans hc)
    simp only [hu, if_true]
  · refine State.row_next hi (mineTok_self ho hf) ((tokBody_ok hf hk _).trans ?_) (Ctx.wg_pc ..) ((Ctx.wg_cancelled ..).trans hc)
    simp only [hu, Bool.false_eq_true, if_false]
  · exact State.row_next hi (mineTok_self ho hf) (tokBody_ok hf hk _) rfl hc
  · exact State.row_next hi (mineTok_self ho hf) (tokBody_ok hf hk _) (Ctx.wg_pc ..) ((Ctx.wg_cancelled ..).trans hc)

/-! ### Branches and jumps (R85, R89) -/

/-- The conditions of a branch in terms of the two values. -/
theorem branchTaken_spec {n : Nat} {a b : BitVec 64} {taken : Prop}
    (h : (n = 0 ∧ (taken ↔ a = b)) ∨ (n = 1 ∧ (taken ↔ a ≠ b)) ∨ (n = 2 ∧ (taken ↔ a.toInt < b.toInt)) ∨
      (n = 3 ∧ (taken ↔ b.toInt ≤ a.toInt)) ∨ (n = 4 ∧ (taken ↔ a.toNat < b.toNat)) ∨
      (n = 5 ∧ (taken ↔ b.toNat ≤ a.toNat))) : ∃ r, branchTaken n a b = some r ∧ (r = true ↔ taken) := by
  obtain ⟨rfl, h⟩ | ⟨rfl, h⟩ | ⟨rfl, h⟩ | ⟨rfl, h⟩ | ⟨rfl, h⟩ | ⟨rfl, h⟩ := h <;>
    exact ⟨_, rfl, by simp [h, BitVec.slt, BitVec.ult]⟩

/-- Settles O14, from the condition of each branch as a comparison of its two values (`branchTaken_spec`). -/
theorem branches : Obligations.Branches := by
  intro s e c w hi
  have hc := s.issues_cancelled e c w hi
  refine ⟨fun taken ho hk => ?_, fun ho => ?_, fun ho hf ha => ?_⟩
  · obtain ⟨r, hr, ht⟩ := branchTaken_spec hk
    have hgo : ∃ t : State, exec (.conditionalBranch e w) s = .next t ∧ s.quiet t e c ∧ s.went t e c (s.ctx e c)
        (if r then target (s.ctx e c).pc ((wImm12 w).toInt * 4) else (s.ctx e c).pc + 4) :=
      State.row_go hi (by simp [ho]) (by rw [hr]; cases r <;> rfl) (s.quiet_fetched e c) (State.ctx_fetched ..) hc
    obtain ⟨t, he, hq, hw⟩ := hgo
    exact ⟨t, _, he, hq, hw, fun h => if_pos (ht.2 h), fun h => if_neg (mt ht.1 h)⟩
  · exact State.row_ctx hi (by simp [ho]) rfl ((Ctx.wg_cancelled ..).trans hc)
  · refine State.row_ctx hi (by simp [ho]) ?_ ((Ctx.wg_cancelled ..).trans hc)
    simp only [hf, ha, ne_eq, not_true_eq_false, if_false]

/-! ### Sections and synchronisation (R79, R80, R110, R113, R116) -/

/-- The lines in the instruction cache of engine d. -/
def State.lines (s : State) (d : Nat) : List (Nat × List Byte) := (s.engSt d).icache

@[simp] theorem State.lines_setF (s : State) (r : RF) (v d : Nat) : (s.setF r v).lines d = s.lines d := rfl
@[simp] theorem State.lines_inc (s : State) (r : RF) (d : Nat) : (s.inc r).lines d = s.lines d := rfl
@[simp] theorem State.lines_order (s : State) (d : Nat) : s.order.2.lines d = s.lines d := rfl

@[simp] theorem State.lines_setCtx (s : State) (e c d : Nat) (x : Ctx) : (s.setCtx e c x).lines d = s.lines d := by
  by_cases h : d = e
  · subst h
    rw [State.lines, State.setCtx, State.engSt_setEng_same, State.lines]
  · rw [State.lines, State.setCtx, State.engSt_setEng_ne _ _ _ _ h, State.lines]

@[simp] theorem State.lines_engTouch (s : State) (e d : Nat) : (s.engTouch e).lines d = s.lines d := by
  rw [State.lines, State.engSt, (s.keeps_engTouch e).2.1, State.lines, State.engSt]

@[simp] theorem State.lines_pickNext (s : State) (e d : Nat) : (s.pickNext e).lines d = s.lines d := by
  unfold State.pickNext
  split
  · rfl
  · split <;> simp

@[simp] theorem State.lines_preempt (s : State) (e d : Nat) : (s.preempt e).lines d = s.lines d := by
  unfold State.preempt
  split
  · split <;> simp
  · simp

/-- The end of an instruction leaves the instruction caches as they are. -/
theorem State.lines_retired (s : State) {e c : Nat} (h : (s.ctx e c).cancelled = false) (pc d : Nat) (a : Bool) :
    ((s.retire e c pc a).boundary e c).lines d = s.lines d := by
  have hr : (s.retire e c pc a).lines d = s.lines d := by simp [State.retire]
  have hc : ((s.retire e c pc a).ctx e c).cancelled = false := by simp [State.retire, h]
  generalize s.retire e c pc a = t at hr hc
  unfold State.boundary
  simp only [hc, Bool.false_and, Bool.false_eq_true, if_false]
  split
  · exact hr
  · simpa using hr

/-- Engine e holds no line any more. -/
def State.emptyCache (s : State) (e : Nat) : State := s.setEng e { s.engSt e with icache := [] }

theorem State.lines_emptyCache (s : State) (e : Nat) : (s.emptyCache e).lines e = [] := by
  rw [State.lines, State.emptyCache, State.engSt_setEng_same]

theorem State.quiet_emptyCache (s : State) (e c : Nat) : s.quiet (s.emptyCache e) e c :=
  ⟨rfl, fun d hd => s.engSt_setEng_ne e d _ hd, fun d _ => ⟨(s.ctx e d).st, (s.ctx e d).age, by
    rw [State.ctx, State.emptyCache, State.engSt_setEng_same]; rfl⟩, fun _ _ _ _ => rfl⟩

/-- Settles O23. SYNC.I is the one that reaches past its context: to the lines of its engine. -/
theorem sections : Obligations.Sections := by
  rintro s e c w _ hi rfl ho hf hd ha
  have hc := s.issues_cancelled e c w hi
  refine ⟨fun hk hn hD => ?_, fun hk hn => ?_, fun hk hn => ?_, fun hk hn => ?_, fun hk hh hp => ?_⟩
  · refine State.row_next hi (mineSys_self ho hf hk) ?_ rfl hc
    exact (sysBody_ok hf hk hd ha _).trans ((notAtomic_ok hn w _).trans (State.syncM_ok (by simpa using hD) _))
  · have he : exec (.syncI e w) s = .next
        (((((s.fetched e c).emptyCache e).setCtx e c (s.ctx e c)).retire e c ((s.ctx e c).pc + 4)
          (s.ctx e c).atomic).boundary e c) :=
      congrArg Host.Outcome.next (State.engExec_retires hi (mineSys_self ho hf hk)
        ((sysBody_ok hf hk hd ha _).trans (notAtomic_ok hn w _)))
    have hx := State.ctx_setCtx_same ((s.fetched e c).emptyCache e) e c (s.ctx e c)
    have hz : s.quiet (((s.fetched e c).emptyCache e).setCtx e c (s.ctx e c)) e c :=
      State.quiet_trans _ _ _ e c (s.quiet_fetched e c)
        (State.quiet_trans _ _ _ e c (State.quiet_emptyCache _ e c) (State.quiet_setCtx _ e c _))
    have hl : (((s.fetched e c).emptyCache e).setCtx e c (s.ctx e c)).lines e = [] :=
      (State.lines_setCtx ..).trans (State.lines_emptyCache ..)
    generalize ((s.fetched e c).emptyCache e).setCtx e c (s.ctx e c) = z at he hx hz hl
    have hzc : (z.ctx e c).cancelled = false := by rw [hx, hc]
    obtain ⟨hw, hq⟩ := s.retire_went z e c ((s.ctx e c).pc + 4) hzc
    rw [hx] at hw
    exact ⟨_, he, State.quiet_trans _ _ _ e c hz hq, hw, (z.lines_retired hzc ..).trans hl⟩
  · exact State.row_next hi (mineSys_self ho hf hk) ((sysBody_ok hf hk hd ha _).trans (notAtomic_ok hn w _)) rfl hc
  · exact State.row_next hi (mineSys_self ho hf hk) ((sysBody_ok hf hk hd ha _).trans (if_pos hn)) rfl hc
  · refine State.row_ctx hi (mineSys_self ho hf hk) ((sysBody_ok hf hk hd ha _).trans ?_) hc
    simp only [hh, hp, Bool.true_eq_false, ne_eq, not_true_eq_false, if_false]

end Sys2Proof.Machine
end

section
namespace Sys2Proof.Machine

open Sys2Proof

/-! ### Control registers (R97, R110, R111) -/

theorem mineCtl_self {w : BitVec 32} {fn : Nat} (ho : wOp w = 0x48) (hf : wFn3 w = fn) : mineCtl w fn (wOp w) = true := by
  simp [mineCtl, ho, hf]

/-- The control registers that show what the context holds. -/
theorem State.ctlRead_ctx (s : State) (e c : Nat) (x : Ctx) {n v : Nat}
    (h : (n = 0x000 ∧ v = c * 16 + e) ∨ (n = 0x001 ∧ v = x.gen * 65536 + x.inst) ∨ (n = 0x003 ∧ v = x.seq) ∨
      (n = 0x002 ∧ v = x.flow % 4096 + (if x.bound then 2 ^ 31 else 0)) ∨ (n = 0x004 ∧ v = x.cls) ∨
      (n = 0x005 ∧ v = x.winmask) ∨ (n = 0x006 ∧ v = x.attempt) ∨
      (n = 0x008 ∧ v = x.left * 256 + (if x.atomic then 2 else 0) + (if x.handler then 1 else 0)) ∨
      (n = 0x010 ∧ v = x.fcsr) ∨ (n = 0x011 ∧ v = x.qstat) ∨ (n = 0x018 ∧ v = x.outbox.length) ∨
      (n = 0x020 ∧ v = x.trapPc) ∨ (n = 0x021 ∧ v = x.trapCause) ∨ (n = 0x022 ∧ v = x.trapValue) ∨
      (n = 0x031 ∧ v = x.retired)) : s.ctlRead e c x n = some (v, s) := by
  obtain ⟨rfl, rfl⟩ | ⟨rfl, rfl⟩ | ⟨rfl, rfl⟩ | ⟨rfl, rfl⟩ | h := h
  · rfl
  · rfl
  · rfl
  · cases hb : x.bound <;> simp [State.ctlRead, hb, b2n, Nat.add_comm]
  obtain ⟨rfl, rfl⟩ | ⟨rfl, rfl⟩ | ⟨rfl, rfl⟩ | ⟨rfl, rfl⟩ | h := h
  · rfl
  · rfl
  · rfl
  · cases ha : x.atomic <;> cases hh : x.handler <;> simp [State.ctlRead, ha, hh, b2n]
  obtain ⟨rfl, rfl⟩ | ⟨rfl, rfl⟩ | ⟨rfl, rfl⟩ | ⟨rfl, rfl⟩ | ⟨rfl, rfl⟩ | ⟨rfl, rfl⟩ | ⟨rfl, rfl⟩ := h <;> rfl

theorem State.quiet_free (s : State) (e c k : Nat) : s.quiet (s.free k).2 e c :=
  ⟨rfl, fun _ _ => rfl, fun d _ => ⟨(s.ctx e d).st, (s.ctx e d).age, rfl⟩, fun _ _ _ _ => rfl⟩

/-- MFC of a control register that the read gives a value v, with a state u in which at most free values were taken. -/
theorem mfc_reads {s u : State} {e c v : Nat} {w : BitVec 32} (hi : s.issues e c w) (ho : wOp w = 0x48) (hf : wFn3 w = 0)
    (ha : wRa w = 0) (hr : (s.fetched e c).ctlRead e c (s.ctx e c) (bits w.toNat 31 20) = some (v, u))
    (hq : (s.fetched e c).quiet u e c) :
    ∃ t : State, exec (.mfc e w) s = .next t ∧ s.quiet t e c ∧
      s.went t e c ((s.ctx e c).wg (wRd w) (BitVec.ofNat 64 v)) ((s.ctx e c).pc + 4) := by
  refine State.row_go hi (mineCtl_self ho hf) ?_ (State.quiet_trans _ _ _ e c (s.quiet_fetched e c)
    (State.quiet_trans _ _ _ e c hq (State.quiet_setCtx _ e c _))) (State.ctx_setCtx_same ..)
    ((Ctx.wg_cancelled ..).trans (s.issues_cancelled e c w hi))
  simp only [hf, ha, ne_eq, not_true_eq_false, or_self, if_false, hr]
  exact congrArg (ERes.go _) (congrArg (· + 4) (Ctx.wg_pc ..))

/-- Settles O22. That MTC of FCSR takes the listed fields and ignores the other bits is log entry 57. -/
theorem controlRegisters : Obligations.ControlRegisters := by
  rintro s e c w _ hi rfl ho
  have hc := s.issues_cancelled e c w hi
  refine ⟨fun n v hf ha hn hv => ?_, fun hf ha hn => ?_, fun hf ha hn => ?_, ?_, fun hf hd hn hh => ?_⟩
  · subst hn
    exact mfc_reads hi ho hf ha (State.ctlRead_ctx _ e c _ hv) (State.quiet_refl _ e c)
  · obtain ⟨t, he, hq, hw⟩ := mfc_reads hi ho hf ha (by rw [hn]; rfl) (State.quiet_free (s.fetched e c) e c 64)
    exact ⟨t, _, he, s.quiet_mem t e c hq, hw⟩
  · obtain ⟨t, he, hq, hw⟩ := mfc_reads hi ho hf ha (by rw [hn]; rfl) (State.quiet_free (s.fetched e c) e c 3)
    have hnow : (s.fetched e c).now = s.now := by rw [s.fetched_eq e c]; rfl
    rw [hnow] at hw
    exact ⟨t, _, he, s.quiet_mem t e c hq, Nat.mod_lt _ (by decide), hw⟩
  · rintro _ hf hd rfl hn h5
    refine State.row_next hi (mineCtl_self ho hf) ?_ rfl hc
    simp only [hf, hd, hn, Nat.not_le.2 h5, ne_eq, not_true_eq_false, or_self, if_false, if_true]
  · refine State.row_next hi (mineCtl_self ho hf) ?_ rfl hc
    simp [hf, hd, hn, hh]

end Sys2Proof.Machine
end

section
/-! PROOFS. Memory accesses of an engine (R73, R76, R89, R90, R95): a load, a store or an atomic operation whose checks pass,
seen from the state before the fetch. -/

namespace Sys2Proof.Machine

open Sys2Proof

/-! ### The checks and memory after the fetch -/

@[simp] theorem State.dataCheck_fetched (s : State) (e c : Nat) (x : Ctx) (a n : Nat) (l : List Nat) :
    (s.fetched e c).dataCheck e x a n l = s.dataCheck e x a n l := by
  rw [s.fetched_eq e c]
  rfl

@[simp] theorem State.memCheck_fetched (s : State) (e c req a n : Nat) (write : Bool) :
    (s.fetched e c).memCheck req a n write = s.memCheck req a n write := by
  rw [s.fetched_eq e c]
  rfl

@[simp] theorem State.rd_fetched (s : State) (e c a n : Nat) : (s.fetched e c).rd a n = s.rd a n := by
  rw [State.rd, State.rdBytes_congr _ s a n (s.mem_fetched e c), State.rd]

theorem State.memRead_ok {s : State} {req a n : Nat} (h : s.memCheck req a n false = cOK) :
    s.memRead req a n = (cOK, s.rdBytes a n, s) := by
  simp [State.memRead, h]

theorem State.memWrite_ok {s : State} {req a n : Nat} (h : s.memCheck req a n true = cOK) (v : Nat) :
    s.memWrite req a (leBytes n v) = (cOK, s.wr a n v) := by
  simp [State.memWrite, leBytes_length, h, State.wr]

/-- An access outside the registers is one of memory. -/
theorem State.devRead_mem {a : Nat} (h : regIsland a = none) (s : State) (req n : Nat) :
    s.devRead req a n = ((s.memRead req a n).1, leValue (s.memRead req a n).2.1, (s.memRead req a n).2.2) := by
  rw [State.devRead, h]

theorem State.devWrite_mem {a : Nat} (h : regIsland a = none) (s : State) (req n v : Nat) :
    s.devWrite req a n v = s.memWrite req a (leBytes n v) := by
  rw [State.devWrite, h]

/-! ### Loads -/

theorem State.loadAt_ok {s : State} {e c a n : Nat} (hd : s.dataCheck e (s.ctx e c) a n [0] = none)
    (hr : n ≤ 8 → regIsland a = none) (hm : s.memCheck (ep (iENG e) c) a n false = cOK) (w : BitVec 32) (file : Nat)
    (put : Ctx → Nat → Ctx) :
    s.loadAt e c w a n file put = .go (s.setCtx e c (put (s.ctx e c) (s.rd a n))) ((s.ctx e c).pc + 4) := by
  unfold State.loadAt
  simp only [hd, State.memRead_ok hm]
  split
  · next h => simp only [State.devRead_mem (hr h), State.memRead_ok hm, if_true, State.rd]
  · simp only [if_true, State.rd]

/-- A row that loads n bytes at a and puts them into context y. -/
theorem load_row {s : State} {e c : Nat} {w : BitVec 32} {mine : Nat → Bool} {body : State → Nat → Ctx → ERes} {y : Ctx}
    (hi : s.issues e c w) {a n file : Nat} {put : Ctx → Nat → Ctx} (hd : s.dataCheck e (s.ctx e c) a n [0] = none)
    (hr : n ≤ 8 → regIsland a = none) (hk : s.memCheck (ep (iENG e) c) a n false = cOK) (hm : mine (wOp w) = true)
    (hb : body (s.fetched e c) c (s.ctx e c) = (s.fetched e c).loadAt e c w a n file put)
    (hy : put (s.ctx e c) (s.rd a n) = y) (hc : y.cancelled = false) :
    ∃ t : State, Host.Outcome.next (σ := State) (φ := Fault) (ρ := Refusal) (s.engExec e w mine body) = .next t ∧
      s.quiet t e c ∧ s.went t e c y ((s.ctx e c).pc + 4) := by
  have hl := State.loadAt_ok (s := s.fetched e c) (e := e) (c := c) (by simpa using hd) hr (by simpa using hk) w file put
  rw [State.ctx_fetched, State.rd_fetched, hy] at hl
  exact State.row_ctx hi hm (hb.trans hl) hc

/-- What a load of n bytes writes to a g register (R89). -/
def loadExt (n : Nat) (sgn : Bool) (v : Nat) : BitVec 64 :=
  if sgn then (BitVec.ofNat (8 * n) v).signExtend 64 else BitVec.ofNat 64 v

theorem loadExt_signed {n : Nat} (_ : n < 8) : loadExt n true = fun v => (BitVec.ofNat (8 * n) v).signExtend 64 := rfl
theorem loadExt_unsigned (n : Nat) : loadExt n false = BitVec.ofNat 64 := rfl

/-- A load of all 8 bytes extends nothing. -/
theorem loadExt_eight : loadExt 8 true = BitVec.ofNat 64 := funext fun _ => BitVec.signExtend_eq _

/-- INTEGER_LOAD with a defined fn3 is a load of its length with its extension. -/
theorem exec_integerLoad {w : BitVec 32} {n : Nat} {sgn : Bool}
    (hf : [(0, 1, true), (1, 2, true), (2, 4, true), (3, 8, true), (4, 1, false), (5, 2, false), (6, 4, false)].contains
      (wFn3 w, n, sgn) = true) (e : Nat) (s : State) :
    exec (.integerLoad e w) s = .next (s.engExec e w (· == 0x08) fun s c x =>
      s.loadAt e c w (ea x w) n 0 fun x v => x.wg (wRd w) (loadExt n sgn v)) := by
  simp only [List.contains_cons, List.contains_nil, Bool.or_false, Bool.or_eq_true, beq_iff_eq, Prod.mk.injEq] at hf
  change execIntegerLoad e w s = _
  unfold execIntegerLoad
  obtain ⟨hf, rfl, rfl⟩ | ⟨hf, rfl, rfl⟩ | ⟨hf, rfl, rfl⟩ | ⟨hf, rfl, rfl⟩ | ⟨hf, rfl, rfl⟩ | ⟨hf, rfl, rfl⟩ |
    ⟨hf, rfl, rfl⟩ := hf <;> simp (disch := decide) only [hf, loadExt_signed, loadExt_unsigned, loadExt_eight]

theorem exec_floatingLoad {w : BitVec 32} {n : Nat} (hf : [(2, 4), (3, 8)].contains (wFn3 w, n) = true) (e : Nat)
    (s : State) :
    exec (.floatingLoad e w) s = .next (s.engExec e w (· == 0x0C) fun s c x =>
      s.loadAt e c w (ea x w) n 1 fun x v => x.wf (wRd w) (BitVec.ofNat 64 v)) := by
  simp only [List.contains_cons, List.contains_nil, Bool.or_false, Bool.or_eq_true, beq_iff_eq, Prod.mk.injEq] at hf
  change execFloatingLoad e w s = _
  unfold execFloatingLoad
  obtain ⟨hf, rfl⟩ | ⟨hf, rfl⟩ := hf <;> simp only [hf, if_true, Nat.reduceEqDiff, if_false]

theorem exec_vld {w : BitVec 32} (hf : vform w = some 0) (e : Nat) (s : State) :
    exec (.vld e w) s = .next (s.engExec e w (fun op => op == 0x31 && vform w != some 1) fun s c x =>
      s.loadAt e c w (vea x w) 32 2 fun x v => x.wv (bits w.toNat 10 7) (BitVec.ofNat 256 v)) := by
  change execVld e w s = _
  unfold execVld
  simp only [hf]

/-- Settles O11. -/
theorem loads : Obligations.Loads := by
  intro s e c w hi
  have hc := s.issues_cancelled e c w hi
  refine ⟨fun n sgn ho hf hd hr hk => ?_, fun n ho hf hd hr hk => ?_, fun ho hv hd hk => ?_⟩
  · rw [exec_integerLoad hf]
    exact load_row hi hd (fun _ => hr) hk (by simp [ho]) rfl rfl ((Ctx.wg_cancelled ..).trans hc)
  · rw [exec_floatingLoad hf]
    exact load_row hi hd (fun _ => hr) hk (by simp [ho]) rfl rfl hc
  · rw [exec_vld hv]
    exact load_row hi hd (by omega) hk (by simp [ho, hv]) rfl rfl (by rw [Ctx.wv_cancelled, hc])

/-! ### Stores -/

theorem State.storeAt_ok {s : State} {e c a n : Nat} (hd : s.dataCheck e (s.ctx e c) a n [1] = none)
    (hr : n ≤ 8 → regIsland a = none) (hm : s.memCheck (ep (iENG e) c) a n true = cOK) (w : BitVec 32) (v : Nat) :
    s.storeAt e c w a n v = .go (s.wr a n v) ((s.ctx e c).pc + 4) := by
  unfold State.storeAt
  simp only [hd, State.memWrite_ok hm]
  split
  · next h => simp only [State.devWrite_mem (hr h), State.memWrite_ok hm, if_true]
  · simp only [if_true]

/-- A store leaves the bytes outside it alone, whatever the engine does beside it. -/
theorem State.rdB_quiet_wr {s t : State} {e c a n v : Nat} (h : (s.wr a n v).quiet t e c) {b : Nat}
    (hb : b < a ∨ a + n ≤ b) : t.rdB b = s.rdB b :=
  (State.rdB_congr _ _ b (State.quiet_mem _ _ e c h)).trans
    (s.rdB_wrBytes_out a b _ (by rwa [leBytes_length]))

/-- A row that stores the low n bytes of v at a. -/
theorem store_row {s : State} {e c : Nat} {w : BitVec 32} {mine : Nat → Bool} {body : State → Nat → Ctx → ERes}
    (hi : s.issues e c w) {a n v u : Nat} (hd : s.dataCheck e (s.ctx e c) a n [1] = none)
    (hr : n ≤ 8 → regIsland a = none) (hk : s.memCheck (ep (iENG e) c) a n true = cOK) (hm : mine (wOp w) = true)
    (hb : body (s.fetched e c) c (s.ctx e c) = (s.fetched e c).storeAt e c w a n u) (hu : s.wr a n u = s.wr a n v) :
    ∃ t : State, Host.Outcome.next (σ := State) (φ := Fault) (ρ := Refusal) (s.engExec e w mine body) = .next t ∧
      (s.wr a n v).quiet t e c ∧ s.went t e c (s.ctx e c) ((s.ctx e c).pc + 4) ∧
      ∀ b : Nat, (b < a ∨ a + n ≤ b) → t.rdB b = s.rdB b := by
  have hl := State.storeAt_ok (s := s.fetched e c) (e := e) (c := c) (by simpa using hd) hr (by simpa using hk) w u
  rw [State.ctx_fetched] at hl
  obtain ⟨t, he, hq, hw⟩ := State.row_go hi hm (hb.trans hl) (s.quiet_wr_fetched e c a n u)
    ((State.ctx_wrBytes ..).trans (s.ctx_fetched e c c)) (s.issues_cancelled e c w hi)
  rw [hu] at hq
  exact ⟨t, he, hq, hw, fun _ => State.rdB_quiet_wr hq⟩

/-- Settles O12. -/
theorem stores : Obligations.Stores := by
  intro s e c w hi
  refine ⟨fun n ho hf hd hr hk => ?_, fun n ho hf hd hr hk => ?_, fun ho hv hd hk => ?_⟩
  · have hn : wFn3 w < 4 ∧ 2 ^ wFn3 w = n := by
      simp only [List.contains_cons, List.contains_nil, Bool.or_false, Bool.or_eq_true, beq_iff_eq, Prod.mk.injEq] at hf
      obtain ⟨hf, rfl⟩ | ⟨hf, rfl⟩ | ⟨hf, rfl⟩ | ⟨hf, rfl⟩ := hf <;> simp [hf]
    obtain ⟨hf, rfl⟩ := hn
    exact store_row hi hd (fun _ => hr) hk (by simp [ho]) (if_neg (by omega)) (s.wr_mod ..)
  · simp only [List.contains_cons, List.contains_nil, Bool.or_false, Bool.or_eq_true, beq_iff_eq, Prod.mk.injEq] at hf
    obtain ⟨hf, rfl⟩ | ⟨hf, rfl⟩ := hf
    · exact store_row hi hd (fun _ => hr) hk (by simp [ho]) (if_pos hf) (s.wr_mod _ 4 _)
    · exact store_row hi hd (fun _ => hr) hk (by simp [ho]) ((if_neg (by simp [hf])).trans (if_pos hf)) rfl
  · exact store_row hi hd (by omega) hk (by simp [ho, hv]) (by simp only [hv]) rfl

/-! ### Atomic memory operations (R90) -/

/-- The words that the five operations leave. -/
theorem amoNew_spec {n : Nat} {old b d v : BitVec 64}
    (h : (n = 0 ∧ v = b) ∨ (n = 1 ∧ v = old + b) ∨ (n = 2 ∧ v = old &&& b) ∨ (n = 3 ∧ v = old ||| b) ∨
      (n = 4 ∧ v = if old = d then b else old)) : n < 5 ∧ amoNew n old b d = some v := by
  obtain ⟨rfl, rfl⟩ | ⟨rfl, rfl⟩ | ⟨rfl, rfl⟩ | ⟨rfl, rfl⟩ | ⟨rfl, rfl⟩ := h <;> exact ⟨by decide, rfl⟩

/-- Settles O13. -/
theorem atomicWords : Obligations.AtomicWords := by
  intro s e c w v hi ho hd hr hk hv
  obtain ⟨h5, hn⟩ := amoNew_spec hv
  have hy := Ctx.wg_cancelled (s.ctx e c) (wRd w) (BitVec.ofNat 64 (s.rd ((s.ctx e c).rg (wRa w)).toNat 8))
  have hk' : (s.fetched e c).memCheck (ep (iENG e) c) ((s.ctx e c).rg (wRa w)).toNat 8 false = cOK := by simpa using hk
  have hrow : ∃ t : State, exec (.atomicMemoryOperation e w) s = .next t ∧
      (s.wr ((s.ctx e c).rg (wRa w)).toNat 8 v.toNat).quiet t e c ∧
      s.went t e c ((s.ctx e c).wg (wRd w) (BitVec.ofNat 64 (s.rd ((s.ctx e c).rg (wRa w)).toNat 8)))
        ((s.ctx e c).pc + 4) := by
    refine State.row_go hi (by simp [ho]) ?_ (State.quiet_trans _ _ _ e c (s.quiet_wr_fetched e c _ _ _)
      (State.quiet_setCtx _ e c _)) (State.ctx_setCtx_same ..) (hy.trans (s.issues_cancelled e c w hi))
    have hrd : leValue ((s.fetched e c).rdBytes ((s.ctx e c).rg (wRa w)).toNat 8) =
      s.rd ((s.ctx e c).rg (wRa w)).toNat 8 := s.rd_fetched e c _ 8
    obtain hr | ⟨k, hr | hr⟩ := hr <;>
      simp only [Nat.not_le.2 h5, State.dataCheck_fetched, hd, hr, State.memRead_ok hk', hrd, hn, if_false,
        Bool.true_eq_false, ne_eq, not_true_eq_false, State.goNext, Ctx.wg_pc]
  obtain ⟨t, he, hq, hw⟩ := hrow
  exact ⟨t, he, hq, hw, fun _ => State.rdB_quiet_wr hq⟩

end Sys2Proof.Machine
end

section
/-! PROOFS. What a task sends (R97 to R100, R102): entries of the outbox, direct outputs, and the release of an outbox. -/

namespace Sys2Proof.Machine

open Sys2Proof

/-! ### The release of an outbox -/

theorem State.release_token (s : State) (src : Nat) (stamp : Option Stamp) (task : Option (Nat × Nat × Nat)) {o : Out}
    (h : o.typ = 1) : s.release src stamp task o = s.send ⟨o.dest, o.tag, o.data, src, stamp, task⟩ := if_pos h

theorem State.release_word (s : State) (src : Nat) (stamp : Option Stamp) (task : Option (Nat × Nat × Nat)) {o : Out}
    (h : o.typ = 2) : s.release src stamp task o = s.sendQ ⟨o.dest, o.prio, o.data, src, stamp, task⟩ := by
  simp [State.release, h]

/-- The token of an entry at its index in an unflowed release. -/
def taskToken (src i gen : Nat) (p : Out × Nat) : Option Token :=
  if p.1.typ = 1 then some ⟨p.1.dest, p.1.tag, p.1.data, src, none, some (i, gen, p.2)⟩ else none

/-- The queue word of an entry at its index in an unflowed release. -/
def taskWord (src i gen : Nat) (p : Out × Nat) : Option QWord :=
  if p.1.typ = 2 then some ⟨p.1.dest, p.1.prio, p.1.data, src, none, some (i, gen, p.2)⟩ else none

/-- Tokens and queue words leave in outbox order, each with its index. -/
theorem State.releaseAll_eq (s : State) (src i gen k : Nat) (outs : List Out) (h : ∀ o ∈ outs, o.typ = 1 ∨ o.typ = 2) :
    s.releaseAll src i gen k outs = { s with
      sent := s.sent ++ (outs.zipIdx k).filterMap (taskToken src i gen)
      qsent := s.qsent ++ (outs.zipIdx k).filterMap (taskWord src i gen) } := by
  induction outs generalizing s k with
  | nil => simp [State.releaseAll]
  | cons o os ih =>
    rw [State.releaseAll, ih _ _ fun p hp => h p (by simp [hp]), List.zipIdx_cons]
    obtain ho | ho := h o (by simp)
    · simp [State.release_token _ _ _ _ ho, State.send, taskToken, taskWord, ho]
    · simp [State.release_word _ _ _ _ ho, State.sendQ, taskToken, taskWord, ho]

theorem State.nextState_engAs (s z : State) (i : Nat) (d : Desc) :
    (s.engAs z).nextState i d = (s.nextState i d).engAs z := by
  unfold State.nextState
  split <;> rfl

/-- An output that leaves reaches no engine and takes no free value. -/
theorem State.release_engAs (s z : State) (src : Nat) (stamp : Option Stamp) (task : Option (Nat × Nat × Nat)) (o : Out) :
    (s.engAs z).release src stamp task o = (s.release src stamp task o).engAs z := by
  have hs : (s.engAs z).releaseSpawn (o.tag % 65536) = (s.releaseSpawn (o.tag % 65536)).engAs z :=
    (congrArg (ite _ · _) (State.nextState_engAs ..)).trans (apply_ite (State.engAs · z) _ _ _).symm
  rw [State.release, hs, State.release, apply_ite (State.engAs · z), apply_ite (State.engAs · z)]
  rfl

theorem State.releaseAll_engAs (s z : State) (src i gen k : Nat) (outs : List Out) :
    (s.engAs z).releaseAll src i gen k outs = (s.releaseAll src i gen k outs).engAs z := by
  induction outs generalizing s k with
  | nil => rfl
  | cons o os ih => rw [State.releaseAll, State.releaseAll, State.release_engAs, ih]

/-! ### EMIT and SENDQ -/

/-- An entry goes into an outbox that is not full. -/
theorem State.output_put (s : State) (e c : Nat) {w : BitVec 32} {x : Ctx} (hm : wM w = false) (hl : x.outbox.length < 16)
    (o : Out) : s.output e c w x o = s.goNext e c { x with outbox := x.outbox ++ [o] } := by
  simp [State.output, State.outboxPut, hm, Nat.not_le.2 hl]

/-- A direct output of an unflowed task leaves at once. -/
theorem State.output_direct {s : State} {e c : Nat} {w : BitVec 32} {x : Ctx} (hm : wM w = true) (ha : x.atomic = false)
    (hb : x.bound = false) (hd : (s.ctx e c).deferred = []) (o : Out) :
    s.output e c w x o = .go (s.release (ep (iENG e) c) none (some (x.inst, x.gen, 0)) o) (x.pc + 4) := by
  rw [State.output, if_pos hm, notAtomic_ok ha, unflowedOnly_ok hb, State.syncM_ok hd]

/-- A row with a direct output: it leaves, and the context goes on. -/
theorem direct_row {s : State} {e c : Nat} {w : BitVec 32} {mine : Nat → Bool} {body : State → Nat → Ctx → ERes}
    (hi : s.issues e c w) (hm : mine (wOp w) = true) {task : Option (Nat × Nat × Nat)} {o : Out} {t : State}
    (hb : body (s.fetched e c) c (s.ctx e c) =
      .go ((s.fetched e c).release (ep (iENG e) c) none task o) ((s.ctx e c).pc + 4))
    (ht : s.release (ep (iENG e) c) none task o = t) (he : t.eng = s.eng) :
    ∃ u : State, Host.Outcome.next (σ := State) (φ := Fault) (ρ := Refusal) (s.engExec e w mine body) = .next u ∧
      t.quiet u e c ∧ s.went u e c (s.ctx e c) ((s.ctx e c).pc + 4) := by
  rw [s.fetched_eq e c, State.release_engAs, ht] at hb
  rw [← s.fetched_eq e c] at hb
  exact State.row_go hi hm hb (State.quiet_engAs (s.quiet_fetched e c) he) (s.ctx_fetched e c c) (s.issues_cancelled e c w hi)

/-- Settles O17; the order of release is `State.releaseAll_eq`. -/
theorem outbox : Obligations.Outbox := by
  refine ⟨?_, fun s src i gen k outs h => s.releaseAll_eq src i gen k outs h⟩
  rintro s e c w _ a b hi rfl ho rfl rfl
  have hc := s.issues_cancelled e c w hi
  have hx := s.ctx_fetched e c c
  refine ⟨fun hf hk ha hb => ⟨fun hm hl => ?_, fun hm hn hu hd => ?_⟩,
    fun hf hk ha hb => ⟨fun hm hl => ?_, fun hm hn hu hd => ?_⟩⟩
  · exact State.row_next hi (mineTok_self ho hf)
      ((tokBody_ok hf hk _).trans ((if_neg (by omega)).trans (State.output_put _ e c hm hl _))) rfl hc
  · exact direct_row hi (mineTok_self ho hf) ((tokBody_ok hf hk _).trans ((if_neg (by omega)).trans
      (State.output_direct hm hn hu (by rw [hx, hd]) _))) (State.release_token _ _ _ _ rfl) rfl
  · exact State.row_next hi (mineTok_self ho hf)
      ((tokBody_ok hf hk _).trans ((if_neg (by omega)).trans (State.output_put _ e c hm hl _))) rfl hc
  · exact direct_row hi (mineTok_self ho hf) ((tokBody_ok hf hk _).trans ((if_neg (by omega)).trans
      (State.output_direct hm hn hu (by rw [hx, hd]) _))) (State.release_word _ _ _ _ rfl) rfl

end Sys2Proof.Machine
end

section
/-! PROOFS. RECVQ (R103, R104, R165), and how an instruction ends that takes its context out of RUNNING. -/

namespace Sys2Proof.Machine

open Sys2Proof

/-! ### The context leaves RUNNING -/

theorem State.bestRunnable_st {s : State} {e d : Nat} (h : s.bestRunnable e = some d) : (s.ctx e d).st = 1 := by
  have hP : ∀ b, s.bestRunnable e = some b → (s.ctx e b).st = 1 := by
    refine List.foldlRecOn (motive := fun o : Option Nat => ∀ b, o = some b → (s.ctx e b).st = 1) _ _ (by simp) ?_
    intro o ho a ha b hb
    have ha1 : (s.ctx e a).st = 1 := by simpa [idxWhere] using (List.mem_filter.1 ha).2
    split at hb
    · cases hb
      exact ha1
    · split at hb
      · cases hb
        exact ha1
      · cases hb
        exact ho _ rfl
  exact hP d h

/-- Selection for issue leaves a context that is not RUNNABLE alone. -/
theorem State.ctx_pickNext_of_st {s : State} {e c : Nat} (h : (s.ctx e c).st ≠ 1) : (s.pickNext e).ctx e c = s.ctx e c := by
  unfold State.pickNext
  split
  · rfl
  · split
    · next d _ hd =>
      have hne : c ≠ d := by
        rintro rfl
        exact h (State.bestRunnable_st hd)
      rw [State.ctx_engTouch, State.ctx_setCtx_ne _ _ _ _ _ hne]
    · exact State.ctx_engTouch ..

/-- An issued instruction whose body takes its context out of RUNNING: the engine selects another. -/
theorem State.row_left {s z : State} {e c : Nat} {w : BitVec 32} {mine : Nat → Bool} {body : State → Nat → Ctx → ERes}
    (h : s.issues e c w) (hm : mine (wOp w) = true) (hb : body (s.fetched e c) c (s.ctx e c) = .left z)
    (hz : (z.ctx e c).st ≠ 1) :
    ∃ t : State, Host.Outcome.next (σ := State) (φ := Fault) (ρ := Refusal) (s.engExec e w mine body) = .next t ∧
      z.quiet t e c ∧ t.ctx e c = z.ctx e c := by
  refine ⟨(z.pickNext e).engTouch e, ?_, State.quiet_trans _ _ _ e c (z.quiet_pickNext e c) (State.quiet_engTouch _ e c),
    (State.ctx_engTouch ..).trans (State.ctx_pickNext_of_st hz)⟩
  rw [s.engExec_issues e c w mine body h hm, hb]

/-- What a retired instruction leaves of its context. -/
theorem State.ctx_retire (s : State) (e c pc : Nat) (a : Bool) : (s.retire e c pc a).ctx e c = { s.ctx e c with
    pc := pc
    retired := (s.ctx e c).retired + 1
    left := if (s.ctx e c).atomic && a then (s.ctx e c).left - 1 else (s.ctx e c).left } := by
  simp [State.retire]

/-! ### The queue -/

theorem State.touch_engAs (s z : State) (isl : Nat) : (s.engAs z).touch isl = (s.touch isl).engAs z := by
  have h : (s.engAs z).ist isl = s.ist isl := rfl
  unfold State.touch
  rw [h]
  split <;> rfl

theorem State.wakeFor_serves {s : State} {isl : Nat} (h : s.serves isl = true) : s.wakeFor isl = s := by
  obtain h | h := State.serves_ist h <;> exact if_neg (by simp [h])

theorem State.eng_touch (s : State) (isl : Nat) : (s.touch isl).eng = s.eng := by
  unfold State.touch
  split <;> rfl

theorem State.que_touch (s : State) (isl : Nat) : (s.touch isl).que = s.que := by
  unfold State.touch
  split <;> rfl

theorem State.mem_touch (s : State) (isl : Nat) : (s.touch isl).mem = s.mem := by
  unfold State.touch
  split <;> rfl

theorem State.now_touch (s : State) (isl : Nat) : (s.touch isl).now = s.now := by
  unfold State.touch
  split <;> rfl

/-- An island's own state is all that serving shows. -/
theorem State.f_touch (s : State) (isl : Nat) {q : RF} (hq : q.key ≠ (ISL_PSTATE_STATE isl).key) :
    (s.touch isl).f q = s.f q := by
  unfold State.touch
  split
  · exact State.f_setF_ne _ _ _ _ hq
  · rfl

/-- A task that may read queue n of QUE: the queue is enabled, and open to every reader or to the task's instance. -/
def State.mayRead (s : State) (n inst : Nat) : Prop :=
  n < 64 ∧ s.on (QUE_Qn_CFG_ENABLE n) = true ∧
    (s.on (QUE_Qn_CFG_ANY_READER n) = true ∨ s.f (QUE_Qn_READER_INSTANCE n) = inst)

theorem State.recvStatus_ok {s : State} {n inst : Nat} (h : s.mayRead n inst) : s.recvStatus inst n = cOK := by
  obtain ⟨hn, he, hr⟩ := h
  unfold State.recvStatus
  rw [if_neg (by omega), if_neg (by simp [he]), if_neg]
  rintro ⟨ha, hi⟩
  obtain hr | hr := hr
  · simp [ha] at hr
  · exact hi hr

theorem State.mayRead_touch {s : State} {n inst : Nat} (h : s.mayRead n inst) : (s.touch iQUE).mayRead n inst := by
  obtain ⟨hn, he, hr⟩ := h
  have hk : (QUE_Qn_CFG_ENABLE n).key ≠ (ISL_PSTATE_STATE iQUE).key ∧
      (QUE_Qn_CFG_ANY_READER n).key ≠ (ISL_PSTATE_STATE iQUE).key ∧
      (QUE_Qn_READER_INSTANCE n).key ≠ (ISL_PSTATE_STATE iQUE).key := by
    simp only [RF.key, QUE_Qn_CFG_ENABLE, QUE_Qn_CFG_ANY_READER, QUE_Qn_READER_INSTANCE, ISL_PSTATE_STATE, iQUE]
    omega
  obtain ⟨h₁, h₂, h₃⟩ := hk
  simp only [State.mayRead, State.on, State.f_touch _ _ h₁, State.f_touch _ _ h₂, State.f_touch _ _ h₃]
  exact ⟨hn, he, hr⟩

/-- The context retires its RECVQ.W and waits on queue n (R103). -/
def State.recvWait (s : State) (e c n : Nat) (w : BitVec 32) (x : Ctx) : State :=
  let s := (s.setCtx e c x).retire e c (x.pc + 4) false
  let s := s.setCtx e c { s.ctx e c with st := 3, recvRd := wRd w, recvQ := n }
  s.setQ n { s.q n with waits := (s.q n).waits ++ [⟨e, c, x.cls⟩] }

/-- What a read of queue n that may be served comes to (R103, R165). -/
def State.recvServe (s : State) (e c n : Nat) (w : BitVec 32) (x : Ctx) : ERes :=
  match (s.q n).best with
  | some q => s.recvTake e c n w x q
  | none => if wM w = false then s.recvNone e c w x cOK else .left (s.recvWait e c n w x)

theorem State.recvServe_some {s : State} {n : Nat} {q : QEnt} (h : (s.q n).best = some q) (e c : Nat) (w : BitVec 32)
    (x : Ctx) : s.recvServe e c n w x = s.recvTake e c n w x q := by
  rw [State.recvServe, h]

theorem State.recvServe_none {s : State} {n : Nat} {w : BitVec 32} (h : (s.q n).best = none) (hw : wM w = false) (e c : Nat)
    (x : Ctx) : s.recvServe e c n w x = s.recvNone e c w x cOK := by
  rw [State.recvServe, h]
  exact if_pos hw

theorem State.recvServe_waits {s : State} {n : Nat} {w : BitVec 32} (h : (s.q n).best = none) (hw : wM w = true) (e c : Nat)
    (x : Ctx) : s.recvServe e c n w x = .left (s.recvWait e c n w x) := by
  rw [State.recvServe, h]
  exact if_neg (by simp [hw])

theorem State.recvNone_go (s : State) (e c : Nat) (w : BitVec 32) (x : Ctx) :
    s.recvNone e c w x cOK = .go (s.setCtx e c { x.wg (wRd w) 0 with qstat := 2 ^ 63 }) (x.pc + 4) :=
  congrArg (fun p => ERes.go _ (p + 4)) (Ctx.wg_pc x (wRd w) 0)

theorem State.recvTake_go (s z : State) (e c n : Nat) (w : BitVec 32) (x : Ctx) (q : QEnt) :
    (s.engAs z).recvTake e c n w x q = .go (((s.setQ n { s.q n with
      words := (s.q n).words.erase q
      held := if x.bound then (s.q n).held ++ [⟨q.prio, q.data, q.order, e, c⟩] else (s.q n).held
      staleStart := s.now }).engAs z).setCtx e c
        { x.wg (wRd w) (BitVec.ofNat 64 q.data) with qstat := qstatWord q.prio }) (x.pc + 4) :=
  congrArg (fun p => ERes.go _ (p + 4)) (Ctx.wg_pc x (wRd w) (BitVec.ofNat 64 q.data))

@[simp] theorem State.q_setQ_same (s : State) (n : Nat) (x : Queue) : (s.setQ n x).q n = x := Tab.get_set_same ..

theorem State.q_setCtx (s : State) (e c n : Nat) (x : Ctx) : (s.setCtx e c x).q n = s.q n := rfl

theorem State.q_retire (s : State) (e c pc n : Nat) (a : Bool) : (s.retire e c pc a).q n = s.q n := rfl

theorem State.recvWait_spec (s : State) (e c n : Nat) (w : BitVec 32) (x : Ctx) : (s.recvWait e c n w x).mem = s.mem ∧
    (s.recvWait e c n w x).q n = { s.q n with waits := (s.q n).waits ++ [⟨e, c, x.cls⟩] } ∧
    (s.recvWait e c n w x).ctx e c =
      { x with st := 3, pc := x.pc + 4, retired := x.retired + 1, recvRd := wRd w, recvQ := n } := by
  unfold State.recvWait
  extract_lets s₁ y s₂
  have hm : s₂.mem = s.mem := by simp only [s₂, s₁, State.setCtx_mem, State.retire, State.mem_inc]
  have hq : s₂.q n = s.q n := by rw [State.q_setCtx, State.q_retire, State.q_setCtx]
  have hc : s₂.ctx e c =
      { x with st := 3, pc := x.pc + 4, retired := x.retired + 1, recvRd := wRd w, recvQ := n } := by
    rw [State.ctx_setCtx_same]
    simp only [y, s₁, State.ctx_retire, State.ctx_setCtx_same, Bool.and_false, Bool.false_eq_true, if_false]
  clear_value s₂
  exact ⟨hm, (State.q_setQ_same ..).trans (congrArg (fun p : Queue =>
    ({ p with waits := p.waits ++ [(⟨e, c, x.cls⟩ : QWait)] } : Queue)) hq), (State.ctx_congr s₂ _ e c (s₂.setQ_eng ..)).trans hc⟩

/-- RECVQ with its premises met reads the queue on the state in which QUE has been asked. -/
theorem exec_recvq {s : State} {e c : Nat} {w : BitVec 32} (hf : wFn6 w = 0x04)
    (hk : tokFields w true true false false true = true) (hn : (s.ctx e c).atomic = false)
    (hr : s.mayRead ((s.ctx e c).rg (wRa w)).toNat (s.ctx e c).inst)
    (hh : ¬((s.ctx e c).bound = true ∧ 16 ≤ s.heldCount e c)) (hs : s.serves iQUE = true) :
    ∃ body, exec (.recvq e w) s = .next (s.engExec e w (mineTok w 0x04) body) ∧ ∀ z : State,
      body (s.engAs z) c (s.ctx e c) =
        ((s.touch iQUE).engAs z).recvServe e c ((s.ctx e c).rg (wRa w)).toNat w (s.ctx e c) := by
  refine ⟨_, rfl, fun z => (tokBody_ok hf hk _).trans ((notAtomic_ok hn w _).trans ?_)⟩
  have h4 : ¬(s.engAs z).ist iQUE = 4 := by
    obtain h | h := State.serves_ist hs <;> exact fun h4 => absurd (h.symm.trans h4) (by decide)
  have hst : ((s.touch iQUE).engAs z).recvStatus (s.ctx e c).inst ((s.ctx e c).rg (wRa w)).toNat = cOK :=
    State.recvStatus_ok (State.mayRead_touch hr)
  refine (if_neg hh).trans ((if_neg h4).trans ?_)
  rw [State.wakeFor_serves (s := s.engAs z) hs, State.touch_engAs]
  exact (if_neg (not_not.2 hst)).trans rfl

/-- Settles O18, by what the queue holds (`State.recvServe`). -/
theorem receive : Obligations.Receive := by
  rintro s e c _ w _ hi rfl ho hf hk hn rfl hlt hh hs hE hR
  have hc := s.issues_cancelled e c w hi
  obtain ⟨body, he, hb⟩ := exec_recvq hf hk hn ⟨hlt, hE, hR⟩ hh hs
  have hb := hb (s.fetched e c)
  rw [← s.fetched_eq e c] at hb
  generalize ((s.ctx e c).rg (wRa w)).toNat = n at *
  have hq : (s.touch iQUE).q n = s.q n := by rw [State.q, s.que_touch, State.q]
  have hqz : ((s.touch iQUE).engAs (s.fetched e c)).q n = s.q n := hq
  rw [he]
  have hm := mineTok_self ho hf
  refine ⟨fun q hb' => ?_, fun hb' hw => ?_, fun hb' hw => ?_⟩
  · rw [State.recvServe_some (by rw [hqz, hb']), State.recvTake_go, hq, s.now_touch] at hb
    exact State.row_go hi hm hb (State.quiet_trans _ _ _ e c
      (State.quiet_engAs (s.quiet_fetched e c) ((State.setQ_eng ..).trans (s.eng_touch iQUE))) (State.quiet_setCtx _ e c _))
      (State.ctx_setCtx_same ..) ((Ctx.wg_cancelled ..).trans hc)
  · rw [State.recvServe_none (by rw [hqz, hb']) hw, State.recvNone_go] at hb
    exact State.row_go hi hm hb (State.quiet_trans _ _ _ e c (State.quiet_engAs (s.quiet_fetched e c) (s.eng_touch _))
      (State.quiet_setCtx _ e c _)) (State.ctx_setCtx_same ..) ((Ctx.wg_cancelled ..).trans hc)
  · rw [State.recvServe_waits (by rw [hqz, hb']) hw] at hb
    obtain ⟨hmz, hwz, hx⟩ := State.recvWait_spec ((s.touch iQUE).engAs (s.fetched e c)) e c n w (s.ctx e c)
    generalize ((s.touch iQUE).engAs (s.fetched e c)).recvWait e c n w (s.ctx e c) = z at *
    obtain ⟨t, ht, hqt, hct⟩ := State.row_left hi hm hb (by rw [hx]; simp)
    have hqn : t.q n = z.q n := by rw [State.q, hqt.1, State.q]
    exact ⟨t, ht, ((State.quiet_mem _ _ e c hqt).trans hmz).trans (s.mem_touch _), by rw [hqn, hwz, hqz],
      by rw [hqn, hwz, hqz], (s.ctx e c).age, by rw [hct, hx]⟩

end Sys2Proof.Machine
end

section
/-! PROOFS. The ends of a task's work (R99, R100, R114, R135, R144): COMMIT, COMMIT.E, YIELD, ABORT and the confirmation. -/

namespace Sys2Proof.Machine

open Sys2Proof

/-! ### COMMIT -/

theorem mineTokM_self {w : BitVec 32} {fn : Nat} {m : Bool} (ho : wOp w = 0x40) (hf : wFn6 w = fn) (hm : wM w = m) :
    mineTokM w fn m (wOp w) = true := by
  simp [mineTokM, ho, hf, hm]

theorem tokFields_unmarked {w : BitVec 32} {rd ra rb x : Bool} (h : tokFields w rd ra rb x false = true) : wM w = false := by
  simp only [tokFields, Bool.and_eq_true, Bool.false_or, Bool.not_eq_true'] at h
  exact h.2

theorem State.eng_releaseAll (s : State) (src i gen k : Nat) (outs : List Out) :
    (s.releaseAll src i gen k outs).eng = s.eng := by
  have h : s.releaseAll src i gen k outs = (s.releaseAll src i gen k outs).engAs s := s.releaseAll_engAs s src i gen k outs
  rw [h]
  rfl

/-- COMMIT of an unflowed task releases its outbox and goes on. -/
theorem commit_releases {s : State} {e c : Nat} {w : BitVec 32} (hi : s.issues e c w) (ho : wOp w = 0x40)
    (ha : (s.ctx e c).atomic = false) (hd : (s.ctx e c).deferred = []) (hf : wFn6 w = 0x07)
    (hk : tokFields w false false false false false = true) (hb : (s.ctx e c).bound = false) :
    ∃ t : State, exec (.commit e w) s = .next t ∧
      (s.releaseAll (ep (iENG e) c) (s.ctx e c).inst (s.ctx e c).gen 0 (s.ctx e c).outbox).quiet t e c ∧
      s.went t e c { s.ctx e c with outbox := [] } ((s.ctx e c).pc + 4) := by
  obtain ⟨y, hy⟩ : ∃ y, y = { s.ctx e c with outbox := [] } := ⟨_, rfl⟩
  have hz := State.quiet_trans _ _ _ e c (s.quiet_fetched e c) (State.quiet_setCtx (s.fetched e c) e c y)
  have hx := State.ctx_setCtx_same (s.fetched e c) e c y
  have he : (s.fetched e c).setCtx e c y = s.engAs ((s.fetched e c).setCtx e c y) :=
    congrArg (fun t : State => t.setCtx e c y) (s.fetched_eq e c)
  have hbody : ∃ body, exec (.commit e w) s = .next (s.engExec e w (mineTokM w 0x07 false) body) ∧
      body (s.fetched e c) c (s.ctx e c) = .go (((s.fetched e c).setCtx e c y).releaseAll (ep (iENG e) c) (s.ctx e c).inst
        (s.ctx e c).gen 0 (s.ctx e c).outbox) ((s.ctx e c).pc + 4) := by
    refine ⟨_, rfl, (tokBody_ok hf hk _).trans ((notAtomic_ok ha w _).trans ((unflowedOnly_ok hb w _).trans
      ((State.syncM_ok (by rw [State.ctx_fetched, hd]) _).trans ?_)))⟩
    rw [hy]
  obtain ⟨body, hex, hbody⟩ := hbody
  rw [he, State.releaseAll_engAs] at hbody
  rw [hex, ← hy]
  refine State.row_go hi (mineTokM_self ho hf (tokFields_unmarked hk)) hbody (State.quiet_engAs hz (s.eng_releaseAll ..)) ?_ ?_
  · exact (State.ctx_congr _ _ e c rfl).trans hx
  · rw [hy]
    exact s.issues_cancelled e c w hi

/-! ### COMMIT.E and YIELD -/

/-- The context is COMMITTING: its instruction has retired and it has given up its outbox. -/
def State.committing (s : State) (e c : Nat) : State :=
  (s.retire e c ((s.ctx e c).pc + 4) false).setCtx e c
    { (s.retire e c ((s.ctx e c).pc + 4) false).ctx e c with st := 4, outbox := [], deferred := [] }

theorem State.ctx_committing (s : State) (e c : Nat) : (s.committing e c).ctx e c = { s.ctx e c with
    st := 4, outbox := [], deferred := [], pc := (s.ctx e c).pc + 4, retired := (s.ctx e c).retired + 1 } := by
  rw [State.committing, State.ctx_setCtx_same, State.ctx_retire]
  simp

theorem State.quiet_retire (s : State) (e c pc : Nat) (a : Bool) : s.quiet (s.retire e c pc a) e c :=
  State.quiet_trans _ _ _ e c (s.quiet_setCtx e c _) (State.quiet_setF _ e c _ _ (Or.inl rfl))

theorem State.quiet_committing (s : State) (e c : Nat) : s.quiet (s.committing e c) e c :=
  State.quiet_trans _ _ _ e c (s.quiet_retire e c _ _) (State.quiet_setCtx _ e c _)

/-- The commit job j of an activation of instance i is under way. -/
def State.jobTaken (s : State) (i : Nat) (j : CommitJob) : State :=
  { s.setInst i { s.inst i with st := 5 } with memc := { s.memc with commitJobs := s.memc.commitJobs ++ [j] } }

@[simp] theorem State.inst_setInst_same (s : State) (i : Nat) (d : Desc) : (s.setInst i d).inst i = d := Tab.get_set_same ..

theorem State.inst_setInst_ne (s : State) (i j : Nat) (d : Desc) (h : j ≠ i) : (s.setInst i d).inst j = s.inst j :=
  Tab.get_set_ne _ _ _ _ _ h

theorem State.jobTaken_spec (s : State) (i : Nat) (j : CommitJob) : (s.jobTaken i j).mem = s.mem ∧
    (s.jobTaken i j).sent = s.sent ∧ (s.jobTaken i j).qsent = s.qsent ∧ (s.jobTaken i j).eng = s.eng ∧
    (s.jobTaken i j).memc = { s.memc with commitJobs := s.memc.commitJobs ++ [j] } ∧
    (s.jobTaken i j).inst i = { s.inst i with st := 5 } :=
  ⟨rfl, rfl, rfl, rfl, rfl, s.inst_setInst_same ..⟩

/-- The outbox of a flow-bound task goes to the commit record under way. -/
theorem State.commitEnd_bound {s : State} {e c : Nat} (hb : (s.ctx e c).bound = true) (ends : Bool) :
    s.commitEnd e c ends = .left ((s.committing e c).jobTaken (s.ctx e c).inst ⟨e, c, (s.ctx e c).inst, (s.ctx e c).flow,
      (s.ctx e c).seq, (s.ctx e c).outbox, ends, s.now⟩) := by
  unfold State.commitEnd
  extract_lets r x z
  have hx : x = _ := s.ctx_retire e c ((s.ctx e c).pc + 4) false
  have hz : s.committing e c = z := rfl
  have hn : s.now = z.now := rfl
  rw [if_pos (by rw [hx]; exact hb), hz, hn]
  clear_value z x
  subst hx
  rfl

/-- The outbox of an unflowed task leaves at once. -/
theorem State.commitEnd_unbound {s : State} {e c : Nat} (hb : (s.ctx e c).bound = false) (ends : Bool) :
    s.commitEnd e c ends = .left (((s.committing e c).releaseAll (ep (iENG e) c) (s.ctx e c).inst (s.ctx e c).gen 0
      (s.ctx e c).outbox).endReleased (s.ctx e c).inst 0 ends) := by
  have hx := s.ctx_retire e c ((s.ctx e c).pc + 4) false
  have h : s.commitEnd e c ends =
      .left (((s.committing e c).releaseAll (ep (iENG e) c) _ _ 0 _).endReleased _ 0 ends) :=
    if_neg (by rw [hx]; simp [hb])
  rw [hx] at h
  exact h

/-- What nothing but the engine's own state changing leaves as it was. -/
theorem State.quiet_outputs {s t : State} {e c : Nat} (h : s.quiet t e c) :
    t.sent = s.sent ∧ t.qsent = s.qsent ∧ t.memc = s.memc ∧ ∀ i, t.inst i = s.inst i := by
  refine ⟨?_, ?_, ?_, fun i => ?_⟩
  · rw [h.1]
  · rw [h.1]
  · rw [h.1]
  · rw [State.inst, h.1]
    rfl

theorem State.now_quiet {s t : State} {e c : Nat} (h : s.quiet t e c) : t.now = s.now := by
  rw [State.now, h.1, State.now]

/-! The activation of an unflowed task has ended (R135, R144). -/

theorem State.completion_eq (s : State) (i seq status : Nat) :
    s.completion i seq status = { s with sent := (s.completion i seq status).sent } := by
  unfold State.completion
  extract_lets d
  split <;> rfl

/-- The completion depends on the instance and on what has left before. -/
theorem State.sent_completion_congr {s t : State} {i : Nat} (hs : t.sent = s.sent) (hi : t.inst i = s.inst i)
    (seq status : Nat) : (t.completion i seq status).sent = (s.completion i seq status).sent := by
  unfold State.completion
  rw [hi]
  extract_lets d
  split
  · exact congrArg (· ++ _) hs
  · exact hs

theorem State.nextState_inst (s : State) (i : Nat) (d : Desc) : ∃ st age,
    (s.nextState i d).inst i = { d with st := st, age := age } ∧ (st = 2 ∨ st = 3) := by
  unfold State.nextState
  split
  · exact ⟨3, _, State.inst_setInst_same .., .inr rfl⟩
  · exact ⟨2, d.age, State.inst_setInst_same .., .inl rfl⟩

/-- Beside the completion the end of an activation reaches the Dugout alone. -/
theorem State.endReleased_eq (s : State) (i seq : Nat) (ends : Bool) :
    ∃ d : DugSt, s.endReleased i seq ends = { s.completion i seq cOK with dug := d } := by
  unfold State.endReleased
  extract_lets z d
  split
  · split <;> exact ⟨_, rfl⟩
  · unfold State.nextState
    split <;> exact ⟨_, rfl⟩

theorem State.endReleased_inst (s : State) (i seq : Nat) (ends : Bool) :
    (ends = true → (s.inst i).flowBound = false → (s.inst i).kind ≠ 2 →
      ((s.endReleased i seq ends).inst i).st = 6 ∧ ((s.endReleased i seq ends).inst i).toks = []) ∧
    (ends = false → (((s.endReleased i seq ends).inst i).st = 2 ∨ ((s.endReleased i seq ends).inst i).st = 3) ∧
      ((s.endReleased i seq ends).inst i).toks = (s.inst i).toks) := by
  have hi : (s.completion i seq cOK).inst i = s.inst i := by
    rw [s.completion_eq]
    rfl
  unfold State.endReleased
  extract_lets z x d
  have hx : x = s.inst i := hi
  have hd : d = { x with item := none, moved := [], attempt := 0 } := rfl
  clear_value d x z
  subst hd
  rw [← hx]
  refine ⟨fun he hf hk => ?_, fun he => ?_⟩
  · have hf' : Desc.flowBound { x with item := none, moved := [], attempt := 0 } = false := hf
    have hk' : Desc.kind { x with item := none, moved := [], attempt := 0 } ≠ 2 := hk
    rw [if_pos (by rw [he, hf']; rfl), if_neg hk', State.inst_setInst_same]
    exact ⟨rfl, rfl⟩
  · rw [if_neg (by simp [he])]
    obtain ⟨st, age, hn, hst⟩ := z.nextState_inst i { x with item := none, moved := [], attempt := 0 }
    rw [hn]
    exact ⟨hst, rfl⟩

/-- The same release from two states that differ in the engine. -/
theorem State.releaseAll_quiet {s z : State} {e c : Nat} (hz : s.quiet z e c) {outs : List Out}
    (h : ∀ o ∈ outs, o.typ = 1 ∨ o.typ = 2) (src i gen k : Nat) :
    (z.releaseAll src i gen k outs).sent = (s.releaseAll src i gen k outs).sent ∧
      (z.releaseAll src i gen k outs).qsent = (s.releaseAll src i gen k outs).qsent ∧
      (z.releaseAll src i gen k outs).mem = s.mem ∧
      (∀ j, (z.releaseAll src i gen k outs).inst j = s.inst j) ∧ ∀ j, (s.releaseAll src i gen k outs).inst j = s.inst j := by
  obtain ⟨hs, hq, -, hi⟩ := State.quiet_outputs hz
  rw [z.releaseAll_eq _ _ _ _ _ h, s.releaseAll_eq _ _ _ _ _ h]
  exact ⟨congrArg (· ++ _) hs, congrArg (· ++ _) hq, State.quiet_mem s z e c hz, hi, fun _ => rfl⟩

/-- COMMIT.E and YIELD with their premises met end the activation. -/
theorem exec_commitE {s : State} {e c : Nat} {w : BitVec 32} (ha : (s.ctx e c).atomic = false)
    (hd : (s.ctx e c).deferred = []) (hf : wFn6 w = 0x07) (hk : tokFields w false false false false true = true) :
    ∃ body, exec (.commitE e w) s = .next (s.engExec e w (mineTokM w 0x07 true) body) ∧
      body (s.fetched e c) c (s.ctx e c) = (s.fetched e c).commitEnd e c true :=
  ⟨_, rfl, (tokBody_ok hf hk _).trans ((notAtomic_ok ha w _).trans (State.syncM_ok (by rw [State.ctx_fetched, hd]) _))⟩

theorem exec_yield {s : State} {e c : Nat} {w : BitVec 32} (ha : (s.ctx e c).atomic = false)
    (hd : (s.ctx e c).deferred = []) (hf : wFn6 w = 0x08) (hk : tokFields w false false false false false = true) :
    ∃ body, exec (.yield e w) s = .next (s.engExec e w (mineTok w 0x08) body) ∧
      body (s.fetched e c) c (s.ctx e c) = (s.fetched e c).commitEnd e c false :=
  ⟨_, rfl, (tokBody_ok hf hk _).trans ((notAtomic_ok ha w _).trans (State.syncM_ok (by rw [State.ctx_fetched, hd]) _))⟩

section
variable {s : State} {e c : Nat} {w : BitVec 32} {mine : Nat → Bool} {body : State → Nat → Ctx → ERes} {ends : Bool}
  (hi : s.issues e c w) (hm : mine (wOp w) = true)
  (hbody : body (s.fetched e c) c (s.ctx e c) = (s.fetched e c).commitEnd e c ends)
include hi hm hbody

/-- The end of an activation of a flow-bound task (R99, R100). -/
theorem commitEnd_row_bound (hb : (s.ctx e c).bound = true) :
    ∃ t : State, ∃ age : Nat, Host.Outcome.next (σ := State) (φ := Fault) (ρ := Refusal) (s.engExec e w mine body) = .next t ∧
      t.mem = s.mem ∧ t.sent = s.sent ∧ t.qsent = s.qsent ∧
      t.memc = { s.memc with commitJobs := s.memc.commitJobs ++ [⟨e, c, (s.ctx e c).inst, (s.ctx e c).flow, (s.ctx e c).seq,
        (s.ctx e c).outbox, ends, s.now⟩] } ∧
      t.inst (s.ctx e c).inst = { s.inst (s.ctx e c).inst with st := 5 } ∧
      t.ctx e c = { s.ctx e c with
        st := 4, outbox := [], deferred := [], age := age, pc := (s.ctx e c).pc + 4, retired := (s.ctx e c).retired + 1 } := by
  rw [State.commitEnd_bound (by rw [State.ctx_fetched, hb]), State.ctx_fetched, State.now_quiet (s.quiet_fetched e c)] at hbody
  have hc := (s.fetched e c).ctx_committing e c
  rw [State.ctx_fetched] at hc
  have hz := State.quiet_trans _ _ _ e c (s.quiet_fetched e c) ((s.fetched e c).quiet_committing e c)
  generalize (s.fetched e c).committing e c = z at *
  obtain ⟨hs, hq, hmc, hin⟩ := State.quiet_outputs hz
  obtain ⟨hm', hs', hq', he', hc', hi'⟩ := z.jobTaken_spec (s.ctx e c).inst ⟨e, c, (s.ctx e c).inst, (s.ctx e c).flow,
    (s.ctx e c).seq, (s.ctx e c).outbox, ends, s.now⟩
  rw [hin] at hi'
  rw [hmc] at hc'
  generalize z.jobTaken _ _ = y at *
  have hyc := (State.ctx_congr z y e c he').trans hc
  obtain ⟨t, ht, hqt, hct⟩ := State.row_left hi hm hbody (by rw [hyc]; simp)
  obtain ⟨hts, htq, htm, hti⟩ := State.quiet_outputs hqt
  exact ⟨t, (s.ctx e c).age, ht, ((State.quiet_mem _ _ e c hqt).trans hm').trans (State.quiet_mem _ _ e c hz),
    (hts.trans hs').trans hs, (htq.trans hq').trans hq, htm.trans hc', (hti _).trans hi', hct.trans hyc⟩

/-- The end of an activation of an unflowed task (R99, R135, R144). -/
theorem commitEnd_row_unbound (hb : (s.ctx e c).bound = false) (ho : ∀ o ∈ (s.ctx e c).outbox, o.typ = 1 ∨ o.typ = 2) :
    ∃ t : State, ∃ age : Nat, Host.Outcome.next (σ := State) (φ := Fault) (ρ := Refusal) (s.engExec e w mine body) = .next t ∧
      t.mem = s.mem ∧
      t.sent = ((s.releaseAll (ep (iENG e) c) (s.ctx e c).inst (s.ctx e c).gen 0 (s.ctx e c).outbox).completion
        (s.ctx e c).inst 0 cOK).sent ∧
      t.qsent = (s.releaseAll (ep (iENG e) c) (s.ctx e c).inst (s.ctx e c).gen 0 (s.ctx e c).outbox).qsent ∧
      (ends = true → (s.inst (s.ctx e c).inst).flowBound = false → (s.inst (s.ctx e c).inst).kind ≠ 2 →
        (t.inst (s.ctx e c).inst).st = 6 ∧ (t.inst (s.ctx e c).inst).toks = []) ∧
      (ends = false → ((t.inst (s.ctx e c).inst).st = 2 ∨ (t.inst (s.ctx e c).inst).st = 3) ∧
        (t.inst (s.ctx e c).inst).toks = (s.inst (s.ctx e c).inst).toks) ∧
      t.ctx e c = { s.ctx e c with
        st := 4, outbox := [], deferred := [], age := age, pc := (s.ctx e c).pc + 4, retired := (s.ctx e c).retired + 1 } := by
  rw [State.commitEnd_unbound (by rw [State.ctx_fetched, hb]), State.ctx_fetched] at hbody
  have hc := (s.fetched e c).ctx_committing e c
  rw [State.ctx_fetched] at hc
  have hz := State.quiet_trans _ _ _ e c (s.quiet_fetched e c) ((s.fetched e c).quiet_committing e c)
  generalize (s.fetched e c).committing e c = z at *
  obtain ⟨hs, hq, hm', hzi, hsi⟩ := State.releaseAll_quiet hz ho (ep (iENG e) c) (s.ctx e c).inst (s.ctx e c).gen 0
  have hR := z.eng_releaseAll (ep (iENG e) c) (s.ctx e c).inst (s.ctx e c).gen 0 (s.ctx e c).outbox
  generalize z.releaseAll _ _ _ _ _ = r at *
  have hsent := State.sent_completion_congr hs ((hzi (s.ctx e c).inst).trans (hsi _).symm) 0 cOK
  generalize s.releaseAll _ _ _ _ _ = q at *
  obtain ⟨h6, h23⟩ := r.endReleased_inst (s.ctx e c).inst 0 ends
  rw [hzi] at h6 h23
  obtain ⟨d, hd⟩ := r.endReleased_eq (s.ctx e c).inst 0 ends
  rw [r.completion_eq] at hd
  generalize r.endReleased (s.ctx e c).inst 0 ends = y at *
  have hyc : y.ctx e c = _ := (State.ctx_congr z y e c (by rw [hd, ← hR])).trans hc
  obtain ⟨t, ht, hqt, hct⟩ := State.row_left hi hm hbody (by rw [hyc]; simp)
  obtain ⟨hts, htq, htm, hti⟩ := State.quiet_outputs hqt
  rw [← hti] at h6 h23
  refine ⟨t, (s.ctx e c).age, ht, (State.quiet_mem _ _ e c hqt).trans ?_, hts.trans ?_, htq.trans ?_, h6, h23, hct.trans hyc⟩
  · rw [hd, ← hm']
  · rw [hd, ← hsent]
  · rw [hd, ← hq]

end

end Sys2Proof.Machine
end

section
namespace Sys2Proof.Machine

open Sys2Proof

/-! ### ABORT (R104, R114) -/

/-- From s to t memory, what has left for the queues and the instances are as they were: what held words that go back and
contexts that change their place in the order of issue leave alone. -/
structure State.handsBack (s t : State) : Prop where
  mem : t.mem = s.mem
  qsent : t.qsent = s.qsent
  inst : ∀ i, t.inst i = s.inst i

theorem State.handsBack.refl (s : State) : s.handsBack s := ⟨rfl, rfl, fun _ => rfl⟩

theorem State.handsBack.trans {s t u : State} (h : s.handsBack t) (k : t.handsBack u) : s.handsBack u :=
  ⟨k.mem.trans h.mem, k.qsent.trans h.qsent, fun i => (k.inst i).trans (h.inst i)⟩

theorem State.handsBack.of_quiet {s t : State} {e c : Nat} (h : s.quiet t e c) : s.handsBack t :=
  ⟨State.quiet_mem s t e c h, (State.quiet_outputs h).2.1, (State.quiet_outputs h).2.2.2⟩

theorem State.handsBack_foldl {α : Type} {f : State → α → State} (hf : ∀ (s : State) a, s.handsBack (f s a)) (l : List α)
    (s : State) : s.handsBack (l.foldl f s) :=
  List.foldlRecOn (motive := fun t => s.handsBack t) l _ (.refl s) fun t ht a _ => ht.trans (hf t a)

theorem State.handsBack_setQ (s : State) (n : Nat) (x : Queue) : s.handsBack (s.setQ n x) := ⟨rfl, rfl, fun _ => rfl⟩

theorem State.handsBack_qMark (s : State) (n : Nat) : s.handsBack (s.qMark n) := by
  unfold State.qMark
  split
  · exact ⟨rfl, rfl, fun _ => rfl⟩
  · exact .refl s

theorem State.handsBack_giveWord (s : State) (n : Nat) (w : QWait) (x : QEnt) : s.handsBack (s.giveWord n w x) := by
  unfold State.giveWord
  extract_lets q c held s₁ y s₂
  have h₁ : s.handsBack s₁ := s.handsBack_setQ n _
  clear_value s₁ y
  have h₂ : s₁.handsBack s₂ := .of_quiet (s₁.quiet_setCtx w.eng w.ctx _)
  clear_value s₂
  exact ((h₁.trans h₂).trans (s₂.handsBack_qMark n)).trans (.of_quiet (State.makeRunnable_spec _ w.eng w.ctx).1)

theorem State.handsBack_putWord (s : State) (n : Nat) (x : QEnt) : s.handsBack (s.putWord n x) := by
  unfold State.putWord
  extract_lets q first s₁ s₂
  have h₁ : s.handsBack s₁ := s.handsBack_setQ n _
  clear_value s₁
  have h₂ : s.handsBack s₂ := h₁.trans (s₁.handsBack_qMark n)
  clear_value s₂
  split
  · exact h₂.trans ⟨rfl, rfl, fun _ => rfl⟩
  · exact h₂

theorem State.handsBack_returnWord (s : State) (n : Nat) (h : QHeld) : s.handsBack (s.returnWord n h) := by
  unfold State.returnWord
  extract_lets q s₁ x
  have h₁ : s.handsBack s₁ := s.handsBack_setQ n _
  clear_value s₁
  split
  · exact h₁.trans (s₁.handsBack_giveWord n _ x)
  · exact h₁.trans (s₁.handsBack_putWord n x)

theorem State.handsBack_returnHeld (s : State) (e c : Nat) : s.handsBack (s.returnHeld e c) :=
  State.handsBack_foldl (fun t n => State.handsBack_foldl (fun u h => u.handsBack_returnWord n h) _ t) _ s

theorem State.handsBack_unwait (s : State) (e c : Nat) : s.handsBack (s.unwait e c) :=
  State.handsBack_foldl (fun t n => t.handsBack_setQ n _) _ s

theorem State.freeCtx_spec (s : State) (e c : Nat) :
    s.quiet (s.freeCtx e c) e c ∧ (s.freeCtx e c).ctx e c = Ctx.empty := by
  have hx := s.ctx_setCtx_same e c Ctx.empty
  refine ⟨State.quiet_trans _ _ _ e c (s.quiet_setCtx e c _) (State.quiet_pickNext _ e c), ?_⟩
  rw [State.freeCtx, State.ctx_pickNext_of_st (by rw [hx]; decide), hx]

/-- A reservation goes back: its instance is FREE again, with the generation before (R106). -/
def State.unreserve (s : State) (i : Nat) : State :=
  let t := s.setInst i { Desc.free with gen := ((s.inst i).gen + 15) % 16 }
  { t with dug := { t.dug with freed := t.dug.freed.filter (· != i) ++ [i] } }

/-- No instance becomes flow-bound by that. -/
theorem State.unreserve_spec (s : State) (i : Nat) : (s.unreserve i).mem = s.mem ∧ (s.unreserve i).qsent = s.qsent ∧
    ∀ j, (s.inst j).flowBound = false → ((s.unreserve i).inst j).flowBound = false := by
  have hd : ∀ g, Desc.flowBound { Desc.free with gen := g } = false :=
    fun _ => show bit 0 44 = false by decide
  unfold State.unreserve
  generalize ((s.inst i).gen + 15) % 16 = g
  extract_lets d t
  have hm : t.mem = s.mem := rfl
  have hq : t.qsent = s.qsent := rfl
  have hi : ∀ j, (s.inst j).flowBound = false → (t.inst j).flowBound = false := fun j h => by
    by_cases hj : j = i
    · rw [hj, State.inst_setInst_same, hd]
    · rwa [State.inst_setInst_ne _ _ _ _ hj]
  clear_value t
  exact ⟨hm, hq, hi⟩

/-- The reservations of a discarded outbox go back. -/
theorem State.discardSpawns_spec (s : State) (outs : List Out) : (s.discardSpawns outs).mem = s.mem ∧
    (s.discardSpawns outs).qsent = s.qsent ∧
    ∀ i, (s.inst i).flowBound = false → ((s.discardSpawns outs).inst i).flowBound = false := by
  have h : s.discardSpawns outs = outs.foldl (fun t o => if o.typ = 3 then
      if (t.inst (o.tag % 65536)).st = 1 then t.unreserve (o.tag % 65536) else t else t) s := rfl
  rw [h]
  refine List.foldlRecOn (motive := fun t : State => t.mem = s.mem ∧ t.qsent = s.qsent ∧
    ∀ i, (s.inst i).flowBound = false → (t.inst i).flowBound = false) outs _ ⟨rfl, rfl, fun _ h => h⟩ fun t ht o _ => ?_
  split
  · split
    · obtain ⟨hm, hq, hi⟩ := ht
      obtain ⟨um, uq, ui⟩ := t.unreserve_spec (o.tag % 65536)
      exact ⟨um.trans hm, uq.trans hq, fun i hb => ui i (hi i hb)⟩
    · exact ht
  · exact ht

theorem State.discard_spec (s : State) (e c : Nat) : (s.discard e c).mem = s.mem ∧ (s.discard e c).qsent = s.qsent ∧
    (s.discard e c).ctx e c = Ctx.empty ∧
    ∀ i, (s.inst i).flowBound = false → ((s.discard e c).inst i).flowBound = false := by
  obtain ⟨hm, hq, hi⟩ := s.discardSpawns_spec (s.ctx e c).outbox
  unfold State.discard
  extract_lets x
  have hb := (State.handsBack_unwait (s.discardSpawns x.outbox) e c).trans (State.handsBack_returnHeld _ e c)
  obtain ⟨hf, hc⟩ := State.freeCtx_spec (((s.discardSpawns x.outbox).unwait e c).returnHeld e c) e c
  have hb := hb.trans (.of_quiet hf)
  exact ⟨hb.mem.trans hm, hb.qsent.trans hq, hc, fun i h => by rw [hb.inst]; exact hi i h⟩

/-- The end of a cancelled activation that serves no flow reaches the Dugout and its completion alone. -/
theorem State.endCancelled_unbound {s : State} {i : Nat} (h : (s.inst i).flowBound = false) :
    ∃ l d, s.endCancelled i = { s with sent := l, dug := d } := by
  unfold State.endCancelled
  extract_lets x
  have hx : (if x.flowBound = true then x.item else none) = none := if_neg (by rw [show x = s.inst i from rfl, h]; simp)
  rw [hx, s.completion_eq]
  simp only
  unfold State.endInst
  extract_lets y
  split
  · exact ⟨_, _, rfl⟩
  · split
    · unfold State.nextState
      split <;> exact ⟨_, _, rfl⟩
    · exact ⟨_, _, rfl⟩

/-- An abort of an unflowed task: its context is EMPTY, and neither memory nor a queue word moves. -/
theorem State.abortCtx_spec (s : State) (e c cause pc : Nat) (double : Bool)
    (h : (s.inst (s.ctx e c).inst).flowBound = false) : (s.abortCtx e c cause pc double).mem = s.mem ∧
    (s.abortCtx e c cause pc double).qsent = s.qsent ∧ (s.abortCtx e c cause pc double).ctx e c = Ctx.empty := by
  unfold State.abortCtx
  extract_lets x s₁ s₂
  obtain ⟨hm, hq, hc, hi⟩ : s₁.mem = s.mem ∧ s₁.qsent = s.qsent ∧ s₁.ctx e c = Ctx.empty ∧ _ := s.discard_spec e c
  have hi : (s₁.inst x.inst).flowBound = false := hi x.inst h
  obtain ⟨n, g, b, r, hs, -⟩ : ∃ n g b r, s₂ = { s₁ with fresh := n, scb := g, cell := b, regs := r } ∧ _ := s₁.stage_eq _ _
  clear_value s₂ s₁
  have hm₂ : s₂.mem = s₁.mem := by rw [hs]
  have hq₂ : s₂.qsent = s₁.qsent := by rw [hs]
  have hc₂ : s₂.ctx e c = s₁.ctx e c := State.ctx_congr s₁ s₂ e c (by rw [hs])
  have hi₂ : s₂.inst x.inst = s₁.inst x.inst := by
    rw [hs]
    rfl
  obtain ⟨l, d, he⟩ := State.endCancelled_unbound (s := s₂) (i := x.inst) (by rw [hi₂, hi])
  rw [he]
  exact ⟨hm₂.trans hm, hq₂.trans hq, hc₂.trans hc⟩

theorem abort_empties {s : State} {e c : Nat} {w : BitVec 32} (hi : s.issues e c w) (ho : wOp w = 0x40)
    (hf : wFn6 w = 0x0D) (hk : tokFields w false false false false false = true)
    (hb : (s.inst (s.ctx e c).inst).flowBound = false) :
    ∃ t : State, exec (.abort e w) s = .next t ∧ t.mem = s.mem ∧ t.qsent = s.qsent ∧ t.ctx e c = Ctx.empty := by
  have hz := State.quiet_trans _ _ _ e c (s.quiet_fetched e c)
    ((s.fetched e c).quiet_retire e c ((s.ctx e c).pc + 4) (s.ctx e c).atomic)
  have hx : (((s.fetched e c).retire e c ((s.ctx e c).pc + 4) (s.ctx e c).atomic).ctx e c).inst = (s.ctx e c).inst := by
    rw [State.ctx_retire, State.ctx_fetched]
  have hzb : ((((s.fetched e c).retire e c ((s.ctx e c).pc + 4) (s.ctx e c).atomic)).inst
      (((s.fetched e c).retire e c ((s.ctx e c).pc + 4) (s.ctx e c).atomic).ctx e c).inst).flowBound = false := by
    rw [hx, (State.quiet_outputs hz).2.2.2, hb]
  obtain ⟨hm, hq, hc⟩ := State.abortCtx_spec _ e c
    (if (s.ctx e c).handler then (s.ctx e c).trapCause % 256 else 0) (s.ctx e c).trapPc false hzb
  obtain ⟨body, hex, hbody⟩ : ∃ body, exec (.abort e w) s = .next (s.engExec e w (mineTok w 0x0D) body) ∧
      body (s.fetched e c) c (s.ctx e c) = .left
        (((s.fetched e c).retire e c ((s.ctx e c).pc + 4) (s.ctx e c).atomic).abortCtx e c
          (if (s.ctx e c).handler then (s.ctx e c).trapCause % 256 else 0) (s.ctx e c).trapPc false) :=
    ⟨_, rfl, tokBody_ok hf hk _⟩
  rw [hex]
  obtain ⟨t, ht, hqt, hct⟩ := State.row_left hi (mineTok_self ho hf) hbody (by rw [hc]; decide)
  exact ⟨t, ht, (State.quiet_mem _ _ e c hqt).trans (hm.trans (State.quiet_mem _ _ e c hz)),
    (State.quiet_outputs hqt).2.1.trans (hq.trans (State.quiet_outputs hz).2.1), hct.trans hc⟩

/-! ### The confirmation (R68) -/

theorem commitConfirm_frees {s : State} {e c : Nat} (h : (s.ctx e c).st = 4) (hj : s.memc.commitJobs = []) (ha : s.acts = []) :
    ∃ t : State, exec (.commitConfirm e c) s = .next t ∧ t.mem = s.mem ∧ t.sent = s.sent ∧ t.qsent = s.qsent ∧
      t.ctx e c = Ctx.empty := by
  have he : exec (.commitConfirm e c) s = .next (s.freeCtx e c) := congrArg Host.Outcome.next (if_pos (by simp [h, hj, ha]))
  obtain ⟨hf, hc⟩ := s.freeCtx_spec e c
  obtain ⟨hs, hq, -, -⟩ := State.quiet_outputs hf
  exact ⟨_, he, State.quiet_mem _ _ e c hf, hs, hq, hc⟩

/-- Settles O20, one lemma per instruction. -/
theorem commits : Obligations.Commits := by
  rintro s e c w _ rfl
  refine ⟨fun hi ho ha hd => ⟨commit_releases hi ho ha hd, fun hf hm hk hb => ?_, fun hf hk hb => ?_,
    fun hf hm hk hb hout hfb hkd => ?_, fun hf hk hb hout => ?_⟩, abort_empties, commitConfirm_frees⟩
  · obtain ⟨body, hx, hbody⟩ := exec_commitE ha hd hf hk
    rw [hx]
    exact commitEnd_row_bound hi (mineTokM_self ho hf hm) hbody hb
  · obtain ⟨body, hx, hbody⟩ := exec_yield ha hd hf hk
    rw [hx]
    exact commitEnd_row_bound hi (mineTok_self ho hf) hbody hb
  · obtain ⟨body, hx, hbody⟩ := exec_commitE ha hd hf hk
    obtain ⟨t, age, ht, hme, hs, hq, h6, -, hc⟩ :=
      commitEnd_row_unbound hi (mineTokM_self ho hf hm) hbody hb hout
    obtain ⟨hst, htk⟩ := h6 rfl hfb hkd
    exact ⟨t, age, hx.trans ht, hme, hs, hq, hst, htk, hc⟩
  · obtain ⟨body, hx, hbody⟩ := exec_yield ha hd hf hk
    obtain ⟨t, age, ht, hme, hs, hq, -, h23, hc⟩ :=
      commitEnd_row_unbound hi (mineTok_self ho hf) hbody hb hout
    obtain ⟨hst, htk⟩ := h23 rfl
    exact ⟨t, age, hx.trans ht, hme, hs, hq, hst, htk, hc⟩

end Sys2Proof.Machine
end

section
/-! PROOFS. The Dugout's answer to a context in an atomic section (R79, R106): the section's instructions are not counted. -/

namespace Sys2Proof.Machine

open Sys2Proof

/-- A section has no preemption point. -/
theorem State.boundary_atomic {s : State} {e c : Nat} (h : (s.ctx e c).atomic = true) : s.boundary e c = s :=
  if_pos h

@[simp] theorem Ctx.wg_left (x : Ctx) (r : Nat) (v : BitVec 64) : (x.wg r v).left = x.left := by
  unfold Ctx.wg
  split <;> rfl

/-- An instruction of a section counts (R79). -/
theorem State.went_left {s t : State} {e c pc : Nat} {y : Ctx} (h : s.went t e c y pc) (hs : (s.ctx e c).atomic = true)
    (hy : y.atomic = true) : (t.ctx e c).left = y.left - 1 := by
  obtain ⟨st, age, hx⟩ := h
  rw [hx]
  simp [hs, hy]

/-- The retirement of an answered SPAWN or CANCEL takes nothing off what is left of a section. -/
theorem State.left_answered {s : State} {e c : Nat} (h : (s.ctx e c).atomic = true) (rd v : Nat) (outs : List Out) :
    ((s.answered e c rd v outs).ctx e c).left = (s.ctx e c).left := by
  unfold State.answered
  extract_lets x pc y t
  have ht : t.ctx e c = { x.wg rd (BitVec.ofNat 64 v) with ask := none, outbox := x.outbox ++ outs } := s.ctx_setCtx_same ..
  have hr := t.ctx_retire e c pc false
  have ha : ((t.retire e c pc false).ctx e c).atomic = true := by
    rw [hr, ht]
    exact (Ctx.wg_atomic ..).trans h
  rw [State.boundary_atomic ha, hr, ht]
  simp [x]

/-- A SPAWN of a number past the templates is answered NOT_FOUND. -/
theorem exec_dugoutAnswer_unknown {s : State} {e c rd a : Nat} (hd : s.ist iDUG ≠ 4) (he : s.engOn e = true)
    (hx : (s.ctx e c).ask = some (.spawn rd a)) (ha : 4096 ≤ a) :
    exec (.dugoutAnswer e c) s = .next ((s.touch iDUG).answered e c rd (2 ^ 63 + cNOT_FOUND) []) := by
  have hr : (s.touch iDUG).spawnReserve a = (2 ^ 63 + cNOT_FOUND, none, s.touch iDUG) := if_pos (.inl ha)
  refine congrArg Host.Outcome.next ((if_neg (by simp [hd, he])).trans ?_)
  simp only [hx, hr]

/-- A context inside a section of which five instructions are left waits for the answer to a SPAWN. -/
def sectionAsk : State := State.reset.setCtx 0 0 { Ctx.empty with atomic := true, left := 5, ask := some (.spawn 1 4096) }

theorem sectionAsk_ctx : sectionAsk.ctx 0 0 =
    { Ctx.empty with atomic := true, left := 5, ask := some (.spawn 1 4096) } :=
  State.ctx_setCtx_same ..

/-- Refutes O19: the statement's clause on DUGOUT_ANSWER does not ask for a context outside a section; for one inside,
`State.went` takes one off the instructions the section has left, which the answer leaves as they are. -/
theorem not_dugoutAsks : ¬ Obligations.DugoutAsks := by
  intro h
  obtain ⟨-, hans⟩ := h sectionAsk 0 0 4096 0 _ sectionAsk_ctx
  obtain ⟨hunknown, -, -⟩ := hans (by decide) (by decide) rfl
  obtain ⟨t, ht, -, hw⟩ := hunknown 1 rfl (.inl (by decide))
  have hx := sectionAsk_ctx
  have hc : (sectionAsk.touch iDUG).ctx 0 0 = sectionAsk.ctx 0 0 := State.ctx_congr _ _ 0 0 (sectionAsk.eng_touch iDUG)
  rw [exec_dugoutAnswer_unknown (by decide) (by decide) (congrArg Ctx.ask hx) (by decide)] at ht
  obtain rfl := Host.Outcome.next.inj ht
  have hwent := State.went_left hw (congrArg Ctx.atomic hx) ((Ctx.wg_atomic ..).trans rfl)
  have hleft := State.left_answered ((congrArg Ctx.atomic hc).trans (congrArg Ctx.atomic hx)) 1 (2 ^ 63 + cNOT_FOUND) []
  have h5 : ((sectionAsk.touch iDUG).ctx 0 0).left = 5 := (congrArg Ctx.left hc).trans (congrArg Ctx.left hx)
  rw [hleft, h5] at hwent
  exact absurd (hwent.trans (congrArg (· - 1) (Ctx.wg_left ..))) (by decide)

end Sys2Proof.Machine
end

section
/-! PROOFS. The clock points of an engine (R119, R120): a write of ENG_DVFS, and the end of a step. -/

namespace Sys2Proof.Machine

open Sys2Proof

theorem islandRegs_eng {e : Nat} (he : e < 16) : islandRegs (0x10 + e) = regTabEng := by
  interval_cases e <;> rfl

/-- The map's entry of ENG_DVFS. -/
def dvfsReg : RegD :=
  ⟨0x24, 4, 1, 1, 1, 1, [⟨17, 1, .ro, []⟩, ⟨16, 1, .ro, []⟩, ⟨8, 3, .ro, []⟩, ⟨0, 3, .rw, [(0, 5)]⟩]⟩

theorem regAt_eng {a o e : Nat} {r : RegD} (he : e < 16) (ha : a = 0x0200000000 + (0x10 + e) * 0x10000 + o) (ho : o < 0x10000)
    (hr : findReg (regTabPrefix ++ regTabEng) o = some (r, o)) : regAt a = some (r, a) := by
  have hi : (a - 0x0200000000) / 0x10000 = 0x10 + e := by omega
  have hm : a % 0x10000 = o := by omega
  have hl : regList a = (regTabPrefix ++ regTabEng, o) := by
    rw [regList, if_pos (by omega), hi, hm, islandRegs_eng he]
  simp [regAt, hl, hr]

theorem regAt_DVFS {e : Nat} (he : e < 16) : regAt (0x0200100024 + e * 0x10000) =
    some (dvfsReg, 0x0200100024 + e * 0x10000) :=
  regAt_eng he (by omega) (o := 0x24) (by omega) rfl

/-- A request for one of the six points is taken. -/
theorem State.regW_DVFS {e v : Nat} (he : e < 16) (hv : v < 6) (s : State) (req : Nat) :
    s.regW (iENG e) req (0x0200100024 + e * 0x10000) v = (cOK, s.setF (ENG_DVFS_REQ e) v) := by
  have hd : (⟨0, 3, .rw, [(0, 5)]⟩ : FieldD).val v = v := by
    simp only [FieldD.val]
    omega
  refine (State.regW_taken (regAt_DVFS he) ?_ rfl s _ req).trans ?_
  · simp only [legalWrite, dvfsReg, List.all_cons, List.all_nil, hd]
    simp
    omega
  · exact congrArg (fun n => (cOK, s.setF (ENG_DVFS_REQ e) n)) hd

theorem exec_dvfsRequest {s : State} {e v : Nat} (hs : s.serves (iENG e) = true) (he : e < 16) (hv : v < 6) (req : Nat) :
    exec (.dvfsRequest req e v) s = .next (((s.setF (ENG_DVFS_REQ e) v).dvfsApply e).ans cOK) := by
  have hr : s.dvfsWrite req e v = (cOK, (s.setF (ENG_DVFS_REQ e) v).dvfsApply e) := by
    rw [State.dvfsWrite, State.regW_DVFS he hv]
    rfl
  have hi : s.ist (iENG e) ≠ 5 ∧ s.ist (iENG e) ≠ 0 := by
    obtain h | h := State.serves_ist hs <;> simp [h]
  have hE : 0x10 ≤ iENG e ∧ iENG e < 0x20 := by
    simp only [iENG]
    omega
  exact (if_neg hi.1).trans ((if_neg hi.2).trans ((if_neg (by simp [State.holds_serves hs])).trans
    (by simp only [hr, hE, and_self, if_true]; rfl)))

/-- The four fields of ENG_DVFS stand at places of their own. -/
theorem DVFS_keys (e : Nat) : (ENG_DVFS_CAPPED e).key = (ENG_DVFS_REQ e).key + 16 ∧
    (ENG_DVFS_CUR e).key = (ENG_DVFS_REQ e).key + 8 ∧ (ENG_DVFS_SWITCHING e).key = (ENG_DVFS_REQ e).key + 17 := by
  have h : ∀ a l n m : Nat, RF.key ⟨a, l, n⟩ = RF.key ⟨a, 0, m⟩ + l := fun _ _ _ _ => rfl
  exact ⟨h .., h .., h ..⟩

theorem State.engSt_setF (s : State) (q : RF) (n e : Nat) : (s.setF q n).engSt e = s.engSt e := rfl

theorem State.f_setEng (s : State) (e : Nat) (x : EngSt) (q : RF) : (s.setEng e x).f q = s.f q := rfl

theorem b2n_false : b2n false = 0 := rfl

/-- Point v is in effect. -/
def State.dvfsTaken (s : State) (e v : Nat) : State := (s.setF (ENG_DVFS_CAPPED e) 0).setF (ENG_DVFS_CUR e) v

/-- A step to point v has started. -/
def State.dvfsStepping (s : State) (e v : Nat) : State :=
  ((s.setF (ENG_DVFS_CAPPED e) 0).setEng e { s.engSt e with dvfsTarget := v }).setF (ENG_DVFS_SWITCHING e) 1

/-- Without a cap the request is the point to take; outside a step it is taken or a step to it starts (R120). -/
theorem State.dvfsApply_uncapped {s : State} {e v : Nat} (hc : (s.engSt e).cap = none) (hr : s.f (ENG_DVFS_REQ e) = v)
    (hw : s.f (ENG_DVFS_SWITCHING e) = 0) :
    s.dvfsApply e = if v ≤ s.f (ENG_DVFS_CUR e) then s.dvfsTaken e v else s.dvfsStepping e v := by
  obtain ⟨kc, ku, ks⟩ := DVFS_keys e
  have hg : s.dvfsGoal e = v := by
    rw [State.dvfsGoal, hc, ← hr]
  have hw' : (s.setF (ENG_DVFS_CAPPED e) 0).on (ENG_DVFS_SWITCHING e) = false := by
    rw [State.on, State.f_setF_ne _ _ _ _ (by omega), hw]
    rfl
  have hu : (s.setF (ENG_DVFS_CAPPED e) 0).f (ENG_DVFS_CUR e) = s.f (ENG_DVFS_CUR e) :=
    State.f_setF_ne _ _ _ _ (by omega)
  have hS := s.engSt_setF (ENG_DVFS_CAPPED e) 0 e
  unfold State.dvfsApply State.dvfsTaken State.dvfsStepping
  rw [hg, hr]
  extract_lets +onlyGivenNames g z
  have hz : z = s.setF (ENG_DVFS_CAPPED e) 0 :=
    congrArg (s.setF (ENG_DVFS_CAPPED e)) (by rw [decide_eq_false (lt_irrefl v), b2n_false])
  clear_value z
  generalize s.setF (ENG_DVFS_CAPPED e) 0 = y at *
  subst hz
  simp only [hw', hu, hS, g, Bool.false_eq_true, if_false]

theorem State.dvfsTaken_spec {s : State} {e v : Nat} (hv : v < 6) :
    (s.dvfsTaken e v).f (ENG_DVFS_REQ e) = s.f (ENG_DVFS_REQ e) ∧ (s.dvfsTaken e v).f (ENG_DVFS_CUR e) = v ∧
      (s.dvfsTaken e v).f (ENG_DVFS_SWITCHING e) = s.f (ENG_DVFS_SWITCHING e) ∧
      (s.dvfsTaken e v).f (ENG_DVFS_CAPPED e) = 0 ∧ (s.dvfsTaken e v).mem = s.mem ∧ (s.dvfsTaken e v).eng = s.eng := by
  obtain ⟨kc, ku, ks⟩ := DVFS_keys e
  refine ⟨?_, ?_, ?_, ?_, ?_, ?_⟩ <;> rw [State.dvfsTaken]
  · rw [State.f_setF_ne _ _ _ _ (by omega), State.f_setF_ne _ _ _ _ (by omega)]
  · rw [State.f_setF_same]
    exact Nat.mod_eq_of_lt (show v < 8 by omega)
  · rw [State.f_setF_ne _ _ _ _ (by omega), State.f_setF_ne _ _ _ _ (by omega)]
  · rw [State.f_setF_ne _ _ _ _ (by omega), State.f_setF_same, Nat.zero_mod]
  · rw [State.setF_mem, State.setF_mem]
  · rw [State.setF_eng, State.setF_eng]

theorem State.dvfsStepping_spec (s : State) (e v : Nat) :
    (s.dvfsStepping e v).f (ENG_DVFS_REQ e) = s.f (ENG_DVFS_REQ e) ∧
      (s.dvfsStepping e v).f (ENG_DVFS_CUR e) = s.f (ENG_DVFS_CUR e) ∧
      (s.dvfsStepping e v).f (ENG_DVFS_SWITCHING e) = 1 ∧ ((s.dvfsStepping e v).engSt e).dvfsTarget = v ∧
      (s.dvfsStepping e v).mem = s.mem := by
  obtain ⟨kc, ku, ks⟩ := DVFS_keys e
  refine ⟨?_, ?_, ?_, ?_, ?_⟩ <;> rw [State.dvfsStepping]
  · rw [State.f_setF_ne _ _ _ _ (by omega), State.f_setEng, State.f_setF_ne _ _ _ _ (by omega)]
  · rw [State.f_setF_ne _ _ _ _ (by omega), State.f_setEng, State.f_setF_ne _ _ _ _ (by omega)]
  · rw [State.f_setF_same]
    exact Nat.mod_eq_of_lt (show 1 < 2 by decide)
  · rw [State.engSt_setF, State.engSt_setEng_same]
  · rw [State.setF_mem, State.setEng_mem, State.setF_mem]

/-- The end of a step with no later request waiting makes its target the point in effect (R120). -/
theorem State.dvfsDone_spec {s : State} {e v : Nat} (hv : v < 6) (hw : s.f (ENG_DVFS_SWITCHING e) = 1)
    (ht : (s.engSt e).dvfsTarget = v) (hn : (s.engSt e).dvfsNext = none) :
    (s.dvfsDone e).f (ENG_DVFS_CUR e) = v ∧ (s.dvfsDone e).f (ENG_DVFS_SWITCHING e) = 0 ∧ (s.dvfsDone e).mem = s.mem ∧
      (s.dvfsDone e).eng = s.eng := by
  obtain ⟨-, ku, ks⟩ := DVFS_keys e
  have hd : s.dvfsDone e = (s.setF (ENG_DVFS_CUR e) v).setF (ENG_DVFS_SWITCHING e) 0 := by
    unfold State.dvfsDone
    rw [if_pos (by rw [State.on, hw]; rfl)]
    simp only [ht, hn]
  rw [hd, State.f_setF_ne _ _ _ _ (by omega), State.f_setF_same, State.f_setF_same, Nat.zero_mod]
  exact ⟨Nat.mod_eq_of_lt (show v < 8 by omega), rfl, by rw [State.setF_mem, State.setF_mem],
    by rw [State.setF_eng, State.setF_eng]⟩

/-- Settles O25. Both clauses on a write assume an engine that PWR has not capped, so no cap of R121 appears in it. -/
theorem clockPoints : Obligations.ClockPoints := by
  intro s req e v he hv hs hw
  obtain ⟨-, ku, ks⟩ := DVFS_keys e
  have hex := exec_dvfsRequest hs he hv req
  have hr : (s.setF (ENG_DVFS_REQ e) v).f (ENG_DVFS_REQ e) = v :=
    (State.f_setF_same ..).trans (Nat.mod_eq_of_lt (show v < 8 by omega))
  have hw : (s.setF (ENG_DVFS_REQ e) v).f (ENG_DVFS_SWITCHING e) = 0 := (State.f_setF_ne _ _ _ _ (by omega)).trans hw
  have hu : (s.setF (ENG_DVFS_REQ e) v).f (ENG_DVFS_CUR e) = s.f (ENG_DVFS_CUR e) := State.f_setF_ne _ _ _ _ (by omega)
  have hm := s.setF_mem (ENG_DVFS_REQ e) v
  have hE := s.setF_eng (ENG_DVFS_REQ e) v
  have hS := s.engSt_setF (ENG_DVFS_REQ e) v e
  generalize s.setF (ENG_DVFS_REQ e) v = z at *
  refine ⟨fun _ hc hle => ?_, fun _ hc hlt => ?_⟩
  · rw [State.dvfsApply_uncapped (by rw [hS, hc]) hr hw, if_pos (by rwa [hu])] at hex
    obtain ⟨h₁, h₂, h₃, h₄, h₅, h₆⟩ := z.dvfsTaken_spec (e := e) hv
    exact ⟨_, hex, rfl, h₁.trans hr, h₂, h₃.trans hw, h₄, h₅.trans hm, h₆.trans hE⟩
  · rw [State.dvfsApply_uncapped (by rw [hS, hc]) hr hw, if_neg (by rw [hu]; omega)] at hex
    obtain ⟨h₁, h₂, h₃, h₄, h₅⟩ := z.dvfsStepping_spec e v
    generalize z.dvfsStepping e v = y at *
    refine ⟨_, hex, rfl, h₁.trans hr, h₂.trans hu, h₃, h₄, h₅.trans hm, fun hn => ?_⟩
    obtain ⟨d₁, d₂, d₃, d₄⟩ := State.dvfsDone_spec (s := y.ans cOK) hv h₃ h₄ hn
    exact ⟨_, rfl, d₁, d₂, d₃.trans (h₅.trans hm), d₄⟩

end Sys2Proof.Machine
end

section
/-! PROOFS. The SNAP instruction (R108, R228): GOB's answer from the software slot. -/

namespace Sys2Proof.Machine

open Sys2Proof

theorem State.softRequest_busy {s : State} (h : s.gob.soft ≠ none) (a : Nat) (r : Bool) : s.softRequest a r = (cBUSY, s) :=
  if_pos (Option.isSome_iff_ne_none.2 h)

theorem State.softRequest_tooLate {s : State} {a : Nat} (h : s.gob.soft = none) (h0 : 0 < a) (ha : a < s.now + 16) (r : Bool) :
    s.softRequest a r = (cTOO_LATE, s) :=
  (if_neg (by simp [h])).trans ((if_neg (by omega)).trans (if_pos ha))

theorem State.softRequest_ok {s : State} {a : Nat} (h : s.gob.soft = none) (ha : s.now + 16 ≤ a)
    (hc : s.snapConflict (s.edgeAt a) = false) (r : Bool) :
    s.softRequest a r = (cOK, s.setSoft (some ⟨a, r, false⟩)) :=
  (if_neg (by simp [h])).trans ((if_neg (by omega)).trans ((if_neg (by omega)).trans (if_neg (by simp [hc]))))

/-- A serving GOB answers a SNAP at once. -/
theorem State.snapAsk_serves {s : State} (hs : s.serves iGOB = true) (a : Nat) :
    s.snapAsk a = ((s.softRequest a false).1, (s.softRequest a false).2.touch iGOB) := by
  have hi : s.islandRefuses iGOB 0x20 = none := by
    obtain h | h := State.serves_ist hs <;> simp [State.islandRefuses, prefixAddr, h]
  unfold State.snapAsk
  rw [hi, State.wakeFor_serves hs]

/-- A SNAP that GOB answers with k, leaving u outside the engines: rd reads k, and nothing but u's change is left. -/
theorem snap_row {s u : State} {e c k a : Nat} {w : BitVec 32} (hi : s.issues e c w) (ho : wOp w = 0x40) (hf : wFn6 w = 0x09)
    (hk : tokFields w true true false false false = true) (hn : (s.ctx e c).atomic = false) (hs : s.serves iGOB = true)
    (ha : ((s.ctx e c).rg (wRa w)).toNat = a)
    (hr : (s.engAs (s.fetched e c)).softRequest a false = (k, u.engAs (s.fetched e c))) (hu : u.eng = s.eng) :
    ∃ t : State, exec (.snap e w) s = .next t ∧ (u.touch iGOB).quiet t e c ∧
      s.went t e c ((s.ctx e c).wg (wRd w) (BitVec.ofNat 64 k)) ((s.ctx e c).pc + 4) := by
  obtain ⟨body, hx, hb⟩ : ∃ body, exec (.snap e w) s = .next (s.engExec e w (mineTok w 0x09) body) ∧
      body (s.fetched e c) c (s.ctx e c) = ((s.fetched e c).snapAsk ((s.ctx e c).rg (wRa w)).toNat).2.goNext e c
        ((s.ctx e c).wg (wRd w) (BitVec.ofNat 64 ((s.fetched e c).snapAsk ((s.ctx e c).rg (wRa w)).toNat).1)) :=
    ⟨_, rfl, (tokBody_ok hf hk _).trans (notAtomic_ok hn w _)⟩
  have hsf : (s.fetched e c).serves iGOB = true := by
    rw [s.fetched_eq e c]
    exact hs
  have hsr : (s.fetched e c).softRequest a false = (k, u.engAs (s.fetched e c)) :=
    (congrArg (fun t : State => t.softRequest a false) (s.fetched_eq e c)).trans hr
  rw [State.snapAsk_serves hsf, ha, hsr, State.touch_engAs] at hb
  have hc : ((s.ctx e c).wg (wRd w) (BitVec.ofNat 64 k)).cancelled = false :=
    (Ctx.wg_cancelled ..).trans (s.issues_cancelled e c w hi)
  have hp := Ctx.wg_pc (s.ctx e c) (wRd w) (BitVec.ofNat 64 k)
  rw [hx]
  generalize (s.ctx e c).wg (wRd w) (BitVec.ofNat 64 k) = y at *
  rw [← hp]
  exact State.row_go hi (mineTok_self ho hf) hb (State.quiet_trans _ _ _ e c
    (State.quiet_engAs (s.quiet_fetched e c) ((u.eng_touch iGOB).trans hu)) (State.quiet_setCtx _ e c y))
    (State.ctx_setCtx_same ..) hc

theorem SOFT_PENDING_ne_PSTATE (isl : Nat) : GOB_SOFT_PENDING.key ≠ (ISL_PSTATE_STATE isl).key := by
  simp only [RF.key, GOB_SOFT_PENDING, ISL_PSTATE_STATE]
  omega

theorem SOFT_PENDING_ne_ENG (e : Nat) :
    GOB_SOFT_PENDING.key ≠ (ENG_RETIRED_COUNT e).key ∧ GOB_SOFT_PENDING.key ≠ (ENG_PREEMPT_COUNT e).key := by
  simp only [RF.key, GOB_SOFT_PENDING, ENG_RETIRED_COUNT, ENG_PREEMPT_COUNT]
  omega

theorem State.gob_touch (s : State) (isl : Nat) : (s.touch isl).gob = s.gob := by
  unfold State.touch
  split <;> rfl

/-- The software slot after a SNAP. -/
theorem State.snapLeft {s u t : State} {e c : Nat} (hm : u.mem = s.mem) (h : (u.touch iGOB).quiet t e c) :
    t.mem = s.mem ∧ t.gob = u.gob ∧ t.f GOB_SOFT_PENDING = u.f GOB_SOFT_PENDING := by
  obtain ⟨hr, hp⟩ := SOFT_PENDING_ne_ENG e
  refine ⟨(State.quiet_mem _ _ e c h).trans ((u.mem_touch iGOB).trans hm), ?_,
    (h.2.2.2 _ hr hp (SOFT_PENDING_ne_PSTATE _)).trans (u.f_touch _ (SOFT_PENDING_ne_PSTATE _))⟩
  rw [h.1]
  exact u.gob_touch iGOB

theorem State.setSoft_spec (s : State) (r : SoftReq) : (s.setSoft (some r)).mem = s.mem ∧
    (s.setSoft (some r)).eng = s.eng ∧ (s.setSoft (some r)).gob = { s.gob with soft := some r } ∧
    (s.setSoft (some r)).f GOB_SOFT_PENDING = 1 :=
  ⟨rfl, rfl, rfl, State.f_setF_same ..⟩

end Sys2Proof.Machine
end

section
/-! PROOFS. The STOP instruction (R109, R388, R390): what a raise leaves of the latch and of the output enables. -/

namespace Sys2Proof.Machine

open Sys2Proof

/-- A field of an island whose ID is above REF's. -/
def RF.aboveRef (q : RF) : Prop := 0x0200030000 * 64 ≤ q.key

theorem RF.aboveRef_of_addr {q : RF} (h : 0x0200030000 ≤ q.addr) : q.aboveRef := by
  rw [RF.aboveRef, RF.key]
  omega

/-- From s to t only registers of islands above REF have changed. -/
structure State.aboveRef (s t : State) : Prop where
  f : ∀ q : RF, q.key < 0x0200030000 * 64 → t.f q = s.f q

theorem State.aboveRef.refl (s : State) : s.aboveRef s := ⟨fun _ _ => rfl⟩

theorem State.aboveRef.trans {s t u : State} (h : s.aboveRef t) (k : t.aboveRef u) : s.aboveRef u :=
  ⟨fun q hq => (k.f q hq).trans (h.f q hq)⟩

theorem State.aboveRef.of_regs {s t : State} (h : t.regs = s.regs) : s.aboveRef t := ⟨fun q _ => s.f_congr t q h⟩

theorem State.aboveRef_setF (s : State) {r : RF} (hr : r.aboveRef) (v : Nat) : s.aboveRef (s.setF r v) :=
  ⟨fun q hq => s.f_setF_ne r q v fun hk => absurd hr (by rw [RF.aboveRef, ← hk]; omega)⟩

theorem State.aboveRef_foldl {α : Type} {f : State → α → State} (hf : ∀ (s : State) a, s.aboveRef (f s a)) (l : List α)
    (s : State) : s.aboveRef (l.foldl f s) :=
  List.foldlRecOn (motive := fun t => s.aboveRef t) l _ (.refl s) fun t ht a _ => ht.trans (hf t a)

/-! ### RAD at a stop -/

theorem State.aboveRef_setBuckets (s : State) (n b : Nat) (g : List RadBucket → List RadBucket) :
    s.aboveRef (s.setBuckets n b g) := by
  have ho : (RADn_SBs_USED_ORD_US n b).aboveRef := RF.aboveRef_of_addr (by simp only [RADn_SBs_USED_ORD_US]; omega)
  have hs : (RADn_SBs_USED_STOP_US n b).aboveRef := RF.aboveRef_of_addr (by simp only [RADn_SBs_USED_STOP_US]; omega)
  unfold State.setBuckets
  extract_lets l s₁ s₂
  have h₁ : s.aboveRef s₁ := .of_regs rfl
  clear_value s₁
  exact ((h₁.trans (s₁.aboveRef_setF ho _)).trans (s₂.aboveRef_setF hs _)).trans (.of_regs (State.regs_radLow ..))

theorem State.aboveRef_acceptFail (s : State) (a : Nat) : s.aboveRef (s.acceptFail a) := by
  have h : (RAD_Aa_STATUS_STATE a).aboveRef := RF.aboveRef_of_addr (by simp only [RAD_Aa_STATUS_STATE]; omega)
  unfold State.acceptFail
  split
  · exact s.aboveRef_setF h _
  · exact .refl s

theorem State.aboveRef_radAbort (s : State) (n : Nat) : s.aboveRef (s.radAbort n) := by
  unfold State.radAbort
  extract_lets x s₁ s₂ s₃
  have h₁ : s.aboveRef s₁ := by
    unfold s₁
    split
    · extract_lets stop us t
      have ht : s.aboveRef t := s.aboveRef_setBuckets ..
      clear_value t
      exact ht.trans (.of_regs rfl)
    · exact .refl s
  clear_value s₁
  have h₂ : s₁.aboveRef s₂ := by
    unfold s₂
    split
    · split
      · exact .of_regs rfl
      · exact .refl s₁
    · exact .refl s₁
  clear_value s₂
  have h₃ : s₂.aboveRef s₃ := State.aboveRef_foldl (fun t p => by
    split
    · exact t.aboveRef_acceptFail _
    · exact .refl t) _ s₂
  clear_value s₃
  exact ((h₁.trans h₂).trans h₃).trans (.of_regs rfl)

theorem State.aboveRef_radStop (s : State) : s.aboveRef s.radStop := by
  unfold State.radStop
  extract_lets s₁
  have h₁ : s.aboveRef s₁ := .of_regs rfl
  clear_value s₁
  refine h₁.trans (State.aboveRef_foldl (fun t n => ?_) _ s₁)
  split
  · exact (t.aboveRef_radAbort n).trans (.of_regs rfl)
  · exact .refl t

/-! ### MCH at a stop -/

theorem State.aboveRef_setCan (s : State) (n : Nat) (x : CanCtl) : s.aboveRef (s.setCan n x) := by
  have h₁ : (CAN_CTLn_TXSTAT_OCCUPIED n).aboveRef := RF.aboveRef_of_addr (by simp only [CAN_CTLn_TXSTAT_OCCUPIED]; omega)
  have h₂ : (CAN_CTLn_STATUS_TEC n).aboveRef := RF.aboveRef_of_addr (by simp only [CAN_CTLn_STATUS_TEC]; omega)
  have h₃ : (CAN_CTLn_STATUS_RP n).aboveRef := RF.aboveRef_of_addr (by simp only [CAN_CTLn_STATUS_RP]; omega)
  have h₄ : (CAN_CTLn_STATUS_REC n).aboveRef := RF.aboveRef_of_addr (by simp only [CAN_CTLn_STATUS_REC]; omega)
  unfold State.setCan
  extract_lets y s₁ s₂
  have ht : s.aboveRef s₁ := .of_regs rfl
  clear_value s₁
  exact (((ht.trans (s₁.aboveRef_setF h₁ _)).trans (State.aboveRef_setF _ h₂ _)).trans (s₂.aboveRef_setF h₃ _)).trans
    (State.aboveRef_setF _ h₄ _)

/-- A frame that is neither one-shot nor stamped joins the transmit buffers or is refused. -/
theorem State.aboveRef_canSubmit (s : State) (n : Nat) {b : CanBuf} (ho : b.oneShot = false) (hs : b.stamp = none) :
    s.aboveRef (s.canSubmit n b).2 := by
  unfold State.canSubmit
  extract_lets x again z s₁ s₂
  have h₁ : s.aboveRef s₁ := s.aboveRef_setCan ..
  have h₂ : s₂ = s₁ := by
    unfold s₂
    split
    · next h => exact absurd (h.symm.trans hs) (by simp)
    · rfl
  have hy : (z.oneShot && s₂.canState n == 3) = false := by
    rw [show z.oneShot = false from ho, Bool.false_and]
  clear_value s₁
  split
  · exact .refl s
  · rw [hy, h₂]
    exact h₁

theorem State.aboveRef_canMachine (s : State) (n prio : Nat) (ide : Bool) (id : Nat) (data : List Byte) :
    s.aboveRef (s.canMachine n prio ide id data).2 := by
  unfold State.canMachine
  split
  · exact .refl s
  · split
    · exact .refl s
    · split
      · exact .refl s
      · exact s.aboveRef_canSubmit n rfl rfl

theorem State.aboveRef_slotFrame (s : State) (k : Nat) : s.aboveRef (s.slotFrame k) := by
  have h : (MCH_MFs_STAT_CAN_DROPS k).aboveRef := RF.aboveRef_of_addr (by simp only [MCH_MFs_STAT_CAN_DROPS]; omega)
  unfold State.slotFrame
  split
  · exact .refl s
  · extract_lets r
    have hr : s.aboveRef r.2 := s.aboveRef_canMachine ..
    clear_value r
    split
    · exact hr
    · exact hr.trans (r.2.aboveRef_setF h _)

theorem State.aboveRef_pinDrive (s : State) (p v : Nat) : s.aboveRef (s.pinDrive p v) := by
  unfold State.pinDrive
  extract_lets x e due
  split
  · exact .refl s
  · exact .of_regs rfl

theorem State.aboveRef_setOut (s : State) (k : Nat) (out : Int) : s.aboveRef (s.setOut k out) := by
  have ho : (MCH_MFs_VALUES_OUTPUT k).aboveRef := RF.aboveRef_of_addr (by simp only [MCH_MFs_VALUES_OUTPUT]; omega)
  have ha : (MCH_MFs_ACT_VALUE k).aboveRef := RF.aboveRef_of_addr (by simp only [MCH_MFs_ACT_VALUE]; omega)
  unfold State.setOut
  extract_lets v s₁
  have h₁ : s.aboveRef s₁ := (s.aboveRef_setF ho _).trans (State.aboveRef_setF _ ha _)
  clear_value s₁
  split
  · exact h₁.trans (s₁.aboveRef_pinDrive ..)
  · exact h₁

theorem State.aboveRef_mchNotice (s : State) (kind k : Nat) : s.aboveRef (s.mchNotice kind k) := by
  unfold State.mchNotice
  split
  · exact .of_regs rfl
  · exact .refl s

theorem State.aboveRef_slotTo (s : State) (k st : Nat) : s.aboveRef (s.slotTo k st) := by
  have h : (MCH_MFs_STATUS_STATE k).aboveRef := RF.aboveRef_of_addr (by simp only [MCH_MFs_STATUS_STATE]; omega)
  unfold State.slotTo
  split
  · exact .refl s
  · extract_lets s₁ y s₂
    have h₂ : s₁.aboveRef s₂ := .of_regs rfl
    clear_value s₂
    exact ((s.aboveRef_setF h _).trans h₂).trans (s₂.aboveRef_mchNotice ..)

theorem State.aboveRef_slotStop (s : State) (k st : Nat) : s.aboveRef (s.slotStop k st) := by
  unfold State.slotStop
  extract_lets s₁ s₂
  have h₁ : s.aboveRef s₁ := s.aboveRef_slotTo ..
  clear_value s₁
  have h₂ : s₁.aboveRef s₂ := by
    unfold s₂
    split
    · exact s₁.aboveRef_setOut ..
    · exact .refl s₁
  clear_value s₂
  exact (h₁.trans h₂).trans (s₂.aboveRef_slotFrame k)

theorem State.aboveRef_mchStop (s : State) : s.aboveRef s.mchStop := by
  unfold State.mchStop
  split
  · exact .refl s
  · refine State.aboveRef_foldl (fun t k => ?_) _ s
    extract_lets st
    split
    · exact t.aboveRef_slotStop k 3
    · exact .refl t

/-! ### The latch sets (R388, R390) -/

theorem State.aboveRef_stage (s : State) (typ : Nat) (args : List Nat) : s.aboveRef (s.stage typ args) := by
  have h : SCB_DROPPED_COUNT.aboveRef := RF.aboveRef_of_addr (by decide)
  exact ⟨fun q hq => s.f_stage typ args fun hk => absurd h (by rw [RF.aboveRef, ← hk]; omega)⟩

/-- The latch is set and both output enables are 0 (R390). -/
structure State.outputsOff (s : State) : Prop where
  latched : s.f REF_STOP_STATUS_LATCHED = 1
  fence : s.f REF_FENCE_EN_EN = 0
  power : s.f REF_PWEN_EN_EN = 0

theorem State.outputsOff.trans {s t : State} (h : s.outputsOff) (k : s.aboveRef t) : t.outputsOff :=
  ⟨(k.f _ (by decide)).trans h.latched, (k.f _ (by decide)).trans h.fence, (k.f _ (by decide)).trans h.power⟩

theorem State.outputsOff.setF {s : State} (h : s.outputsOff) {r : RF} (hl : REF_STOP_STATUS_LATCHED.key ≠ r.key)
    (hf : REF_FENCE_EN_EN.key ≠ r.key) (hp : REF_PWEN_EN_EN.key ≠ r.key) (v : Nat) : (s.setF r v).outputsOff :=
  ⟨(s.f_setF_ne _ _ _ hl).trans h.latched, (s.f_setF_ne _ _ _ hf).trans h.fence, (s.f_setF_ne _ _ _ hp).trans h.power⟩

theorem State.latchSet_outputsOff (s : State) (l : List (Nat × Nat)) (origin : Nat) (own : Bool) :
    (s.latchSet l origin own).outputsOff := by
  unfold State.latchSet
  extract_lets sources reason s₁ s₂ s₃ s₄ id stamp s₅ b s₆ s₇ s₈ s₉
  have h₂ : s₂.outputsOff := by
    have hl : s₁.f REF_STOP_STATUS_LATCHED = 1 := by
      unfold s₁
      rw [State.f_setF_ne _ _ _ _ (by decide), State.f_setF_ne _ _ _ _ (by decide), State.f_setF_ne _ _ _ _ (by decide),
        State.f_setF_same]
      rfl
    clear_value s₁
    refine ⟨?_, ?_, ?_⟩ <;> unfold s₂
    · rw [State.f_setF_ne _ _ _ _ (by decide), State.f_setF_ne _ _ _ _ (by decide), State.f_setF_ne _ _ _ _ (by decide), hl]
    · rw [State.f_setF_ne _ _ _ _ (by decide), State.f_setF_same, Nat.zero_mod]
    · rw [State.f_setF_same, Nat.zero_mod]
  clear_value s₂
  have h₃ : s₃.outputsOff := h₂.trans (.of_regs rfl)
  clear_value s₃
  have h₄ : s₄.outputsOff := (h₃.setF (by decide) (by decide) (by decide) _).setF (by decide) (by decide) (by decide) _
  clear_value s₄
  have h₅ : s₅.outputsOff := (h₄.setF (by decide) (by decide) (by decide) _).setF (by decide) (by decide) (by decide) _
  clear_value s₅
  have h₆ : s₆.outputsOff := by
    obtain ⟨m, hm⟩ : ∃ m, s₆ = { s₅ with mem := m } := s₅.copyAB_eq ..
    exact h₅.trans (.of_regs (by rw [hm]))
  clear_value s₆
  have h₇ : s₇.outputsOff := by
    unfold s₇
    split
    · exact h₆.trans (.of_regs (s₆.regs_stopSpread ..))
    · exact h₆
  clear_value s₇
  have h₈ : s₈.outputsOff := h₇.trans (s₇.aboveRef_radStop.trans s₇.radStop.aboveRef_mchStop)
  clear_value s₈
  have h₉ : s₉.outputsOff := h₈.trans (s₈.aboveRef_stage ..)
  clear_value s₉
  split
  · exact h₉.trans (.of_regs rfl)
  · exact h₉

/-- A raise leaves the latch set; where it sets the latch, both output enables are 0. -/
theorem State.raise_spec (s : State) (src reason : Nat) : (s.raise src reason).latched = true ∧
    (s.latched = false → (s.raise src reason).f REF_FENCE_EN_EN = 0 ∧ (s.raise src reason).f REF_PWEN_EN_EN = 0) := by
  unfold State.raise State.stopRaise
  extract_lets reason' s₁ s₂
  split
  · obtain ⟨hl, hf, hp⟩ := s.latchSet_outputsOff ((src, reason') :: s.levelSources) s.pos' true
    exact ⟨by rw [State.latched, State.on, hl]; rfl, fun _ => ⟨hf, hp⟩⟩
  · next hs =>
    have hs : s.latched = true := by simpa [State.stopped, State.latched] using hs
    refine ⟨?_, fun h => absurd (h.symm.trans hs) (by decide)⟩
    have key : ∀ t : State, t.f REF_STOP_STATUS_LATCHED = s.f REF_STOP_STATUS_LATCHED → t.latched = true :=
      fun t hl => by rwa [State.latched, State.on, hl]
    split
    · exact key _ ((State.f_setF_ne _ _ _ _ (by decide)).trans (s.f_setF_ne _ _ _ (by decide)))
    · have h₁ : s.aboveRef s₁ := .of_regs rfl
      clear_value s₁
      have h₂ : s₂.f REF_STOP_STATUS_LATCHED = s₁.f REF_STOP_STATUS_LATCHED :=
        (State.f_setF_ne _ _ _ _ (by decide)).trans (s₁.f_setF_ne _ _ _ (by decide))
      clear_value s₂
      exact key _ (((s₂.aboveRef_stage _ _).f _ (by decide)).trans (h₂.trans (h₁.f _ (by decide))))

/-! ### The instruction -/

/-- What an engine counts on lies above REF. -/
theorem State.quiet_below {s t : State} {e c : Nat} (h : s.quiet t e c) {q : RF} (hq : q.key < 0x0200030000 * 64) :
    t.f q = s.f q := by
  have hr : (ENG_RETIRED_COUNT e).aboveRef := RF.aboveRef_of_addr (by simp only [ENG_RETIRED_COUNT]; omega)
  have hp : (ENG_PREEMPT_COUNT e).aboveRef := RF.aboveRef_of_addr (by simp only [ENG_PREEMPT_COUNT]; omega)
  have hi : (ISL_PSTATE_STATE (iENG e)).aboveRef :=
    RF.aboveRef_of_addr (by simp only [ISL_PSTATE_STATE, iENG]; omega)
  rw [RF.aboveRef] at hr hp hi
  exact h.2.2.2 q (by omega) (by omega) (by omega)

/-- STOP in any mode: the Whistle is raised, and the instruction after it goes on. -/
theorem stop_row {s : State} {e c : Nat} {w : BitVec 32} (hi : s.issues e c w) (ho : wOp w = 0x40) (hf : wFn6 w = 0x0A)
    (hk : tokFields w false true false false false = true) :
    ∃ t : State, exec (.stop e w) s = .next t ∧
      ((s.fetched e c).raise 5 (bits ((s.ctx e c).rg (wRa w)).toNat 7 0)).quiet t e c ∧
      s.went t e c (s.ctx e c) ((s.ctx e c).pc + 4) :=
  State.row_go hi (mineTok_self ho hf) (tokBody_ok hf hk _) (State.quiet_setCtx _ e c _) (State.ctx_setCtx_same ..)
    (s.issues_cancelled e c w hi)

/-- Settles O21: SNAP by GOB's three answers (`snap_row`), STOP by what a raise leaves (`State.raise_spec`). -/
theorem snapAndStop : Obligations.SnapAndStop := by
  rintro s e c a w _ hi rfl ho ha
  refine ⟨fun hf hk hn hs => ⟨fun h0 hT hC => ?_, fun hB => ?_, fun h0 hpos hT => ?_⟩, fun hf hk => ?_⟩
  · obtain ⟨hm, he, hg, hp⟩ := s.setSoft_spec ⟨a, false, false⟩
    obtain ⟨t, ht, hq, hw⟩ := snap_row hi ho hf hk hn hs ha
      (State.softRequest_ok (s := s.engAs (s.fetched e c)) h0 hT hC false) he
    obtain ⟨tm, tg, tp⟩ := State.snapLeft hm hq
    exact ⟨t, ht, tm, tg.trans hg, tp.trans hp, hw⟩
  · obtain ⟨t, ht, hq, hw⟩ := snap_row hi ho hf hk hn hs ha
      (State.softRequest_busy (s := s.engAs (s.fetched e c)) hB a false) rfl
    obtain ⟨tm, tg, -⟩ := State.snapLeft rfl hq
    exact ⟨t, ht, tm, tg, hw⟩
  · obtain ⟨t, ht, hq, hw⟩ := snap_row hi ho hf hk hn hs ha
      (State.softRequest_tooLate (s := s.engAs (s.fetched e c)) h0 hpos hT false) rfl
    obtain ⟨tm, tg, -⟩ := State.snapLeft rfl hq
    exact ⟨t, ht, tm, tg, hw⟩
  · obtain ⟨t, ht, hq, hw⟩ := stop_row hi ho hf hk
    obtain ⟨hl, hoff⟩ := (s.fetched e c).raise_spec 5 (bits ((s.ctx e c).rg (wRa w)).toNat 7 0)
    refine ⟨t, ht, ?_, hw, fun h => ?_⟩
    · rwa [State.latched, State.on, State.quiet_below hq (by decide)]
    · obtain ⟨hF, hP⟩ := hoff (by rw [State.latched, State.on, State.f, s.regs_fetched]; exact h)
      exact ⟨(State.quiet_below hq (by decide)).trans hF, (State.quiet_below hq (by decide)).trans hP⟩

end Sys2Proof.Machine
end

section
/-! PROOFS. The Dugout at work (R135, R138, R139, R141, R143, R145, R157, R158): operand tokens, flow intake, the delivery of a
flow's next item, and dispatch. -/

namespace Sys2Proof.Machine

open Sys2Proof

/-! ### A token is served -/

@[simp] theorem State.dug_touch (s : State) (isl : Nat) : (s.touch isl).dug = s.dug := by
  unfold State.touch
  split <;> rfl

@[simp] theorem State.memc_touch (s : State) (isl : Nat) : (s.touch isl).memc = s.memc := by
  unfold State.touch
  split <;> rfl

/-- Instances are read from the Dugout alone. -/
theorem State.inst_congr {s t : State} (h : t.dug = s.dug) (i : Nat) : t.inst i = s.inst i := by
  rw [State.inst, h, State.inst]

theorem State.inst_touch (s : State) (isl i : Nat) : (s.touch isl).inst i = s.inst i :=
  State.inst_congr (s.dug_touch isl) i

/-- The token has left the fabric. -/
def State.taken (s : State) (tk : Token) : State := { s with sent := s.sent.erase tk }

/-- A token without a stamp, of no task's release, is served at once by an island that serves. -/
theorem State.arrive_serves {s : State} {tk : Token} {isl : Nat} (hs : s.serves isl = true) (hd : epIsl tk.dest = isl)
    (hst : tk.stamp = none) (ht : tk.task = none) (serve : State → Nat × State) :
    s.arrive tk serve = ((serve (s.taken tk)).2.touch isl).ans (serve (s.taken tk)).1 := by
  subst hd
  have hi : isIsland (epIsl tk.dest) = true := ((s.serves_iff _).1 hs).1
  have hist : (s.taken tk).ist (epIsl tk.dest) = 2 ∨ (s.taken tk).ist (epIsl tk.dest) = 3 := State.serves_ist hs
  have hh : (s.taken tk).holds (epIsl tk.dest) = false := State.holds_serves hs
  have h0 : ¬(isIsland (epIsl tk.dest) = false ∨ (s.taken tk).ist (epIsl tk.dest) = 0) :=
    not_or.2 ⟨by simp [hi], by omega⟩
  have h5 : ¬(s.taken tk).ist (epIsl tk.dest) = 5 := by omega
  unfold State.arrive
  refine (if_neg h0).trans ((if_neg h5).trans ((if_neg (ne_true_of_eq_false hh)).trans ?_))
  rw [hst, ite_self, ht]
  rfl

/-! ### A change of an instance -/

/-- The order of arrival has come to k. -/
def State.clocked (s : State) (k : Nat) : State := { s with dug := { s.dug with clock := k } }

/-- A COLLECTING instance is READY once its set is complete, and the order of arrival may have advanced. -/
theorem State.nextState_eq (s : State) (i : Nat) (d : Desc) : ∃ age k,
    s.nextState i d = (s.clocked k).setInst i { d with st := if d.complete then 3 else 2, age := age } := by
  unfold State.nextState
  split
  · exact ⟨_, _, rfl⟩
  · exact ⟨d.age, s.dug.clock, rfl⟩

/-- A change of an instance's tokens or count moves on an instance that collects, and no other. -/
theorem State.judge_eq (s : State) (i : Nat) (d : Desc) : ∃ age k, s.judge i d =
    (s.clocked k).setInst i { d with st := if d.st = 2 then if d.complete then 3 else 2 else d.st, age := age } := by
  unfold State.judge
  split
  · exact s.nextState_eq i d
  · exact ⟨d.age, s.dug.clock, rfl⟩

/-! ### Operand tokens (R138, R139, R143) -/

theorem exec_operandToken (tk : Token) (s : State) :
    exec (.operandToken tk) s = .next (s.arrive tk fun s => s.operandServe tk) := rfl

/-- A checked token that finds room on die is matched there. -/
theorem State.operandServe_ok {s : State} {tk : Token} (hc : s.operandCheck tk.tag = cOK) (hsp : s.dug.spill = [])
    (hd : s.onDie < 16384) : s.operandServe tk = (cOK, s.operandTake tk) :=
  (if_neg (not_not.2 hc)).trans (if_neg (not_or.2 ⟨not_not.2 hsp, by omega⟩))

theorem State.operandServe_refused {s : State} {tk : Token} (hc : s.operandCheck tk.tag ≠ cOK) :
    s.operandServe tk = (s.operandCheck tk.tag, s.inc DUG_STAT_REFUSED_COUNT) :=
  if_pos hc

/-- A token for a slot that keeps every token joins its instance. -/
theorem State.operandTake_joins {s : State} {tk : Token} (hm : bit tk.tag 26 = false)
    (hl : (s.inst (bits tk.tag 15 0)).latest = 0) :
    s.operandTake tk = s.judge (bits tk.tag 15 0) { s.inst (bits tk.tag 15 0) with
      toks := (s.inst (bits tk.tag 15 0)).toks ++ [⟨bits tk.tag 22 20, tk.data, tk.tag, tk.src⟩] } :=
  (if_neg (ne_true_of_eq_false hm)).trans (if_neg (by simp [hl, bit]))

/-- A model token counts its instance down. -/
theorem State.operandTake_counts {s : State} {tk : Token} (hm : bit tk.tag 26 = true)
    (hc : (s.inst (bits tk.tag 15 0)).count ≠ 0) :
    s.operandTake tk = s.judge (bits tk.tag 15 0) { s.inst (bits tk.tag 15 0) with
      count := (s.inst (bits tk.tag 15 0)).count - 1 } :=
  (if_pos hm).trans (if_neg hc)

/-- What serving a checked operand token of instance i comes to, once the instance is d after it. -/
theorem operandToken_takes {s : State} {tk : Token} {d : Desc} (hs : s.serves iDUG = true) (hd : epIsl tk.dest = iDUG)
    (hst : tk.stamp = none) (ht : tk.task = none) (hc : s.operandCheck tk.tag = cOK) (hsp : s.dug.spill = [])
    (ho : s.onDie < 16384) {i : Nat} (hj : (s.taken tk).operandTake tk = (s.taken tk).judge i d) :
    ∃ t : State, ∃ age : Nat, exec (.operandToken tk) s = .next t ∧ t.answer = cOK ∧ t.mem = s.mem ∧
      t.inst i = { d with st := if d.st = 2 then if d.complete then 3 else 2 else d.st, age := age } ∧
      ∀ j : Nat, j ≠ i → t.inst j = s.inst j := by
  obtain ⟨age, k, he⟩ := (s.taken tk).judge_eq i d
  have hserve : (s.taken tk).operandServe tk = _ := State.operandServe_ok (s := s.taken tk) hc hsp ho
  rw [exec_operandToken, State.arrive_serves hs hd hst ht]
  simp only [hserve, hj, he]
  exact ⟨_, age, rfl, rfl, State.mem_touch .., (State.inst_touch ..).trans (State.inst_setInst_same ..),
    fun j hj => (State.inst_touch ..).trans (State.inst_setInst_ne _ _ _ _ hj)⟩

theorem operandToken_joins {s : State} {tk : Token} {i : Nat} (hs : s.serves iDUG = true) (hd : epIsl tk.dest = iDUG)
    (hst : tk.stamp = none) (ht : tk.task = none) (hi : bits tk.tag 15 0 = i) (hc : s.operandCheck tk.tag = cOK)
    (hsp : s.dug.spill = []) (ho : s.onDie < 16384) (hm : bit tk.tag 26 = false) (hl : (s.inst i).latest = 0) :
    ∃ t : State, exec (.operandToken tk) s = .next t ∧ t.answer = cOK ∧ t.mem = s.mem ∧
      (t.inst i).toks = (s.inst i).toks ++ [⟨bits tk.tag 22 20, tk.data, tk.tag, tk.src⟩] ∧
      ((s.inst i).st = 2 → (t.inst i).st = if (t.inst i).complete then 3 else 2) ∧
      ((s.inst i).st ≠ 2 → (t.inst i).st = (s.inst i).st) ∧ ∀ j : Nat, j ≠ i → t.inst j = s.inst j := by
  subst hi
  obtain ⟨t, age, hx, ha, hme, hti, htj⟩ := operandToken_takes hs hd hst ht hc hsp ho
    (State.operandTake_joins (s := s.taken tk) hm hl)
  refine ⟨t, hx, ha, hme, by rw [hti]; rfl, fun h2 => ?_, fun h2 => ?_, htj⟩
  · rw [hti]
    exact if_pos h2
  · rw [hti]
    exact if_neg h2

theorem operandToken_counts {s : State} {tk : Token} {i : Nat} (hs : s.serves iDUG = true) (hd : epIsl tk.dest = iDUG)
    (hst : tk.stamp = none) (ht : tk.task = none) (hi : bits tk.tag 15 0 = i) (hc : s.operandCheck tk.tag = cOK)
    (hsp : s.dug.spill = []) (ho : s.onDie < 16384) (hm : bit tk.tag 26 = true) (hn : (s.inst i).count ≠ 0) :
    ∃ t : State, exec (.operandToken tk) s = .next t ∧ t.answer = cOK ∧ t.mem = s.mem ∧
      (t.inst i).count = (s.inst i).count - 1 ∧ (t.inst i).toks = (s.inst i).toks ∧
      ∀ j : Nat, j ≠ i → t.inst j = s.inst j := by
  subst hi
  obtain ⟨t, age, hx, ha, hme, hti, htj⟩ := operandToken_takes hs hd hst ht hc hsp ho
    (State.operandTake_counts (s := s.taken tk) hm hn)
  exact ⟨t, hx, ha, hme, by rw [hti]; rfl, by rw [hti]; rfl, htj⟩

theorem operandToken_refused {s : State} {tk : Token} (hs : s.serves iDUG = true) (hd : epIsl tk.dest = iDUG)
    (hst : tk.stamp = none) (ht : tk.task = none) (hc : s.operandCheck tk.tag ≠ cOK) :
    ∃ t : State, exec (.operandToken tk) s = .next t ∧ t.answer = s.operandCheck tk.tag ∧ t.dug = s.dug ∧
      s.keeps t [ISL_PSTATE_STATE iDUG, DUG_STAT_REFUSED_COUNT] := by
  have hserve : (s.taken tk).operandServe tk = _ := State.operandServe_refused (s := s.taken tk) hc
  have hk : s.keeps (s.taken tk) [ISL_PSTATE_STATE iDUG, DUG_STAT_REFUSED_COUNT] := s.keeps_refl _
  rw [exec_operandToken, State.arrive_serves hs hd hst ht]
  simp only [hserve]
  exact ⟨_, rfl, rfl, State.dug_touch .., ((hk.setF (by simp) _).trans ((State.keeps_touch _ iDUG).mono (by simp))).ans _⟩

/-! ### Flow intake (R158) -/

theorem exec_flowIntake (tk : Token) (s : State) :
    exec (.flowIntake tk) s = .next (s.arrive tk fun s => s.intakeServe tk) := rfl

/-- A well-formed tag of a flow without an instance is answered with NOT_FOUND. -/
theorem State.intakeServe_unbound {s : State} {tk : Token} (hh : bits tk.tag 31 26 = 0) (hl : bits tk.tag 22 12 = 0)
    (hb : (s.flow (bits tk.tag 11 0)).bound = none) : s.intakeServe tk = (cNOT_FOUND, s) :=
  (if_neg (by omega)).trans (if_pos hb)

/-- An item that is accepted and fits into the ring waits for its write. -/
theorem State.offer_ok {s : State} {w : JWrite} (hl : w.payload.length ≤ 992) (ha : s.accepting = true)
    (hr : s.memc.room (itemLen w.payload.length) = true) :
    s.offer w = (cOK, { s with memc := { s.memc with itemWrites := s.memc.itemWrites ++ [w] } }) :=
  (if_neg (by omega)).trans ((if_neg (by simp [ha])).trans (if_neg (by simp [hr])))

/-- A well-formed tag of a bound flow offers the token's data as an item of 8 bytes. -/
theorem State.intakeServe_bound {s : State} {tk : Token} (hh : bits tk.tag 31 26 = 0) (hl : bits tk.tag 22 12 = 0)
    (hb : (s.flow (bits tk.tag 11 0)).bound ≠ none) : s.intakeServe tk =
      s.offer ⟨.task tk.src tk.stamp, 5, bits tk.tag 11 0, 0, tagPrio tk.tag, s.intakeRef tk, leBytes 8 tk.data⟩ :=
  (if_neg (by omega)).trans (if_neg hb)

theorem flowIntake_unbound {s : State} {tk : Token} (hs : s.serves iDUG = true) (hd : epIsl tk.dest = iDUG)
    (hst : tk.stamp = none) (ht : tk.task = none) (hh : bits tk.tag 31 26 = 0) (hl : bits tk.tag 22 12 = 0)
    (hb : (s.flow (bits tk.tag 11 0)).bound = none) :
    ∃ t : State, exec (.flowIntake tk) s = .next t ∧ t.answer = cNOT_FOUND ∧ t.memc = s.memc ∧ t.dug = s.dug ∧
      t.mem = s.mem := by
  have hserve : (s.taken tk).intakeServe tk = _ := State.intakeServe_unbound (s := s.taken tk) hh hl hb
  rw [exec_flowIntake, State.arrive_serves hs hd hst ht]
  simp only [hserve]
  exact ⟨_, rfl, rfl, State.memc_touch .., State.dug_touch .., State.mem_touch ..⟩

theorem flowIntake_offered {s : State} {tk : Token} (hs : s.serves iDUG = true) (hd : epIsl tk.dest = iDUG)
    (hst : tk.stamp = none) (ht : tk.task = none) (hh : bits tk.tag 31 26 = 0) (hl : bits tk.tag 22 12 = 0)
    (hb : (s.flow (bits tk.tag 11 0)).bound ≠ none) (ha : s.accepting = true) (hr : s.memc.room 64 = true) :
    ∃ t : State, ∃ ref : Nat, exec (.flowIntake tk) s = .next t ∧ t.answer = cOK ∧ t.mem = s.mem ∧
      t.memc.itemWrites = s.memc.itemWrites ++
        [⟨.task tk.src none, 5, bits tk.tag 11 0, 0, bits tk.tag 25 23, ref, leBytes 8 tk.data⟩] := by
  have hn : (leBytes 8 tk.data).length = 8 := leBytes_length ..
  have hserve : (s.taken tk).intakeServe tk = _ := (State.intakeServe_bound (s := s.taken tk) hh hl hb).trans
    (State.offer_ok (by rw [hn]; omega) ha (by rw [hn]; exact hr))
  rw [exec_flowIntake, State.arrive_serves hs hd hst ht]
  simp only [hserve, hst]
  exact ⟨_, (s.taken tk).intakeRef tk, rfl, rfl, State.mem_touch .., congrArg MemSt.itemWrites (State.memc_touch ..)⟩

/-! ### Delivery of a flow's next item (R157) -/

/-- A Dugout that serves is in no slice of the self-test. -/
theorem State.ist_ne_selfTest {s : State} {isl : Nat} (hs : s.serves isl = true) : s.ist isl ≠ 4 := by
  obtain h | h := State.serves_ist hs <;> omega

/-- The tag a flow's item is delivered with. -/
def deliveryTag (d : Desc) (i prio : Nat) : Nat := prio * 2 ^ 23 + d.itemSlot * 2 ^ 20 + d.gen * 2 ^ 16 + i

theorem State.deliverItem_eq {s : State} {fl i : Nat} {r : JRec} (h : s.nextItem fl = some (i, r)) :
    s.deliverItem fl = (s.setFlow fl { s.flow fl with delivered := true, again := 0 }).judge i { s.inst i with
      toks := (s.inst i).toks ++ [⟨(s.inst i).itemSlot, s.itemData r, deliveryTag (s.inst i) i r.prio, ep iDUG 1⟩]
      item := some r.seq, attempt := (s.flow fl).again } := by
  unfold State.deliverItem
  rw [h]
  rfl

theorem flowItemDelivery_delivers {s : State} {fl i : Nat} {r : JRec} (hs : s.serves iDUG = true)
    (h : s.nextItem fl = some (i, r)) :
    ∃ t : State, exec (.flowItemDelivery fl) s = .next t ∧ t.mem = s.mem ∧ t.regs = s.regs ∧ (t.flow fl).delivered = true ∧
      (t.inst i).item = some r.seq ∧ (t.inst i).attempt = (s.flow fl).again ∧
      ∃ tag : Nat, (t.inst i).toks = (s.inst i).toks ++ [⟨(s.inst i).itemSlot, s.itemData r, tag, ep iDUG 1⟩] := by
  have hx : exec (.flowItemDelivery fl) s = .next (s.deliverItem fl) :=
    congrArg Host.Outcome.next (if_neg (State.ist_ne_selfTest hs))
  rw [hx, State.deliverItem_eq h]
  have hf := s.flow_setFlow_same fl { s.flow fl with delivered := true, again := 0 }
  have hm : (s.setFlow fl { s.flow fl with delivered := true, again := 0 }).mem = s.mem := rfl
  have hr : (s.setFlow fl { s.flow fl with delivered := true, again := 0 }).regs = s.regs := rfl
  generalize s.setFlow fl { s.flow fl with delivered := true, again := 0 } = z at *
  obtain ⟨age, k, he⟩ := z.judge_eq i { s.inst i with
      toks := (s.inst i).toks ++ [⟨(s.inst i).itemSlot, s.itemData r, deliveryTag (s.inst i) i r.prio, ep iDUG 1⟩]
      item := some r.seq, attempt := (s.flow fl).again }
  refine ⟨_, rfl, ?_⟩
  rw [he, State.inst_setInst_same]
  exact ⟨hm, hr, congrArg Flow.delivered hf, rfl, rfl, _, rfl⟩

end Sys2Proof.Machine
end

section
/-! PROOFS. Dispatch (R71, R135, R141, R143, R145): what the context that takes an instance starts with. -/

namespace Sys2Proof.Machine

open Sys2Proof

/-! ### A context that becomes RUNNABLE -/

/-- A context has work: it is RUNNABLE or RUNNING (R68). -/
def State.hasWork (s : State) (e c : Nat) : Prop := (s.ctx e c).st = 1 ∨ (s.ctx e c).st = 2

/-- A context that has work keeps it when one of the engine's contexts becomes RUNNABLE or RUNNING. -/
theorem State.hasWork.setSt {s : State} {e c : Nat} (h : s.hasWork e c) (d age : Nat) {v : Nat} (hv : v = 1 ∨ v = 2) :
    (s.setCtx e d { s.ctx e d with st := v, age := age }).hasWork e c := by
  unfold State.hasWork
  by_cases hd : c = d
  · subst hd
    rwa [State.ctx_setCtx_same]
  · rwa [State.ctx_setCtx_ne _ _ _ _ _ hd]

theorem State.hasWork.congr {s t : State} {e c : Nat} (h : s.hasWork e c) (ht : t.ctx e c = s.ctx e c) : t.hasWork e c := by
  rwa [State.hasWork, ht]

theorem State.hasWork.pickNext {s : State} {e c : Nat} (h : s.hasWork e c) : (s.pickNext e).hasWork e c := by
  unfold State.pickNext
  split
  · exact h
  · split
    · exact (h.setSt _ _ (.inr rfl)).congr (State.ctx_engTouch ..)
    · exact h.congr (State.ctx_engTouch ..)

theorem State.hasWork.preempt {s : State} {e c : Nat} (h : s.hasWork e c) : (s.preempt e).hasWork e c := by
  unfold State.preempt
  split
  · split
    · have ho : s.order.2.hasWork e c := h.congr (s.ctx_order e c)
      exact ((ho.setSt _ _ (.inl rfl)).setSt _ _ (.inr rfl)).congr (State.ctx_inc ..)
    · exact h
  · exact h.pickNext

theorem State.hasWork_makeRunnable (s : State) (e c : Nat) : (s.makeRunnable e c).hasWork e c := by
  have h : (s.order.2.setCtx e c { s.order.2.ctx e c with st := 1, age := s.order.1 }).hasWork e c :=
    .inl (by rw [State.ctx_setCtx_same])
  exact h.preempt.congr (State.ctx_engTouch ..)

/-! ### The operand set (R141) -/

section
variable {α β : Type} [DecidableEq α] (d : Nat → α) (key : β → Nat) (val : β → α)

/-- A list of writes leaves a key that none of them is to. -/
theorem Tab.get_foldl_set_ne (l : List β) (m : Tab α) {k : Nat} (hk : k ∉ l.map key) :
    Tab.get d (l.foldl (fun m b => Tab.set d m (key b) (val b)) m) k = Tab.get d m k :=
  List.foldlRecOn (motive := fun t => Tab.get d t k = Tab.get d m k) l _ rfl fun t ht b hb =>
    (Tab.get_set_ne d t (key b) k _ fun h => hk (h ▸ List.mem_map_of_mem hb)).trans ht

/-- Writes to keys of their own each read back. -/
theorem Tab.get_foldl_set_mem {l : List β} (hn : (l.map key).Nodup) (m : Tab α) {b : β} (hb : b ∈ l) :
    Tab.get d (l.foldl (fun m b => Tab.set d m (key b) (val b)) m) (key b) = val b := by
  induction l generalizing m with
  | nil => exact absurd hb List.not_mem_nil
  | cons a l ih =>
    rw [List.map_cons, List.nodup_cons] at hn
    obtain ⟨ha, hl⟩ := hn
    obtain rfl | hb := List.mem_cons.1 hb
    · exact (Tab.get_foldl_set_ne d key val l _ ha).trans (Tab.get_set_same ..)
    · exact ih hl _ hb

end

/-- The tokens of an operand set are of slots of their own. -/
theorem Desc.set_slots_nodup (d : Desc) : (d.set.map SlotTok.slot).Nodup := by
  rw [Desc.set, List.map_filterMap]
  refine List.Nodup.filterMap (fun a b k ha hb => ?_) List.nodup_range
  have hslot : ∀ a, k ∈ (if bit d.slots a then d.toks.find? (fun t => t.slot == a) else none).map SlotTok.slot → k = a := by
    intro a ha
    obtain ⟨t, ht, rfl⟩ := Option.mem_map.1 ha
    split at ht
    · simpa using List.find?_some ht
    · cases ht
  exact (hslot a ha).symm.trans (hslot b hb)

/-! ### The dispatch -/

/-- The attempt that a dispatch begins. -/
def Desc.nextAttempt (d : Desc) : Nat :=
  if d.flowBound then min (d.attempt + 1) 255 else if d.moved = [] then 1 else min (d.attempt + 1) 255

/-- The k registers filled from the operand set (R141). -/
def Desc.kRegs (d : Desc) : Tab KSlot :=
  d.set.foldl (fun k t => Tab.set (fun _ => KSlot.none) k t.slot ⟨t.data, t.tag, true⟩) []

/-- Each token of the set stands in the k register of its slot. -/
theorem Desc.kRegs_get {d : Desc} {t : SlotTok} (ht : t ∈ d.set) :
    Tab.get (fun _ => KSlot.none) d.kRegs t.slot = ⟨t.data, t.tag, true⟩ :=
  Tab.get_foldl_set_mem (fun _ => KSlot.none) SlotTok.slot (fun t => ⟨t.data, t.tag, true⟩) d.set_slots_nodup [] ht

/-- The context instance i starts in (R71). -/
def Desc.startCtx (d : Desc) (i : Nat) : Ctx := { Ctx.empty with
  inst := i, gen := d.gen, cls := d.actClass, bound := d.flowBound, flow := if d.flowBound then d.flow else 0,
  seq := d.item.getD 0, winmask := d.winmask, attempt := d.nextAttempt, pc := d.entry, k := d.kRegs }

/-- The instance, dispatched to context c of engine e. -/
def Desc.dispatched (d : Desc) (e c : Nat) : Desc := { d with
  st := 4, eng := e, ctx := c, attempt := d.nextAttempt, count := d.countInit, acts := satInc 32 d.acts,
  moved := d.set, toks := d.set.foldl List.erase d.toks }

/-- The Dugout after the dispatch of instance i. -/
def State.dispatchNoted (s : State) (i e c : Nat) : State :=
  let t := s.setInst i ((s.inst i).dispatched e c)
  { t with dug := { t.dug with lastDispatch := s.now } }.inc DUG_STAT_DISPATCH_COUNT

theorem State.dispatchTo_eq {s : State} {e c : Nat} (h : firstIdx 8 (fun c => (s.ctx e c).st == 0) = some c) (i : Nat) :
    s.dispatchTo i e =
      ((s.dispatchNoted i e c).setCtx e c ((s.inst i).startCtx i)).makeRunnable e c := by
  unfold State.dispatchTo
  extract_lets d
  rw [h]
  rfl

theorem dispatch_moves {s : State} {i e c : Nat} (hs : s.serves iDUG = true) (hd : s.chooseDispatch = some (i, e))
    (hc : firstIdx 8 (fun c => (s.ctx e c).st == 0) = some c) :
    ∃ t : State, exec .dispatch s = .next t ∧ t.mem = s.mem ∧ t.inst i = (s.inst i).dispatched e c ∧
      t.hasWork e c ∧ ∃ st age, t.ctx e c = { (s.inst i).startCtx i with st := st, age := age } := by
  have hx : exec .dispatch s = .next (s.dispatchTo i e) := by
    have h : exec .dispatch s = execDispatch s := rfl
    rw [h, execDispatch, if_neg (State.ist_ne_selfTest hs), hd]
  have hi : (s.dispatchNoted i e c).inst i = (s.inst i).dispatched e c := s.inst_setInst_same ..
  have hm : (s.dispatchNoted i e c).mem = s.mem := rfl
  rw [hx, State.dispatchTo_eq hc]
  generalize s.dispatchNoted i e c = z at *
  have hw := (z.setCtx e c ((s.inst i).startCtx i)).hasWork_makeRunnable e c
  obtain ⟨hq, ⟨st, age, hr⟩, -⟩ := (z.setCtx e c ((s.inst i).startCtx i)).makeRunnable_spec e c
  rw [State.ctx_setCtx_same] at hr
  exact ⟨_, rfl, (State.quiet_mem _ _ e c hq).trans hm, ((State.quiet_outputs hq).2.2.2 i).trans hi, hw, st, age, hr⟩

/-- Settles O26, command by command. That the lowest-numbered EMPTY context takes a dispatched instance is log entry 13. -/
theorem matching : Obligations.Matching := by
  intro s tk i hs
  refine ⟨fun hd hst ht => ⟨fun hi hc hsp ho => ⟨operandToken_joins hs hd hst ht hi hc hsp ho,
      operandToken_counts hs hd hst ht hi hc hsp ho⟩, operandToken_refused hs hd hst ht,
      flowIntake_unbound hs hd hst ht, flowIntake_offered hs hd hst ht⟩,
    fun fl r hn => flowItemDelivery_delivers hs hn, fun e c hd hc => ?_⟩
  obtain ⟨t, hx, hm, hi, hw, st, age, hr⟩ := dispatch_moves hs hd hc
  rw [State.hasWork, hr] at hw
  refine ⟨t, hx, hm, ?_⟩
  rw [hi, hr]
  exact ⟨rfl, rfl, rfl, hw, rfl, rfl, rfl, rfl, rfl, rfl, rfl, rfl, rfl, fun _ => Desc.kRegs_get⟩

end Sys2Proof.Machine
end

section
/-! PROOFS. Descriptor commands (R132, R133, R135): the row of DUG_DESC_CMD, what each operation does to its entry, and how
STATUS shows its end. -/

namespace Sys2Proof.Machine

open Sys2Proof

/-! ### The row of a command -/

/-- From u, which an operation has left, to t the command has ended with status c: STATUS shows it. -/
structure State.descEnded (u t : State) (c : Nat) : Prop where
  answer : t.answer = cOK
  status : t.f DUG_DESC_CMD_STATUS = c % 2 ^ 8
  mem : t.mem = u.mem
  eng : t.eng = u.eng
  dug : t.dug = u.dug
  f : ∀ q : RF, q.key ≠ DUG_DESC_CMD_STATUS.key → q.key ≠ (ISL_PSTATE_STATE iDUG).key → t.f q = u.f q

theorem State.descEnded.inst {u t : State} {c : Nat} (h : u.descEnded t c) (i : Nat) : t.inst i = u.inst i :=
  State.inst_congr h.dug i

/-- A command of an unlocked Dugout with no command under way runs its operation. -/
theorem descRow_runs {s u : State} {op c : Nat} {f : State → Nat × State} (hs : s.serves iDUG = true)
    (hl : s.on (ISL_LOCK_LOCKED iDUG) = false) (hb : s.on DUG_DESC_CMD_BUSY = false)
    (hf : f (s.setF DUG_DESC_CMD_OP op) = (c, u)) (hu : u.on DUG_DESC_CMD_BUSY = false) (req : Nat) :
    ∃ t : State, s.descRow req op f = .next t ∧ u.descEnded t c := by
  have hrun : s.descCmd req op f = (cOK, u.setF DUG_DESC_CMD_STATUS c) := by
    simp only [State.descCmd, hl, hb, hf, hu, Bool.false_eq_true, false_and, if_false]
  rw [State.descRow, State.regRow_serves hs (by decide)]
  simp only [hrun]
  refine ⟨_, rfl, rfl, ?_, State.mem_touch .., State.eng_touch .., State.dug_touch .., fun q hq hp => ?_⟩
  · rw [State.f_ans, State.f_touch _ _ (by decide), State.f_setF_same]
    rfl
  · rw [State.f_ans, State.f_touch _ _ hp, State.f_setF_ne _ _ _ _ hq]

/-- An operation runs on the state that shows its OP: the selected entry, the staging words and the Dugout are as before. -/
theorem State.desc_setOp (s : State) (op : Nat) : (s.setF DUG_DESC_CMD_OP op).selTempl = s.selTempl ∧
    (s.setF DUG_DESC_CMD_OP op).selIndex = s.selIndex ∧ (s.setF DUG_DESC_CMD_OP op).staged = s.staged ∧
    (s.setF DUG_DESC_CMD_OP op).descMirrored = s.descMirrored ∧
    (s.setF DUG_DESC_CMD_OP op).on DUG_DESC_CMD_BUSY = s.on DUG_DESC_CMD_BUSY ∧
    (s.setF DUG_DESC_CMD_OP op).f (DUG_DESC_Wi_WORD 5) = s.f (DUG_DESC_Wi_WORD 5) := by
  have hf : ∀ q : RF, q.key ≠ DUG_DESC_CMD_OP.key → (s.setF DUG_DESC_CMD_OP op).f q = s.f q :=
    fun q hq => s.f_setF_ne _ q _ hq
  have hw : ∀ k, (DUG_DESC_Wi_WORD k).key ≠ DUG_DESC_CMD_OP.key := fun k => by
    simp only [RF.key, DUG_DESC_Wi_WORD, DUG_DESC_CMD_OP]
    omega
  refine ⟨?_, hf _ (by decide), ?_, ?_, ?_, hf _ (hw 5)⟩
  · rw [State.selTempl, State.on, hf _ (by decide), State.selTempl, State.on]
  · simp only [State.staged, hf _ (hw _)]
  · rw [State.descMirrored, State.on, hf _ (by decide), State.descMirrored, State.on]
    rfl
  · rw [State.on, hf _ (by decide), State.on]

/-! ### What the operations do to an entry -/

/-- The Dugout with other bindings of flows and another order of the entries that became FREE. -/
def State.rebound (s : State) (fl : Tab Flow) (fr : List Nat) : State :=
  { s with dug := { s.dug with flows := fl, freed := fr } }

theorem State.unbind_eq (s : State) (i : Nat) : ∃ fl, s.unbind i = s.rebound fl s.dug.freed := by
  unfold State.unbind
  extract_lets d
  split
  · exact ⟨_, rfl⟩
  · exact ⟨s.dug.flows, rfl⟩

/-- An instance that starts to collect is COLLECTING or, with nothing to collect, READY (R135). -/
theorem State.nextState_spec (s : State) (i : Nat) (d : Desc) : ∃ st age k,
    s.nextState i d = (s.clocked k).setInst i { d with st := st, age := age } ∧ (st = 2 ∨ st = 3) := by
  obtain ⟨age, k, h⟩ := s.nextState_eq i d
  exact ⟨_, age, k, h, (em _).elim (fun hc => .inr (if_pos hc)) fun hc => .inl (if_neg hc)⟩

/-- A checked WRITE puts the words in, with a new generation where the entry was FREE (R132, R135). -/
theorem State.descPut_eq (s : State) (i : Nat) (d : Desc) : ∃ fl fr, s.descPut i d = (s.rebound fl fr).nextState i { d with
    gen := if (s.inst i).st = 0 then ((s.inst i).gen + 1) % 16 else (s.inst i).gen, count := d.countInit } := by
  obtain ⟨fl, hu⟩ := s.unbind_eq i
  unfold State.descPut
  rw [hu]
  extract_lets old z x y
  obtain ⟨fl', hy⟩ : ∃ fl', y = s.rebound fl' s.dug.freed := by
    simp only [y]
    split
    · exact ⟨_, rfl⟩
    · exact ⟨fl, rfl⟩
  clear_value y
  subst hy
  exact ⟨fl', _, rfl⟩

/-- A checked WRITE of instance i is a change of the Dugout alone. -/
theorem State.descPut_spec (s : State) (i : Nat) (d : Desc) : (s.descPut i d).mem = s.mem ∧ (s.descPut i d).eng = s.eng ∧
    (s.descPut i d).regs = s.regs ∧ (∃ st age, (s.descPut i d).inst i = { d with
      st := st, age := age, gen := if (s.inst i).st = 0 then ((s.inst i).gen + 1) % 16 else (s.inst i).gen
      count := d.countInit } ∧ (st = 2 ∨ st = 3)) ∧ ∀ j, j ≠ i → (s.descPut i d).inst j = s.inst j := by
  obtain ⟨fl, fr, hp⟩ := s.descPut_eq i d
  obtain ⟨st, age, k, hn, hst⟩ := (s.rebound fl fr).nextState_spec i { d with
    gen := if (s.inst i).st = 0 then ((s.inst i).gen + 1) % 16 else (s.inst i).gen, count := d.countInit }
  rw [hp, hn]
  exact ⟨rfl, rfl, rfl, ⟨st, age, State.inst_setInst_same .., hst⟩, fun j hj => State.inst_setInst_ne _ _ _ _ hj⟩

/-- A dropped instance is FREE, with its generation. -/
theorem State.descDrop_spec (s : State) (i : Nat) : (s.descDrop i).mem = s.mem ∧ (s.descDrop i).regs = s.regs ∧
    (s.descDrop i).inst i = { Desc.free with gen := (s.inst i).gen } ∧ ∀ j, j ≠ i → (s.descDrop i).inst j = s.inst j := by
  obtain ⟨fl, hu⟩ := s.unbind_eq i
  rw [State.descDrop, hu]
  exact ⟨rfl, rfl, State.inst_setInst_same (s.rebound fl s.dug.freed) .., fun j hj =>
    State.inst_setInst_ne (s.rebound fl s.dug.freed) _ _ _ hj⟩

/-- A static instance of no flow that is cancelled is DONE, once its completion has left (R135, R144). -/
theorem State.endCancelled_static {s : State} {i : Nat} (hf : (s.inst i).flowBound = false) (hk : (s.inst i).kind = 1) :
    s.endCancelled i = (s.completion i 0 cCANCELLED).setInst i { s.inst i with
      st := 6, toks := [], moved := [], attempt := 0 } := by
  have hi : (s.completion i 0 cCANCELLED).inst i = s.inst i := by
    rw [s.completion_eq]
    rfl
  simp only [State.endCancelled, State.endInst, hf, hi, hk, Bool.false_eq_true, if_false, OfNat.one_ne_ofNat]

theorem State.endCancelled_spec {s : State} {i : Nat} (hf : (s.inst i).flowBound = false) (hk : (s.inst i).kind = 1) :
    (s.endCancelled i).mem = s.mem ∧ (s.endCancelled i).regs = s.regs ∧ ((s.endCancelled i).inst i).st = 6 ∧
      ((s.endCancelled i).inst i).toks = [] ∧ ∀ j, j ≠ i → (s.endCancelled i).inst j = s.inst j := by
  rw [State.endCancelled_static hf hk, State.inst_setInst_same, s.completion_eq]
  exact ⟨rfl, rfl, rfl, rfl, fun j hj => State.inst_setInst_ne _ _ _ _ hj⟩

/-- The staging words filled with a list of words (R133). -/
def State.staging (s : State) (ws : List Nat) : State :=
  (List.range 8).foldl (fun s k => s.setF (DUG_DESC_Wi_WORD k) (ws.getD k 0)) s

theorem State.staging_word (s : State) (ws : List Nat) {k : Nat} (hk : k < 8) :
    (s.staging ws).f (DUG_DESC_Wi_WORD k) = ws.getD k 0 % 2 ^ 64 :=
  foldl_establishes (P := fun t : State => t.f (DUG_DESC_Wi_WORD k) = ws.getD k 0 % 2 ^ 64) (I := fun _ => True)
    (List.mem_range.2 hk) trivial (fun _ _ _ => trivial) (fun t _ => t.f_setF_same ..) fun t b hb _ ht =>
      (t.f_setF_ne _ _ _ (by simp only [RF.key, DUG_DESC_Wi_WORD]; omega)).trans ht

theorem State.staging_regsOnly (s : State) (ws : List Nat) :
    s.regsOnly (s.staging ws) ((List.range 8).map DUG_DESC_Wi_WORD) :=
  List.foldlRecOn (motive := fun t => s.regsOnly t ((List.range 8).map DUG_DESC_Wi_WORD)) _ _ (s.regsOnly_refl _)
    fun _ ht _ hk => ht.setF (List.mem_map_of_mem hk) _

/-! ### The operations -/

section
variable {z : State} {i : Nat} {d : Desc}

theorem State.descWrite_refused {b : Bool} (hT : z.selTempl = b) (hI : z.selIndex = i) (hS : z.staged = d)
    (h : z.descCheck b i d ≠ cOK) : z.descWrite = (z.descCheck b i d, z) := by
  subst hT hI hS
  exact if_pos h

theorem State.descWrite_templ (hT : z.selTempl = true) (hI : z.selIndex = i) (hS : z.staged = d)
    (h : z.descCheck true i d = cOK) : z.descWrite = (cOK, z.setTempl i d) := by
  subst hI hS
  exact (if_neg (by rw [hT, h]; exact not_not.2 rfl)).trans (if_pos hT)

variable (hT : z.selTempl = false) (hI : z.selIndex = i)
include hT hI

theorem State.descWrite_puts (hS : z.staged = d) (hc : z.descCheck false i d = cOK)
    (hst : (z.inst i).st = 0 ∨ (z.inst i).st = 6) (hm : (d.flowBound && z.descMirrored) = false) :
    z.descWrite = (cOK, z.descPut i d) := by
  subst hI hS
  exact (if_neg (by rw [hT, hc]; exact not_not.2 rfl)).trans ((if_neg (by simp [hT])).trans
    ((if_neg (by omega)).trans (if_neg (by simp [hm]))))

theorem State.descRead_inst : z.descRead = (cOK, z.staging ((z.inst i).words (z.spilledFor i))) := by
  subst hI
  unfold State.descRead State.staging
  simp only [hT, Bool.false_eq_true, if_false]

theorem State.descDelete_done (h6 : (z.inst i).st = 6) (hf : (z.inst i).flowBound = false) :
    z.descDelete = (cOK, z.descDrop i) := by
  subst hI
  exact (if_neg (by simp [hT])).trans ((if_neg (by omega)).trans ((if_neg (by simp [hf])).trans (if_neg (by simp [hf]))))

theorem State.descDelete_busy (h6 : (z.inst i).st ≠ 6) (h2 : (z.inst i).st ≠ 2) : z.descDelete = (cBUSY, z) := by
  subst hI
  exact (if_neg (by simp [hT])).trans (if_pos ⟨h6, h2⟩)

/-- An instance that waits for operands or dispatch is cancelled at once. -/
theorem State.descCancel_waits (hst : (z.inst i).st = 2 ∨ (z.inst i).st = 3)
    (hg : bits (z.f (DUG_DESC_Wi_WORD 5)) 19 16 = (z.inst i).gen) : z.descCancel = (cOK, z.endCancelled i) := by
  subst hI
  exact (if_neg (by simp [hT])).trans ((if_neg (by omega)).trans ((if_neg (by omega)).trans (if_neg (by omega))))

theorem State.descCancel_unknown (hg : (z.inst i).gen ≠ bits (z.f (DUG_DESC_Wi_WORD 5)) 19 16) :
    z.descCancel = (cNOT_FOUND, z) := by
  subst hI
  exact (if_neg (by simp [hT])).trans (if_pos (.inr (.inr (.inr hg))))

theorem State.descRearm_done (h6 : (z.inst i).st = 6) :
    z.descRearm = (cOK, z.nextState i { z.inst i with count := (z.inst i).countInit }) := by
  subst hI
  exact (if_neg (by simp [hT])).trans (if_neg (not_not.2 h6))

end

/-! ### The commands -/

section
variable {s : State} (hs : s.serves iDUG = true) (hl : s.on (ISL_LOCK_LOCKED iDUG) = false)
  (hb : s.on DUG_DESC_CMD_BUSY = false)
include hs hl hb

/-- An operation that writes no register leaves no command under way. -/
theorem descRow_ends {u : State} {op c : Nat} {f : State → Nat × State} (hf : f (s.setF DUG_DESC_CMD_OP op) = (c, u))
    (hu : u.regs = (s.setF DUG_DESC_CMD_OP op).regs) (req : Nat) :
    ∃ t : State, s.descRow req op f = .next t ∧ u.descEnded t c := by
  obtain ⟨-, -, -, -, hB, -⟩ := s.desc_setOp op
  refine descRow_runs hs hl hb hf ?_ req
  rw [State.on, State.f_congr _ u _ hu, ← State.on, hB, hb]

/-- An operation that leaves the device as it was. -/
theorem descRow_same {op c : Nat} {f : State → Nat × State}
    (hf : f (s.setF DUG_DESC_CMD_OP op) = (c, s.setF DUG_DESC_CMD_OP op)) (req : Nat) :
    ∃ t : State, s.descRow req op f = .next t ∧ t.answer = cOK ∧ t.f DUG_DESC_CMD_STATUS = c % 2 ^ 8 ∧ t.dug = s.dug ∧
      s.keeps t [DUG_DESC_CMD_OP, DUG_DESC_CMD_STATUS, ISL_PSTATE_STATE iDUG] := by
  obtain ⟨t, hx, ht⟩ := descRow_ends hs hl hb hf rfl req
  refine ⟨t, hx, ht.answer, ht.status, ht.dug, ht.mem, ht.eng, fun q hq => ?_⟩
  simp only [List.mem_cons, List.not_mem_nil, or_false, forall_eq_or_imp, forall_eq] at hq
  obtain ⟨ho, hst, hp⟩ := hq
  exact (ht.f q hst hp).trans (s.f_setF_ne _ _ _ ho)

theorem descWrite_template {i : Nat} (hi : s.selIndex = i) (hT : s.selTempl = true)
    (hc : s.descCheck true i s.staged = cOK) (req : Nat) :
    ∃ t : State, exec (.descWrite req) s = .next t ∧ t.answer = cOK ∧ t.f DUG_DESC_CMD_STATUS = cOK ∧
      t.templ i = s.staged ∧ (∀ j : Nat, t.inst j = s.inst j) ∧ t.mem = s.mem := by
  obtain ⟨zT, zI, zS, -, -, -⟩ := s.desc_setOp 1
  obtain ⟨t, hx, ht⟩ := descRow_ends hs hl hb (State.descWrite_templ (zT.trans hT) (zI.trans hi) zS hc) rfl req
  refine ⟨t, hx, ht.answer, ht.status, ?_, ht.inst, ht.mem⟩
  rw [State.templ, ht.dug]
  exact Tab.get_set_same ..

variable {i : Nat} (hi : s.selIndex = i) (hT : s.selTempl = false)
include hi hT

theorem descWrite_fills (hc : s.descCheck false i s.staged = cOK) (hst : (s.inst i).st = 0 ∨ (s.inst i).st = 6)
    (hm : (s.staged.flowBound && s.descMirrored) = false) (req : Nat) :
    ∃ t : State, exec (.descWrite req) s = .next t ∧ t.answer = cOK ∧ t.f DUG_DESC_CMD_STATUS = cOK ∧ t.mem = s.mem ∧
      t.eng = s.eng ∧ (∃ st age, t.inst i = { s.staged with
        st := st, age := age, gen := if (s.inst i).st = 0 then ((s.inst i).gen + 1) % 16 else (s.inst i).gen
        count := s.staged.countInit } ∧ (st = 2 ∨ st = 3)) ∧ ∀ j : Nat, j ≠ i → t.inst j = s.inst j := by
  obtain ⟨zT, zI, zS, zM, -, -⟩ := s.desc_setOp 1
  obtain ⟨um, ue, ur, ⟨st, age, ui, hst'⟩, uj⟩ := (s.setF DUG_DESC_CMD_OP 1).descPut_spec i s.staged
  obtain ⟨t, hx, ht⟩ := descRow_ends hs hl hb
    (State.descWrite_puts (zT.trans hT) (zI.trans hi) zS hc hst (by rwa [zM])) ur req
  exact ⟨t, hx, ht.answer, ht.status, ht.mem.trans um, ht.eng.trans ue, ⟨st, age, (ht.inst i).trans ui, hst'⟩,
    fun j hj => (ht.inst j).trans (uj j hj)⟩

theorem descWrite_rejected (hc : s.descCheck false i s.staged ≠ cOK) (req : Nat) :
    ∃ t : State, exec (.descWrite req) s = .next t ∧ t.answer = cOK ∧
      t.f DUG_DESC_CMD_STATUS = s.descCheck false i s.staged % 2 ^ 8 ∧ t.dug = s.dug ∧
      s.keeps t [DUG_DESC_CMD_OP, DUG_DESC_CMD_STATUS, ISL_PSTATE_STATE iDUG] := by
  obtain ⟨zT, zI, zS, -, -, -⟩ := s.desc_setOp 1
  exact descRow_same hs hl hb (State.descWrite_refused (zT.trans hT) (zI.trans hi) zS hc) req

theorem descRead_copies (req : Nat) :
    ∃ t : State, exec (.descRead req) s = .next t ∧ t.answer = cOK ∧ t.f DUG_DESC_CMD_STATUS = cOK ∧ t.mem = s.mem ∧
      t.dug = s.dug ∧ ∀ k < 8, t.f (DUG_DESC_Wi_WORD k) = ((s.inst i).words (s.spilledFor i)).getD k 0 % 2 ^ 64 := by
  obtain ⟨zT, zI, -, -, zB, -⟩ := s.desc_setOp 2
  have hr : (s.setF DUG_DESC_CMD_OP 2).descRead =
      (cOK, (s.setF DUG_DESC_CMD_OP 2).staging ((s.inst i).words (s.spilledFor i))) :=
    State.descRead_inst (zT.trans hT) (zI.trans hi)
  generalize (s.inst i).words (s.spilledFor i) = ws at *
  obtain ⟨⟨g, hg⟩, hu⟩ := (s.setF DUG_DESC_CMD_OP 2).staging_regsOnly ws
  have hw := fun k (hk : k < 8) => (s.setF DUG_DESC_CMD_OP 2).staging_word ws hk
  obtain ⟨t, hx, ht⟩ := descRow_runs hs hl hb hr (by rw [State.on, hu _ (by decide), ← State.on, zB, hb]) req
  refine ⟨t, hx, ht.answer, ht.status, by rw [ht.mem, hg]; rfl, by rw [ht.dug, hg]; rfl, fun k hk => ?_⟩
  rw [← hw k hk]
  refine ht.f _ ?_ ?_ <;> simp only [RF.key, DUG_DESC_Wi_WORD, DUG_DESC_CMD_STATUS, ISL_PSTATE_STATE, iDUG] <;> omega

theorem descDelete_frees (h6 : (s.inst i).st = 6) (hf : (s.inst i).flowBound = false) (req : Nat) :
    ∃ t : State, exec (.descDelete req) s = .next t ∧ t.f DUG_DESC_CMD_STATUS = cOK ∧ t.mem = s.mem ∧
      t.inst i = { Desc.free with gen := (s.inst i).gen } ∧ ∀ j : Nat, j ≠ i → t.inst j = s.inst j := by
  obtain ⟨zT, zI, -, -, -, -⟩ := s.desc_setOp 3
  obtain ⟨um, ur, ui, uj⟩ := (s.setF DUG_DESC_CMD_OP 3).descDrop_spec i
  obtain ⟨t, hx, ht⟩ := descRow_ends hs hl hb (State.descDelete_done (zT.trans hT) (zI.trans hi) h6 hf) ur req
  exact ⟨t, hx, ht.status, ht.mem.trans um, (ht.inst i).trans ui, fun j hj => (ht.inst j).trans (uj j hj)⟩

theorem descDelete_refused (h6 : (s.inst i).st ≠ 6) (h2 : (s.inst i).st ≠ 2) (req : Nat) :
    ∃ t : State, exec (.descDelete req) s = .next t ∧ t.f DUG_DESC_CMD_STATUS = cBUSY ∧ t.dug = s.dug ∧ t.mem = s.mem := by
  obtain ⟨zT, zI, -, -, -, -⟩ := s.desc_setOp 3
  obtain ⟨t, hx, -, hst, hd, hk⟩ := descRow_same hs hl hb (State.descDelete_busy (zT.trans hT) (zI.trans hi) h6 h2) req
  exact ⟨t, hx, hst, hd, hk.1⟩

theorem descCancel_cancels (hst : (s.inst i).st = 2 ∨ (s.inst i).st = 3) (hk : (s.inst i).kind = 1)
    (hf : (s.inst i).flowBound = false) (hg : bits (s.f (DUG_DESC_Wi_WORD 5)) 19 16 = (s.inst i).gen) (req : Nat) :
    ∃ t : State, exec (.descCancel req) s = .next t ∧ t.f DUG_DESC_CMD_STATUS = cOK ∧ t.mem = s.mem ∧ (t.inst i).st = 6 ∧
      (t.inst i).toks = [] ∧ ∀ j : Nat, j ≠ i → t.inst j = s.inst j := by
  obtain ⟨zT, zI, -, -, -, zW⟩ := s.desc_setOp 4
  obtain ⟨um, ur, u6, uk, uj⟩ := State.endCancelled_spec (s := s.setF DUG_DESC_CMD_OP 4) hf hk
  obtain ⟨t, hx, ht⟩ := descRow_ends hs hl hb
    (State.descCancel_waits (zT.trans hT) (zI.trans hi) hst (by rwa [zW])) ur req
  exact ⟨t, hx, ht.status, ht.mem.trans um, by rw [ht.inst, u6], by rw [ht.inst, uk],
    fun j hj => (ht.inst j).trans (uj j hj)⟩

theorem descCancel_notFound (hg : (s.inst i).gen ≠ bits (s.f (DUG_DESC_Wi_WORD 5)) 19 16) (req : Nat) :
    ∃ t : State, exec (.descCancel req) s = .next t ∧ t.f DUG_DESC_CMD_STATUS = cNOT_FOUND ∧ t.dug = s.dug ∧
      t.mem = s.mem := by
  obtain ⟨zT, zI, -, -, -, zW⟩ := s.desc_setOp 4
  obtain ⟨t, hx, -, hst, hd, hk⟩ := descRow_same hs hl hb
    (State.descCancel_unknown (zT.trans hT) (zI.trans hi) (by rwa [zW])) req
  exact ⟨t, hx, hst, hd, hk.1⟩

theorem descRearm_collects (h6 : (s.inst i).st = 6) (req : Nat) :
    ∃ t : State, exec (.descRearm req) s = .next t ∧ t.f DUG_DESC_CMD_STATUS = cOK ∧ t.mem = s.mem ∧
      (∃ st age, t.inst i = { s.inst i with st := st, age := age, count := (s.inst i).countInit } ∧ (st = 2 ∨ st = 3)) ∧
      ∀ j : Nat, j ≠ i → t.inst j = s.inst j := by
  obtain ⟨zT, zI, -, -, -, -⟩ := s.desc_setOp 5
  obtain ⟨st, age, k, hn, hst⟩ := (s.setF DUG_DESC_CMD_OP 5).nextState_spec i
    { s.inst i with count := (s.inst i).countInit }
  obtain ⟨t, hx, ht⟩ := descRow_ends hs hl hb
    ((State.descRearm_done (zT.trans hT) (zI.trans hi) h6).trans (congrArg (Prod.mk cOK) hn)) rfl req
  exact ⟨t, hx, ht.status, ht.mem, ⟨st, age, (ht.inst i).trans (State.inst_setInst_same ..), hst⟩,
    fun j hj => (ht.inst j).trans (State.inst_setInst_ne _ _ _ _ hj)⟩

end

/-- Settles O27, operation by operation. -/
theorem descriptors : Obligations.Descriptors := by
  intro s req i hs hl hb hi
  refine ⟨fun hT => ⟨fun hc hst hm => ?_, fun hc => descWrite_rejected hs hl hb hi hT hc req,
    descRead_copies hs hl hb hi hT req, fun h6 hf => descDelete_frees hs hl hb hi hT h6 hf req,
    fun h6 h2 => descDelete_refused hs hl hb hi hT h6 h2 req,
    fun hst hk hf hg => descCancel_cancels hs hl hb hi hT hst hk hf hg req,
    fun hg => descCancel_notFound hs hl hb hi hT hg req, fun h6 => ?_⟩,
    fun hT hc => descWrite_template hs hl hb hi hT hc req⟩
  · obtain ⟨t, hx, ha, ht, hm, he, ⟨st, age, hin, h⟩, hj⟩ := descWrite_fills hs hl hb hi hT hc hst hm req
    refine ⟨t, hx, ha, ht, hm, he, ?_⟩
    rw [hin]
    exact ⟨h, rfl, rfl, rfl, rfl, rfl, rfl, rfl, rfl, rfl, hj⟩
  · obtain ⟨t, hx, ht, hm, ⟨st, age, hin, h⟩, hj⟩ := descRearm_collects hs hl hb hi hT h6 req
    refine ⟨t, hx, ht, hm, ?_⟩
    rw [hin]
    exact ⟨h, rfl, rfl, hj⟩

end Sys2Proof.Machine
end

section
/-! PROOFS. The spill ring's refill and a stall of the store (R151, R152, R154). -/

namespace Sys2Proof.Machine

open Sys2Proof

/-! ### Refill (R151, R152) -/

/-- From s to t memory, the engines and the spill ring are as they were. -/
structure State.keepsRing (s t : State) : Prop where
  mem : t.mem = s.mem
  eng : t.eng = s.eng
  spill : t.dug.spill = s.dug.spill
  spillRd : t.dug.spillRd = s.dug.spillRd

theorem State.keepsRing_judge (s : State) (i : Nat) (d : Desc) : s.keepsRing (s.judge i d) := by
  obtain ⟨age, k, h⟩ := s.judge_eq i d
  rw [h]
  exact ⟨rfl, rfl, rfl, rfl⟩

theorem State.keepsRing_operandTake (s : State) (tk : Token) : s.keepsRing (s.operandTake tk) := by
  unfold State.operandTake
  extract_lets i d slot k
  split
  · split
    · exact ⟨rfl, rfl, rfl, rfl⟩
    · exact s.keepsRing_judge i _
  · split
    · exact ⟨rfl, rfl, rfl, rfl⟩
    · exact s.keepsRing_judge i _

/-- The n oldest tokens have left the spill ring. -/
structure State.refilled (s t : State) (n : Nat) : Prop where
  mem : t.mem = s.mem
  eng : t.eng = s.eng
  spill : t.dug.spill = s.dug.spill.drop n
  spillRd : t.dug.spillRd = s.dug.spillRd + n

/-- The ring's oldest token has left it, and the tokens tks stay. -/
def State.unspilled (s : State) (tks : List Token) : State :=
  { s with dug := { s.dug with spill := tks, spillRd := s.dug.spillRd + 1 } }

theorem State.spillReturn_eq {s : State} {tk : Token} {tks : List Token} (h : s.dug.spill = tk :: tks) :
    s.spillReturn = if (s.unspilled tks).operandCheck tk.tag = cOK then (s.unspilled tks).operandTake tk
      else ((s.unspilled tks).inc DUG_STAT_REFUSED_COUNT).ans ((s.unspilled tks).operandCheck tk.tag) := by
  unfold State.spillReturn
  rw [h]
  rfl

/-- A token that returns leaves the ring, whether its instance takes it or its check fails. -/
theorem State.refilled_spillReturn {s : State} (h : s.dug.spill ≠ []) : s.refilled s.spillReturn 1 := by
  obtain ⟨tk, tks, h⟩ := List.exists_cons_of_ne_nil h
  have hz : s.refilled (s.unspilled tks) 1 := ⟨rfl, rfl, by rw [h]; rfl, rfl⟩
  rw [State.spillReturn_eq h]
  generalize s.unspilled tks = z at *
  split
  · have hk := z.keepsRing_operandTake tk
    exact ⟨hk.mem.trans hz.mem, hk.eng.trans hz.eng, hk.spill.trans hz.spill, hk.spillRd.trans hz.spillRd⟩
  · exact ⟨hz.mem, hz.eng, hz.spill, hz.spillRd⟩

theorem State.refilled_spillReturnN {n : Nat} {s : State} (h : n ≤ s.dug.spill.length) : s.refilled (s.spillReturnN n) n := by
  induction n generalizing s with
  | zero => exact ⟨rfl, rfl, rfl, rfl⟩
  | succ n ih =>
    have h1 : s.refilled s.spillReturn 1 := State.refilled_spillReturn fun h0 => by simp [h0] at h
    have hn : s.spillReturn.refilled (s.spillReturn.spillReturnN n) n := ih (by
      rw [h1.spill, List.length_drop]
      omega)
    refine ⟨hn.mem.trans h1.mem, hn.eng.trans h1.eng, ?_, ?_⟩
    · rw [State.spillReturnN, hn.spill, h1.spill, List.drop_drop, Nat.add_comm]
    · rw [State.spillReturnN, hn.spillRd, h1.spillRd]
      omega

theorem exec_spillRefillBatch (s : State) : exec .spillRefillBatch s =
    .next (if s.dug.spill ≠ [] ∧ s.onDie + 512 ≤ 16384 then s.spillReturnN (min 32 s.dug.spill.length) else s) := rfl

theorem spillRefillBatch_refills {s : State} (h : s.dug.spill ≠ []) (hd : s.onDie + 512 ≤ 16384) :
    ∃ t : State, exec .spillRefillBatch s = .next t ∧ t.mem = s.mem ∧ t.dug.spill = s.dug.spill.drop 32 ∧
      t.dug.spillRd = s.dug.spillRd + min 32 s.dug.spill.length ∧ t.eng = s.eng := by
  have hr := s.refilled_spillReturnN (Nat.min_le_right 32 s.dug.spill.length)
  refine ⟨_, (exec_spillRefillBatch s).trans (congrArg _ (if_pos ⟨h, hd⟩)), hr.mem, hr.spill.trans ?_, hr.spillRd, hr.eng⟩
  obtain hl | hl := Nat.le_total 32 s.dug.spill.length
  · rw [Nat.min_eq_left hl]
  · rw [Nat.min_eq_right hl, List.drop_length, List.drop_eq_nil_of_le hl]

theorem spillRefillBatch_none {s : State} (hd : 16384 < s.onDie + 512) : exec .spillRefillBatch s = .next s :=
  (exec_spillRefillBatch s).trans (congrArg _ (if_neg fun h => absurd h.2 (by omega)))

/-! ### A stall of the store (R154) -/

/-- The stall is announced where DUG_NOTICE asks for it. -/
def State.stallNotice (s : State) : State :=
  if s.on DUG_NOTICE_EN then
    s.notice (ep iDUG 0) (s.f DUG_NOTICE_EP) (s.f DUG_NOTICE_TAG) (s.dug.spill.length * 2 ^ 32 + 1) false
  else s

theorem State.stallNotice_eq (s : State) : s.stallNotice = { s with sent := s.sent ++ (if s.on DUG_NOTICE_EN then
    [⟨s.f DUG_NOTICE_EP, noticeTag (s.f DUG_NOTICE_TAG) false, s.dug.spill.length * 2 ^ 32 + 1, ep iDUG 0, none, none⟩]
    else []) } := by
  unfold State.stallNotice
  split
  · rfl
  · rw [List.append_nil]

/-- The stall is recorded and counted, and its timer starts anew. -/
def State.stallCounted (s : State) (n : Nat) : State :=
  let t := (s.stage 0x0702 [n]).inc DUG_STAT_STALLS_COUNT
  { t with dug := { t.dug with lastDispatch := t.now } }

theorem State.stallCounted_spec (s : State) (n : Nat) : (s.stallCounted n).dug = { s.dug with lastDispatch := s.now } ∧
    (s.stallCounted n).mem = s.mem ∧ (s.stallCounted n).sent = s.sent ∧
    (s.stallCounted n).f DUG_STAT_STALLS_COUNT = satInc 32 (s.f DUG_STAT_STALLS_COUNT) := by
  have hf := s.f_stage 0x0702 [n] (q := DUG_STAT_STALLS_COUNT) (by decide)
  have hc : (s.stallCounted n).f DUG_STAT_STALLS_COUNT =
      satInc 32 ((s.stage 0x0702 [n]).f DUG_STAT_STALLS_COUNT) % 2 ^ 32 := State.f_setF_same ..
  rw [hf, Nat.mod_eq_of_lt (by simp only [satInc]; omega)] at hc
  obtain ⟨k, g, b, r, he, -⟩ := s.stage_eq 0x0702 [n]
  refine ⟨?_, ?_, ?_, hc⟩ <;> rw [State.stallCounted, he] <;> rfl

theorem exec_dugoutStall (s : State) : exec .dugoutStall s =
    .next (if s.stalled then s.stallNotice.stallCounted s.dug.spill.length else s) := rfl

theorem dugoutStall_noticed {s : State} (h : s.stalled = true) :
    ∃ t : State, exec .dugoutStall s = .next t ∧ t.dug.lastDispatch = s.now ∧ t.dug.spill = s.dug.spill ∧ t.mem = s.mem ∧
      t.f DUG_STAT_STALLS_COUNT = satInc 32 (s.f DUG_STAT_STALLS_COUNT) ∧
      t.sent = s.sent ++ (if s.on DUG_NOTICE_EN then [⟨s.f DUG_NOTICE_EP, noticeTag (s.f DUG_NOTICE_TAG) false,
        s.dug.spill.length * 2 ^ 32 + 1, ep iDUG 0, none, none⟩] else []) := by
  obtain ⟨hd, hm, hs, hf⟩ := s.stallNotice.stallCounted_spec s.dug.spill.length
  rw [s.stallNotice_eq] at hd hm hs hf
  exact ⟨_, (exec_dugoutStall s).trans (congrArg _ ((if_pos h).trans (by rw [s.stallNotice_eq]))),
    by rw [hd]; rfl, by rw [hd], hm, hf, hs⟩

theorem dugoutStall_none {s : State} (h : s.stalled = false) : exec .dugoutStall s = .next s :=
  (exec_dugoutStall s).trans (congrArg _ (if_neg (ne_true_of_eq_false h)))

/-- Settles O28. That a refill batch without room and a stall that is not due do nothing is log entry 60; that a noticed stall
starts its timer anew is the model's choice. -/
theorem spillAndStall : Obligations.SpillAndStall := fun _ =>
  ⟨spillRefillBatch_refills, spillRefillBatch_none, dugoutStall_noticed, dugoutStall_none⟩

end Sys2Proof.Machine
end

section
/-! PROOFS. Word queues (R162 to R164, R169, R170): a word that arrives, the writes of CFG and STALE, and the stale tail. -/

namespace Sys2Proof.Machine

open Sys2Proof

/-! ### A word joins a queue (R163) -/

theorem State.q_setQ_ne (s : State) {n m : Nat} (h : m ≠ n) (x : Queue) : (s.setQ n x).q m = s.q m :=
  Tab.get_set_ne _ _ _ _ _ h

/-- Queues are read from QUE alone. -/
theorem State.q_congr {s t : State} (h : t.que = s.que) (n : Nat) : t.q n = s.q n := by
  rw [State.q, h, State.q]

/-- From s to t memory and the engines are as before, and so are the words held and every queue but n. -/
structure State.keepsQueues (s t : State) (n : Nat) : Prop where
  mem : t.mem = s.mem
  eng : t.eng = s.eng
  held : (t.q n).held = (s.q n).held
  q : ∀ m, m ≠ n → t.q m = s.q m

theorem State.qMark_eq (s : State) (n : Nat) : ∃ g, s.qMark n = { s with regs := g } := by
  unfold State.qMark
  split
  · exact ⟨_, rfl⟩
  · exact ⟨s.regs, rfl⟩

/-- A word that becomes present stands in its place in the order of arrival. -/
theorem State.putWord_spec (s : State) (n : Nat) (x : QEnt) :
    s.keepsQueues (s.putWord n x) n ∧ ((s.putWord n x).q n).words = insertWord x (s.q n).words := by
  unfold State.putWord
  extract_lets q first z y
  have hz : s.keepsQueues z n ∧ (z.q n).words = insertWord x (s.q n).words := by
    have hq : z.q n = { q with words := insertWord x q.words, staleStart := if first then s.now else q.staleStart } :=
      State.q_setQ_same ..
    exact ⟨⟨rfl, rfl, by rw [hq], fun m hm => s.q_setQ_ne hm _⟩, by rw [hq]⟩
  obtain ⟨g, hy⟩ : ∃ g, y = { z with regs := g } := z.qMark_eq n
  clear_value y z
  obtain ⟨⟨hm, he, hh, hq⟩, hw⟩ := hz
  subst hy
  split
  · exact ⟨⟨hm, he, hh, hq⟩, hw⟩
  · exact ⟨⟨hm, he, hh, hq⟩, hw⟩

/-- The next word of queue n takes its place in the order of arrival. -/
def State.ordered (s : State) (n : Nat) : State := s.setQ n { s.q n with order := (s.q n).order + 1 }

/-- The next word of queue n takes its place in the order of arrival. -/
theorem State.joinWord_spec (s : State) (n prio data : Nat) :
    s.keepsQueues ((s.ordered n).putWord n ⟨prio, data, (s.q n).order⟩) n ∧
      (((s.ordered n).putWord n ⟨prio, data, (s.q n).order⟩).q n).words =
        insertWord ⟨prio, data, (s.q n).order⟩ (s.q n).words := by
  obtain ⟨hk, hw⟩ := (s.ordered n).putWord_spec n ⟨prio, data, (s.q n).order⟩
  have hq : (s.ordered n).q n = { s.q n with order := (s.q n).order + 1 } := s.q_setQ_same ..
  exact ⟨⟨hk.mem, hk.eng, by rw [hk.held, hq], fun m hm => (hk.q m hm).trans (s.q_setQ_ne hm _)⟩, by rw [hw, hq]⟩

theorem Queue.waiter_none {q : Queue} (h : q.waits = []) : q.waiter = none := by
  rw [Queue.waiter, h]
  rfl

section
variable {s : State} {n : Nat} (hn : n < 64)
include hn

theorem State.wordArrives_disabled (he : s.on (QUE_Qn_CFG_ENABLE n) = false) (prio data : Nat) :
    s.wordArrives n prio data = (cNO_ROUTE, s) :=
  (if_neg (by omega)).trans (if_pos he)

variable (he : s.on (QUE_Qn_CFG_ENABLE n) = true) (hw : (s.q n).waits = [])
include he hw

theorem State.wordArrives_joins (hd : (s.q n).total < s.f (QUE_Qn_CFG_DEPTH n)) (prio data : Nat) :
    s.wordArrives n prio data = (cOK, (s.ordered n).putWord n ⟨prio, data, (s.q n).order⟩) := by
  unfold State.wordArrives
  rw [if_neg (by omega), if_neg (by simp [he])]
  extract_lets q x z
  rw [Queue.waiter_none hw]
  exact if_pos hd

/-- A full queue set to REFUSE counts the drop (R164). -/
theorem State.wordArrives_refused (hd : s.f (QUE_Qn_CFG_DEPTH n) ≤ (s.q n).total) (hf : s.f (QUE_Qn_CFG_FULL n) = 0)
    (prio data : Nat) : s.wordArrives n prio data = (cBUSY, s.inc (QUE_Qn_DROPS_REFUSED n)) := by
  unfold State.wordArrives
  rw [if_neg (by omega), if_neg (by simp [he])]
  extract_lets q x z
  rw [Queue.waiter_none hw]
  exact (if_neg (not_lt.2 hd)).trans (if_neg (by omega))

end

/-! ### A word from an engine or an island -/

/-- The word has left the fabric. -/
def State.wordTaken (s : State) (w : QWord) : State := { s with qsent := s.qsent.erase w }

/-- A word without a stamp, of no task's release, is served at once. -/
theorem exec_queueWord {s : State} {w : QWord} (hs : s.serves iQUE = true) (hst : w.stamp = none) (ht : w.task = none) :
    exec (.queueWord w) s = .next (((s.wordTaken w).qwordServe w).2.ans ((s.wordTaken w).qwordServe w).1) := by
  refine congrArg Host.Outcome.next ((if_neg (State.ist_ne_selfTest hs)).trans ?_)
  rw [hst, ht]
  rfl

/-- A word that is refused to a producer other than GBB and GOB is counted with the queue alone. -/
theorem State.qwordServe_eq {s z : State} {w : QWord} {c : Nat} (h : s.wordArrives w.queue w.prio w.data = (c, z))
    (hc : c = cOK ∨ epIsl w.src ≠ iGBB ∧ epIsl w.src ≠ iGOB) : s.qwordServe w = (c, z) := by
  unfold State.qwordServe
  rw [h]
  obtain rfl | ⟨hb, ho⟩ := hc
  · exact if_pos rfl
  · simp only [if_neg hb, if_neg ho, ite_self]

section
variable {s : State} {n : Nat} {w : QWord} (hn : n < 64) (hs : s.serves iQUE = true) (hq : w.queue = n)
  (hst : w.stamp = none) (ht : w.task = none)
include hn hs hq hst ht

theorem queueWord_joins (he : s.on (QUE_Qn_CFG_ENABLE n) = true) (hw : (s.q n).waits = [])
    (hd : (s.q n).total < s.f (QUE_Qn_CFG_DEPTH n)) :
    ∃ t : State, exec (.queueWord w) s = .next t ∧ t.answer = cOK ∧ s.keepsQueues t n ∧
      (t.q n).words = insertWord ⟨w.prio, w.data, (s.q n).order⟩ (s.q n).words := by
  subst hq
  obtain ⟨⟨hm, he', hh, hj⟩, hws⟩ := (s.wordTaken w).joinWord_spec w.queue w.prio w.data
  rw [exec_queueWord hs hst ht,
    State.qwordServe_eq (State.wordArrives_joins (s := s.wordTaken w) hn he hw hd w.prio w.data) (.inl rfl)]
  exact ⟨_, rfl, rfl, ⟨hm, he', hh, hj⟩, hws⟩

theorem queueWord_noRoute (he : s.on (QUE_Qn_CFG_ENABLE n) = false) (hsrc : epIsl w.src ≠ iGBB ∧ epIsl w.src ≠ iGOB) :
    ∃ t : State, exec (.queueWord w) s = .next t ∧ t.answer = cNO_ROUTE ∧ t.que = s.que ∧ s.keeps t [] := by
  subst hq
  rw [exec_queueWord hs hst ht,
    State.qwordServe_eq (State.wordArrives_disabled (s := s.wordTaken w) hn he w.prio w.data) (.inr hsrc)]
  exact ⟨_, rfl, rfl, rfl, s.keeps_refl _⟩

theorem queueWord_busy (he : s.on (QUE_Qn_CFG_ENABLE n) = true) (hw : (s.q n).waits = [])
    (hd : s.f (QUE_Qn_CFG_DEPTH n) ≤ (s.q n).total) (hf : s.f (QUE_Qn_CFG_FULL n) = 0)
    (hsrc : epIsl w.src ≠ iGBB ∧ epIsl w.src ≠ iGOB) :
    ∃ t : State, exec (.queueWord w) s = .next t ∧ t.answer = cBUSY ∧ t.que = s.que ∧
      s.keeps t [QUE_Qn_DROPS_REFUSED n] := by
  subst hq
  have hk : s.keeps (s.wordTaken w) [QUE_Qn_DROPS_REFUSED w.queue] := s.keeps_refl _
  rw [exec_queueWord hs hst ht,
    State.qwordServe_eq (State.wordArrives_refused (s := s.wordTaken w) hn he hw hd hf w.prio w.data) (.inr hsrc)]
  exact ⟨_, rfl, rfl, rfl, (hk.setF (by simp) _).ans _⟩

end

/-! ### Writes of a queue's registers -/

theorem exec_queuePush {s : State} (hs : s.serves iQUE = true) (req n v : Nat) : exec (.queuePush req n v) s =
    .next (((s.quePush req n v).2.touch iQUE).ans (s.quePush req n v).1) := by
  simp only [exec, execQueuePush, State.regRow_serves hs (by decide)]

theorem exec_queueConfig {s : State} (hs : s.serves iQUE = true) (req n v : Nat) : exec (.queueConfig req n v) s =
    .next (((s.queCfgWrite req n v).2.touch iQUE).ans (s.queCfgWrite req n v).1) := by
  simp only [exec, execQueueConfig, State.regRow_serves hs (by decide)]

theorem exec_staleConfig {s : State} (hs : s.serves iQUE = true) (req n v : Nat) : exec (.staleConfig req n v) s =
    .next (((s.queStaleWrite req n v).2.touch iQUE).ans (s.queStaleWrite req n v).1) := by
  simp only [exec, execStaleConfig, State.regRow_serves hs (by decide)]

theorem queuePush_joins {s : State} {n : Nat} (hn : n < 64) (hs : s.serves iQUE = true)
    (he : s.on (QUE_Qn_CFG_ENABLE n) = true) (hw : (s.q n).waits = []) (hd : (s.q n).total < s.f (QUE_Qn_CFG_DEPTH n))
    (req v : Nat) : ∃ t : State, exec (.queuePush req n v) s = .next t ∧ t.answer = cOK ∧ s.keepsQueues t n ∧
      (t.q n).words = insertWord ⟨s.f (QUE_Qn_CFG_PUSH_PRIO n), v, (s.q n).order⟩ (s.q n).words := by
  have hw' := s.joinWord_spec n (s.f (QUE_Qn_CFG_PUSH_PRIO n)) v
  have hp : s.quePush req n v = _ := (if_pos (by rw [State.wordArrives_joins hn he hw hd])).trans
    (State.wordArrives_joins hn he hw hd (s.f (QUE_Qn_CFG_PUSH_PRIO n)) v)
  rw [exec_queuePush hs, hp]
  generalize (s.ordered n).putWord n ⟨s.f (QUE_Qn_CFG_PUSH_PRIO n), v, (s.q n).order⟩ = z at *
  obtain ⟨⟨hm, he', hh, hj⟩, hws⟩ := hw'
  have hq : ∀ m, ((z.touch iQUE).ans cOK).q m = z.q m := State.q_congr (z.que_touch iQUE)
  exact ⟨_, rfl, rfl, ⟨(z.mem_touch _).trans hm, (z.eng_touch _).trans he', by rw [hq, hh],
    fun m h => (hq m).trans (hj m h)⟩, by rw [hq, hws]⟩

/-- The map's entries of QUE_Qn_CFG and QUE_Qn_STALE. -/
def queCfgReg : RegD := ⟨0x100, 4, 64, 64, 1, 1, [⟨31, 1, .rw, []⟩, ⟨30, 1, .rw, []⟩, ⟨29, 1, .rw, []⟩, ⟨27, 2, .rw, []⟩,
  ⟨24, 3, .rw, []⟩, ⟨0, 13, .rw, []⟩]⟩
def queStaleReg : RegD := ⟨0x108, 4, 64, 64, 1, 1, [⟨31, 1, .rw, []⟩, ⟨0, 25, .rw, []⟩]⟩

theorem findReg_que : ∀ n < 64,
    findReg (regTabPrefix ++ regTabQue) (0x100 + n * 0x40) = some (queCfgReg, 0x100 + n * 0x40) ∧
      findReg (regTabPrefix ++ regTabQue) (0x108 + n * 0x40) = some (queStaleReg, 0x108 + n * 0x40) := by
  decide +kernel

theorem regAt_que_of_findReg {a o : Nat} {r : RegD} (ha : a = 0x0200080000 + o) (ho : o < 0x10000)
    (hr : findReg (regTabPrefix ++ regTabQue) o = some (r, o)) : regAt a = some (r, a) := by
  have hi : (a - 0x0200000000) / 0x10000 = 8 := by omega
  have hm : a % 0x10000 = o := by omega
  have hl : regList a = (regTabPrefix ++ regTabQue, o) := by
    rw [regList, if_pos (by omega), hi, hm]
    rfl
  simp [regAt, hl, hr]

theorem regAt_que {n : Nat} (hn : n < 64) :
    regAt (aQ n) = some (queCfgReg, aQ n) ∧ regAt (aQ n + 8) = some (queStaleReg, aQ n + 8) := by
  obtain ⟨hc, hs⟩ := findReg_que n hn
  exact ⟨regAt_que_of_findReg (by simp only [aQ]; omega) (by omega) hc,
    regAt_que_of_findReg (by simp only [aQ]; omega) (by omega) hs⟩

/-- The fields of QUE_Qn_CFG as a write of v leaves them. -/
def State.queCfgSet (s : State) (n v : Nat) : State :=
  (((((s.setF (QUE_Qn_CFG_ENABLE n) (bits v 31 31)).setF (QUE_Qn_CFG_ARRIVAL_EN n) (bits v 30 30)).setF
    (QUE_Qn_CFG_ANY_READER n) (bits v 29 29)).setF (QUE_Qn_CFG_FULL n) (bits v 28 27)).setF
    (QUE_Qn_CFG_PUSH_PRIO n) (bits v 26 24)).setF (QUE_Qn_CFG_DEPTH n) (bits v 12 0)

/-- The high-water mark starts at what the queue holds, and QUE_POOL shows the pool in use (R162, R172). -/
def State.queCfgTaken (s : State) (n v : Nat) : State :=
  let t := (s.queCfgSet n v).setF (QUE_Qn_HWM_HIGH_WATER n) (s.q n).total
  t.setF QUE_POOL_ALLOCATED t.poolUsed

theorem State.queCfgTaken_spec (s : State) (n v : Nat) : (s.queCfgTaken n v).f (QUE_Qn_CFG_ENABLE n) = bits v 31 31 ∧
    (s.queCfgTaken n v).f (QUE_Qn_CFG_DEPTH n) = bits v 12 0 ∧ (s.queCfgTaken n v).f (QUE_Qn_CFG_FULL n) = bits v 28 27 ∧
    (s.queCfgTaken n v).que = s.que ∧ (s.queCfgTaken n v).mem = s.mem := by
  unfold State.queCfgTaken State.queCfgSet
  extract_lets t
  simp (disch := (simp only [RF.key, QUE_Qn_CFG_ENABLE, QUE_Qn_CFG_ARRIVAL_EN, QUE_Qn_CFG_ANY_READER, QUE_Qn_CFG_FULL,
    QUE_Qn_CFG_PUSH_PRIO, QUE_Qn_CFG_DEPTH, QUE_Qn_HWM_HIGH_WATER, QUE_POOL_ALLOCATED]; omega)) only
    [t, State.f_setF_ne, State.f_setF_same, State.setF_que, State.setF_mem]
  exact ⟨Nat.mod_mod .., Nat.mod_mod .., Nat.mod_mod .., trivial, trivial⟩

/-- A write that enables a queue whose depth the pool holds is taken. -/
theorem State.queCfgWrite_enables {s : State} {n v : Nat} (hn : n < 64) (he : s.on (QUE_Qn_CFG_ENABLE n) = false)
    (hf : bits v 28 27 < 2) (h16 : 16 ≤ bits v 12 0) (h4096 : bits v 12 0 ≤ 4096)
    (hp : s.poolUsed + bits v 12 0 ≤ 65536) (req : Nat) :
    s.queCfgWrite req n v = (cOK, s.queCfgTaken n v) := by
  have hr : s.regW iQUE req (aQ n) v = (cOK, s.queCfgSet n v) := State.regW_taken (regAt_que hn).1 rfl rfl s iQUE req
  unfold State.queCfgWrite
  rw [if_neg (by omega), if_neg (by simp [he]), if_neg (by simp [he]), if_neg (by omega)]
  simp only [hr]
  rfl

theorem queueConfig_enables {s : State} {n v : Nat} (hn : n < 64) (hs : s.serves iQUE = true)
    (he : s.on (QUE_Qn_CFG_ENABLE n) = false) (hv : bit v 31 = true) (hf : bits v 28 27 < 2) (h16 : 16 ≤ bits v 12 0)
    (h4096 : bits v 12 0 ≤ 4096) (hp : s.poolUsed + bits v 12 0 ≤ 65536) (req : Nat) :
    ∃ t : State, exec (.queueConfig req n v) s = .next t ∧ t.answer = cOK ∧ t.on (QUE_Qn_CFG_ENABLE n) = true ∧
      t.f (QUE_Qn_CFG_DEPTH n) = bits v 12 0 ∧ t.f (QUE_Qn_CFG_FULL n) = bits v 28 27 ∧ t.que = s.que ∧ t.mem = s.mem := by
  obtain ⟨hE, hD, hF, hq, hm⟩ := s.queCfgTaken_spec n v
  rw [exec_queueConfig hs, State.queCfgWrite_enables hn he hf h16 h4096 hp]
  generalize s.queCfgTaken n v = z at *
  have hk : ∀ q ∈ [QUE_Qn_CFG_ENABLE n, QUE_Qn_CFG_DEPTH n, QUE_Qn_CFG_FULL n], q.key ≠ (ISL_PSTATE_STATE iQUE).key := by
    simp only [List.mem_cons, List.not_mem_nil, or_false, forall_eq_or_imp, forall_eq, RF.key, QUE_Qn_CFG_ENABLE,
      QUE_Qn_CFG_DEPTH, QUE_Qn_CFG_FULL, ISL_PSTATE_STATE, iQUE]
    omega
  refine ⟨_, rfl, rfl, ?_, (State.f_touch _ _ (hk _ (by simp))).trans hD, (State.f_touch _ _ (hk _ (by simp))).trans hF,
    (State.que_touch ..).trans hq, (State.mem_touch ..).trans hm⟩
  rw [State.on, State.f_ans, State.f_touch _ _ (hk _ (by simp)), hE]
  exact hv

theorem State.que_refuse (s : State) (isl a req : Nat) (w : Bool) (c : Nat) : (s.refuse isl a req w c).que = s.que := by
  cases h : s.on (ISL_REFUSE_INFO_VALID isl) with
  | true => rw [s.refuse_of_valid isl a req w c h, State.inc, State.setF_que]
  | false => simp only [s.refuse_of_not_valid isl a req w c h, State.inc, State.setF_que]

theorem queueConfig_range {s : State} {n v : Nat} (hs : s.serves iQUE = true) (hd : bits v 12 0 < 16 ∨ 4096 < bits v 12 0)
    (req : Nat) : ∃ t : State, exec (.queueConfig req n v) s = .next t ∧ t.answer = cRANGE ∧ t.que = s.que ∧
      s.keeps t (ISL_PSTATE_STATE iQUE :: refuseRegs iQUE) := by
  have hw : s.queCfgWrite req n v = s.regRefuse iQUE (aQ n) req cRANGE := if_pos (by omega)
  have hk := (s.keeps_refuse iQUE (aQ n) req true cRANGE).mono (List.subset_cons_self (ISL_PSTATE_STATE iQUE) _)
  have hq := s.que_refuse iQUE (aQ n) req true cRANGE
  rw [exec_queueConfig hs, hw, State.regRefuse]
  generalize s.refuse iQUE (aQ n) req true cRANGE = z at *
  exact ⟨_, rfl, rfl, (z.que_touch _).trans hq, (hk.trans ((z.keeps_touch iQUE).mono (by simp))).ans _⟩

/-! ### The stale tail (R170) -/

/-- A write that enables the stale-tail timer starts it. -/
theorem State.queStaleWrite_starts {s : State} {n v : Nat} (hn : n < 64) (he : s.on (QUE_Qn_STALE_EN n) = false)
    (hv : bit v 31 = true) (h0 : 0 < bits v 24 0) (h : bits v 24 0 ≤ 16777216) (req : Nat) :
    s.queStaleWrite req n v = (cOK, ((s.setF (QUE_Qn_STALE_EN n) (bits v 31 31)).setF (QUE_Qn_STALE_TICKS n)
      (bits v 24 0)).setQ n { s.q n with staleStart := s.now }) := by
  have hr : s.regW iQUE req (aQ n + 8) v =
      (cOK, (s.setF (QUE_Qn_STALE_EN n) (bits v 31 31)).setF (QUE_Qn_STALE_TICKS n) (bits v 24 0)) := by
    rw [QUE_Qn_STALE_EN, QUE_Qn_STALE_TICKS, show 0x0200080108 + n * 0x40 = aQ n + 8 by simp only [aQ]; omega]
    exact State.regW_taken (regAt_que hn).2 rfl rfl s iQUE req
  unfold State.queStaleWrite
  rw [if_neg (by omega), hr]
  exact (if_pos hv).trans (if_pos he)

theorem staleConfig_starts {s : State} {n v : Nat} (hn : n < 64) (hs : s.serves iQUE = true)
    (he : s.on (QUE_Qn_STALE_EN n) = false) (hv : bit v 31 = true) (h0 : 0 < bits v 24 0) (h : bits v 24 0 ≤ 16777216)
    (req : Nat) : ∃ t : State, exec (.staleConfig req n v) s = .next t ∧ t.answer = cOK ∧
      t.f (QUE_Qn_STALE_TICKS n) = bits v 24 0 ∧ t.on (QUE_Qn_STALE_EN n) = true ∧ (t.q n).staleStart = s.now ∧
      (t.q n).words = (s.q n).words := by
  have hk : (QUE_Qn_STALE_EN n).key ≠ (QUE_Qn_STALE_TICKS n).key ∧
      (QUE_Qn_STALE_EN n).key ≠ (ISL_PSTATE_STATE iQUE).key ∧ (QUE_Qn_STALE_TICKS n).key ≠ (ISL_PSTATE_STATE iQUE).key := by
    simp only [RF.key, QUE_Qn_STALE_EN, QUE_Qn_STALE_TICKS, ISL_PSTATE_STATE, iQUE]
    omega
  obtain ⟨hET, hE, hT⟩ := hk
  rw [exec_staleConfig hs, State.queStaleWrite_starts hn he hv h0 h]
  have fE : ((s.setF (QUE_Qn_STALE_EN n) (bits v 31 31)).setF (QUE_Qn_STALE_TICKS n) (bits v 24 0)).f
      (QUE_Qn_STALE_EN n) = bits v 31 31 :=
    (State.f_setF_ne _ _ _ _ hET).trans ((State.f_setF_same ..).trans (Nat.mod_mod ..))
  have fT : ((s.setF (QUE_Qn_STALE_EN n) (bits v 31 31)).setF (QUE_Qn_STALE_TICKS n) (bits v 24 0)).f
      (QUE_Qn_STALE_TICKS n) = bits v 24 0 := (State.f_setF_same ..).trans (Nat.mod_mod ..)
  generalize (s.setF (QUE_Qn_STALE_EN n) (bits v 31 31)).setF (QUE_Qn_STALE_TICKS n) (bits v 24 0) = z at *
  have hq : ((z.setQ n { s.q n with staleStart := s.now }).touch iQUE).q n = { s.q n with staleStart := s.now } :=
    (State.q_congr (State.que_touch ..) n).trans (State.q_setQ_same ..)
  refine ⟨_, rfl, rfl, (State.f_touch _ _ hT).trans fT, ?_, congrArg Queue.staleStart hq, (congrArg Queue.words hq :)⟩
  rw [State.on, State.f_ans, State.f_touch _ _ hE]
  exact (congrArg (· == 1) fE).trans hv

theorem exec_staleTail (n : Nat) (s : State) :
    exec (.staleTail n) s = .next (if s.staleDue n then s.staleFire n else s) := rfl

theorem staleTail_noticed {s : State} {n : Nat} (h : s.staleDue n = true) :
    ∃ t : State, exec (.staleTail n) s = .next t ∧ (t.q n).staleStart = s.now ∧ (t.q n).words = (s.q n).words ∧
      t.sent = s.sent ++ [⟨s.f (QUE_Qn_NOTICE_EP n), noticeTag (s.f (QUE_Qn_NOTICE_TAG n)) false,
        s.now % 2 ^ 32 * 2 ^ 32 + (s.q n).words.length * 2 ^ 16 + n * 2 ^ 8 + 1, ep iQUE 0, none, none⟩] ∧
      s.keeps t [QUE_Qn_NOTICES_COUNT n] := by
  have hq : (s.staleFire n).q n = { s.q n with staleStart := s.now } := State.q_setQ_same ..
  have hk : s.keeps (s.qNotice n 1) [QUE_Qn_NOTICES_COUNT n] := s.keeps_refl _
  exact ⟨_, (exec_staleTail n s).trans (congrArg _ (if_pos h)), by rw [hq], by rw [hq], rfl, hk.setF (by simp) _⟩

theorem staleTail_none {s : State} {n : Nat} (h : s.staleDue n = false) : exec (.staleTail n) s = .next s :=
  (exec_staleTail n s).trans (congrArg _ (if_neg (ne_true_of_eq_false h)))

/-- Settles O29. That a stale tail that is not due does nothing is log entry 60. -/
theorem wordQueues : Obligations.WordQueues := by
  intro s n hn hs
  refine ⟨fun w hq hst ht => ⟨fun he hw hd => ?_, fun he hb ho => queueWord_noRoute hn hs hq hst ht he ⟨hb, ho⟩,
    fun he hw hd hf hb ho => queueWord_busy hn hs hq hst ht he hw hd hf ⟨hb, ho⟩⟩, fun req v he hw hd => ?_,
    fun req v _ he hv hf h16 h4096 hp => queueConfig_enables hn hs he hv hf h16 h4096 hp req,
    fun req v hd => queueConfig_range hs hd req, fun req v _ he hv h0 h => staleConfig_starts hn hs he hv h0 h req,
    staleTail_noticed, staleTail_none⟩
  · obtain ⟨t, hx, ha, hk, hws⟩ := queueWord_joins hn hs hq hst ht he hw hd
    exact ⟨t, hx, ha, hk.mem, hk.eng, hws, hk.held, hk.q⟩
  · obtain ⟨t, hx, ha, hk, hws⟩ := queuePush_joins hn hs he hw hd req v
    exact ⟨t, hx, ha, hk.mem, hk.eng, hws, hk.q⟩

end Sys2Proof.Machine
end

section
/-! PROOFS. Sample ports (R176, R178 to R180, R182): a stream's configuration, the blanking input, an overrun and the
transactions of the SPI port; and what the millisecond mark of R292 latches. -/

namespace Sys2Proof.Machine

open Sys2Proof

/-! ### A stream's configuration (R176, R178) -/

/-- A refused write leaves the record of refused accesses and the island's state. -/
theorem State.keeps_regRefuse_touch (s : State) (isl a req c : Nat) :
    s.keeps ((s.regRefuse isl a req c).2.touch isl) (ISL_PSTATE_STATE isl :: refuseRegs isl) :=
  ((s.keeps_refuse isl a req true c).mono (List.subset_cons_self ..)).trans ((State.keeps_touch _ isl).mono (by simp))

theorem State.smp_touch (s : State) (isl : Nat) : (s.touch isl).smp = s.smp := by
  unfold State.touch
  split <;> rfl

/-- The map's entry of SMPn_Sg_CFG. -/
def smpStreamReg : RegD :=
  ⟨0x40, 4, 32, 3, 1, 1, [⟨31, 1, .rw, []⟩, ⟨30, 1, .rw, []⟩, ⟨29, 1, .rw, []⟩, ⟨26, 3, .rw, []⟩, ⟨0, 17, .rw, []⟩]⟩

theorem regAt_stream : ∀ p < 4, ∀ g < 3, regAt (aStream p g) = some (smpStreamReg, aStream p g) := by decide +kernel

/-- The fields of SMPn_Sg_CFG as a write of v leaves them. -/
def State.streamSet (s : State) (p g v : Nat) : State :=
  ((((s.setF (SMPn_Sg_CFG_ENABLE p g) (bits v 31 31)).setF (SMPn_Sg_CFG_CODING p g) (bits v 30 30)).setF
    (SMPn_Sg_CFG_INVERT p g) (bits v 29 29)).setF (SMPn_Sg_CFG_LEVEL_THR p g) (bits v 28 26)).setF
    (SMPn_Sg_CFG_RATE_KHZ p g) (bits v 16 0)

theorem State.streamSet_spec (s : State) (p g v : Nat) :
    (s.streamSet p g v).f (SMPn_Sg_CFG_ENABLE p g) = bits v 31 31 ∧
      (s.streamSet p g v).f (SMPn_Sg_CFG_RATE_KHZ p g) = bits v 16 0 ∧
      (s.streamSet p g v).f (SMPn_Sg_CFG_CODING p g) = bits v 30 30 ∧
      (s.streamSet p g v).f (SMPn_Sg_CFG_INVERT p g) = bits v 29 29 ∧
      (s.streamSet p g v).mem = s.mem ∧ (s.streamSet p g v).smp = s.smp := by
  unfold State.streamSet
  simp (disch := (simp only [RF.key, SMPn_Sg_CFG_ENABLE, SMPn_Sg_CFG_CODING, SMPn_Sg_CFG_INVERT, SMPn_Sg_CFG_LEVEL_THR,
    SMPn_Sg_CFG_RATE_KHZ]; omega)) only [State.f_setF_ne, State.f_setF_same, State.setF_smp, State.setF_mem]
  exact ⟨Nat.mod_mod .., Nat.mod_mod .., Nat.mod_mod .., Nat.mod_mod .., trivial, trivial⟩

section
variable {s : State} {p g v : Nat}

/-- A write that enables a stream at a rate the port serves is taken. -/
theorem State.streamCfg_enables (hp : p < 4) (hg : g < 3) (he : s.on (SMPn_Sg_CFG_ENABLE p g) = false)
    (hlo : 5000 ≤ bits v 16 0) (hhi : bits v 16 0 ≤ 100000) (req : Nat) :
    s.streamCfg req p g v = (cOK, s.streamSet p g v) := by
  have hr : s.regW (iSMP p) req (aStream p g) v = (cOK, s.streamSet p g v) :=
    State.regW_taken (regAt_stream p hp g hg) rfl rfl s (iSMP p) req
  unfold State.streamCfg
  rw [if_neg (by simp [he]), if_neg (by simp [he]), if_neg (by omega)]
  simp [he, hr]

theorem State.streamCfg_range (he : s.on (SMPn_Sg_CFG_ENABLE p g) = false) (hv : bit v 31 = true)
    (hr : bits v 16 0 < 5000 ∨ 100000 < bits v 16 0) (req : Nat) :
    s.streamCfg req p g v = s.regRefuse (iSMP p) (aStream p g) req cRANGE := by
  unfold State.streamCfg
  rw [if_neg (by simp [he]), if_neg (by simp [he]), if_pos ⟨hv, hr⟩]

/-- A stream in use is not switched off, whatever else the word would change. -/
theorem State.streamCfg_busy (he : s.on (SMPn_Sg_CFG_ENABLE p g) = true) (hv : bit v 31 = false)
    (hu : s.streamUsed (4 * p + g) = true) (req : Nat) :
    s.streamCfg req p g v = s.regRefuse (iSMP p) (aStream p g) req cBUSY := by
  unfold State.streamCfg
  extract_lets
  split
  · rfl
  · exact if_pos ⟨he, hv, hu⟩

variable (hp : p < 4) (hg : g < 3) (hs : s.serves (iSMP p) = true)
include hp hg hs

theorem exec_streamConfig (req v : Nat) : exec (.streamConfig req p g v) s =
    .next (((s.streamCfg req p g v).2.touch (iSMP p)).ans (s.streamCfg req p g v).1) := by
  simp only [exec, execStreamConfig, State.regRow_serves hs (by simp only [iSMP]; omega), if_pos (And.intro hp hg)]

theorem streamConfig_refused {req c : Nat} (h : s.streamCfg req p g v = s.regRefuse (iSMP p) (aStream p g) req c) :
    ∃ t : State, exec (.streamConfig req p g v) s = .next t ∧ t.answer = c ∧
      s.keeps t (ISL_PSTATE_STATE (iSMP p) :: refuseRegs (iSMP p)) := by
  rw [exec_streamConfig hp hg hs, h]
  exact ⟨_, rfl, rfl, (s.keeps_regRefuse_touch ..).ans _⟩

theorem streamConfig_enables (he : s.on (SMPn_Sg_CFG_ENABLE p g) = false) (hv : bit v 31 = true)
    (hlo : 5000 ≤ bits v 16 0) (hhi : bits v 16 0 ≤ 100000) (req : Nat) :
    ∃ t : State, exec (.streamConfig req p g v) s = .next t ∧ t.answer = cOK ∧ t.on (SMPn_Sg_CFG_ENABLE p g) = true ∧
      t.f (SMPn_Sg_CFG_RATE_KHZ p g) = bits v 16 0 ∧ t.f (SMPn_Sg_CFG_CODING p g) = bits v 30 30 ∧
      t.f (SMPn_Sg_CFG_INVERT p g) = bits v 29 29 ∧ t.mem = s.mem ∧ t.smp = s.smp := by
  obtain ⟨hE, hR, hC, hI, hm, hx⟩ := s.streamSet_spec p g v
  rw [exec_streamConfig hp hg hs, State.streamCfg_enables hp hg he hlo hhi]
  generalize s.streamSet p g v = z at *
  have hk : ∀ q : RF, q.addr = aStream p g → (z.touch (iSMP p)).f q = z.f q := by
    intro q ha
    refine z.f_touch _ ?_
    simp only [RF.key, ISL_PSTATE_STATE, iSMP, ha, aStream]
    omega
  refine ⟨_, rfl, rfl, ?_, (hk _ rfl).trans hR, (hk _ rfl).trans hC, (hk _ rfl).trans hI, (z.mem_touch _).trans hm,
    (z.smp_touch _).trans hx⟩
  rw [State.on, State.f_ans, hk _ rfl, hE]
  exact hv

end

/-! ### Blanking and overruns (R179, R180) -/

@[simp] theorem State.port_setPort_same (s : State) (p : Nat) (x : SmpPort) : (s.setPort p x).port p = x :=
  Tab.get_set_same ..

theorem State.port_setPort_ne (s : State) {p q : Nat} (h : q ≠ p) (x : SmpPort) : (s.setPort p x).port q = s.port q :=
  Tab.get_set_ne _ _ _ _ _ h

/-- Ports are read from the sample ports' state alone. -/
theorem State.port_congr {s t : State} (h : t.smp = s.smp) (p : Nat) : t.port p = s.port p := by
  rw [State.port, h, State.port]

theorem blankInput_level (s : State) (p : Nat) (level : Bool) : ∃ t : State, exec (.blankInput p level) s = .next t ∧
    t.port p = { s.port p with level := level } ∧ (∀ q : Nat, q ≠ p → t.port q = s.port q) ∧ s.keeps t [] :=
  ⟨_, rfl, s.port_setPort_same p _, fun _ hq => s.port_setPort_ne hq _, s.keeps_refl _⟩

theorem sampleOverrun_reports (s : State) (p g : Nat) : ∃ t : State, exec (.sampleOverrun p g) s = .next t ∧
    t.on (SMPn_Sg_STAT_OVERRUN p g) = true ∧ t.trapPend = s.trapPend ++ [iSMP p] ∧
    s.keeps t [SMPn_Sg_STAT_OVERRUN p g] := by
  have hk : s.keeps (s.setF (SMPn_Sg_STAT_OVERRUN p g) 1) [SMPn_Sg_STAT_OVERRUN p g] := (s.keeps_refl _).setF (by simp) 1
  have hf : (s.setF (SMPn_Sg_STAT_OVERRUN p g) 1).f (SMPn_Sg_STAT_OVERRUN p g) = 1 := State.f_setF_same ..
  exact ⟨_, rfl, congrArg (· == 1) hf, rfl, hk⟩

/-! ### Transactions (R182) -/

/-- The transaction w has joined port p's FIFO. -/
def State.spiJoined (s : State) (p w : Nat) : State :=
  (s.setPort p { s.port p with fifo := (s.port p).fifo ++ [w] }).setF (SMPn_SPI_STAT_PENDING p) ((s.port p).fifo.length + 1)

theorem State.spiServe_joins {s : State} {p w : Nat} (hc : spiCheck w = cOK) (hl : (s.port p).fifo.length < 16) :
    s.spiServe p w = (cOK, s.spiJoined p w) :=
  (if_neg (not_not.2 hc)).trans (if_neg (by omega))

theorem State.spiServe_busy {s : State} {p w : Nat} (hc : spiCheck w = cOK) (hl : 16 ≤ (s.port p).fifo.length) :
    s.spiServe p w = (cBUSY, s) :=
  (if_neg (not_not.2 hc)).trans (if_pos hl)

section
variable {s : State} {p : Nat} {tk : Token} (hs : s.serves (iSMP p) = true) (hd : tk.dest = ep (iSMP p) 0)
  (hst : tk.stamp = none) (ht : tk.task = none)
include hs hd hst ht

/-- Port 0x000 takes transactions. -/
theorem exec_spiTransaction : exec (.spiTransaction tk) s =
    .next ((((s.taken tk).spiServe p tk.data).2.touch (iSMP p)).ans ((s.taken tk).spiServe p tk.data).1) := by
  have hi : epIsl tk.dest = iSMP p := by
    rw [hd, epIsl, ep]
    omega
  have hport : epPort tk.dest = 0 := by
    rw [hd, epPort, ep]
    omega
  have hw (z : State) : z.smpToken tk = z.spiServe p tk.data := by
    rw [State.smpToken, if_pos hport, hi, iSMP, iSMP, Nat.add_zero, Nat.add_sub_cancel_left]
  refine congrArg Host.Outcome.next ((State.arrive_serves hs hi hst ht _).trans ?_)
  rw [hw]

theorem spiTransaction_joins (hc : spiCheck tk.data = cOK) (hl : (s.port p).fifo.length < 16) :
    ∃ t : State, exec (.spiTransaction tk) s = .next t ∧ t.answer = cOK ∧ (t.port p).fifo = (s.port p).fifo ++ [tk.data] ∧
      t.f (SMPn_SPI_STAT_PENDING p) = (s.port p).fifo.length + 1 ∧ t.mem = s.mem := by
  have hk : (SMPn_SPI_STAT_PENDING p).key ≠ (ISL_PSTATE_STATE (iSMP p)).key := by
    simp only [RF.key, SMPn_SPI_STAT_PENDING, ISL_PSTATE_STATE, iSMP]
    omega
  have hp : ((s.taken tk).spiJoined p tk.data).port p = { s.port p with fifo := (s.port p).fifo ++ [tk.data] } :=
    State.port_setPort_same ..
  have hf : ((s.taken tk).spiJoined p tk.data).f (SMPn_SPI_STAT_PENDING p) = (s.port p).fifo.length + 1 :=
    (State.f_setF_same ..).trans (Nat.mod_eq_of_lt (show (s.port p).fifo.length + 1 < 2 ^ 5 by omega))
  rw [exec_spiTransaction hs hd hst ht, State.spiServe_joins (s := s.taken tk) hc hl]
  refine ⟨_, rfl, rfl, ?_, (State.f_touch _ _ hk).trans hf, State.mem_touch ..⟩
  exact congrArg SmpPort.fifo ((State.port_congr (State.smp_touch ..) p).trans hp)

theorem spiTransaction_busy (hc : spiCheck tk.data = cOK) (hl : 16 ≤ (s.port p).fifo.length) :
    ∃ t : State, exec (.spiTransaction tk) s = .next t ∧ t.answer = cBUSY ∧ t.smp = s.smp ∧
      s.keeps t [ISL_PSTATE_STATE (iSMP p)] := by
  rw [exec_spiTransaction hs hd hst ht, State.spiServe_busy (s := s.taken tk) hc hl]
  exact ⟨_, rfl, rfl, State.smp_touch .., State.keeps_touch ..⟩

end

/-- Port p's oldest transaction w has ended and is counted, and rest waits. -/
def State.spiEnded (s : State) (p w : Nat) (rest : List Nat) : State :=
  ((s.setPort p { s.port p with fifo := rest, cs := if bit w 55 then some (bits w 57 56) else none }).setF
    (SMPn_SPI_STAT_PENDING p) rest.length).inc (SMPn_SPI_STAT_DONE p)

theorem State.spiEnded_spec (s : State) (p w : Nat) {rest : List Nat} (hr : rest.length < 16) :
    ((s.spiEnded p w rest).port p).fifo = rest ∧ (s.spiEnded p w rest).f (SMPn_SPI_STAT_PENDING p) = rest.length ∧
      s.keeps (s.spiEnded p w rest) [SMPn_SPI_STAT_PENDING p, SMPn_SPI_STAT_DONE p] := by
  have hk : (SMPn_SPI_STAT_PENDING p).key ≠ (SMPn_SPI_STAT_DONE p).key := by
    simp only [RF.key, SMPn_SPI_STAT_PENDING, SMPn_SPI_STAT_DONE]
    omega
  have hz (z : State) (n : Nat) : z.keeps ((z.setF (SMPn_SPI_STAT_PENDING p) n).inc (SMPn_SPI_STAT_DONE p))
      [SMPn_SPI_STAT_PENDING p, SMPn_SPI_STAT_DONE p] := ((z.keeps_refl _).setF (by simp) _).setF (by simp) _
  refine ⟨congrArg SmpPort.fifo (s.port_setPort_same p _), ?_, hz (s.setPort p _) _⟩
  exact (State.f_setF_ne _ _ _ _ hk).trans ((State.f_setF_same ..).trans (Nat.mod_eq_of_lt (show _ < 2 ^ 5 by omega)))

theorem exec_spiTransactionDone {s : State} {p w : Nat} {rest : List Nat} (h : (s.port p).fifo = w :: rest) (miso : Nat) :
    exec (.spiTransactionDone p miso) s = .next (if bit w 63 then
      (s.spiEnded p w rest).notice (ep (iSMP p) 0) ((s.spiEnded p w rest).f (SMPn_SPI_NOTICE_EP p))
        ((s.spiEnded p w rest).f (SMPn_SPI_NOTICE_TAG p)) (bits w 47 32 * 2 ^ 32 + miso % 2 ^ (bits w 53 48)) false
      else s.spiEnded p w rest) := by
  simp only [exec, execSpiTransactionDone, h]
  rfl

theorem spiTransactionDone_ends {s : State} {p w : Nat} {rest : List Nat} (h : (s.port p).fifo = w :: rest)
    (hr : rest.length < 16) (miso : Nat) :
    ∃ t : State, exec (.spiTransactionDone p miso) s = .next t ∧ (t.port p).fifo = rest ∧
      t.f (SMPn_SPI_STAT_PENDING p) = rest.length ∧ s.keeps t [SMPn_SPI_STAT_PENDING p, SMPn_SPI_STAT_DONE p] ∧
      t.sent = s.sent ++ (if bit w 63 then [⟨s.f (SMPn_SPI_NOTICE_EP p), noticeTag (s.f (SMPn_SPI_NOTICE_TAG p)) false,
        bits w 47 32 * 2 ^ 32 + miso % 2 ^ (bits w 53 48), ep (iSMP p) 0, none, none⟩] else []) := by
  obtain ⟨hf, hp, hk⟩ := s.spiEnded_spec p w hr
  have hsent : (s.spiEnded p w rest).sent = s.sent := rfl
  have hn : ∀ q ∈ [SMPn_SPI_NOTICE_EP p, SMPn_SPI_NOTICE_TAG p], (s.spiEnded p w rest).f q = s.f q := by
    intro q hq
    refine hk.f_eq ?_
    simp only [List.mem_cons, List.not_mem_nil, or_false] at hq
    rcases hq with rfl | rfl <;> simp [RF.key, SMPn_SPI_NOTICE_EP, SMPn_SPI_NOTICE_TAG, SMPn_SPI_STAT_PENDING,
      SMPn_SPI_STAT_DONE] <;> omega
  rw [exec_spiTransactionDone h, hn _ (by simp), hn _ (by simp)]
  generalize s.spiEnded p w rest = z at *
  refine ⟨_, rfl, ?_⟩
  split
  · exact ⟨hf, hp, hk, by rw [← hsent]; rfl⟩
  · exact ⟨hf, hp, hk, by rw [hsent, List.append_nil]⟩

/-! ### The millisecond mark (R292) -/

/-- From s to t device time and the registers of the islands up to TIM are as they were. -/
structure State.aboveTim (s t : State) : Prop where
  tim : t.tim = s.tim
  f : ∀ q : RF, q.key < 0x0200070000 * 64 → t.f q = s.f q

theorem State.aboveTim.refl (s : State) : s.aboveTim s := ⟨rfl, fun _ _ => rfl⟩

theorem State.aboveTim.trans {s t u : State} (h : s.aboveTim t) (k : t.aboveTim u) : s.aboveTim u :=
  ⟨k.tim.trans h.tim, fun q hq => (k.f q hq).trans (h.f q hq)⟩

theorem State.aboveTim.setF {s t : State} (h : s.aboveTim t) {r : RF} (hr : 0x0200070000 ≤ r.addr) (v : Nat) :
    s.aboveTim (t.setF r v) := by
  refine h.trans ⟨rfl, fun q hq => t.f_setF_ne r q v fun hk => ?_⟩
  rw [hk, RF.key] at hq
  omega

/-- A step that writes no register and leaves device time. -/
theorem State.aboveTim.of_eq {s t u : State} (h : s.aboveTim t) (hr : u.regs = t.regs) (ht : u.tim = t.tim) :
    s.aboveTim u := h.trans ⟨ht, fun q _ => t.f_congr u q hr⟩

theorem State.aboveTim_foldl {α : Type} {f : State → α → State} (hf : ∀ (s : State) a, s.aboveTim (f s a)) (l : List α)
    (s : State) : s.aboveTim (l.foldl f s) :=
  List.foldlRecOn (motive := fun t => s.aboveTim t) l _ (.refl s) fun t ht a _ => ht.trans (hf t a)

theorem State.aboveTim_placeReacq (s : State) (c : Nat) : s.aboveTim (s.placeReacq c) := by
  unfold State.placeReacq
  extract_lets sr load k x cmd s₁ s₂
  have h₂ : s.aboveTim s₂ := ((State.aboveTim.refl s).of_eq rfl rfl : s.aboveTim s₁).setF
    (by simp only [GBB_SRCH_s_STAT_QUEUED]; omega) _
  split
  · exact (State.aboveTim.refl s).of_eq rfl rfl
  · exact h₂.of_eq rfl rfl

theorem State.aboveTim_reacqMark (s : State) : s.aboveTim s.reacqMark := by
  unfold State.reacqMark
  refine State.aboveTim_foldl (fun z e => ?_) _ s
  split
  · exact z.aboveTim_placeReacq _
  · exact .refl z

theorem State.aboveTim_talNotice (s : State) (kind i : Nat) : s.aboveTim (s.talNotice kind i) := by
  unfold State.talNotice
  split
  · exact ⟨rfl, fun _ _ => rfl⟩
  · exact .refl s

theorem State.aboveTim_talSave (s : State) (i kind : Nat) : s.aboveTim (s.talSave i kind) := by
  unfold State.talSave
  extract_lets s₁ seq x t b v s₂
  have h₁ : s.aboveTim s₁ := (State.aboveTim.refl s).setF (by simp only [TAL_TQi_SAVE_SAVE_SEQ]; omega) _
  exact h₁.of_eq rfl rfl

theorem State.aboveTim_talLatch (s : State) (i time : Nat) : s.aboveTim (s.talLatch i time) := by
  unfold State.talLatch
  extract_lets s₁ s₂ x s₃ s₄
  have h₁ : s.aboveTim s₁ := ((State.aboveTim.refl s).setF (by simp only [TAL_TQi_LFWD_LFWD]; omega) _).setF
    (by simp only [TAL_TQi_LREV_LREV]; omega) _
  have h₂ : s.aboveTim s₂ := (h₁.setF (by simp only [TAL_TQi_LATCH_TIME_TICKS]; omega) _).setF
    (by simp only [TAL_TQi_LATCH_SEQ]; omega) _
  have h₃ : s.aboveTim s₃ := h₂.of_eq rfl rfl
  have h₄ : s.aboveTim s₄ := by
    unfold s₄
    split
    · exact h₃.trans (s₃.aboveTim_talNotice ..)
    · exact h₃
  exact h₄.trans (s₄.aboveTim_talSave ..)

theorem State.aboveTim_setTotals (s : State) (i fwd rev : Nat) : s.aboveTim (s.setTotals i fwd rev) :=
  (((State.aboveTim.refl s).setF (by simp only [TAL_TQi_FWD_FWD]; omega) _).setF
    (by simp only [TAL_TQi_REV_REV]; omega) _).setF (by simp only [TAL_TQi_NET_NET]; omega) _

theorem State.aboveTim_talCycle (s : State) (i : Nat) (r : Int) : s.aboveTim (s.talCycle i r) := by
  unfold State.talCycle
  extract_lets s₁ x q rev t s₂ n full due latch
  have h₁ : s.aboveTim s₁ := by
    unfold s₁
    split
    · split
      · exact s.aboveTim_talLatch ..
      · exact .refl s
    · exact .refl s
  have h₂ : s.aboveTim s₂ := (h₁.trans (s₁.aboveTim_setTotals ..)).setF (by simp only [TAL_TQi_TEMP_REVERSE]; omega) _
  exact h₂.of_eq rfl rfl

theorem State.aboveTim_talTemp (s : State) (i : Nat) : s.aboveTim (s.talTemp i) := by
  have hG (z : State) (v : Nat) (h : s.aboveTim z) : s.aboveTim (z.setF (TAL_TQi_CORR_G i) v) :=
    h.setF (by simp only [TAL_TQi_CORR_G]; omega) v
  have hT (v : Nat) : s.aboveTim (s.setF (TAL_TQi_TEMP_TEMP i) v) :=
    (State.aboveTim.refl s).setF (by simp only [TAL_TQi_TEMP_TEMP]; omega) v
  unfold State.talTemp
  extract_lets put
  have hput (t : Int) : s.aboveTim (put t) := (hG _ _ (hT _)).of_eq rfl rfl
  split
  · exact hput _
  · split
    · exact .refl s
    · exact hput _
  · exact (hG s _ (.refl s)).of_eq rfl rfl

theorem State.aboveTim_setAcc (s : State) (i : Nat) (x : TalAcc) : s.aboveTim (s.setAcc i x) := ⟨rfl, fun _ _ => rfl⟩

theorem State.aboveTim_talMark (s : State) : s.aboveTim s.talMark := by
  unfold State.talMark
  refine State.aboveTim_foldl (fun z i => ?_) _ s
  split
  · exact .refl z
  · extract_lets x c d y z₁
    have h₁ : z.aboveTim z₁ := by
      unfold z₁
      split
      · exact (z.aboveTim_setAcc ..).trans (State.aboveTim_talCycle ..)
      · exact z.aboveTim_talCycle ..
      · exact .refl z
    exact h₁.trans (z₁.aboveTim_talTemp i)

/-- TIM has latched device time at a mark and counted it. -/
def State.markLatched (s : State) : State :=
  let t := { s with tim := { s.tim with markAt := s.tim.edges } }
  ((t.setF TIM_MARK_TICKS t.now).setF TIM_MARK_FRAC_FRAC (t.tim.time48 / 2 ^ 16 % 2 ^ 32)).incW TIM_MARK_COUNT_COUNT

theorem State.markLatched_spec (s : State) : s.markLatched.f TIM_MARK_TICKS = s.now ∧
    s.markLatched.f TIM_MARK_COUNT_COUNT = wrapInc 32 (s.f TIM_MARK_COUNT_COUNT) ∧
    s.markLatched.tim.markAt = s.tim.edges := by
  unfold State.markLatched
  extract_lets t
  refine ⟨?_, ?_, rfl⟩
  · rw [State.incW, State.f_setF_ne _ _ _ _ (by decide), State.f_setF_ne _ _ _ _ (by decide), State.f_setF_same]
    exact Nat.mod_mod ..
  · rw [State.incW, State.f_setF_same, State.f_setF_ne _ _ _ _ (by decide), State.f_setF_ne _ _ _ _ (by decide)]
    exact Nat.mod_mod ..

theorem millisecondMark_latches {s : State} (h0 : s.tim.edges ≠ 0) (hm : s.tim.edges % 100000 = 0)
    (ha : s.tim.edges ≠ s.tim.markAt) : ∃ t : State, exec (.millisecondMark []) s = .next t ∧
      t.f TIM_MARK_TICKS = s.now ∧ t.f TIM_MARK_COUNT_COUNT = wrapInc 32 (s.f TIM_MARK_COUNT_COUNT) ∧
      t.tim.markAt = s.tim.edges := by
  obtain ⟨hT, hC, hA⟩ := s.markLatched_spec
  have hk : s.markLatched.aboveTim (s.msMark []) := by
    unfold State.msMark
    rw [if_neg (by omega)]
    extract_lets _ _ s₁ s₂ s₃
    have h₃ : s₁.aboveTim s₃ := by
      unfold s₃
      split
      · exact s₂.aboveTim_reacqMark
      · exact .refl s₂
    split
    · exact h₃.trans s₃.aboveTim_talMark
    · exact h₃
  exact ⟨s.msMark [], rfl, (hk.f _ (by decide)).trans hT, (hk.f _ (by decide)).trans hC, by rw [hk.tim, hA]⟩

theorem millisecondMark_none {s : State} (h : s.tim.edges % 100000 ≠ 0) (ms : List MarkIn) :
    exec (.millisecondMark ms) s = .next s :=
  congrArg Host.Outcome.next (if_pos (.inr (.inl h)))

/-- Settles O30. That a mark whose edge has not come does nothing is log entry 60. -/
theorem samplePorts : Obligations.SamplePorts := by
  intro s p g hp hg
  refine ⟨fun hs => ⟨fun req v _ he hv hlo hhi => streamConfig_enables hp hg hs he hv hlo hhi req,
    fun req v he hv hr => streamConfig_refused hp hg hs (State.streamCfg_range he hv hr req),
    fun req v he hv hu => streamConfig_refused hp hg hs (State.streamCfg_busy he hv hu req),
    fun tk hd hst ht hc => ⟨spiTransaction_joins hs hd hst ht hc, spiTransaction_busy hs hd hst ht hc⟩⟩,
    blankInput_level s p, sampleOverrun_reports s p g, fun w rest miso h hr => spiTransactionDone_ends h hr miso,
    millisecondMark_latches, fun ms h => millisecondMark_none h ms⟩

end Sys2Proof.Machine
end

section
/-! PROOFS. What the operations of a tracking channel leave alone (R187 to R201): the frame of each, from entering a state to
an integration boundary. -/

namespace Sys2Proof.Machine

open Sys2Proof

/-! ### Channels and searchers as GBB keeps them -/

@[simp] theorem State.ch_setCh_same (s : State) (c : Nat) (x : Chan) : (s.setCh c x).ch c = x := Tab.get_set_same ..

theorem State.ch_setCh_ne (s : State) {c d : Nat} (h : d ≠ c) (x : Chan) : (s.setCh c x).ch d = s.ch d :=
  Tab.get_set_ne _ _ _ _ _ h

/-- Channels and searchers are read from GBB's state alone. -/
theorem State.ch_congr {s t : State} (h : t.gbb = s.gbb) (c : Nat) : t.ch c = s.ch c := by
  rw [State.ch, h, State.ch]

theorem State.sr_congr {s t : State} (h : t.gbb = s.gbb) (k : Nat) : t.sr k = s.sr k := by
  rw [State.sr, h, State.sr]

theorem State.gbb_touch (s : State) (isl : Nat) : (s.touch isl).gbb = s.gbb := by
  unfold State.touch
  split <;> rfl

theorem State.sent_touch (s : State) (isl : Nat) : (s.touch isl).sent = s.sent := by
  unfold State.touch
  split <;> rfl

/-- A table whose values are changed alike, read through what the change leaves of a value. -/
theorem Tab.get_map_of_eq {α β : Type} {d : Nat → α} {f : Nat × α → α} {p : α → β} (h : ∀ e, p (f e) = p e.2) (t : Tab α)
    (k : Nat) : p (Tab.get d (t.map fun e => (e.1, f e)) k) = p (Tab.get d t k) := by
  induction t with
  | nil => rfl
  | cons e t ih =>
    simp only [List.map_cons, Tab.get]
    split
    · exact h e
    · exact ih

/-! ### A channel alone moves -/

/-- From s to t channel c alone has moved on, and its dumps' number has not: memory, the other channels and what the
searchers have in service are as they were. Notices may have left. -/
structure State.moves (s t : State) (c : Nat) : Prop where
  mem : t.mem = s.mem
  ch : ∀ d, d ≠ c → t.ch d = s.ch d
  seq : (t.ch c).seq = (s.ch c).seq
  active : ∀ k, (t.sr k).active = (s.sr k).active
  sent : ∃ l, t.sent = s.sent ++ l

/-- What a channel keeps while it stays in its state: the number of its dumps, the command it holds and its loop filter. -/
structure Chan.keepsLoop (x y : Chan) : Prop where
  seq : y.seq = x.seq
  op : y.op = x.op
  accV : y.accV = x.accV
  accA : y.accA = x.accA

/-- Channel c alone has moved on, and it is still in its state. -/
structure State.stays (s t : State) (c : Nat) : Prop where
  moved : s.moves t c
  own : (s.ch c).keepsLoop (t.ch c)
  st : t.chSt c = s.chSt c

theorem State.moves.refl (s : State) (c : Nat) : s.moves s c := ⟨rfl, fun _ _ => rfl, rfl, fun _ => rfl, [], by simp⟩

theorem State.moves.trans {s t u : State} {c : Nat} (h : s.moves t c) (k : t.moves u c) : s.moves u c := by
  obtain ⟨l, hl⟩ := h.sent
  obtain ⟨m, km⟩ := k.sent
  exact ⟨k.mem.trans h.mem, fun d hd => (k.ch d hd).trans (h.ch d hd), k.seq.trans h.seq,
    fun j => (k.active j).trans (h.active j), l ++ m, by rw [km, hl, List.append_assoc]⟩

theorem State.moves.setF {s t : State} {c : Nat} (h : s.moves t c) (r : RF) (v : Nat) : s.moves (t.setF r v) c :=
  h.trans ⟨rfl, fun _ _ => rfl, rfl, fun _ => rfl, [], by simp⟩

theorem State.moves.ans {s t : State} {c : Nat} (h : s.moves t c) (k : Nat) : s.moves (t.ans k) c :=
  h.trans ⟨rfl, fun _ _ => rfl, rfl, fun _ => rfl, [], by simp [State.ans]⟩

theorem State.moves.setCh {s t : State} {c : Nat} (h : s.moves t c) {x : Chan} (hx : x.seq = (t.ch c).seq) :
    s.moves (t.setCh c x) c :=
  h.trans ⟨rfl, fun _ hd => t.ch_setCh_ne hd x, by rw [State.ch_setCh_same, hx], fun _ => rfl, [], by simp [State.setCh]⟩

theorem Chan.keepsLoop.refl (x : Chan) : x.keepsLoop x := ⟨rfl, rfl, rfl, rfl⟩

theorem Chan.keepsLoop.trans {x y z : Chan} (h : x.keepsLoop y) (k : y.keepsLoop z) : x.keepsLoop z :=
  ⟨k.seq.trans h.seq, k.op.trans h.op, k.accV.trans h.accV, k.accA.trans h.accA⟩

theorem State.stays.refl (s : State) (c : Nat) : s.stays s c := ⟨.refl s c, .refl _, rfl⟩

theorem State.stays.trans {s t u : State} {c : Nat} (h : s.stays t c) (k : t.stays u c) : s.stays u c :=
  ⟨h.moved.trans k.moved, h.own.trans k.own, k.st.trans h.st⟩

theorem State.stays.setF {s t : State} {c : Nat} (h : s.stays t c) {r : RF} (hr : r.key ≠ (GBB_CH_STATUS_STATE c).key)
    (v : Nat) : s.stays (t.setF r v) c :=
  h.trans ⟨(State.moves.refl t c).setF r v, .refl _, t.f_setF_ne _ _ _ hr.symm⟩

/-- A field of a register other than STATUS of the channel. -/
theorem State.stays.setF_addr {s t : State} {c : Nat} (h : s.stays t c) {r : RF} (hr : r.addr ≠ 0x0300000034 + c * 0x100)
    (hl : r.lo < 64) (v : Nat) : s.stays (t.setF r v) c :=
  h.setF (by simp only [RF.key, GBB_CH_STATUS_STATE]; omega) v

/-- A flag in STATUS of the channel. -/
theorem State.stays.setF_flag {s t : State} {c : Nat} (h : s.stays t c) {lo n : Nat} (hl : 0 < lo) (v : Nat) :
    s.stays (t.setF ⟨0x0300000034 + c * 0x100, lo, n⟩ v) c :=
  h.setF (by simp only [RF.key, GBB_CH_STATUS_STATE]; omega) v

theorem State.stays.setCh {s t : State} {c : Nat} (h : s.stays t c) {x : Chan} (hx : (t.ch c).keepsLoop x) :
    s.stays (t.setCh c x) c :=
  h.trans ⟨(State.moves.refl t c).setCh hx.seq, by rw [State.ch_setCh_same]; exact hx, rfl⟩

theorem State.stays.notice {s t : State} {c : Nat} (h : s.stays t c) (src dest tag data : Nat) (b : Bool) :
    s.stays (t.notice src dest tag data b) c :=
  h.trans ⟨⟨rfl, fun _ _ => rfl, rfl, fun _ => rfl, _, rfl⟩, .refl _, rfl⟩

theorem State.stays_touch (s : State) (c : Nat) : s.stays (s.touch iGBB) c := by
  have hg := s.gbb_touch iGBB
  have hch := State.ch_congr hg
  refine ⟨⟨s.mem_touch _, fun d _ => hch d, by rw [hch], fun k => by rw [State.sr_congr hg], [], ?_⟩,
    by rw [hch]; exact .refl _, s.f_touch _ ?_⟩
  · rw [s.sent_touch, List.append_nil]
  · simp only [RF.key, GBB_CH_STATUS_STATE, ISL_PSTATE_STATE, iGBB]
    omega

theorem State.stays_foldl {α : Type} {f : State → α → State} {c : Nat} (hf : ∀ (s : State) a, s.stays (f s a) c)
    (l : List α) (s : State) : s.stays (l.foldl f s) c :=
  List.foldlRecOn (motive := fun t => s.stays t c) l _ (.refl s c) fun t ht a _ => ht.trans (hf t a)

/-! ### Events and displays (R196, R219, R243) -/

theorem State.stays_chEvent (s : State) (c k : Nat) : s.stays (s.chEvent c k) c :=
  (State.stays.refl s c).setCh ⟨rfl, rfl, rfl, rfl⟩

theorem State.stays_slip (s : State) (c : Nat) : s.stays (s.slip c) c :=
  (State.stays.refl s c).setCh ⟨rfl, rfl, rfl, rfl⟩

theorem State.stays_chFlush (s : State) (c : Nat) : s.stays (s.chFlush c) c := by
  unfold State.chFlush
  extract_lets m x s₁ s₂
  have h₁ : s.stays s₁ c := (State.stays.refl s c).setCh ⟨rfl, rfl, rfl, rfl⟩
  have h₂ : s.stays s₂ c := h₁.setF_addr (by simp only [GBB_CH_EVENTS_EVENT]; omega) (by simp [GBB_CH_EVENTS_EVENT]) _
  refine h₂.trans (State.stays_foldl (fun z k => ?_) _ s₂)
  split
  · exact (State.stays.refl z c).notice ..
  · exact .refl z c

/-- The notices of a channel's events change EVENTS alone among the registers. -/
theorem State.f_chFlush (s : State) (c : Nat) {q : RF} (hq : q.key ≠ (GBB_CH_EVENTS_EVENT c).key) :
    (s.chFlush c).f q = s.f q := by
  unfold State.chFlush
  extract_lets m x s₁ s₂
  have h₂ : s₂.f q = s.f q := s₁.f_setF_ne _ _ _ hq
  refine List.foldlRecOn (motive := fun t : State => t.f q = s.f q) _ _ h₂ fun t ht k _ => ?_
  split
  · exact ht
  · exact ht

theorem State.stays_chNco (s : State) (c : Nat) : s.stays (s.chNco c) c :=
  ((State.stays.refl s c).setF_addr (by simp only [GBB_CH_NCO_DOPP]; omega) (by simp [GBB_CH_NCO_DOPP]) _).setF_addr
    (by simp only [GBB_CH_NCO_CODE_ADJ]; omega) (by simp [GBB_CH_NCO_CODE_ADJ]) _

theorem State.stays_clusterOf (s : State) (c : Nat) : s.stays (s.clusterOf c) c :=
  (State.stays.refl s c).setF_addr (by simp only [GBB_CLUSTERS_GATED]; omega) (by simp [GBB_CLUSTERS_GATED]) _

/-! ### Reacquisitions (R188, R217) -/

theorem State.stays_dropReacq (s : State) (c : Nat) : s.stays (s.dropReacq c) c := by
  have ha (k : Nat) : ((s.dropReacq c).sr k).active = (s.sr k).active :=
    Tab.get_map_of_eq (d := fun _ => Searcher.fresh) (p := Searcher.active) (f := fun e : Nat × Searcher =>
      ({ e.2 with queue := e.2.queue.filter fun q => q.chan != some c } : Searcher)) (fun _ => rfl) s.gbb.srch k
  exact ⟨⟨rfl, fun _ _ => rfl, rfl, ha, [], (List.append_nil _).symm⟩, .refl _, rfl⟩

theorem State.stays_placeReacq (s : State) (c : Nat) : s.stays (s.placeReacq c) c := by
  unfold State.placeReacq
  extract_lets sr load k x cmd s₁ s₂
  have hw (b : Bool) : s.stays (s.setCh c { x with reacqWait := b }) c := (State.stays.refl s c).setCh ⟨rfl, rfl, rfl, rfl⟩
  have hk : k < 2 := by
    unfold k
    split <;> decide
  have h₂ : s.stays s₂ c := (hw false).setF_addr (by simp only [GBB_SRCH_s_STAT_QUEUED]; omega)
    (by simp [GBB_SRCH_s_STAT_QUEUED]) _
  split
  · exact hw true
  · refine h₂.trans ⟨⟨rfl, fun _ _ => rfl, rfl, fun j => ?_, [], (List.append_nil _).symm⟩, .refl _, rfl⟩
    by_cases hj : j = k
    · have hx := congrArg Searcher.active (Tab.get_set_same (fun _ => Searcher.fresh) s₂.gbb.srch k
        { sr k with queue := (sr k).queue ++ [cmd] })
      rw [hj]
      exact hx
    · exact congrArg Searcher.active (Tab.get_set_ne _ _ _ _ _ hj)

/-- A reacquisition that is placed shows in its searcher's QUEUED alone among the registers. -/
theorem State.f_placeReacq (s : State) (c : Nat) {q : RF} (hq : ∀ k < 2, q.key ≠ (GBB_SRCH_s_STAT_QUEUED k).key) :
    (s.placeReacq c).f q = s.f q := by
  unfold State.placeReacq
  extract_lets sr load k x cmd s₁ s₂
  have hk : k < 2 := by
    unfold k
    split <;> decide
  split
  · rfl
  · exact s₁.f_setF_ne _ _ _ (hq k hk)

/-! ### Entering a state (R188) -/

/-- Entering a state is setting STATE, and flags and events besides. -/
theorem State.stays_chEnter (s : State) (c st : Nat) : (s.setF (GBB_CH_STATUS_STATE c) st).stays (s.chEnter c st) c := by
  unfold State.chEnter
  extract_lets old pilot s₁ x₁ s₂ s₃ s₄ s₅ s₆ x₆ x₄ s₇ s₈ s₉ x₉ s₁₀
  have h₂ : s₁.stays s₂ c := (State.stays.refl s₁ c).setCh ⟨rfl, rfl, rfl, rfl⟩
  have h₃ : s₁.stays s₃ c := by
    unfold s₃
    split
    · exact h₂
    · exact h₂.trans (s₂.stays_chEvent c 0)
  have h₄ : s₁.stays s₄ c := by
    unfold s₄
    split
    · exact (h₃.setF_flag (by decide) _).trans (State.stays_dropReacq ..)
    · exact h₃
  have h₆ : s₁.stays s₆ c := (((h₄.setF_flag (by decide) _).setF_flag (by decide) _).setF_flag (by decide) _).setF_flag
    (by decide) _
  have h₇ : s₁.stays s₇ c := h₄.setCh ⟨rfl, rfl, rfl, rfl⟩
  have h₈ : s₁.stays s₈ c := by
    unfold s₈
    split
    · exact h₇.setF_flag (by decide) _
    · exact h₇
  have h₉ : s₁.stays s₉ c := by
    unfold s₉
    split
    · exact h₄
    · exact h₄.setF_flag (by decide) _
  have h₁₀ : s₁.stays s₁₀ c := by
    unfold s₁₀
    split
    · exact h₆.setCh ⟨rfl, rfl, rfl, rfl⟩
    split
    · exact h₈.trans (s₈.stays_slip c)
    split
    · exact h₉.setCh ⟨rfl, rfl, rfl, rfl⟩
    split
    · split
      · exact h₄.setF_flag (by decide) _
      · exact h₄
    split
    · exact h₄.trans (s₄.stays_slip c)
    · exact h₄
  exact h₁₀.trans (s₁₀.stays_clusterOf c)

theorem State.moves_chEnter (s : State) (c st : Nat) : s.moves (s.chEnter c st) c :=
  ((State.moves.refl s c).setF _ st).trans (s.stays_chEnter c st).moved

theorem State.chSt_chEnter (s : State) (c : Nat) {st : Nat} (h : st < 8) : (s.chEnter c st).chSt c = st := by
  have hf : (s.setF (GBB_CH_STATUS_STATE c) st).f (GBB_CH_STATUS_STATE c) = st % 2 ^ 3 := State.f_setF_same ..
  rw [(s.stays_chEnter c st).st, State.chSt, hf]
  omega

/-- A channel enters a state with the loop filter it is given. -/
theorem State.keepsLoop_chEnter_setCh (s : State) (c : Nat) (x : Chan) (st : Nat) :
    x.keepsLoop (((s.setCh c x).chEnter c st).ch c) := by
  have h := ((s.setCh c x).stays_chEnter c st).own
  rwa [State.ch_congr (State.setF_gbb ..), State.ch_setCh_same] at h

/-- COAST is left for IDLE, or a reacquisition is placed. -/
theorem State.moves_coastExit (s : State) (c : Nat) : s.moves (s.coastExit c) c := by
  unfold State.coastExit
  split
  · exact ((State.moves.refl s c).setF _ 1).trans (State.stays_placeReacq ..).moved
  · exact s.moves_chEnter c 1

theorem State.moves_vectorEnd (s : State) (c : Nat) : s.moves (s.vectorEnd c) c :=
  ((State.moves.refl s c).setCh (by rfl)).trans (State.moves_chEnter ..)

/-- The loop filter takes over the Doppler in effect. -/
theorem State.vectorEnd_spec (s : State) (c : Nat) : (s.vectorEnd c).chSt c = 4 ∧
    ((s.vectorEnd c).ch c).accV = (s.ch c).dopp ∧ ((s.vectorEnd c).ch c).accA = 0 := by
  have hl := s.keepsLoop_chEnter_setCh c { s.ch c with accV := (s.ch c).dopp, accA := 0 } 4
  exact ⟨State.chSt_chEnter _ c (by decide), hl.accV, hl.accA⟩

/-! ### START (R190) -/

/-- A channel that starts keeps the number of its dumps, from IDLE too. -/
theorem State.moves_startGo (s : State) (c : Nat) : s.moves (s.startGo c) c := by
  unfold State.startGo
  split
  · exact .refl s c
  · extract_lets f0 a dt dopp phi0 cyc phi phi' x fromIdle y x' x''
    have hx : x''.seq = (s.ch c).seq := by
      have h' : x'.seq = (s.ch c).seq := by
        unfold x'
        split <;> rfl
      exact h'
    exact (((State.moves.refl s c).setCh hx).trans (State.moves_chEnter ..)).trans (State.stays_chNco ..).moved

theorem State.chSig_of_startCheck {s : State} {c : Nat} (h : s.startCheck c = cOK) : ∃ g, s.chSig c = some g := by
  cases hg : s.chSig c with
  | some g => exact ⟨g, rfl⟩
  | none =>
    unfold State.startCheck at h
    simp only [hg] at h
    split at h <;> simp [cBUSY, cRANGE, cOK] at h

theorem State.chSt_startGo {s : State} {c : Nat} (h : s.startCheck c = cOK) : (s.startGo c).chSt c = 2 := by
  obtain ⟨g, hg⟩ := State.chSig_of_startCheck h
  unfold State.startGo
  simp only [hg]
  rw [(State.stays_chNco _ c).st, State.chSt_chEnter _ c (by decide)]

/-! ### A command takes effect (R189) -/

theorem State.moves_chOp (s : State) (c op : Nat) : s.moves (s.chOp c op).2 c := by
  unfold State.chOp
  extract_lets st r x
  split
  · split
    · exact s.moves_chEnter c 1
    · exact .refl s c
  · exact s.moves_chEnter c 0
  · split
    · exact .refl s c
    · split
      · exact s.moves_startGo c
      · exact .refl s c
  · split
    · exact .refl s c
    · exact s.moves_chEnter c 1
  · split
    · exact ((State.moves.refl s c).setCh (by rfl)).trans (State.moves_chEnter ..)
    · exact .refl s c
  · split
    · exact s.moves_vectorEnd c
    · exact .refl s c

theorem State.moves_chOpDone (s : State) (c op : Nat) : s.moves (s.chOpDone c op) c :=
  (((s.moves_chOp c op).setF _ _).setF _ _).setCh (by rfl)

/-- A command that has taken effect shows its status, and the channel is free for the next one. -/
theorem State.chOpDone_spec (s : State) (c op : Nat) : (s.chOpDone c op).chSt c = (s.chOp c op).2.chSt c ∧
    (s.chOpDone c op).f (GBB_CH_CMD_STATUS c) = (s.chOp c op).1 % 2 ^ 8 ∧ (s.chOpDone c op).f (GBB_CH_CMD_BUSY c) = 0 ∧
    ((s.chOpDone c op).ch c).op = 0 := by
  have hk : (GBB_CH_STATUS_STATE c).key ≠ (GBB_CH_CMD_STATUS c).key ∧ (GBB_CH_STATUS_STATE c).key ≠ (GBB_CH_CMD_BUSY c).key ∧
      (GBB_CH_CMD_STATUS c).key ≠ (GBB_CH_CMD_BUSY c).key := by
    simp only [RF.key, GBB_CH_STATUS_STATE, GBB_CH_CMD_STATUS, GBB_CH_CMD_BUSY]
    omega
  obtain ⟨hS, hB, hSB⟩ := hk
  refine ⟨(State.f_setF_ne _ _ _ _ hB).trans (State.f_setF_ne _ _ _ _ hS),
    (State.f_setF_ne _ _ _ _ hSB).trans (State.f_setF_same ..), State.f_setF_same .., ?_⟩
  exact congrArg Chan.op (State.ch_setCh_same ..)

end Sys2Proof.Machine
end

section
/-! PROOFS. Tracking channels (R187 to R191, R194, R207): commands at once and at the next boundary, writes of the loop
settings, the boundary, and the ends of PULLIN, SYNC, COAST and VECTOR. -/

namespace Sys2Proof.Machine

open Sys2Proof

/-! ### Channel commands (R189) -/

/-- The row of a command written to channel c's OP, which each of the six commands has. -/
theorem regRow_chCmd {s : State} (hs : s.serves iGBB = true) (req c op : Nat) :
    s.regRow iGBB req (aCh c 0x30) 4 op (fun s => s.chCmdWrite req c op) =
      .next (((s.chCmdWrite req c op).2.touch iGBB).ans (s.chCmdWrite req c op).1) :=
  State.regRow_serves hs (by decide) ..

/-- OP shows the command; a START discards the result of the channel's own reacquisition. -/
def State.chCmdTaken (s : State) (c op : Nat) : State :=
  let s := s.setF (GBB_CH_CMD_OP c) op
  if op = 3 ∧ s.on (GBB_CH_STATUS_REACQ c) then s.setCh c { s.ch c with discard := true } else s

theorem State.stays_chCmdTaken (s : State) (c op : Nat) : s.stays (s.chCmdTaken c op) c := by
  unfold State.chCmdTaken
  extract_lets s₁ x
  have h₁ : s.stays s₁ c := (State.stays.refl s c).setF_addr (by simp only [GBB_CH_CMD_OP]; omega) (by simp [GBB_CH_CMD_OP]) _
  split
  · exact h₁.setCh ⟨rfl, rfl, rfl, rfl⟩
  · exact h₁

theorem State.f_chCmdTaken (s : State) (c op : Nat) {q : RF} (hq : q.key ≠ (GBB_CH_CMD_OP c).key) :
    (s.chCmdTaken c op).f q = s.f q := by
  unfold State.chCmdTaken
  extract_lets s₁ x
  have h₁ : s₁.f q = s.f q := s.f_setF_ne _ _ _ hq
  split
  · exact h₁
  · exact h₁

theorem State.now_chCmdTaken (s : State) (c op : Nat) : (s.chCmdTaken c op).now = s.now := by
  unfold State.chCmdTaken
  extract_lets s₁ x
  split <;> rfl

/-- The fields of channel c's window that the checks of START read. -/
def startFields (c : Nat) : List RF :=
  [GBB_CH_CFG_STREAM c, GBB_CH_CFG_SIGNAL c, GBB_CH_CFG_NUMBER c, GBB_CH_CFG_EL_SPACING c, GBB_CH_CFG_VEVL_SPACING c,
    GBB_CH_CFG_T_PILOT c, GBB_CH_CFG_T_DATA c, GBB_CH_CFG_DISC c, GBB_CH_CFG_BUMP_EN c, GBB_CH_LOOP_PLL_BW c,
    GBB_CH_LOOP_FLL_BW c, GBB_CH_LOOP_DLL_BW c, GBB_CH_LOOP_CN0_AVG c, GBB_CH_LOOP_LOSS_COUNT c, GBB_CH_INIT_TIME_TIME c,
    GBB_CH_RECOVER_VEC_TIMEOUT_MS c, GBB_CH_RECOVER_COAST_MS c]

/-- They all lie below the window's CMD register. -/
theorem startFields_ne_OP (c : Nat) : ∀ q ∈ startFields c, q.key ≠ (GBB_CH_CMD_OP c).key := by
  have hl : ∀ q ∈ startFields c, q.addr < 0x0300000030 + c * 0x100 ∧ q.lo < 64 := by
    simp only [startFields, List.forall_mem_cons, GBB_CH_CFG_STREAM, GBB_CH_CFG_SIGNAL, GBB_CH_CFG_NUMBER,
      GBB_CH_CFG_EL_SPACING, GBB_CH_CFG_VEVL_SPACING, GBB_CH_CFG_T_PILOT, GBB_CH_CFG_T_DATA, GBB_CH_CFG_DISC,
      GBB_CH_CFG_BUMP_EN, GBB_CH_LOOP_PLL_BW, GBB_CH_LOOP_FLL_BW, GBB_CH_LOOP_DLL_BW, GBB_CH_LOOP_CN0_AVG,
      GBB_CH_LOOP_LOSS_COUNT, GBB_CH_INIT_TIME_TIME, GBB_CH_RECOVER_VEC_TIMEOUT_MS, GBB_CH_RECOVER_COAST_MS,
      List.not_mem_nil, false_implies, implies_true, and_true]
    omega
  intro q hq
  obtain ⟨ha, h64⟩ := hl q hq
  simp only [RF.key, GBB_CH_CMD_OP]
  omega

/-- No field of a sample port lies at a channel's OP, whatever stream a channel names. -/
theorem streamFields_ne_OP (p g c : Nat) : ∀ q ∈ [SMPn_Sg_CFG_ENABLE p (g % 4), SMPn_Sg_STAT_LOCKED p (g % 4),
    SMPn_Sg_LO_LO p (g % 4), SMPn_Sg_CFG_RATE_KHZ p (g % 4)], q.key ≠ (GBB_CH_CMD_OP c).key := by
  simp only [List.forall_mem_cons, RF.key, GBB_CH_CMD_OP, SMPn_Sg_CFG_ENABLE, SMPn_Sg_STAT_LOCKED, SMPn_Sg_LO_LO,
    SMPn_Sg_CFG_RATE_KHZ, List.not_mem_nil, false_implies, implies_true, and_true]
  omega

/-- START's checks read device time and fields, and no channel's OP. -/
theorem State.startCheck_congr {s t : State} {c : Nat} (hn : t.now = s.now)
    (hf : ∀ q : RF, q.key ≠ (GBB_CH_CMD_OP c).key → t.f q = s.f q) : t.startCheck c = s.startCheck c := by
  have hS (p g : Nat) := fun q hq => hf q (streamFields_ne_OP p g c q hq)
  have hC := fun q hq => hf q (startFields_ne_OP c q hq)
  simp only [startFields, List.forall_mem_cons] at hS hC
  obtain ⟨hStream, hSig, hNum, hEl, hVe, hTp, hTd, hDisc, hBump, hPll, hFll, hDll, hAvg, hLoss, hInit, hVec, hCoast, -⟩ := hC
  unfold State.startCheck State.streamOk State.chSig State.trackMs State.on
  rw [hStream, hSig, hNum, hEl, hVe, hTp, hTd, hDisc, hBump, hPll, hFll, hDll, hAvg, hLoss, hInit, hVec, hCoast, hn]
  simp -zeta only [hS]

/-- The checks of START see the channel as it was before OP was written. -/
theorem State.startCheck_chCmdTaken (s : State) (c : Nat) : (s.chCmdTaken c 3).startCheck c = s.startCheck c :=
  State.startCheck_congr (s.now_chCmdTaken c 3) fun _ hq => s.f_chCmdTaken c 3 hq

section
variable {s : State} {c op : Nat} (hs : s.serves iGBB = true) (hb : s.f (GBB_CH_CMD_BUSY c) = 0) (hop : 0 < op)
  (hop' : op ≤ 6)
include hs hb hop hop'

/-- In OFF and IDLE a command takes effect at once. -/
theorem chCmd_atOnce (hst : s.chSt c ≤ 1) (req : Nat) : ∃ t : State,
    s.regRow iGBB req (aCh c 0x30) 4 op (fun s => s.chCmdWrite req c op) = .next t ∧ t.answer = cOK ∧
      t.chSt c = ((s.chCmdTaken c op).chOp c op).2.chSt c ∧
      t.f (GBB_CH_CMD_STATUS c) = ((s.chCmdTaken c op).chOp c op).1 % 2 ^ 8 ∧ s.moves t c := by
  have hz := s.stays_chCmdTaken c op
  have hw : s.chCmdWrite req c op = (cOK, ((s.chCmdTaken c op).chOpDone c op).chFlush c) := by
    unfold State.chCmdWrite
    rw [if_neg (by omega), if_neg (by simp [State.on, hb])]
    exact if_pos (hz.st ▸ hst)
  rw [regRow_chCmd hs, hw]
  generalize s.chCmdTaken c op = z at *
  obtain ⟨hSt, hS, -, -⟩ := z.chOpDone_spec c op
  have hd := z.moves_chOpDone c op
  generalize z.chOpDone c op = y at *
  have hfl := (y.stays_chFlush c).trans (State.stays_touch _ c)
  have hkS : (GBB_CH_CMD_STATUS c).key ≠ (ISL_PSTATE_STATE iGBB).key ∧
      (GBB_CH_CMD_STATUS c).key ≠ (GBB_CH_EVENTS_EVENT c).key := by
    simp only [RF.key, GBB_CH_CMD_STATUS, ISL_PSTATE_STATE, iGBB, GBB_CH_EVENTS_EVENT]
    omega
  obtain ⟨hkP, hkE⟩ := hkS
  refine ⟨_, rfl, rfl, hfl.st.trans hSt, ?_, hz.moved.trans (hd.trans (hfl.moved.ans _))⟩
  rw [State.f_ans, State.f_touch _ _ hkP, y.f_chFlush c hkE, hS]

/-- In the other states a command waits for the boundary. -/
theorem chCmd_waits (hst : 2 ≤ s.chSt c) (req : Nat) : ∃ t : State,
    s.regRow iGBB req (aCh c 0x30) 4 op (fun s => s.chCmdWrite req c op) = .next t ∧ t.answer = cOK ∧
      t.f (GBB_CH_CMD_BUSY c) = 1 ∧ (t.ch c).op = op ∧ t.chSt c = s.chSt c := by
  have hz := s.stays_chCmdTaken c op
  have hw : s.chCmdWrite req c op = (cOK, ((s.chCmdTaken c op).setF (GBB_CH_CMD_BUSY c) 1).setCh c
      { ((s.chCmdTaken c op).setF (GBB_CH_CMD_BUSY c) 1).ch c with op := op }) := by
    unfold State.chCmdWrite
    rw [if_neg (by omega), if_neg (by simp [State.on, hb])]
    exact if_neg (not_le.2 (hz.st.symm ▸ hst))
  rw [regRow_chCmd hs, hw]
  generalize s.chCmdTaken c op = z at *
  have hkB : (GBB_CH_CMD_BUSY c).key ≠ (ISL_PSTATE_STATE iGBB).key ∧
      (GBB_CH_STATUS_STATE c).key ≠ (GBB_CH_CMD_BUSY c).key := by
    simp only [RF.key, GBB_CH_CMD_BUSY, ISL_PSTATE_STATE, iGBB, GBB_CH_STATUS_STATE]
    omega
  obtain ⟨hkP, hkS⟩ := hkB
  refine ⟨_, rfl, rfl, (State.f_touch _ _ hkP).trans (State.f_setF_same ..), ?_, ?_⟩
  · exact congrArg Chan.op ((State.ch_congr (State.gbb_touch ..) c).trans (State.ch_setCh_same ..))
  · exact (State.stays_touch _ c).st.trans ((State.f_setF_ne _ _ _ _ hkS).trans hz.st)

end

section
variable {s : State} {c : Nat} (hs : s.serves iGBB = true) (hb : s.f (GBB_CH_CMD_BUSY c) = 0) (req : Nat)
include hs hb

theorem channelEnable_off (hst : s.chSt c = 0) :
    ∃ t : State, exec (.channelEnable req c) s = .next t ∧ t.answer = cOK ∧ t.chSt c = 1 ∧
      t.f (GBB_CH_CMD_STATUS c) = cOK ∧ t.mem = s.mem ∧ ∀ d : Nat, d ≠ c → t.ch d = s.ch d := by
  obtain ⟨t, hx, ha, hSt, hS, hm⟩ := chCmd_atOnce hs hb (op := 1) (by decide) (by decide) (by omega) req
  have ho : (s.chCmdTaken c 1).chOp c 1 = (cOK, (s.chCmdTaken c 1).chEnter c 1) :=
    if_pos ((s.stays_chCmdTaken c 1).st.trans hst)
  rw [ho] at hSt hS
  exact ⟨t, hx, ha, hSt.trans (State.chSt_chEnter _ c (by decide)), hS, hm.mem, hm.ch⟩

theorem channelEnable_idle (hst : s.chSt c = 1) :
    ∃ t : State, exec (.channelEnable req c) s = .next t ∧ t.chSt c = 1 ∧ t.f (GBB_CH_CMD_STATUS c) = cBUSY := by
  obtain ⟨t, hx, -, hSt, hS, -⟩ := chCmd_atOnce hs hb (op := 1) (by decide) (by decide) (by omega) req
  have hz := (s.stays_chCmdTaken c 1).st.trans hst
  have ho : (s.chCmdTaken c 1).chOp c 1 = (cBUSY, s.chCmdTaken c 1) := if_neg (by omega)
  rw [ho] at hSt hS
  exact ⟨t, hx, hSt.trans hz, hS⟩

theorem channelDisable_idle (hst : s.chSt c = 1) :
    ∃ t : State, exec (.channelDisable req c) s = .next t ∧ t.answer = cOK ∧ t.chSt c = 0 ∧
      t.f (GBB_CH_CMD_STATUS c) = cOK ∧ t.mem = s.mem ∧ ∀ d : Nat, d ≠ c → t.ch d = s.ch d := by
  obtain ⟨t, hx, ha, hSt, hS, hm⟩ := chCmd_atOnce hs hb (op := 2) (by decide) (by decide) (by omega) req
  exact ⟨t, hx, ha, hSt.trans (State.chSt_chEnter _ c (by decide)), hS, hm.mem, hm.ch⟩

theorem channelStart_ok (hst : s.chSt c = 1) (hc : s.startCheck c = cOK) :
    ∃ t : State, exec (.channelStart req c) s = .next t ∧ t.answer = cOK ∧ t.chSt c = 2 ∧
      t.f (GBB_CH_CMD_STATUS c) = cOK ∧ t.mem = s.mem ∧ ∀ d : Nat, d ≠ c → t.ch d = s.ch d := by
  obtain ⟨t, hx, ha, hSt, hS, hm⟩ := chCmd_atOnce hs hb (op := 3) (by decide) (by decide) (by omega) req
  have hz := (s.stays_chCmdTaken c 3).st.trans hst
  have hk := (s.startCheck_chCmdTaken c).trans hc
  have ho : (s.chCmdTaken c 3).chOp c 3 = (cOK, (s.chCmdTaken c 3).startGo c) :=
    (if_neg (not_not.2 hz)).trans (if_pos hk)
  rw [ho] at hSt hS
  exact ⟨t, hx, ha, hSt.trans (State.chSt_startGo hk), hS, hm.mem, hm.ch⟩

theorem channelStart_refused (hst : s.chSt c = 1) (hc : s.startCheck c ≠ cOK) :
    ∃ t : State, exec (.channelStart req c) s = .next t ∧ t.chSt c = 1 ∧
      t.f (GBB_CH_CMD_STATUS c) = s.startCheck c % 2 ^ 8 ∧ t.mem = s.mem := by
  obtain ⟨t, hx, -, hSt, hS, hm⟩ := chCmd_atOnce hs hb (op := 3) (by decide) (by decide) (by omega) req
  have hz := (s.stays_chCmdTaken c 3).st.trans hst
  have hk := s.startCheck_chCmdTaken c
  have ho : (s.chCmdTaken c 3).chOp c 3 = (s.startCheck c, s.chCmdTaken c 3) :=
    (if_neg (not_not.2 hz)).trans ((if_neg (hk ▸ hc)).trans (by rw [hk]))
  rw [ho] at hSt hS
  exact ⟨t, hx, hSt.trans hz, hS, hm.mem⟩

end

/-! ### Writes of the loop settings (R190) -/

/-- The map's entry of GBB_CH_LOOP. -/
def chLoopReg : RegD := ⟨0x8, 8, 256, 512, 1, 1, [⟨56, 8, .rw, []⟩, ⟨48, 8, .rw, []⟩, ⟨40, 8, .rw, []⟩, ⟨32, 8, .rw, []⟩,
  ⟨20, 9, .rw, []⟩, ⟨12, 8, .rw, []⟩, ⟨0, 12, .rw, []⟩]⟩

theorem regAt_chLoop {c : Nat} (hc : c < 512) : regAt (aCh c 8) = some (chLoopReg, aCh c 8) := by
  have hl : regList (aCh c 8) = (regTabGbbch, c * 0x100 + 8) := by
    have ho : 0x0300000000 + c * 0x100 + 8 - 0x0300000000 = c * 0x100 + 8 := by omega
    rw [regList, if_neg (by simp only [aCh]; omega), aCh, ho]
  have hf : findReg regTabGbbch (c * 0x100 + 8) = some (chLoopReg, c * 0x100 + 8) := by
    have h0 : inGroup 0 256 512 1 1 (c * 0x100 + 8) = false := by simp [inGroup]
    have h8 : inGroup 8 256 512 1 1 (c * 0x100 + 8) = true := by simp [inGroup, hc]
    simp [findReg, regTabGbbch, regTabGbbch0, h0, h8, chLoopReg]
  simp [regAt, hl, hf]

/-- The fields of GBB_CH_LOOP as a write of v leaves them. -/
def State.loopSet (s : State) (c v : Nat) : State :=
  ((((((s.setF (GBB_CH_LOOP_LOSS_COUNT c) (bits v 63 56)).setF (GBB_CH_LOOP_LOSS_CN0 c) (bits v 55 48)).setF
    (GBB_CH_LOOP_LOCK_CN0 c) (bits v 47 40)).setF (GBB_CH_LOOP_CN0_AVG c) (bits v 39 32)).setF
    (GBB_CH_LOOP_DLL_BW c) (bits v 28 20)).setF (GBB_CH_LOOP_FLL_BW c) (bits v 19 12)).setF
    (GBB_CH_LOOP_PLL_BW c) (bits v 11 0)

theorem State.loopSet_spec (s : State) (c v : Nat) : (s.loopSet c v).f (GBB_CH_LOOP_PLL_BW c) = bits v 11 0 ∧
    (s.loopSet c v).f (GBB_CH_LOOP_FLL_BW c) = bits v 19 12 ∧ (s.loopSet c v).f (GBB_CH_LOOP_DLL_BW c) = bits v 28 20 ∧
    (s.loopSet c v).gbb = s.gbb ∧ (s.loopSet c v).mem = s.mem := by
  unfold State.loopSet
  simp (disch := (simp only [RF.key, GBB_CH_LOOP_PLL_BW, GBB_CH_LOOP_FLL_BW, GBB_CH_LOOP_DLL_BW]; omega)) only
    [State.f_setF_ne, State.f_setF_same, State.setF_gbb, State.setF_mem]
  exact ⟨Nat.mod_mod .., Nat.mod_mod .., Nat.mod_mod .., trivial, trivial⟩

theorem State.regW_chLoop {c : Nat} (hc : c < 512) (s : State) (req v : Nat) :
    s.regW iGBB req (aCh c 8) v = (cOK, s.loopSet c v) := by
  have ha : aCh c 8 = 0x0300000008 + c * 0x100 := by
    simp only [aCh]
    omega
  have h := State.regW_taken (v := v) (regAt_chLoop hc) rfl rfl s iGBB req
  rw [ha] at h ⊢
  exact h

section
variable {s : State} {c : Nat} (hc : c < 512) (hs : s.serves iGBB = true)
include hs

theorem exec_channelLoopWrite (req v : Nat) : exec (.channelLoopWrite req c v) s =
    .next (((s.chLoopWrite req c v).2.touch iGBB).ans (s.chLoopWrite req c v).1) := by
  simp only [exec, execChannelLoopWrite, State.regRow_serves hs (by decide)]

include hc

theorem channelLoopWrite_sets (hst : s.chSt c ≤ 1) (req v : Nat) :
    ∃ t : State, exec (.channelLoopWrite req c v) s = .next t ∧ t.answer = cOK ∧
      t.f (GBB_CH_LOOP_PLL_BW c) = bits v 11 0 ∧ t.f (GBB_CH_LOOP_FLL_BW c) = bits v 19 12 ∧
      t.f (GBB_CH_LOOP_DLL_BW c) = bits v 28 20 ∧ t.gbb = s.gbb ∧ t.mem = s.mem := by
  have hw : s.chLoopWrite req c v = (cOK, s.loopSet c v) := (if_pos (.inl hst)).trans (State.regW_chLoop hc s req v)
  obtain ⟨hP, hF, hD, hg, hm⟩ := s.loopSet_spec c v
  rw [exec_channelLoopWrite hs, hw]
  generalize s.loopSet c v = z at *
  have hk : ∀ q : RF, q.addr = 0x0300000008 + c * 0x100 → (z.touch iGBB).f q = z.f q := by
    intro q ha
    refine z.f_touch _ ?_
    simp only [RF.key, ISL_PSTATE_STATE, iGBB, ha]
    omega
  exact ⟨_, rfl, rfl, (hk _ rfl).trans hP, (hk _ rfl).trans hF, (hk _ rfl).trans hD, (z.gbb_touch _).trans hg,
    (z.mem_touch _).trans hm⟩

/-- A channel that integrates refuses settings that START would refuse. -/
theorem channelLoopWrite_refused {req v : Nat} (hst : 2 ≤ s.chSt c)
    (hk : (s.regW iGBB req (aCh c 8) v).2.startCheck c ≠ cOK) :
    ∃ t : State, exec (.channelLoopWrite req c v) s = .next t ∧
      t.answer = (s.regW iGBB req (aCh c 8) v).2.startCheck c ∧ s.keeps t (ISL_PSTATE_STATE iGBB :: refuseRegs iGBB) := by
  have hr : (s.regW iGBB req (aCh c 8) v).1 = cOK := by rw [State.regW_chLoop hc]
  have hw : s.chLoopWrite req c v =
      s.regRefuse iGBB (aCh c 8) req ((s.regW iGBB req (aCh c 8) v).2.startCheck c) :=
    (if_neg (not_or.2 ⟨by omega, not_not.2 hr⟩)).trans (if_neg hk)
  rw [exec_channelLoopWrite hs, hw]
  exact ⟨_, rfl, rfl, (s.keeps_regRefuse_touch ..).ans _⟩

end

/-! ### The boundary (R194 to R202) -/

/-- A channel has come to y from x with the number of its dumps and the command it holds. -/
structure Chan.keepsCmd (x y : Chan) : Prop where
  seq : y.seq = x.seq
  op : y.op = x.op

theorem Chan.keepsCmd.trans {x y z : Chan} (h : x.keepsCmd y) (k : y.keepsCmd z) : x.keepsCmd z :=
  ⟨k.seq.trans h.seq, k.op.trans h.op⟩

theorem Chan.keepsCmd_loopRun (s : State) (c : Nat) (x : Chan) (ep ef ec t : Nat) (kf : Bool) :
    x.keepsCmd (s.loopRun c x ep ef ec t kf) := by
  unfold State.loopRun
  extract_lets pll fll dll k wp wf w2 a v wp' wf' v' y
  have hy : x.keepsCmd y := by
    unfold y
    split <;> exact ⟨rfl, rfl⟩
  exact ⟨hy.seq, hy.op⟩

theorem Chan.keepsLoop_alignBase (x : Chan) (g : Sig) (range total : Nat) : x.keepsLoop (x.alignBase g range total) := by
  unfold Chan.alignBase
  extract_lets unit k m
  exact ⟨rfl, rfl, rfl, rfl⟩

theorem State.stays_secFound (s : State) (c : Nat) (g : Sig) (p : Nat) : s.stays (s.secFound c g p) c := by
  unfold State.secFound
  extract_lets x l2c y s₁
  have hy : x.keepsLoop y := by
    unfold y
    split
    · exact ⟨rfl, rfl, rfl, rfl⟩
    · exact x.keepsLoop_alignBase ..
  have h₁ : s.stays s₁ c := ((State.stays.refl s c).setCh hy).setF_flag (by decide) _
  split <;> exact h₁.setF_flag (by decide) _

theorem State.stays_secSeek (s : State) (c : Nat) (g : Sig) (b : BoundIn) : s.stays (s.secSeek c g b) c := by
  unfold State.secSeek
  extract_lets x l2c w n s₁ y k
  have h₁ : s.stays s₁ c := (State.stays.refl s c).setCh ⟨rfl, rfl, rfl, rfl⟩
  have hf (p : Nat) : s.stays (s₁.secFound c g p) c := h₁.trans (s₁.stays_secFound c g p)
  have hy (o : Option Nat) (j : Nat) : s.stays (s₁.setCh c { y with secCand := o, secN := j }) c :=
    h₁.setCh ⟨rfl, rfl, rfl, rfl⟩
  split
  · exact .refl s c
  split
  · split
    · split
      · exact h₁
      split
      · exact hf _
      · exact hy _ _
    · exact h₁
  · split
    · exact hy _ _
    split
    · exact hf _
    · exact hy _ _

theorem State.stays_bitSeek (s : State) (c : Nat) (g : Sig) (b : BoundIn) : s.stays (s.bitSeek c g b) c := by
  unfold State.bitSeek
  extract_lets x neg hist hist' n total best edge y y'
  have hx {z : Chan} (h : x.keepsLoop z) : s.stays (s.setCh c z) c := (State.stays.refl s c).setCh h
  split
  · exact hx ⟨rfl, rfl, rfl, rfl⟩
  split
  · have hy : x.keepsLoop y := ⟨rfl, rfl, rfl, rfl⟩
    exact (hx (hy.trans (y.keepsLoop_alignBase ..))).setF_flag (by decide) _
  · exact hx ⟨rfl, rfl, rfl, rfl⟩

/-- The automatic transitions move the channel alone. -/
theorem State.moves_autoMove (s : State) (c : Nat) (g : Sig) (full : Bool) (cn0 : Nat) :
    s.moves (s.autoMove c g full cn0) c := by
  unfold State.autoMove
  extract_lets st strong lost x s₁ s₂
  have h₁ : s.moves s₁ c :=
    (((State.moves.refl s c).setCh (x := { x with low := 0 }) rfl).trans (State.stays_chEvent ..).moved).setF _ _
  have h₂ : s.moves s₂ c := h₁.trans (s₁.moves_chEnter c 6)
  split
  · exact s.moves_chEnter ..
  split
  · exact s.moves_chEnter ..
  split
  · split
    · exact h₂.trans (s₂.moves_coastExit c)
    · exact h₂
  split
  · exact s.moves_chEnter ..
  · exact .refl s c

theorem Chan.keepsCmd_advance (x : Chan) (g : Sig) (edges : Nat) : x.keepsCmd (x.advance g edges) := by
  unfold Chan.advance
  extract_lets dt y
  exact ⟨rfl, rfl⟩

/-- A refused access is recorded in the fields of the record alone. -/
theorem State.regsOnly_refuse (s : State) (isl a req : Nat) (w : Bool) (k : Nat) :
    s.regsOnly (s.refuse isl a req w k) (refuseRegs isl) := by
  unfold State.refuse
  extract_lets z
  have hz : s.regsOnly z (refuseRegs isl) := by
    unfold z
    split
    · exact s.regsOnly_refl _
    · exact (((((s.regsOnly_refl _).setF (by simp [refuseRegs]) _).setF (by simp [refuseRegs]) _).setF
        (by simp [refuseRegs]) _).setF (by simp [refuseRegs]) _).setF (by simp [refuseRegs]) _
  exact hz.setF (by simp [refuseRegs]) _

/-- A write of memory changes memory, or the record of refused accesses where it is refused. -/
theorem State.memWrite_eq (s : State) (req a : Nat) (bs : List Byte) :
    ∃ m g, (s.memWrite req a bs).2 = { s with mem := m, regs := g } ∧
      ∀ q : RF, (∀ r ∈ refuseRegs (ownerOf a), q.key ≠ r.key) → g.get regReset q.key = s.f q := by
  unfold State.memWrite
  extract_lets k
  split
  · exact ⟨(s.wrBytes a bs).mem, s.regs, s.wrBytes_eq a bs, fun _ _ => rfl⟩
  · obtain ⟨⟨g, hg⟩, hf⟩ := s.regsOnly_refuse (ownerOf a) a req true k
    rw [hg] at hf
    exact ⟨s.mem, g, hg, hf⟩

/-- A channel's STATE is no field of a record of refused accesses. -/
theorem STATE_ne_refuseRegs (c isl : Nat) : ∀ r ∈ refuseRegs isl, (GBB_CH_STATUS_STATE c).key ≠ r.key := by
  simp only [refuseRegs, List.forall_mem_cons, RF.key, GBB_CH_STATUS_STATE, ISL_REFUSE_ADDR_ADDR, ISL_REFUSE_INFO_VALID,
    ISL_REFUSE_INFO_WRITE, ISL_REFUSE_INFO_REQUESTER, ISL_REFUSE_INFO_STATUS, ISL_REFUSE_COUNT_COUNT, List.not_mem_nil,
    false_implies, implies_true, and_true]
  omega

/-- A dump that goes to the ring leaves GBB's own state and every channel's STATE. -/
theorem State.dumpRing_spec (s : State) (c seq : Nat) (bs : List Byte) :
    (s.dumpRing c seq bs).gbb = s.gbb ∧ (s.dumpRing c seq bs).chSt c = s.chSt c := by
  have hW : (GBB_CH_STATUS_STATE c).key ≠ GBB_DUMP_WR_INDEX.key ∧ (GBB_CH_STATUS_STATE c).key ≠ GBB_STAT_DUMP_DROPS_COUNT.key := by
    simp only [RF.key, GBB_CH_STATUS_STATE, GBB_DUMP_WR_INDEX, GBB_STAT_DUMP_DROPS_COUNT]
    omega
  obtain ⟨hW, hD⟩ := hW
  unfold State.dumpRing
  extract_lets dec size wr next z z'
  have hz : z.gbb = s.gbb ∧ z.chSt c = s.chSt c := by
    obtain ⟨m, g, he, hg⟩ := s.memWrite_eq (ep iGBB 0) (s.f GBB_DUMP_BASE_BASE * 128 + wr * 128) bs
    have hst : z.chSt c = g.get regReset (GBB_CH_STATUS_STATE c).key := by rw [State.chSt, State.f, show z = _ from he]
    exact ⟨(congrArg State.gbb he :), hst.trans (hg _ (STATE_ne_refuseRegs c _))⟩
  have hz' : z'.gbb = s.gbb ∧ z'.chSt c = s.chSt c := ⟨hz.1, (z.f_setF_ne _ _ _ hW).trans hz.2⟩
  split
  · exact ⟨rfl, rfl⟩
  split
  · exact ⟨rfl, s.f_setF_ne _ _ _ hD⟩
  split
  · exact hz'
  · exact hz'

/-- What is left of a boundary once the integration is done: the automatic transition, which STOP and DISABLE forestall, and
the command that waits. -/
def State.boundEnd (s : State) (c : Nat) (g : Sig) (full : Bool) (cn0 : Nat) : State :=
  let op := (s.ch c).op
  let t := if op = 2 ∨ op = 4 then s else s.autoMove c g full cn0
  if op = 0 then t else t.chOpDone c op

/-- Up to its end a boundary counts one dump and leaves the channel's state and its command. -/
theorem State.bound_eq (s : State) (c : Nat) (g : Sig) (b : BoundIn) : ∃ (z : State) (full : Bool) (cn0 : Nat),
    z.chSt c = s.chSt c ∧ (z.ch c).seq = wrapInc 32 (s.ch c).seq ∧ (z.ch c).op = (s.ch c).op ∧
      s.bound c g b = ((z.boundEnd c g full cn0).chNco c).chFlush c := by
  unfold State.bound
  extract_lets st t ts x₁ y₁ x₂ x₃ oldDopp oldAdj ep ef ec u avg win full pli cn0 pll fll weak x₄ x₅ runE runL bump again x₆ x₇
    rec' seq slipPll s₁ s₂ s₃ s₄ s₅ s₆ op s₇ s₈
  have h₂ : (s.ch c).keepsCmd x₂ := by
    have h := Chan.keepsCmd_advance (s.ch c) g s.tim.edges
    exact ⟨h.seq, h.op⟩
  have h₃ : (s.ch c).keepsCmd x₃ := by
    unfold x₃
    split
    · next ms _ =>
      have h := x₂.keepsLoop_alignBase g 3 (ms * g.chip / 1000)
      exact h₂.trans ⟨h.seq, h.op⟩
    · exact h₂
  have h₄ : (s.ch c).keepsCmd x₄ := ⟨h₃.seq, h₃.op⟩
  have h₅ : (s.ch c).keepsCmd x₅ := by
    unfold x₅
    split
    · exact h₄.trans (Chan.keepsCmd_loopRun ..)
    split
    · exact h₄.trans (Chan.keepsCmd_loopRun ..)
    split
    · exact ⟨h₄.seq, h₄.op⟩
    · exact h₄
  have h₆ : (s.ch c).keepsCmd x₆ := ⟨h₅.seq, h₅.op⟩
  have h₇ : (s.ch c).keepsCmd x₇ := by
    unfold x₇
    generalize bump = moved
    split
    · exact ⟨h₆.seq, h₆.op⟩
    · exact h₆
  have hs₁ : (s₁.ch c).seq = wrapInc 32 (s.ch c).seq ∧ (s₁.ch c).op = (s.ch c).op := by
    unfold s₁
    rw [State.ch_setCh_same]
    exact ⟨congrArg (wrapInc 32) h₇.seq, h₇.op⟩
  have hs₂ : s₁.stays s₂ c := (((State.stays.refl s₁ c).setF_flag (by decide) _).setF_flag (by decide) _).setF_flag
    (by decide) _
  have hs₃ : s₁.stays s₃ c := by
    unfold s₃
    split
    · exact hs₂.trans (s₂.stays_slip c)
    · exact hs₂
  have hs₄ : s₁.stays s₄ c := by
    unfold s₄
    split
    · exact (hs₃.trans (s₃.stays_chEvent c 3)).setF_addr (by simp only [GBB_CH_STAT_BUMPS]; omega)
        (by simp [GBB_CH_STAT_BUMPS]) _
    · exact hs₃
  have hs₆ : s₅.stays s₆ c := by
    unfold s₆
    split
    · split
      · exact s₅.stays_secSeek c g b
      · exact s₅.stays_bitSeek c g b
    · exact .refl s₅ c
  obtain ⟨hg, hst⟩ : s₅.gbb = s₄.gbb ∧ s₅.chSt c = s₄.chSt c := s₄.dumpRing_spec c seq rec'
  have hc := State.ch_congr hg c
  refine ⟨s₆, full, cn0, ?_, ?_, ?_, rfl⟩
  · rw [hs₆.st, hst, hs₄.st]
    rfl
  · rw [hs₆.own.seq, hc, hs₄.own.seq, hs₁.1]
  · rw [hs₆.own.op, hc, hs₄.own.op, hs₁.2]

theorem State.moves_boundEnd (s : State) (c : Nat) (g : Sig) (full : Bool) (cn0 : Nat) :
    s.moves (s.boundEnd c g full cn0) c := by
  unfold State.boundEnd
  extract_lets op t
  have ht : s.moves t c := by
    unfold t
    split
    · exact .refl s c
    · exact s.moves_autoMove ..
  split
  · exact ht
  · exact ht.trans (t.moves_chOpDone c op)

theorem exec_integrationBoundary {s : State} {c : Nat} {g : Sig} (hst : 2 ≤ s.chSt c) (hg : s.chSig c = some g) (b : BoundIn) :
    exec (.integrationBoundary c b) s = .next (s.bound c g b) := by
  refine congrArg Host.Outcome.next ((if_neg (by omega)).trans ?_)
  rw [hg]

/-- Each boundary has the next number. -/
theorem integrationBoundary_counts {s : State} {c : Nat} {g : Sig} (hst : 2 ≤ s.chSt c) (hg : s.chSig c = some g)
    (b : BoundIn) : ∃ t : State, exec (.integrationBoundary c b) s = .next t ∧ (t.ch c).seq = wrapInc 32 (s.ch c).seq := by
  obtain ⟨z, full, cn0, -, hseq, -, he⟩ := s.bound_eq c g b
  rw [exec_integrationBoundary hst hg, he]
  have hm := z.moves_boundEnd c g full cn0
  generalize z.boundEnd c g full cn0 = y at *
  refine ⟨_, rfl, ?_⟩
  rw [(State.stays_chFlush _ c).own.seq, (y.stays_chNco c).own.seq, hm.seq, hseq]

/-- A STOP that waits is run at the boundary. -/
theorem integrationBoundary_stops {s : State} {c : Nat} {g : Sig} (hst : 2 ≤ s.chSt c) (hg : s.chSig c = some g)
    (hop : (s.ch c).op = 4) (b : BoundIn) : ∃ t : State, exec (.integrationBoundary c b) s = .next t ∧ t.chSt c = 1 ∧
      t.f (GBB_CH_CMD_BUSY c) = 0 ∧ (t.ch c).op = 0 := by
  obtain ⟨z, full, cn0, hz, -, hzop, he⟩ := s.bound_eq c g b
  have hend : z.boundEnd c g full cn0 = z.chOpDone c 4 := by
    simp only [State.boundEnd, hzop, hop]
    rfl
  have hrun : z.chOp c 4 = (cOK, z.chEnter c 1) := if_neg (by omega)
  obtain ⟨hSt, -, hB, hop'⟩ := z.chOpDone_spec c 4
  rw [hrun, State.chSt_chEnter _ c (by decide)] at hSt
  rw [exec_integrationBoundary hst hg, he, hend]
  generalize z.chOpDone c 4 = y at *
  have hk : (GBB_CH_CMD_BUSY c).key ≠ (GBB_CH_EVENTS_EVENT c).key ∧ (GBB_CH_CMD_BUSY c).key ≠ (GBB_CH_NCO_DOPP c).key ∧
      (GBB_CH_CMD_BUSY c).key ≠ (GBB_CH_NCO_CODE_ADJ c).key := by
    simp only [RF.key, GBB_CH_CMD_BUSY, GBB_CH_EVENTS_EVENT, GBB_CH_NCO_DOPP, GBB_CH_NCO_CODE_ADJ]
    omega
  obtain ⟨hE, hD, hA⟩ := hk
  have hf : (y.chNco c).f (GBB_CH_CMD_BUSY c) = y.f (GBB_CH_CMD_BUSY c) :=
    (State.f_setF_ne _ _ _ _ hA).trans (State.f_setF_ne _ _ _ _ hD)
  have hy := (y.stays_chNco c).trans (State.stays_chFlush _ c)
  exact ⟨_, rfl, hy.st.trans hSt, (State.f_chFlush _ c hE).trans (hf.trans hB), hy.own.op.trans hop'⟩

/-! ### The ends of PULLIN, SYNC, COAST and VECTOR (R188, R207) -/

section
variable {s : State} {c : Nat}

/-- A state ended for IDLE with an event. -/
theorem State.idled_spec (s : State) (c k : Nat) : (((s.chEnter c 1).chEvent c k).chFlush c).chSt c = 1 ∧
    s.moves (((s.chEnter c 1).chEvent c k).chFlush c) c := by
  have h := (State.stays_chEvent (s.chEnter c 1) c k).trans (State.stays_chFlush _ c)
  exact ⟨h.st.trans (s.chSt_chEnter c (by decide)), (s.moves_chEnter c 1).trans h.moved⟩

theorem pullinFail_idles (hst : s.chSt c = 2) (hm : s.elapsedMs (s.ch c).since 2000 = true) :
    ∃ t : State, exec (.pullinFail c) s = .next t ∧ t.chSt c = 1 ∧ t.mem = s.mem ∧ ∀ d : Nat, d ≠ c → t.ch d = s.ch d := by
  obtain ⟨h1, hmv⟩ := s.idled_spec c 4
  exact ⟨_, congrArg Host.Outcome.next (if_pos ⟨hst, hm⟩), h1, hmv.mem, hmv.ch⟩

theorem syncFail_idles (hst : s.chSt c = 3) (hm : s.elapsedMs (s.ch c).since 6000 = true) :
    ∃ t : State, exec (.syncFail c) s = .next t ∧ t.chSt c = 1 ∧ t.mem = s.mem ∧ ∀ d : Nat, d ≠ c → t.ch d = s.ch d := by
  obtain ⟨h1, hmv⟩ := s.idled_spec c 5
  exact ⟨_, congrArg Host.Outcome.next (if_pos ⟨hst, hm⟩), h1, hmv.mem, hmv.ch⟩

theorem exec_coastExpiry (hst : s.chSt c = 6) (hr : s.on (GBB_CH_STATUS_REACQ c) = false)
    (hm : s.elapsedMs (s.ch c).since (s.f (GBB_CH_RECOVER_COAST_MS c)) = true) :
    exec (.coastExpiry c) s = .next ((s.coastExit c).chFlush c) :=
  congrArg Host.Outcome.next (if_pos ⟨hst, hr, hm⟩)

theorem coastExpiry_idles (hst : s.chSt c = 6) (hr : s.on (GBB_CH_STATUS_REACQ c) = false)
    (hm : s.elapsedMs (s.ch c).since (s.f (GBB_CH_RECOVER_COAST_MS c)) = true)
    (ha : s.on (GBB_CH_CFG_AUTO_REACQ c) = false) :
    ∃ t : State, exec (.coastExpiry c) s = .next t ∧ t.chSt c = 1 ∧ t.mem = s.mem ∧ ∀ d : Nat, d ≠ c → t.ch d = s.ch d := by
  have he : s.coastExit c = s.chEnter c 1 := if_neg (by simp [ha])
  have hf := State.stays_chFlush (s.chEnter c 1) c
  have hmv := (s.moves_chEnter c 1).trans hf.moved
  rw [exec_coastExpiry hst hr hm, he]
  exact ⟨_, rfl, hf.st.trans (s.chSt_chEnter c (by decide)), hmv.mem, hmv.ch⟩

theorem coastExpiry_reacquires (hst : s.chSt c = 6) (hr : s.on (GBB_CH_STATUS_REACQ c) = false)
    (hm : s.elapsedMs (s.ch c).since (s.f (GBB_CH_RECOVER_COAST_MS c)) = true)
    (ha : s.on (GBB_CH_CFG_AUTO_REACQ c) = true) :
    ∃ t : State, exec (.coastExpiry c) s = .next t ∧ t.chSt c = 6 ∧ t.on (GBB_CH_STATUS_REACQ c) = true ∧ t.mem = s.mem := by
  have he : s.coastExit c = (s.setF (GBB_CH_STATUS_REACQ c) 1).placeReacq c := if_pos ha
  have hz : s.stays (s.setF (GBB_CH_STATUS_REACQ c) 1) c := (State.stays.refl s c).setF_flag (by decide) 1
  have hz1 : (s.setF (GBB_CH_STATUS_REACQ c) 1).f (GBB_CH_STATUS_REACQ c) = 1 := State.f_setF_same ..
  rw [exec_coastExpiry hst hr hm, he]
  generalize s.setF (GBB_CH_STATUS_REACQ c) 1 = z at *
  have hf := (z.stays_placeReacq c).trans (State.stays_chFlush _ c)
  have hE : (GBB_CH_STATUS_REACQ c).key ≠ (GBB_CH_EVENTS_EVENT c).key := by
    simp only [RF.key, GBB_CH_STATUS_REACQ, GBB_CH_EVENTS_EVENT]
    omega
  have hQ : ∀ k < 2, (GBB_CH_STATUS_REACQ c).key ≠ (GBB_SRCH_s_STAT_QUEUED k).key := by
    simp only [RF.key, GBB_CH_STATUS_REACQ, GBB_SRCH_s_STAT_QUEUED]
    omega
  refine ⟨_, rfl, (hz.trans hf).st.trans hst, ?_, (hz.trans hf).moved.mem⟩
  rw [State.on, State.f_chFlush _ c hE, z.f_placeReacq c hQ, hz1]
  rfl

/-- Without an update that is due, VECTOR falls back to TRACK. -/
theorem fallback_tracks (hst : s.chSt c = 5)
    (hm : s.elapsedMs (s.ch c).lastVec (s.f (GBB_CH_RECOVER_VEC_TIMEOUT_MS c)) = true) (hv : s.gbb.vecs = []) :
    ∃ t : State, exec (.fallback c) s = .next t ∧ t.chSt c = 4 ∧ (t.ch c).accV = (s.ch c).dopp ∧ (t.ch c).accA = 0 ∧
      t.mem = s.mem ∧ ∀ d : Nat, d ≠ c → t.ch d = s.ch d := by
  obtain ⟨h4, hV, hA⟩ := s.vectorEnd_spec c
  have hmv := s.moves_vectorEnd c
  have he : exec (.fallback c) s =
      .next ((((s.vectorEnd c).chEvent c 2).inc (GBB_CH_STAT_FALLBACKS c)).chFlush c) :=
    congrArg Host.Outcome.next (if_pos ⟨hst, hm, by rw [hv]; rfl⟩)
  rw [he]
  generalize s.vectorEnd c = z at *
  have hz : z.stays ((z.chEvent c 2).inc (GBB_CH_STAT_FALLBACKS c)) c :=
    (z.stays_chEvent c 2).setF_addr (by simp only [GBB_CH_STAT_FALLBACKS]; omega) (by simp [GBB_CH_STAT_FALLBACKS]) _
  have hf := hz.trans (State.stays_chFlush _ c)
  exact ⟨_, rfl, hf.st.trans h4, hf.own.accV.trans hV, hf.own.accA.trans hA, (hmv.trans hf.moved).mem,
    (hmv.trans hf.moved).ch⟩

/-- An OFF channel's states have no ends. -/
theorem channelEnds_none (hst : s.chSt c = 0) : exec (.pullinFail c) s = .next s ∧ exec (.syncFail c) s = .next s ∧
    exec (.coastExpiry c) s = .next s ∧ exec (.fallback c) s = .next s := by
  refine ⟨congrArg _ (if_neg ?_), congrArg _ (if_neg ?_), congrArg _ (if_neg ?_), congrArg _ (if_neg ?_)⟩ <;>
  · rintro ⟨h, -⟩
    omega

end

/-- Settles O31. That an event before its limit does nothing is log entry 60. -/
theorem channels : Obligations.Channels := by
  intro s req c hc
  refine ⟨fun hs hb => ⟨channelEnable_off hs hb req, fun hst => ⟨channelEnable_idle hs hb req hst,
      channelDisable_idle hs hb req hst, channelStart_ok hs hb req hst, channelStart_refused hs hb req hst⟩,
    fun hst => ⟨chCmd_waits hs hb (op := 4) (by decide) (by decide) hst req,
      chCmd_waits hs hb (op := 5) (by decide) (by decide) hst req,
      chCmd_waits hs hb (op := 6) (by decide) (by decide) hst req⟩,
    fun v _ hst => channelLoopWrite_sets hc hs hst req v, fun v hst hk => channelLoopWrite_refused hc hs hst hk⟩,
    fun b g hst hg => ⟨integrationBoundary_counts hst hg b, fun hop => integrationBoundary_stops hst hg hop b⟩,
    pullinFail_idles, syncFail_idles, fun hst hr hm => ⟨coastExpiry_idles hst hr hm, coastExpiry_reacquires hst hr hm⟩,
    fallback_tracks, channelEnds_none⟩

end Sys2Proof.Machine
end

section
/-! PROOFS. Searchers (R208, R210, R211, R214, R216) and vector updates (R203 to R205): commands that join a queue, captures,
ends of searches, cancels, and the updates that wait for their time. -/

namespace Sys2Proof.Machine

open Sys2Proof

/-! ### Searchers as GBB keeps them -/

@[simp] theorem State.sr_setSr_same (s : State) (k : Nat) (x : Searcher) : (s.setSr k x).sr k = x := Tab.get_set_same ..

theorem State.sr_setSr_ne (s : State) {j k : Nat} (h : j ≠ k) (x : Searcher) : (s.setSr k x).sr j = s.sr j :=
  Tab.get_set_ne _ _ _ _ _ h

/-- A token served by GBB leaves its searchers as its rule leaves them. -/
theorem State.sr_touch (s : State) (isl k : Nat) : (s.touch isl).sr k = s.sr k := State.sr_congr (s.gbb_touch isl) k

/-! ### Tokens to GBB (R208) -/

section
variable {s : State} {tk : Token} (hs : s.serves iGBB = true) (hi : epIsl tk.dest = iGBB) (hst : tk.stamp = none)
  (ht : tk.task = none)
include hs hi hst ht

theorem exec_searchCommand : exec (.searchCommand tk) s =
    .next ((((s.taken tk).gbbToken tk).2.touch iGBB).ans ((s.taken tk).gbbToken tk).1) :=
  congrArg Host.Outcome.next (State.arrive_serves hs hi hst ht _)

theorem exec_searchCancel : exec (.searchCancel tk) s =
    .next ((((s.taken tk).searchCancel tk).2.touch iGBB).ans ((s.taken tk).searchCancel tk).1) :=
  congrArg Host.Outcome.next (State.arrive_serves hs hi hst ht _)

theorem exec_vectorUpdate : exec (.vectorUpdate tk) s =
    .next ((((s.taken tk).vecServe tk).2.touch iGBB).ans ((s.taken tk).vecServe tk).1) :=
  congrArg Host.Outcome.next (State.arrive_serves hs hi hst ht _)

end

/-- Port 0x010 takes searcher 0's commands. -/
theorem State.gbbToken_searcher0 {tk : Token} (hd : tk.dest = ep iGBB 0x010) (s : State) :
    s.gbbToken tk = s.searchServe 0 tk := by
  have hp : epPort tk.dest = 0x010 := by rw [hd]; rfl
  simp only [State.gbbToken, hp]

/-- A command token has joined the queue of searcher k. -/
def State.srJoined (s : State) (k : Nat) (tk : Token) : State :=
  State.setSr { s with gbb := { s.gbb with order := s.gbb.order + 1 } } k
    { s.sr k with queue := (s.sr k).queue ++ [⟨tk.data, bits tk.tag 25 23, s.gbb.order, none⟩] }

theorem State.searchServe_joins {s : State} {k : Nat} {tk : Token} (hg : gbbTokenBad tk = false)
    (hl : (s.sr k).queue.length < 8) : s.searchServe k tk = (cOK, s.srJoined k tk) :=
  (if_neg (ne_true_of_eq_false hg)).trans (if_neg (not_le.2 hl))

theorem State.searchServe_busy {s : State} {k : Nat} {tk : Token} (hg : gbbTokenBad tk = false)
    (hl : 8 ≤ (s.sr k).queue.length) : s.searchServe k tk = (cBUSY, s) :=
  (if_neg (ne_true_of_eq_false hg)).trans (if_pos hl)

section
variable {s : State} {tk : Token} (hs : s.serves iGBB = true) (hst : tk.stamp = none) (ht : tk.task = none)
  (hg : gbbTokenBad tk = false) (hd : tk.dest = ep iGBB 0x010)
include hs hst ht hg hd

theorem searchCommand_joins (hl : (s.sr 0).queue.length < 8) :
    ∃ t : State, exec (.searchCommand tk) s = .next t ∧ t.answer = cOK ∧ t.mem = s.mem ∧
      (t.sr 0).queue = (s.sr 0).queue ++ [⟨tk.data, bits tk.tag 25 23, s.gbb.order, none⟩] ∧ t.sr 1 = s.sr 1 := by
  have h0 : ((s.taken tk).srJoined 0 tk).sr 0 =
      { s.sr 0 with queue := (s.sr 0).queue ++ [⟨tk.data, bits tk.tag 25 23, s.gbb.order, none⟩] } := State.sr_setSr_same ..
  have h1 : ((s.taken tk).srJoined 0 tk).sr 1 = s.sr 1 := State.sr_setSr_ne _ (by decide) _
  rw [exec_searchCommand hs (by rw [hd]; rfl) hst ht, State.gbbToken_searcher0 hd,
    State.searchServe_joins (s := s.taken tk) hg hl]
  exact ⟨_, rfl, rfl, State.mem_touch .., congrArg Searcher.queue ((State.sr_touch ..).trans h0), (State.sr_touch ..).trans h1⟩

theorem searchCommand_busy (hl : 8 ≤ (s.sr 0).queue.length) :
    ∃ t : State, exec (.searchCommand tk) s = .next t ∧ t.answer = cBUSY ∧ t.gbb = s.gbb ∧
      s.keeps t [ISL_PSTATE_STATE iGBB] := by
  rw [exec_searchCommand hs (by rw [hd]; rfl) hst ht, State.gbbToken_searcher0 hd,
    State.searchServe_busy (s := s.taken tk) hg hl]
  exact ⟨_, rfl, rfl, State.gbb_touch .., State.keeps_touch ..⟩

end

/-! ### Cancels (R216) -/

theorem State.gbb_memWrite (s : State) (req a : Nat) (bs : List Byte) : (s.memWrite req a bs).2.gbb = s.gbb := by
  obtain ⟨m, g, he, -⟩ := s.memWrite_eq req a bs
  rw [he]

theorem State.sent_memWrite (s : State) (req a : Nat) (bs : List Byte) : (s.memWrite req a bs).2.sent = s.sent := by
  obtain ⟨m, g, he, -⟩ := s.memWrite_eq req a bs
  rw [he]

/-- The end of a cancelled command leaves the searchers alone. -/
theorem State.gbb_cancelled (s : State) (k addr : Nat) (b : List Byte) (capture : Option Nat) :
    (s.cancelled k addr b capture).gbb = s.gbb := by
  unfold State.cancelled
  extract_lets r s₁ rec' s₂
  have h₁ : s₁.gbb = s.gbb := by
    unfold s₁ r
    split <;> rfl
  have h₂ : s₂.gbb = s.gbb := by
    unfold s₂
    split
    · exact (s₁.gbb_memWrite ..).trans h₁
    · exact h₁
  exact h₂

/-- Where no searcher has a command a cancel finds none. -/
theorem State.searchCancel_notFound {s : State} {tk : Token} (hg : gbbTokenBad tk = false) (h : s.gbb.srch = []) :
    s.searchCancel tk = (cNOT_FOUND, s) := by
  have hf (k : Nat) : s.sr k = Searcher.fresh := by
    rw [State.sr, h]
    rfl
  simp [State.searchCancel, hg, hf, Searcher.fresh]

/-- A cancel withdraws searcher 0's only queued command. -/
theorem State.searchCancel_queued {s : State} {tk : Token} {c : SrchCmd} (hg : gbbTokenBad tk = false)
    (hq : (s.sr 0).queue = [c]) (hc : c.chan = none) (ha : c.addr = tk.data) : s.searchCancel tk =
      (cOK, (s.setSr 0 { s.sr 0 with queue := [] }).cancelled 0 tk.data
        ((s.setSr 0 { s.sr 0 with queue := [] }).rdBytes tk.data 64) none) := by
  simp [State.searchCancel, hg, hq, hc, ha]

section
variable {s : State} {tk : Token} (hs : s.serves iGBB = true) (hst : tk.stamp = none) (ht : tk.task = none)
  (hg : gbbTokenBad tk = false) (hi : epIsl tk.dest = iGBB)
include hs hst ht hg hi

theorem searchCancel_none (h : s.gbb.srch = []) :
    ∃ t : State, exec (.searchCancel tk) s = .next t ∧ t.answer = cNOT_FOUND ∧ t.gbb = s.gbb ∧
      s.keeps t [ISL_PSTATE_STATE iGBB] := by
  rw [exec_searchCancel hs hi hst ht, State.searchCancel_notFound (s := s.taken tk) hg h]
  exact ⟨_, rfl, rfl, State.gbb_touch .., State.keeps_touch ..⟩

theorem searchCancel_withdraws {c : SrchCmd} (hq : (s.sr 0).queue = [c]) (hc : c.chan = none) (ha : c.addr = tk.data) :
    ∃ t : State, exec (.searchCancel tk) s = .next t ∧ t.answer = cOK ∧ (t.sr 0).queue = [] ∧ t.sr 1 = s.sr 1 := by
  rw [exec_searchCancel hs hi hst ht, State.searchCancel_queued (s := s.taken tk) hg hq hc ha]
  have h0 : ((s.taken tk).setSr 0 { (s.taken tk).sr 0 with queue := [] }).sr 0 = { (s.taken tk).sr 0 with queue := [] } :=
    State.sr_setSr_same ..
  have h1 : ((s.taken tk).setSr 0 { (s.taken tk).sr 0 with queue := [] }).sr 1 = s.sr 1 :=
    State.sr_setSr_ne _ (by decide) _
  generalize (s.taken tk).setSr 0 { (s.taken tk).sr 0 with queue := [] } = z at *
  have hz (k : Nat) : ((z.cancelled 0 tk.data (z.rdBytes tk.data 64) none).touch iGBB).sr k = z.sr k :=
    (State.sr_touch ..).trans (State.sr_congr (z.gbb_cancelled ..) k)
  generalize z.cancelled 0 tk.data (z.rdBytes tk.data 64) none = y at *
  exact ⟨_, rfl, rfl, congrArg Searcher.queue ((hz 0).trans h0), (hz 1).trans h1⟩

end

/-- The completion notice carries its status, how many were found and the block's address (R214). -/
theorem State.sent_searchNotice (s : State) (addr : Nat) (b : List Byte) (status found : Nat) :
    ∃ n : Token, (s.searchNotice addr b status found).sent = s.sent ++ [n] ∧
      n.data = status * 2 ^ 56 + found * 2 ^ 48 + addr := ⟨_, rfl, rfl⟩

/-! ### Captures (R210, R211) -/

section
variable {s : State} {k : Nat} {c : SrchCmd} (ha : (s.sr k).active = none) (hn : nextCmd (s.sr k).queue = some c)
  (hc : c.chan = none)
include ha hn hc

/-- A free searcher takes the next command and captures for it from its START_TIME on. -/
theorem searchCaptureStart_captures (hk : s.searchCheck (s.rdBytes c.addr 64) = cOK) :
    ∃ t : State, ∃ a : SrchAct, exec (.searchCaptureStart k) s = .next t ∧ (t.sr k).queue = (s.sr k).queue.erase c ∧
      (t.sr k).active = some a ∧ a.cmd = c ∧ a.blk = s.rdBytes c.addr 64 ∧ t.mem = s.mem := by
  have he : s.captureStart k = s.setSr k ⟨(s.sr k).queue.erase c, some ⟨c, s.rdBytes c.addr 64,
      if blk (s.rdBytes c.addr 64) 32 8 = 0 then s.now else blk (s.rdBytes c.addr 64) 32 8⟩⟩ := by
    simp only [State.captureStart, ha, hn, hc, hk, if_true]
  have hsr := s.sr_setSr_same k ⟨(s.sr k).queue.erase c, some ⟨c, s.rdBytes c.addr 64,
    if blk (s.rdBytes c.addr 64) 32 8 = 0 then s.now else blk (s.rdBytes c.addr 64) 32 8⟩⟩
  exact ⟨_, ⟨c, s.rdBytes c.addr 64, _⟩, congrArg Host.Outcome.next he, congrArg Searcher.queue hsr,
    congrArg Searcher.active hsr, rfl, rfl, rfl⟩

/-- A command that fails its check ends with its notice alone. -/
theorem searchCaptureStart_refuses (hk : s.searchCheck (s.rdBytes c.addr 64) ≠ cOK) :
    ∃ t : State, ∃ n : Token, exec (.searchCaptureStart k) s = .next t ∧ (t.sr k).queue = (s.sr k).queue.erase c ∧
      (t.sr k).active = none ∧ t.mem = s.mem ∧ t.sent = s.sent ++ [n] ∧
      n.data = s.searchCheck (s.rdBytes c.addr 64) * 2 ^ 56 + c.addr := by
  have he : s.captureStart k = ((s.setSr k ⟨(s.sr k).queue.erase c, none⟩).inc (GBB_SRCH_s_STAT_DONE k)).searchNotice c.addr
      (s.rdBytes c.addr 64) (s.searchCheck (s.rdBytes c.addr 64)) 0 := by
    simp only [State.captureStart, ha, hn, hc, if_neg hk]
  have hsr : ((s.setSr k ⟨(s.sr k).queue.erase c, none⟩).inc (GBB_SRCH_s_STAT_DONE k)).sr k =
      ⟨(s.sr k).queue.erase c, none⟩ := s.sr_setSr_same k _
  obtain ⟨n, hn', hd⟩ := ((s.setSr k ⟨(s.sr k).queue.erase c, none⟩).inc (GBB_SRCH_s_STAT_DONE k)).sent_searchNotice c.addr
    (s.rdBytes c.addr 64) (s.searchCheck (s.rdBytes c.addr 64)) 0
  rw [Nat.zero_mul, Nat.add_zero] at hd
  exact ⟨_, n, congrArg Host.Outcome.next he, congrArg Searcher.queue hsr, congrArg Searcher.active hsr, rfl, hn', hd⟩

end

/-! ### The end of a search (R214, R215) -/

/-- From s to t what the searchers have in service is as it was, and tokens may have left. -/
structure State.searchesOn (s t : State) : Prop where
  active : ∀ k, (t.sr k).active = (s.sr k).active
  sent : ∃ l, t.sent = s.sent ++ l

theorem State.searchesOn.refl (s : State) : s.searchesOn s := ⟨fun _ => rfl, [], by simp⟩

theorem State.searchesOn.trans {s t u : State} (h : s.searchesOn t) (k : t.searchesOn u) : s.searchesOn u := by
  obtain ⟨l, hl⟩ := h.sent
  obtain ⟨m, hm⟩ := k.sent
  exact ⟨fun j => (k.active j).trans (h.active j), l ++ m, by rw [hm, hl, List.append_assoc]⟩

theorem State.moves.searchesOn {s t : State} {c : Nat} (h : s.moves t c) : s.searchesOn t := ⟨h.active, h.sent⟩

/-- A hand-over writes channel c's settings, and starts the channel where they pass START's checks. -/
theorem State.moves_handOver (s : State) (c sid sig num : Nat) (m : SearchIn) (capture : Nat) :
    s.moves (s.handOver c sid sig num m capture).2 c := by
  unfold State.handOver
  extract_lets s₁ s₂ s₃ r
  have h₁ : s.moves s₁ c := (((State.moves.refl s c).setF _ _).setF _ _).setF _ _
  have h₂ : s.moves s₂ c := ((h₁.setF _ _).setF _ _).setF _ _
  have h₃ : s.moves s₃ c := h₂.setF _ _
  split
  · exact h₃.trans (s₃.moves_startGo c)
  · exact h₃

theorem State.searchesOn_resultRun (b : List Byte) (capture : Nat) (nums : List Nat) (ms : List SearchIn) (used : List Nat)
    (s : State) : s.searchesOn (s.resultRun b capture nums ms used).2.2 := by
  induction nums generalizing ms used s with
  | nil => exact .refl s
  | cons num nums ih =>
    unfold State.resultRun
    extract_lets none' m cells len m' found pool r
    clear_value pool
    split
    · exact ih ..
    · next c =>
      extract_lets h s₁ r'
      have hh : s.searchesOn h.2 := (s.moves_handOver ..).searchesOn
      have h₁ : s.searchesOn s₁ := by
        unfold s₁
        split
        · exact hh.trans ((State.stays_chEvent ..).trans (State.stays_chFlush ..)).moved.searchesOn
        · exact hh
      exact h₁.trans (ih ..)

theorem searchDone_none {s : State} {k : Nat} (h : (s.sr k).active = none) (ms : List SearchIn) :
    exec (.searchDone k ms) s = .next s := by
  refine congrArg Host.Outcome.next ?_
  simp only [State.searchDone, h]

theorem searchDone_frees {s : State} {k : Nat} {a : SrchAct} (h : (s.sr k).active = some a) (hc : a.cmd.chan = none)
    (ms : List SearchIn) : ∃ t : State, ∃ (l : List Token) (n : Token), exec (.searchDone k ms) s = .next t ∧
      (t.sr k).active = none ∧ t.sent = s.sent ++ l ++ [n] ∧ n.data % 2 ^ 48 = a.cmd.addr % 2 ^ 48 := by
  have hz : (((s.setSr k { s.sr k with active := none }).inc (GBB_SRCH_s_STAT_DONE k)).sr k).active = none :=
    congrArg Searcher.active (s.sr_setSr_same k _)
  have hzs : ((s.setSr k { s.sr k with active := none }).inc (GBB_SRCH_s_STAT_DONE k)).sent = s.sent := rfl
  have he : exec (.searchDone k ms) s = .next (s.searchDone k ms) := rfl
  simp only [State.searchDone, h, hc] at he
  rw [he]
  generalize (s.setSr k { s.sr k with active := none }).inc (GBB_SRCH_s_STAT_DONE k) = z at *
  have hr := State.searchesOn_resultRun a.blk a.capture (blkNumbers a.blk) ms [] z
  generalize z.resultRun a.blk a.capture (blkNumbers a.blk) ms [] = r at *
  generalize resultHead cOK k _ _ _ _ ++ r.1 = rec'
  obtain ⟨l, hl⟩ := hr.sent
  have hg := r.2.2.gbb_memWrite (ep iGBB 0) (blk a.blk 40 8) rec'
  have hs := r.2.2.sent_memWrite (ep iGBB 0) (blk a.blk 40 8) rec'
  generalize (r.2.2.memWrite (ep iGBB 0) (blk a.blk 40 8) rec').2 = y at *
  obtain ⟨n, hn, hd⟩ := y.sent_searchNotice a.cmd.addr a.blk cOK r.2.1
  refine ⟨_, l, n, rfl, ?_, by rw [hn, hs, hl, hzs], ?_⟩
  · exact (congrArg Searcher.active (State.sr_congr hg k)).trans ((hr.active k).trans hz)
  · rw [hd, cOK]
    omega

/-! ### Vector updates (R203 to R205) -/

theorem State.rd_taken (s : State) (tk : Token) (a n : Nat) : (s.taken tk).rd a n = s.rd a n :=
  congrArg leValue (State.rdBytes_congr _ _ a n rfl)

/-- A saturating count of 32 bits stays one. -/
theorem satInc_lt (n : Nat) : satInc 32 n < 2 ^ 32 := (Nat.min_le_right _ _).trans_lt (by decide)

/-- A token without tag bits but PRIO, for an aligned block in memory, passes the rules of R203. -/
theorem vecToken_ok {tk : Token} (htag : tk.tag % 2 ^ 23 = 0) (hres : bits tk.tag 31 26 = 0) (hal : tk.data % 32 = 0)
    (hblk : blockIn tk.data 32 false = true) : ¬(tk.tag % 2 ^ 23 ≠ 0 ∨ bits tk.tag 31 26 ≠ 0 ∨ tk.data % 32 ≠ 0 ∨
      blockIn tk.data 32 false = false) := by
  rw [htag, hres, hal, hblk]
  decide

section
variable {s : State} {tk : Token} (htag : tk.tag % 2 ^ 23 = 0) (hres : bits tk.tag 31 26 = 0) (hal : tk.data % 32 = 0)
  (hblk : blockIn tk.data 32 false = true) (hroom : s.gbb.vecs.length < 4)
  (hlen : 32 + 16 * s.rd (tk.data + 4) 2 ≤ s.rd (tk.data + 16) 4)
include htag hres hal hblk hroom hlen

/-- A record without a SEQ is refused, counted and told. -/
theorem State.vecServe_noSeq (hseq : s.rd tk.data 4 = 0) :
    s.vecServe tk = (cOK, (s.inc GBB_STAT_VEC_REFUSED_COUNT).vecNotice (s.rd tk.data 4) 0 0 cRANGE) := by
  unfold State.vecServe
  rw [if_neg (vecToken_ok htag hres hal hblk), if_neg (not_le.2 hroom)]
  exact (if_neg (not_lt.2 hlen)).trans (if_pos (.inr (.inr (.inr (.inl hseq)))))

/-- The first update, without entries and for a time to come, waits for that time. -/
theorem State.vecServe_waits (hseq : s.rd tk.data 4 ≠ 0) (hcount : s.rd (tk.data + 4) 2 = 0)
    (h6 : s.rd (tk.data + 6) 2 = 0) (h20 : s.rd (tk.data + 20) 8 = 0) (h28 : s.rd (tk.data + 28) 4 = 0)
    (hlast : s.gbb.lastApply = none) (hnow : s.now < s.rd (tk.data + 8) 8) :
    s.vecServe tk = (cOK, { s with gbb := { s.gbb with
      vecs := s.gbb.vecs ++ [⟨s.rd tk.data 4, s.rd (tk.data + 8) 8, []⟩], lastApply := some (s.rd (tk.data + 8) 8) } }) := by
  have hes : s.vecEntries tk.data 0 = [] := rfl
  have h0 : s.rd (tk.data + 8) 8 ≠ 0 := by omega
  unfold State.vecServe
  rw [if_neg (vecToken_ok htag hres hal hblk), if_neg (not_le.2 hroom)]
  refine (if_neg (not_lt.2 hlen)).trans ?_
  simp only [hcount, hes, hlast]
  rw [if_neg (by simp [hseq, h6, h20, h28, hasTwice]), if_neg (by omega), if_pos h0]
  rfl

end

section
variable {s : State} {tk : Token} (hs : s.serves iGBB = true) (hi : epIsl tk.dest = iGBB) (hst : tk.stamp = none)
  (ht : tk.task = none) (htag : tk.tag % 2 ^ 23 = 0) (hres : bits tk.tag 31 26 = 0) (hal : tk.data % 32 = 0)
  (hblk : blockIn tk.data 32 false = true) (hroom : s.gbb.vecs.length < 4)
  (hlen : 32 + 16 * s.rd (tk.data + 4) 2 ≤ s.rd (tk.data + 16) 4)
include hs hi hst ht htag hres hal hblk hroom hlen

theorem vectorUpdate_noSeq (hseq : s.rd tk.data 4 = 0) :
    ∃ t : State, exec (.vectorUpdate tk) s = .next t ∧ t.answer = cOK ∧ t.gbb = s.gbb ∧ t.mem = s.mem ∧
      t.f GBB_STAT_VEC_REFUSED_COUNT = satInc 32 (s.f GBB_STAT_VEC_REFUSED_COUNT) := by
  have hf (k : Nat) : (((s.taken tk).inc GBB_STAT_VEC_REFUSED_COUNT).vecNotice k 0 0 cRANGE).f GBB_STAT_VEC_REFUSED_COUNT =
      satInc 32 (s.f GBB_STAT_VEC_REFUSED_COUNT) % 2 ^ 32 := State.f_setF_same ..
  rw [Nat.mod_eq_of_lt (satInc_lt _)] at hf
  have hw := State.vecServe_noSeq (s := s.taken tk) htag hres hal hblk hroom
  simp only [State.rd_taken] at hw
  rw [exec_vectorUpdate hs hi hst ht, hw hlen hseq]
  exact ⟨_, rfl, rfl, State.gbb_touch .., State.mem_touch .., (State.f_touch _ _ (by decide)).trans (hf _)⟩

theorem vectorUpdate_waits (hseq : s.rd tk.data 4 ≠ 0) (hcount : s.rd (tk.data + 4) 2 = 0)
    (h6 : s.rd (tk.data + 6) 2 = 0) (h20 : s.rd (tk.data + 20) 8 = 0) (h28 : s.rd (tk.data + 28) 4 = 0)
    (hlast : s.gbb.lastApply = none) (hnow : s.now < s.rd (tk.data + 8) 8) :
    ∃ t : State, exec (.vectorUpdate tk) s = .next t ∧ t.answer = cOK ∧ t.mem = s.mem ∧
      t.gbb.vecs = s.gbb.vecs ++ [⟨s.rd tk.data 4, s.rd (tk.data + 8) 8, []⟩] := by
  have hw := State.vecServe_waits (s := s.taken tk) htag hres hal hblk hroom
  simp only [State.rd_taken] at hw
  rw [exec_vectorUpdate hs hi hst ht, hw hlen hseq hcount h6 h20 h28 hlast hnow]
  exact ⟨_, rfl, rfl, State.mem_touch .., congrArg GbbSt.vecs (State.gbb_touch ..)⟩

end

/-- An entry takes effect in its channel and leaves memory, the updates that wait and what has been sent. -/
structure State.vecKeeps (s t : State) : Prop where
  mem : t.mem = s.mem
  vecs : t.gbb.vecs = s.gbb.vecs
  sent : t.sent = s.sent

theorem State.vecKeeps_vecEntry (s : State) (seq : Nat) (e : VecEnt) : s.vecKeeps (s.vecEntry seq e) := by
  unfold State.vecEntry
  split
  · exact ⟨rfl, rfl, rfl⟩
  · extract_lets x y
    clear_value y
    exact ⟨rfl, rfl, rfl⟩

/-- The oldest update has left the list, and its entries have taken effect in the channels that are in VECTOR. -/
def State.vecApplied (s : State) (u : VecUpd) (rest : List VecUpd) : State :=
  (u.entries.filter fun e => s.chSt e.chan == 5).foldl (fun s e => s.vecEntry u.seq e)
    { s with gbb := { s.gbb with vecs := rest } }

theorem State.vecApplied_spec (s : State) (u : VecUpd) (rest : List VecUpd) : (s.vecApplied u rest).mem = s.mem ∧
    (s.vecApplied u rest).gbb.vecs = rest ∧ (s.vecApplied u rest).sent = s.sent := by
  have h : ({ s with gbb := { s.gbb with vecs := rest } } : State).vecKeeps (s.vecApplied u rest) :=
    List.foldlRecOn (motive := fun t => ({ s with gbb := { s.gbb with vecs := rest } } : State).vecKeeps t) _ _
      ⟨rfl, rfl, rfl⟩ fun t ht e _ => by
        have hk := t.vecKeeps_vecEntry u.seq e
        exact ⟨hk.mem.trans ht.mem, hk.vecs.trans ht.vecs, hk.sent.trans ht.sent⟩
  exact ⟨h.mem, h.vecs, h.sent⟩

section
variable {s : State} {u : VecUpd} {rest : List VecUpd} (hv : s.gbb.vecs = u :: rest)
include hv

theorem exec_vectorApply : exec .vectorApply s = .next (if s.now < u.apply then s else
    (s.vecApplied u rest).vecNotice u.seq (u.entries.filter fun e => s.chSt e.chan == 5).length
      (u.entries.length - (u.entries.filter fun e => s.chSt e.chan == 5).length) cOK) := by
  simp only [exec, execVectorApply, hv]
  rfl

theorem vectorApply_none (hn : s.now < u.apply) : exec .vectorApply s = .next s :=
  (exec_vectorApply hv).trans (congrArg _ (if_pos hn))

/-- The notice of an update carries its number above its counts of entries. -/
theorem vectorApply_notifies (hn : u.apply ≤ s.now) (hl : u.entries.length ≤ 512) :
    ∃ t : State, ∃ n : Token, exec .vectorApply s = .next t ∧ t.gbb.vecs = rest ∧ t.mem = s.mem ∧
      t.sent = s.sent ++ [n] ∧ n.data / 2 ^ 32 = u.seq := by
  obtain ⟨hm, hr, hs⟩ := s.vecApplied_spec u rest
  have hgo := List.length_filter_le (fun e => s.chSt e.chan == 5) u.entries
  rw [exec_vectorApply hv, if_neg (not_lt.2 hn)]
  generalize (u.entries.filter fun e => s.chSt e.chan == 5).length = n at *
  generalize s.vecApplied u rest = z at *
  refine ⟨_, _, rfl, hr, hm, by rw [← hs]; rfl, ?_⟩
  simp only [cOK]
  omega

end

/-- An entry with a Doppler sets it, with the update's number and its time, in its channel alone. -/
theorem State.vecEntry_spec {s : State} {e : VecEnt} {g : Sig} (hg : s.chSig e.chan = some g) (hb : bit e.flags 0 = true)
    (seq : Nat) : ((s.vecEntry seq e).ch e.chan).dopp = dRat (signed 32 e.dopp) 1000 ∧
      ((s.vecEntry seq e).ch e.chan).vecSeq = seq ∧ ((s.vecEntry seq e).ch e.chan).lastVec = s.tim.edges ∧
      ∀ d, d ≠ e.chan → (s.vecEntry seq e).ch d = s.ch d := by
  unfold State.vecEntry
  simp only [hg, hb, if_true]
  generalize hx : Chan.advance _ _ _ = x
  have hc (y : Chan) (d : Nat) : ((s.setCh e.chan y).chNco e.chan).ch d = (s.setCh e.chan y).ch d :=
    State.ch_congr rfl d
  simp only [hc, State.ch_setCh_same, true_and]
  exact fun d hd => s.ch_setCh_ne hd _

theorem vectorApply_steers {s : State} {u : VecUpd} {rest : List VecUpd} (hv : s.gbb.vecs = u :: rest) {en : VecEnt} {g : Sig}
    (hn : u.apply ≤ s.now) (he : u.entries = [en]) (hst : s.chSt en.chan = 5) (hg : s.chSig en.chan = some g)
    (hb : bit en.flags 0 = true) :
    ∃ t : State, exec .vectorApply s = .next t ∧ (t.ch en.chan).dopp = dRat (signed 32 en.dopp) 1000 ∧
      (t.ch en.chan).vecSeq = u.seq ∧ (t.ch en.chan).lastVec = s.tim.edges ∧ ∀ d : Nat, d ≠ en.chan → t.ch d = s.ch d := by
  have hgo : u.entries.filter (fun e => s.chSt e.chan == 5) = [en] := by simp [he, hst]
  have ha : s.vecApplied u rest = State.vecEntry { s with gbb := { s.gbb with vecs := rest } } u.seq en := by
    rw [State.vecApplied, hgo]
    rfl
  obtain ⟨hd, hq, hl, hc⟩ := State.vecEntry_spec (s := { s with gbb := { s.gbb with vecs := rest } }) hg hb u.seq
  rw [exec_vectorApply hv, if_neg (not_lt.2 hn), ha]
  exact ⟨_, rfl, hd, hq, hl, hc⟩

/-- Settles O32. That the end of no search, and an update whose time has not come, do nothing is log entry 60. -/
theorem searchers : Obligations.Searchers := by
  intro s
  refine ⟨fun tk hs hst ht hg => ⟨searchCommand_joins hs hst ht hg, searchCommand_busy hs hst ht hg,
      searchCancel_none hs hst ht hg, fun c hi => searchCancel_withdraws hs hst ht hg hi⟩,
    fun k c _ ha hn hc => ⟨searchCaptureStart_captures ha hn hc, searchCaptureStart_refuses ha hn hc⟩,
    fun k a ms _ ha hc => searchDone_frees ha hc ms, fun k ms ha => searchDone_none ha ms,
    fun tk hs hi hst ht htag hres hal hblk hroom hlen =>
      ⟨vectorUpdate_noSeq hs hi hst ht htag hres hal hblk hroom hlen,
        vectorUpdate_waits hs hi hst ht htag hres hal hblk hroom hlen⟩,
    fun u rest hv => ⟨vectorApply_none hv, vectorApply_notifies hv,
      fun en g hn he _ hst hg hb => vectorApply_steers hv hn he hst hg hb⟩⟩

end Sys2Proof.Machine
end

section
/-! PROOFS. Snaps and navigation units (R222, R233, R234, R237, R245, R249, R253): the bank that a Snap fills, the end of the
fill, a hold, the entries of a navigation ring, and a broadcast offset that expires. -/

namespace Sys2Proof.Machine

open Sys2Proof

/-! ### Stores of a string of bytes -/

@[simp] theorem State.gob_wrBytes (s : State) (a : Nat) (bs : List Byte) : (s.wrBytes a bs).gob = s.gob := by
  rw [State.wrBytes_eq]

@[simp] theorem State.gbb_wrBytes (s : State) (a : Nat) (bs : List Byte) : (s.wrBytes a bs).gbb = s.gbb := by
  rw [State.wrBytes_eq]

@[simp] theorem State.tim_wrBytes (s : State) (a : Nat) (bs : List Byte) : (s.wrBytes a bs).tim = s.tim := by
  rw [State.wrBytes_eq]

/-- The first bytes of a string read back as they were stored. -/
theorem State.rd_wrBytes_take (s : State) (a : Nat) {n : Nat} {bs : List Byte} (h : n ≤ bs.length) :
    (s.wrBytes a bs).rd a n = leValue (bs.take n) := by
  rw [State.rd, ← State.take_rdBytes _ h, State.rdBytes_wrBytes]

/-- A number outside the string reads as before. -/
theorem State.rd_wrBytes_out (s : State) {a c n : Nat} {bs : List Byte} (h : c + n ≤ a ∨ a + bs.length ≤ c) :
    (s.wrBytes a bs).rd c n = s.rd c n := by
  refine congrArg leValue ?_
  induction n generalizing c with
  | zero => rfl
  | succ n ih => rw [State.rdBytes, State.rdBytes, ih (by omega), State.rdB_wrBytes_out _ _ _ _ (by omega)]

/-! ### What is due at an edge (R222) -/

/-- Without a periodic target an edge is that of the triggers which are due. -/
theorem exec_snapEdge {s : State} (h : s.gob.target = none) : exec .snapEdge s =
    .next (if s.contributes iGOB = false then s
      else if s.snapDue.triggers = 0 then s else s.snapTake s.snapDue) := by
  have hp : s.snapPeriodic = s := by rw [State.snapPeriodic, h]
  have he : exec .snapEdge s = execSnapEdge s := rfl
  rw [he, execSnapEdge, hp]

/-- A trigger that is due is among those of the edge. -/
theorem State.due_le_triggers (s : State) : s.gob.due ≤ s.snapDue.triggers :=
  ((Nat.left_le_or.trans Nat.left_le_or).trans Nat.left_le_or).trans Nat.left_le_or

theorem State.triggers_eq_zero {s : State} (hd : s.gob.due = 0) (hs : s.gob.soft = none) (hf : s.gob.floating = none)
    (hk : s.gob.stack = []) : s.snapDue.triggers = 0 := by
  simp [State.snapDue, hd, hs, hf, hk]

theorem snapEdge_none {s : State} (hd : s.gob.due = 0) (ht : s.gob.target = none) (hs : s.gob.soft = none)
    (hf : s.gob.floating = none) (hk : s.gob.stack = []) : exec .snapEdge s = .next s := by
  rw [exec_snapEdge ht, if_pos (State.triggers_eq_zero hd hs hf hk), ite_self]

/-! ### The bytes of a Snap (R239) -/

theorem State.length_isbEntry (s : State) (y : Nat) : (s.isbEntry y).length = 16 := by
  simp only [State.isbEntry, List.length_append, leBytes_length]

theorem State.length_snapHeader (s : State) (num bank valid : Nat) (d : SnapDue) :
    (s.snapHeader num bank valid d).length = 256 := by
  unfold State.snapHeader
  extract_lets flags cap own week
  simp only [List.length_append, leBytes_length, List.length_flatMap, State.length_isbEntry]
  rfl

theorem length_padTo (n : Nat) (b : List Byte) : (padTo n b).length = n := by
  simp [padTo]

/-- The region of an island has its size, whether or not the island contributes. -/
theorem length_region (p : Bool) (n : Nat) (b : List Byte) :
    (if p then padTo n b else List.replicate n 0#8).length = n := by
  split
  · exact length_padTo n b
  · exact List.length_replicate ..

/-! ### The bank of a Snap (R233, R237) -/

/-- The bank at a is cleared, and a header, the regions of the islands and the last word are stored in it. -/
def State.bankWritten (s : State) (a : Nat) (head body last : List Byte) : State :=
  ((State.wrBytes { s with mem := s.mem.filter fun e => decide (e.1 < a) || decide (a + 0xB000 ≤ e.1) } a head).wrBytes
    (a + 0x1000) body).wrBytes (a + 0xAFFC) last

theorem State.bankWritten_gob (s : State) (a : Nat) (head body last : List Byte) :
    (s.bankWritten a head body last).gob = s.gob := by
  simp only [State.bankWritten, State.gob_wrBytes]

theorem State.bankWritten_tim (s : State) (a : Nat) (head body last : List Byte) :
    (s.bankWritten a head body last).tim = s.tim := by
  simp only [State.bankWritten, State.tim_wrBytes]

/-- Nothing outside the bank is cleared or written. -/
theorem State.rdB_bankWritten (s : State) {a k : Nat} {head body last : List Byte} (hh : head.length ≤ 0xB000)
    (hb : body.length ≤ 0xA000) (hl : last.length ≤ 4) (hk : k < a ∨ a + 0xB000 ≤ k) :
    (s.bankWritten a head body last).rdB k = s.rdB k := by
  have hp : (decide (k < a) || decide (a + 0xB000 ≤ k)) = true := by simpa using hk
  rw [State.bankWritten, State.rdB_wrBytes_out _ _ _ _ (by omega), State.rdB_wrBytes_out _ _ _ _ (by omega),
    State.rdB_wrBytes_out _ _ _ _ (by omega)]
  exact (Tab.get_filter memDefault (fun k => decide (k < a) || decide (a + 0xB000 ≤ k)) s.mem k).trans (if_pos hp)

theorem State.snapBank_lt {s : State} (h : s.f GOB_LAST_BANK_BANK < 2) : s.snapBank < 2 := by
  unfold State.snapBank
  extract_lets hold last
  split_ifs <;> omega

/-- Once the requests of a Snap are taken nothing is due, and its edge is the last one. -/
theorem State.snapTaken_spec (s : State) (d : SnapDue) : (s.snapTaken d).mem = s.mem ∧ (s.snapTaken d).gob.due = 0 ∧
    (s.snapTaken d).gob.lastEdge = some s.tim.edges := by
  unfold State.snapTaken
  extract_lets softDone s₁
  have h₁ : s₁.mem = s.mem ∧ s₁.tim = s.tim := by
    unfold s₁
    split_ifs <;> exact ⟨rfl, rfl⟩
  obtain ⟨hm, ht⟩ := h₁
  exact ⟨hm, rfl, congrArg some (congrArg TimSt.edges ht)⟩

/-- The state after a Snap in bank b with the number num. -/
def State.snapped (s : State) (d : SnapDue) (b num info : Nat) (head body last : List Byte) : State :=
  ((s.bankWritten (aBank b) head body last).chanClear.snapTaken d).setGob fun g =>
    { g with num := num, fill := some ⟨b, num, info⟩ }

theorem State.snapTake_eq {s : State} (hf : s.gob.fill = none) (d : SnapDue) :
    ∃ (info : Nat) (head body last : List Byte), head.length = 0x100 ∧ body.length = 0x9500 ∧ last.length = 4 ∧
      s.snapTake d = s.snapped d s.snapBank (wrapInc 32 s.gob.num) info head body last := by
  have h : s.fillDone = s := by rw [State.fillDone, hf]
  unfold State.snapTake
  rw [h]
  extract_lets s₀ bank num chans valid region head body a old
  have hh : head.length = 0x100 := State.length_snapHeader ..
  have hb : body.length = 0x9500 := by
    simp only [body, region, List.length_append, length_padTo, length_region]
  have hl : old.length = 4 := State.length_rdBytes ..
  clear_value head body old
  exact ⟨_, head, body, old, hh, hb, hl, rfl⟩

theorem snapEdge_takes {s : State} (hc : s.contributes iGOB = true) (hd : s.gob.due ≠ 0) (ht : s.gob.target = none)
    (hf : s.gob.fill = none) (hl : s.f GOB_LAST_BANK_BANK < 2) :
    ∃ t : State, ∃ b info : Nat, exec .snapEdge s = .next t ∧ b < 2 ∧ t.gob.num = wrapInc 32 s.gob.num ∧
      t.gob.fill = some ⟨b, wrapInc 32 s.gob.num, info⟩ ∧ t.gob.due = 0 ∧ t.gob.lastEdge = some s.tim.edges ∧
      ∀ a : Nat, (a < 0x0301000000 + b * 0x100000 ∨ 0x0301000000 + b * 0x100000 + 0xB000 ≤ a) → t.rdB a = s.rdB a := by
  have hg : s.snapDue.triggers ≠ 0 := ((Nat.pos_of_ne_zero hd).trans_le s.due_le_triggers).ne'
  obtain ⟨info, head, body, last, hhead, hbody, hlast, he⟩ := State.snapTake_eq hf s.snapDue
  obtain ⟨hm, hdue, hedge⟩ := State.snapTaken_spec (s.bankWritten (aBank s.snapBank) head body last).chanClear s.snapDue
  have htim := s.bankWritten_tim (aBank s.snapBank) head body last
  refine ⟨s.snapped s.snapDue s.snapBank (wrapInc 32 s.gob.num) info head body last, s.snapBank, info, ?_,
    State.snapBank_lt hl, rfl, rfl, hdue, hedge.trans (congrArg some (congrArg TimSt.edges htim)), fun a ha => ?_⟩
  · rw [exec_snapEdge ht, if_neg (by simp [hc]), if_neg hg, he]
  · exact (State.rdB_congr _ _ _ hm).trans (s.rdB_bankWritten (by omega) (by omega) (by omega) ha)

/-! ### The end of the fill (R234, R237) -/

theorem exec_snapFillDone (s : State) : exec .snapFillDone s = .next s.fillDone := rfl

/-- The registers show f as the last Snap, and no fill is under way. -/
def State.lastSnap (s : State) (f : Fill) : State :=
  (((s.setF GOB_LAST_SNAP_NUM f.num).setF GOB_LAST_BANK_BANK f.bank).inc GOB_STAT_SNAPS_COUNT).setGob fun g =>
    { g with fill := none }

theorem State.lastSnap_fields (s : State) {f : Fill} (hb : f.bank < 2) (hn : f.num < 2 ^ 32) :
    (s.lastSnap f).f GOB_LAST_SNAP_NUM = f.num ∧ (s.lastSnap f).f GOB_LAST_BANK_BANK = f.bank := by
  constructor
  · refine (State.f_setF_ne _ _ _ _ (by decide)).trans ((State.f_setF_ne _ _ _ _ (by decide)).trans ?_)
    exact (State.f_setF_same ..).trans (Nat.mod_eq_of_lt hn)
  · exact (State.f_setF_ne _ _ _ _ (by decide)).trans ((State.f_setF_same ..).trans (Nat.mod_eq_of_lt hb))

/-- The number of f stands at the end of its bank, and the bank's state is complete. -/
def State.bankFilled (s : State) (f : Fill) : State := (s.wr (aBank f.bank + 0xAFFC) 4 f.num).wr (aBank f.bank + 4) 1 2

theorem State.bankFilled_frame (s : State) (f : Fill) : (s.bankFilled f).gob = s.gob ∧ (s.bankFilled f).eng = s.eng := by
  simp only [State.bankFilled, State.wr, State.gob_wrBytes, State.eng_wrBytes, and_self]

theorem State.rd_bankFilled (s : State) (f : Fill) : (s.bankFilled f).rd (aBank f.bank + 0xAFFC) 4 = f.num % 2 ^ 32 ∧
    (s.bankFilled f).rd (aBank f.bank + 4) 1 = 2 :=
  ⟨(State.rd_wrBytes_out _ (.inr (by rw [leBytes_length]; omega))).trans (State.rd_wr ..), State.rd_wr ..⟩

/-- Nothing outside the bank is written. -/
theorem State.rdB_bankFilled (s : State) {f : Fill} {k : Nat} (hk : k < aBank f.bank ∨ aBank f.bank + 0xB000 ≤ k) :
    (s.bankFilled f).rdB k = s.rdB k := by
  rw [State.bankFilled, State.wr, State.rdB_wrBytes_out _ _ _ _ (by rw [leBytes_length]; omega), State.wr,
    State.rdB_wrBytes_out _ _ _ _ (by rw [leBytes_length]; omega)]

/-- The end of a fill tells of it with a notice, or with none. -/
theorem State.fillDone_eq {s : State} {f : Fill} (h : s.gob.fill = some f) :
    ∃ l, s.fillDone = { (s.bankFilled f).lastSnap f with sent := ((s.bankFilled f).lastSnap f).sent ++ l } := by
  rw [State.fillDone, h]
  change ∃ l, (if ((s.bankFilled f).lastSnap f).on GOB_SNAP_NOTICE_EN then
    State.notice ((s.bankFilled f).lastSnap f) _ _ _ _ _ else (s.bankFilled f).lastSnap f) = _
  split
  · exact ⟨_, rfl⟩
  · exact ⟨[], by rw [List.append_nil]⟩

theorem snapFillDone_fills {s : State} {f : Fill} (h : s.gob.fill = some f) (hb : f.bank < 2) (hn : f.num < 2 ^ 32) :
    ∃ t : State, exec .snapFillDone s = .next t ∧ t.gob = { s.gob with fill := none } ∧ t.f GOB_LAST_SNAP_NUM = f.num ∧
      t.f GOB_LAST_BANK_BANK = f.bank ∧ t.rd (0x0301000000 + f.bank * 0x100000 + 0xAFFC) 4 = f.num ∧
      t.rd (0x0301000000 + f.bank * 0x100000 + 4) 1 = 2 ∧
      s.eng = t.eng ∧ (∀ a : Nat, (a < 0x0301000000 + f.bank * 0x100000 ∨ 0x0301000000 + f.bank * 0x100000 + 0xB000 ≤ a) →
        t.rdB a = s.rdB a) := by
  obtain ⟨l, he⟩ := State.fillDone_eq h
  obtain ⟨hnum, hstate⟩ := s.rd_bankFilled f
  obtain ⟨hgob, heng⟩ := s.bankFilled_frame f
  have hout {k : Nat} := s.rdB_bankFilled (f := f) (k := k)
  rw [Nat.mod_eq_of_lt hn] at hnum
  rw [exec_snapFillDone, he]
  generalize s.bankFilled f = z at *
  obtain ⟨hN, hB⟩ := z.lastSnap_fields hb hn
  have hrd (a n : Nat) : State.rd { z.lastSnap f with sent := (z.lastSnap f).sent ++ l } a n = z.rd a n :=
    congrArg leValue (State.rdBytes_congr _ _ a n rfl)
  exact ⟨_, rfl, congrArg (fun g : GobSt => { g with fill := none }) hgob, hN, hB, (hrd ..).trans hnum,
    (hrd ..).trans hstate, heng.symm, fun _ => hout⟩

theorem snapFillDone_none {s : State} (h : s.gob.fill = none) : exec .snapFillDone s = .next s := by
  rw [exec_snapFillDone, State.fillDone, h]

/-! ### A hold (R233) -/

theorem exec_bankHold (req v : Nat) (s : State) : exec (.bankHold req v) s = execBankHold req v s := rfl

/-- The map's entry of GOB_HOLD. -/
theorem regAt_GOB_HOLD : regAt 0x0200210048 =
    some (⟨0x48, 4, 1, 1, 1, 1, [⟨0, 2, .rw, [(0, 2)]⟩]⟩, 0x0200210048) := rfl

section
variable {s : State} {v : Nat} (hv : v < 3)
include hv

theorem State.holdWrite_free (hf : s.gob.fill = none) (req : Nat) :
    s.holdWrite req v = (cOK, s.setF GOB_HOLD_BANK v) := by
  have hl : legalWrite ⟨0x48, 4, 1, 1, 1, 1, [⟨0, 2, .rw, [(0, 2)]⟩]⟩ v = true := by
    simp [legalWrite, FieldD.val]
    omega
  have hw : s.regW iGOB req 0x0200210048 v = (cOK, s.setF GOB_HOLD_BANK (v % 4)) := by
    rw [State.regW_taken regAt_GOB_HOLD hl rfl]
    simp [State.writeField, FieldD.at, FieldD.val, GOB_HOLD_BANK]
  rw [Nat.mod_eq_of_lt (by omega)] at hw
  rw [State.holdWrite, hf]
  exact hw

/-- The bank that is being filled cannot be held. -/
theorem State.holdWrite_busy {f : Fill} (hf : s.gob.fill = some f) (hb : v = f.bank + 1) (req : Nat) :
    s.holdWrite req v = s.regRefuse iGOB 0x0200210048 req cBUSY := by
  have hbits : bits v 1 0 = f.bank + 1 := by
    simp only [bits]
    omega
  rw [State.holdWrite, hf]
  simp [hbits]

variable (hs : s.serves iGOB = true)
include hs

theorem bankHold_holds (hf : s.gob.fill = none) (req : Nat) :
    ∃ t : State, exec (.bankHold req v) s = .next t ∧ t.answer = cOK ∧ t.f GOB_HOLD_BANK = v ∧ t.gob = s.gob ∧
      s.keeps t [GOB_HOLD_BANK, ISL_PSTATE_STATE iGOB] := by
  have hk : s.keeps (s.setF GOB_HOLD_BANK v) [GOB_HOLD_BANK, ISL_PSTATE_STATE iGOB] := (s.keeps_refl _).setF (by simp) v
  have hV : (s.setF GOB_HOLD_BANK v).f GOB_HOLD_BANK = v :=
    (State.f_setF_same ..).trans (Nat.mod_eq_of_lt (show v < 2 ^ 2 by omega))
  rw [exec_bankHold, execBankHold, State.regRow_serves hs (by decide), State.holdWrite_free hv hf]
  exact ⟨_, rfl, rfl, (State.f_touch _ _ (by decide)).trans hV, State.gob_touch ..,
    hk.trans ((State.keeps_touch ..).mono (by simp))⟩

theorem bankHold_busy {f : Fill} (hf : s.gob.fill = some f) (hb : v = f.bank + 1) (req : Nat) :
    ∃ t : State, exec (.bankHold req v) s = .next t ∧ t.answer = cBUSY ∧ t.gob = s.gob ∧
      s.keeps t (ISL_PSTATE_STATE iGOB :: refuseRegs iGOB) := by
  have hg : (s.refuse iGOB 0x0200210048 req true cBUSY).gob = s.gob := by
    unfold State.refuse
    split <;> rfl
  rw [exec_bankHold, execBankHold, State.regRow_serves hs (by decide), State.holdWrite_busy hv hf hb]
  exact ⟨_, rfl, rfl, (State.gob_touch ..).trans hg, s.keeps_regRefuse_touch ..⟩

end

/-! ### Navigation units (R245, R249) -/

theorem exec_navUnitDecoded (c : Nat) (u : NavIn) (s : State) :
    exec (.navUnitDecoded c u) s = execNavUnitDecoded c u s := rfl

/-- The 128 bytes of a ring entry for a unit of channel c. -/
def State.navRecord (s : State) (c : Nat) (u : NavIn) (now : Nat) : List Byte :=
  leBytes 4 (Tab.get (fun _ => 0) s.gob.navSeq c) ++ leBytes 1 u.kind ++ leBytes 1 u.verdict ++ leBytes 2 u.bits ++
    leBytes 8 now ++ (u.payload ++ List.replicate 112 0).take 112

theorem State.length_navRecord (s : State) (c : Nat) (u : NavIn) (now : Nat) : (s.navRecord c u now).length = 128 := by
  simp [State.navRecord, leBytes_length]

/-- A ring entry starts with its number. -/
theorem State.take_navRecord (s : State) (c : Nat) (u : NavIn) (now : Nat) :
    (s.navRecord c u now).take 4 = leBytes 4 (Tab.get (fun _ => 0) s.gob.navSeq c) := by
  simp only [State.navRecord, List.append_assoc]
  exact List.take_left' (leBytes_length ..)

/-- An entry goes into the next place of the channel's ring. -/
theorem State.navEntry_spec (s : State) (c : Nat) (u : NavIn) :
    (s.navEntry c u).f (GOB_NAV_PTR_c_WR c) = (s.f (GOB_NAV_PTR_c_WR c) + 1) % 32 ∧ (s.navEntry c u).gbb = s.gbb ∧
      (s.navEntry c u).eng = s.eng ∧
      (s.navEntry c u).rd (0x0301200000 + c * 0x1000 + s.f (GOB_NAV_PTR_c_WR c) * 128) 4 =
        Tab.get (fun _ => 0) s.gob.navSeq c % 2 ^ 32 ∧
      ∀ a : Nat, (a < 0x0301200000 + c * 0x1000 + s.f (GOB_NAV_PTR_c_WR c) * 128 ∨
        0x0301200000 + c * 0x1000 + s.f (GOB_NAV_PTR_c_WR c) * 128 + 128 ≤ a) → (s.navEntry c u).rdB a = s.rdB a := by
  unfold State.navEntry
  extract_lets wr seq s₁ pay s₂ s₃ s₄
  have h₁ : s₁.mem = s.mem ∧ s₁.gbb = s.gbb ∧ s₁.eng = s.eng := by
    unfold s₁
    split <;> exact ⟨rfl, rfl, rfl⟩
  obtain ⟨hm, hg, he⟩ := h₁
  have h₂ : s₂ = s₁.wrBytes (0x0301200000 + c * 0x1000 + wr * 128) (s.navRecord c u s₁.now) := rfl
  have hlen := s.length_navRecord c u s₁.now
  have hrd : s₂.rd (0x0301200000 + c * 0x1000 + wr * 128) 4 = seq % 2 ^ 32 := by
    rw [h₂, State.rd_wrBytes_take _ _ (by omega), State.take_navRecord, leValue_leBytes]
  have hout (a : Nat) (ha : a < 0x0301200000 + c * 0x1000 + wr * 128 ∨ 0x0301200000 + c * 0x1000 + wr * 128 + 128 ≤ a) :
      s₂.rdB a = s.rdB a := by
    rw [h₂, State.rdB_wrBytes_out _ _ _ _ (by omega), State.rdB_congr _ _ _ hm]
  have hgbb : s₂.gbb = s.gbb := by rw [h₂, State.gbb_wrBytes, hg]
  have heng : s₂.eng = s.eng := by rw [h₂, State.eng_wrBytes, he]
  clear_value s₂
  have hf : s₄.f (GOB_NAV_PTR_c_WR c) = (wr + 1) % 32 := (State.f_setF_same s₂ ..).trans (Nat.mod_mod ..)
  have hrd₂ (t : State) (h : t.mem = s₂.mem) := (congrArg leValue (State.rdBytes_congr t s₂ _ 4 h)).trans hrd
  have hout₂ (t : State) (h : t.mem = s₂.mem) a ha := (State.rdB_congr t s₂ a h).trans (hout a ha)
  split <;> exact ⟨hf, hgbb, heng, hrd₂ _ rfl, hout₂ _ rfl⟩

section
variable {s : State} {c : Nat} {u : NavIn} {g : Sig} (hlo : 3 ≤ s.chSt c) (hhi : s.chSt c < 6) (hg : s.chSig c = some g)
  (hp : u.polarity = none) (ht : u.tow = none) (hi : u.isb = none) (hk : u.kind = 0x80)
include hlo hhi hg hp ht hi hk

/-- A raw unit is stored where MODE asks for those, and does nothing else. -/
theorem exec_navUnitDecoded_raw : exec (.navUnitDecoded c u) s =
    .next (if bit (s.f (GOB_NAV_CFG_c_MODE c)) 1 then s.navEntry c u else s) := by
  rw [exec_navUnitDecoded, execNavUnitDecoded, if_neg (by omega), hg]
  simp only [State.navUnit, hp, ht, hi, hk, if_true]

theorem navUnitDecoded_stores (hb : bit (s.f (GOB_NAV_CFG_c_MODE c)) 1 = true) :
    ∃ t : State, exec (.navUnitDecoded c u) s = .next t ∧ t.f (GOB_NAV_PTR_c_WR c) = (s.f (GOB_NAV_PTR_c_WR c) + 1) % 32 ∧
      t.gbb = s.gbb ∧ t.eng = s.eng ∧
      t.rd (0x0301200000 + c * 0x1000 + s.f (GOB_NAV_PTR_c_WR c) * 128) 4 =
        Tab.get (fun _ => 0) s.gob.navSeq c % 2 ^ 32 ∧
      ∀ a : Nat, (a < 0x0301200000 + c * 0x1000 + s.f (GOB_NAV_PTR_c_WR c) * 128 ∨
        0x0301200000 + c * 0x1000 + s.f (GOB_NAV_PTR_c_WR c) * 128 + 128 ≤ a) → t.rdB a = s.rdB a :=
  ⟨_, (exec_navUnitDecoded_raw hlo hhi hg hp ht hi hk).trans (congrArg _ (if_pos hb)), s.navEntry_spec c u⟩

theorem navUnitDecoded_none (hb : bit (s.f (GOB_NAV_CFG_c_MODE c)) 1 = false) :
    exec (.navUnitDecoded c u) s = .next s :=
  (exec_navUnitDecoded_raw hlo hhi hg hp ht hi hk).trans (congrArg _ (if_neg (by simp [hb])))

end

/-! ### Broadcast offsets (R253) -/

/-- The offset of a system expires 7,200 s after the last unit that gave it. -/
theorem exec_bcastExpiry {s : State} {y : Nat} {b : Bcast} (h : Tab.get (fun _ => none) s.gob.bcast y = some b) :
    exec (.bcastExpiry y) s = .next (if b.seen + 720000000000 ≤ s.tim.edges then
      s.setGob fun g => { g with bcast := Tab.set (fun _ => none) g.bcast y none } else s) := by
  have he : exec (.bcastExpiry y) s = execBcastExpiry y s := rfl
  rw [he, execBcastExpiry, h]

theorem bcastExpiry_drops {s : State} {y : Nat} {b : Bcast} (h : Tab.get (fun _ => none) s.gob.bcast y = some b)
    (hn : b.seen + 720000000000 ≤ s.tim.edges) :
    ∃ t : State, exec (.bcastExpiry y) s = .next t ∧ Tab.get (fun _ => none) t.gob.bcast y = none ∧
      (∀ z : Nat, z ≠ y → Tab.get (fun _ => none) t.gob.bcast z = Tab.get (fun _ => none) s.gob.bcast z) ∧ s.keeps t [] := by
  rw [exec_bcastExpiry h, if_pos hn]
  exact ⟨_, rfl, Tab.get_set_same _ s.gob.bcast y none, fun z hz => Tab.get_set_ne _ s.gob.bcast y z none hz, s.keeps_refl _⟩

theorem bcastExpiry_none {s : State} {y : Nat} {b : Bcast} (h : Tab.get (fun _ => none) s.gob.bcast y = some b)
    (hn : s.tim.edges < b.seen + 720000000000) : exec (.bcastExpiry y) s = .next s :=
  (exec_bcastExpiry h).trans (congrArg _ (if_neg (not_le.2 hn)))

/-- Settles O34. The extent of a bank and what clears it is log entry 75; that an edge without a trigger, and the end of no
fill, do nothing is log entry 60. -/
theorem snapsAndNavigation : Obligations.SnapsAndNavigation := by
  intro s
  refine ⟨snapEdge_takes, snapEdge_none, fun f => snapFillDone_fills, snapFillDone_none,
    fun req v hs hv => ⟨fun hf => bankHold_holds hv hs hf req, fun f hf hb => bankHold_busy hv hs hf hb req⟩,
    fun c u g _ hlo hhi hg hp ht hi hk _ =>
      ⟨navUnitDecoded_stores hlo hhi hg hp ht hi hk, navUnitDecoded_none hlo hhi hg hp ht hi hk⟩,
    fun y b h => ⟨bcastExpiry_drops h, bcastExpiry_none h⟩⟩

end Sys2Proof.Machine
end

section
/-! PROOFS. The ambiguity engine (R256 to R264): what a search finds has the dimension of its problem, a result stays within its
bytes, and a command goes from the queue to a unit and ends with one notice. -/

namespace Sys2Proof.Machine

open Sys2Proof

/-! ### The size of a result (R257, R260, R263) -/

/-- A decomposition that succeeds has a row and a pivot for every row of Q. -/
theorem ldl_lengths {qs l : List (List Nat)} {d : List Nat} {v : Option Nat} {l' : List (List Nat)} {d' : List Nat}
    (h : ldl qs l d = (l', d', v)) (hv : v = none) :
    l'.length = l.length + qs.length ∧ d'.length = d.length + qs.length := by
  induction qs generalizing l d with
  | nil =>
    obtain ⟨rfl, rfl, -⟩ := Prod.mk.injEq .. ▸ h
    exact ⟨rfl, rfl⟩
  | cons q qs ih =>
    unfold ldl at h
    extract_lets row p at h
    split at h
    · have := ih h
      simp only [List.length_append, List.length_cons, List.length_nil] at this ⊢
      omega
    · simp [hv] at h

/-- The problem has a row of Q for every ambiguity selected. -/
theorem posSelect_lengths (b : List Byte) : (posSelect b).2.length = (posSelect b).1.length := by
  simp only [posSelect, List.length_map]

/-- A lattice point has an element for every level of the search. -/
theorem posPoints_length {radius part : Nat} {l : List (List Nat)} {d a y : List Nat} {z w : List Int}
    (hl : l.length = a.length) (hd : d.length = a.length) (hw : w ∈ posPoints radius l d a y part z) :
    w.length = z.length + a.length := by
  induction a generalizing l d y part z with
  | nil =>
    obtain rfl := List.length_eq_zero_iff.1 hl
    simpa [posPoints] using congrArg List.length (List.mem_singleton.1 hw)
  | cons a as ih =>
    obtain ⟨row, l, rfl⟩ := List.exists_cons_of_length_eq_add_one hl
    obtain ⟨e, d, rfl⟩ := List.exists_cons_of_length_eq_add_one hd
    simp only [posPoints, List.mem_flatMap] at hw
    obtain ⟨k, -, hw⟩ := hw
    split at hw
    · have := ih (by simpa using hl) (by simpa using hd) hw
      simp only [List.length_append, List.length_cons, List.length_nil] at this ⊢
      omega
    · simp at hw

theorem mem_candInsert {c x : Nat × List Int} {t : List (Nat × List Int)} (h : x ∈ candInsert c t) : x = c ∨ x ∈ t := by
  induction t with
  | nil => simpa [candInsert] using h
  | cons y ys ih =>
    unfold candInsert at h
    split at h
    · exact .inr h
    split at h
    · simpa using h
    · rcases List.mem_cons.1 h with rfl | h
      · exact .inr List.mem_cons_self
      · exact (ih h).imp id (List.mem_cons_of_mem y)

/-- The candidates gathered from vectors of one length have that length. -/
theorem candInsert_foldl_length {m : Nat} {norm : List Int → Nat} {zs : List (List Int)} (hz : ∀ z ∈ zs, z.length = m)
    {t : List (Nat × List Int)} (ht : ∀ c ∈ t, c.2.length = m) :
    ∀ c ∈ zs.foldl (fun t z => candInsert (norm z, z) t) t, c.2.length = m := by
  induction zs generalizing t with
  | nil => exact ht
  | cons z zs ih =>
    refine ih (fun w hw => hz w (List.mem_cons_of_mem z hw)) fun c hc => ?_
    rcases mem_candInsert hc with rfl | hc
    · exact hz z List.mem_cons_self
    · exact ht c hc

/-- At most k candidates, each an integer vector of dimension m. -/
def candsFit (k m : Nat) (r : List (Nat × List Int)) : Prop := r.length ≤ k ∧ ∀ c ∈ r, c.2.length = m

theorem candsFit_nil (k m : Nat) : candsFit k m [] := ⟨Nat.zero_le k, by simp⟩

/-- Leaving candidates out and cutting the list at k. -/
theorem candsFit_take_filter {m : Nat} {t : List (Nat × List Int)} (ht : ∀ c ∈ t, c.2.length = m) (k : Nat)
    (p : Nat × List Int → Bool) : candsFit k m ((t.filter p).take k) :=
  ⟨List.length_take_le k _, fun c hc => ht c (List.mem_of_mem_filter (List.mem_of_mem_take hc))⟩

theorem posBest_fits {l : List (List Nat)} {d a : List Nat} (hl : l.length = a.length) (hd : d.length = a.length)
    (k chi : Nat) : candsFit k a.length (posBest l d a k chi) :=
  candsFit_take_filter (candInsert_foldl_length (fun z hz => by simpa using posPoints_length hl hd hz) (by simp)) k _

/-- Complete, or stopped by its budget or its deadline, a search finds no more than were asked for. -/
theorem posFind_fits {l : List (List Nat)} {d a : List Nat} (hl : l.length = a.length) (hd : d.length = a.length)
    (q : List Nat) (b : List Byte) (stop : Option Nat) : candsFit (blk b 3 1) a.length (posFind l d a q b stop).1 := by
  unfold posFind
  extract_lets k chi max' need some' cut
  have hcut (n : Nat) : candsFit k a.length (cut (some' n)) :=
    candsFit_take_filter (candInsert_foldl_length (fun z hz => by simpa using List.of_mem_filter hz) (by simp)) k _
  split
  · exact candsFit_nil ..
  split
  · exact candsFit_nil ..
  split
  · exact hcut _
  · split
    · exact hcut _
    · exact posBest_fits hl hd k chi

theorem length_flatMap_leBytes (l : List Int) : (l.flatMap fun z => leBytes 4 (unsigned 32 z)).length = 4 * l.length := by
  simp [List.length_flatMap, leBytes_length, Nat.mul_comm]

theorem length_candBytes (c : Nat × List Int) : (candBytes c).length = candSize c.2.length := by
  simp only [candBytes, List.length_append, leBytes_length, length_flatMap_leBytes, candSize]
  split <;> omega

/-- The candidates of a search stay within the bytes of a result. -/
theorem length_candBytes_le {k m : Nat} {r : List (Nat × List Int)} (h : candsFit k m r) :
    (r.flatMap candBytes).length ≤ k * candSize m := by
  obtain ⟨hk, hm⟩ := h
  have hr : (r.flatMap candBytes).length ≤ r.length * candSize m := by
    rw [List.length_flatMap, ← smul_eq_mul, ← List.length_map (fun c => (candBytes c).length)]
    refine List.sum_le_card_nsmul _ _ fun n hn => ?_
    obtain ⟨c, hc, rfl⟩ := List.mem_map.1 hn
    rw [length_candBytes, hm c hc]
  exact hr.trans (Nat.mul_le_mul_right _ hk)

theorem length_posHead (status u m found flags pivot user nodes start now ratio boot adop : Nat) :
    (posHead status u m found flags pivot user nodes start now ratio boot adop).length = 64 := by
  simp only [posHead, List.length_append, leBytes_length]

/-! ### Results in memory (R23, R34) -/

/-- From s to t bytes from lo up to hi and fields of l may have been written and refused accesses recorded, and nothing else
has changed. -/
structure State.writesOnly (s t : State) (l : List RF) (lo hi : Nat) : Prop where
  only : ∃ m g, t = { s with mem := m, regs := g }
  f : ∀ q : RF, q.offRefusal → (∀ r ∈ l, q.key ≠ r.key) → t.f q = s.f q
  rdB : ∀ k : Nat, (k < lo ∨ hi ≤ k) → t.rdB k = s.rdB k

theorem State.writesOnly_refl (s : State) (l : List RF) (lo hi : Nat) : s.writesOnly s l lo hi :=
  ⟨⟨s.mem, s.regs, rfl⟩, fun _ _ _ => rfl, fun _ _ => rfl⟩

theorem State.writesOnly.trans {s t u : State} {l : List RF} {lo hi : Nat} (h : s.writesOnly t l lo hi)
    (k : t.writesOnly u l lo hi) : s.writesOnly u l lo hi := by
  obtain ⟨⟨m, g, rfl⟩, hf, hb⟩ := h
  obtain ⟨⟨m', g', rfl⟩, kf, kb⟩ := k
  exact ⟨⟨m', g', rfl⟩, fun q hq hl => (kf q hq hl).trans (hf q hq hl), fun a ha => (kb a ha).trans (hb a ha)⟩

theorem State.writesOnly.setF {s t : State} {l : List RF} {lo hi : Nat} (h : s.writesOnly t l lo hi) {r : RF} (hr : r ∈ l)
    (v : Nat) : s.writesOnly (t.setF r v) l lo hi :=
  h.trans ⟨⟨t.mem, _, rfl⟩, fun q _ hl => t.f_setF_ne r q v (hl r hr), fun _ _ => rfl⟩

/-- A write of memory, made or refused, leaves the bytes outside it alone. -/
theorem State.rdB_memWrite (s : State) (req : Nat) {a k : Nat} {bs : List Byte} (hk : k < a ∨ a + bs.length ≤ k) :
    (s.memWrite req a bs).2.rdB k = s.rdB k := by
  unfold State.memWrite
  extract_lets c
  split
  · exact s.rdB_wrBytes_out a k bs hk
  · obtain ⟨hm, -, -⟩ := s.keeps_refuse (ownerOf a) a req true c
    exact State.rdB_congr _ _ k hm

theorem State.writesOnly.memWrite {s t : State} {l : List RF} {lo hi : Nat} (h : s.writesOnly t l lo hi) (req : Nat)
    {a : Nat} {bs : List Byte} (hlo : lo ≤ a) (hhi : a + bs.length ≤ hi) :
    s.writesOnly (t.memWrite req a bs).2 l lo hi := by
  have hb (k : Nat) (hk : k < lo ∨ hi ≤ k) : (t.memWrite req a bs).2.rdB k = t.rdB k := t.rdB_memWrite req (by omega)
  obtain ⟨m, g, he, hf⟩ := t.memWrite_eq req a bs
  rw [he] at hb ⊢
  exact h.trans ⟨⟨m, g, rfl⟩, fun q ⟨_, hq⟩ _ => hf q (hq _), hb⟩

theorem State.memWrite_wrBytes {s : State} {req a : Nat} {bs : List Byte} (h : s.memCheck req a bs.length true = cOK) :
    s.memWrite req a bs = (cOK, s.wrBytes a bs) := by
  simp [State.memWrite, h]

/-- A number among the bytes stored reads back as they hold it. -/
theorem State.rd_wrBytes_fld (s : State) (a : Nat) {bs : List Byte} {o k : Nat} (h : o + k ≤ bs.length) :
    (s.wrBytes a bs).rd (a + o) k = fld bs o k := by
  rw [← State.fld_rdBytes _ h, State.rdBytes_wrBytes]

/-- The check of an access looks at the islands' states, MRAM's failures and the update's state. -/
theorem State.memCheck_congr {s t : State} (hi : ∀ i, t.ist i = s.ist i) (hm : t.memc = s.memc)
    (hu : t.f UPD_STATUS_STATE = s.f UPD_STATUS_STATE) (req a n : Nat) (write : Bool) :
    t.memCheck req a n write = s.memCheck req a n write := by
  have hf : t.mramFailed a = s.mramFailed a := by rw [State.mramFailed, hm, State.mramFailed]
  have ho : t.mramOwned req a n = s.mramOwned req a n := by rw [State.mramOwned, hu, State.mramOwned]
  unfold State.memCheck
  extract_lets own
  rw [hi, hf, ho]

/-! ### The units (R256, R268) -/

theorem State.pos_touch (s : State) (isl : Nat) : (s.touch isl).pos = s.pos := by
  unfold State.touch
  split <;> rfl

/-- What a unit has in service. -/
theorem State.pos_setUnit (s : State) (u : Nat) (a : Option PosAct) :
    (s.setUnit u a).pos = { s.pos with active := Tab.set (fun _ => none) s.pos.active u a } := by
  cases a <;> rfl

theorem State.queue_setUnit (s : State) (u : Nat) (a : Option PosAct) : (s.setUnit u a).pos.queue = s.pos.queue := by
  rw [State.pos_setUnit]

theorem State.posUnit_congr {s t : State} (h : t.pos.active = s.pos.active) (u : Nat) : t.posUnit u = s.posUnit u := by
  rw [State.posUnit, h, State.posUnit]

theorem State.posUnit_setUnit_same (s : State) (u : Nat) (a : Option PosAct) : (s.setUnit u a).posUnit u = a := by
  rw [State.posUnit, State.pos_setUnit, Tab.get_set_same]

theorem State.posUnit_setUnit_ne (s : State) {u v : Nat} (h : v ≠ u) (a : Option PosAct) :
    (s.setUnit u a).posUnit v = s.posUnit v := by
  rw [State.posUnit, State.pos_setUnit, Tab.get_set_ne _ _ _ _ _ h, State.posUnit]

/-- The register that shows a unit. -/
def unitRegs (u : Nat) : List RF := [POS_UNIT_u_ACTIVE u, POS_UNIT_u_CLASS u, POS_UNIT_u_ADDR u]

theorem State.keeps_setUnit (s : State) (u : Nat) (a : Option PosAct) : s.keeps (s.setUnit u a) (unitRegs u) := by
  have h : s.keeps { s with pos := { s.pos with active := Tab.set (fun _ => none) s.pos.active u a } } (unitRegs u) :=
    s.keeps_refl _
  cases a <;>
    exact ((h.setF (by simp [unitRegs]) _).setF (by simp [unitRegs]) _).setF (by simp [unitRegs]) _

theorem State.setUnit_frame (s : State) (u : Nat) (a : Option PosAct) :
    (s.setUnit u a).sent = s.sent ∧ (s.setUnit u a).memc = s.memc := by
  cases a <;> exact ⟨rfl, rfl⟩

theorem State.f_setUnit_active (s : State) (u : Nat) (x : PosAct) : (s.setUnit u (some x)).f (POS_UNIT_u_ACTIVE u) = 1 := by
  unfold State.setUnit
  simp only [Option.isSome_some]
  rw [State.f_setF_ne, State.f_setF_ne, State.f_setF_same]
  · rfl
  all_goals
    simp only [RF.key, POS_UNIT_u_ACTIVE, POS_UNIT_u_CLASS, POS_UNIT_u_ADDR]
    omega

/-- The registers of the two units lie from 0x28 to 0x37 of POS's block. -/
theorem unitRegs_offset {u : Nat} (hu : u < 2) {r : RF} (hr : r ∈ unitRegs u) :
    0x28 ≤ r.key / 64 % 0x10000 ∧ r.key / 64 % 0x10000 < 0x38 := by
  simp only [unitRegs, List.mem_cons, List.not_mem_nil, or_false] at hr
  rcases hr with rfl | rfl | rfl <;> simp only [RF.key, POS_UNIT_u_ACTIVE, POS_UNIT_u_CLASS, POS_UNIT_u_ADDR] <;> omega

theorem ne_unitRegs {u : Nat} (hu : u < 2) {q : RF} (hq : q.key / 64 % 0x10000 < 0x28 ∨ 0x38 ≤ q.key / 64 % 0x10000) :
    ∀ r ∈ unitRegs u, q.key ≠ r.key := fun r hr h => by
  have := unitRegs_offset hu hr
  omega

/-! ### Tokens to POS (R256, R264) -/

section
variable {s : State} {tk : Token} (hs : s.serves iPOS = true) (hst : tk.stamp = none) (ht : tk.task = none)
include hs hst ht

theorem exec_posCommand (hd : tk.dest = ep iPOS 0) : exec (.posCommand tk) s =
    .next ((((s.taken tk).posServe tk).2.touch iPOS).ans ((s.taken tk).posServe tk).1) := by
  have hp : epPort tk.dest = 0 := by rw [hd]; rfl
  have h (z : State) : z.posToken tk = z.posServe tk := by simp only [State.posToken, hp]
  rw [← h]
  exact congrArg Host.Outcome.next (State.arrive_serves hs (by rw [hd]; rfl) hst ht _)

theorem exec_posCancel (hi : epIsl tk.dest = iPOS) : exec (.posCancel tk) s =
    .next ((((s.taken tk).posCancel tk).2.touch iPOS).ans ((s.taken tk).posCancel tk).1) :=
  congrArg Host.Outcome.next (State.arrive_serves hs hi hst ht _)

end

/-- What one served token leaves: fields of l may have changed before the island's own state does. -/
theorem State.keeps.posServed {s u : State} {l : List RF} (h : s.keeps u l) (hl : ISL_PSTATE_STATE iPOS ∈ l) (c : Nat) :
    s.keeps ((u.touch iPOS).ans c) l :=
  (h.trans ((u.keeps_touch iPOS).mono (by simpa using hl))).ans c

theorem State.keeps_setPos (s : State) (x : PosSt) : s.keeps (s.setPos x) [POS_QUEUE_QUEUED] :=
  State.keeps.setF (t := { s with pos := x }) (s.keeps_refl _) List.mem_cons_self _

/-- A command has left the queue. -/
def State.dequeued (s : State) (c : PosCmd) : State := s.setPos { s.pos with queue := s.pos.queue.erase c }

theorem State.mem_dequeued (s : State) (c : PosCmd) : (s.dequeued c).mem = s.mem := rfl

theorem State.now_dequeued (s : State) (c : PosCmd) : (s.dequeued c).now = s.now := rfl

theorem State.keeps_dequeued (s : State) (c : PosCmd) : s.keeps (s.dequeued c) [POS_QUEUE_QUEUED] := s.keeps_setPos _

theorem State.keeps.send {s t : State} {l : List RF} (h : s.keeps t l) (n : Token) : s.keeps (t.send n) l := h

theorem State.keeps_inc (s : State) (r : RF) : s.keeps (s.inc r) [r] :=
  (s.keeps_refl _).setF List.mem_cons_self _

/-- A count of 32 bits shows one more. -/
theorem State.f_inc_same (s : State) {r : RF} (hr : r.len = 32) : (s.inc r).f r = satInc 32 (s.f r) := by
  rw [State.inc, State.f_setF_same, hr, Nat.mod_eq_of_lt (satInc_lt _)]

/-- A command token has joined the queue. -/
def State.posJoined (s : State) (tk : Token) : State :=
  s.setPos { s.pos with
    queue := s.pos.queue ++ [⟨tk.data, bits tk.tag 25 23, s.pos.order⟩], order := s.pos.order + 1 }

theorem State.posServe_joins {s : State} {tk : Token} (hb : posTokenBad tk = false) (hl : s.pos.queue.length < 16) :
    s.posServe tk = (cOK, s.posJoined tk) :=
  (if_neg (ne_true_of_eq_false hb)).trans (if_neg (not_le.2 hl))

theorem State.posServe_refuses {s : State} {tk : Token} (h : posTokenBad tk = true ∨ 16 ≤ s.pos.queue.length) :
    s.posServe tk = (if posTokenBad tk then cRANGE else cBUSY, s.inc POS_STAT_REFUSED_COUNT) := by
  unfold State.posServe
  split
  · rfl
  · next hb => exact if_pos (h.resolve_left hb)

/-- The room of POS's queue shows in its register. -/
theorem State.f_posJoined (s : State) (tk : Token) (hl : s.pos.queue.length < 16) :
    (s.posJoined tk).f POS_QUEUE_QUEUED = s.pos.queue.length + 1 := by
  rw [State.posJoined, State.setPos, State.f_setF_same, List.length_append]
  exact Nat.mod_eq_of_lt (show s.pos.queue.length + 1 < 32 by omega)

section
variable {s : State} {tk : Token} (hs : s.serves iPOS = true) (hst : tk.stamp = none) (ht : tk.task = none)
  (hd : tk.dest = ep iPOS 0)
include hs hst ht hd

theorem posCommand_joins (hb : posTokenBad tk = false) (hl : s.pos.queue.length < 16) :
    ∃ t : State, exec (.posCommand tk) s = .next t ∧ t.answer = cOK ∧
      t.pos = { s.pos with
        queue := s.pos.queue ++ [⟨tk.data, bits tk.tag 25 23, s.pos.order⟩], order := s.pos.order + 1 } ∧
      t.f POS_QUEUE_QUEUED = s.pos.queue.length + 1 ∧ s.keeps t [POS_QUEUE_QUEUED, ISL_PSTATE_STATE iPOS] := by
  have hk : s.keeps ((s.taken tk).posJoined tk) [POS_QUEUE_QUEUED, ISL_PSTATE_STATE iPOS] :=
    ((s.taken tk).keeps_setPos _).mono (by simp)
  rw [exec_posCommand hs hst ht hd, State.posServe_joins (s := s.taken tk) hb hl]
  exact ⟨_, rfl, rfl, State.pos_touch .., (State.f_touch _ _ (by decide)).trans ((s.taken tk).f_posJoined tk hl),
    hk.posServed (by simp) _⟩

theorem posCommand_refuses (h : posTokenBad tk = true ∨ 16 ≤ s.pos.queue.length) :
    ∃ t : State, exec (.posCommand tk) s = .next t ∧ t.answer = (if posTokenBad tk then cRANGE else cBUSY) ∧
      t.pos = s.pos ∧ t.f POS_STAT_REFUSED_COUNT = satInc 32 (s.f POS_STAT_REFUSED_COUNT) ∧
      s.keeps t [POS_STAT_REFUSED_COUNT, ISL_PSTATE_STATE iPOS] := by
  have hk : s.keeps ((s.taken tk).inc POS_STAT_REFUSED_COUNT) [POS_STAT_REFUSED_COUNT, ISL_PSTATE_STATE iPOS] :=
    ((s.taken tk).keeps_inc _).mono (by simp)
  rw [exec_posCommand hs hst ht hd, State.posServe_refuses (s := s.taken tk) h]
  exact ⟨_, rfl, rfl, State.pos_touch .., (State.f_touch _ _ (by decide)).trans ((s.taken tk).f_inc_same rfl),
    hk.posServed (by simp) _⟩

end

/-! ### A command withdrawn (R264) -/

/-- The notice of a command that found nothing (R263). -/
theorem State.posNotice_unfound (s : State) (b : List Byte) (addr status : Nat) : ∃ n : Token,
    s.posNotice b addr status 0 = s.send n ∧ n.data = status * 2 ^ 56 + addr :=
  ⟨_, rfl, by rw [Nat.zero_mul, Nat.add_zero]⟩

/-- A byte is read from memory alone, and so is a block. -/
theorem State.posBlock_congr {s t : State} (h : t.mem = s.mem) (a : Nat) : t.posBlock a = s.posBlock a := by
  simp only [State.posBlock, State.rd, State.rdBytes_congr t s _ _ h]

/-- The check of a block looks at the time alone. -/
theorem State.posCheck_congr {s t : State} (h : t.now = s.now) (b : List Byte) : t.posCheck b = s.posCheck b := by
  rw [State.posCheck, h, State.posCheck]

/-- The address of the result as the block gives it (R257). -/
theorem State.blk_posBlock (s : State) (a : Nat) : blk (s.posBlock a) 32 8 = s.rd (a + 32) 8 :=
  s.fld_rdBytes (by omega) a

/-- The end of a cancelled command counts, writes the header where it may, and sends the notice. -/
theorem State.posCancelled_spec (s : State) (u addr : Nat) (b : List Byte) (start : Option Nat) :
    ∃ y : State, ∃ n : Token, s.posCancelled u addr b start = y.send n ∧ n.data = cCANCELLED * 2 ^ 56 + addr ∧
      y.pos = s.pos ∧ y.sent = s.sent ∧ y.f POS_STAT_CANCELLED_COUNT = satInc 32 (s.f POS_STAT_CANCELLED_COUNT) ∧
      ∀ k : Nat, (k < blk b 32 8 ∨ blk b 32 8 + 64 ≤ k) → y.rdB k = s.rdB k := by
  unfold State.posCancelled
  extract_lets st nodes boot adop s₁ h s₂
  have h₁ : ∃ k, s₁ = State.inc { s with fresh := k } POS_STAT_CANCELLED_COUNT := by
    cases start <;> exact ⟨_, rfl⟩
  have h₂ : s₁.writesOnly s₂ [] (blk b 32 8) (blk b 32 8 + 64) := by
    unfold s₂
    split
    · exact (s₁.writesOnly_refl ..).memWrite _ le_rfl (by rw [length_posHead])
    · exact s₁.writesOnly_refl ..
  clear_value s₁ s₂
  obtain ⟨k, rfl⟩ := h₁
  obtain ⟨⟨m, g, hy⟩, hf, hr⟩ := h₂
  obtain ⟨n, hn, hd⟩ := s₂.posNotice_unfound b addr cCANCELLED
  exact ⟨s₂, n, hn, hd, by rw [hy]; rfl, by rw [hy]; rfl,
    (hf _ (.of_offset (by decide) (by decide)) (by simp)).trans (State.f_inc_same _ rfl), hr⟩

section
variable {s : State} {tk : Token} (hs : s.serves iPOS = true) (hst : tk.stamp = none) (ht : tk.task = none)
  (hi : epIsl tk.dest = iPOS) (hb : posTokenBad tk = false)
include hs hst ht hi hb

theorem posCancel_withdraws {c : PosCmd} (hq : s.pos.queue.find? (fun c => c.addr == tk.data) = some c) :
    ∃ t : State, ∃ n : Token, exec (.posCancel tk) s = .next t ∧ t.answer = cOK ∧
      t.pos = { s.pos with queue := s.pos.queue.erase c } ∧
      t.f POS_STAT_CANCELLED_COUNT = satInc 32 (s.f POS_STAT_CANCELLED_COUNT) ∧ t.sent = s.sent.erase tk ++ [n] ∧
      n.data = cCANCELLED * 2 ^ 56 + tk.data ∧
      ∀ a : Nat, (a < s.rd (tk.data + 32) 8 ∨ s.rd (tk.data + 32) 8 + 64 ≤ a) → t.rdB a = s.rdB a := by
  have he : (s.taken tk).posCancel tk =
      (cOK, ((s.taken tk).dequeued c).posCancelled 0 tk.data ((s.taken tk).posBlock tk.data) none) := by
    have hq' : (s.taken tk).pos.queue.find? (fun c => c.addr == tk.data) = some c := hq
    rw [State.posCancel, if_neg (ne_true_of_eq_false hb), hq']
    rfl
  rw [exec_posCancel hs hst ht hi, he]
  have hw := State.posCancelled_spec ((s.taken tk).dequeued c) 0 tk.data ((s.taken tk).posBlock tk.data) none
  rw [State.blk_posBlock, State.rd_taken] at hw
  obtain ⟨y, n, hy, hn, hp, hse, hc, hr⟩ := hw
  have hm : ((y.send n).touch iPOS).mem = y.mem := State.mem_touch ..
  have hcount : y.f POS_STAT_CANCELLED_COUNT = satInc 32 (s.f POS_STAT_CANCELLED_COUNT) :=
    hc.trans (congrArg (satInc 32) (((s.taken tk).keeps_dequeued c).f_eq (by decide)))
  rw [hy]
  exact ⟨_, n, rfl, rfl, (State.pos_touch ..).trans hp, (State.f_touch _ _ (by decide)).trans hcount,
    (State.sent_touch ..).trans (congrArg (· ++ [n]) hse), hn,
    fun a ha => (State.rdB_congr _ y a hm).trans (hr a ha)⟩

theorem posCancel_notFound (hq : s.pos.queue = []) (h0 : s.posUnit 0 = none) (h1 : s.posUnit 1 = none) :
    ∃ t : State, exec (.posCancel tk) s = .next t ∧ t.answer = cNOT_FOUND ∧ t.pos = s.pos ∧ t.sent = s.sent.erase tk ∧
      s.keeps t [ISL_PSTATE_STATE iPOS] := by
  have he : (s.taken tk).posCancel tk = (cNOT_FOUND, s.taken tk) := by
    have hq' : (s.taken tk).pos.queue = [] := hq
    have h0' : (s.taken tk).posUnit 0 = none := h0
    have h1' : (s.taken tk).posUnit 1 = none := h1
    simp [State.posCancel, hb, hq', h0', h1']
  rw [exec_posCancel hs hst ht hi, he]
  exact ⟨_, rfl, rfl, State.pos_touch .., State.sent_touch .., ((s.taken tk).keeps_touch iPOS).ans _⟩

end

/-! ### A unit takes a command (R256, R258) -/

theorem posCommandStart_none {s : State} (h : s.pos.queue = []) (u : Nat) : exec (.posCommandStart u) s = .next s := by
  refine congrArg Host.Outcome.next ?_
  unfold State.posStart
  rw [h]
  exact ite_self _

section
variable {s : State} {u : Nat} {c : PosCmd} (hu : u < 2)
  (he : s.on (if u = 0 then POS_CTRL_U0_EN else POS_CTRL_U1_EN) = true) (hf : s.posUnit u = none)
  (hn : nextPos s.pos.queue = some c)
include hu he hf hn

/-- An enabled free unit takes the next command, and searches it or notifies the status of its check. -/
theorem exec_posCommandStart : exec (.posCommandStart u) s =
    .next (if s.posCheck (s.posBlock c.addr) = cOK then
        (s.dequeued c).setUnit u (some ⟨c, s.posBlock c.addr, s.now⟩)
      else ((s.dequeued c).inc POS_STAT_REFUSED_COUNT).posNotice
        (s.posBlock c.addr) c.addr (s.posCheck (s.posBlock c.addr)) 0) := by
  refine congrArg Host.Outcome.next ?_
  have hfree : ¬(2 ≤ u ∨ (if u = 0 then s.on POS_CTRL_U0_EN else s.on POS_CTRL_U1_EN) = false ∨
      (s.posUnit u).isSome = true) := by
    rw [← apply_ite s.on, he, hf]
    simpa using hu
  have hd : s.setPos { s.pos with queue := s.pos.queue.erase c } = s.dequeued c := rfl
  have hb : (s.dequeued c).posBlock c.addr = s.posBlock c.addr := State.posBlock_congr (s.mem_dequeued c) _
  have hk (b : List Byte) : (s.dequeued c).posCheck b = s.posCheck b := State.posCheck_congr (s.now_dequeued c) b
  unfold State.posStart
  rw [if_neg hfree, hn]
  simp only [hd, hb, hk, s.now_dequeued]

theorem posCommandStart_searches (hk : s.posCheck (s.posBlock c.addr) = cOK) :
    ∃ t : State, exec (.posCommandStart u) s = .next t ∧ t.posUnit u = some ⟨c, s.posBlock c.addr, s.now⟩ ∧
      t.posUnit (1 - u) = s.posUnit (1 - u) ∧ t.pos.queue = s.pos.queue.erase c ∧ t.f (POS_UNIT_u_ACTIVE u) = 1 ∧
      t.sent = s.sent ∧ t.mem = s.mem := by
  rw [exec_posCommandStart hu he hf hn, if_pos hk]
  obtain ⟨hsent, -⟩ := (s.dequeued c).setUnit_frame u (some ⟨c, s.posBlock c.addr, s.now⟩)
  obtain ⟨hmem, -, -⟩ := (s.dequeued c).keeps_setUnit u (some ⟨c, s.posBlock c.addr, s.now⟩)
  exact ⟨_, rfl, State.posUnit_setUnit_same .., (State.posUnit_setUnit_ne _ (by omega) _).trans (State.posUnit_congr rfl _),
    State.queue_setUnit .., State.f_setUnit_active .., hsent, hmem⟩

theorem posCommandStart_refuses (hk : s.posCheck (s.posBlock c.addr) ≠ cOK) :
    ∃ t : State, ∃ n : Token, exec (.posCommandStart u) s = .next t ∧ t.pos = { s.pos with queue := s.pos.queue.erase c } ∧
      t.sent = s.sent ++ [n] ∧ n.data = s.posCheck (s.posBlock c.addr) * 2 ^ 56 + c.addr ∧
      s.keeps t [POS_QUEUE_QUEUED, POS_STAT_REFUSED_COUNT] := by
  rw [exec_posCommandStart hu he hf hn, if_neg hk]
  have hs : s.keeps ((s.dequeued c).inc POS_STAT_REFUSED_COUNT) [POS_QUEUE_QUEUED, POS_STAT_REFUSED_COUNT] :=
    ((s.keeps_dequeued c).mono (by simp)).trans ((State.keeps_inc _ _).mono (by simp))
  obtain ⟨n, hn', hd⟩ := ((s.dequeued c).inc POS_STAT_REFUSED_COUNT).posNotice_unfound (s.posBlock c.addr) c.addr
    (s.posCheck (s.posBlock c.addr))
  rw [hn']
  exact ⟨_, n, rfl, rfl, rfl, hd, hs.send n⟩

end

/-! ### The end of a search (R259, R261, R263) -/

/-- The counts that the end of a search may raise besides that of the searches done. -/
def posCounts : List RF := [POS_STAT_NODES_COUNT, POS_STAT_BUDGET_COUNT, POS_STAT_DEADLINE_COUNT]

/-- A unit has given up its command, and the search is counted. -/
def State.posFreed (s : State) (u : Nat) : State := (s.setUnit u none).inc POS_STAT_DONE_COUNT

theorem State.posFreed_spec (s : State) {u : Nat} (hu : u < 2) : (s.posFreed u).posUnit u = none ∧
    (s.posFreed u).posUnit (1 - u) = s.posUnit (1 - u) ∧ (s.posFreed u).pos.queue = s.pos.queue ∧
    (s.posFreed u).f POS_STAT_DONE_COUNT = satInc 32 (s.f POS_STAT_DONE_COUNT) ∧ (s.posFreed u).sent = s.sent ∧
    (s.posFreed u).mem = s.mem := by
  obtain ⟨hmem, -, -⟩ := s.keeps_setUnit u none
  obtain ⟨hsent, -⟩ := s.setUnit_frame u none
  have hd : (s.setUnit u none).f POS_STAT_DONE_COUNT = s.f POS_STAT_DONE_COUNT :=
    (s.keeps_setUnit u none).f_eq (ne_unitRegs hu (by decide))
  have hp : (s.posFreed u).pos = (s.setUnit u none).pos := rfl
  have hu' (v : Nat) := State.posUnit_congr (congrArg PosSt.active hp) v
  exact ⟨(hu' u).trans (s.posUnit_setUnit_same u none), (hu' _).trans (s.posUnit_setUnit_ne (by omega) none),
    (congrArg PosSt.queue hp).trans (s.queue_setUnit u none),
    ((s.setUnit u none).f_inc_same rfl).trans (congrArg (satInc 32) hd), hsent, hmem⟩

/-- The check of an access does not look at POS's own registers. -/
theorem State.memCheck_posFreed (s : State) {u : Nat} (hu : u < 2) (req a n : Nat) (write : Bool) :
    (s.posFreed u).memCheck req a n write = s.memCheck req a n write := by
  obtain ⟨-, hmc⟩ := s.setUnit_frame u none
  have hf (q : RF) (hq : q.key / 64 % 0x10000 < 0x28) : (s.posFreed u).f q = s.f q :=
    ((State.keeps_inc _ POS_STAT_DONE_COUNT).f_eq fun r hr h => by
      rw [List.mem_singleton.1 hr] at h
      rw [h] at hq
      exact absurd hq (by decide)).trans ((s.keeps_setUnit u none).f_eq (ne_unitRegs hu (.inl hq)))
  exact State.memCheck_congr (fun i => hf _ (by rw [PSTATE_STATE_offset]; decide)) hmc (hf _ (by decide)) ..

/-- A decomposition that fails writes the header alone. -/
theorem State.posFinish_failed (s : State) (u : Nat) (x : PosAct) (stop : Option Nat) {v : Nat}
    (hv : (ldl (posSelect x.blk).2 [] []).2.2 = some v) :
    s.posFinish u x stop = ((s.posFreed u).memWrite (ep iPOS 0) (blk x.blk 32 8) (posHead cRANGE u
      (posSelect x.blk).1.length 0 4 v (blk x.blk 52 4) 0 x.start (s.posFreed u).now 0 0 0)).2.posNotice x.blk x.cmd.addr
        cRANGE 0 := by
  unfold State.posFinish
  extract_lets b p a q f m res user z
  have hf : f.2.2 = some v := hv
  rw [hf]
  rfl

/-- However a search ends, its result stays within its bytes, and one notice leaves. -/
theorem State.posFinish_spec (s : State) (u : Nat) (x : PosAct) (stop : Option Nat) :
    ∃ y : State, ∃ n : Token, s.posFinish u x stop = y.send n ∧
      (s.posFreed u).writesOnly y posCounts (blk x.blk 32 8)
        (blk x.blk 32 8 + 64 + blk x.blk 3 1 * candSize (posSelect x.blk).1.length) := by
  unfold State.posFinish
  extract_lets b p a q f m res user z r found flags ratio boot adop z₁ z₂ z₃ h
  split
  · exact ⟨_, _, rfl, (z.writesOnly_refl ..).memWrite _ le_rfl (by rw [length_posHead]; exact Nat.le_add_right ..)⟩
  · next hv =>
    obtain ⟨hl, hd⟩ := ldl_lengths (l' := f.1) (d' := f.2.1) rfl hv
    rw [posSelect_lengths, List.length_nil, Nat.zero_add] at hl hd
    have hr := length_candBytes_le (posFind_fits hl hd q b stop)
    have h₁ : z.writesOnly z₁ posCounts res (res + 64 + blk b 3 1 * candSize m) :=
      (z.writesOnly_refl ..).setF (by simp [posCounts]) _
    have h₂ : z.writesOnly z₂ posCounts res (res + 64 + blk b 3 1 * candSize m) := by
      unfold z₂
      split
      · exact h₁.setF (by simp [posCounts]) _
      split
      · exact h₁.setF (by simp [posCounts]) _
      · exact h₁
    have h₃ : z.writesOnly z₃ posCounts res (res + 64 + blk b 3 1 * candSize m) :=
      h₂.memWrite _ (by omega) (Nat.add_le_add_left hr _)
    exact ⟨_, _, rfl, h₃.memWrite _ le_rfl (by rw [length_posHead]; exact Nat.le_add_right ..)⟩

/-- A search has ended on unit u with one notice: the unit is free, the search is counted, and no byte outside the result
and its candidates has changed. -/
structure State.searched (s t : State) (u : Nat) (x : PosAct) : Prop where
  free : t.posUnit u = none
  other : t.posUnit (1 - u) = s.posUnit (1 - u)
  queue : t.pos.queue = s.pos.queue
  done : t.f POS_STAT_DONE_COUNT = satInc 32 (s.f POS_STAT_DONE_COUNT)
  sent : ∃ n : Token, t.sent = s.sent ++ [n]
  rdB : ∀ a : Nat, (a < blk x.blk 32 8 ∨
    blk x.blk 32 8 + 64 + blk x.blk 3 1 * candSize (posSelect x.blk).1.length ≤ a) → t.rdB a = s.rdB a

theorem State.searched_posFinish (s : State) {u : Nat} (hu : u < 2) (x : PosAct) (stop : Option Nat) :
    s.searched (s.posFinish u x stop) u x := by
  obtain ⟨hfree, hother, hqueue, hdone, hsent, hmem⟩ := s.posFreed_spec hu
  obtain ⟨y, n, he, ⟨m, g, hy⟩, hf, hr⟩ := s.posFinish_spec u x stop
  have hd := hf POS_STAT_DONE_COUNT (.of_offset (by decide) (by decide)) (by decide)
  have hpos : y.pos = (s.posFreed u).pos := by rw [hy]
  have hs : y.sent = (s.posFreed u).sent := by rw [hy]
  have hunit (v : Nat) : y.posUnit v = (s.posFreed u).posUnit v := by rw [State.posUnit, hpos, State.posUnit]
  rw [he]
  exact ⟨(hunit u).trans hfree, (hunit (1 - u)).trans hother, (congrArg PosSt.queue hpos).trans hqueue, hd.trans hdone,
    ⟨n, congrArg (· ++ [n]) (hs.trans hsent)⟩, fun a ha => (hr a ha).trans (State.rdB_congr _ _ a hmem)⟩

theorem exec_posSearchDone {s : State} {u : Nat} {x : PosAct} (h : s.posUnit u = some x) :
    exec (.posSearchDone u) s = .next (s.posFinish u x none) := by
  refine congrArg Host.Outcome.next ?_
  rw [h]

theorem exec_posDeadline {s : State} {u : Nat} {x : PosAct} (h : s.posUnit u = some x) :
    exec (.posDeadline u) s = .next (if blk x.blk 8 8 ≠ 0 ∧ blk x.blk 8 8 ≤ s.now then
      (s.free 24).2.posFinish u x (some (s.free 24).1) else s) := by
  refine congrArg Host.Outcome.next ?_
  rw [h]

theorem posEnds_none {s : State} {u : Nat} (h : s.posUnit u = none) :
    exec (.posSearchDone u) s = .next s ∧ exec (.posDeadline u) s = .next s := by
  constructor <;>
  · refine congrArg Host.Outcome.next ?_
    rw [h]

section
variable {s : State} {u : Nat} {x : PosAct} (hu : u < 2) (h : s.posUnit u = some x)
include hu h

theorem posSearchDone_frees : ∃ t : State, ∃ n : Token, exec (.posSearchDone u) s = .next t ∧ t.posUnit u = none ∧
    t.posUnit (1 - u) = s.posUnit (1 - u) ∧ t.pos.queue = s.pos.queue ∧
    t.f POS_STAT_DONE_COUNT = satInc 32 (s.f POS_STAT_DONE_COUNT) ∧ t.sent = s.sent ++ [n] ∧
    ∀ a : Nat, (a < blk x.blk 32 8 ∨ blk x.blk 32 8 + 64 + blk x.blk 3 1 * candSize (posSelect x.blk).1.length ≤ a) →
      t.rdB a = s.rdB a := by
  obtain ⟨hfree, hother, hqueue, hdone, ⟨n, hn⟩, hr⟩ := s.searched_posFinish hu x none
  exact ⟨_, n, exec_posSearchDone h, hfree, hother, hqueue, hdone, hn, hr⟩

theorem posDeadline_frees (h0 : blk x.blk 8 8 ≠ 0) (hnow : blk x.blk 8 8 ≤ s.now) :
    ∃ t : State, ∃ n : Token, exec (.posDeadline u) s = .next t ∧ t.posUnit u = none ∧
      t.posUnit (1 - u) = s.posUnit (1 - u) ∧ t.pos.queue = s.pos.queue ∧
      t.f POS_STAT_DONE_COUNT = satInc 32 (s.f POS_STAT_DONE_COUNT) ∧ t.sent = s.sent ++ [n] ∧
      ∀ a : Nat, (a < blk x.blk 32 8 ∨ blk x.blk 32 8 + 64 + blk x.blk 3 1 * candSize (posSelect x.blk).1.length ≤ a) →
        t.rdB a = s.rdB a := by
  obtain ⟨hfree, hother, hqueue, hdone, ⟨n, hn⟩, hr⟩ := (s.free 24).2.searched_posFinish hu x (some (s.free 24).1)
  exact ⟨_, n, (exec_posDeadline h).trans (congrArg _ (if_pos ⟨h0, hnow⟩)), hfree, hother, hqueue, hdone, hn, hr⟩

/-- A failed decomposition shows in the header that its pivot was not above 0. -/
theorem posSearchDone_fails {v : Nat} (hv : (ldl (posSelect x.blk).2 [] []).2.2 = some v)
    (hm : s.memCheck (ep iPOS 0) (blk x.blk 32 8) 64 true = cOK) :
    ∃ t : State, ∃ n : Token, exec (.posSearchDone u) s = .next t ∧ t.sent = s.sent ++ [n] ∧
      n.data = cRANGE * 2 ^ 56 + x.cmd.addr ∧ t.rd (blk x.blk 32 8) 1 = cRANGE ∧ t.rd (blk x.blk 32 8 + 6) 1 = v % 256 ∧
      ∀ a : Nat, (a < blk x.blk 32 8 ∨ blk x.blk 32 8 + 64 ≤ a) → t.rdB a = s.rdB a := by
  obtain ⟨-, -, -, -, hsent, hmem⟩ := s.posFreed_spec hu
  rw [exec_posSearchDone h, s.posFinish_failed u x none hv]
  generalize hh : posHead cRANGE u (posSelect x.blk).1.length 0 4 v (blk x.blk 52 4) 0 x.start (s.posFreed u).now 0 0 0 = b
  have hl : b.length = 64 := by rw [← hh, length_posHead]
  have h0 : fld b 0 1 = cRANGE := by rw [← hh]; rfl
  have h6 : fld b 6 1 = v % 256 := by
    rw [← hh]
    exact leValue_leBytes 1 v
  rw [State.memWrite_wrBytes (by rw [hl, s.memCheck_posFreed hu, hm])]
  obtain ⟨n, hn, hd⟩ := ((s.posFreed u).wrBytes (blk x.blk 32 8) b).posNotice_unfound x.blk x.cmd.addr cRANGE
  rw [hn]
  have hrd (o : Nat) (ho : o + 1 ≤ 64) :=
    (s.posFreed u).rd_wrBytes_fld (blk x.blk 32 8) (bs := b) (o := o) (k := 1) (by omega)
  refine ⟨_, n, rfl, ?_, hd, (hrd 0 (by omega)).trans h0, (hrd 6 (by omega)).trans h6, fun a ha => ?_⟩
  · rw [State.send, State.wrBytes_eq]
    exact congrArg (· ++ [n]) hsent
  · exact (State.rdB_wrBytes_out _ _ a b (by omega)).trans (State.rdB_congr _ _ a hmem)

end

theorem posDeadline_none {s : State} {u : Nat} {x : PosAct} (h : s.posUnit u = some x)
    (hn : blk x.blk 8 8 = 0 ∨ s.now < blk x.blk 8 8) : exec (.posDeadline u) s = .next s :=
  (exec_posDeadline h).trans (congrArg _ (if_neg (by omega)))

/-- Settles O35. That a free unit without a command, the end of no search, and a deadline that is not due do nothing is log
entry 60. -/
theorem ambiguityEngine : Obligations.AmbiguityEngine := by
  intro s
  refine ⟨fun tk hs hst ht => ⟨posCommand_joins hs hst ht, posCommand_refuses hs hst ht,
      fun c hi hb => posCancel_withdraws hs hst ht hi hb, posCancel_notFound hs hst ht⟩,
    fun u c hu he hf hn => ⟨posCommandStart_searches hu he hf hn, posCommandStart_refuses hu he hf hn⟩,
    fun u h => posCommandStart_none h u,
    fun u x hu h => ⟨posSearchDone_frees hu h, fun v => posSearchDone_fails hu h, posDeadline_frees hu h, posDeadline_none h⟩,
    fun u => posEnds_none⟩

end Sys2Proof.Machine
end

section
/-! PROOFS. The positioning library (R269 to R287): what starts it, the frames of a base epoch, corrections, reports, and the
parts of an epoch that a robot sends. -/

namespace Sys2Proof.Machine

open Sys2Proof

/-! ### Stores of a string of bytes -/

@[simp] theorem State.lib_wrBytes (s : State) (a : Nat) (bs : List Byte) : (s.wrBytes a bs).lib = s.lib := by
  rw [State.wrBytes_eq]

@[simp] theorem State.sent_wrBytes (s : State) (a : Nat) (bs : List Byte) : (s.wrBytes a bs).sent = s.sent := by
  rw [State.wrBytes_eq]

@[simp] theorem State.memc_wrBytes (s : State) (a : Nat) (bs : List Byte) : (s.wrBytes a bs).memc = s.memc := by
  rw [State.wrBytes_eq]

/-- A token that leaves takes nothing from memory. -/
theorem State.rdBytes_send (s : State) (t : Token) (a n : Nat) : (s.send t).rdBytes a n = s.rdBytes a n :=
  State.rdBytes_congr _ _ a n rfl

/-! ### The start of the library (R269, R270) -/

section
variable {s : State} {e a : Nat} (h : s.memCheck (ep (iENG e) 0) a 64 false = cOK) {b : List Byte}
  (hb : b = s.rdBytes a (64 + 8 * s.rd (a + 45) 1))
  (hl : s.memCheck (ep (iENG e) 0) a (64 + 8 * s.rd (a + 45) 1) false = cOK) (ring : Nat) {x y z : Int}
include h hb hl

/-- A record that can be read decides by its values. -/
theorem exec_libraryStart : exec (.libraryStart e a ring x y z) s =
    .next (if libCfgOk b (s.f GOB_PERIOD_MS) x y z = true then
        s.setLib fun _ => { LibSt.reset with cfg := b, modes := fld b 0 1, reports := ring }
      else ((s.free 15).2.setLib fun _ => LibSt.reset).stageRec ⟨0x8000 + (s.free 15).1, s.now, cRANGE, true, []⟩) := by
  refine congrArg Host.Outcome.next ?_
  rw [State.libStart, State.memRead_ok h, State.fld_rdBytes s (by omega), State.memRead_ok hl, ← hb]
  simp only [true_and]

theorem libraryStart_starts (hok : libCfgOk b (s.f GOB_PERIOD_MS) x y z = true) : exec (.libraryStart e a ring x y z) s =
    .next { s with lib := { LibSt.reset with cfg := b, modes := fld b 0 1, reports := ring } } :=
  (exec_libraryStart h hb hl ring).trans (congrArg _ (if_pos hok))

/-- The record of a refusal starts at once where SCB writes nothing else. -/
theorem libraryStart_refused (hok : libCfgOk b (s.f GOB_PERIOD_MS) x y z = false) (h5 : s.ist iSCB ≠ 5) (h0 : s.ist iSCB ≠ 0)
    (hf : s.on SCB_STATUS_LOGFAIL = false) (hw : s.scb.writing = none) (hq : s.scb.first = []) (hr : s.boot.restored = true) :
    ∃ t : State, ∃ r : ScbRec, exec (.libraryStart e a ring x y z) s = .next t ∧ t.lib = LibSt.reset ∧
      t.scb.writing = some r ∧ r.status = cRANGE ∧ r.software = true ∧ s.keeps t [] := by
  have hs (r : ScbRec) : ((s.free 15).2.setLib fun _ => LibSt.reset).stageRec r =
      { (s.free 15).2.setLib fun _ => LibSt.reset with scb := { s.scb with writing := some r } } :=
    (if_neg (not_or.2 ⟨h5, h0⟩)).trans ((if_neg (ne_true_of_eq_false hf)).trans (if_pos ⟨hw, hq, hr⟩))
  rw [exec_libraryStart h hb hl, if_neg (ne_true_of_eq_false hok), hs]
  exact ⟨_, _, rfl, rfl, rfl, rfl, rfl, rfl, rfl, fun _ _ => rfl⟩

end

/-! ### Base epochs (R273, R275) -/

/-- Frames that fit together are all sent. -/
theorem fitFrames_of_le {l : List (List Byte)} {n : Nat} (h : n + l.flatten.length ≤ 4096) : fitFrames n l = l := by
  induction l generalizing n with
  | nil => rfl
  | cons f l ih =>
    rw [List.flatten_cons, List.length_append] at h
    rw [fitFrames, if_pos (by omega), ih (by omega)]

theorem baseEpoch_sends {s : State} {e buf : Nat} {msgs : List (Nat × List Byte)} (h0 : s.lib.mode 0 = true)
    (hne : s.lib.frames msgs ≠ []) (hlen : (s.lib.frames msgs).flatten.length ≤ 4096)
    (hm : s.memCheck (ep (iENG e) 0) buf (s.lib.frames msgs).flatten.length true = cOK) :
    ∃ t : State, exec (.baseEpoch e buf msgs) s = .next t ∧ t.lib = s.lib ∧ t.regs = s.regs ∧ t.eng = s.eng ∧
      t.rdBytes buf (s.lib.frames msgs).flatten.length = (s.lib.frames msgs).flatten ∧
      t.sent = s.sent ++ [⟨bits (s.lib.fld 48 8) 15 0, bits (s.lib.fld 48 8) 47 16,
        buf % 2 ^ 40 + (s.lib.frames msgs).flatten.length * 2 ^ 40, ep (iENG e) 0, none, none⟩] ∧
      ∀ a : Nat, (a < buf ∨ buf + (s.lib.frames msgs).flatten.length ≤ a) → t.rdB a = s.rdB a := by
  have he : s.baseEpoch e buf msgs = (s.wrBytes buf (s.lib.frames msgs).flatten).send ⟨bits (s.lib.fld 48 8) 15 0,
      bits (s.lib.fld 48 8) 47 16, buf % 2 ^ 40 + (s.lib.frames msgs).flatten.length * 2 ^ 40, ep (iENG e) 0, none,
      none⟩ := by
    rw [State.baseEpoch, if_neg (by simp [h0, hne]), fitFrames_of_le (by omega)]
    simp only [lt_irrefl, if_false, State.memWrite_wrBytes hm, State.lib_wrBytes]
  generalize (s.lib.frames msgs).flatten = b at *
  refine ⟨_, congrArg Host.Outcome.next he, s.lib_wrBytes buf b, s.regs_wrBytes buf b, s.eng_wrBytes buf b, ?_, ?_,
    fun a => s.rdB_wrBytes_out buf a b⟩
  · exact (State.rdBytes_send ..).trans (s.rdBytes_wrBytes buf b)
  · exact congrArg (· ++ _) (s.sent_wrBytes buf b)

theorem baseEpoch_none {s : State} (h : s.lib.mode 0 = false) (e buf : Nat) (msgs : List (Nat × List Byte)) :
    exec (.baseEpoch e buf msgs) s = .next s :=
  congrArg Host.Outcome.next (if_pos (.inl h))

/-! ### Corrections (R276) -/

section
variable {s : State} {fr : List Byte}

theorem correctionFrame_none (h : s.lib.mode 1 = false) : exec (.correctionFrame fr) s = .next s :=
  congrArg Host.Outcome.next (if_pos h)

theorem correctionFrame_holds (h : s.lib.mode 1 = true) (hr : rtcmOk fr = true)
    (ha : corrAccepted (beValue ((fr.drop 3).take 2) / 16) = true) :
    exec (.correctionFrame fr) s = .next { s with lib := { s.lib with
      corr := s.lib.corr.filter (fun c => c.1 != beValue ((fr.drop 3).take 2) / 16) ++
        [(beValue ((fr.drop 3).take 2) / 16, s.now, fr)] } } :=
  congrArg Host.Outcome.next ((if_neg (by simp [h])).trans (if_pos ⟨hr, ha⟩))

theorem correctionFrame_discards (h : s.lib.mode 1 = true) (hr : rtcmOk fr = false) :
    exec (.correctionFrame fr) s = .next { s with lib := { s.lib with discarded := s.lib.discarded + 1 } } :=
  congrArg Host.Outcome.next ((if_neg (by simp [h])).trans (if_neg (by simp [hr])))

end

/-! ### Reports (R270, R279, R280) -/

/-- A report has 64 bytes, starts with the Snap's number, and gives a type of at most 1 where no correction is held; only a
free value is taken for it. -/
theorem State.report_spec (s : State) (x : RtkIn) : (s.report x).1.length = 64 ∧ fld (s.report x).1 0 4 = x.num % 2 ^ 32 ∧
    (s.lib.corr.any (fun c => corrMsm c.1) = false → fld (s.report x).1 4 1 = min x.best 1) ∧
    (s.report x).2 = (s.free 288).2 := by
  unfold State.report
  extract_lets l held age limit fresh best heading typ r open' stale vel pos head
  refine ⟨?_, leValue_leBytes 4 x.num, fun h => ?_, rfl⟩
  · have hpos : pos.length = 30 := by simp only [pos, List.length_append, leBytes_length]
    have hhead : head.length = 6 := by simp only [head, List.length_append, leBytes_length]
    have hopen (o n : Nat) : (open' o n).length = n := leBytes_length ..
    clear_value pos head open' age
    simp only [List.length_append, leBytes_length, apply_ite List.length, hpos, hhead, hopen, ite_self]
    cases age <;> simp only [leBytes_length, hopen]
  · have hbest : best = min x.best 1 := by
      have hheld : held = false := h
      simp only [best, fresh, age, hheld, Bool.false_eq_true, if_false]
    have htyp : typ = min x.best 1 := by
      rw [← hbest]
      exact if_pos (by rw [hbest]; omega)
    have hfld : leValue (leBytes 1 typ) = min x.best 1 := by
      rw [leValue_leBytes, htyp]
      omega
    exact hfld

/-- The report of a solution has been written to the next place of the ring. -/
def State.reported (s : State) (e : Nat) (x : RtkIn) : State :=
  ((s.report x).2.memWrite (ep (iENG e) 0) (s.lib.reports + 64 * (s.lib.nextReport % 16)) (s.report x).1).2

/-- Where the place may be written the report stands there and nothing else has changed. -/
theorem State.reported_spec {s : State} {e p : Nat} (hp : p = s.lib.reports + 64 * (s.lib.nextReport % 16))
    (hm : s.memCheck (ep (iENG e) 0) p 64 true = cOK) (x : RtkIn) :
    ((s.reported e x).lib = s.lib ∧ (s.reported e x).sent = s.sent ∧ (s.reported e x).regs = s.regs ∧
      (s.reported e x).eng = s.eng) ∧ (s.reported e x).rd p 4 = x.num % 2 ^ 32 ∧
      (s.lib.corr.any (fun c => corrMsm c.1) = false → (s.reported e x).rd (p + 4) 1 = min x.best 1) ∧
      ∀ a : Nat, (a < p ∨ p + 64 ≤ a) → (s.reported e x).rdB a = s.rdB a := by
  obtain ⟨hlen, hnum, htyp, hfree⟩ := s.report_spec x
  have hchk : (s.report x).2.memCheck (ep (iENG e) 0) p (s.report x).1.length true = cOK := by
    rw [hlen, hfree, ← hm]
    exact State.memCheck_congr (fun _ => rfl) rfl rfl ..
  rw [State.reported, ← hp, State.memWrite_wrBytes hchk, hfree]
  generalize (s.report x).1 = b at *
  exact ⟨⟨State.lib_wrBytes .., State.sent_wrBytes .., State.regs_wrBytes .., State.eng_wrBytes ..⟩,
    (State.rd_wrBytes_fld _ p (o := 0) (by omega)).trans hnum,
    fun hc => (State.rd_wrBytes_fld _ p (by omega)).trans (htyp hc),
    fun a ha => State.rdB_wrBytes_out _ p a b (by omega)⟩

/-- Local RTK reports an epoch that is on the grid, and skips one that is not (R270). -/
theorem exec_rtkSolution {s : State} {x : RtkIn} {b : Nat} (h : s.lib.mode 1 = true) (hb : s.bankOf x.num = some b)
    (e : Nat) : exec (.rtkSolution e x) s = .next (if 1000 < s.gridError b then
        s.setLib fun l => { l with skipped := l.skipped + 1 }
      else ((s.reported e x).setLib fun l => { l with nextReport := l.nextReport + 1 }).send
        ⟨bits ((s.reported e x).lib.fld 56 8) 15 0, bits ((s.reported e x).lib.fld 56 8) 47 16,
          s.lib.reports + 64 * (s.lib.nextReport % 16), ep (iENG e) 0, none, none⟩) := by
  refine congrArg Host.Outcome.next ?_
  unfold State.rtkSolve
  rw [if_neg (by simp [h]), hb]
  rfl

section
variable {s : State} {x : RtkIn} {b : Nat} (h : s.lib.mode 1 = true) (hb : s.bankOf x.num = some b)
include h hb

theorem rtkSolution_skips (hg : 1000 < s.gridError b) (e : Nat) :
    exec (.rtkSolution e x) s = .next { s with lib := { s.lib with skipped := s.lib.skipped + 1 } } :=
  (exec_rtkSolution h hb e).trans (congrArg _ (if_pos hg))

theorem rtkSolution_reports {e p : Nat} (hg : s.gridError b ≤ 1000) (hp : p = s.lib.reports + 64 * (s.lib.nextReport % 16))
    (hm : s.memCheck (ep (iENG e) 0) p 64 true = cOK) :
    ∃ t : State, exec (.rtkSolution e x) s = .next t ∧ t.lib = { s.lib with nextReport := s.lib.nextReport + 1 } ∧
      t.regs = s.regs ∧ t.eng = s.eng ∧ t.rd p 4 = x.num % 2 ^ 32 ∧
      (s.lib.corr.any (fun c => corrMsm c.1) = false → t.rd (p + 4) 1 = min x.best 1) ∧
      t.sent = s.sent ++ [⟨bits (s.lib.fld 56 8) 15 0, bits (s.lib.fld 56 8) 47 16, p, ep (iENG e) 0, none, none⟩] ∧
      ∀ a : Nat, (a < p ∨ p + 64 ≤ a) → t.rdB a = s.rdB a := by
  obtain ⟨⟨hlib, hsent, hregs, heng⟩, hnum, htyp, hout⟩ := State.reported_spec hp hm x
  have he := exec_rtkSolution h hb e
  rw [if_neg (not_lt.2 hg), ← hp, hlib] at he
  generalize s.reported e x = z at *
  have hz (o k : Nat) (n : Token) : ((z.setLib fun l => { l with nextReport := l.nextReport + 1 }).send n).rd o k = z.rd o k :=
    congrArg leValue (State.rdBytes_congr _ _ o k rfl)
  exact ⟨_, he, by rw [← hlib]; rfl, hregs, heng, (hz ..).trans hnum, fun hc => (hz ..).trans (htyp hc),
    congrArg (· ++ _) hsent, fun a ha => (State.rdB_congr _ z a rfl).trans (hout a ha)⟩

end

/-! ### Robots (R284, R285) -/

theorem State.robot_setRobot_same (s : State) (r : Nat) (x : LibRobot) : (s.setRobot r x).robot r = x := Tab.get_set_same ..

theorem State.robot_setRobot_ne (s : State) {r d : Nat} (h : d ≠ r) (x : LibRobot) : (s.setRobot r x).robot d = s.robot d :=
  Tab.get_set_ne _ _ _ _ _ h

theorem State.robot_congr {s t : State} (h : t.lib = s.lib) (r : Nat) : t.robot r = s.robot r := by
  rw [State.robot, h, State.robot]

/-- The item that a solve task serves is of its context's flow and number, and the block that answers it may be written. -/
theorem State.cofItem_spec {s : State} {e c r blk : Nat} {q : JRec} (h : s.cofItem e c r blk = some q) :
    (s.ctx e c).bound = true ∧ s.memCheck (ep (iENG e) c) blk 32 true = cOK ∧ q.flow = (s.ctx e c).flow ∧
      q.seq = (s.ctx e c).seq := by
  unfold State.cofItem at h
  extract_lets x at h
  split at h
  · next hx =>
    obtain ⟨-, -, -, -, -, hb, -, -, hm⟩ := hx
    have hq := List.find?_some h
    simp only [Bool.and_eq_true, beq_iff_eq] at hq
    obtain ⟨⟨-, hf⟩, hs⟩ := hq
    exact ⟨hb, hm, hf, hs⟩
  · simp at h

/-- A position return block has 32 bytes and starts with its epoch; only a free value is taken for it. -/
theorem State.prb_spec (s : State) (ms : Nat) (t : Int) (status : Nat) (part still : Bool) (x : CofIn) :
    (s.prb ms t status part still x).1.length = 32 ∧ fld (s.prb ms t status part still x).1 0 4 = ms % 2 ^ 32 ∧
      (s.prb ms t status part still x).2 = (s.free 176).2 := by
  unfold State.prb
  extract_lets typ r v age body
  have hbody : body.length = 22 := by simp only [body, List.length_append, leBytes_length]
  clear_value body
  refine ⟨?_, leValue_leBytes 4 ms, rfl⟩
  simp only [List.length_append, leBytes_length, apply_ite List.length, hbody, ite_self]

/-- What nothing but the engine's own state changing leaves of the library. -/
theorem State.quiet_lib {s t : State} {e c : Nat} (h : s.quiet t e c) : t.lib = s.lib := by rw [h.1]

/-- The task's item is committed with the outputs given (R55). -/
theorem State.cofCommit_spec {s : State} {e c : Nat} (hb : (s.ctx e c).bound = true) (outs : List Out) :
    ∃ j : CommitJob, (s.cofCommit e c outs).memc.commitJobs = s.memc.commitJobs ++ [j] ∧ j.flow = (s.ctx e c).flow ∧
      j.seq = (s.ctx e c).seq ∧ j.outs = outs ∧ (s.cofCommit e c outs).mem = s.mem ∧
      (s.cofCommit e c outs).lib = s.lib := by
  have hx : (s.setCtx e c { s.ctx e c with outbox := outs }).ctx e c = { s.ctx e c with outbox := outs } :=
    s.ctx_setCtx_same e c _
  have hq := State.quiet_trans _ _ _ e c (s.quiet_setCtx e c { s.ctx e c with outbox := outs })
    (State.quiet_committing _ e c)
  unfold State.cofCommit
  rw [State.commitEnd_bound (by rw [hx]; exact hb), hx]
  dsimp only
  generalize State.now _ = now
  generalize (s.setCtx e c { s.ctx e c with outbox := outs }).committing e c = z at *
  obtain ⟨-, -, hz, -⟩ := State.quiet_outputs hq
  obtain ⟨hjm, -, -, -, hjobs, -⟩ := z.jobTaken_spec (s.ctx e c).inst
    ⟨e, c, (s.ctx e c).inst, (s.ctx e c).flow, (s.ctx e c).seq, outs, false, now⟩
  have hjl : (z.jobTaken (s.ctx e c).inst ⟨e, c, (s.ctx e c).inst, (s.ctx e c).flow, (s.ctx e c).seq, outs, false,
    now⟩).lib = z.lib := rfl
  generalize z.jobTaken _ _ = y at *
  have hp := State.quiet_trans _ _ _ e c (y.quiet_pickNext e c) (State.quiet_engTouch _ e c)
  obtain ⟨-, -, ht, -⟩ := State.quiet_outputs hp
  exact ⟨_, by rw [ht, hjobs, hz], rfl, rfl, rfl,
    (State.quiet_mem _ _ e c hp).trans (hjm.trans (State.quiet_mem _ _ e c hq)),
    (State.quiet_lib hp).trans (hjl.trans (State.quiet_lib hq))⟩

/-- From s to t an epoch of robot r has been solved and answered: a return block that starts with it stands at blk, no other
byte and no other robot has changed, and the item of this flow and number is committed with one output. -/
structure State.cofAnswered (s t : State) (r blk : Nat) (epoch : Nat × Nat) (flow seq : Nat) : Prop where
  robot : (t.robot r).epoch = none ∧ (t.robot r).solved = some epoch ∧ (t.robot r).parts = []
  others : ∀ d : Nat, d ≠ r → t.robot d = s.robot d
  rd : t.rd blk 4 = epoch.2 % 2 ^ 32
  job : ∃ j : CommitJob, t.memc.commitJobs = s.memc.commitJobs ++ [j] ∧ j.flow = flow ∧ j.seq = seq ∧ j.outs.length = 1
  rdB : ∀ a : Nat, (a < blk ∨ blk + 32 ≤ a) → t.rdB a = s.rdB a

/-- The block is written and the item committed with the token that names it as its one output (R287). -/
theorem State.cofReply_spec {s : State} {e c r blk : Nat} {b : List Byte}
    (hm : s.memCheck (ep (iENG e) c) blk b.length true = cOK) (hb : (s.ctx e c).bound = true) :
    ∃ j : CommitJob, (s.cofReply e c r blk b).memc.commitJobs = s.memc.commitJobs ++ [j] ∧ j.flow = (s.ctx e c).flow ∧
      j.seq = (s.ctx e c).seq ∧ j.outs.length = 1 ∧ (s.cofReply e c r blk b).mem = (s.wrBytes blk b).mem ∧
      (s.cofReply e c r blk b).lib = s.lib := by
  unfold State.cofReply
  rw [State.memWrite_wrBytes hm]
  extract_lets z a
  have hc : z.ctx e c = s.ctx e c := s.ctx_wrBytes blk b e c
  have hz : z.memc = s.memc ∧ z.lib = s.lib := ⟨s.memc_wrBytes blk b, s.lib_wrBytes blk b⟩
  obtain ⟨hmemc, hlib⟩ := hz
  obtain ⟨j, hj, hf, hs, ho, hmem, hl⟩ := State.cofCommit_spec (by rw [hc]; exact hb)
    [⟨ep iRAD 0x011, 1, 0, 0x100 + a + (z.ctx e c).cls * 2 ^ 23, blk % 2 ^ 40 + 32 * 2 ^ 40⟩]
  rw [hmemc] at hj
  rw [hc] at hf hs
  exact ⟨j, hj, hf, hs, by rw [ho]; rfl, hmem, hl.trans hlib⟩

/-- An epoch is answered with its block once its robot is done with it. -/
theorem State.cofReply_answers {s : State} {e c r blk : Nat} {b : List Byte} {epoch : Nat × Nat} {y : LibRobot}
    (hlen : b.length = 32) (hms : fld b 0 4 = epoch.2 % 2 ^ 32) (hm : s.memCheck (ep (iENG e) c) blk 32 true = cOK)
    (hb : (s.ctx e c).bound = true) (n : Nat) (hy : y.epoch = none ∧ y.solved = some epoch ∧ y.parts = []) :
    s.cofAnswered (State.cofReply ((s.free n).2.setRobot r y) e c r blk b) r blk epoch (s.ctx e c).flow
      (s.ctx e c).seq := by
  have hchk : ((s.free n).2.setRobot r y).memCheck (ep (iENG e) c) blk b.length true = cOK := by
    rw [hlen, ← hm]
    exact State.memCheck_congr (fun _ => rfl) rfl rfl ..
  obtain ⟨j, hj, hf, hs, ho, hmem, hl⟩ := State.cofReply_spec (r := r) hchk hb
  refine ⟨?_, fun d hd => (State.robot_congr hl d).trans (State.robot_setRobot_ne _ hd _), ?_, ⟨j, hj, hf, hs, ho⟩,
    fun a ha => ?_⟩
  · rwa [State.robot_congr hl, State.robot_setRobot_same]
  · exact (congrArg leValue (State.rdBytes_congr _ _ blk 4 hmem)).trans
      ((State.rd_wrBytes_fld _ blk (o := 0) (by omega)).trans hms)
  · exact (State.rdB_congr _ _ a hmem).trans (State.rdB_wrBytes_out _ blk a b (by omega))

theorem State.cofSolve_answers {s : State} {e c r blk : Nat} {epoch : Nat × Nat} (he : (s.robot r).epoch = some epoch)
    (hm : s.memCheck (ep (iENG e) c) blk 32 true = cOK) (hb : (s.ctx e c).bound = true) (x : CofIn) :
    s.cofAnswered (s.cofSolve e c r blk x) r blk epoch (s.ctx e c).flow (s.ctx e c).seq := by
  unfold State.cofSolve
  extract_lets rb still
  split
  · next hn => exact absurd (he.symm.trans hn) (by simp)
  next epoch' he' =>
  obtain rfl : epoch = epoch' := Option.some.inj (he.symm.trans he')
  extract_lets b
  obtain ⟨hlen, hms, hfree⟩ :
      b.1.length = 32 ∧ fld b.1 0 4 = epoch.2 % 2 ^ 32 ∧ b.2 = (s.free 176).2 := State.prb_spec ..
  clear_value b
  rw [hfree]
  exact State.cofReply_answers hlen hms hm hb 176 ⟨rfl, rfl, rfl⟩

/-! ### Parts of an epoch (R284, R285) -/

theorem cofPart_none {s : State} {e c r blk : Nat} (h : s.cofItem e c r blk = none) (x : CofIn) :
    exec (.cofPart e c r blk x) s = .next s ∧ exec (.cofEpochLimit e c r blk x) s = .next s := by
  constructor <;> refine congrArg Host.Outcome.next ?_
  · rw [State.cofPart, h]
  · rw [State.cofLimit, h]

/-- Robot r with a part of its epoch gathered. -/
def LibRobot.gathered (x : LibRobot) (p : List Byte) : LibRobot := { x with
  epoch := some (cofEpoch p), count := bits (fld p 1 1) 7 4, parts := x.before p ++ [(bits (fld p 1 1) 3 0, p)] }

/-- Whether a further part of the epoch of item q is pending in its flow. -/
def State.furtherPart (s : State) (q : JRec) : Bool :=
  s.recs.any fun z => z.kind == 1 && z.flow == q.flow && z.seq == wrapInc 32 q.seq && cofEpoch z.payload == cofEpoch q.payload

theorem State.furtherPart_false {s : State} {q : JRec} (h : ∀ z ∈ s.recs, z.flow = q.flow → z.seq ≠ wrapInc 32 q.seq) :
    s.furtherPart q = false :=
  List.any_eq_false.2 fun z hz => by
    simp only [Bool.and_eq_true, beq_iff_eq, not_and]
    rintro ⟨⟨-, hf⟩, hs⟩
    exact absurd hs (h z hz hf)

section
variable {s : State} {e c r blk : Nat} {q : JRec} (h : s.cofItem e c r blk = some q)
include h

section
variable (hw : (s.robot r).waits ≠ some q.seq) (hk : s.cofCheck (s.robot r) q.payload = cOK) (x : CofIn)
include hw hk

/-- A good part completes its epoch, which is solved; or it is committed with no output for the sake of the next one, or
waits. -/
theorem State.cofPart_good : s.cofPart e c r blk x =
    if bits (fld q.payload 1 1) 7 4 ≤ ((s.robot r).before q.payload).length + 1 then
      (s.setRobot r ((s.robot r).gathered q.payload)).cofSolve e c r blk x
    else if s.furtherPart q then
      (s.setRobot r { (s.robot r).gathered q.payload with waits := none }).cofCommit e c []
    else s.setRobot r { (s.robot r).gathered q.payload with waits := some q.seq } := by
  unfold State.cofPart
  split
  · next hn => exact absurd (h.symm.trans hn) (by simp)
  next q' hq =>
  obtain rfl : q = q' := Option.some.inj (h.symm.trans hq)
  extract_lets p rb more k b parts count rb'
  have hlen : parts.length = ((s.robot r).before q.payload).length + 1 := List.length_append
  have hw' : ¬rb.waits = some q.seq := hw
  have hk' : ¬k ≠ cOK := not_not.2 hk
  rw [if_neg hw', if_neg hk', hlen]
  rfl

theorem cofPart_waits (hc : bits (fld q.payload 1 1) 7 4 > ((s.robot r).before q.payload).length + 1)
    (hm : ∀ z ∈ s.recs, z.flow = q.flow → z.seq ≠ wrapInc 32 q.seq) :
    exec (.cofPart e c r blk x) s = .next (s.setRobot r { s.robot r with
      epoch := some (cofEpoch q.payload), count := bits (fld q.payload 1 1) 7 4, waits := some q.seq,
      parts := (s.robot r).before q.payload ++ [(bits (fld q.payload 1 1) 3 0, q.payload)] }) := by
  refine congrArg Host.Outcome.next ?_
  rw [State.cofPart_good h hw hk x, if_neg (not_le.2 hc), State.furtherPart_false hm]
  rfl

theorem cofPart_answers (hc : bits (fld q.payload 1 1) 7 4 ≤ ((s.robot r).before q.payload).length + 1) :
    ∃ t : State, ∃ j : CommitJob, exec (.cofPart e c r blk x) s = .next t ∧ (t.robot r).epoch = none ∧
      (t.robot r).solved = some (cofEpoch q.payload) ∧ (t.robot r).parts = [] ∧
      (∀ d : Nat, d ≠ r → t.robot d = s.robot d) ∧ t.rd blk 4 = (cofEpoch q.payload).2 % 2 ^ 32 ∧
      t.memc.commitJobs = s.memc.commitJobs ++ [j] ∧ j.flow = q.flow ∧ j.seq = q.seq ∧ j.outs.length = 1 ∧
      ∀ a : Nat, (a < blk ∨ blk + 32 ≤ a) → t.rdB a = s.rdB a := by
  obtain ⟨hb, hm, hf, hs⟩ := State.cofItem_spec h
  have hm' : (s.setRobot r ((s.robot r).gathered q.payload)).memCheck (ep (iENG e) c) blk 32 true = cOK :=
    (State.memCheck_congr (fun _ => rfl) rfl rfl ..).trans hm
  obtain ⟨⟨hepoch, hsolved, hparts⟩, hothers, hrd, ⟨j, hj, hjf, hjs, hjo⟩, hrdB⟩ :=
    State.cofSolve_answers (congrArg LibRobot.epoch (State.robot_setRobot_same ..)) hm' hb x
  have he : exec (.cofPart e c r blk x) s = .next (s.cofPart e c r blk x) := rfl
  rw [he, State.cofPart_good h hw hk x, if_pos hc]
  exact ⟨_, j, rfl, hepoch, hsolved, hparts, fun d hd => (hothers d hd).trans (State.robot_setRobot_ne _ hd _), hrd, hj,
    hjf.trans hf.symm, hjs.trans hs.symm, hjo, fun a ha => (hrdB a ha).trans (State.rdB_congr _ _ a rfl)⟩

end

/-- At the limit of an epoch what has come of it is solved. -/
theorem State.cofLimit_due {epoch : Nat × Nat} (he : (s.robot r).epoch = some epoch) (hw : (s.robot r).waits = some q.seq)
    (ht : (epochMs epoch + 60) * 1000000 ≤ s.gpsWeekNs) (x : CofIn) :
    s.cofLimit e c r blk x = s.cofSolve e c r blk x := by
  unfold State.cofLimit
  split
  · next hn => exact absurd (h.symm.trans hn) (by simp)
  next q' hq =>
  obtain rfl : q = q' := Option.some.inj (h.symm.trans hq)
  extract_lets rb
  split
  · next hn => exact absurd (he.symm.trans hn) (by simp)
  next epoch' he' =>
  obtain rfl : epoch = epoch' := Option.some.inj (he.symm.trans he')
  exact if_pos ⟨hw, ht⟩

theorem cofEpochLimit_answers {epoch : Nat × Nat} (he : (s.robot r).epoch = some epoch)
    (hw : (s.robot r).waits = some q.seq) (ht : (epochMs epoch + 60) * 1000000 ≤ s.gpsWeekNs) (x : CofIn) :
    ∃ t : State, ∃ j : CommitJob, exec (.cofEpochLimit e c r blk x) s = .next t ∧ (t.robot r).epoch = none ∧
      (t.robot r).solved = some epoch ∧ (t.robot r).parts = [] ∧ t.rd blk 4 = epoch.2 % 2 ^ 32 ∧
      t.memc.commitJobs = s.memc.commitJobs ++ [j] ∧ j.flow = q.flow ∧ j.seq = q.seq ∧ j.outs.length = 1 ∧
      ∀ a : Nat, (a < blk ∨ blk + 32 ≤ a) → t.rdB a = s.rdB a := by
  obtain ⟨hb, hm, hf, hs⟩ := State.cofItem_spec h
  obtain ⟨⟨hepoch, hsolved, hparts⟩, -, hrd, ⟨j, hj, hjf, hjs, hjo⟩, hrdB⟩ := State.cofSolve_answers he hm hb x
  have hx : exec (.cofEpochLimit e c r blk x) s = .next (s.cofLimit e c r blk x) := rfl
  rw [hx, State.cofLimit_due h he hw ht x]
  exact ⟨_, j, rfl, hepoch, hsolved, hparts, hrd, hj, hjf.trans hf.symm, hjs.trans hs.symm, hjo, hrdB⟩

end

/-- Settles O36. That a refused record leaves a software record is log entry 78, that frames fit in their order 79, that one
correction of a number is held 80, how the parts of an epoch wait and gather 54 and 83, and that an epoch of no mode or no
item does nothing 60. -/
theorem positioningLibrary : Obligations.PositioningLibrary := by
  intro s e
  refine ⟨fun a ring x y z b h hb hl => ⟨libraryStart_starts h hb hl ring, libraryStart_refused h hb hl ring⟩,
    fun buf msgs => baseEpoch_sends, fun buf msgs h => baseEpoch_none h e buf msgs,
    fun fr => ⟨correctionFrame_holds, correctionFrame_discards, correctionFrame_none⟩,
    fun x b h hb => ⟨fun hg => rtkSolution_skips h hb hg e, fun p => rtkSolution_reports h hb⟩,
    fun c r blk x => ⟨fun h => cofPart_none h x, fun q h => ⟨fun hw hk => ⟨cofPart_waits h hw hk x, cofPart_answers h hw hk x⟩,
      fun epoch he hw ht => cofEpochLimit_answers h he hw ht x⟩⟩⟩

end Sys2Proof.Machine
end
